-- ==== Sys2Proof/Word.lean ====
section
/-! DEFINITION. The words of the device: bytes, 32-bit registers (R6), 64-bit stamps in TU of 312.5 ps (R4). -/

namespace Sys2Proof

/-- One byte of a packet, reply, record or memory (R5). -/
abbrev Byte := BitVec 8

/-- A register (R6), a slot value (R277) or a binary32 number (R117). -/
abbrev Word := BitVec 32

/-- A station time or stamp: 64-bit count of TU, one TU is 312.5 ps (R4). -/
abbrev Stamp := BitVec 64

end Sys2Proof
end

