-- ==== Sys2Proof/Syntax.lean ====
section
/-! DEFINITION. The commands of the block as syntax: one constructor of Instr per row of spec/opcode_table.json. -/

namespace Sys2Proof

/-- Where a command packet was submitted: a hardware queue (R346), the mailbox (R360), or another chip of the station whose
coordinator forwarded it over Krekai (R280), with that chip’s index and the
port it came in on. -/
inductive Src where
  | queue (q : Nat)
  | mailbox
  | station (chip : Nat) (port : Nat)
  deriving DecidableEq, Repr

/-- A 64-byte command packet (R353), byte 0 first. -/
abbrev Packet := List Byte


/-- A record of a telemetry train as received (R237): the type and the payload P[55:0] of its control block, and its data words. -/
structure TelemRec where
  type : Nat
  payload : Nat
  words : List (BitVec 32)
  deriving DecidableEq, Repr

/-- What an identity exchange says of the other chip (R268): its chip index, station table CRC-32, frame rate, topology, Krekai
protocol version, the largest fibre delay measured to it, ns. -/
structure Ident where
  chip : Nat
  crc : Nat
  rate : Nat
  mode : Nat
  kproto : Nat
  fibre : Nat
  /-- It is the neighbour on the port. -/
  neighbour : Bool
  /-- What its own checks of this chip found: 0 nothing, else the code of the check that failed (R268). -/
  code : Nat
  deriving DecidableEq, Repr

/-- The boundary cells of the digital balls that the chip can drive, for EXTEST and CLAMP (R462): bit n of a number is the cell of ball n, and a bit of
`gpioOe` or `qspiOe` says that the ball is driven. -/
structure Boundary where
  tripOut : Nat
  hbPulse : Nat
  hbEnable : Nat
  cto : Nat
  pulseOut : Nat
  gpio : Nat
  gpioOe : Nat
  qspiCsN : Bool
  qspiSck : Bool
  qspiIo : Nat
  qspiOe : Nat
  deriving DecidableEq, Repr


/-- The commands of the block: one constructor per row of spec/opcode_table.json. A row of an opcode takes the packet and the
place it was submitted from; a row of an event takes the physical observation that makes it happen. -/
inductive Instr where
  /-- RESET_N_RELEASE (R290). Release of RESET_N: the main die starts in BOOT with trip latch 0x2C set and TRIP_OUT driven high. `straps` are the levels of GPIO8–GPIO10 (bit 0 HOSTSEL, bit 1 SLOTB, bit 2 RECOV), `periods` the crystal periods counted while the main die was held, `rails`: VDD and VIO33 are in range (R448). -/
  | resetNRelease (straps : Nat) (periods : Nat) (rails : Bool)
  /-- RESET_N_ASSERT (R382). An accepted low level on RESET_N resets the main die and releases every output within 100 ns. -/
  | resetNAssert
  /-- MAIN_SUPPLY_FAIL (R423). VIO33 or VDD falls below its threshold for 2 µs; the vault clears MAINOK, latches the fail stamp and isolates itself, and the main die is held in reset. `periods`: crystal periods that have passed since the last vault event while the main die is off (R425). -/
  | mainSupplyFail (periods : Nat)
  /-- VAULT_SUPPLY_SWITCH (R423). The vault changes between VIO33 and VBAT without interruption as VIO33 crosses 2.95 V. `toMain`: the vault now runs from VIO33. -/
  | vaultSupplySwitch (toMain : Bool)
  /-- BAND_SEARCH_COMPLETE (R37). The 384-cycle binary band search ends, the band is stored and the PLL enters ACQ. `band` is the band the search chose (R37). -/
  | bandSearchComplete (band : Nat)
  /-- PLL_LOCK (R38). 256 consecutive reference cycles within ±200 ps declare lock and switch the core to the PLL output. `phErr` is the last reference cycle’s phase error in ps. -/
  | pllLock (phErr : Int)
  /-- LOCK_TIMEOUT (R38). No lock within 4,096 cycles after the band search sets LKFAIL_F, increments LKFAIL_CNT and starts a new band search. `run` is the consecutive count reached on the last cycle. -/
  | lockTimeout (phErr : Int) (run : Nat)
  /-- LOSS_OF_LOCK (R41). A phase error beyond ±1,000 ps on 8 consecutive cycles moves the PLL to LOST and the clock to the bypass oscillator. -/
  | lossOfLock (phErr : Int)
  /-- REFERENCE_LOSS (R41). No reference edge for 4 periods sets REFLOSS_F and moves the PLL to LOST, switching to bypass when it was in LOCK. -/
  | referenceLoss
  /-- REFERENCE_RETURN (R44). In LOST, 256 clean reference cycles start a new band search and lock. -/
  | referenceReturn
  /-- OFFSET_MEASUREMENT (R47). A Krekai two-way time exchange measures the offset from station time and applies a slew or a step. `toNeigh`, `fromNeigh`: arrival minus departure of the two messages of the exchange, each by the clock of its own end, in TU (R275). -/
  | offsetMeasurement (port : Nat) (toNeigh : Int) (fromNeigh : Int)
  /-- FRAME_TICK (R52). Station time reaches N × P: frame N begins. `dispatchDone`: the dispatch of the frame before has finished. -/
  | frameTick (dispatchDone : Bool)
  /-- COMPUTE_PHASE_START (R53). SW_END is reached: the compute phase runs the control items, then the sheddable items. `sampleDone`: the sample image transfer has finished; `ctl`: core clocks the control items take; `runs`: core clocks that telemetry aggregation, MPPT steps and harmonic analysis take. -/
  | computePhaseStart (sampleDone : Bool) (ctl : Nat) (runs : List Nat)
  /-- DISPATCH_PHASE_START (R53). CMP_END is reached: sheddable work still running is stopped and dispatch begins. -/
  | dispatchPhaseStart
  /-- CONVERSION_END (R66). A 1 µs conversion completes, its result is written and the converter starts its next slot. `conv` 0–15 is the converter whose slot ends (a spare slice may make it), `code` the raw code, `oor` 0 in range, 1 sampled below −1 code, 2 sampled at or above 1.6 V. -/
  | conversionEnd (conv : Nat) (code : Nat) (oor : Nat)
  /-- CLAMP_SENSE (R81). An input's clamp sense becomes active and the pair's slots are marked SUSPECT. -/
  | clampSense (input : Nat)
  /-- JSOFT_TRIGGER (R75). A write of 1 to a pair's ADC_JSOFT bit triggers an injected conversion. `pairs` is the mask written. -/
  | jsoftTrigger (pairs : Nat)
  /-- BGCAL_STEP_COMPLETE (R77). A background calibration step completes; new trims are applied or rejected and the rotation moves on. `phase` 0: the spare slice has calibrated itself and takes over; 1: the converter it replaces has been calibrated. `z`, `f` are the sums of the 256 codes of the internal zero and reference. -/
  | bgcalStepComplete (slice : Nat) (phase : Nat) (z : Nat) (f : Nat)
  /-- CAL_CH_WRITE (R79). A write of CH to ADC_CALCTL discards both means and abandons a running step. -/
  | calChWrite (ch : Nat)
  /-- CAL_ZERO (R79). STEP 1 starts 256 zero conversions on the input's pair. -/
  | calZero
  /-- CAL_FULL (R79). STEP 2 starts 256 full-scale conversions on the input's pair. -/
  | calFull
  /-- CAL_COMPUTE (R80). STEP 3 computes the gain and offset or reports a failure in RESULT. -/
  | calCompute
  /-- CAL_STEP_COMPLETE (R79). The 256 conversions of a ZERO or FULL step end, the mean is stored and the scan resumes. `codes` are the 256 raw codes in order, the first by converter B if `firstB`; `oor`: one was over-range. -/
  | calStepComplete (codes : List Nat) (firstB : Bool) (oor : Bool)
  /-- COMPARATOR_TRANSITION (R83). A comparator enters TRIPPED or returns to NORMAL and acts on its routes. `v` is the input in 1/16 threshold steps, `tdc` the interpolation of the stamp (R46). -/
  | comparatorTransition (i : Nat) (v : Int) (tdc : Nat)
  /-- COMPARATOR_POWERUP_EVAL (R84). After power-up, once the mode's response time has passed, the comparator first evaluates its input. `v` is the input in 1/16 threshold steps, `tdc` the interpolation of the stamp (R46). -/
  | comparatorPowerupEval (i : Nat) (v : Int) (tdc : Nat)
  /-- COMPARATOR_SETTLE (R85). After a settings change, the hold of the new mode's response time ends and the comparator evaluates. `v` is the input in 1/16 threshold steps, `tdc` the interpolation of the stamp (R46). -/
  | comparatorSettle (i : Nat) (v : Int) (tdc : Nat)
  /-- QUADRATURE_EDGE (R94). A change of the accepted ANG_A and ANG_B levels is decoded as a legal or an illegal transition. `a`, `b` are the levels now accepted on ANG_A and ANG_B (R93). -/
  | quadratureEdge (a : Bool) (b : Bool)
  /-- INDEX_PULSE (R97). An accepted rising edge on ANG_Z resets POS, checks the index error and may validate the reference. -/
  | indexPulse
  /-- FREQ_WINDOW_END (R101). A measurement window of WIN frames ends and fx is reported, with a possible change of method. -/
  | freqWindowEnd
  /-- STANDSTILL_TIMEOUT (R103). No legal edge for STILL ms sets fx to 0, sets STILL_F and makes the reference LOST. -/
  | standstillTimeout
  /-- ANG_REARM (R107). A write of 1 to ANG_CTL.REARM permits an INVALID reference to return to VALID. -/
  | angRearm
  /-- SP_PULSE_EDGE (R132). An accepted rising edge on SP_PULSE is stamped for the pulse frequency. -/
  | spPulseEdge
  /-- SPP_LOSS_TIMEOUT (R133). No rising edge for LOSSDET ms moves the pulse state from TRACK to HOLD and sets PLOSS_F. -/
  | sppLossTimeout
  /-- SPP_HOLD_EXPIRY (R133). THOLD ms in HOLD elapse and the pulse value starts to ramp toward FB. -/
  | sppHoldExpiry
  /-- IV_SWEEP_SCHEDULED (R158). Station time reaches a multiple of SWEEPINT and a scheduled I–V sweep begins or is skipped. -/
  | ivSweepScheduled
  /-- IV_SWEEP_POINT_END (R157). A sweep point's SWDWELL frames end; its value is taken and the reference moves on, or the sweep ends. -/
  | ivSweepPointEnd
  /-- ROTATION_DUE (R167). The frame number reaches a multiple of ROTP and a scheduled standby rotation falls due. -/
  | rotationDue
  /-- CARRIER_PERIOD_BOUNDARY (R174). A group's carrier period begins and a pending slot-table transfer takes effect. -/
  | carrierPeriodBoundary (g : Nat)
  /-- HB_PERIOD_BOUNDARY (R192). A local half-bridge period begins; pending sets, the bootstrap refresh check and the phase apply. `n` is the channel, `tdc` where in the core clock the instant lies, in TU (R46). -/
  | hbPeriodBoundary (n : Nat) (tdc : Nat)
  /-- HB_DUTY_EDGE (R192). Within a period the commanded state of a local channel changes between high side and low side. `n` is the channel, `tdc` where in the core clock the instant lies, in TU (R46). -/
  | hbDutyEdge (n : Nat) (tdc : Nat)
  /-- HB_DEADTIME_END (R191). DT steps after ENABLE falls, ENABLE rises, or the SAFE low level is applied. `n` is the channel, `tdc` where in the core clock the instant lies, in TU (R46). -/
  | hbDeadtimeEnd (n : Nat) (tdc : Nat)
  /-- LOCAL_COMPARE_FIRE (R201). A local channel compare reaches POS and pulses its ADC trigger line. Compare `k` of local channel `n`. -/
  | localCompareFire (n : Nat) (k : Nat)
  /-- GROUP_COMPARE_FIRE (R201). A group compare reaches POS in the carrier period and pulses its ADC trigger line. Compare `j` of group `g`. -/
  | groupCompareFire (g : Nat) (j : Nat)
  /-- GROUP_COMMIT (R195). A write of 1 to a MOD_COMMIT bit copies the channel's shadow set into its pending set. `mask` is the mask of channels written. -/
  | groupCommit (mask : Nat)
  /-- FLTCLR_FCLR (R199). A write of 1 to an FCLR bit clears a channel's fault latch, or is refused with CLRREJ_F. -/
  | fltclrFclr (mask : Nat)
  /-- FLTCLR_XCLR (R180). A write of 1 to an XCLR bit clears a local channel's XCMD latch. -/
  | fltclrXclr (mask : Nat)
  /-- FLT_INPUT (R197). A pulse on a selected FLTk sets the channel fault latch through the asynchronous path. `high`: the level that FLTn now has. -/
  | fltInput (n : Nat) (high : Bool) (tdc : Nat)
  /-- DEBUG_HALT (R200). A JTAG debug halt or a clock stop forces the local channels safe, blocks the cells and enters TRIPPED. `stop`: a clock stop, not a debug halt. -/
  | debugHalt (stop : Bool)
  /-- DEBUG_HALT_END (R410). The halt ends; SNP_READ and LOG_READ are served again and a halted handover falls back. -/
  | debugHaltEnd
  /-- GRID_RECORD (R207). A grid record arriving in the broadcast slots is checked and applied, or ignored. `words` are the 11 slot words of the record (R205) that comes in on `port`; without `ok` a block of it fails its check (R285). -/
  | gridRecord (port : Nat) (ok : Bool) (words : List (BitVec 32))
  /-- GRID_TRIP_DUE (R224). A TRIPS entry's condition has held for its clearing time and raises the grid-protection trip. TRIPS entry `i`. -/
  | gridTripDue (i : Nat)
  /-- ROCOF_HOLD_EXPIRY (R225). ROCOF has stayed above ROCMAX for ROCT ms and a cause-11 trip falls due. -/
  | rocofHoldExpiry
  /-- RT_EXIT_HOLD_EXPIRY (R223). The exit conditions have held for TEXIT ms and the issuer sets RTS 0. -/
  | rtExitHoldExpiry
  /-- ISLCODE_WINDOW_END (R229). A correlation window of W frames ends and Z is computed and judged. -/
  | islcodeWindowEnd
  /-- COLLECT_SEND (R244). TCOLLECT core clocks after the tick the chip sends COLLECT to start the telemetry train. -/
  | collectSend
  /-- TELEM_RECEIVED (R246). A telemetry train arrives and its base, extended and discovery records are checked and consumed. `recs` are the records of the train, in order. -/
  | telemReceived (ring : Nat) (recs : List TelemRec)
  /-- DISC_RETURN (R241). DISC returns at THrW_RX; NFOUND and L_E are recorded and DISC is resent west, or the ring fails. `west`: it returns on the west lane, at THrE_RX; `payload` is the block’s payload P[55:0], `arr` the station time of its arrival. -/
  | discReturn (ring : Nat) (west : Bool) (payload : Nat) (arr : Nat)
  /-- ALARM_RECEIVED (R248). A valid node ALARM raises the cell-report trip, sets ALARM_F and fills THK_ALM. `payload` is the block’s payload P[55:0]. -/
  | alarmReceived (ring : Nat) (payload : Nat)
  /-- LOOP_NOTICE (R253). A LOOP notice arrives and the ring may be declared FOLDED or MULTI, re-planned, or healed. `payload` is the block’s payload P[55:0]. -/
  | loopNotice (ring : Nat) (payload : Nat)
  /-- THK_HEAL (R255). THK_CMD OP 1 requests healing of a folded or multi-broken ring. -/
  | thkHeal (ring : Nat)
  /-- THK_REDISCOVER (R241). THK_CMD OP 2 starts ring discovery on the addressed ring. -/
  | thkRediscover (ring : Nat)
  /-- MULTI_HEAL_END (R256). After the last UNLOOP frame of a MULTI heal, the ring state is set from the LOOP notices present. -/
  | multiHealEnd (ring : Nat)
  /-- PROF_LOAD_TIMEOUT (R202). Ten frames pass without every node acknowledging a profile table, and MOD_PROF_LOAD completes with PART_TIMEOUT. -/
  | profLoadTimeout
  /-- KRK_LINK_DOWN (R263). A Krekai link loses block lock and is down; DOWNS increments and LINKDN_F is set. -/
  | krkLinkDown (port : Nat)
  /-- KRK_LINK_UP (R263). After 1 ms of clean block lock a retrained link is up again. `rdly` is the round delay measured in training, in TU. -/
  | krkLinkUp (port : Nat) (rdly : Nat)
  /-- HEARTBEAT (R269). A heartbeat from a chip arrives and updates its reachability. The heartbeat that comes in on `port` carries its chip, frame, state code and Krekai protocol version (R269); without `ok` its block fails its check. -/
  | heartbeat (port : Nat) (chip : Nat) (frame : Nat) (state : Nat) (kproto : Nat) (ok : Bool)
  /-- VIEW_COMMIT (R271). The second tick after a detected loss commits a new view number and sets PART_F. -/
  | viewCommit
  /-- ORPHAN_GRACE_END (R272). GRACE after entry to ORPHAN, the chip starts ramping its cell power down over 10 ms. -/
  | orphanGraceEnd
  /-- ORPHAN_RAMP_END (R272). At GRACE + 10 ms the orphan sends BLK and BYP and its cells enter BYPASSED. -/
  | orphanRampEnd
  /-- HELD_CONTRIBUTION_EXPIRY (R273). The governing partition's held contribution of a lost chip is ramped out after GRACE and then removed. -/
  | heldContributionExpiry
  /-- SLOT_UPDATE (R278). A broadcast or sum slot value arrives, or arrives late and sets SLOTERR_F. It comes in on `port`: `chip` wrote `value` in its frame `frame`; `stamp` is the arrival stamp of a value that a host wrote there, and `rank` its queue (R16, R278); without `ok` a block of it fails its check. -/
  | slotUpdate (port : Nat) (slot : Nat) (chip : Nat) (frame : Nat) (value : Int) (stamp : Nat) (rank : Nat) (ok : Bool)
  /-- STATION_PACKET (R280). A forwarded station-scoped packet arrives at a target and is executed. A packet for chip `dest` that arrives on `port` from coordinator `origin`, as part of its transaction `txn`, with the bulk data it brings (R405); without `ok` a block of it fails its check (R285). -/
  | stationPacket (port : Nat) (dest : Nat) (origin : Nat) (txn : Nat) (ok : Bool) (p : Packet) (data : List (BitVec 8))
  /-- PREPARE (R281). A target runs the checks of a COHERENT command, reserves resources and answers. PREPARE for chip `dest` of transaction `txn` of coordinator `origin`, for commit frame `commitN`, with its packet and the bulk data it brings; without `ok` a block of it fails its check (R285). -/
  | prepare (port : Nat) (dest : Nat) (origin : Nat) (txn : Nat) (ok : Bool) (p : Packet) (commitN : Nat) (data : List (BitVec 8))
  /-- COHERENT_DECISION (R281). In frame N − 1 the coordinator sends GO if every target is READY, and ABORT otherwise. -/
  | coherentDecision
  /-- GO (R281). A prepared target receives GO and executes the command at tick N. It comes in on `port` for chip `dest`; without `ok` a block of it fails its check (R285). -/
  | go (port : Nat) (dest : Nat) (origin : Nat) (txn : Nat) (ok : Bool)
  /-- ABORT (R281). A prepared target receives ABORT and releases its reservation. It comes in on `port` for chip `dest`; without `ok` a block of it fails its check (R285). -/
  | abort (port : Nat) (dest : Nat) (origin : Nat) (txn : Nat) (ok : Bool)
  /-- PREPARE_EXPIRY (R281). A prepared target that has no GO by tick N releases its reservation and does not execute. -/
  | prepareExpiry
  /-- STATION_REPLY (R282). A target's answer or acknowledgement reaches the coordinator, which replies once all have arrived. The answer or acknowledgement of target `chip` to coordinator `dest`: status, Detail, result bytes 16–31, and the bulk data of a read-out; without `ok` a block of it fails its check (R285). -/
  | stationReply (port : Nat) (dest : Nat) (txn : Nat) (ok : Bool) (chip : Nat) (status : Nat) (detail : Nat) (result : List (BitVec 8)) (bulk : List (BitVec 8))
  /-- STATION_TIMEOUT (R282). TOUT frames pass without every answer and the coordinator completes with PARTIAL or PART_TIMEOUT. -/
  | stationTimeout
  /-- SQUALL_AT_FIRE (R283). The scheduled station time is reached and the station Squall trigger fires at that tick. -/
  | squallAtFire
  /-- TRIP_IN_EDGE (R295). A level held 40 ns on TRIP_INk is accepted, and an accepted high sets loop latch LLk. `level` has been held for 40 ns on TRIP_INk. -/
  | tripInEdge (k : Nat) (level : Bool) (tdc : Nat)
  /-- PRT_LAT_CLEAR (R292). A write of 1 to PRT_LAT bits clears the latches whose sources are inactive and counts refusals. `w` is the word written to PRT_LAT_LO, or with `hi` to PRT_LAT_HI. -/
  | prtLatClear (hi : Bool) (w : BitVec 32)
  /-- LOOP_BLANK_END (R296). LBLANK ends; loop latches clear or set again, channel clears run, and the PRT_TRIP_CLEAR reply is written. -/
  | loopBlankEnd
  /-- LOOP_DISCREPANCY (R297). TRIP_IN0 and TRIP_IN1 differ for more than LDISC and LOOPDIS_F is set. -/
  | loopDiscrepancy
  /-- SAFETY_INPUT_CHANGE (R299). A filtered safety contact takes a new level, leading to RUN, DEMAND or a half state. Contact A of function `i`, or with `b` contact B, has the filtered level `level`. -/
  | safetyInputChange (i : Nat) (b : Bool) (level : Bool)
  /-- SAFETY_EVALUATION (R307). Every 0.5 ms the processor channel evaluates every function and latches those in demand. `ctf` are the levels of CTF0–CTF3, `sreset` that of SRESET. -/
  | safetyEvaluation (ctf : Nat) (sreset : Bool)
  /-- DISCREPANCY_TIMEOUT (R300). A half state lasting beyond DISCi raises a discrepancy fault. -/
  | discrepancyTimeout (i : Nat)
  /-- CONTACTOR_FAULT (R304). CTFk fails to follow within TFBk, or disagrees for 20 ms, and the masking functions latch. -/
  | contactorFault (k : Nat)
  /-- SRESET_RELEASE (R305). The falling edge of a valid SRESET press clears the latches of functions that may be released. `held` is the length of the press in TU; `hedge`: Hedgerow, by its own oscillator, found it valid where the two may differ. -/
  | sresetRelease (held : Nat) (hedge : Bool)
  /-- SRESET_STUCK (R305). SRESET is held high beyond 5 s and SRSTUCK_F is set. -/
  | sresetStuck
  /-- HEDGEROW_HEARTBEAT_LOSS (R306). The processor heartbeat is missing for 5 ms and Hedgerow latches SF0 and SF1. -/
  | hedgerowHeartbeatLoss
  /-- HEDGEROW_OSC_FAULT (R306). Hedgerow's oscillator leaves ±30 % and SF0 and SF1 latch. -/
  | hedgerowOscFault
  /-- SAFETY_DIAGNOSTIC (R310). A periodic safety diagnostic runs and latches functions on a failure. `code` is the diagnostic of R310, `failed` what it finds. -/
  | safetyDiagnostic (code : Nat) (failed : Bool)
  /-- WATCHDOG_EXPIRY (R286). The 1 ms control-plane watchdog expires and raises source 0x2C. -/
  | watchdogExpiry
  /-- OVERTEMP_TRIP (R463). PWR_TJ above 130 °C for 1 ms raises source 0x2C and writes a log record. -/
  | overtempTrip
  /-- METER_SAMPLE (R323). A 16 kS/s output sample yields P and Q and is accumulated, split by direction and no-load band. -/
  | meterSample
  /-- PULSE_EDGE (R329). A scheduled energy pulse edge falls due on PULSE_OUTk, or waits in BACKLOG. -/
  | pulseEdge (k : Nat)
  /-- PULSE_END (R329). PW after its leading edge a pulse output returns low. -/
  | pulseEnd (k : Nat)
  /-- HARMONIC_WINDOW_END (R332). An NC-cycle analysis window ends; a new window starts and an unfinished previous result is discarded. -/
  | harmonicWindowEnd
  /-- FREQ_TIMEOUT (R331). 100 ms without a crossing sets f_m to nominal and FREQINV. -/
  | freqTimeout
  /-- METER_SAVE_DUE (R335). Station time reaches a multiple of SAVEINT and a save of the accumulators is requested. -/
  | meterSaveDue
  /-- SAVE_RETRY (R336). Once per second a deferred metering save is retried with fresh values. -/
  | saveRetry
  /-- LKP_REFRESH (R338). Once per second the last-known-power record in the vault is refreshed. -/
  | lkpRefresh
  /-- SQT_DOORBELL (R348). A write to a queue's SQT doorbell sets the new submission tail, or is ignored and may stop the queue. Queue `q`, value `v`. -/
  | sqtDoorbell (q : Nat) (v : Nat)
  /-- CQH_DOORBELL (R348). A write to CQH releases completion entries and re-arms the queue's interrupt vector. Queue `q`, value `v`. -/
  | cqhDoorbell (q : Nat) (v : Nat)
  /-- ENTRY_FETCH (R349). Once a granule and completion slots are available, the device fetches the next submission entry. -/
  | entryFetch
  /-- HELD_COMMAND_DUE (R357). A held command reaches its execute-at tick and runs steps 4–8. -/
  | heldCommandDue
  /-- DEFERRED_COMMAND_RUN (R358). A deferred command executes at the first tick whose state accepts it. -/
  | deferredCommandRun
  /-- DEFERRAL_TIMEOUT (R358). DEFTO seconds pass without execution and the final reply is STATE_CONFLICT. -/
  | deferralTimeout
  /-- SPI_WRITE_FRAME (R343). At the rising edge of HSPI_CS_N a write frame is checked and applied, or rejected. `frame` is what came on HSPI_MOSI. -/
  | spiWriteFrame (frame : List (BitVec 8))
  /-- SPI_READ_FRAME (R343). A read frame returns the data words and CRC, or zeros with an inverted CRC. `frame` is what came on HSPI_MOSI, `clocked` the number of bytes clocked. -/
  | spiReadFrame (frame : List (BitVec 8)) (clocked : Nat)
  /-- MBX_GO (R360). A write of 1 to GO submits the mailbox packet, or is ignored with MBXERR_F. -/
  | mbxGo
  /-- MBX_STAT_READ (R361). Reading HIF_MBX_STAT latches the result registers RES0–7. -/
  | mbxStatRead
  /-- MBX_ACK (R362). Writing a SEQ to HIF_MBX_ACK releases that result, or sets MBXERR_F. -/
  | mbxAck (seq : Nat)
  /-- AQ_ENABLE (R346). Setting HIF_AQ_CFG.EN creates the admin queue, or is refused with AQERR_F. `cfg` is the word written to HIF_AQ_CFG, apart from its EN bit. -/
  | aqEnable (cfg : BitVec 32)
  /-- AQ_DISABLE (R365). Clearing HIF_AQ_CFG.EN deletes queue 0 as Q_DELETE would. -/
  | aqDisable
  /-- MGT_FRAME_RX (R345). A management frame is accepted and completes the oldest MGT_RECV, or is dropped. The frame’s bytes without its FCS. -/
  | mgtFrameRx (data : List (BitVec 8)) (tdc : Nat)
  /-- PTP_MESSAGE_DUE (R345). The 1 s Sync or Announce interval expires and the PTP master sends the message. `announce`: the Announce interval, else the Sync interval. -/
  | ptpMessageDue (announce : Bool)
  /-- PCIE_LINK_UP (R378). The PCIe link finishes training in hardware. `speed` and `width` as HIF_STAT shows them. -/
  | pcieLinkUp (speed : Nat) (width : Nat)
  /-- POOL_LOW_REARM (R31). Writing 1 to HIF_POOL_LOW.REARM loads SH_LOW with SH_FREE. -/
  | poolLowRearm
  /-- FRM_PEAK_REARM (R64). Writing 1 to FRM_PEAK.REARM sets PEAK to 0. -/
  | frmPeakRearm
  /-- PWR_PEAK_REARM (R438). Writing 1 to PWR_PEAK.REARM sets PEAK to 0. -/
  | pwrPeakRearm
  /-- SNP_REL (R388). A write to SNP_REL releases the named snapshot buffers. -/
  | snpRel (mask : Nat)
  /-- W1C_WRITE (R8). A write of 1 clears a W1C flag unless a setting event falls on the same clock. -/
  | w1cWrite (addr : Nat) (value : BitVec 32)
  /-- RC_READ (R8). A read of an RC field returns its value and clears it without losing a simultaneous event. `width` is the number of bytes asked for. -/
  | rcRead (addr : Nat) (width : Nat)
  /-- LOW_WORD_READ (R11). Reading the low word of a 64-bit pair latches the high word. `width` is the number of bytes asked for. -/
  | lowWordRead (addr : Nat) (width : Nat)
  /-- REGISTER_WRITE (R12). A write to a register without its own row takes effect, or is refused outside CONFIG with HIF_WERR_F. `addr` lies in BAR0 below 0x10000, in BAR2 from 0x10000 on, or is 0x20000 for MSI-X Message Control (log entry 13); `width` is the number of bytes written. -/
  | registerWrite (addr : Nat) (width : Nat) (value : BitVec 32)
  /-- BOOT_IMAGE_CHECK (R378). The boot ROM finishes reading a QSPI slot and checks its hash and signature. -/
  | bootImageCheck
  /-- BOOT_QSPI_TIMEOUT (R378). A QSPI read does not complete within 500 ms and the other candidate is tried. -/
  | bootQspiTimeout
  /-- FIRMWARE_START (R380). Device firmware completes the vault work, sets CMDRDY and enters CONFIG. -/
  | firmwareStart
  /-- IMG_SESSION_TIMEOUT (R404). 600 s without an image opcode aborts the session. -/
  | imgSessionTimeout
  /-- EPOCH_FUSE_DONE (R400). Fuse blowing after a FUSE handover reaches the new epoch and sets EPOCHUP_F. -/
  | epochFuseDone
  /-- TJ_SENSOR_UPDATE (R418). Every 1 ms PWR_TJ is updated from the on-die sensor. `tj` is the sensor’s reading in 1/16 °C. -/
  | tjSensorUpdate (tj : Int)
  /-- KEEPER_LOAD (R425). Once per second of station time the vault loads the time keeper and sets TKVALID. -/
  | keeperLoad
  /-- KEEPER_CRYSTAL_LOSS (R425). No crystal edge for 1 ms clears TKVALID. -/
  | keeperCrystalLoss
  /-- VAULT_TICK (R426). At each VTICK the sampled comparators are powered, sampled and acted on, and deferred bursts retry. VBAT in mV and the sampled comparators’ inputs in µV. `periods`: crystal periods that have passed since the last vault event while the main die is off (R425). -/
  | vaultTick (vbat : Nat) (tamp : Int) (ntc : Int) (teg : Int) (periods : Nat)
  /-- HARVESTER_START (R429). The TEG voltage reaches 20 mV and the boost starts. -/
  | harvesterStart
  /-- HARVESTER_STOP (R429). 1 s below 10 mV stops the boost. -/
  | harvesterStop
  /-- HARVESTER_VOC_SAMPLE (R429). Every 16 s the boost pauses 50 ms, samples Voc and sets its regulation point. `voc` is the open-circuit voltage in 0.1 mV. -/
  | harvesterVocSample (voc : Nat)
  /-- COLD_START_HANDOFF (R428). The vault supply reaches 2.0 V from cold start; the boost takes over and COLD_F is set. `periods`: crystal periods that have passed since the last vault event while the main die is off (R425). -/
  | coldStartHandoff (periods : Nat)
  /-- CELL_CHARGE_CUT (R430). VBAT reaches 4.10 V and charging stops until 4.00 V. -/
  | cellChargeCut
  /-- CELL_DISCHARGE_CUT (R430). VBAT falls to 3.00 V; the cell is disconnected and CUT_F is set. `periods`: crystal periods that have passed since the last vault event while the main die is off (R425). -/
  | cellDischargeCut (periods : Nat)
  /-- CELL_OVERCURRENT (R430). Discharge above 5 mA for 100 µs disconnects the cell and sets OC_F. `periods`: crystal periods that have passed since the last vault event while the main die is off (R425). -/
  | cellOvercurrent (periods : Nat)
  /-- CELL_OC_RELEASE (R430). 1 s after an over-current disconnection the cell is reconnected. `periods`: crystal periods that have passed since the last vault event while the main die is off (R425). -/
  | cellOcRelease (periods : Nat)
  /-- FRAM_WRITE_REQUEST (R434). The energy gate tests the reserve and starts a burst or sequence, or defers it. `vstart` is VBAT at the start of the energy gate’s test and `dv` its fall under the test load, or the vault supply, in µV. -/
  | framWriteRequest (vstart : Nat) (dv : Nat)
  /-- FRAM_BURST_DONE (R434). A FRAM burst completes and the next pending burst may start. `periods`: crystal periods that have passed since the last vault event while the main die is off (R425). -/
  | framBurstDone (periods : Nat)
  /-- NOP (R363). No operation. -/
  | nop (src : Src) (p : Packet)
  /-- IDENTIFY (R363). Returns HIF_ID, HIF_FWVER, the Krekai protocol version and the cell limit. -/
  | identify (src : Src) (p : Packet)
  /-- Q_CREATE (R363). Creates queue 1–63 with its ring sizes, bases, interrupt vector and WIN mode. -/
  | qCreate (src : Src) (p : Packet)
  /-- Q_DELETE (R363). Deletes a queue after executing commands complete, discarding held and deferred ones. -/
  | qDelete (src : Src) (p : Packet)
  /-- STATE_GOTO (R370). Moves the device to a target state after the state, latch and readiness checks. -/
  | stateGoto (src : Src) (p : Packet)
  /-- DEV_RESET (R363). Writes its reply, then resets the main die keeping the PCIe link and the vault. -/
  | devReset (src : Src) (p : Packet)
  /-- MGT_SEND (R363). Sends a management-port frame from host memory and returns its transmit stamp. -/
  | mgtSend (src : Src) (p : Packet)
  /-- MGT_RECV (R363). Posts a buffer for the next received management frame. -/
  | mgtRecv (src : Src) (p : Packet)
  /-- CE_CTX_LOAD (R114). Loads a 384-byte context descriptor after checks and admission. -/
  | ceCtxLoad (src : Src) (p : Packet)
  /-- CE_CTX_ENABLE (R140). Enables or disables a loaded context. -/
  | ceCtxEnable (src : Src) (p : Packet)
  /-- CE_CTX_REMOVE (R140). Removes a context from the schedule. -/
  | ceCtxRemove (src : Src) (p : Packet)
  /-- CE_CTX_READ (R140). Writes a context's descriptor image to host memory. -/
  | ceCtxRead (src : Src) (p : Packet)
  /-- CE_SP_SET (R131). Sets the host set-points of up to 8 contexts. -/
  | ceSpSet (src : Src) (p : Packet)
  /-- CE_PARAM_SET (R139). Changes PAR words of a context from the next tick without touching its states. -/
  | ceParamSet (src : Src) (p : Packet)
  /-- CE_STATE_RESET (R140). Resets a context's states and integrators to 0. -/
  | ceStateReset (src : Src) (p : Packet)
  /-- CE_COST_QUERY (R140). Returns the cost of an image and its shortfall against the schedule. -/
  | ceCostQuery (src : Src) (p : Packet)
  /-- CE_TBL_LOAD (R129). Fills the spare table buffer, which becomes the named table at the next tick. -/
  | ceTblLoad (src : Src) (p : Packet)
  /-- CE_TBL_READ (R140). Writes a compensation table to host memory. -/
  | ceTblRead (src : Src) (p : Packet)
  /-- CE_INJ_START (R134). Starts an injection generator on a context from a generator block. -/
  | ceInjStart (src : Src) (p : Packet)
  /-- CE_INJ_STOP (R136). Stops an injection generator. -/
  | ceInjStop (src : Src) (p : Packet)
  /-- CE_CAP_ARM (R137). Arms a capture of 1–8 channels with its trigger. -/
  | ceCapArm (src : Src) (p : Packet)
  /-- CE_CAP_READ (R138). Writes the capture header and records to host memory. -/
  | ceCapRead (src : Src) (p : Packet)
  /-- CE_CAP_ABORT (R140). Aborts the armed capture. -/
  | ceCapAbort (src : Src) (p : Packet)
  /-- CELL_MAP_LOAD (R144). Loads and checks the 16,448-byte cell map. -/
  | cellMapLoad (src : Src) (p : Packet)
  /-- CELL_MAP_READ (R168). Writes the cell map to host memory. -/
  | cellMapRead (src : Src) (p : Packet)
  /-- CELL_STATUS_READ (R169). Writes the status header and records of the cells in scope. -/
  | cellStatusRead (src : Src) (p : Packet)
  /-- CELL_BYPASS (R164). Fails a cell with cause 7, sending it to BYPASSED. -/
  | cellBypass (src : Src) (p : Packet)
  /-- CELL_RESTORE (R164). Returns a BYPASSED cell to STANDBY. -/
  | cellRestore (src : Src) (p : Packet)
  /-- CELL_IV_SWEEP (R158). Starts a commanded I–V sweep of up to 64 PV cells. -/
  | cellIvSweep (src : Src) (p : Packet)
  /-- CELL_IV_READ (R168). Writes the last commanded sweep result of a cell. -/
  | cellIvRead (src : Src) (p : Packet)
  /-- CELL_VREF_SET (R168). Fixes or releases the voltage reference of PV cells. -/
  | cellVrefSet (src : Src) (p : Packet)
  /-- CELL_SOC_SET (R161). Sets the state of charge of battery cells. -/
  | cellSocSet (src : Src) (p : Packet)
  /-- CELL_ROTATE (R167). Makes a standby rotation due in the next run. -/
  | cellRotate (src : Src) (p : Packet)
  /-- MOD_SLOT_LOAD (R188). Fills the shadow slot table from host memory. -/
  | modSlotLoad (src : Src) (p : Packet)
  /-- MOD_CELL_COMMIT (R188). Schedules the shadow slot table to become active at each group's carrier boundary. -/
  | modCellCommit (src : Src) (p : Packet)
  /-- MOD_PROF_LOAD (R249). Sends a gate-profile table to every node and counts acknowledgements. -/
  | modProfLoad (src : Src) (p : Packet)
  /-- MOD_PROF_READ (R202). Writes the profile table to host memory. -/
  | modProfRead (src : Src) (p : Packet)
  /-- MOD_FLT_CLEAR (R199). Clears the named channels' fault or XCMD latches, refusing those with active inputs. -/
  | modFltClear (src : Src) (p : Packet)
  /-- MOD_EDGE_TEST (R202). Sends one test record to one cell in place of its BLK record for one frame. -/
  | modEdgeTest (src : Src) (p : Packet)
  /-- MOD_BS_READ (R202). Writes the bootstrap model levels of the cells in scope. -/
  | modBsRead (src : Src) (p : Packet)
  /-- MOD_SLOT_READ (R189). Writes the active, shadow or effective slot table to host memory. -/
  | modSlotRead (src : Src) (p : Packet)
  /-- GRID_PROFILE_LOAD (R210). Loads and checks the 320-byte grid profile and returns its CRC. -/
  | gridProfileLoad (src : Src) (p : Packet)
  /-- GRID_PROFILE_READ (R232). Writes the grid profile to host memory. -/
  | gridProfileRead (src : Src) (p : Packet)
  /-- GRID_STATUS_READ (R233). Writes the 96-byte grid status record. -/
  | gridStatusRead (src : Src) (p : Packet)
  /-- GRID_ISL_ARM (R228). Arms or disarms coded islanding injection on the issuer. -/
  | gridIslArm (src : Src) (p : Packet)
  /-- GRID_ZREF_RESET (R232). Disarms the island decision until NREF new windows have entered Z_ref. -/
  | gridZrefReset (src : Src) (p : Packet)
  /-- GRID_TRIP_TEST (R232). Raises the grid-protection or islanding trip source with a given cause. -/
  | gridTripTest (src : Src) (p : Packet)
  /-- STN_TABLE_LOAD (R265). Loads and checks the station table and returns its CRC. -/
  | stnTableLoad (src : Src) (p : Packet)
  /-- STN_TABLE_READ (R284). Writes the station table to host memory. -/
  | stnTableRead (src : Src) (p : Packet)
  /-- STN_JOIN (R268). Enables the ports and runs the join checks with the reachable members. -/
  | stnJoin (src : Src) (p : Packet)
  /-- STN_LEAVE (R284). Stops heartbeats and disables the Krekai ports. -/
  | stnLeave (src : Src) (p : Packet)
  /-- STN_STATUS_READ (R284). Writes the 128-byte station status record. -/
  | stnStatusRead (src : Src) (p : Packet)
  /-- STN_SLOT_SET (R278). Writes values into KIND 4 broadcast slots. -/
  | stnSlotSet (src : Src) (p : Packet)
  /-- STN_RESAREA (R282). Sets the station result area of a queue. -/
  | stnResarea (src : Src) (p : Packet)
  /-- STN_SQUALL_AT (R283). Schedules or cancels a coherent station-wide Squall trigger. -/
  | stnSquallAt (src : Src) (p : Packet)
  /-- PRT_TRIP_CLEAR (R293). Clears inactive latches, optionally the loop latches with blanking and the channel latches. -/
  | prtTripClear (src : Src) (p : Packet)
  /-- PRT_TRIP_FORCE (R286). Raises the host trip source 0x2D. -/
  | prtTripForce (src : Src) (p : Packet)
  /-- PRT_PATH_TEST (R313). Raises source 0x2E, checks the local pins and measures the loop return times. -/
  | prtPathTest (src : Src) (p : Packet)
  /-- SAF_CONFIG_LOAD (R309). Loads and checks the 64-byte safety configuration. -/
  | safConfigLoad (src : Src) (p : Packet)
  /-- SAF_CONFIG_CONFIRM (R308). Confirms the loaded safety configuration by its CRC; Hedgerow latches its copy. -/
  | safConfigConfirm (src : Src) (p : Packet)
  /-- SAF_CONFIG_READ (R313). Writes the pending or confirmed safety configuration to host memory. -/
  | safConfigRead (src : Src) (p : Packet)
  /-- SAF_CTO_SET (R304). Commands contactor outputs, checking each newly energised one. -/
  | safCtoSet (src : Src) (p : Packet)
  /-- SAF_ACCESS (R303). Grants or ends the valve-hall access permit and LOCKCTO. -/
  | safAccess (src : Src) (p : Packet)
  /-- MTR_CFG_LOAD (R317). Loads the metering configuration and writes it, with a save, to FRAM. -/
  | mtrCfgLoad (src : Src) (p : Packet)
  /-- MTR_CFG_READ (R339). Writes the metering configuration to host memory. -/
  | mtrCfgRead (src : Src) (p : Packet)
  /-- MTR_ACC_READ (R339). Writes the live accumulators with their stamp. -/
  | mtrAccRead (src : Src) (p : Packet)
  /-- MTR_INTV_READ (R339). Writes interval records, newest first. -/
  | mtrIntvRead (src : Src) (p : Packet)
  /-- MTR_EVT_READ (R339). Writes meter event records, newest first. -/
  | mtrEvtRead (src : Src) (p : Packet)
  /-- MTR_HARM_READ (R339). Writes the last valid harmonic window result. -/
  | mtrHarmRead (src : Src) (p : Packet)
  /-- MTR_UNSAVED_READ (R338). Writes the UNSAVED record. -/
  | mtrUnsavedRead (src : Src) (p : Packet)
  /-- MTR_SAVE_NOW (R336). Saves the accumulators to FRAM now, or reports the gate's deferral. -/
  | mtrSaveNow (src : Src) (p : Packet)
  /-- MTR_ACC_PRESET (R339). Presets the accumulators and writes them to both save slots. -/
  | mtrAccPreset (src : Src) (p : Packet)
  /-- SNP_TRIGGER (R396). Fires a host Squall trigger at its execution tick. -/
  | snpTrigger (src : Src) (p : Packet)
  /-- SNP_READ (R396). Writes part of a frozen snapshot and optionally releases the buffer. -/
  | snpRead (src : Src) (p : Packet)
  /-- LOG_READ (R396). Writes event log records in ascending sequence. -/
  | logRead (src : Src) (p : Packet)
  /-- IMG_BEGIN (R401). Opens an image session after the header, version and signature checks, erasing QSPI targets. -/
  | imgBegin (src : Src) (p : Packet)
  /-- IMG_BLOCK (R402). Writes body data to the session targets at an offset. -/
  | imgBlock (src : Src) (p : Packet)
  /-- IMG_VERIFY (R403). Hashes the body in every target and marks the session VERIFIED. -/
  | imgVerify (src : Src) (p : Packet)
  /-- IMG_HANDOVER (R407). Hands device firmware over to the standby slot at a frame tick. -/
  | imgHandover (src : Src) (p : Packet)
  /-- IMG_ABORT (R404). Aborts the image session. -/
  | imgAbort (src : Src) (p : Packet)
  /-- IMG_STATUS (R414). Returns the image session status. -/
  | imgStatus (src : Src) (p : Packet)
  /-- PWR_STATUS_READ (R437). Writes the arbiter status record of the last tick. -/
  | pwrStatusRead (src : Src) (p : Packet)
  /-- VLT_STATUS_READ (R437). Writes the vault status record. -/
  | vltStatusRead (src : Src) (p : Packet)
  /-- VLT_FRAM_READ (R437). Writes a range of FRAM bytes to host memory. -/
  | vltFramRead (src : Src) (p : Packet)
  /-- CLAMP_SENSE_RELEASE (R81). An input's clamp sense ends, which opens the 2.0 µs window in which slots of the pair are still marked SUSPECT. -/
  | clampSenseRelease (input : Nat)
  /-- MGT_LINK_UP (R365). The management port link comes up (1000BASE-X auto-negotiation or SGMII) and HIF_MGT_CFG.LINK is set. -/
  | mgtLinkUp
  /-- MGT_LINK_DOWN (R365). The management port link is lost, LINK clears, and frames are then not sent and are counted in TXERR. -/
  | mgtLinkDown
  /-- IDENTITY_EXCHANGE (R268). An identity exchange with a neighbour or a joining chip arrives, and the two chips check each other's table CRC, rate, topology, chip index, neighbour placement and latencies. `peer` is the chip of the exchange (none: the exchanges end without a further chip), `dest` the chip that its identity is for, 512 for all, `last` that every expected exchange has been made; without `ok` a block of it fails its check (R285). -/
  | identityExchange (port : Nat) (dest : Nat) (ok : Bool) (peer : Option Ident) (last : Bool)
  /-- VAULT_POWER_UP (R439). A dark vault receives a supply (VBAT fitted or VIO33 applied) and starts with every vault register at its reset value and every sampled comparator NORMAL. `onMain`: from VIO33, else from the cell. -/
  | vaultPowerUp (onMain : Bool)
  /-- VAULT_DARK (R430). The vault loses every supply, for example when VLTCAP has discharged on a board without a cell: TKVALID is lost and every vault register returns to reset. -/
  | vaultDark
  /-- DISCHARGE_CUT_RELEASE (R430). VBAT reaches 3.20 V while charging and the cut cell is reconnected to the vault load, writing event 2 and retrying deferred bursts. `periods`: crystal periods that have passed since the last vault event while the main die is off (R425). -/
  | dischargeCutRelease (periods : Nat)
  /-- CHARGE_CUT_RELEASE (R430). VBAT falls to 4.00 V after a charge cut and charging may resume. -/
  | chargeCutRelease
  /-- COLD_START_OSCILLATOR (R428). While the vault is dark, the TEG voltage reaches 330 mV (25 mV with the coupled winding) and the cold-start oscillator starts charging the vault supply. -/
  | coldStartOscillator
  /-- JTAG_EXTEST (R462). An EXTEST or CLAMP instruction in the JTAG TAP takes control of the balls in BOOT or CONFIG, never driving HBn_ENABLE, HBn_PULSE or CTOk high. `on`: EXTEST or CLAMP is the instruction, with the boundary cells; else it is neither, as after a low TRST_N (R462). -/
  | jtagExtest (on : Bool) (cells : Boundary)
  deriving DecidableEq, Repr

end Sys2Proof
end

