-- ==== Sys2Proof/WellFormed.lean ====
section
/-! DEFINITION. Which commands are well formed: packets of 64 bytes (R353), sources, and operands within the range of what they number. -/

namespace Sys2Proof

/-- A source is a queue 0–63 (R346), the mailbox, or a chip of the station (R264). -/
def Src.wf : Src → Bool
  | .queue q => decide (q < 64)
  | .mailbox => true
  | .station c p => decide (c < 512) && decide (p < 4)

/-- A packet has 64 bytes (R353). -/
def packetWf (p : Packet) : Bool := p.length == 64

/-- A telemetry record’s control block has an 8-bit type and a payload of 56 bits (R235, R237). -/
def TelemRec.wf (t : TelemRec) : Bool := decide (t.type < 256 ∧ t.payload < 2 ^ 56)

/-- The identity of a chip: index, CRC-32, rate and mode codes, protocol version (R268). -/
def Ident.wf (x : Ident) : Bool := decide (x.chip < 512 ∧ x.crc < 2 ^ 32 ∧ x.rate < 8 ∧ x.mode < 256 ∧ x.kproto < 2 ^ 16 ∧ x.code ≤ 8)

/-- The boundary cells are those of the balls there are (R462). -/
def Boundary.wf (b : Boundary) : Bool :=
  decide (b.tripOut < 4 ∧ b.hbPulse < 4096 ∧ b.hbEnable < 4096 ∧ b.cto < 16 ∧ b.pulseOut < 16 ∧ b.gpio < 65536 ∧ b.gpioOe < 65536 ∧
    b.qspiIo < 16 ∧ b.qspiOe < 16)

/-- The command is well formed. -/
def Instr.wf : Instr → Bool
  | .resetNRelease straps _ _ => decide (straps < 8)
  | .resetNAssert => true
  | .mainSupplyFail _ => true
  | .vaultSupplySwitch _ => true
  | .bandSearchComplete band => decide (band < 256)
  | .pllLock _ => true
  | .lockTimeout _ _ => true
  | .lossOfLock _ => true
  | .referenceLoss => true
  | .referenceReturn => true
  | .offsetMeasurement port _ _ => decide (port < 4)
  | .frameTick _ => true
  | .computePhaseStart _ _ runs => runs.length == 3
  | .dispatchPhaseStart => true
  | .conversionEnd conv code oor => decide (conv < 16) && decide (code < 4096) && decide (oor < 3)
  | .clampSense input => decide (input < 48)
  | .jsoftTrigger pairs => decide (pairs < 256)
  | .bgcalStepComplete slice phase _ _ => decide (slice < 2) && decide (phase < 2)
  | .calChWrite ch => decide (ch < 48)
  | .calZero => true
  | .calFull => true
  | .calCompute => true
  | .calStepComplete _ _ _ => true
  | .comparatorTransition i _ tdc => decide (i < 24) && decide (tdc < 16)
  | .comparatorPowerupEval i _ tdc => decide (i < 24) && decide (tdc < 16)
  | .comparatorSettle i _ tdc => decide (i < 24) && decide (tdc < 16)
  | .quadratureEdge _ _ => true
  | .indexPulse => true
  | .freqWindowEnd => true
  | .standstillTimeout => true
  | .angRearm => true
  | .spPulseEdge => true
  | .sppLossTimeout => true
  | .sppHoldExpiry => true
  | .ivSweepScheduled => true
  | .ivSweepPointEnd => true
  | .rotationDue => true
  | .carrierPeriodBoundary g => decide (g < 6)
  | .hbPeriodBoundary n tdc => decide (n < 12) && decide (tdc < 16)
  | .hbDutyEdge n tdc => decide (n < 12) && decide (tdc < 16)
  | .hbDeadtimeEnd n tdc => decide (n < 12) && decide (tdc < 16)
  | .localCompareFire n k => decide (n < 12) && decide (k < 8)
  | .groupCompareFire g j => decide (g < 6) && decide (j < 8)
  | .groupCommit mask => decide (mask < 4096)
  | .fltclrFclr mask => decide (mask < 4096)
  | .fltclrXclr mask => decide (mask < 4096)
  | .fltInput n _ tdc => decide (n < 4) && decide (tdc < 16)
  | .debugHalt _ => true
  | .debugHaltEnd => true
  | .gridRecord port _ words => decide (port < 4) && words.length == 11
  | .gridTripDue i => decide (i < 8)
  | .rocofHoldExpiry => true
  | .rtExitHoldExpiry => true
  | .islcodeWindowEnd => true
  | .collectSend => true
  | .telemReceived ring recs => decide (ring < 16) && recs.all TelemRec.wf
  | .discReturn ring _ payload _ => decide (ring < 16) && decide (payload < 2 ^ 56)
  | .alarmReceived ring payload => decide (ring < 16) && decide (payload < 2 ^ 56)
  | .loopNotice ring payload => decide (ring < 16) && decide (payload < 2 ^ 56)
  | .thkHeal ring => decide (ring < 16)
  | .thkRediscover ring => decide (ring < 16)
  | .multiHealEnd ring => decide (ring < 16)
  | .profLoadTimeout => true
  | .krkLinkDown port => decide (port < 4)
  | .krkLinkUp port _ => decide (port < 4)
  | .heartbeat port chip frame state kproto _ => decide (port < 4) && decide (chip < 512) && decide (frame < 2 ^ 32) && decide (state < 16) && decide (kproto < 65536)
  | .viewCommit => true
  | .orphanGraceEnd => true
  | .orphanRampEnd => true
  | .heldContributionExpiry => true
  | .slotUpdate port slot chip frame _ _ _ _ => decide (port < 4) && decide (slot < 64) && decide (chip < 512) && decide (frame < 2 ^ 32)
  | .stationPacket port dest origin _ _ p _ => decide (port < 4) && decide (dest < 513) && decide (origin < 512) && packetWf p
  | .prepare port dest origin _ _ p _ _ => decide (port < 4) && decide (dest < 513) && decide (origin < 512) && packetWf p
  | .coherentDecision => true
  | .go port dest origin _ _ => decide (port < 4) && decide (dest < 513) && decide (origin < 512)
  | .abort port dest origin _ _ => decide (port < 4) && decide (dest < 513) && decide (origin < 512)
  | .prepareExpiry => true
  | .stationReply port dest _ _ chip status detail result _ => decide (port < 4) && decide (dest < 513) && decide (chip < 512) && decide (status < 256) && decide (detail < 2 ^ 24) && decide (result.length ≤ 16)
  | .stationTimeout => true
  | .squallAtFire => true
  | .tripInEdge k _ tdc => decide (k < 2) && decide (tdc < 16)
  | .prtLatClear _ _ => true
  | .loopBlankEnd => true
  | .loopDiscrepancy => true
  | .safetyInputChange i _ _ => decide (i < 8)
  | .safetyEvaluation ctf _ => decide (ctf < 16)
  | .discrepancyTimeout i => decide (i < 8)
  | .contactorFault k => decide (k < 4)
  | .sresetRelease _ _ => true
  | .sresetStuck => true
  | .hedgerowHeartbeatLoss => true
  | .hedgerowOscFault => true
  | .safetyDiagnostic code _ => decide (code < 256)
  | .watchdogExpiry => true
  | .overtempTrip => true
  | .meterSample => true
  | .pulseEdge k => decide (k < 4)
  | .pulseEnd k => decide (k < 4)
  | .harmonicWindowEnd => true
  | .freqTimeout => true
  | .meterSaveDue => true
  | .saveRetry => true
  | .lkpRefresh => true
  | .sqtDoorbell q v => decide (q < 64) && decide (v < 4096)
  | .cqhDoorbell q v => decide (q < 64) && decide (v < 4096)
  | .entryFetch => true
  | .heldCommandDue => true
  | .deferredCommandRun => true
  | .deferralTimeout => true
  | .spiWriteFrame _ => true
  | .spiReadFrame _ _ => true
  | .mbxGo => true
  | .mbxStatRead => true
  | .mbxAck seq => decide (seq < 256)
  | .aqEnable _ => true
  | .aqDisable => true
  | .mgtFrameRx data tdc => decide (data.length ≤ 1514) && decide (tdc < 16)
  | .ptpMessageDue _ => true
  | .pcieLinkUp speed width => decide (speed < 4) && decide (width < 4)
  | .poolLowRearm => true
  | .frmPeakRearm => true
  | .pwrPeakRearm => true
  | .snpRel mask => decide (mask < 16)
  | .w1cWrite _ _ => true
  | .rcRead _ width => decide (width < 9)
  | .lowWordRead _ width => decide (width < 9)
  | .registerWrite _ width _ => decide (width < 9)
  | .bootImageCheck => true
  | .bootQspiTimeout => true
  | .firmwareStart => true
  | .imgSessionTimeout => true
  | .epochFuseDone => true
  | .tjSensorUpdate _ => true
  | .keeperLoad => true
  | .keeperCrystalLoss => true
  | .vaultTick _ _ _ _ _ => true
  | .harvesterStart => true
  | .harvesterStop => true
  | .harvesterVocSample _ => true
  | .coldStartHandoff _ => true
  | .cellChargeCut => true
  | .cellDischargeCut _ => true
  | .cellOvercurrent _ => true
  | .cellOcRelease _ => true
  | .framWriteRequest _ _ => true
  | .framBurstDone _ => true
  | .nop src p => src.wf && packetWf p
  | .identify src p => src.wf && packetWf p
  | .qCreate src p => src.wf && packetWf p
  | .qDelete src p => src.wf && packetWf p
  | .stateGoto src p => src.wf && packetWf p
  | .devReset src p => src.wf && packetWf p
  | .mgtSend src p => src.wf && packetWf p
  | .mgtRecv src p => src.wf && packetWf p
  | .ceCtxLoad src p => src.wf && packetWf p
  | .ceCtxEnable src p => src.wf && packetWf p
  | .ceCtxRemove src p => src.wf && packetWf p
  | .ceCtxRead src p => src.wf && packetWf p
  | .ceSpSet src p => src.wf && packetWf p
  | .ceParamSet src p => src.wf && packetWf p
  | .ceStateReset src p => src.wf && packetWf p
  | .ceCostQuery src p => src.wf && packetWf p
  | .ceTblLoad src p => src.wf && packetWf p
  | .ceTblRead src p => src.wf && packetWf p
  | .ceInjStart src p => src.wf && packetWf p
  | .ceInjStop src p => src.wf && packetWf p
  | .ceCapArm src p => src.wf && packetWf p
  | .ceCapRead src p => src.wf && packetWf p
  | .ceCapAbort src p => src.wf && packetWf p
  | .cellMapLoad src p => src.wf && packetWf p
  | .cellMapRead src p => src.wf && packetWf p
  | .cellStatusRead src p => src.wf && packetWf p
  | .cellBypass src p => src.wf && packetWf p
  | .cellRestore src p => src.wf && packetWf p
  | .cellIvSweep src p => src.wf && packetWf p
  | .cellIvRead src p => src.wf && packetWf p
  | .cellVrefSet src p => src.wf && packetWf p
  | .cellSocSet src p => src.wf && packetWf p
  | .cellRotate src p => src.wf && packetWf p
  | .modSlotLoad src p => src.wf && packetWf p
  | .modCellCommit src p => src.wf && packetWf p
  | .modProfLoad src p => src.wf && packetWf p
  | .modProfRead src p => src.wf && packetWf p
  | .modFltClear src p => src.wf && packetWf p
  | .modEdgeTest src p => src.wf && packetWf p
  | .modBsRead src p => src.wf && packetWf p
  | .modSlotRead src p => src.wf && packetWf p
  | .gridProfileLoad src p => src.wf && packetWf p
  | .gridProfileRead src p => src.wf && packetWf p
  | .gridStatusRead src p => src.wf && packetWf p
  | .gridIslArm src p => src.wf && packetWf p
  | .gridZrefReset src p => src.wf && packetWf p
  | .gridTripTest src p => src.wf && packetWf p
  | .stnTableLoad src p => src.wf && packetWf p
  | .stnTableRead src p => src.wf && packetWf p
  | .stnJoin src p => src.wf && packetWf p
  | .stnLeave src p => src.wf && packetWf p
  | .stnStatusRead src p => src.wf && packetWf p
  | .stnSlotSet src p => src.wf && packetWf p
  | .stnResarea src p => src.wf && packetWf p
  | .stnSquallAt src p => src.wf && packetWf p
  | .prtTripClear src p => src.wf && packetWf p
  | .prtTripForce src p => src.wf && packetWf p
  | .prtPathTest src p => src.wf && packetWf p
  | .safConfigLoad src p => src.wf && packetWf p
  | .safConfigConfirm src p => src.wf && packetWf p
  | .safConfigRead src p => src.wf && packetWf p
  | .safCtoSet src p => src.wf && packetWf p
  | .safAccess src p => src.wf && packetWf p
  | .mtrCfgLoad src p => src.wf && packetWf p
  | .mtrCfgRead src p => src.wf && packetWf p
  | .mtrAccRead src p => src.wf && packetWf p
  | .mtrIntvRead src p => src.wf && packetWf p
  | .mtrEvtRead src p => src.wf && packetWf p
  | .mtrHarmRead src p => src.wf && packetWf p
  | .mtrUnsavedRead src p => src.wf && packetWf p
  | .mtrSaveNow src p => src.wf && packetWf p
  | .mtrAccPreset src p => src.wf && packetWf p
  | .snpTrigger src p => src.wf && packetWf p
  | .snpRead src p => src.wf && packetWf p
  | .logRead src p => src.wf && packetWf p
  | .imgBegin src p => src.wf && packetWf p
  | .imgBlock src p => src.wf && packetWf p
  | .imgVerify src p => src.wf && packetWf p
  | .imgHandover src p => src.wf && packetWf p
  | .imgAbort src p => src.wf && packetWf p
  | .imgStatus src p => src.wf && packetWf p
  | .pwrStatusRead src p => src.wf && packetWf p
  | .vltStatusRead src p => src.wf && packetWf p
  | .vltFramRead src p => src.wf && packetWf p
  | .clampSenseRelease input => decide (input < 48)
  | .mgtLinkUp => true
  | .mgtLinkDown => true
  | .identityExchange port dest _ peer _ => decide (port < 4) && decide (dest < 513) && (peer.map Ident.wf).getD true
  | .vaultPowerUp _ => true
  | .vaultDark => true
  | .dischargeCutRelease _ => true
  | .chargeCutRelease => true
  | .coldStartOscillator => true
  | .jtagExtest _ cells => cells.wf

end Sys2Proof
end

