-- ==== Sys2Proof/Decode.lean ====
section
/-! DEFINITION. Commands as words of the opcode table. The table gives no row any bits: commands reach the block as register accesses, link
traffic, pins and packets, never as instruction words, so no word spells a command. -/

namespace Sys2Proof

/-- The command that a word of `nbits` bits spells: none, since no row of the table has bits. -/
def decodeTableWord (_nbits _w : Nat) : Option Instr := none

end Sys2Proof
end

