-- ==== Sys2Proof/Machine/Bits.lean ====
section
/-! DEFINITION. Bit fields, little-endian byte strings (R5) and the sparse lists that hold registers and memories. -/

namespace Sys2Proof.Machine

/-! ### Bit fields of a 32-bit word -/

/-- The value of bits [hi:lo] of a word. -/
def bits (w : Word) (hi lo : Nat) : Nat := (w.toNat / 2 ^ lo) % 2 ^ (hi + 1 - lo)

/-- Bit `n` of a word. -/
def bit (w : Word) (n : Nat) : Bool := bits w n n == 1

/-- The mask of bits [hi:lo]. -/
def maskOf (hi lo : Nat) : Word := BitVec.ofNat 32 ((2 ^ (hi + 1 - lo) - 1) * 2 ^ lo)

/-- A word with bits [hi:lo] replaced by `v` (its low bits). -/
def setBits (w : Word) (hi lo v : Nat) : Word :=
  (w &&& ~~~ maskOf hi lo) ||| (BitVec.ofNat 32 (v % 2 ^ (hi + 1 - lo) * 2 ^ lo))

/-- A Bool as the bit 0 or 1. -/
def b2n (b : Bool) : Nat := if b then 1 else 0

/-- Counting up with a hold at `max` ("holds at 0xFFFF" and the like). -/
def satAdd (max v inc : Nat) : Nat := min max (v + inc)

/-- The signed value of the low `n` bits of `v`. -/
def signed (n v : Nat) : Int :=
  let m := v % 2 ^ n
  if m < 2 ^ (n - 1) then (m : Int) else (m : Int) - (2 ^ n : Nat)

/-- An integer as `n` bits, two's complement. -/
def toBits (n : Nat) (i : Int) : Nat := (i % (2 ^ n : Nat)).toNat

/-- Ceiling division. -/
def cdiv (a b : Nat) : Nat := (a + b - 1) / b

/-- A value limited to [lo, hi]. -/
def clampNat (lo hi v : Nat) : Nat := max lo (min hi v)

/-- Rounding a/b to the nearest integer, ties to even (b > 0). -/
def rneDiv (a : Int) (b : Nat) : Int :=
  let q := a / (b : Int)
  let r := a - q * b
  if 2 * r < b then q
  else if 2 * r > b then q + 1
  else if q % 2 = 0 then q else q + 1

/-! ### Byte strings, little-endian (R5) -/

/-- The byte at index `i`; 0 beyond the end. -/
def byteAt (l : List Byte) (i : Nat) : Nat := (l.getD i 0).toNat

/-- The value of `n` bytes from index `i`, byte `i` least significant (R5). -/
def leAt (l : List Byte) (i : Nat) : Nat → Nat
  | 0 => 0
  | n + 1 => byteAt l i + 256 * leAt l (i + 1) n

/-- The `n` bytes of `v`, least significant first (R5). -/
def toLe (v : Nat) : Nat → List Byte
  | 0 => []
  | n + 1 => BitVec.ofNat 8 v :: toLe (v / 256) n

/-- `n` bytes of zero. -/
def zeros (n : Nat) : List Byte := List.replicate n 0

/-- The bytes of a word (R5). -/
def wordBytes (w : Word) : List Byte := toLe w.toNat 4

/-- The word at byte `i`. -/
def wordAt (l : List Byte) (i : Nat) : Word := BitVec.ofNat 32 (leAt l i 4)

/-- `l` with its bytes from `i` on replaced by `d` (bytes beyond the end are dropped). -/
def patch (l : List Byte) (i : Nat) (d : List Byte) : List Byte :=
  (l.take i ++ d ++ l.drop (i + d.length)).take l.length

/-- Every byte of the slice `[i, i + n)` is zero. -/
def zeroSlice (l : List Byte) (i n : Nat) : Bool := ((l.drop i).take n).all (· == 0)

/-- `f 0 … f (n - 1)`. -/
def tabulate {α : Type} (n : Nat) (f : Nat → α) : List α := (List.range n).map f

/-- The element at index `i` of a list replaced; unchanged when `i` is beyond the end. -/
def listSet {α : Type} (l : List α) (i : Nat) (v : α) : List α := l.set i v

/-! ### Sparse lists: sorted by address, no entry equal to what an unlisted address reads as -/

/-- The value at key `k`: that of the first entry of `k`, else the default. -/
def sget {α : Type} (d : Nat → α) : List (Nat × α) → Nat → α
  | [], k => d k
  | (a, v) :: t, k => if a = k then v else sget d t k

/-- The list with an entry put in ascending order. -/
def sinsert {α : Type} (k : Nat) (v : α) : List (Nat × α) → List (Nat × α)
  | [] => [(k, v)]
  | (a, w) :: t => if k < a then (k, v) :: (a, w) :: t else (a, w) :: sinsert k v t

/-- The list without the entries of key `k`. -/
def sremove {α : Type} (l : List (Nat × α)) (k : Nat) : List (Nat × α) := l.filter (fun p => p.1 != k)

/-- Writing `v` at key `k`; writing the default removes the entry, so equal contents are equal lists. -/
def sset {α : Type} [DecidableEq α] (d : Nat → α) (l : List (Nat × α)) (k : Nat) (v : α) : List (Nat × α) :=
  if v = d k then sremove l k else sinsert k v (sremove l k)

/-- The canonical form: keys strictly rising, no entry equal to its default. -/
def swf {α : Type} [DecidableEq α] (d : Nat → α) : List (Nat × α) → Bool
  | [] => true
  | [(a, v)] => v != d a
  | (a, v) :: (b, w) :: t => v != d a && decide (a < b) && swf d ((b, w) :: t)

/-- Reading `n` bytes from address `a`. -/
def readBytes (m : List (Nat × Byte)) (a : Nat) : Nat → List Byte
  | 0 => []
  | n + 1 => sget (fun _ => 0) m a :: readBytes m (a + 1) n

/-- Writing bytes from address `a` on. -/
def writeBytes (m : List (Nat × Byte)) (a : Nat) : List Byte → List (Nat × Byte)
  | [] => m
  | b :: t => writeBytes (sset (fun _ => 0) m a b) (a + 1) t

end Sys2Proof.Machine
end

