-- ==== Sys2Proof/Machine/Sha256.lean ====
section
/-! DEFINITION. SHA-256, the image hash of the firmware header (R398, R401). -/

namespace Sys2Proof.Machine

/-- The 64 round constants. -/
def shaK : List Word := [
  0x428a2f98#32, 0x71374491#32, 0xb5c0fbcf#32, 0xe9b5dba5#32, 0x3956c25b#32, 0x59f111f1#32, 0x923f82a4#32, 0xab1c5ed5#32,
  0xd807aa98#32, 0x12835b01#32, 0x243185be#32, 0x550c7dc3#32, 0x72be5d74#32, 0x80deb1fe#32, 0x9bdc06a7#32, 0xc19bf174#32,
  0xe49b69c1#32, 0xefbe4786#32, 0x0fc19dc6#32, 0x240ca1cc#32, 0x2de92c6f#32, 0x4a7484aa#32, 0x5cb0a9dc#32, 0x76f988da#32,
  0x983e5152#32, 0xa831c66d#32, 0xb00327c8#32, 0xbf597fc7#32, 0xc6e00bf3#32, 0xd5a79147#32, 0x06ca6351#32, 0x14292967#32] ++ [
  0x27b70a85#32, 0x2e1b2138#32, 0x4d2c6dfc#32, 0x53380d13#32, 0x650a7354#32, 0x766a0abb#32, 0x81c2c92e#32, 0x92722c85#32,
  0xa2bfe8a1#32, 0xa81a664b#32, 0xc24b8b70#32, 0xc76c51a3#32, 0xd192e819#32, 0xd6990624#32, 0xf40e3585#32, 0x106aa070#32,
  0x19a4c116#32, 0x1e376c08#32, 0x2748774c#32, 0x34b0bcb5#32, 0x391c0cb3#32, 0x4ed8aa4a#32, 0x5b9cca4f#32, 0x682e6ff3#32,
  0x748f82ee#32, 0x78a5636f#32, 0x84c87814#32, 0x8cc70208#32, 0x90befffa#32, 0xa4506ceb#32, 0xbef9a3f7#32, 0xc67178f2#32]

/-- The initial chaining value. -/
def shaH0 : List Word := [
  0x6a09e667#32, 0xbb67ae85#32, 0x3c6ef372#32, 0xa54ff53a#32, 0x510e527f#32, 0x9b05688c#32, 0x1f83d9ab#32, 0x5be0cd19#32]

/-- Rotation to the right. -/
def rotr (x : Word) (n : Nat) : Word := x.rotateRight n

/-- The word at an index, 0 beyond the end. -/
def wordGet (l : List Word) (i : Nat) : Word := l.getD i 0#32

/-- The message schedule, newest word first: `n` further words. -/
def shaSchedule : Nat → List Word → List Word
  | 0, w => w
  | n + 1, w =>
    let w15 := wordGet w 14
    let w2 := wordGet w 1
    let s0 := rotr w15 7 ^^^ rotr w15 18 ^^^ (w15 >>> 3)
    let s1 := rotr w2 17 ^^^ rotr w2 19 ^^^ (w2 >>> 10)
    shaSchedule n ((wordGet w 15 + s0 + wordGet w 6 + s1) :: w)

/-- The sixteen big-endian words of a 64-byte block. -/
def beWords : List Byte → List Word
  | a :: b :: c :: d :: t => BitVec.ofNat 32 (((a.toNat * 256 + b.toNat) * 256 + c.toNat) * 256 + d.toNat) :: beWords t
  | _ => []

/-- One round on the working variables a … h. -/
def shaRound (v : List Word) (kw : Word × Word) : List Word :=
  let a := wordGet v 0
  let b := wordGet v 1
  let c := wordGet v 2
  let e := wordGet v 4
  let f := wordGet v 5
  let g := wordGet v 6
  let s1 := rotr e 6 ^^^ rotr e 11 ^^^ rotr e 25
  let ch := (e &&& f) ^^^ (~~~ e &&& g)
  let t1 := wordGet v 7 + s1 + ch + kw.1 + kw.2
  let s0 := rotr a 2 ^^^ rotr a 13 ^^^ rotr a 22
  let maj := (a &&& b) ^^^ (a &&& c) ^^^ (b &&& c)
  [t1 + s0 + maj, a, b, c, wordGet v 3 + t1, e, f, g]

/-- One block into the chaining value. -/
def shaBlock (h : List Word) (blk : List Byte) : List Word :=
  let w := (shaSchedule 48 (beWords blk).reverse).reverse
  let v := (shaK.zip w).foldl shaRound h
  (h.zip v).map (fun p => p.1 + p.2)

/-- All whole blocks, with fuel. -/
def shaBlocks : Nat → List Word → List Byte → List Word
  | 0, h, _ => h
  | n + 1, h, l => if l.length < 64 then h else shaBlocks n (shaBlock h (l.take 64)) (l.drop 64)

/-- A number as `n` bytes, most significant first. -/
def toBe (v n : Nat) : List Byte := (toLe v n).reverse

/-- SHA-256 of a byte string. -/
def sha256 (l : List Byte) : List Byte :=
  let padded := l ++ 0x80#8 :: zeros ((119 - l.length % 64) % 64) ++ toBe (8 * l.length) 8
  (shaBlocks (padded.length / 64) shaH0 padded).foldr (fun w acc => toBe w.toNat 4 ++ acc) []

end Sys2Proof.Machine
end

