-- ==== Sys2Proof/Config.lean ====
section
/-! DEFINITION. What the spec leaves open: free values (no body, nothing can evaluate them) and facts of one implementation. -/

namespace Sys2Proof.Config

/-- Free value: the sine Cirrus computes (R125, R134, R173, R213). The spec gives no algorithm and no accuracy
(DESIGN CHOICE, log entry 10). The operand is an angle in radians, binary32. -/
opaque fpSin : Word → Word

/-- Free value: the cosine Cirrus computes (log entry 10). -/
opaque fpCos : Word → Word

/-- Free value: atan2(y, x) of R159 and the angles of R205 (log entry 10). -/
opaque fpAtan2 : Word → Word → Word

/-- Free value: the exponential of the filter coefficient a of R213 (log entry 10). -/
opaque fpExp : Word → Word

/-- Free value: the typical cost of telemetry aggregation for a number of cells, and what its worst case adds to it, core clocks
(R55; the spec gives no cost rule for this item, log entry 24). -/
opaque aggCost : Nat → Nat × Nat

/-- Free value: the outcome of the ECDSA P-256 check of an image header (R398) against the key in the boot ROM, which
the spec does not give (DESIGN CHOICE, log entry 11). The operand is the 256-byte header. -/
opaque imageSignatureOk : List Byte → Bool

/-- Free value: a result the spec states no value for; the state's counter `freeUsed` picks a fresh one at each use
(log entry 12). -/
opaque freeWord : Nat → Word

/-- Free values: Nimbus’s fractional-delay interpolation by a number of TU in its 80 kS/s stage (R319), its 255-tap and 1,023-tap filters
(R320, R323) and its low-pass filter at 150 Hz (R331). The spec gives no coefficients and no order of their arithmetic (DESIGN CHOICE, log entry
63). Lists are newest first; the low-pass filter is given its last three inputs and its last two outputs. -/
opaque meterDelay : Int → List Word → Word
opaque meterFir : List Word → Word
opaque meterHilbert : List Word → Word
opaque meterLowpass : List Word → List Word → Word

end Sys2Proof.Config
end

