-- ==== Sys2Proof/Machine/Fp32.lean ====
section
/-! DEFINITION. Binary32 arithmetic as Cirrus does it (R117): round to nearest, ties to even; an FMA rounds once;
subnormal operands and results are zero of the same sign. Every operation is computed exactly and rounded once. -/

namespace Sys2Proof.Machine

/-- Positive zero. -/
def fZero : Word := 0x00000000#32
/-- One. -/
def fOne : Word := 0x3F800000#32
/-- The largest finite number, 3.4028235 × 10^38 (R118). -/
def fMax : Word := 0x7F7FFFFF#32
/-- Infinity. -/
def fInf : Word := 0x7F800000#32
/-- The NaN the operations answer. -/
def fNaN : Word := 0x7FC00000#32

/-- Sign bit. -/
def fSign (x : Word) : Bool := x.getLsbD 31
/-- Biased exponent. -/
def fExpo (x : Word) : Nat := bits x 30 23
/-- Fraction field. -/
def fFrac (x : Word) : Nat := bits x 22 0
/-- Not a number. -/
def fIsNaN (x : Word) : Bool := fExpo x == 255 && fFrac x != 0
/-- Infinite. -/
def fIsInf (x : Word) : Bool := fExpo x == 255 && fFrac x == 0
/-- Finite. -/
def fFinite (x : Word) : Bool := fExpo x != 255
/-- Zero, subnormals counted as zero (R117). -/
def fIsZero (x : Word) : Bool := fExpo x == 0
/-- The sign changed. -/
def fNeg (x : Word) : Word := x ^^^ 0x80000000#32
/-- The sign cleared. -/
def fAbs (x : Word) : Word := x &&& 0x7FFFFFFF#32

/-- A zero of the given sign. -/
def fZeroOf (neg : Bool) : Word := if neg then 0x80000000#32 else fZero
/-- An infinity of the given sign. -/
def fInfOf (neg : Bool) : Word := if neg then 0xFF800000#32 else fInf

/-- The mantissa of a finite number: its value is `± fMant x × 2 ^ (fExpo x − 150)`; subnormals are zero. -/
def fMant (x : Word) : Nat := if fExpo x = 0 then 0 else 2 ^ 23 + fFrac x

/-- `num / den × 2 ^ sc` rounded to binary32 (`den > 0`): nearest, ties to even, tiny results zero, large ones infinite. -/
def fRound (neg : Bool) (num den : Nat) (sc : Int) : Word :=
  if num = 0 then fZeroOf neg
  else
    let e0 : Int := (Nat.log2 num : Int) - (Nat.log2 den : Int)
    let sh : Int := 26 - e0
    let n := if 0 ≤ sh then num * 2 ^ sh.toNat else num
    let d := if 0 ≤ sh then den else den * 2 ^ (-sh).toNat
    let q := n / d
    let sticky := decide (n % d ≠ 0)
    let top := Nat.log2 q
    let drop := top - 23
    let m := q / 2 ^ drop
    let rest := q % 2 ^ drop
    let half := 2 ^ (drop - 1)
    let up := decide (half < rest) || (rest == half && (sticky || m % 2 == 1))
    let m1 := if up then m + 1 else m
    let carry := decide (m1 = 2 ^ 24)
    let ex : Int := (top : Int) - sh + sc + 127 + (if carry then 1 else 0)
    if 255 ≤ ex then fInfOf neg
    else if ex ≤ 0 then fZeroOf neg
    else
      let frac := if carry then 0 else m1 - 2 ^ 23
      BitVec.ofNat 32 ((if neg then 2 ^ 31 else 0) + ex.toNat * 2 ^ 23 + frac)

/-- An integer times a power of two, rounded. -/
def fOfInt (i : Int) (sc : Int) : Word := fRound (decide (i < 0)) i.natAbs 1 sc

/-- A natural number, rounded. -/
def fOfNat (n : Nat) : Word := fOfInt n 0

/-- The quotient of an integer and a natural number, rounded. -/
def fOfRat (i : Int) (den : Nat) : Word := fRound (decide (i < 0)) i.natAbs den 0

/-- The signed mantissa. -/
def fSMant (x : Word) : Int := if fSign x then - (fMant x : Int) else (fMant x : Int)

/-- The exponent of the mantissa's unit. -/
def fSc (x : Word) : Int := (fExpo x : Int) - 150

/-- Product. -/
def fMul (a b : Word) : Word :=
  let s := fSign a != fSign b
  if fIsNaN a || fIsNaN b then fNaN
  else if fIsInf a || fIsInf b then (if fIsZero a || fIsZero b then fNaN else fInfOf s)
  else fRound s (fMant a * fMant b) 1 (fSc a + fSc b)

/-- The exact sum `x × 2^ex + y × 2^ey`, as an integer and its exponent. -/
def alignSum (x : Int) (ex : Int) (y : Int) (ey : Int) : Int × Int :=
  if ex ≤ ey then (x + y * (2 ^ (ey - ex).toNat : Nat), ex)
  else (x * (2 ^ (ex - ey).toNat : Nat) + y, ey)

/-- `a × b + c`, rounded once (R117). -/
def fFma (a b c : Word) : Word :=
  let s := fSign a != fSign b
  if fIsNaN a || fIsNaN b || fIsNaN c then fNaN
  else if fIsInf a || fIsInf b then
    (if fIsZero a || fIsZero b then fNaN
     else if fIsInf c && fSign c != s then fNaN else fInfOf s)
  else if fIsInf c then c
  else
    let pz := fIsZero a || fIsZero b
    if pz && fIsZero c then fZeroOf (s && fSign c)
    else if pz then c
    else if fIsZero c then fRound s (fMant a * fMant b) 1 (fSc a + fSc b)
    else
      let r := alignSum (fSMant a * fSMant b) (fSc a + fSc b) (fSMant c) (fSc c)
      fOfInt r.1 r.2

/-- Sum. -/
def fAdd (a b : Word) : Word := fFma a fOne b
/-- Difference. -/
def fSub (a b : Word) : Word := fAdd a (fNeg b)

/-- Quotient. -/
def fDiv (a b : Word) : Word :=
  let s := fSign a != fSign b
  if fIsNaN a || fIsNaN b then fNaN
  else if fIsInf a then (if fIsInf b then fNaN else fInfOf s)
  else if fIsInf b then fZeroOf s
  else if fIsZero b then (if fIsZero a then fNaN else fInfOf s)
  else fRound s (fMant a) (fMant b) (fSc a - fSc b)

/-- Square root, rounded once. -/
def fSqrt (a : Word) : Word :=
  if fIsNaN a then fNaN
  else if fIsZero a then fZeroOf (fSign a)
  else if fSign a then fNaN
  else if fIsInf a then a
  else
    let odd := decide (fSc a % 2 ≠ 0)
    let m := if odd then 2 * fMant a else fMant a
    let sc := if odd then fSc a - 1 else fSc a
    let n := m * 2 ^ 60
    let q := Nat.sqrt n
    -- one more bit below the root says whether the root is exact
    let q2 := 2 * q + (if q * q = n then 0 else 1)
    fRound false q2 1 (sc / 2 - 31)

/-- Ordering key of a finite or infinite number: equal for both zeros. -/
def fKey (x : Word) : Int :=
  if fIsZero x then 0 else if fSign x then - ((x &&& 0x7FFFFFFF#32).toNat : Int) else (x.toNat : Int)

/-- `a < b`; false when either is NaN. -/
def fLt (a b : Word) : Bool := !(fIsNaN a || fIsNaN b) && decide (fKey a < fKey b)
/-- `a ≤ b`; false when either is NaN. -/
def fLe (a b : Word) : Bool := !(fIsNaN a || fIsNaN b) && decide (fKey a ≤ fKey b)
/-- The smaller. -/
def fMin (a b : Word) : Word := if fLt b a then b else a
/-- The larger. -/
def fMaxOf (a b : Word) : Word := if fLt a b then b else a
/-- clamp(x, a, b) of the law catalogue. -/
def fClamp (x a b : Word) : Word := if fLt x a then a else if fLt b x then b else x
/-- Positive and finite. -/
def fPos (x : Word) : Bool := fFinite x && !fSign x && !fIsZero x
/-- Not negative and finite. -/
def fNonneg (x : Word) : Bool := fFinite x && (!fSign x || fIsZero x)

/-- `x × 2 ^ sc` rounded to an integer, ties to even; 0 for NaN and infinities. -/
def fRoundInt (x : Word) (sc : Int) : Int :=
  if !fFinite x then 0
  else
    let e := fSc x + sc
    if 0 ≤ e then fSMant x * (2 ^ e.toNat : Nat) else rneDiv (fSMant x) (2 ^ (-e).toNat)

/-- `x × 2 ^ sc` rounded down; 0 for NaN and infinities. -/
def fFloorInt (x : Word) (sc : Int) : Int :=
  if !fFinite x then 0
  else
    let e := fSc x + sc
    if 0 ≤ e then fSMant x * (2 ^ e.toNat : Nat) else fSMant x / (2 ^ (-e).toNat : Nat)

/-- 2π, rounded. -/
def f2Pi : Word := 0x40C90FDB#32
/-- √3, rounded. -/
def fSqrt3 : Word := 0x3FDDB3D7#32
/-- Two. -/
def fTwo : Word := 0x40000000#32
/-- Three. -/
def fThree : Word := 0x40400000#32
/-- One half. -/
def fHalf : Word := 0x3F000000#32

/-- Sum of a list in order, each addition rounded. -/
def fSum (l : List Word) : Word := l.foldl fAdd fZero

/-- The exact sum of finite numbers over the grid 2^−149, as an integer. -/
def fExact (x : Word) : Int := if fFinite x then fSMant x * (2 ^ (fSc x + 149).toNat : Nat) else 0

/-- The mean of a list, its exact sum divided by its length and rounded once; +0 for an empty list. -/
def fMean (l : List Word) : Word :=
  if l.isEmpty then fZero
  else
    let t := (l.map fExact).foldl (· + ·) 0
    fRound (decide (t < 0)) t.natAbs l.length (-149)

end Sys2Proof.Machine
end

