-- ==== Sys2Proof/Machine/Crc.lean ====
section
/-! DEFINITION. The check codes of the spec: CRC-32 of IEEE 802.3 (records, loaded blocks), CRC-16 and CRC-8 of R238. -/

namespace Sys2Proof.Machine

/-- `n` steps of the reflected CRC-32 register (polynomial 0x04C11DB7 of IEEE 802.3, reflected 0xEDB88320). -/
def crc32Shift : Nat → Nat → Nat
  | 0, c => c
  | n + 1, c => crc32Shift n (if c % 2 = 1 then (c / 2) ^^^ 0xEDB88320 else c / 2)

/-- CRC-32 of IEEE 802.3 over a byte string: initial value all ones, final inversion. -/
def crc32 (l : List Byte) : Nat :=
  (l.foldl (fun c b => crc32Shift 8 (c ^^^ b.toNat)) 0xFFFFFFFF) ^^^ 0xFFFFFFFF

/-- `n` steps of a CRC register of width `w`, most significant bit first. -/
def crcUpShift (w poly : Nat) : Nat → Nat → Nat
  | 0, c => c
  | n + 1, c =>
    let d := (2 * c) % 2 ^ w
    crcUpShift w poly n (if c / 2 ^ (w - 1) = 1 then d ^^^ poly else d)

/-- CRC-16 of R238: polynomial 0x1021, initial value 0xFFFF. -/
def crc16 (l : List Byte) : Nat :=
  l.foldl (fun c b => crcUpShift 16 0x1021 8 (c ^^^ (b.toNat * 256))) 0xFFFF

/-- CRC-8 of R238: polynomial 0x07, initial value 0x00. -/
def crc8 (l : List Byte) : Nat :=
  l.foldl (fun c b => crcUpShift 8 0x07 8 (c ^^^ b.toNat)) 0

end Sys2Proof.Machine
end

