-- ==== Sys2Proof/Machine/RegMap.lean ====
section
/-! DEFINITION. The register map of BAR0 (R32): every register of the spec's register tables, with each field's bits,
access code (R7), reset value and whether it is a configuration field (R12). One entry of `dims` is
(count, stride, first index) of an array of registers. -/

namespace Sys2Proof.Machine

/-- Access codes of R7. -/
inductive Access where
  | rw | ro | wo | w1c | rc
  deriving DecidableEq, Repr

/-- One field of a register: bits, access code, reset value, configuration field (R12). -/
structure RegField where
  hi : Nat
  lo : Nat
  acc : Access
  reset : Nat
  cfg : Bool
  deriving DecidableEq, Repr

/-- One register, or one array of registers. -/
structure RegKind where
  base : Nat
  dims : List (Nat × Nat × Nat)
  fields : List RegField
  deriving DecidableEq, Repr

/-- A field, in the order hi, lo, access, reset. -/
def fd (hi lo : Nat) (a : Access) (r : Nat) : RegField := ⟨hi, lo, a, r, false⟩
/-- A configuration field (R12), always RW. -/
def fc (hi lo : Nat) (r : Nat) : RegField := ⟨hi, lo, .rw, r, true⟩

/-- Registers HIF_, part 0. -/
def regsHIF0 : List RegKind := [
  ⟨0x0000, [], [fd 31 16 .ro 4132, fd 15 12 .ro 2, fd 11 8 .ro 0]⟩ /- HIF_ID -/,
  ⟨0x0004, [], [fd 31 24 .ro 0, fd 23 16 .ro 0, fd 15 0 .ro 0]⟩ /- HIF_FWVER -/,
  ⟨0x0008, [], [fd 31 31 .ro 0, fd 30 30 .ro 0, fd 29 28 .ro 0, fd 27 26 .ro 0, fd 25 25 .ro 0, fd 3 0 .ro 1]⟩ /- HIF_STAT -/,
  ⟨0x000C, [], [fd 31 24 .rw 0, fd 2 2 .rw 0, fd 1 1 .rw 0]⟩ /- HIF_CFG -/,
  ⟨0x0010, [], [fd 7 7 .w1c 0, fd 6 6 .w1c 0, fd 5 5 .w1c 0, fd 4 4 .w1c 0, fd 3 3 .w1c 0, fd 2 2 .w1c 0, fd 1 1 .w1c 0, fd 0 0 .w1c 0]⟩ /- HIF_FLAG -/,
  ⟨0x0014, [], [fd 6 6 .w1c 0, fd 5 5 .w1c 0, fd 4 4 .w1c 0, fd 3 3 .w1c 0, fd 2 2 .w1c 0, fd 1 1 .w1c 0, fd 0 0 .w1c 0]⟩ /- HIF_EVT -/,
  ⟨0x0018, [], [fd 6 0 .rw 0]⟩ /- HIF_EVTEN -/,
  ⟨0x001C, [], [fd 31 24 .rc 0, fd 23 16 .rc 0, fd 15 8 .rc 0, fd 7 0 .rc 0]⟩ /- HIF_SPIERR -/,
  ⟨0x0020, [], [fd 31 31 .rw 0, fd 30 30 .rw 0, fd 29 29 .rw 0, fd 21 16 .rw 0, fd 11 8 .rw 4, fd 3 0 .rw 4]⟩ /- HIF_AQ_CFG -/,
  ⟨0x0024, [], [fd 31 0 .rw 0]⟩ /- HIF_AQ_SQB_LO -/,
  ⟨0x0028, [], [fd 31 0 .rw 0]⟩ /- HIF_AQ_SQB_HI -/,
  ⟨0x002C, [], [fd 31 0 .rw 0]⟩ /- HIF_AQ_CQB_LO -/,
  ⟨0x0030, [], [fd 31 0 .rw 0]⟩ /- HIF_AQ_CQB_HI -/,
  ⟨0x0040, [], [fd 5 0 .rw 0]⟩ /- HIF_QSEL -/,
  ⟨0x0044, [], [fd 31 31 .ro 0, fd 30 30 .ro 0, fd 29 29 .ro 0, fd 28 28 .ro 1, fd 27 16 .ro 0, fd 11 0 .ro 0]⟩ /- HIF_QSTAT -/,
  ⟨0x0048, [], [fd 28 16 .ro 0, fd 12 0 .ro 0]⟩ /- HIF_QWAIT -/,
  ⟨0x0100, [(16, 4, 0)], [fd 31 0 .rw 0]⟩ /- HIF_MBX_CMDj -/,
  ⟨0x0140, [(8, 4, 0)], [fd 31 0 .ro 0]⟩ /- HIF_MBX_RESj -/,
  ⟨0x0160, [], [fd 0 0 .wo 0]⟩ /- HIF_MBX_CTL -/,
  ⟨0x0164, [], [fd 31 24 .ro 0, fd 2 2 .ro 0, fd 1 1 .ro 0, fd 0 0 .ro 1]⟩ /- HIF_MBX_STAT -/,
  ⟨0x0168, [], [fd 7 0 .wo 0]⟩ /- HIF_MBX_ACK -/,
  ⟨0x0200, [], [fc 31 31 0, fc 30 30 0, fc 29 29 0, fc 23 16 0, fc 15 8 248, fd 0 0 .ro 0]⟩ /- HIF_MGT_CFG -/,
  ⟨0x0204, [], [fc 31 0 0]⟩ /- HIF_MAC_LO -/,
  ⟨0x0208, [], [fc 15 0 0]⟩ /- HIF_MAC_HI -/]

/-- Registers HIF_, part 1. -/
def regsHIF1 : List RegKind := [
  ⟨0x020C, [], [fc 31 0 0]⟩ /- HIF_MGT_IP -/,
  ⟨0x0210, [], [fd 31 0 .rw 0]⟩ /- HIF_PTPOFS_LO -/,
  ⟨0x0214, [], [fd 31 0 .rw 0]⟩ /- HIF_PTPOFS_HI -/,
  ⟨0x0218, [], [fd 31 16 .rc 0, fd 15 0 .rc 0]⟩ /- HIF_MGT_CNT -/,
  ⟨0x0300, [], [fc 27 16 512, fc 11 0 128]⟩ /- HIF_POOL_CAP0 -/,
  ⟨0x0304, [], [fc 11 0 256]⟩ /- HIF_POOL_CAP1 -/,
  ⟨0x0308, [], [fd 27 16 .ro 3072, fd 12 0 .ro 5120]⟩ /- HIF_POOL_FREE -/,
  ⟨0x030C, [], [fd 31 31 .wo 0, fd 12 0 .ro 5120]⟩ /- HIF_POOL_LOW -/,
  ⟨0x0310, [], [fd 3 3 .w1c 0, fd 2 2 .w1c 0, fd 1 1 .w1c 0, fd 0 0 .w1c 0]⟩ /- HIF_POOL_STAT -/,
  ⟨0x0314, [], [fd 15 0 .rc 0]⟩ /- HIF_POOL_NOSPC -/,
  ⟨0x0318, [], [fd 6 0 .rw 0]⟩ /- HIF_POOL_SEL -/,
  ⟨0x031C, [], [fd 28 16 .ro 0, fd 7 0 .ro 0]⟩ /- HIF_POOL_USE -/]

/-- Registers HIF_. -/
def regsHIF : List RegKind := regsHIF0 ++ regsHIF1

/-- Registers CLK_. -/
def regsCLK : List RegKind := [
  ⟨0x0400, [], [fc 13 8 8, fc 5 4 1, fc 3 2 0, fc 1 0 0]⟩ /- CLK_CFG -/,
  ⟨0x0404, [], [fd 24 16 .ro 0, fd 13 8 .ro 0, fd 6 6 .ro 1, fd 5 5 .ro 1, fd 4 4 .ro 1, fd 2 0 .ro 0]⟩ /- CLK_STAT -/,
  ⟨0x0408, [], [fd 4 4 .w1c 0, fd 3 3 .w1c 0, fd 2 2 .w1c 0, fd 1 1 .w1c 0, fd 0 0 .w1c 0]⟩ /- CLK_FLAG -/,
  ⟨0x040C, [], [fd 15 0 .ro 0]⟩ /- CLK_PHERR -/,
  ⟨0x0410, [], [fd 31 0 .ro 0]⟩ /- CLK_TIME_LO -/,
  ⟨0x0414, [], [fd 31 0 .ro 0]⟩ /- CLK_TIME_HI -/,
  ⟨0x0418, [], [fd 31 0 .ro 0]⟩ /- CLK_OFFSET -/,
  ⟨0x041C, [], [fd 31 16 .rc 0, fd 15 0 .rc 0]⟩ /- CLK_CNT -/]

/-- Registers FRM_. -/
def regsFRM : List RegKind := [
  ⟨0x0800, [], [fc 21 16 10, fc 8 8 1, fc 2 0 4]⟩ /- FRM_CFG -/,
  ⟨0x0804, [], [fc 31 16 6000, fc 15 0 1000]⟩ /- FRM_PHASE -/,
  ⟨0x0808, [], [fd 31 16 .ro 0, fd 1 0 .ro 0]⟩ /- FRM_STAT -/,
  ⟨0x080C, [], [fd 31 0 .ro 0]⟩ /- FRM_NUM -/,
  ⟨0x0810, [], [fd 4 4 .w1c 0, fd 3 3 .w1c 0, fd 2 2 .w1c 0, fd 1 1 .w1c 0, fd 0 0 .w1c 0]⟩ /- FRM_FLAG -/,
  ⟨0x0814, [], [fd 31 28 .ro 0, fd 27 0 .ro 0]⟩ /- FRM_OVR -/,
  ⟨0x0818, [], [fd 31 16 .rc 0, fd 15 0 .rc 0]⟩ /- FRM_SHED0 -/,
  ⟨0x081C, [], [fd 15 0 .rc 0]⟩ /- FRM_SHED1 -/,
  ⟨0x0820, [], [fd 31 16 .ro 0, fd 15 0 .ro 0]⟩ /- FRM_LOAD -/,
  ⟨0x0824, [], [fd 31 31 .wo 0, fd 15 0 .ro 0]⟩ /- FRM_PEAK -/]

/-- Registers ADC_, part 0. -/
def regsADC0 : List RegKind := [
  ⟨0x1000, [], [fc 1 1 1, fc 0 0 0]⟩ /- ADC_CTL -/,
  ⟨0x1004, [], [fd 4 4 .w1c 0, fd 3 3 .w1c 0, fd 2 2 .w1c 0, fd 1 1 .w1c 0, fd 0 0 .w1c 0]⟩ /- ADC_FLAG -/,
  ⟨0x1008, [], [fd 9 8 .wo 0, fd 5 0 .rw 0]⟩ /- ADC_CALCTL -/,
  ⟨0x100C, [], [fd 31 31 .ro 0, fd 18 16 .ro 0, fd 1 1 .ro 0, fd 0 0 .ro 0]⟩ /- ADC_CALSTAT -/,
  ⟨0x1010, [], [fd 15 0 .ro 0]⟩ /- ADC_CALNZ -/,
  ⟨0x1014, [], [fd 15 0 .ro 0]⟩ /- ADC_CALNF -/,
  ⟨0x1018, [], [fd 31 0 .rw 0]⟩ /- ADC_CALEZ -/,
  ⟨0x101C, [], [fd 31 0 .rw 0]⟩ /- ADC_CALEF -/,
  ⟨0x1020, [], [fd 31 0 .w1c 0]⟩ /- ADC_OVR0 -/,
  ⟨0x1024, [], [fd 15 0 .w1c 0]⟩ /- ADC_OVR1 -/,
  ⟨0x1028, [], [fc 31 0 0]⟩ /- ADC_CALVAL0 -/,
  ⟨0x102C, [], [fc 15 0 0]⟩ /- ADC_CALVAL1 -/,
  ⟨0x1030, [], [fd 7 0 .wo 0]⟩ /- ADC_JSOFT -/,
  ⟨0x1034, [], [fd 15 0 .rc 0]⟩ /- ADC_JLOST -/,
  ⟨0x1038, [], [fd 31 16 .ro 0, fd 15 12 .ro 0, fd 7 7 .ro 0, fd 6 4 .ro 0, fd 3 3 .ro 0, fd 2 0 .ro 0]⟩ /- ADC_BGSTAT -/,
  ⟨0x103C, [], [fd 5 0 .rw 0]⟩ /- ADC_STSEL -/,
  ⟨0x1040, [], [fd 31 0 .ro 0]⟩ /- ADC_STAMP_LO -/,
  ⟨0x1044, [], [fd 31 0 .ro 0]⟩ /- ADC_STAMP_HI -/,
  ⟨0x1080, [(8, 4, 0)], [fc 29 24 0, fc 22 20 0, fc 16 16 0, fc 14 12 0, fc 9 8 0, fc 5 0 0]⟩ /- ADC_PAIRp_CFG -/,
  ⟨0x10A0, [(8, 4, 0)], [fd 2 0 .rw 0]⟩ /- ADC_PAIRp_SEL -/,
  ⟨0x1100, [(48, 4, 0)], [fd 31 31 .ro 0, fd 30 30 .ro 0, fd 29 29 .ro 0, fd 28 28 .ro 0, fd 11 0 .ro 0]⟩ /- ADC_RESn -/,
  ⟨0x1200, [(8, 16, 0)], [fd 31 31 .ro 0, fd 30 30 .ro 0, fd 29 29 .ro 0, fd 18 16 .ro 0, fd 11 0 .ro 0]⟩ /- ADC_JRESp -/,
  ⟨0x1204, [(8, 16, 0)], [fd 31 0 .ro 0]⟩ /- ADC_JSTAMPp_LO -/,
  ⟨0x1208, [(8, 16, 0)], [fd 31 0 .ro 0]⟩ /- ADC_JSTAMPp_HI -/]

/-- Registers ADC_, part 1. -/
def regsADC1 : List RegKind := [
  ⟨0x1400, [(48, 8, 0)], [fc 31 0 969723085]⟩ /- ADC_GAINn -/,
  ⟨0x1404, [(48, 8, 0)], [fc 31 0 0]⟩ /- ADC_OFFn -/,
  ⟨0x1600, [(18, 4, 0)], [fd 31 16 .ro 32768, fd 15 0 .ro 0]⟩ /- ADC_TRIMc -/]

/-- Registers ADC_. -/
def regsADC : List RegKind := regsADC0 ++ regsADC1

/-- Registers CMP_. -/
def regsCMP : List RegKind := [
  ⟨0x1800, [(24, 8, 0)], [fc 31 31 0, fc 30 30 1, fc 29 28 0, fc 27 27 0, fc 26 26 0, fc 25 22 0, fc 19 10 1023, fc 9 0 0]⟩ /- CMP_CFGi -/,
  ⟨0x1804, [(24, 8, 0)], [fc 5 4 0, fc 3 3 0, fc 2 2 0, fc 1 1 0, fc 0 0 0]⟩ /- CMP_ROUTEi -/,
  ⟨0x18C0, [], [fd 23 0 .ro 16777215]⟩ /- CMP_STATE -/,
  ⟨0x18C4, [], [fd 23 0 .ro 0]⟩ /- CMP_BAND -/,
  ⟨0x18C8, [], [fd 23 0 .w1c 0]⟩ /- CMP_ENTRY -/,
  ⟨0x18CC, [], [fd 23 0 .w1c 0]⟩ /- CMP_EXIT -/,
  ⟨0x18D0, [], [fd 4 0 .rw 0]⟩ /- CMP_STSEL -/,
  ⟨0x18D4, [], [fd 31 0 .ro 0]⟩ /- CMP_STAMP_LO -/,
  ⟨0x18D8, [], [fd 31 0 .ro 0]⟩ /- CMP_STAMP_HI -/,
  ⟨0x18DC, [], [fd 1 1 .ro 0, fd 0 0 .ro 0]⟩ /- CMP_CAPINFO -/]

/-- Registers ANG_. -/
def regsANG : List RegKind := [
  ⟨0x1C00, [], [fc 31 24 20, fc 21 16 0, fc 15 8 8, fc 3 3 0, fc 2 1 0, fc 0 0 0]⟩ /- ANG_CFG -/,
  ⟨0x1C04, [], [fc 23 16 4, fc 15 0 65535]⟩ /- ANG_CPC -/,
  ⟨0x1C08, [], [fc 25 16 100, fc 5 0 4]⟩ /- ANG_FCFG -/,
  ⟨0x1C0C, [], [fc 15 8 32, fc 7 0 8]⟩ /- ANG_THR -/,
  ⟨0x1C10, [], [fc 31 0 0]⟩ /- ANG_ZOFF -/,
  ⟨0x1C14, [], [fd 0 0 .wo 0]⟩ /- ANG_CTL -/,
  ⟨0x1C18, [], [fd 31 16 .ro 0, fd 15 15 .ro 0, fd 14 14 .ro 0, fd 13 13 .ro 0, fd 12 12 .ro 0, fd 11 11 .ro 0, fd 10 8 .ro 0]⟩ /- ANG_STAT -/,
  ⟨0x1C1C, [], [fd 31 0 .ro 0]⟩ /- ANG_ANGLE -/,
  ⟨0x1C20, [], [fd 31 0 .ro 0]⟩ /- ANG_XANGLE -/,
  ⟨0x1C24, [], [fd 31 0 .ro 0]⟩ /- ANG_FREQ -/,
  ⟨0x1C28, [], [fd 31 0 .ro 0]⟩ /- ANG_XFREQ -/,
  ⟨0x1C2C, [], [fd 6 6 .w1c 0, fd 5 5 .w1c 0, fd 4 4 .w1c 0, fd 3 3 .w1c 0, fd 2 2 .w1c 0, fd 1 1 .w1c 0, fd 0 0 .w1c 0]⟩ /- ANG_FLAG -/,
  ⟨0x1C30, [], [fd 31 16 .rc 0, fd 15 0 .rc 0]⟩ /- ANG_CNT -/,
  ⟨0x1C34, [], [fd 31 0 .ro 0]⟩ /- ANG_ESTAMP_LO -/,
  ⟨0x1C38, [], [fd 31 0 .ro 0]⟩ /- ANG_ESTAMP_HI -/,
  ⟨0x1C3C, [], [fd 31 0 .ro 0]⟩ /- ANG_ZSTAMP_LO -/,
  ⟨0x1C40, [], [fd 31 0 .ro 0]⟩ /- ANG_ZSTAMP_HI -/]

/-- Registers CE_. -/
def regsCE : List RegKind := [
  ⟨0x2000, [], [fd 3 3 .w1c 0, fd 2 2 .w1c 0, fd 1 1 .w1c 0, fd 0 0 .w1c 0]⟩ /- CE_FLAG -/,
  ⟨0x2010, [], [fd 31 1 .ro 0]⟩ /- CE_SUM_LO -/,
  ⟨0x2014, [], [fd 31 0 .ro 0]⟩ /- CE_SUM_HI -/,
  ⟨0x2020, [], [fc 25 16 100, fc 15 8 8, fc 0 0 0]⟩ /- CE_SPP_CFG -/,
  ⟨0x2024, [], [fc 13 0 1000]⟩ /- CE_SPP_HOLD -/,
  ⟨0x2028, [], [fc 31 0 0]⟩ /- CE_SPP_RAMP -/,
  ⟨0x202C, [], [fc 31 0 0]⟩ /- CE_SPP_FB -/,
  ⟨0x2030, [], [fd 31 0 .ro 0]⟩ /- CE_SPP_FREQ -/,
  ⟨0x2034, [], [fd 31 0 .ro 0]⟩ /- CE_SPP_VAL -/,
  ⟨0x2038, [], [fd 2 0 .ro 0]⟩ /- CE_SPP_STAT -/,
  ⟨0x2040, [(2, 4, 0)], [fd 31 31 .ro 0, fd 29 24 .ro 0, fd 23 0 .ro 0]⟩ /- CE_INJg_STAT -/,
  ⟨0x2050, [], [fd 31 31 .ro 0, fd 30 30 .ro 0, fd 29 29 .ro 0, fd 28 28 .ro 0, fd 16 0 .ro 0]⟩ /- CE_CAP_STAT -/,
  ⟨0x2060, [], [fd 31 31 .ro 0, fd 19 16 .ro 0, fd 15 0 .ro 0]⟩ /- CE_TBLSTAT -/,
  ⟨0x2100, [(63, 4, 1)], [fd 20 20 .ro 0, fd 19 19 .ro 0, fd 18 18 .ro 0, fd 17 17 .ro 0, fd 16 16 .ro 0, fd 4 4 .w1c 0, fd 3 3 .w1c 0, fd 2 2 .w1c 0, fd 1 1 .w1c 0, fd 0 0 .w1c 0]⟩ /- CE_CFLAGc -/,
  ⟨0x2200, [(63, 4, 1)], [fd 31 31 .ro 0, fd 30 30 .ro 0, fd 23 16 .ro 0, fd 15 0 .ro 0]⟩ /- CE_CSTATc -/,
  ⟨0x2400, [(63, 16, 1), (4, 4, 0)], [fd 31 0 .ro 0]⟩ /- CE_OUTc_k -/]

/-- Registers MOD_. -/
def regsMOD : List RegKind := [
  ⟨0x2800, [], [fc 1 1 1, fc 0 0 1]⟩ /- MOD_CTL -/,
  ⟨0x2804, [], [fd 7 7 .w1c 0, fd 6 6 .w1c 0, fd 5 5 .w1c 0, fd 4 4 .w1c 0, fd 3 3 .w1c 0, fd 2 2 .w1c 0, fd 1 1 .w1c 0, fd 0 0 .w1c 0]⟩ /- MOD_FLAG -/,
  ⟨0x2808, [], [fd 11 0 .wo 0]⟩ /- MOD_COMMIT -/,
  ⟨0x280C, [], [fd 27 16 .wo 0, fd 11 0 .wo 0]⟩ /- MOD_FLTCLR -/,
  ⟨0x2810, [], [fc 31 16 800, fc 15 8 25]⟩ /- MOD_CELLCFG -/,
  ⟨0x2814, [], [fc 31 24 64, fc 23 16 20, fc 15 0 200]⟩ /- MOD_BSCELL -/,
  ⟨0x2818, [], [fd 31 16 .rc 0, fd 15 0 .rc 0]⟩ /- MOD_CNT0 -/,
  ⟨0x281C, [], [fd 31 16 .rc 0, fd 15 0 .rc 0]⟩ /- MOD_CNT1 -/,
  ⟨0x2840, [(6, 8, 0)], [fc 31 24 19, fc 17 16 0, fc 15 0 1]⟩ /- MOD_GRPg_CAR -/,
  ⟨0x2844, [(6, 8, 0)], [fc 31 16 0, fc 7 4 0, fc 3 0 0]⟩ /- MOD_GRPg_PROF -/,
  ⟨0x2900, [(24, 4, 0)], [fc 31 31 0, fc 28 24 0, fc 23 0 0]⟩ /- MOD_GCMPg_j -/,
  ⟨0x2A00, [(12, 64, 0)], [fc 31 31 0, fc 30 30 0, fc 29 29 0, fc 28 28 0, fc 27 26 0, fc 19 16 15, fc 9 0 80]⟩ /- MOD_HBn_CFG -/,
  ⟨0x2A04, [(12, 64, 0)], [fd 19 0 .rw 8000]⟩ /- MOD_HBn_PERIOD -/,
  ⟨0x2A08, [(12, 64, 0)], [fd 23 4 .rw 0, fd 3 0 .rw 0]⟩ /- MOD_HBn_DUTY -/,
  ⟨0x2A0C, [(12, 64, 0)], [fd 19 0 .rw 0]⟩ /- MOD_HBn_PHASE -/,
  ⟨0x2A10, [(12, 64, 0)], [fc 31 24 64, fc 23 16 20, fc 15 0 0]⟩ /- MOD_HBn_BS -/,
  ⟨0x2A14, [(12, 64, 0)], [fd 19 0 .ro 8000]⟩ /- MOD_HBn_APER -/,
  ⟨0x2A18, [(12, 64, 0)], [fd 23 4 .ro 0]⟩ /- MOD_HBn_ADUTY -/,
  ⟨0x2A1C, [(12, 64, 0)], [fd 31 16 .ro 65535, fd 8 8 .ro 0, fd 7 7 .ro 0, fd 6 6 .ro 0, fd 5 5 .ro 0, fd 4 4 .ro 0, fd 1 0 .ro 0]⟩ /- MOD_HBn_STAT -/,
  ⟨0x2A20, [(12, 64, 0), (8, 4, 0)], [fd 31 31 .rw 0, fd 28 24 .rw 0, fd 19 0 .rw 0]⟩ /- MOD_HBn_CMPk -/]

/-- Registers THK_. -/
def regsTHK : List RegKind := [
  ⟨0x3000, [], [fc 31 28 2, fc 16 16 0, fc 11 0 300]⟩ /- THK_CFG -/,
  ⟨0x3004, [], [fd 6 6 .w1c 0, fd 5 5 .w1c 0, fd 4 4 .w1c 0, fd 3 3 .w1c 0, fd 2 2 .w1c 0, fd 1 1 .w1c 0, fd 0 0 .w1c 0]⟩ /- THK_FLAG -/,
  ⟨0x3008, [], [fd 31 30 .wo 0, fd 3 0 .wo 0]⟩ /- THK_CMD -/,
  ⟨0x3010, [], [fd 31 16 .ro 0, fd 15 0 .ro 0]⟩ /- THK_BUDGET -/,
  ⟨0x3018, [], [fd 31 31 .ro 0, fd 19 16 .ro 0, fd 13 10 .ro 0, fd 9 4 .ro 0]⟩ /- THK_ALM -/,
  ⟨0x3100, [(16, 16, 0)], [fc 31 31 0, fd 22 16 .ro 0, fc 6 0 64]⟩ /- THK_RINGr_CFG -/,
  ⟨0x3104, [(16, 16, 0)], [fd 31 29 .ro 0, fd 28 22 .ro 0, fd 21 15 .ro 0, fd 14 8 .ro 0, fd 7 1 .ro 0]⟩ /- THK_RINGr_STAT -/,
  ⟨0x3108, [(16, 16, 0)], [fd 31 16 .ro 0, fd 15 0 .ro 0]⟩ /- THK_RINGr_DLY -/,
  ⟨0x310C, [(16, 16, 0)], [fd 31 24 .rc 0, fd 23 16 .rc 0, fd 15 8 .rc 0, fd 7 0 .rc 0]⟩ /- THK_RINGr_ERR -/]

/-- Registers KRK_. -/
def regsKRK : List RegKind := [
  ⟨0x3800, [], [fc 8 4 0, fc 3 0 0]⟩ /- KRK_ID -/,
  ⟨0x3804, [], [fc 0 0 1]⟩ /- KRK_CFG -/,
  ⟨0x3808, [], [fd 31 30 .ro 0, fd 29 29 .ro 0, fd 28 28 .ro 0, fd 27 26 .ro 0, fd 25 24 .ro 0, fd 23 22 .ro 0, fd 17 9 .ro 0]⟩ /- KRK_STAT -/,
  ⟨0x380C, [], [fd 25 13 .ro 0, fd 12 0 .ro 0]⟩ /- KRK_VOTES -/,
  ⟨0x3810, [], [fd 31 0 .ro 0]⟩ /- KRK_VIEW -/,
  ⟨0x3814, [], [fd 7 7 .w1c 0, fd 6 6 .w1c 0, fd 5 5 .w1c 0, fd 4 4 .w1c 0, fd 3 3 .w1c 0, fd 2 2 .w1c 0, fd 1 1 .w1c 0, fd 0 0 .w1c 0]⟩ /- KRK_FLAG -/,
  ⟨0x3818, [], [fd 31 16 .ro 0, fd 15 0 .ro 0]⟩ /- KRK_LAT -/,
  ⟨0x381C, [], [fd 31 0 .ro 0]⟩ /- KRK_TBLCRC -/,
  ⟨0x3820, [(4, 8, 0)], [fd 31 30 .ro 0, fd 24 16 .ro 0, fd 15 0 .ro 0]⟩ /- KRK_PORTp_STAT -/,
  ⟨0x3824, [(4, 8, 0)], [fd 31 24 .rc 0, fd 23 16 .rc 0, fd 15 8 .rc 0]⟩ /- KRK_PORTp_ERR -/,
  ⟨0x3900, [(16, 4, 0)], [fd 31 0 .ro 0]⟩ /- KRK_REACHk -/]

/-- Registers PRT_. -/
def regsPRT : List RegKind := [
  ⟨0x4000, [], [fc 31 24 20, fc 23 16 128, fc 2 2 1, fc 1 1 1, fc 0 0 1]⟩ /- PRT_CFG -/,
  ⟨0x4004, [], [fc 29 28 3, fc 27 24 0, fd 23 0 .ro 0]⟩ /- PRT_EN_LO -/,
  ⟨0x4008, [], [fd 14 10 .ro 31, fd 7 6 .ro 3, fd 4 4 .ro 1, fd 0 0 .ro 1, fc 9 8 3, fc 5 5 1, fc 3 1 7]⟩ /- PRT_EN_HI -/,
  ⟨0x400C, [], [fc 27 0 268435455]⟩ /- PRT_LOOPEN_LO -/,
  ⟨0x4010, [], [fc 14 0 32767]⟩ /- PRT_LOOPEN_HI -/,
  ⟨0x4014, [], [fd 31 0 .ro 0]⟩ /- PRT_ACT_LO -/,
  ⟨0x4018, [], [fd 31 0 .ro 0]⟩ /- PRT_ACT_HI -/,
  ⟨0x401C, [], [fd 31 0 .w1c 0]⟩ /- PRT_LAT_LO -/,
  ⟨0x4020, [], [fd 31 0 .w1c 4096]⟩ /- PRT_LAT_HI -/,
  ⟨0x4024, [], [fd 31 31 .ro 1, fd 7 7 .ro 0, fd 6 6 .ro 0, fd 5 4 .ro 3, fd 3 2 .ro 0, fd 1 0 .ro 0]⟩ /- PRT_STAT -/,
  ⟨0x4028, [], [fd 3 3 .w1c 0, fd 2 2 .w1c 0, fd 1 1 .w1c 0, fd 0 0 .w1c 0]⟩ /- PRT_FLAG -/,
  ⟨0x402C, [], [fd 31 31 .ro 1, fd 5 0 .ro 44]⟩ /- PRT_FIRST -/,
  ⟨0x4030, [], [fd 31 0 .ro 0]⟩ /- PRT_FSTAMP_LO -/,
  ⟨0x4034, [], [fd 31 0 .ro 0]⟩ /- PRT_FSTAMP_HI -/,
  ⟨0x4038, [], [fd 31 16 .rc 0, fd 15 0 .rc 0]⟩ /- PRT_CNT -/]

/-- Registers SAF_. -/
def regsSAF : List RegKind := [
  ⟨0x4400, [], [fd 31 31 .ro 0, fd 30 30 .ro 0, fd 29 29 .ro 0, fd 28 28 .ro 0, fd 27 24 .ro 15, fd 23 20 .ro 0, fd 19 16 .ro 0, fd 15 8 .ro 0, fd 7 0 .ro 255]⟩ /- SAF_STAT -/,
  ⟨0x4404, [], [fd 15 0 .ro 0]⟩ /- SAF_SIN -/,
  ⟨0x4408, [], [fd 23 16 .ro 1, fd 5 5 .ro 0, fd 4 4 .ro 0, fd 3 3 .ro 0, fd 2 2 .ro 0, fd 1 0 .ro 3]⟩ /- SAF_HEDGE -/,
  ⟨0x440C, [], [fd 5 5 .w1c 0, fd 4 4 .w1c 0, fd 3 3 .w1c 0, fd 2 2 .w1c 0, fd 1 1 .w1c 0, fd 0 0 .w1c 0]⟩ /- SAF_FLAG -/,
  ⟨0x4410, [], [fd 11 8 .ro 15, fd 3 0 .ro 0]⟩ /- SAF_FAULT -/,
  ⟨0x4414, [], [fd 31 0 .ro 0]⟩ /- SAF_FSTAMP_LO -/,
  ⟨0x4418, [], [fd 31 0 .ro 0]⟩ /- SAF_FSTAMP_HI -/,
  ⟨0x441C, [], [fd 31 0 .ro 0]⟩ /- SAF_CRC -/,
  ⟨0x4420, [], [fd 31 0 .ro 0]⟩ /- SAF_PEND -/]

/-- Registers MTR_. -/
def regsMTR : List RegKind := [
  ⟨0x4800, [], [fc 1 1 1, fc 0 0 0]⟩ /- MTR_CTL -/,
  ⟨0x4804, [], [fd 31 31 .ro 0, fd 30 30 .ro 0, fd 29 29 .ro 0, fd 28 28 .ro 0, fd 27 27 .ro 0, fd 26 26 .ro 0, fd 25 25 .ro 0, fd 24 24 .ro 0, fd 23 22 .ro 0, fd 15 0 .ro 0]⟩ /- MTR_STAT -/,
  ⟨0x4808, [], [fd 9 9 .w1c 0, fd 8 8 .w1c 0, fd 7 7 .w1c 0, fd 6 6 .w1c 0, fd 5 5 .w1c 0, fd 4 4 .w1c 0, fd 3 3 .w1c 0, fd 2 2 .w1c 0, fd 1 1 .w1c 0, fd 0 0 .w1c 0]⟩ /- MTR_FLAG -/,
  ⟨0x480C, [], [fd 31 0 .ro 0]⟩ /- MTR_FREQ -/,
  ⟨0x4810, [], [fd 31 0 .ro 0]⟩ /- MTR_PTOT -/,
  ⟨0x4814, [], [fd 31 0 .ro 0]⟩ /- MTR_QTOT -/,
  ⟨0x4818, [], [fd 4 0 .rw 0]⟩ /- MTR_ASEL -/,
  ⟨0x481C, [], [fd 31 0 .ro 0]⟩ /- MTR_ACC_LO -/,
  ⟨0x4820, [], [fd 31 0 .ro 0]⟩ /- MTR_ACC_HI -/,
  ⟨0x4824, [], [fd 31 0 .ro 0]⟩ /- MTR_ACC_FR -/,
  ⟨0x4828, [], [fd 31 0 .ro 0]⟩ /- MTR_SAVE_LO -/,
  ⟨0x482C, [], [fd 31 0 .ro 0]⟩ /- MTR_SAVE_HI -/,
  ⟨0x4830, [], [fd 31 0 .ro 0]⟩ /- MTR_SAVESEQ -/,
  ⟨0x4834, [], [fd 31 16 .rc 0, fd 15 0 .rc 0]⟩ /- MTR_CNT -/,
  ⟨0x4838, [], [fd 31 0 .ro 0]⟩ /- MTR_CFGCRC -/,
  ⟨0x4840, [(4, 4, 0)], [fd 31 16 .ro 0, fd 15 0 .rc 0]⟩ /- MTR_PSTATk -/]

/-- Registers PWR_. -/
def regsPWR : List RegKind := [
  ⟨0x5000, [], [fd 13 0 .rw 8500]⟩ /- PWR_LIMIT -/,
  ⟨0x5004, [], [fc 7 0 125]⟩ /- PWR_CFG -/,
  ⟨0x5008, [], [fd 31 16 .ro 0, fd 15 0 .ro 0]⟩ /- PWR_STAT -/,
  ⟨0x500C, [], [fd 15 0 .ro 0]⟩ /- PWR_TJ -/,
  ⟨0x5010, [], [fd 4 0 .ro 0]⟩ /- PWR_DEF -/,
  ⟨0x5014, [], [fd 1 1 .w1c 0, fd 0 0 .w1c 0]⟩ /- PWR_FLAG -/,
  ⟨0x5018, [], [fd 31 16 .rc 0, fd 15 0 .rc 0]⟩ /- PWR_CNT0 -/,
  ⟨0x501C, [], [fd 31 16 .rc 0, fd 15 0 .rc 0]⟩ /- PWR_CNT1 -/,
  ⟨0x5020, [], [fd 31 31 .wo 0, fd 15 0 .ro 0]⟩ /- PWR_PEAK -/]

/-- Registers VLT_. -/
def regsVLT : List RegKind := [
  ⟨0x5400, [], [fc 23 16 50, fc 15 14 1, fc 13 8 32, fc 7 7 1, fc 6 6 1]⟩ /- VLT_CFG -/,
  ⟨0x5408, [], [fd 31 31 .ro 0, fd 30 30 .ro 0, fd 29 29 .ro 1, fd 28 28 .ro 0, fd 27 27 .ro 0, fd 26 26 .ro 0, fd 25 25 .ro 0, fd 24 24 .ro 0, fd 23 20 .ro 0, fd 15 0 .ro 0]⟩ /- VLT_STAT -/,
  ⟨0x540C, [], [fd 7 7 .w1c 0, fd 6 6 .w1c 0, fd 5 5 .w1c 0, fd 4 4 .w1c 0, fd 3 3 .w1c 0, fd 2 2 .w1c 0, fd 1 1 .w1c 0, fd 0 0 .w1c 0]⟩ /- VLT_FLAG -/,
  ⟨0x5410, [], [fc 31 31 1, fc 30 30 0, fc 29 29 0, fc 7 0 128]⟩ /- VLT_SCk, k 0 -/,
  ⟨0x5410, [(2, 4, 1)], [fc 31 31 0, fc 30 30 0, fc 29 29 0, fc 7 0 128]⟩ /- VLT_SCk, k 1 and 2 -/,
  ⟨0x541C, [], [fc 31 31 1, fc 30 30 0, fc 29 29 0, fc 7 0 128]⟩ /- VLT_SCk, k 3 -/,
  ⟨0x5420, [], [fd 31 16 .ro 0, fd 15 0 .ro 0]⟩ /- VLT_TEG -/,
  ⟨0x5424, [], [fd 31 16 .rc 0, fd 15 0 .rc 0]⟩ /- VLT_CNT -/,
  ⟨0x5428, [], [fd 31 0 .ro 0]⟩ /- VLT_TK_LO -/,
  ⟨0x542C, [], [fd 31 0 .ro 0]⟩ /- VLT_TK_HI -/,
  ⟨0x5430, [], [fd 31 0 .ro 0]⟩ /- VLT_FAIL_LO -/,
  ⟨0x5434, [], [fd 31 0 .ro 0]⟩ /- VLT_FAIL_HI -/]

/-- Registers SNP_. -/
def regsSNP : List RegKind := [
  ⟨0x5800, [], [fc 8 8 0, fc 7 7 0, fc 6 5 0, fc 4 0 0]⟩ /- SNP_CFG -/,
  ⟨0x5804, [], [fd 11 11 .ro 0, fd 10 8 .ro 0, fd 7 4 .ro 0, fd 3 0 .ro 0]⟩ /- SNP_STAT -/,
  ⟨0x5808, [], [fd 0 0 .w1c 0]⟩ /- SNP_FLAG -/,
  ⟨0x580C, [], [fd 31 16 .rc 0, fd 15 0 .rc 0]⟩ /- SNP_CNT -/,
  ⟨0x5810, [], [fd 3 0 .wo 0]⟩ /- SNP_REL -/,
  ⟨0x5814, [], [fd 31 0 .ro 0]⟩ /- SNP_LOGSEQ -/,
  ⟨0x5818, [], [fd 31 0 .ro 0]⟩ /- SNP_SCHED_LO -/,
  ⟨0x581C, [], [fd 31 0 .ro 0]⟩ /- SNP_SCHED_HI -/]

/-- Registers IMG_. -/
def regsIMG : List RegKind := [
  ⟨0x6000, [], [fd 31 31 .ro 0, fd 30 30 .ro 0, fd 29 29 .ro 0, fd 28 28 .ro 0, fd 21 16 .ro 0, fd 10 8 .ro 0]⟩ /- IMG_STAT -/,
  ⟨0x6004, [], [fd 29 28 .ro 0, fd 27 27 .ro 0, fd 23 20 .ro 0, fd 19 16 .ro 0]⟩ /- IMG_BOOT -/,
  ⟨0x6008, [], [fd 31 0 .ro 0]⟩ /- IMG_SVER -/,
  ⟨0x600C, [], [fd 28 16 .ro 0, fd 12 0 .ro 0]⟩ /- IMG_RCVD -/,
  ⟨0x6010, [], [fd 31 16 .ro 0, fd 15 0 .ro 0]⟩ /- IMG_KPROTO -/,
  ⟨0x6014, [], [fd 4 4 .w1c 0, fd 3 3 .w1c 0, fd 2 2 .w1c 0, fd 1 1 .w1c 0, fd 0 0 .w1c 0]⟩ /- IMG_FLAG -/,
  ⟨0x6018, [], [fd 15 0 .ro 0]⟩ /- IMG_HOTIME -/]

/-- The registers of the block that owns an offset (R32). -/
def regsOf (off : Nat) : List RegKind :=
  if off < 0x0400 then regsHIF
  else if off < 0x0800 then regsCLK
  else if off < 0x1000 then regsFRM
  else if off < 0x1800 then regsADC
  else if off < 0x1C00 then regsCMP
  else if off < 0x2000 then regsANG
  else if off < 0x2800 then regsCE
  else if off < 0x3000 then regsMOD
  else if off < 0x3800 then regsTHK
  else if off < 0x4000 then regsKRK
  else if off < 0x4400 then regsPRT
  else if off < 0x4800 then regsSAF
  else if off < 0x5000 then regsMTR
  else if off < 0x5400 then regsPWR
  else if off < 0x5800 then regsVLT
  else if off < 0x6000 then regsSNP
  else if off < 0x6800 then regsIMG
  else []

/-- `r` is reached from the base by whole strides within every dimension's index range. -/
def inDims : List (Nat × Nat × Nat) → Nat → Bool
  | [], r => r == 0
  | (c, st, f) :: t, r => decide (f ≤ r / st) && decide (r / st < f + c) && inDims t (r % st)

/-- The offset belongs to this kind. -/
def RegKind.covers (k : RegKind) (off : Nat) : Bool := decide (k.base ≤ off) && inDims k.dims (off - k.base)

/-- The kind of the register at an offset; none where the offset is unassigned (R10). -/
def findReg (off : Nat) : Option RegKind := (regsOf off).find? (·.covers off)

/-- The reset value of a kind. -/
def RegKind.resetWord (k : RegKind) : Word :=
  k.fields.foldl (fun w f => w ||| BitVec.ofNat 32 (f.reset * 2 ^ f.lo)) 0#32

/-- The value a register holds right after RESET_N is released; 0 at unassigned addresses (R10). -/
def resetWord (off : Nat) : Word :=
  match findReg off with
  | none => 0#32
  | some k => k.resetWord

end Sys2Proof.Machine
end

