-- ==== Sys2Proof/Machine/Fields.lean ====
section
/-! DEFINITION. One name for every field of every register, as the spec's register tables name them; an array's field takes
the register's index (two indexes for a two-dimensional array). A name without a field part is the register's offset. -/

namespace Sys2Proof.Machine

/-- A field: its register's BAR0 offset and its bits. -/
structure Fld where
  off : Nat
  hi : Nat
  lo : Nat
  deriving DecidableEq, Repr

end Sys2Proof.Machine

namespace Sys2Proof.Machine.Reg

/-- Offset of HIF_ID. -/
def HIF_ID : Nat := 0x0000
/-- HIF_ID [31:16]. -/
def HIF_ID_PART : Fld := ⟨0x0000, 31, 16⟩
/-- HIF_ID [15:12]. -/
def HIF_ID_REVL : Fld := ⟨0x0000, 15, 12⟩
/-- HIF_ID [11:8]. -/
def HIF_ID_REVD : Fld := ⟨0x0000, 11, 8⟩
/-- Offset of HIF_FWVER. -/
def HIF_FWVER : Nat := 0x0004
/-- HIF_FWVER [31:24]. -/
def HIF_FWVER_MAJOR : Fld := ⟨0x0004, 31, 24⟩
/-- HIF_FWVER [23:16]. -/
def HIF_FWVER_MINOR : Fld := ⟨0x0004, 23, 16⟩
/-- HIF_FWVER [15:0]. -/
def HIF_FWVER_BUILD : Fld := ⟨0x0004, 15, 0⟩
/-- Offset of HIF_STAT. -/
def HIF_STAT : Nat := 0x0008
/-- HIF_STAT [31:31]. -/
def HIF_STAT_CMDRDY : Fld := ⟨0x0008, 31, 31⟩
/-- HIF_STAT [30:30]. -/
def HIF_STAT_LINKUP : Fld := ⟨0x0008, 30, 30⟩
/-- HIF_STAT [29:28]. -/
def HIF_STAT_SPEED : Fld := ⟨0x0008, 29, 28⟩
/-- HIF_STAT [27:26]. -/
def HIF_STAT_WIDTH : Fld := ⟨0x0008, 27, 26⟩
/-- HIF_STAT [25:25]. -/
def HIF_STAT_SPIMODE : Fld := ⟨0x0008, 25, 25⟩
/-- HIF_STAT [3:0]. -/
def HIF_STAT_STATE : Fld := ⟨0x0008, 3, 0⟩
/-- Offset of HIF_CFG. -/
def HIF_CFG : Nat := 0x000C
/-- HIF_CFG [31:24]. -/
def HIF_CFG_DEFTO : Fld := ⟨0x000C, 31, 24⟩
/-- HIF_CFG [2:2]. -/
def HIF_CFG_MBXIEN : Fld := ⟨0x000C, 2, 2⟩
/-- HIF_CFG [1:1]. -/
def HIF_CFG_MBXWIN : Fld := ⟨0x000C, 1, 1⟩
/-- Offset of HIF_FLAG. -/
def HIF_FLAG : Nat := 0x0010
/-- HIF_FLAG [7:7]. -/
def HIF_FLAG_DMAERR_F : Fld := ⟨0x0010, 7, 7⟩
/-- HIF_FLAG [6:6]. -/
def HIF_FLAG_MGTDROP_F : Fld := ⟨0x0010, 6, 6⟩
/-- HIF_FLAG [5:5]. -/
def HIF_FLAG_INTERR_F : Fld := ⟨0x0010, 5, 5⟩
/-- HIF_FLAG [4:4]. -/
def HIF_FLAG_AQERR_F : Fld := ⟨0x0010, 4, 4⟩
/-- HIF_FLAG [3:3]. -/
def HIF_FLAG_SPIERR_F : Fld := ⟨0x0010, 3, 3⟩
/-- HIF_FLAG [2:2]. -/
def HIF_FLAG_DBERR_F : Fld := ⟨0x0010, 2, 2⟩
/-- HIF_FLAG [1:1]. -/
def HIF_FLAG_MBXERR_F : Fld := ⟨0x0010, 1, 1⟩
/-- HIF_FLAG [0:0]. -/
def HIF_FLAG_HIF_WERR_F : Fld := ⟨0x0010, 0, 0⟩
/-- Offset of HIF_EVT. -/
def HIF_EVT : Nat := 0x0014
/-- HIF_EVT [6:6]. -/
def HIF_EVT_MBX : Fld := ⟨0x0014, 6, 6⟩
/-- HIF_EVT [5:5]. -/
def HIF_EVT_FLAG : Fld := ⟨0x0014, 5, 5⟩
/-- HIF_EVT [4:4]. -/
def HIF_EVT_MEMBER : Fld := ⟨0x0014, 4, 4⟩
/-- HIF_EVT [3:3]. -/
def HIF_EVT_SAFETY : Fld := ⟨0x0014, 3, 3⟩
/-- HIF_EVT [2:2]. -/
def HIF_EVT_STATE : Fld := ⟨0x0014, 2, 2⟩
/-- HIF_EVT [1:1]. -/
def HIF_EVT_TRIP : Fld := ⟨0x0014, 1, 1⟩
/-- HIF_EVT [0:0]. -/
def HIF_EVT_CMP : Fld := ⟨0x0014, 0, 0⟩
/-- Offset of HIF_EVTEN. -/
def HIF_EVTEN : Nat := 0x0018
/-- HIF_EVTEN [6:0]. -/
def HIF_EVTEN_EN : Fld := ⟨0x0018, 6, 0⟩
/-- Offset of HIF_SPIERR. -/
def HIF_SPIERR : Nat := 0x001C
/-- HIF_SPIERR [31:24]. -/
def HIF_SPIERR_CRC : Fld := ⟨0x001C, 31, 24⟩
/-- HIF_SPIERR [23:16]. -/
def HIF_SPIERR_LEN : Fld := ⟨0x001C, 23, 16⟩
/-- HIF_SPIERR [15:8]. -/
def HIF_SPIERR_ALIGN : Fld := ⟨0x001C, 15, 8⟩
/-- HIF_SPIERR [7:0]. -/
def HIF_SPIERR_SPACE : Fld := ⟨0x001C, 7, 0⟩
/-- Offset of HIF_AQ_CFG. -/
def HIF_AQ_CFG : Nat := 0x0020
/-- HIF_AQ_CFG [31:31]. -/
def HIF_AQ_CFG_EN : Fld := ⟨0x0020, 31, 31⟩
/-- HIF_AQ_CFG [30:30]. -/
def HIF_AQ_CFG_WIN : Fld := ⟨0x0020, 30, 30⟩
/-- HIF_AQ_CFG [29:29]. -/
def HIF_AQ_CFG_IEN : Fld := ⟨0x0020, 29, 29⟩
/-- HIF_AQ_CFG [21:16]. -/
def HIF_AQ_CFG_IV : Fld := ⟨0x0020, 21, 16⟩
/-- HIF_AQ_CFG [11:8]. -/
def HIF_AQ_CFG_CQLOG : Fld := ⟨0x0020, 11, 8⟩
/-- HIF_AQ_CFG [3:0]. -/
def HIF_AQ_CFG_SQLOG : Fld := ⟨0x0020, 3, 0⟩
/-- Offset of HIF_AQ_SQB_LO. -/
def HIF_AQ_SQB_LO : Nat := 0x0024
/-- HIF_AQ_SQB_LO [31:0]. -/
def HIF_AQ_SQB_LO_BASE : Fld := ⟨0x0024, 31, 0⟩
/-- Offset of HIF_AQ_SQB_HI. -/
def HIF_AQ_SQB_HI : Nat := 0x0028
/-- HIF_AQ_SQB_HI [31:0]. -/
def HIF_AQ_SQB_HI_BASE : Fld := ⟨0x0028, 31, 0⟩
/-- Offset of HIF_AQ_CQB_LO. -/
def HIF_AQ_CQB_LO : Nat := 0x002C
/-- HIF_AQ_CQB_LO [31:0]. -/
def HIF_AQ_CQB_LO_BASE : Fld := ⟨0x002C, 31, 0⟩
/-- Offset of HIF_AQ_CQB_HI. -/
def HIF_AQ_CQB_HI : Nat := 0x0030
/-- HIF_AQ_CQB_HI [31:0]. -/
def HIF_AQ_CQB_HI_BASE : Fld := ⟨0x0030, 31, 0⟩
/-- Offset of HIF_QSEL. -/
def HIF_QSEL : Nat := 0x0040
/-- HIF_QSEL [5:0]. -/
def HIF_QSEL_QUEUE : Fld := ⟨0x0040, 5, 0⟩
/-- Offset of HIF_QSTAT. -/
def HIF_QSTAT : Nat := 0x0044
/-- HIF_QSTAT [31:31]. -/
def HIF_QSTAT_EN : Fld := ⟨0x0044, 31, 31⟩
/-- HIF_QSTAT [30:30]. -/
def HIF_QSTAT_ERR : Fld := ⟨0x0044, 30, 30⟩
/-- HIF_QSTAT [29:29]. -/
def HIF_QSTAT_WIN : Fld := ⟨0x0044, 29, 29⟩
/-- HIF_QSTAT [28:28]. -/
def HIF_QSTAT_PHASE : Fld := ⟨0x0044, 28, 28⟩
/-- HIF_QSTAT [27:16]. -/
def HIF_QSTAT_SQHEAD : Fld := ⟨0x0044, 27, 16⟩
/-- HIF_QSTAT [11:0]. -/
def HIF_QSTAT_CQTAIL : Fld := ⟨0x0044, 11, 0⟩
/-- Offset of HIF_QWAIT. -/
def HIF_QWAIT : Nat := 0x0048
/-- HIF_QWAIT [28:16]. -/
def HIF_QWAIT_WAIT : Fld := ⟨0x0048, 28, 16⟩
/-- HIF_QWAIT [12:0]. -/
def HIF_QWAIT_CQRES : Fld := ⟨0x0048, 12, 0⟩
/-- Offset of HIF_MBX_CMDj. -/
def HIF_MBX_CMDj (i : Nat) : Nat := 0x0100 + 4 * i
/-- HIF_MBX_CMDj [31:0]. -/
def HIF_MBX_CMDj_CMD (i : Nat) : Fld := ⟨0x0100 + 4 * i, 31, 0⟩
/-- Offset of HIF_MBX_RESj. -/
def HIF_MBX_RESj (i : Nat) : Nat := 0x0140 + 4 * i
/-- HIF_MBX_RESj [31:0]. -/
def HIF_MBX_RESj_RES (i : Nat) : Fld := ⟨0x0140 + 4 * i, 31, 0⟩
/-- Offset of HIF_MBX_CTL. -/
def HIF_MBX_CTL : Nat := 0x0160
/-- HIF_MBX_CTL [0:0]. -/
def HIF_MBX_CTL_GO : Fld := ⟨0x0160, 0, 0⟩
/-- Offset of HIF_MBX_STAT. -/
def HIF_MBX_STAT : Nat := 0x0164
/-- HIF_MBX_STAT [31:24]. -/
def HIF_MBX_STAT_SEQ : Fld := ⟨0x0164, 31, 24⟩
/-- HIF_MBX_STAT [2:2]. -/
def HIF_MBX_STAT_BUSY : Fld := ⟨0x0164, 2, 2⟩
/-- HIF_MBX_STAT [1:1]. -/
def HIF_MBX_STAT_VALID : Fld := ⟨0x0164, 1, 1⟩
/-- HIF_MBX_STAT [0:0]. -/
def HIF_MBX_STAT_STALE : Fld := ⟨0x0164, 0, 0⟩
/-- Offset of HIF_MBX_ACK. -/
def HIF_MBX_ACK : Nat := 0x0168
/-- HIF_MBX_ACK [7:0]. -/
def HIF_MBX_ACK_SEQ : Fld := ⟨0x0168, 7, 0⟩
/-- Offset of HIF_MGT_CFG. -/
def HIF_MGT_CFG : Nat := 0x0200
/-- HIF_MGT_CFG [31:31]. -/
def HIF_MGT_CFG_EN : Fld := ⟨0x0200, 31, 31⟩
/-- HIF_MGT_CFG [30:30]. -/
def HIF_MGT_CFG_MODE : Fld := ⟨0x0200, 30, 30⟩
/-- HIF_MGT_CFG [29:29]. -/
def HIF_MGT_CFG_TRANSP : Fld := ⟨0x0200, 29, 29⟩
/-- HIF_MGT_CFG [23:16]. -/
def HIF_MGT_CFG_DOMAIN : Fld := ⟨0x0200, 23, 16⟩
/-- HIF_MGT_CFG [15:8]. -/
def HIF_MGT_CFG_CCLASS : Fld := ⟨0x0200, 15, 8⟩
/-- HIF_MGT_CFG [0:0]. -/
def HIF_MGT_CFG_LINK : Fld := ⟨0x0200, 0, 0⟩
/-- Offset of HIF_MAC_LO. -/
def HIF_MAC_LO : Nat := 0x0204
/-- HIF_MAC_LO [31:0]. -/
def HIF_MAC_LO_MAC : Fld := ⟨0x0204, 31, 0⟩
/-- Offset of HIF_MAC_HI. -/
def HIF_MAC_HI : Nat := 0x0208
/-- HIF_MAC_HI [15:0]. -/
def HIF_MAC_HI_MAC : Fld := ⟨0x0208, 15, 0⟩
/-- Offset of HIF_MGT_IP. -/
def HIF_MGT_IP : Nat := 0x020C
/-- HIF_MGT_IP [31:0]. -/
def HIF_MGT_IP_IP : Fld := ⟨0x020C, 31, 0⟩
/-- Offset of HIF_PTPOFS_LO. -/
def HIF_PTPOFS_LO : Nat := 0x0210
/-- HIF_PTPOFS_LO [31:0]. -/
def HIF_PTPOFS_LO_OFS : Fld := ⟨0x0210, 31, 0⟩
/-- Offset of HIF_PTPOFS_HI. -/
def HIF_PTPOFS_HI : Nat := 0x0214
/-- HIF_PTPOFS_HI [31:0]. -/
def HIF_PTPOFS_HI_OFS : Fld := ⟨0x0214, 31, 0⟩
/-- Offset of HIF_MGT_CNT. -/
def HIF_MGT_CNT : Nat := 0x0218
/-- HIF_MGT_CNT [31:16]. -/
def HIF_MGT_CNT_RXDROP : Fld := ⟨0x0218, 31, 16⟩
/-- HIF_MGT_CNT [15:0]. -/
def HIF_MGT_CNT_TXERR : Fld := ⟨0x0218, 15, 0⟩
/-- Offset of HIF_POOL_CAP0. -/
def HIF_POOL_CAP0 : Nat := 0x0300
/-- HIF_POOL_CAP0 [27:16]. -/
def HIF_POOL_CAP0_KRK_CAP : Fld := ⟨0x0300, 27, 16⟩
/-- HIF_POOL_CAP0 [11:0]. -/
def HIF_POOL_CAP0_THK_CAP : Fld := ⟨0x0300, 11, 0⟩
/-- Offset of HIF_POOL_CAP1. -/
def HIF_POOL_CAP1 : Nat := 0x0304
/-- HIF_POOL_CAP1 [11:0]. -/
def HIF_POOL_CAP1_Q_CAP : Fld := ⟨0x0304, 11, 0⟩
/-- Offset of HIF_POOL_FREE. -/
def HIF_POOL_FREE : Nat := 0x0308
/-- HIF_POOL_FREE [27:16]. -/
def HIF_POOL_FREE_RES_FREE : Fld := ⟨0x0308, 27, 16⟩
/-- HIF_POOL_FREE [12:0]. -/
def HIF_POOL_FREE_SH_FREE : Fld := ⟨0x0308, 12, 0⟩
/-- Offset of HIF_POOL_LOW. -/
def HIF_POOL_LOW : Nat := 0x030C
/-- HIF_POOL_LOW [31:31]. -/
def HIF_POOL_LOW_REARM : Fld := ⟨0x030C, 31, 31⟩
/-- HIF_POOL_LOW [12:0]. -/
def HIF_POOL_LOW_SH_LOW : Fld := ⟨0x030C, 12, 0⟩
/-- Offset of HIF_POOL_STAT. -/
def HIF_POOL_STAT : Nat := 0x0310
/-- HIF_POOL_STAT [3:3]. -/
def HIF_POOL_STAT_RESVERR_F : Fld := ⟨0x0310, 3, 3⟩
/-- HIF_POOL_STAT [2:2]. -/
def HIF_POOL_STAT_CREDERR_F : Fld := ⟨0x0310, 2, 2⟩
/-- HIF_POOL_STAT [1:1]. -/
def HIF_POOL_STAT_NOSPACE_F : Fld := ⟨0x0310, 1, 1⟩
/-- HIF_POOL_STAT [0:0]. -/
def HIF_POOL_STAT_SHEXH_F : Fld := ⟨0x0310, 0, 0⟩
/-- Offset of HIF_POOL_NOSPC. -/
def HIF_POOL_NOSPC : Nat := 0x0314
/-- HIF_POOL_NOSPC [15:0]. -/
def HIF_POOL_NOSPC_NOSPACE_CNT : Fld := ⟨0x0314, 15, 0⟩
/-- Offset of HIF_POOL_SEL. -/
def HIF_POOL_SEL : Nat := 0x0318
/-- HIF_POOL_SEL [6:0]. -/
def HIF_POOL_SEL_USER : Fld := ⟨0x0318, 6, 0⟩
/-- Offset of HIF_POOL_USE. -/
def HIF_POOL_USE : Nat := 0x031C
/-- HIF_POOL_USE [28:16]. -/
def HIF_POOL_USE_SH_HELD : Fld := ⟨0x031C, 28, 16⟩
/-- HIF_POOL_USE [7:0]. -/
def HIF_POOL_USE_RES_HELD : Fld := ⟨0x031C, 7, 0⟩
/-- Offset of CLK_CFG. -/
def CLK_CFG : Nat := 0x0400
/-- CLK_CFG [13:8]. -/
def CLK_CFG_SLEWMAX : Fld := ⟨0x0400, 13, 8⟩
/-- CLK_CFG [5:4]. -/
def CLK_CFG_LOSSACT : Fld := ⟨0x0400, 5, 4⟩
/-- CLK_CFG [3:2]. -/
def CLK_CFG_REFPORT : Fld := ⟨0x0400, 3, 2⟩
/-- CLK_CFG [1:0]. -/
def CLK_CFG_REFSEL : Fld := ⟨0x0400, 1, 0⟩
/-- Offset of CLK_STAT. -/
def CLK_STAT : Nat := 0x0404
/-- CLK_STAT [24:16]. -/
def CLK_STAT_LOCKRUN : Fld := ⟨0x0404, 24, 16⟩
/-- CLK_STAT [13:8]. -/
def CLK_STAT_BAND : Fld := ⟨0x0404, 13, 8⟩
/-- CLK_STAT [6:6]. -/
def CLK_STAT_UNSYNC : Fld := ⟨0x0404, 6, 6⟩
/-- CLK_STAT [5:5]. -/
def CLK_STAT_FREERUN : Fld := ⟨0x0404, 5, 5⟩
/-- CLK_STAT [4:4]. -/
def CLK_STAT_SRC : Fld := ⟨0x0404, 4, 4⟩
/-- CLK_STAT [2:0]. -/
def CLK_STAT_PLLST : Fld := ⟨0x0404, 2, 0⟩
/-- Offset of CLK_FLAG. -/
def CLK_FLAG : Nat := 0x0408
/-- CLK_FLAG [4:4]. -/
def CLK_FLAG_TSTEP_F : Fld := ⟨0x0408, 4, 4⟩
/-- CLK_FLAG [3:3]. -/
def CLK_FLAG_LKFAIL_F : Fld := ⟨0x0408, 3, 3⟩
/-- CLK_FLAG [2:2]. -/
def CLK_FLAG_BYP_F : Fld := ⟨0x0408, 2, 2⟩
/-- CLK_FLAG [1:1]. -/
def CLK_FLAG_REFLOSS_F : Fld := ⟨0x0408, 1, 1⟩
/-- CLK_FLAG [0:0]. -/
def CLK_FLAG_LOL_F : Fld := ⟨0x0408, 0, 0⟩
/-- Offset of CLK_PHERR. -/
def CLK_PHERR : Nat := 0x040C
/-- CLK_PHERR [15:0]. -/
def CLK_PHERR_PHERR : Fld := ⟨0x040C, 15, 0⟩
/-- Offset of CLK_TIME_LO. -/
def CLK_TIME_LO : Nat := 0x0410
/-- CLK_TIME_LO [31:0]. -/
def CLK_TIME_LO_TIME : Fld := ⟨0x0410, 31, 0⟩
/-- Offset of CLK_TIME_HI. -/
def CLK_TIME_HI : Nat := 0x0414
/-- CLK_TIME_HI [31:0]. -/
def CLK_TIME_HI_TIME : Fld := ⟨0x0414, 31, 0⟩
/-- Offset of CLK_OFFSET. -/
def CLK_OFFSET : Nat := 0x0418
/-- CLK_OFFSET [31:0]. -/
def CLK_OFFSET_OFFSET : Fld := ⟨0x0418, 31, 0⟩
/-- Offset of CLK_CNT. -/
def CLK_CNT : Nat := 0x041C
/-- CLK_CNT [31:16]. -/
def CLK_CNT_LOL_CNT : Fld := ⟨0x041C, 31, 16⟩
/-- CLK_CNT [15:0]. -/
def CLK_CNT_LKFAIL_CNT : Fld := ⟨0x041C, 15, 0⟩
/-- Offset of FRM_CFG. -/
def FRM_CFG : Nat := 0x0800
/-- FRM_CFG [21:16]. -/
def FRM_CFG_MARGIN : Fld := ⟨0x0800, 21, 16⟩
/-- FRM_CFG [8:8]. -/
def FRM_CFG_OVRSNP : Fld := ⟨0x0800, 8, 8⟩
/-- FRM_CFG [2:0]. -/
def FRM_CFG_RATE : Fld := ⟨0x0800, 2, 0⟩
/-- Offset of FRM_PHASE. -/
def FRM_PHASE : Nat := 0x0804
/-- FRM_PHASE [31:16]. -/
def FRM_PHASE_CMP_END : Fld := ⟨0x0804, 31, 16⟩
/-- FRM_PHASE [15:0]. -/
def FRM_PHASE_SW_END : Fld := ⟨0x0804, 15, 0⟩
/-- Offset of FRM_STAT. -/
def FRM_STAT : Nat := 0x0808
/-- FRM_STAT [31:16]. -/
def FRM_STAT_CLK_IN : Fld := ⟨0x0808, 31, 16⟩
/-- FRM_STAT [1:0]. -/
def FRM_STAT_PHASE : Fld := ⟨0x0808, 1, 0⟩
/-- Offset of FRM_NUM. -/
def FRM_NUM : Nat := 0x080C
/-- FRM_NUM [31:0]. -/
def FRM_NUM_FRAME : Fld := ⟨0x080C, 31, 0⟩
/-- Offset of FRM_FLAG. -/
def FRM_FLAG : Nat := 0x0810
/-- FRM_FLAG [4:4]. -/
def FRM_FLAG_ADMREJ_F : Fld := ⟨0x0810, 4, 4⟩
/-- FRM_FLAG [3:3]. -/
def FRM_FLAG_SHEDT_F : Fld := ⟨0x0810, 3, 3⟩
/-- FRM_FLAG [2:2]. -/
def FRM_FLAG_SHEDM_F : Fld := ⟨0x0810, 2, 2⟩
/-- FRM_FLAG [1:1]. -/
def FRM_FLAG_SHEDH_F : Fld := ⟨0x0810, 1, 1⟩
/-- FRM_FLAG [0:0]. -/
def FRM_FLAG_OVR_F : Fld := ⟨0x0810, 0, 0⟩
/-- Offset of FRM_OVR. -/
def FRM_OVR : Nat := 0x0814
/-- FRM_OVR [31:28]. -/
def FRM_OVR_CAUSE : Fld := ⟨0x0814, 31, 28⟩
/-- FRM_OVR [27:0]. -/
def FRM_OVR_FRAME : Fld := ⟨0x0814, 27, 0⟩
/-- Offset of FRM_SHED0. -/
def FRM_SHED0 : Nat := 0x0818
/-- FRM_SHED0 [31:16]. -/
def FRM_SHED0_SHED_M : Fld := ⟨0x0818, 31, 16⟩
/-- FRM_SHED0 [15:0]. -/
def FRM_SHED0_SHED_H : Fld := ⟨0x0818, 15, 0⟩
/-- Offset of FRM_SHED1. -/
def FRM_SHED1 : Nat := 0x081C
/-- FRM_SHED1 [15:0]. -/
def FRM_SHED1_SHED_T : Fld := ⟨0x081C, 15, 0⟩
/-- Offset of FRM_LOAD. -/
def FRM_LOAD : Nat := 0x0820
/-- FRM_LOAD [31:16]. -/
def FRM_LOAD_SHED_TYP : Fld := ⟨0x0820, 31, 16⟩
/-- FRM_LOAD [15:0]. -/
def FRM_LOAD_CTRL_WC : Fld := ⟨0x0820, 15, 0⟩
/-- Offset of FRM_PEAK. -/
def FRM_PEAK : Nat := 0x0824
/-- FRM_PEAK [31:31]. -/
def FRM_PEAK_REARM : Fld := ⟨0x0824, 31, 31⟩
/-- FRM_PEAK [15:0]. -/
def FRM_PEAK_PEAK : Fld := ⟨0x0824, 15, 0⟩
/-- Offset of ADC_CTL. -/
def ADC_CTL : Nat := 0x1000
/-- ADC_CTL [1:1]. -/
def ADC_CTL_BGEN : Fld := ⟨0x1000, 1, 1⟩
/-- ADC_CTL [0:0]. -/
def ADC_CTL_EN : Fld := ⟨0x1000, 0, 0⟩
/-- Offset of ADC_FLAG. -/
def ADC_FLAG : Nat := 0x1004
/-- ADC_FLAG [4:4]. -/
def ADC_FLAG_ILDEF_F : Fld := ⟨0x1004, 4, 4⟩
/-- ADC_FLAG [3:3]. -/
def ADC_FLAG_JLOST_F : Fld := ⟨0x1004, 3, 3⟩
/-- ADC_FLAG [2:2]. -/
def ADC_FLAG_BGFAIL_F : Fld := ⟨0x1004, 2, 2⟩
/-- ADC_FLAG [1:1]. -/
def ADC_FLAG_CALFAIL_F : Fld := ⟨0x1004, 1, 1⟩
/-- ADC_FLAG [0:0]. -/
def ADC_FLAG_CALREJ_F : Fld := ⟨0x1004, 0, 0⟩
/-- Offset of ADC_CALCTL. -/
def ADC_CALCTL : Nat := 0x1008
/-- ADC_CALCTL [9:8]. -/
def ADC_CALCTL_STEP : Fld := ⟨0x1008, 9, 8⟩
/-- ADC_CALCTL [5:0]. -/
def ADC_CALCTL_CH : Fld := ⟨0x1008, 5, 0⟩
/-- Offset of ADC_CALSTAT. -/
def ADC_CALSTAT : Nat := 0x100C
/-- ADC_CALSTAT [31:31]. -/
def ADC_CALSTAT_BUSY : Fld := ⟨0x100C, 31, 31⟩
/-- ADC_CALSTAT [18:16]. -/
def ADC_CALSTAT_RESULT : Fld := ⟨0x100C, 18, 16⟩
/-- ADC_CALSTAT [1:1]. -/
def ADC_CALSTAT_FULLOK : Fld := ⟨0x100C, 1, 1⟩
/-- ADC_CALSTAT [0:0]. -/
def ADC_CALSTAT_ZEROOK : Fld := ⟨0x100C, 0, 0⟩
/-- Offset of ADC_CALNZ. -/
def ADC_CALNZ : Nat := 0x1010
/-- ADC_CALNZ [15:0]. -/
def ADC_CALNZ_NZ_or_NF : Fld := ⟨0x1010, 15, 0⟩
/-- Offset of ADC_CALNF. -/
def ADC_CALNF : Nat := 0x1014
/-- ADC_CALNF [15:0]. -/
def ADC_CALNF_NZ_or_NF : Fld := ⟨0x1014, 15, 0⟩
/-- Offset of ADC_CALEZ. -/
def ADC_CALEZ : Nat := 0x1018
/-- ADC_CALEZ [31:0]. -/
def ADC_CALEZ_EZ_or_EF : Fld := ⟨0x1018, 31, 0⟩
/-- Offset of ADC_CALEF. -/
def ADC_CALEF : Nat := 0x101C
/-- ADC_CALEF [31:0]. -/
def ADC_CALEF_EZ_or_EF : Fld := ⟨0x101C, 31, 0⟩
/-- Offset of ADC_OVR0. -/
def ADC_OVR0 : Nat := 0x1020
/-- ADC_OVR0 [31:0]. -/
def ADC_OVR0_ADC_OVR_F : Fld := ⟨0x1020, 31, 0⟩
/-- Offset of ADC_OVR1. -/
def ADC_OVR1 : Nat := 0x1024
/-- ADC_OVR1 [15:0]. -/
def ADC_OVR1_ADC_OVR_F : Fld := ⟨0x1024, 15, 0⟩
/-- Offset of ADC_CALVAL0. -/
def ADC_CALVAL0 : Nat := 0x1028
/-- ADC_CALVAL0 [31:0]. -/
def ADC_CALVAL0_CALVAL : Fld := ⟨0x1028, 31, 0⟩
/-- Offset of ADC_CALVAL1. -/
def ADC_CALVAL1 : Nat := 0x102C
/-- ADC_CALVAL1 [15:0]. -/
def ADC_CALVAL1_CALVAL : Fld := ⟨0x102C, 15, 0⟩
/-- Offset of ADC_JSOFT. -/
def ADC_JSOFT : Nat := 0x1030
/-- ADC_JSOFT [7:0]. -/
def ADC_JSOFT_JSOFT : Fld := ⟨0x1030, 7, 0⟩
/-- Offset of ADC_JLOST. -/
def ADC_JLOST : Nat := 0x1034
/-- ADC_JLOST [15:0]. -/
def ADC_JLOST_JLOST_CNT : Fld := ⟨0x1034, 15, 0⟩
/-- Offset of ADC_BGSTAT. -/
def ADC_BGSTAT : Nat := 0x1038
/-- ADC_BGSTAT [31:16]. -/
def ADC_BGSTAT_ROT : Fld := ⟨0x1038, 31, 16⟩
/-- ADC_BGSTAT [15:12]. -/
def ADC_BGSTAT_FAILCONV : Fld := ⟨0x1038, 15, 12⟩
/-- ADC_BGSTAT [7:7]. -/
def ADC_BGSTAT_S1ACT : Fld := ⟨0x1038, 7, 7⟩
/-- ADC_BGSTAT [6:4]. -/
def ADC_BGSTAT_S1POS : Fld := ⟨0x1038, 6, 4⟩
/-- ADC_BGSTAT [3:3]. -/
def ADC_BGSTAT_S0ACT : Fld := ⟨0x1038, 3, 3⟩
/-- ADC_BGSTAT [2:0]. -/
def ADC_BGSTAT_S0POS : Fld := ⟨0x1038, 2, 0⟩
/-- Offset of ADC_STSEL. -/
def ADC_STSEL : Nat := 0x103C
/-- ADC_STSEL [5:0]. -/
def ADC_STSEL_CH : Fld := ⟨0x103C, 5, 0⟩
/-- Offset of ADC_STAMP_LO. -/
def ADC_STAMP_LO : Nat := 0x1040
/-- ADC_STAMP_LO [31:0]. -/
def ADC_STAMP_LO_STAMP : Fld := ⟨0x1040, 31, 0⟩
/-- Offset of ADC_STAMP_HI. -/
def ADC_STAMP_HI : Nat := 0x1044
/-- ADC_STAMP_HI [31:0]. -/
def ADC_STAMP_HI_STAMP : Fld := ⟨0x1044, 31, 0⟩
/-- Offset of ADC_PAIRp_CFG. -/
def ADC_PAIRp_CFG (i : Nat) : Nat := 0x1080 + 4 * i
/-- ADC_PAIRp_CFG [29:24]. -/
def ADC_PAIRp_CFG_JTRIG (i : Nat) : Fld := ⟨0x1080 + 4 * i, 29, 24⟩
/-- ADC_PAIRp_CFG [22:20]. -/
def ADC_PAIRp_CFG_JCH (i : Nat) : Fld := ⟨0x1080 + 4 * i, 22, 20⟩
/-- ADC_PAIRp_CFG [16:16]. -/
def ADC_PAIRp_CFG_METER (i : Nat) : Fld := ⟨0x1080 + 4 * i, 16, 16⟩
/-- ADC_PAIRp_CFG [14:12]. -/
def ADC_PAIRp_CFG_ILCH (i : Nat) : Fld := ⟨0x1080 + 4 * i, 14, 12⟩
/-- ADC_PAIRp_CFG [9:8]. -/
def ADC_PAIRp_CFG_MODE (i : Nat) : Fld := ⟨0x1080 + 4 * i, 9, 8⟩
/-- ADC_PAIRp_CFG [5:0]. -/
def ADC_PAIRp_CFG_MASK (i : Nat) : Fld := ⟨0x1080 + 4 * i, 5, 0⟩
/-- Offset of ADC_PAIRp_SEL. -/
def ADC_PAIRp_SEL (i : Nat) : Nat := 0x10A0 + 4 * i
/-- ADC_PAIRp_SEL [2:0]. -/
def ADC_PAIRp_SEL_SEL (i : Nat) : Fld := ⟨0x10A0 + 4 * i, 2, 0⟩
/-- Offset of ADC_RESn. -/
def ADC_RESn (i : Nat) : Nat := 0x1100 + 4 * i
/-- ADC_RESn [31:31]. -/
def ADC_RESn_OVR (i : Nat) : Fld := ⟨0x1100 + 4 * i, 31, 31⟩
/-- ADC_RESn [30:30]. -/
def ADC_RESn_SUSPECT (i : Nat) : Fld := ⟨0x1100 + 4 * i, 30, 30⟩
/-- ADC_RESn [29:29]. -/
def ADC_RESn_CONV (i : Nat) : Fld := ⟨0x1100 + 4 * i, 29, 29⟩
/-- ADC_RESn [28:28]. -/
def ADC_RESn_SPARE (i : Nat) : Fld := ⟨0x1100 + 4 * i, 28, 28⟩
/-- ADC_RESn [11:0]. -/
def ADC_RESn_CODE (i : Nat) : Fld := ⟨0x1100 + 4 * i, 11, 0⟩
/-- Offset of ADC_JRESp. -/
def ADC_JRESp (i : Nat) : Nat := 0x1200 + 16 * i
/-- ADC_JRESp [31:31]. -/
def ADC_JRESp_OVR (i : Nat) : Fld := ⟨0x1200 + 16 * i, 31, 31⟩
/-- ADC_JRESp [30:30]. -/
def ADC_JRESp_SUSPECT (i : Nat) : Fld := ⟨0x1200 + 16 * i, 30, 30⟩
/-- ADC_JRESp [29:29]. -/
def ADC_JRESp_DONE (i : Nat) : Fld := ⟨0x1200 + 16 * i, 29, 29⟩
/-- ADC_JRESp [18:16]. -/
def ADC_JRESp_CH (i : Nat) : Fld := ⟨0x1200 + 16 * i, 18, 16⟩
/-- ADC_JRESp [11:0]. -/
def ADC_JRESp_CODE (i : Nat) : Fld := ⟨0x1200 + 16 * i, 11, 0⟩
/-- Offset of ADC_JSTAMPp_LO. -/
def ADC_JSTAMPp_LO (i : Nat) : Nat := 0x1204 + 16 * i
/-- ADC_JSTAMPp_LO [31:0]. -/
def ADC_JSTAMPp_LO_STAMP (i : Nat) : Fld := ⟨0x1204 + 16 * i, 31, 0⟩
/-- Offset of ADC_JSTAMPp_HI. -/
def ADC_JSTAMPp_HI (i : Nat) : Nat := 0x1208 + 16 * i
/-- ADC_JSTAMPp_HI [31:0]. -/
def ADC_JSTAMPp_HI_STAMP (i : Nat) : Fld := ⟨0x1208 + 16 * i, 31, 0⟩
/-- Offset of ADC_GAINn. -/
def ADC_GAINn (i : Nat) : Nat := 0x1400 + 8 * i
/-- ADC_GAINn [31:0]. -/
def ADC_GAINn_GAIN (i : Nat) : Fld := ⟨0x1400 + 8 * i, 31, 0⟩
/-- Offset of ADC_OFFn. -/
def ADC_OFFn (i : Nat) : Nat := 0x1404 + 8 * i
/-- ADC_OFFn [31:0]. -/
def ADC_OFFn_OFF (i : Nat) : Fld := ⟨0x1404 + 8 * i, 31, 0⟩
/-- Offset of ADC_TRIMc. -/
def ADC_TRIMc (i : Nat) : Nat := 0x1600 + 4 * i
/-- ADC_TRIMc [31:16]. -/
def ADC_TRIMc_GAIN (i : Nat) : Fld := ⟨0x1600 + 4 * i, 31, 16⟩
/-- ADC_TRIMc [15:0]. -/
def ADC_TRIMc_OFF (i : Nat) : Fld := ⟨0x1600 + 4 * i, 15, 0⟩
/-- Offset of CMP_CFGi. -/
def CMP_CFGi (i : Nat) : Nat := 0x1800 + 8 * i
/-- CMP_CFGi [31:31]. -/
def CMP_CFGi_EN (i : Nat) : Fld := ⟨0x1800 + 8 * i, 31, 31⟩
/-- CMP_CFGi [30:30]. -/
def CMP_CFGi_PUST (i : Nat) : Fld := ⟨0x1800 + 8 * i, 30, 30⟩
/-- CMP_CFGi [29:28]. -/
def CMP_CFGi_MODE (i : Nat) : Fld := ⟨0x1800 + 8 * i, 29, 28⟩
/-- CMP_CFGi [27:27]. -/
def CMP_CFGi_FUNC (i : Nat) : Fld := ⟨0x1800 + 8 * i, 27, 27⟩
/-- CMP_CFGi [26:26]. -/
def CMP_CFGi_POL (i : Nat) : Fld := ⟨0x1800 + 8 * i, 26, 26⟩
/-- CMP_CFGi [25:22]. -/
def CMP_CFGi_HYS (i : Nat) : Fld := ⟨0x1800 + 8 * i, 25, 22⟩
/-- CMP_CFGi [19:10]. -/
def CMP_CFGi_HI (i : Nat) : Fld := ⟨0x1800 + 8 * i, 19, 10⟩
/-- CMP_CFGi [9:0]. -/
def CMP_CFGi_LO (i : Nat) : Fld := ⟨0x1800 + 8 * i, 9, 0⟩
/-- Offset of CMP_ROUTEi. -/
def CMP_ROUTEi (i : Nat) : Nat := 0x1804 + 8 * i
/-- CMP_ROUTEi [5:4]. -/
def CMP_ROUTEi_EDGE (i : Nat) : Fld := ⟨0x1804 + 8 * i, 5, 4⟩
/-- CMP_ROUTEi [3:3]. -/
def CMP_ROUTEi_TRIP (i : Nat) : Fld := ⟨0x1804 + 8 * i, 3, 3⟩
/-- CMP_ROUTEi [2:2]. -/
def CMP_ROUTEi_WAKE (i : Nat) : Fld := ⟨0x1804 + 8 * i, 2, 2⟩
/-- CMP_ROUTEi [1:1]. -/
def CMP_ROUTEi_IRQ (i : Nat) : Fld := ⟨0x1804 + 8 * i, 1, 1⟩
/-- CMP_ROUTEi [0:0]. -/
def CMP_ROUTEi_CAPT (i : Nat) : Fld := ⟨0x1804 + 8 * i, 0, 0⟩
/-- Offset of CMP_STATE. -/
def CMP_STATE : Nat := 0x18C0
/-- CMP_STATE [23:0]. -/
def CMP_STATE_STATE : Fld := ⟨0x18C0, 23, 0⟩
/-- Offset of CMP_BAND. -/
def CMP_BAND : Nat := 0x18C4
/-- CMP_BAND [23:0]. -/
def CMP_BAND_HYSTBAND : Fld := ⟨0x18C4, 23, 0⟩
/-- Offset of CMP_ENTRY. -/
def CMP_ENTRY : Nat := 0x18C8
/-- CMP_ENTRY [23:0]. -/
def CMP_ENTRY_ENTRY_F : Fld := ⟨0x18C8, 23, 0⟩
/-- Offset of CMP_EXIT. -/
def CMP_EXIT : Nat := 0x18CC
/-- CMP_EXIT [23:0]. -/
def CMP_EXIT_EXIT_F : Fld := ⟨0x18CC, 23, 0⟩
/-- Offset of CMP_STSEL. -/
def CMP_STSEL : Nat := 0x18D0
/-- CMP_STSEL [4:0]. -/
def CMP_STSEL_SEL : Fld := ⟨0x18D0, 4, 0⟩
/-- Offset of CMP_STAMP_LO. -/
def CMP_STAMP_LO : Nat := 0x18D4
/-- CMP_STAMP_LO [31:0]. -/
def CMP_STAMP_LO_STAMP : Fld := ⟨0x18D4, 31, 0⟩
/-- Offset of CMP_STAMP_HI. -/
def CMP_STAMP_HI : Nat := 0x18D8
/-- CMP_STAMP_HI [31:0]. -/
def CMP_STAMP_HI_STAMP : Fld := ⟨0x18D8, 31, 0⟩
/-- Offset of CMP_CAPINFO. -/
def CMP_CAPINFO : Nat := 0x18DC
/-- CMP_CAPINFO [1:1]. -/
def CMP_CAPINFO_VALID : Fld := ⟨0x18DC, 1, 1⟩
/-- CMP_CAPINFO [0:0]. -/
def CMP_CAPINFO_EDGE : Fld := ⟨0x18DC, 0, 0⟩
/-- Offset of ANG_CFG. -/
def ANG_CFG : Nat := 0x1C00
/-- ANG_CFG [31:24]. -/
def ANG_CFG_HOFF : Fld := ⟨0x1C00, 31, 24⟩
/-- ANG_CFG [21:16]. -/
def ANG_CFG_PLLCTX : Fld := ⟨0x1C00, 21, 16⟩
/-- ANG_CFG [15:8]. -/
def ANG_CFG_FILT : Fld := ⟨0x1C00, 15, 8⟩
/-- ANG_CFG [3:3]. -/
def ANG_CFG_AUTORET : Fld := ⟨0x1C00, 3, 3⟩
/-- ANG_CFG [2:1]. -/
def ANG_CFG_SRC : Fld := ⟨0x1C00, 2, 1⟩
/-- ANG_CFG [0:0]. -/
def ANG_CFG_EN : Fld := ⟨0x1C00, 0, 0⟩
/-- Offset of ANG_CPC. -/
def ANG_CPC : Nat := 0x1C04
/-- ANG_CPC [23:16]. -/
def ANG_CPC_IDXTOL : Fld := ⟨0x1C04, 23, 16⟩
/-- ANG_CPC [15:0]. -/
def ANG_CPC_CPC : Fld := ⟨0x1C04, 15, 0⟩
/-- Offset of ANG_FCFG. -/
def ANG_FCFG : Nat := 0x1C08
/-- ANG_FCFG [25:16]. -/
def ANG_FCFG_STILL : Fld := ⟨0x1C08, 25, 16⟩
/-- ANG_FCFG [5:0]. -/
def ANG_FCFG_WIN : Fld := ⟨0x1C08, 5, 0⟩
/-- Offset of ANG_THR. -/
def ANG_THR : Nat := 0x1C0C
/-- ANG_THR [15:8]. -/
def ANG_THR_CHI : Fld := ⟨0x1C0C, 15, 8⟩
/-- ANG_THR [7:0]. -/
def ANG_THR_CLO : Fld := ⟨0x1C0C, 7, 0⟩
/-- Offset of ANG_ZOFF. -/
def ANG_ZOFF : Nat := 0x1C10
/-- ANG_ZOFF [31:0]. -/
def ANG_ZOFF_ZOFF : Fld := ⟨0x1C10, 31, 0⟩
/-- Offset of ANG_CTL. -/
def ANG_CTL : Nat := 0x1C14
/-- ANG_CTL [0:0]. -/
def ANG_CTL_REARM : Fld := ⟨0x1C14, 0, 0⟩
/-- Offset of ANG_STAT. -/
def ANG_STAT : Nat := 0x1C18
/-- ANG_STAT [31:16]. -/
def ANG_STAT_POS : Fld := ⟨0x1C18, 31, 16⟩
/-- ANG_STAT [15:15]. -/
def ANG_STAT_INDEXED : Fld := ⟨0x1C18, 15, 15⟩
/-- ANG_STAT [14:14]. -/
def ANG_STAT_DIR : Fld := ⟨0x1C18, 14, 14⟩
/-- ANG_STAT [13:13]. -/
def ANG_STAT_METH : Fld := ⟨0x1C18, 13, 13⟩
/-- ANG_STAT [12:12]. -/
def ANG_STAT_ACTIVE : Fld := ⟨0x1C18, 12, 12⟩
/-- ANG_STAT [11:11]. -/
def ANG_STAT_BLEND : Fld := ⟨0x1C18, 11, 11⟩
/-- ANG_STAT [10:8]. -/
def ANG_STAT_XST : Fld := ⟨0x1C18, 10, 8⟩
/-- Offset of ANG_ANGLE. -/
def ANG_ANGLE : Nat := 0x1C1C
/-- ANG_ANGLE [31:0]. -/
def ANG_ANGLE_ANGLE : Fld := ⟨0x1C1C, 31, 0⟩
/-- Offset of ANG_XANGLE. -/
def ANG_XANGLE : Nat := 0x1C20
/-- ANG_XANGLE [31:0]. -/
def ANG_XANGLE_XANGLE : Fld := ⟨0x1C20, 31, 0⟩
/-- Offset of ANG_FREQ. -/
def ANG_FREQ : Nat := 0x1C24
/-- ANG_FREQ [31:0]. -/
def ANG_FREQ_FREQ : Fld := ⟨0x1C24, 31, 0⟩
/-- Offset of ANG_XFREQ. -/
def ANG_XFREQ : Nat := 0x1C28
/-- ANG_XFREQ [31:0]. -/
def ANG_XFREQ_XFREQ : Fld := ⟨0x1C28, 31, 0⟩
/-- Offset of ANG_FLAG. -/
def ANG_FLAG : Nat := 0x1C2C
/-- ANG_FLAG [6:6]. -/
def ANG_FLAG_HOFF_F : Fld := ⟨0x1C2C, 6, 6⟩
/-- ANG_FLAG [5:5]. -/
def ANG_FLAG_INVAL_F : Fld := ⟨0x1C2C, 5, 5⟩
/-- ANG_FLAG [4:4]. -/
def ANG_FLAG_STILL_F : Fld := ⟨0x1C2C, 4, 4⟩
/-- ANG_FLAG [3:3]. -/
def ANG_FLAG_IDXMISS_F : Fld := ⟨0x1C2C, 3, 3⟩
/-- ANG_FLAG [2:2]. -/
def ANG_FLAG_IDXERR_F : Fld := ⟨0x1C2C, 2, 2⟩
/-- ANG_FLAG [1:1]. -/
def ANG_FLAG_ILL_F : Fld := ⟨0x1C2C, 1, 1⟩
/-- ANG_FLAG [0:0]. -/
def ANG_FLAG_REV_F : Fld := ⟨0x1C2C, 0, 0⟩
/-- Offset of ANG_CNT. -/
def ANG_CNT : Nat := 0x1C30
/-- ANG_CNT [31:16]. -/
def ANG_CNT_ANG_ERR : Fld := ⟨0x1C30, 31, 16⟩
/-- ANG_CNT [15:0]. -/
def ANG_CNT_IDXERR_CNT : Fld := ⟨0x1C30, 15, 0⟩
/-- Offset of ANG_ESTAMP_LO. -/
def ANG_ESTAMP_LO : Nat := 0x1C34
/-- ANG_ESTAMP_LO [31:0]. -/
def ANG_ESTAMP_LO_STAMP : Fld := ⟨0x1C34, 31, 0⟩
/-- Offset of ANG_ESTAMP_HI. -/
def ANG_ESTAMP_HI : Nat := 0x1C38
/-- ANG_ESTAMP_HI [31:0]. -/
def ANG_ESTAMP_HI_STAMP : Fld := ⟨0x1C38, 31, 0⟩
/-- Offset of ANG_ZSTAMP_LO. -/
def ANG_ZSTAMP_LO : Nat := 0x1C3C
/-- ANG_ZSTAMP_LO [31:0]. -/
def ANG_ZSTAMP_LO_STAMP : Fld := ⟨0x1C3C, 31, 0⟩
/-- Offset of ANG_ZSTAMP_HI. -/
def ANG_ZSTAMP_HI : Nat := 0x1C40
/-- ANG_ZSTAMP_HI [31:0]. -/
def ANG_ZSTAMP_HI_STAMP : Fld := ⟨0x1C40, 31, 0⟩
/-- Offset of CE_FLAG. -/
def CE_FLAG : Nat := 0x2000
/-- CE_FLAG [3:3]. -/
def CE_FLAG_INJSTP_F : Fld := ⟨0x2000, 3, 3⟩
/-- CE_FLAG [2:2]. -/
def CE_FLAG_CAPABT_F : Fld := ⟨0x2000, 2, 2⟩
/-- CE_FLAG [1:1]. -/
def CE_FLAG_PHI_F : Fld := ⟨0x2000, 1, 1⟩
/-- CE_FLAG [0:0]. -/
def CE_FLAG_PLOSS_F : Fld := ⟨0x2000, 0, 0⟩
/-- Offset of CE_SUM_LO. -/
def CE_SUM_LO : Nat := 0x2010
/-- CE_SUM_LO [31:1]. -/
def CE_SUM_LO_SUM : Fld := ⟨0x2010, 31, 1⟩
/-- Offset of CE_SUM_HI. -/
def CE_SUM_HI : Nat := 0x2014
/-- CE_SUM_HI [31:0]. -/
def CE_SUM_HI_SUM : Fld := ⟨0x2014, 31, 0⟩
/-- Offset of CE_SPP_CFG. -/
def CE_SPP_CFG : Nat := 0x2020
/-- CE_SPP_CFG [25:16]. -/
def CE_SPP_CFG_LOSSDET : Fld := ⟨0x2020, 25, 16⟩
/-- CE_SPP_CFG [15:8]. -/
def CE_SPP_CFG_PFILT : Fld := ⟨0x2020, 15, 8⟩
/-- CE_SPP_CFG [0:0]. -/
def CE_SPP_CFG_EN : Fld := ⟨0x2020, 0, 0⟩
/-- Offset of CE_SPP_HOLD. -/
def CE_SPP_HOLD : Nat := 0x2024
/-- CE_SPP_HOLD [13:0]. -/
def CE_SPP_HOLD_THOLD : Fld := ⟨0x2024, 13, 0⟩
/-- Offset of CE_SPP_RAMP. -/
def CE_SPP_RAMP : Nat := 0x2028
/-- CE_SPP_RAMP [31:0]. -/
def CE_SPP_RAMP_RAMP : Fld := ⟨0x2028, 31, 0⟩
/-- Offset of CE_SPP_FB. -/
def CE_SPP_FB : Nat := 0x202C
/-- CE_SPP_FB [31:0]. -/
def CE_SPP_FB_FB : Fld := ⟨0x202C, 31, 0⟩
/-- Offset of CE_SPP_FREQ. -/
def CE_SPP_FREQ : Nat := 0x2030
/-- CE_SPP_FREQ [31:0]. -/
def CE_SPP_FREQ_FREQ : Fld := ⟨0x2030, 31, 0⟩
/-- Offset of CE_SPP_VAL. -/
def CE_SPP_VAL : Nat := 0x2034
/-- CE_SPP_VAL [31:0]. -/
def CE_SPP_VAL_VAL : Fld := ⟨0x2034, 31, 0⟩
/-- Offset of CE_SPP_STAT. -/
def CE_SPP_STAT : Nat := 0x2038
/-- CE_SPP_STAT [2:0]. -/
def CE_SPP_STAT_ST : Fld := ⟨0x2038, 2, 0⟩
/-- Offset of CE_INJg_STAT. -/
def CE_INJg_STAT (i : Nat) : Nat := 0x2040 + 4 * i
/-- CE_INJg_STAT [31:31]. -/
def CE_INJg_STAT_ACTIVE (i : Nat) : Fld := ⟨0x2040 + 4 * i, 31, 31⟩
/-- CE_INJg_STAT [29:24]. -/
def CE_INJg_STAT_CTX (i : Nat) : Fld := ⟨0x2040 + 4 * i, 29, 24⟩
/-- CE_INJg_STAT [23:0]. -/
def CE_INJg_STAT_RUNS (i : Nat) : Fld := ⟨0x2040 + 4 * i, 23, 0⟩
/-- Offset of CE_CAP_STAT. -/
def CE_CAP_STAT : Nat := 0x2050
/-- CE_CAP_STAT [31:31]. -/
def CE_CAP_STAT_DONE : Fld := ⟨0x2050, 31, 31⟩
/-- CE_CAP_STAT [30:30]. -/
def CE_CAP_STAT_ARMED : Fld := ⟨0x2050, 30, 30⟩
/-- CE_CAP_STAT [29:29]. -/
def CE_CAP_STAT_TRIGD : Fld := ⟨0x2050, 29, 29⟩
/-- CE_CAP_STAT [28:28]. -/
def CE_CAP_STAT_ABORT : Fld := ⟨0x2050, 28, 28⟩
/-- CE_CAP_STAT [16:0]. -/
def CE_CAP_STAT_RECS : Fld := ⟨0x2050, 16, 0⟩
/-- Offset of CE_TBLSTAT. -/
def CE_TBLSTAT : Nat := 0x2060
/-- CE_TBLSTAT [31:31]. -/
def CE_TBLSTAT_PEND : Fld := ⟨0x2060, 31, 31⟩
/-- CE_TBLSTAT [19:16]. -/
def CE_TBLSTAT_PTBL : Fld := ⟨0x2060, 19, 16⟩
/-- CE_TBLSTAT [15:0]. -/
def CE_TBLSTAT_VALID : Fld := ⟨0x2060, 15, 0⟩
/-- Offset of CE_CFLAGc. -/
def CE_CFLAGc (i : Nat) : Nat := 0x2100 + 4 * i
/-- CE_CFLAGc [20:20]. -/
def CE_CFLAGc_HELD (i : Nat) : Fld := ⟨0x2100 + 4 * i, 20, 20⟩
/-- CE_CFLAGc [19:19]. -/
def CE_CFLAGc_NAN (i : Nat) : Fld := ⟨0x2100 + 4 * i, 19, 19⟩
/-- CE_CFLAGc [18:18]. -/
def CE_CFLAGc_OVF (i : Nat) : Fld := ⟨0x2100 + 4 * i, 18, 18⟩
/-- CE_CFLAGc [17:17]. -/
def CE_CFLAGc_WIND (i : Nat) : Fld := ⟨0x2100 + 4 * i, 17, 17⟩
/-- CE_CFLAGc [16:16]. -/
def CE_CFLAGc_SAT (i : Nat) : Fld := ⟨0x2100 + 4 * i, 16, 16⟩
/-- CE_CFLAGc [4:4]. -/
def CE_CFLAGc_HELD_F (i : Nat) : Fld := ⟨0x2100 + 4 * i, 4, 4⟩
/-- CE_CFLAGc [3:3]. -/
def CE_CFLAGc_NAN_F (i : Nat) : Fld := ⟨0x2100 + 4 * i, 3, 3⟩
/-- CE_CFLAGc [2:2]. -/
def CE_CFLAGc_OVF_F (i : Nat) : Fld := ⟨0x2100 + 4 * i, 2, 2⟩
/-- CE_CFLAGc [1:1]. -/
def CE_CFLAGc_WIND_F (i : Nat) : Fld := ⟨0x2100 + 4 * i, 1, 1⟩
/-- CE_CFLAGc [0:0]. -/
def CE_CFLAGc_SAT_F (i : Nat) : Fld := ⟨0x2100 + 4 * i, 0, 0⟩
/-- Offset of CE_CSTATc. -/
def CE_CSTATc (i : Nat) : Nat := 0x2200 + 4 * i
/-- CE_CSTATc [31:31]. -/
def CE_CSTATc_LOADED (i : Nat) : Fld := ⟨0x2200 + 4 * i, 31, 31⟩
/-- CE_CSTATc [30:30]. -/
def CE_CSTATc_EN (i : Nat) : Fld := ⟨0x2200 + 4 * i, 30, 30⟩
/-- CE_CSTATc [23:16]. -/
def CE_CSTATc_LAW (i : Nat) : Fld := ⟨0x2200 + 4 * i, 23, 16⟩
/-- CE_CSTATc [15:0]. -/
def CE_CSTATc_COST (i : Nat) : Fld := ⟨0x2200 + 4 * i, 15, 0⟩
/-- Offset of CE_OUTc_k. -/
def CE_OUTc_k (i : Nat) (j : Nat) : Nat := 0x2400 + 16 * i + 4 * j
/-- CE_OUTc_k [31:0]. -/
def CE_OUTc_k_OUT (i : Nat) (j : Nat) : Fld := ⟨0x2400 + 16 * i + 4 * j, 31, 0⟩
/-- Offset of MOD_CTL. -/
def MOD_CTL : Nat := 0x2800
/-- MOD_CTL [1:1]. -/
def MOD_CTL_XCMDTRIP : Fld := ⟨0x2800, 1, 1⟩
/-- MOD_CTL [0:0]. -/
def MOD_CTL_DITHEN : Fld := ⟨0x2800, 0, 0⟩
/-- Offset of MOD_FLAG. -/
def MOD_FLAG : Nat := 0x2804
/-- MOD_FLAG [7:7]. -/
def MOD_FLAG_OVM_F : Fld := ⟨0x2804, 7, 7⟩
/-- MOD_FLAG [6:6]. -/
def MOD_FLAG_MINP_F : Fld := ⟨0x2804, 6, 6⟩
/-- MOD_FLAG [5:5]. -/
def MOD_FLAG_CLRREJ_F : Fld := ⟨0x2804, 5, 5⟩
/-- MOD_FLAG [4:4]. -/
def MOD_FLAG_SPLITUPD_F : Fld := ⟨0x2804, 4, 4⟩
/-- MOD_FLAG [3:3]. -/
def MOD_FLAG_DUTYCLP_F : Fld := ⟨0x2804, 3, 3⟩
/-- MOD_FLAG [2:2]. -/
def MOD_FLAG_BSCLAMP_F : Fld := ⟨0x2804, 2, 2⟩
/-- MOD_FLAG [1:1]. -/
def MOD_FLAG_XCMD_F : Fld := ⟨0x2804, 1, 1⟩
/-- MOD_FLAG [0:0]. -/
def MOD_FLAG_HALT_F : Fld := ⟨0x2804, 0, 0⟩
/-- Offset of MOD_COMMIT. -/
def MOD_COMMIT : Nat := 0x2808
/-- MOD_COMMIT [11:0]. -/
def MOD_COMMIT_COMMIT : Fld := ⟨0x2808, 11, 0⟩
/-- Offset of MOD_FLTCLR. -/
def MOD_FLTCLR : Nat := 0x280C
/-- MOD_FLTCLR [27:16]. -/
def MOD_FLTCLR_XCLR : Fld := ⟨0x280C, 27, 16⟩
/-- MOD_FLTCLR [11:0]. -/
def MOD_FLTCLR_FCLR : Fld := ⟨0x280C, 11, 0⟩
/-- Offset of MOD_CELLCFG. -/
def MOD_CELLCFG : Nat := 0x2810
/-- MOD_CELLCFG [31:16]. -/
def MOD_CELLCFG_DTC : Fld := ⟨0x2810, 31, 16⟩
/-- MOD_CELLCFG [15:8]. -/
def MOD_CELLCFG_MINPC : Fld := ⟨0x2810, 15, 8⟩
/-- Offset of MOD_BSCELL. -/
def MOD_BSCELL : Nat := 0x2814
/-- MOD_BSCELL [31:24]. -/
def MOD_BSCELL_BTHR : Fld := ⟨0x2814, 31, 24⟩
/-- MOD_BSCELL [23:16]. -/
def MOD_BSCELL_TREF : Fld := ⟨0x2814, 23, 16⟩
/-- MOD_BSCELL [15:0]. -/
def MOD_BSCELL_THOLD : Fld := ⟨0x2814, 15, 0⟩
/-- Offset of MOD_CNT0. -/
def MOD_CNT0 : Nat := 0x2818
/-- MOD_CNT0 [31:16]. -/
def MOD_CNT0_XCMD_CNT : Fld := ⟨0x2818, 31, 16⟩
/-- MOD_CNT0 [15:0]. -/
def MOD_CNT0_MINP_CNT : Fld := ⟨0x2818, 15, 0⟩
/-- Offset of MOD_CNT1. -/
def MOD_CNT1 : Nat := 0x281C
/-- MOD_CNT1 [31:16]. -/
def MOD_CNT1_BSREF_CNT : Fld := ⟨0x281C, 31, 16⟩
/-- MOD_CNT1 [15:0]. -/
def MOD_CNT1_BSROT_CNT : Fld := ⟨0x281C, 15, 0⟩
/-- Offset of MOD_GRPg_CAR. -/
def MOD_GRPg_CAR (i : Nat) : Nat := 0x2840 + 8 * i
/-- MOD_GRPg_CAR [31:24]. -/
def MOD_GRPg_CAR_CFRM1 (i : Nat) : Fld := ⟨0x2840 + 8 * i, 31, 24⟩
/-- MOD_GRPg_CAR [17:16]. -/
def MOD_GRPg_CAR_SCHEME (i : Nat) : Fld := ⟨0x2840 + 8 * i, 17, 16⟩
/-- MOD_GRPg_CAR [15:0]. -/
def MOD_GRPg_CAR_NSLOT (i : Nat) : Fld := ⟨0x2840 + 8 * i, 15, 0⟩
/-- Offset of MOD_GRPg_PROF. -/
def MOD_GRPg_PROF (i : Nat) : Nat := 0x2844 + 8 * i
/-- MOD_GRPg_PROF [31:16]. -/
def MOD_GRPg_PROF_NLMOFF (i : Nat) : Fld := ⟨0x2844 + 8 * i, 31, 16⟩
/-- MOD_GRPg_PROF [7:4]. -/
def MOD_GRPg_PROF_PREF (i : Nat) : Fld := ⟨0x2844 + 8 * i, 7, 4⟩
/-- MOD_GRPg_PROF [3:0]. -/
def MOD_GRPg_PROF_PNORM (i : Nat) : Fld := ⟨0x2844 + 8 * i, 3, 0⟩
/-- Offset of MOD_GCMPg_j. -/
def MOD_GCMPg_j (i : Nat) : Nat := 0x2900 + 4 * i
/-- MOD_GCMPg_j [31:31]. -/
def MOD_GCMPg_j_EN (i : Nat) : Fld := ⟨0x2900 + 4 * i, 31, 31⟩
/-- MOD_GCMPg_j [28:24]. -/
def MOD_GCMPg_j_LINE (i : Nat) : Fld := ⟨0x2900 + 4 * i, 28, 24⟩
/-- MOD_GCMPg_j [23:0]. -/
def MOD_GCMPg_j_POS (i : Nat) : Fld := ⟨0x2900 + 4 * i, 23, 0⟩
/-- Offset of MOD_HBn_CFG. -/
def MOD_HBn_CFG (i : Nat) : Nat := 0x2A00 + 64 * i
/-- MOD_HBn_CFG [31:31]. -/
def MOD_HBn_CFG_EN (i : Nat) : Fld := ⟨0x2A00 + 64 * i, 31, 31⟩
/-- MOD_HBn_CFG [30:30]. -/
def MOD_HBn_CFG_SRC (i : Nat) : Fld := ⟨0x2A00 + 64 * i, 30, 30⟩
/-- MOD_HBn_CFG [29:29]. -/
def MOD_HBn_CFG_UPD (i : Nat) : Fld := ⟨0x2A00 + 64 * i, 29, 29⟩
/-- MOD_HBn_CFG [28:28]. -/
def MOD_HBn_CFG_ALIGN (i : Nat) : Fld := ⟨0x2A00 + 64 * i, 28, 28⟩
/-- MOD_HBn_CFG [27:26]. -/
def MOD_HBn_CFG_SAFE (i : Nat) : Fld := ⟨0x2A00 + 64 * i, 27, 26⟩
/-- MOD_HBn_CFG [19:16]. -/
def MOD_HBn_CFG_FLTSEL (i : Nat) : Fld := ⟨0x2A00 + 64 * i, 19, 16⟩
/-- MOD_HBn_CFG [9:0]. -/
def MOD_HBn_CFG_DT (i : Nat) : Fld := ⟨0x2A00 + 64 * i, 9, 0⟩
/-- Offset of MOD_HBn_PERIOD. -/
def MOD_HBn_PERIOD (i : Nat) : Nat := 0x2A04 + 64 * i
/-- MOD_HBn_PERIOD [19:0]. -/
def MOD_HBn_PERIOD_PERIOD (i : Nat) : Fld := ⟨0x2A04 + 64 * i, 19, 0⟩
/-- Offset of MOD_HBn_DUTY. -/
def MOD_HBn_DUTY (i : Nat) : Nat := 0x2A08 + 64 * i
/-- MOD_HBn_DUTY [23:4]. -/
def MOD_HBn_DUTY_DUTY (i : Nat) : Fld := ⟨0x2A08 + 64 * i, 23, 4⟩
/-- MOD_HBn_DUTY [3:0]. -/
def MOD_HBn_DUTY_DFRAC (i : Nat) : Fld := ⟨0x2A08 + 64 * i, 3, 0⟩
/-- Offset of MOD_HBn_PHASE. -/
def MOD_HBn_PHASE (i : Nat) : Nat := 0x2A0C + 64 * i
/-- MOD_HBn_PHASE [19:0]. -/
def MOD_HBn_PHASE_PHASE (i : Nat) : Fld := ⟨0x2A0C + 64 * i, 19, 0⟩
/-- Offset of MOD_HBn_BS. -/
def MOD_HBn_BS (i : Nat) : Nat := 0x2A10 + 64 * i
/-- MOD_HBn_BS [31:24]. -/
def MOD_HBn_BS_BTHR (i : Nat) : Fld := ⟨0x2A10 + 64 * i, 31, 24⟩
/-- MOD_HBn_BS [23:16]. -/
def MOD_HBn_BS_TREF (i : Nat) : Fld := ⟨0x2A10 + 64 * i, 23, 16⟩
/-- MOD_HBn_BS [15:0]. -/
def MOD_HBn_BS_THOLD (i : Nat) : Fld := ⟨0x2A10 + 64 * i, 15, 0⟩
/-- Offset of MOD_HBn_APER. -/
def MOD_HBn_APER (i : Nat) : Nat := 0x2A14 + 64 * i
/-- MOD_HBn_APER [19:0]. -/
def MOD_HBn_APER_APERIOD (i : Nat) : Fld := ⟨0x2A14 + 64 * i, 19, 0⟩
/-- Offset of MOD_HBn_ADUTY. -/
def MOD_HBn_ADUTY (i : Nat) : Nat := 0x2A18 + 64 * i
/-- MOD_HBn_ADUTY [23:4]. -/
def MOD_HBn_ADUTY_ADUTY (i : Nat) : Fld := ⟨0x2A18 + 64 * i, 23, 4⟩
/-- Offset of MOD_HBn_STAT. -/
def MOD_HBn_STAT (i : Nat) : Nat := 0x2A1C + 64 * i
/-- MOD_HBn_STAT [31:16]. -/
def MOD_HBn_STAT_BSQ (i : Nat) : Fld := ⟨0x2A1C + 64 * i, 31, 16⟩
/-- MOD_HBn_STAT [8:8]. -/
def MOD_HBn_STAT_PEND (i : Nat) : Fld := ⟨0x2A1C + 64 * i, 8, 8⟩
/-- MOD_HBn_STAT [7:7]. -/
def MOD_HBn_STAT_BSCLAMP (i : Nat) : Fld := ⟨0x2A1C + 64 * i, 7, 7⟩
/-- MOD_HBn_STAT [6:6]. -/
def MOD_HBn_STAT_XCMD (i : Nat) : Fld := ⟨0x2A1C + 64 * i, 6, 6⟩
/-- MOD_HBn_STAT [5:5]. -/
def MOD_HBn_STAT_FLTLAT (i : Nat) : Fld := ⟨0x2A1C + 64 * i, 5, 5⟩
/-- MOD_HBn_STAT [4:4]. -/
def MOD_HBn_STAT_FLTACT (i : Nat) : Fld := ⟨0x2A1C + 64 * i, 4, 4⟩
/-- MOD_HBn_STAT [1:0]. -/
def MOD_HBn_STAT_OUT (i : Nat) : Fld := ⟨0x2A1C + 64 * i, 1, 0⟩
/-- Offset of MOD_HBn_CMPk. -/
def MOD_HBn_CMPk (i : Nat) (j : Nat) : Nat := 0x2A20 + 64 * i + 4 * j
/-- MOD_HBn_CMPk [31:31]. -/
def MOD_HBn_CMPk_EN (i : Nat) (j : Nat) : Fld := ⟨0x2A20 + 64 * i + 4 * j, 31, 31⟩
/-- MOD_HBn_CMPk [28:24]. -/
def MOD_HBn_CMPk_LINE (i : Nat) (j : Nat) : Fld := ⟨0x2A20 + 64 * i + 4 * j, 28, 24⟩
/-- MOD_HBn_CMPk [19:0]. -/
def MOD_HBn_CMPk_POS (i : Nat) (j : Nat) : Fld := ⟨0x2A20 + 64 * i + 4 * j, 19, 0⟩
/-- Offset of THK_CFG. -/
def THK_CFG : Nat := 0x3000
/-- THK_CFG [31:28]. -/
def THK_CFG_XPF : Fld := ⟨0x3000, 31, 28⟩
/-- THK_CFG [16:16]. -/
def THK_CFG_AUTOHEAL : Fld := ⟨0x3000, 16, 16⟩
/-- THK_CFG [11:0]. -/
def THK_CFG_TCOLLECT : Fld := ⟨0x3000, 11, 0⟩
/-- Offset of THK_FLAG. -/
def THK_FLAG : Nat := 0x3004
/-- THK_FLAG [6:6]. -/
def THK_FLAG_CMDREJ_F : Fld := ⟨0x3004, 6, 6⟩
/-- THK_FLAG [5:5]. -/
def THK_FLAG_UNSRV_F : Fld := ⟨0x3004, 5, 5⟩
/-- THK_FLAG [4:4]. -/
def THK_FLAG_ALARM_F : Fld := ⟨0x3004, 4, 4⟩
/-- THK_FLAG [3:3]. -/
def THK_FLAG_CRCERR_F : Fld := ⟨0x3004, 3, 3⟩
/-- THK_FLAG [2:2]. -/
def THK_FLAG_DISCERR_F : Fld := ⟨0x3004, 2, 2⟩
/-- THK_FLAG [1:1]. -/
def THK_FLAG_HEAL_F : Fld := ⟨0x3004, 1, 1⟩
/-- THK_FLAG [0:0]. -/
def THK_FLAG_FOLD_F : Fld := ⟨0x3004, 0, 0⟩
/-- Offset of THK_CMD. -/
def THK_CMD : Nat := 0x3008
/-- THK_CMD [31:30]. -/
def THK_CMD_OP : Fld := ⟨0x3008, 31, 30⟩
/-- THK_CMD [3:0]. -/
def THK_CMD_RING : Fld := ⟨0x3008, 3, 0⟩
/-- Offset of THK_BUDGET. -/
def THK_BUDGET : Nat := 0x3010
/-- THK_BUDGET [31:16]. -/
def THK_BUDGET_DREQ : Fld := ⟨0x3010, 31, 16⟩
/-- THK_BUDGET [15:0]. -/
def THK_BUDGET_TREQ : Fld := ⟨0x3010, 15, 0⟩
/-- Offset of THK_ALM. -/
def THK_ALM : Nat := 0x3018
/-- THK_ALM [31:31]. -/
def THK_ALM_VALID : Fld := ⟨0x3018, 31, 31⟩
/-- THK_ALM [19:16]. -/
def THK_ALM_CODE : Fld := ⟨0x3018, 19, 16⟩
/-- THK_ALM [13:10]. -/
def THK_ALM_RING : Fld := ⟨0x3018, 13, 10⟩
/-- THK_ALM [9:4]. -/
def THK_ALM_CELL : Fld := ⟨0x3018, 9, 4⟩
/-- Offset of THK_RINGr_CFG. -/
def THK_RINGr_CFG (i : Nat) : Nat := 0x3100 + 16 * i
/-- THK_RINGr_CFG [31:31]. -/
def THK_RINGr_CFG_EN (i : Nat) : Fld := ⟨0x3100 + 16 * i, 31, 31⟩
/-- THK_RINGr_CFG [22:16]. -/
def THK_RINGr_CFG_NFOUND (i : Nat) : Fld := ⟨0x3100 + 16 * i, 22, 16⟩
/-- THK_RINGr_CFG [6:0]. -/
def THK_RINGr_CFG_NCELL (i : Nat) : Fld := ⟨0x3100 + 16 * i, 6, 0⟩
/-- Offset of THK_RINGr_STAT. -/
def THK_RINGr_STAT (i : Nat) : Nat := 0x3104 + 16 * i
/-- THK_RINGr_STAT [31:29]. -/
def THK_RINGr_STAT_ST (i : Nat) : Fld := ⟨0x3104 + 16 * i, 31, 29⟩
/-- THK_RINGr_STAT [28:22]. -/
def THK_RINGr_STAT_SEG_E (i : Nat) : Fld := ⟨0x3104 + 16 * i, 28, 22⟩
/-- THK_RINGr_STAT [21:15]. -/
def THK_RINGr_STAT_SEG_W (i : Nat) : Fld := ⟨0x3104 + 16 * i, 21, 15⟩
/-- THK_RINGr_STAT [14:8]. -/
def THK_RINGr_STAT_SERV_E (i : Nat) : Fld := ⟨0x3104 + 16 * i, 14, 8⟩
/-- THK_RINGr_STAT [7:1]. -/
def THK_RINGr_STAT_SERV_W (i : Nat) : Fld := ⟨0x3104 + 16 * i, 7, 1⟩
/-- Offset of THK_RINGr_DLY. -/
def THK_RINGr_DLY (i : Nat) : Nat := 0x3108 + 16 * i
/-- THK_RINGr_DLY [31:16]. -/
def THK_RINGr_DLY_LW (i : Nat) : Fld := ⟨0x3108 + 16 * i, 31, 16⟩
/-- THK_RINGr_DLY [15:0]. -/
def THK_RINGr_DLY_LE (i : Nat) : Fld := ⟨0x3108 + 16 * i, 15, 0⟩
/-- Offset of THK_RINGr_ERR. -/
def THK_RINGr_ERR (i : Nat) : Nat := 0x310C + 16 * i
/-- THK_RINGr_ERR [31:24]. -/
def THK_RINGr_ERR_CRCERR (i : Nat) : Fld := ⟨0x310C + 16 * i, 31, 24⟩
/-- THK_RINGr_ERR [23:16]. -/
def THK_RINGr_ERR_CREDERR (i : Nat) : Fld := ⟨0x310C + 16 * i, 23, 16⟩
/-- THK_RINGr_ERR [15:8]. -/
def THK_RINGr_ERR_FOLDS (i : Nat) : Fld := ⟨0x310C + 16 * i, 15, 8⟩
/-- THK_RINGr_ERR [7:0]. -/
def THK_RINGr_ERR_MISS (i : Nat) : Fld := ⟨0x310C + 16 * i, 7, 0⟩
/-- Offset of KRK_ID. -/
def KRK_ID : Nat := 0x3800
/-- KRK_ID [8:4]. -/
def KRK_ID_BAY : Fld := ⟨0x3800, 8, 4⟩
/-- KRK_ID [3:0]. -/
def KRK_ID_CHIP : Fld := ⟨0x3800, 3, 0⟩
/-- Offset of KRK_CFG. -/
def KRK_CFG : Nat := 0x3804
/-- KRK_CFG [0:0]. -/
def KRK_CFG_FOLLOW : Fld := ⟨0x3804, 0, 0⟩
/-- Offset of KRK_STAT. -/
def KRK_STAT : Nat := 0x3808
/-- KRK_STAT [31:30]. -/
def KRK_STAT_MST : Fld := ⟨0x3808, 31, 30⟩
/-- KRK_STAT [29:29]. -/
def KRK_STAT_TSRC : Fld := ⟨0x3808, 29, 29⟩
/-- KRK_STAT [28:28]. -/
def KRK_STAT_KEYIN : Fld := ⟨0x3808, 28, 28⟩
/-- KRK_STAT [27:26]. -/
def KRK_STAT_LS : Fld := ⟨0x3808, 27, 26⟩
/-- KRK_STAT [25:24]. -/
def KRK_STAT_LA : Fld := ⟨0x3808, 25, 24⟩
/-- KRK_STAT [23:22]. -/
def KRK_STAT_PARPORT : Fld := ⟨0x3808, 23, 22⟩
/-- KRK_STAT [17:9]. -/
def KRK_STAT_TSIDX : Fld := ⟨0x3808, 17, 9⟩
/-- Offset of KRK_VOTES. -/
def KRK_VOTES : Nat := 0x380C
/-- KRK_VOTES [25:13]. -/
def KRK_VOTES_VTOTAL : Fld := ⟨0x380C, 25, 13⟩
/-- KRK_VOTES [12:0]. -/
def KRK_VOTES_VREACH : Fld := ⟨0x380C, 12, 0⟩
/-- Offset of KRK_VIEW. -/
def KRK_VIEW : Nat := 0x3810
/-- KRK_VIEW [31:0]. -/
def KRK_VIEW_VIEWNUM : Fld := ⟨0x3810, 31, 0⟩
/-- Offset of KRK_FLAG. -/
def KRK_FLAG : Nat := 0x3814
/-- KRK_FLAG [7:7]. -/
def KRK_FLAG_LINKDN_F : Fld := ⟨0x3814, 7, 7⟩
/-- KRK_FLAG [6:6]. -/
def KRK_FLAG_SLOTERR_F : Fld := ⟨0x3814, 6, 6⟩
/-- KRK_FLAG [5:5]. -/
def KRK_FLAG_SUMOVF_F : Fld := ⟨0x3814, 5, 5⟩
/-- KRK_FLAG [4:4]. -/
def KRK_FLAG_REDTRIP_F : Fld := ⟨0x3814, 4, 4⟩
/-- KRK_FLAG [3:3]. -/
def KRK_FLAG_TSRCCHG_F : Fld := ⟨0x3814, 3, 3⟩
/-- KRK_FLAG [2:2]. -/
def KRK_FLAG_ORPH_F : Fld := ⟨0x3814, 2, 2⟩
/-- KRK_FLAG [1:1]. -/
def KRK_FLAG_PART_F : Fld := ⟨0x3814, 1, 1⟩
/-- KRK_FLAG [0:0]. -/
def KRK_FLAG_JOINERR_F : Fld := ⟨0x3814, 0, 0⟩
/-- Offset of KRK_LAT. -/
def KRK_LAT : Nat := 0x3818
/-- KRK_LAT [31:16]. -/
def KRK_LAT_TSUM : Fld := ⟨0x3818, 31, 16⟩
/-- KRK_LAT [15:0]. -/
def KRK_LAT_TSRC : Fld := ⟨0x3818, 15, 0⟩
/-- Offset of KRK_TBLCRC. -/
def KRK_TBLCRC : Nat := 0x381C
/-- KRK_TBLCRC [31:0]. -/
def KRK_TBLCRC_CRC : Fld := ⟨0x381C, 31, 0⟩
/-- Offset of KRK_PORTp_STAT. -/
def KRK_PORTp_STAT (i : Nat) : Nat := 0x3820 + 8 * i
/-- KRK_PORTp_STAT [31:30]. -/
def KRK_PORTp_STAT_LINK (i : Nat) : Fld := ⟨0x3820 + 8 * i, 31, 30⟩
/-- KRK_PORTp_STAT [24:16]. -/
def KRK_PORTp_STAT_NEIGH (i : Nat) : Fld := ⟨0x3820 + 8 * i, 24, 16⟩
/-- KRK_PORTp_STAT [15:0]. -/
def KRK_PORTp_STAT_RDLY (i : Nat) : Fld := ⟨0x3820 + 8 * i, 15, 0⟩
/-- Offset of KRK_PORTp_ERR. -/
def KRK_PORTp_ERR (i : Nat) : Nat := 0x3824 + 8 * i
/-- KRK_PORTp_ERR [31:24]. -/
def KRK_PORTp_ERR_CRCERR (i : Nat) : Fld := ⟨0x3824 + 8 * i, 31, 24⟩
/-- KRK_PORTp_ERR [23:16]. -/
def KRK_PORTp_ERR_CREDERR (i : Nat) : Fld := ⟨0x3824 + 8 * i, 23, 16⟩
/-- KRK_PORTp_ERR [15:8]. -/
def KRK_PORTp_ERR_DOWNS (i : Nat) : Fld := ⟨0x3824 + 8 * i, 15, 8⟩
/-- Offset of KRK_REACHk. -/
def KRK_REACHk (i : Nat) : Nat := 0x3900 + 4 * i
/-- KRK_REACHk [31:0]. -/
def KRK_REACHk_REACH (i : Nat) : Fld := ⟨0x3900 + 4 * i, 31, 0⟩
/-- Offset of PRT_CFG. -/
def PRT_CFG : Nat := 0x4000
/-- PRT_CFG [31:24]. -/
def PRT_CFG_LBLANK : Fld := ⟨0x4000, 31, 24⟩
/-- PRT_CFG [23:16]. -/
def PRT_CFG_LDISC : Fld := ⟨0x4000, 23, 16⟩
/-- PRT_CFG [2:2]. -/
def PRT_CFG_SNP : Fld := ⟨0x4000, 2, 2⟩
/-- PRT_CFG [1:1]. -/
def PRT_CFG_L1EN : Fld := ⟨0x4000, 1, 1⟩
/-- PRT_CFG [0:0]. -/
def PRT_CFG_L0EN : Fld := ⟨0x4000, 0, 0⟩
/-- Offset of PRT_EN_LO. -/
def PRT_EN_LO : Nat := 0x4004
/-- PRT_EN_LO [29:28]. -/
def PRT_EN_LO_LOOP : Fld := ⟨0x4004, 29, 28⟩
/-- PRT_EN_LO [27:24]. -/
def PRT_EN_LO_FLT : Fld := ⟨0x4004, 27, 24⟩
/-- PRT_EN_LO [23:0]. -/
def PRT_EN_LO_CMP : Fld := ⟨0x4004, 23, 0⟩
/-- Offset of PRT_EN_HI. -/
def PRT_EN_HI : Nat := 0x4008
/-- PRT_EN_HI [14:10]. -/
def PRT_EN_HI_FIXED : Fld := ⟨0x4008, 14, 10⟩
/-- PRT_EN_HI [7:6]. -/
def PRT_EN_HI_FIXED6 : Fld := ⟨0x4008, 7, 6⟩
/-- PRT_EN_HI [4:4]. -/
def PRT_EN_HI_FIXED4 : Fld := ⟨0x4008, 4, 4⟩
/-- PRT_EN_HI [0:0]. -/
def PRT_EN_HI_FIXED0 : Fld := ⟨0x4008, 0, 0⟩
/-- PRT_EN_HI [9:8]. -/
def PRT_EN_HI_EN : Fld := ⟨0x4008, 9, 8⟩
/-- PRT_EN_HI [5:5]. -/
def PRT_EN_HI_EN5 : Fld := ⟨0x4008, 5, 5⟩
/-- PRT_EN_HI [3:1]. -/
def PRT_EN_HI_EN1 : Fld := ⟨0x4008, 3, 1⟩
/-- Offset of PRT_LOOPEN_LO. -/
def PRT_LOOPEN_LO : Nat := 0x400C
/-- PRT_LOOPEN_LO [27:0]. -/
def PRT_LOOPEN_LO_LOOPEN : Fld := ⟨0x400C, 27, 0⟩
/-- Offset of PRT_LOOPEN_HI. -/
def PRT_LOOPEN_HI : Nat := 0x4010
/-- PRT_LOOPEN_HI [14:0]. -/
def PRT_LOOPEN_HI_LOOPEN : Fld := ⟨0x4010, 14, 0⟩
/-- Offset of PRT_ACT_LO. -/
def PRT_ACT_LO : Nat := 0x4014
/-- PRT_ACT_LO [31:0]. -/
def PRT_ACT_LO_ACT : Fld := ⟨0x4014, 31, 0⟩
/-- Offset of PRT_ACT_HI. -/
def PRT_ACT_HI : Nat := 0x4018
/-- PRT_ACT_HI [31:0]. -/
def PRT_ACT_HI_ACT : Fld := ⟨0x4018, 31, 0⟩
/-- Offset of PRT_LAT_LO. -/
def PRT_LAT_LO : Nat := 0x401C
/-- PRT_LAT_LO [31:0]. -/
def PRT_LAT_LO_LAT : Fld := ⟨0x401C, 31, 0⟩
/-- Offset of PRT_LAT_HI. -/
def PRT_LAT_HI : Nat := 0x4020
/-- PRT_LAT_HI [31:0]. -/
def PRT_LAT_HI_LAT : Fld := ⟨0x4020, 31, 0⟩
/-- Offset of PRT_STAT. -/
def PRT_STAT : Nat := 0x4024
/-- PRT_STAT [31:31]. -/
def PRT_STAT_OUT : Fld := ⟨0x4024, 31, 31⟩
/-- PRT_STAT [7:7]. -/
def PRT_STAT_BLANK : Fld := ⟨0x4024, 7, 7⟩
/-- PRT_STAT [6:6]. -/
def PRT_STAT_HLOOP : Fld := ⟨0x4024, 6, 6⟩
/-- PRT_STAT [5:4]. -/
def PRT_STAT_TOUT : Fld := ⟨0x4024, 5, 4⟩
/-- PRT_STAT [3:2]. -/
def PRT_STAT_LL : Fld := ⟨0x4024, 3, 2⟩
/-- PRT_STAT [1:0]. -/
def PRT_STAT_TIN : Fld := ⟨0x4024, 1, 0⟩
/-- Offset of PRT_FLAG. -/
def PRT_FLAG : Nat := 0x4028
/-- PRT_FLAG [3:3]. -/
def PRT_FLAG_LOOPDIS_F : Fld := ⟨0x4028, 3, 3⟩
/-- PRT_FLAG [2:2]. -/
def PRT_FLAG_TESTFAIL_F : Fld := ⟨0x4028, 2, 2⟩
/-- PRT_FLAG [1:1]. -/
def PRT_FLAG_CLRREJ_F : Fld := ⟨0x4028, 1, 1⟩
/-- PRT_FLAG [0:0]. -/
def PRT_FLAG_TRIP_F : Fld := ⟨0x4028, 0, 0⟩
/-- Offset of PRT_FIRST. -/
def PRT_FIRST : Nat := 0x402C
/-- PRT_FIRST [31:31]. -/
def PRT_FIRST_VALID : Fld := ⟨0x402C, 31, 31⟩
/-- PRT_FIRST [5:0]. -/
def PRT_FIRST_CODE : Fld := ⟨0x402C, 5, 0⟩
/-- Offset of PRT_FSTAMP_LO. -/
def PRT_FSTAMP_LO : Nat := 0x4030
/-- PRT_FSTAMP_LO [31:0]. -/
def PRT_FSTAMP_LO_STAMP : Fld := ⟨0x4030, 31, 0⟩
/-- Offset of PRT_FSTAMP_HI. -/
def PRT_FSTAMP_HI : Nat := 0x4034
/-- PRT_FSTAMP_HI [31:0]. -/
def PRT_FSTAMP_HI_STAMP : Fld := ⟨0x4034, 31, 0⟩
/-- Offset of PRT_CNT. -/
def PRT_CNT : Nat := 0x4038
/-- PRT_CNT [31:16]. -/
def PRT_CNT_TRIPS : Fld := ⟨0x4038, 31, 16⟩
/-- PRT_CNT [15:0]. -/
def PRT_CNT_CLRREJ_CNT : Fld := ⟨0x4038, 15, 0⟩
/-- Offset of SAF_STAT. -/
def SAF_STAT : Nat := 0x4400
/-- SAF_STAT [31:31]. -/
def SAF_STAT_CFGVALID : Fld := ⟨0x4400, 31, 31⟩
/-- SAF_STAT [30:30]. -/
def SAF_STAT_HOK : Fld := ⟨0x4400, 30, 30⟩
/-- SAF_STAT [29:29]. -/
def SAF_STAT_SRST : Fld := ⟨0x4400, 29, 29⟩
/-- SAF_STAT [28:28]. -/
def SAF_STAT_ACCESS : Fld := ⟨0x4400, 28, 28⟩
/-- SAF_STAT [27:24]. -/
def SAF_STAT_CTF : Fld := ⟨0x4400, 27, 24⟩
/-- SAF_STAT [23:20]. -/
def SAF_STAT_CTOCMD : Fld := ⟨0x4400, 23, 20⟩
/-- SAF_STAT [19:16]. -/
def SAF_STAT_CTOOUT : Fld := ⟨0x4400, 19, 16⟩
/-- SAF_STAT [15:8]. -/
def SAF_STAT_FAULT : Fld := ⟨0x4400, 15, 8⟩
/-- SAF_STAT [7:0]. -/
def SAF_STAT_DEMAND : Fld := ⟨0x4400, 7, 0⟩
/-- Offset of SAF_SIN. -/
def SAF_SIN : Nat := 0x4404
/-- SAF_SIN [15:0]. -/
def SAF_SIN_SIN : Fld := ⟨0x4404, 15, 0⟩
/-- Offset of SAF_HEDGE. -/
def SAF_HEDGE : Nat := 0x4408
/-- SAF_HEDGE [23:16]. -/
def SAF_HEDGE_VERSION : Fld := ⟨0x4408, 23, 16⟩
/-- SAF_HEDGE [5:5]. -/
def SAF_HEDGE_OSCOK : Fld := ⟨0x4408, 5, 5⟩
/-- SAF_HEDGE [4:4]. -/
def SAF_HEDGE_HBOK : Fld := ⟨0x4408, 4, 4⟩
/-- SAF_HEDGE [3:3]. -/
def SAF_HEDGE_LOCKPERM : Fld := ⟨0x4408, 3, 3⟩
/-- SAF_HEDGE [2:2]. -/
def SAF_HEDGE_LOOP : Fld := ⟨0x4408, 2, 2⟩
/-- SAF_HEDGE [1:0]. -/
def SAF_HEDGE_DEM : Fld := ⟨0x4408, 1, 0⟩
/-- Offset of SAF_FLAG. -/
def SAF_FLAG : Nat := 0x440C
/-- SAF_FLAG [5:5]. -/
def SAF_FLAG_CFGERR_F : Fld := ⟨0x440C, 5, 5⟩
/-- SAF_FLAG [4:4]. -/
def SAF_FLAG_SRSTUCK_F : Fld := ⟨0x440C, 4, 4⟩
/-- SAF_FLAG [3:3]. -/
def SAF_FLAG_HDIS_F : Fld := ⟨0x440C, 3, 3⟩
/-- SAF_FLAG [2:2]. -/
def SAF_FLAG_CTF_F : Fld := ⟨0x440C, 2, 2⟩
/-- SAF_FLAG [1:1]. -/
def SAF_FLAG_DISC_F : Fld := ⟨0x440C, 1, 1⟩
/-- SAF_FLAG [0:0]. -/
def SAF_FLAG_SELFT_F : Fld := ⟨0x440C, 0, 0⟩
/-- Offset of SAF_FAULT. -/
def SAF_FAULT : Nat := 0x4410
/-- SAF_FAULT [11:8]. -/
def SAF_FAULT_FUNC : Fld := ⟨0x4410, 11, 8⟩
/-- SAF_FAULT [3:0]. -/
def SAF_FAULT_CODE : Fld := ⟨0x4410, 3, 0⟩
/-- Offset of SAF_FSTAMP_LO. -/
def SAF_FSTAMP_LO : Nat := 0x4414
/-- SAF_FSTAMP_LO [31:0]. -/
def SAF_FSTAMP_LO_STAMP : Fld := ⟨0x4414, 31, 0⟩
/-- Offset of SAF_FSTAMP_HI. -/
def SAF_FSTAMP_HI : Nat := 0x4418
/-- SAF_FSTAMP_HI [31:0]. -/
def SAF_FSTAMP_HI_STAMP : Fld := ⟨0x4418, 31, 0⟩
/-- Offset of SAF_CRC. -/
def SAF_CRC : Nat := 0x441C
/-- SAF_CRC [31:0]. -/
def SAF_CRC_CRC : Fld := ⟨0x441C, 31, 0⟩
/-- Offset of SAF_PEND. -/
def SAF_PEND : Nat := 0x4420
/-- SAF_PEND [31:0]. -/
def SAF_PEND_CRC : Fld := ⟨0x4420, 31, 0⟩
/-- Offset of MTR_CTL. -/
def MTR_CTL : Nat := 0x4800
/-- MTR_CTL [1:1]. -/
def MTR_CTL_HEN : Fld := ⟨0x4800, 1, 1⟩
/-- MTR_CTL [0:0]. -/
def MTR_CTL_EN : Fld := ⟨0x4800, 0, 0⟩
/-- Offset of MTR_STAT. -/
def MTR_STAT : Nat := 0x4804
/-- MTR_STAT [31:31]. -/
def MTR_STAT_CFGVALID : Fld := ⟨0x4804, 31, 31⟩
/-- MTR_STAT [30:30]. -/
def MTR_STAT_RUN : Fld := ⟨0x4804, 30, 30⟩
/-- MTR_STAT [29:29]. -/
def MTR_STAT_NOLOAD : Fld := ⟨0x4804, 29, 29⟩
/-- MTR_STAT [28:28]. -/
def MTR_STAT_DIR : Fld := ⟨0x4804, 28, 28⟩
/-- MTR_STAT [27:27]. -/
def MTR_STAT_PHSEQ : Fld := ⟨0x4804, 27, 27⟩
/-- MTR_STAT [26:26]. -/
def MTR_STAT_MISSNEUT : Fld := ⟨0x4804, 26, 26⟩
/-- MTR_STAT [25:25]. -/
def MTR_STAT_FREQINV : Fld := ⟨0x4804, 25, 25⟩
/-- MTR_STAT [24:24]. -/
def MTR_STAT_DEGR : Fld := ⟨0x4804, 24, 24⟩
/-- MTR_STAT [23:22]. -/
def MTR_STAT_RESTST : Fld := ⟨0x4804, 23, 22⟩
/-- MTR_STAT [15:0]. -/
def MTR_STAT_CFGCNT : Fld := ⟨0x4804, 15, 0⟩
/-- Offset of MTR_FLAG. -/
def MTR_FLAG : Nat := 0x4808
/-- MTR_FLAG [9:9]. -/
def MTR_FLAG_UNSAVED_F : Fld := ⟨0x4808, 9, 9⟩
/-- MTR_FLAG [8:8]. -/
def MTR_FLAG_RESTERR_F : Fld := ⟨0x4808, 8, 8⟩
/-- MTR_FLAG [7:7]. -/
def MTR_FLAG_SAVEDEF_F : Fld := ⟨0x4808, 7, 7⟩
/-- MTR_FLAG [6:6]. -/
def MTR_FLAG_PBKLOG_F : Fld := ⟨0x4808, 6, 6⟩
/-- MTR_FLAG [5:5]. -/
def MTR_FLAG_HGAP_F : Fld := ⟨0x4808, 5, 5⟩
/-- MTR_FLAG [4:4]. -/
def MTR_FLAG_DEGR_F : Fld := ⟨0x4808, 4, 4⟩
/-- MTR_FLAG [3:3]. -/
def MTR_FLAG_OVRM_F : Fld := ⟨0x4808, 3, 3⟩
/-- MTR_FLAG [2:2]. -/
def MTR_FLAG_MISSNEUT_F : Fld := ⟨0x4808, 2, 2⟩
/-- MTR_FLAG [1:1]. -/
def MTR_FLAG_PHSEQ_F : Fld := ⟨0x4808, 1, 1⟩
/-- MTR_FLAG [0:0]. -/
def MTR_FLAG_DIRCHG_F : Fld := ⟨0x4808, 0, 0⟩
/-- Offset of MTR_FREQ. -/
def MTR_FREQ : Nat := 0x480C
/-- MTR_FREQ [31:0]. -/
def MTR_FREQ_FREQ : Fld := ⟨0x480C, 31, 0⟩
/-- Offset of MTR_PTOT. -/
def MTR_PTOT : Nat := 0x4810
/-- MTR_PTOT [31:0]. -/
def MTR_PTOT_P : Fld := ⟨0x4810, 31, 0⟩
/-- Offset of MTR_QTOT. -/
def MTR_QTOT : Nat := 0x4814
/-- MTR_QTOT [31:0]. -/
def MTR_QTOT_Q : Fld := ⟨0x4814, 31, 0⟩
/-- Offset of MTR_ASEL. -/
def MTR_ASEL : Nat := 0x4818
/-- MTR_ASEL [4:0]. -/
def MTR_ASEL_IDX : Fld := ⟨0x4818, 4, 0⟩
/-- Offset of MTR_ACC_LO. -/
def MTR_ACC_LO : Nat := 0x481C
/-- MTR_ACC_LO [31:0]. -/
def MTR_ACC_LO_ACC : Fld := ⟨0x481C, 31, 0⟩
/-- Offset of MTR_ACC_HI. -/
def MTR_ACC_HI : Nat := 0x4820
/-- MTR_ACC_HI [31:0]. -/
def MTR_ACC_HI_ACC : Fld := ⟨0x4820, 31, 0⟩
/-- Offset of MTR_ACC_FR. -/
def MTR_ACC_FR : Nat := 0x4824
/-- MTR_ACC_FR [31:0]. -/
def MTR_ACC_FR_FRAC : Fld := ⟨0x4824, 31, 0⟩
/-- Offset of MTR_SAVE_LO. -/
def MTR_SAVE_LO : Nat := 0x4828
/-- MTR_SAVE_LO [31:0]. -/
def MTR_SAVE_LO_STAMP : Fld := ⟨0x4828, 31, 0⟩
/-- Offset of MTR_SAVE_HI. -/
def MTR_SAVE_HI : Nat := 0x482C
/-- MTR_SAVE_HI [31:0]. -/
def MTR_SAVE_HI_STAMP : Fld := ⟨0x482C, 31, 0⟩
/-- Offset of MTR_SAVESEQ. -/
def MTR_SAVESEQ : Nat := 0x4830
/-- MTR_SAVESEQ [31:0]. -/
def MTR_SAVESEQ_SEQ : Fld := ⟨0x4830, 31, 0⟩
/-- Offset of MTR_CNT. -/
def MTR_CNT : Nat := 0x4834
/-- MTR_CNT [31:16]. -/
def MTR_CNT_DIRCHG_CNT : Fld := ⟨0x4834, 31, 16⟩
/-- MTR_CNT [15:0]. -/
def MTR_CNT_HGAP_CNT : Fld := ⟨0x4834, 15, 0⟩
/-- Offset of MTR_CFGCRC. -/
def MTR_CFGCRC : Nat := 0x4838
/-- MTR_CFGCRC [31:0]. -/
def MTR_CFGCRC_CRC : Fld := ⟨0x4838, 31, 0⟩
/-- Offset of MTR_PSTATk. -/
def MTR_PSTATk (i : Nat) : Nat := 0x4840 + 4 * i
/-- MTR_PSTATk [31:16]. -/
def MTR_PSTATk_BACKLOG (i : Nat) : Fld := ⟨0x4840 + 4 * i, 31, 16⟩
/-- MTR_PSTATk [15:0]. -/
def MTR_PSTATk_LOST (i : Nat) : Fld := ⟨0x4840 + 4 * i, 15, 0⟩
/-- Offset of PWR_LIMIT. -/
def PWR_LIMIT : Nat := 0x5000
/-- PWR_LIMIT [13:0]. -/
def PWR_LIMIT_LIMIT : Fld := ⟨0x5000, 13, 0⟩
/-- Offset of PWR_CFG. -/
def PWR_CFG : Nat := 0x5004
/-- PWR_CFG [7:0]. -/
def PWR_CFG_TJCHK : Fld := ⟨0x5004, 7, 0⟩
/-- Offset of PWR_STAT. -/
def PWR_STAT : Nat := 0x5008
/-- PWR_STAT [31:16]. -/
def PWR_STAT_FIXED : Fld := ⟨0x5008, 31, 16⟩
/-- PWR_STAT [15:0]. -/
def PWR_STAT_GRANT : Fld := ⟨0x5008, 15, 0⟩
/-- Offset of PWR_TJ. -/
def PWR_TJ : Nat := 0x500C
/-- PWR_TJ [15:0]. -/
def PWR_TJ_TJ : Fld := ⟨0x500C, 15, 0⟩
/-- Offset of PWR_DEF. -/
def PWR_DEF : Nat := 0x5010
/-- PWR_DEF [4:0]. -/
def PWR_DEF_DEF : Fld := ⟨0x5010, 4, 0⟩
/-- Offset of PWR_FLAG. -/
def PWR_FLAG : Nat := 0x5014
/-- PWR_FLAG [1:1]. -/
def PWR_FLAG_DEFER_F : Fld := ⟨0x5014, 1, 1⟩
/-- PWR_FLAG [0:0]. -/
def PWR_FLAG_OVERLIM_F : Fld := ⟨0x5014, 0, 0⟩
/-- Offset of PWR_CNT0. -/
def PWR_CNT0 : Nat := 0x5018
/-- PWR_CNT0 [31:16]. -/
def PWR_CNT0_DEFH : Fld := ⟨0x5018, 31, 16⟩
/-- PWR_CNT0 [15:0]. -/
def PWR_CNT0_DEFM : Fld := ⟨0x5018, 15, 0⟩
/-- Offset of PWR_CNT1. -/
def PWR_CNT1 : Nat := 0x501C
/-- PWR_CNT1 [31:16]. -/
def PWR_CNT1_DEFT : Fld := ⟨0x501C, 31, 16⟩
/-- PWR_CNT1 [15:0]. -/
def PWR_CNT1_DEFI : Fld := ⟨0x501C, 15, 0⟩
/-- Offset of PWR_PEAK. -/
def PWR_PEAK : Nat := 0x5020
/-- PWR_PEAK [31:31]. -/
def PWR_PEAK_REARM : Fld := ⟨0x5020, 31, 31⟩
/-- PWR_PEAK [15:0]. -/
def PWR_PEAK_PEAK : Fld := ⟨0x5020, 15, 0⟩
/-- Offset of VLT_CFG. -/
def VLT_CFG : Nat := 0x5400
/-- VLT_CFG [23:16]. -/
def VLT_CFG_CHGI : Fld := ⟨0x5400, 23, 16⟩
/-- VLT_CFG [15:14]. -/
def VLT_CFG_VTICK : Fld := ⟨0x5400, 15, 14⟩
/-- VLT_CFG [13:8]. -/
def VLT_CFG_FOCVK : Fld := ⟨0x5400, 13, 8⟩
/-- VLT_CFG [7:7]. -/
def VLT_CFG_HEN : Fld := ⟨0x5400, 7, 7⟩
/-- VLT_CFG [6:6]. -/
def VLT_CFG_CHGEN : Fld := ⟨0x5400, 6, 6⟩
/-- Offset of VLT_STAT. -/
def VLT_STAT : Nat := 0x5408
/-- VLT_STAT [31:31]. -/
def VLT_STAT_TKVALID : Fld := ⟨0x5408, 31, 31⟩
/-- VLT_STAT [30:30]. -/
def VLT_STAT_MAINOK : Fld := ⟨0x5408, 30, 30⟩
/-- VLT_STAT [29:29]. -/
def VLT_STAT_CELLON : Fld := ⟨0x5408, 29, 29⟩
/-- VLT_STAT [28:28]. -/
def VLT_STAT_CHG : Fld := ⟨0x5408, 28, 28⟩
/-- VLT_STAT [27:27]. -/
def VLT_STAT_HRUN : Fld := ⟨0x5408, 27, 27⟩
/-- VLT_STAT [26:26]. -/
def VLT_STAT_CSTART : Fld := ⟨0x5408, 26, 26⟩
/-- VLT_STAT [25:25]. -/
def VLT_STAT_SAVE_DEFERRED : Fld := ⟨0x5408, 25, 25⟩
/-- VLT_STAT [24:24]. -/
def VLT_STAT_LKPVALID : Fld := ⟨0x5408, 24, 24⟩
/-- VLT_STAT [23:20]. -/
def VLT_STAT_SCST : Fld := ⟨0x5408, 23, 20⟩
/-- VLT_STAT [15:0]. -/
def VLT_STAT_VBAT : Fld := ⟨0x5408, 15, 0⟩
/-- Offset of VLT_FLAG. -/
def VLT_FLAG : Nat := 0x540C
/-- VLT_FLAG [7:7]. -/
def VLT_FLAG_WAKE_F : Fld := ⟨0x540C, 7, 7⟩
/-- VLT_FLAG [6:6]. -/
def VLT_FLAG_TAMP_F : Fld := ⟨0x540C, 6, 6⟩
/-- VLT_FLAG [5:5]. -/
def VLT_FLAG_TEMPINH_F : Fld := ⟨0x540C, 5, 5⟩
/-- VLT_FLAG [4:4]. -/
def VLT_FLAG_OC_F : Fld := ⟨0x540C, 4, 4⟩
/-- VLT_FLAG [3:3]. -/
def VLT_FLAG_CUT_F : Fld := ⟨0x540C, 3, 3⟩
/-- VLT_FLAG [2:2]. -/
def VLT_FLAG_COLD_F : Fld := ⟨0x540C, 2, 2⟩
/-- VLT_FLAG [1:1]. -/
def VLT_FLAG_GATEDEF_F : Fld := ⟨0x540C, 1, 1⟩
/-- VLT_FLAG [0:0]. -/
def VLT_FLAG_DROP_F : Fld := ⟨0x540C, 0, 0⟩
/-- Offset of VLT_SCk. -/
def VLT_SCk (i : Nat) : Nat := 0x5410 + 4 * i
/-- VLT_SCk [31:31]. -/
def VLT_SCk_EN (i : Nat) : Fld := ⟨0x5410 + 4 * i, 31, 31⟩
/-- VLT_SCk [30:30]. -/
def VLT_SCk_WAKE (i : Nat) : Fld := ⟨0x5410 + 4 * i, 30, 30⟩
/-- VLT_SCk [29:29]. -/
def VLT_SCk_POL (i : Nat) : Fld := ⟨0x5410 + 4 * i, 29, 29⟩
/-- VLT_SCk [7:0]. -/
def VLT_SCk_THR (i : Nat) : Fld := ⟨0x5410 + 4 * i, 7, 0⟩
/-- Offset of VLT_TEG. -/
def VLT_TEG : Nat := 0x5420
/-- VLT_TEG [31:16]. -/
def VLT_TEG_VOC : Fld := ⟨0x5420, 31, 16⟩
/-- VLT_TEG [15:0]. -/
def VLT_TEG_VIN : Fld := ⟨0x5420, 15, 0⟩
/-- Offset of VLT_CNT. -/
def VLT_CNT : Nat := 0x5424
/-- VLT_CNT [31:16]. -/
def VLT_CNT_DEFCNT : Fld := ⟨0x5424, 31, 16⟩
/-- VLT_CNT [15:0]. -/
def VLT_CNT_DROPCNT : Fld := ⟨0x5424, 15, 0⟩
/-- Offset of VLT_TK_LO. -/
def VLT_TK_LO : Nat := 0x5428
/-- VLT_TK_LO [31:0]. -/
def VLT_TK_LO_TIME : Fld := ⟨0x5428, 31, 0⟩
/-- Offset of VLT_TK_HI. -/
def VLT_TK_HI : Nat := 0x542C
/-- VLT_TK_HI [31:0]. -/
def VLT_TK_HI_TIME : Fld := ⟨0x542C, 31, 0⟩
/-- Offset of VLT_FAIL_LO. -/
def VLT_FAIL_LO : Nat := 0x5430
/-- VLT_FAIL_LO [31:0]. -/
def VLT_FAIL_LO_STAMP : Fld := ⟨0x5430, 31, 0⟩
/-- Offset of VLT_FAIL_HI. -/
def VLT_FAIL_HI : Nat := 0x5434
/-- VLT_FAIL_HI [31:0]. -/
def VLT_FAIL_HI_STAMP : Fld := ⟨0x5434, 31, 0⟩
/-- Offset of SNP_CFG. -/
def SNP_CFG : Nat := 0x5800
/-- SNP_CFG [8:8]. -/
def SNP_CFG_CELLS : Fld := ⟨0x5800, 8, 8⟩
/-- SNP_CFG [7:7]. -/
def SNP_CFG_CMPEN : Fld := ⟨0x5800, 7, 7⟩
/-- SNP_CFG [6:5]. -/
def SNP_CFG_CMPEDGE : Fld := ⟨0x5800, 6, 5⟩
/-- SNP_CFG [4:0]. -/
def SNP_CFG_CMPSEL : Fld := ⟨0x5800, 4, 0⟩
/-- Offset of SNP_STAT. -/
def SNP_STAT : Nat := 0x5804
/-- SNP_STAT [11:11]. -/
def SNP_STAT_SCHED : Fld := ⟨0x5804, 11, 11⟩
/-- SNP_STAT [10:8]. -/
def SNP_STAT_LASTSRC : Fld := ⟨0x5804, 10, 8⟩
/-- SNP_STAT [7:4]. -/
def SNP_STAT_RESV : Fld := ⟨0x5804, 7, 4⟩
/-- SNP_STAT [3:0]. -/
def SNP_STAT_FROZEN : Fld := ⟨0x5804, 3, 0⟩
/-- Offset of SNP_FLAG. -/
def SNP_FLAG : Nat := 0x5808
/-- SNP_FLAG [0:0]. -/
def SNP_FLAG_LOST_F : Fld := ⟨0x5808, 0, 0⟩
/-- Offset of SNP_CNT. -/
def SNP_CNT : Nat := 0x580C
/-- SNP_CNT [31:16]. -/
def SNP_CNT_TRIGS : Fld := ⟨0x580C, 31, 16⟩
/-- SNP_CNT [15:0]. -/
def SNP_CNT_LOST_CNT : Fld := ⟨0x580C, 15, 0⟩
/-- Offset of SNP_REL. -/
def SNP_REL : Nat := 0x5810
/-- SNP_REL [3:0]. -/
def SNP_REL_REL : Fld := ⟨0x5810, 3, 0⟩
/-- Offset of SNP_LOGSEQ. -/
def SNP_LOGSEQ : Nat := 0x5814
/-- SNP_LOGSEQ [31:0]. -/
def SNP_LOGSEQ_SEQ : Fld := ⟨0x5814, 31, 0⟩
/-- Offset of SNP_SCHED_LO. -/
def SNP_SCHED_LO : Nat := 0x5818
/-- SNP_SCHED_LO [31:0]. -/
def SNP_SCHED_LO_TIME : Fld := ⟨0x5818, 31, 0⟩
/-- Offset of SNP_SCHED_HI. -/
def SNP_SCHED_HI : Nat := 0x581C
/-- SNP_SCHED_HI [31:0]. -/
def SNP_SCHED_HI_TIME : Fld := ⟨0x581C, 31, 0⟩
/-- Offset of IMG_STAT. -/
def IMG_STAT : Nat := 0x6000
/-- IMG_STAT [31:31]. -/
def IMG_STAT_SESSION : Fld := ⟨0x6000, 31, 31⟩
/-- IMG_STAT [30:30]. -/
def IMG_STAT_VERIFIED : Fld := ⟨0x6000, 30, 30⟩
/-- IMG_STAT [29:29]. -/
def IMG_STAT_HOWIN : Fld := ⟨0x6000, 29, 29⟩
/-- IMG_STAT [28:28]. -/
def IMG_STAT_ACT : Fld := ⟨0x6000, 28, 28⟩
/-- IMG_STAT [21:16]. -/
def IMG_STAT_EPOCH : Fld := ⟨0x6000, 21, 16⟩
/-- IMG_STAT [10:8]. -/
def IMG_STAT_TGT : Fld := ⟨0x6000, 10, 8⟩
/-- Offset of IMG_BOOT. -/
def IMG_BOOT : Nat := 0x6004
/-- IMG_BOOT [29:28]. -/
def IMG_BOOT_STARTED : Fld := ⟨0x6004, 29, 28⟩
/-- IMG_BOOT [27:27]. -/
def IMG_BOOT_RECOV : Fld := ⟨0x6004, 27, 27⟩
/-- IMG_BOOT [23:20]. -/
def IMG_BOOT_OUTB : Fld := ⟨0x6004, 23, 20⟩
/-- IMG_BOOT [19:16]. -/
def IMG_BOOT_OUTA : Fld := ⟨0x6004, 19, 16⟩
/-- Offset of IMG_SVER. -/
def IMG_SVER : Nat := 0x6008
/-- IMG_SVER [31:0]. -/
def IMG_SVER_VERSION : Fld := ⟨0x6008, 31, 0⟩
/-- Offset of IMG_RCVD. -/
def IMG_RCVD : Nat := 0x600C
/-- IMG_RCVD [28:16]. -/
def IMG_RCVD_NEED : Fld := ⟨0x600C, 28, 16⟩
/-- IMG_RCVD [12:0]. -/
def IMG_RCVD_RCVD : Fld := ⟨0x600C, 12, 0⟩
/-- Offset of IMG_KPROTO. -/
def IMG_KPROTO : Nat := 0x6010
/-- IMG_KPROTO [31:16]. -/
def IMG_KPROTO_SESSKP : Fld := ⟨0x6010, 31, 16⟩
/-- IMG_KPROTO [15:0]. -/
def IMG_KPROTO_RUNKP : Fld := ⟨0x6010, 15, 0⟩
/-- Offset of IMG_FLAG. -/
def IMG_FLAG : Nat := 0x6014
/-- IMG_FLAG [4:4]. -/
def IMG_FLAG_FALLBK_F : Fld := ⟨0x6014, 4, 4⟩
/-- IMG_FLAG [3:3]. -/
def IMG_FLAG_HOVER_F : Fld := ⟨0x6014, 3, 3⟩
/-- IMG_FLAG [2:2]. -/
def IMG_FLAG_AUTH_F : Fld := ⟨0x6014, 2, 2⟩
/-- IMG_FLAG [1:1]. -/
def IMG_FLAG_VREJ_F : Fld := ⟨0x6014, 1, 1⟩
/-- IMG_FLAG [0:0]. -/
def IMG_FLAG_EPOCHUP_F : Fld := ⟨0x6014, 0, 0⟩
/-- Offset of IMG_HOTIME. -/
def IMG_HOTIME : Nat := 0x6018
/-- IMG_HOTIME [15:0]. -/
def IMG_HOTIME_HOCLK : Fld := ⟨0x6018, 15, 0⟩

end Sys2Proof.Machine.Reg
end

