-- ==== Sys2Proof/Machine/State.lean ====
section
/-! DEFINITION. The state of the QM1024: every register, buffer, queue, counter, mode and pin the spec gives it, as plain
data; the queue of waiting commands; the reasons a step can stop; the state right after RESET_N is released. -/

namespace Sys2Proof.Machine

/-! ### Host interface (chapter 13) -/

/-- One hardware queue (R346–R351). -/
structure QueueSt where
  exists_ : Bool := false
  err : Bool := false
  win : Bool := false
  ien : Bool := false
  vec : Nat := 0
  sqBase : Nat := 0
  cqBase : Nat := 0
  sqLog : Nat := 0
  cqLog : Nat := 0
  /-- Submission tail of the last accepted SQT doorbell. -/
  sqTail : Nat := 0
  /-- Next submission entry the device fetches. -/
  sqHead : Nat := 0
  /-- Next completion slot to be written. -/
  cqTail : Nat := 0
  /-- Completion head of the last accepted CQH doorbell. -/
  cqHead : Nat := 0
  /-- Entries written and not released. -/
  unreleased : Nat := 0
  /-- Phase of the next entry to be written (R347). -/
  phase : Bool := true
  /-- Completion slots reserved (R349). -/
  cqRes : Nat := 0
  /-- The granule the allocator has granted for the next entry (R28, R29); true for a reserved one. -/
  granted : Option Bool := none
  /-- Doorbell writes kept before CMDRDY, oldest first; true for one of CQH (R365). -/
  kept : List (Bool × Nat) := []
  /-- Being deleted: it fetches nothing and goes when its executing command has completed (R363). -/
  closing : Bool := false
  deriving DecidableEq, Repr

/-- Why a fetched command has not completed. -/
inductive WaitKind where
  /-- Held under Execute-at until the first tick at or after this station time (R357). -/
  | held (due : Nat)
  /-- Deferred, with the station time at which the deferral limit ends, 0 for none (R358). -/
  | deferred (limit : Nat)
  /-- Executing: its reply is written at a later event. -/
  | executing
  /-- Past step 4, with its effect at the tick of this number (R368, R293, R406). -/
  | atTick (tick : Nat)
  /-- At its coordinator, waiting for its targets (R280–R282). -/
  | routed (txn : Nat)
  /-- A posted receive buffer (R363), which blocks no later command. -/
  | posted
  deriving DecidableEq, Repr

/-- Granules that a user holds together (R29). -/
structure Hold where
  user : Nat
  res : Nat
  sh : Nat
  deriving DecidableEq, Repr

/-- A fetched command without its final reply. -/
structure WaitCmd where
  src : Src
  pkt : Packet
  kind : WaitKind
  /-- Fetch order. -/
  order : Nat
  /-- ACCEPTED_DEFERRED has been written, so one completion slot is still reserved. -/
  answered : Bool := false
  /-- The entry's own granule is a reserved one (R29). -/
  gran : Bool := true
  /-- Part of a station-scoped transaction: its coordinator and its number there. -/
  route : Option (Nat × Nat) := none
  /-- Bulk data that came with a forwarded packet (R405). -/
  data : List Byte := []
  /-- Further granules held until it completes (R29). -/
  bulk : List Hold := []
  /-- The granules of a Krekai port that hold it, when it was forwarded (R24, R280). -/
  link : Option Hold := none
  /-- What a prepared command has reserved until it executes (R281): the snapshot buffer (R389), and its cost in core clocks (R57). -/
  buf : Option Nat := none
  cost : Nat := 0
  deriving DecidableEq, Repr

/-- A command reply (R354) without tag, phase, state and stamp, which the posting adds. -/
structure Reply where
  status : Nat
  detail : Nat := 0
  /-- Result bytes 16–31. -/
  result : List Byte := []
  /-- RESULT_EXT: the result bytes describe an extended result. -/
  ext : Bool := false
  deriving DecidableEq, Repr

/-- The mailbox (R360–R362). -/
structure MbxSt where
  /-- RES0–7 as latched by the last read of HIF_MBX_STAT. -/
  latched : List Byte := zeros 32
  /-- The last posted reply. -/
  live : List Byte := zeros 32
  /-- A final reply that waits until ACCEPTED_DEFERRED has been released (R362). -/
  queued : Option (List Byte) := none
  /-- The granule of the queued reply is a reserved one. -/
  queuedGran : Bool := true
  deriving DecidableEq, Repr

/-- The management port (R345). -/
structure MgtSt where
  /-- Outstanding MGT_RECV commands, oldest first. -/
  recvs : List (Src × Packet) := []
  /-- PTP sequence numbers of the next Sync and Announce (R345). -/
  seqSync : Nat := 0
  seqAnn : Nat := 0
  /-- Low word of PTPOFS written and not yet in effect. -/
  ofsLow : Option Word := none
  deriving DecidableEq, Repr

/-- The host interface. -/
structure HostSt where
  queues : List (Nat × QueueSt) := []
  waits : List WaitCmd := []
  nextOrder : Nat := 0
  /-- The held or deferred command that ran last: tick, rank and fetch order (R351). -/
  turn : Nat × Nat × Nat := (0, 0, 0)
  /-- Arrival stamp of the command that is executing (R16, R357). -/
  arrived : Nat := 0
  /-- Queue last served by fetching (R349). -/
  lastServed : Nat := 0
  /-- Armed MSI-X vectors are those not listed here (R352). -/
  disarmed : List Nat := []
  /-- MSI-X pending bits. -/
  pba : List Nat := []
  /-- MSI-X table words (BAR2), 4 words per vector. -/
  msixTable : List (Nat × Word) := []
  /-- MSI-X enable and function mask of the capability. -/
  msixEnable : Bool := false
  msixFnMask : Bool := false
  mbx : MbxSt := {}
  /-- The packet copied at GO and waiting for its fetch (R360). -/
  mbxPkt : Option Packet := none
  mgt : MgtSt := {}
  /-- Ring window (16 KiB) and bulk window (64 KiB), reachable over SPI (R344). -/
  ringWin : List (Nat × Byte) := []
  bulkWin : List (Nat × Byte) := []
  /-- Status byte of the previous SPI frame, error bits [3:0] (R343). -/
  spiPrev : Nat := 0
  deriving DecidableEq, Repr

/-! ### Outputs of one command -/

/-- What the device sends out. -/
inductive OutMsg where
  /-- Value answered to a register read. -/
  | readData (w : Word)
  /-- Completer abort on PCIe (R6). -/
  | abort
  /-- An MSI-X message (R352). -/
  | msix (vec : Nat)
  /-- Bytes sent on HSPI_MISO. -/
  | miso (data : List Byte)
  /-- A frame transmitted on the management port. -/
  | mgtFrame (data : List Byte)
  /-- A PTP message sent (R345): type (0 Sync, 8 Follow_Up, 9 Delay_Resp, 11 Announce), sequence number, domain, clockClass, PTP
  time in ns. -/
  | ptp (type seq domain clockClass : Nat) (ns : Int) (udp : Option (Word × Nat))
  /-- A command to the QSPI NOR (R461): its code, the address, the number of bytes read, the bytes programmed. -/
  | qspi (cmd addr len : Nat) (data : List Byte)
  /-- A control block with its data words on a lane (2 × ring + 0 east, 1 west) of Thicket. -/
  | thk (lane : Nat) (payload : Nat) (data : List Word)
  /-- A message on the Krekai fabric: the port it leaves on, its kind, the destination chip (or 512 for all) and its bytes. -/
  | krk (port : Nat) (kind : Nat) (dest : Nat) (data : List Byte)
  /-- A pulse on an ADC trigger line (R201). -/
  | adcTrig (line : Nat)
  deriving DecidableEq, Repr

/-! ### Event log and snapshots (chapter 15) -/

/-- One record of the event log (R394). -/
structure LogRec where
  stamp : Nat
  frame : Nat
  src : Nat
  code : Nat
  freerun : Bool
  unsync : Bool
  seq : Nat
  addr : Nat
  /-- Event data, bytes 24–31. -/
  data : Nat
  deriving DecidableEq, Repr

/-! ### Buffer pool (chapter 01) -/

/-- What one user of the buffer pool holds (R23–R27). -/
structure PoolUser where
  /-- Reserved granules that control-critical traffic is using (R25). -/
  crit : Nat := 0
  /-- Reserved granules in use by commands. -/
  res : Nat := 0
  /-- Shared granules in use by commands. -/
  sh : Nat := 0
  /-- A link user's granules set aside for credits and data, oldest first; true for a reserved one. -/
  fifo : List Bool := []
  /-- How many of them, the newest, back a credit without data yet. -/
  cred : Nat := 0
  /-- Shared granules committed and not backing a sent credit (R26). -/
  com : Nat := 0
  deriving DecidableEq, Repr

/-- The buffer pool. -/
structure PoolSt where
  users : List (Nat × PoolUser) := []
  /-- User served last (R28). -/
  ptr : Nat := 99
  /-- Core clock and number of the allocations last served (R28). -/
  clk : Nat := 0
  served : Nat := 0
  /-- Frees made on that clock, and those that wait for the next clocks, oldest first (R28). -/
  freed : Nat := 0
  frees : List Hold := []
  /-- Further granules of the command that is executing now (R29). -/
  now : List Hold := []
  /-- Granules reserved for that command at PREPARE and not yet asked for (R281). -/
  kept : List Hold := []
  deriving DecidableEq, Repr

/-! ### Clock and frame (chapter 02) -/

/-- Clock and time counter. -/
structure ClkSt where
  /-- The first lock after power-up has happened (R49). -/
  locked1 : Bool := false
  /-- Offset still to be slewed, TU; positive when the counter is ahead (R47). -/
  slew : Int := 0
  /-- Core clock of the last tick, from which the phases and the slewing clocks of the frame are counted (R47, R53). -/
  tickClk : Nat := 0
  /-- Slew applied in the present frame, TU. -/
  slewUsed : Nat := 0
  /-- Correction stepped at the next tick (R47). -/
  step : Option Int := none
  /-- Consecutive measurements within ±16 TU (R48). -/
  inRun : Nat := 0
  /-- Phase error of the last reference cycle, ps, and the consecutive cycles within ±200 ps (R38, R63). -/
  phErr : Int := 0
  lockRun : Nat := 0
  /-- The clock entered bypass with LOSSACT 1; HOLD follows at the next tick (R43, R368). -/
  holdDue : Bool := false
  /-- The chip has joined a time tree, and no write in CONFIG has changed REFSEL or REFPORT since (R276). -/
  tree : Bool := false
  /-- The PLL’s reference (R36, R276): a port 0–3, 4 the REFCLK pin. -/
  ref : Nat := 4
  /-- The phase difference that the last change of reference removed in the TDC (R276). -/
  refShift : Word := 0#32
  deriving DecidableEq, Repr

/-- Frame sequencer. -/
structure FrmSt where
  /-- Number of the next tick: the 64-bit N of N × P (R52). -/
  tickNo : Nat := 0
  /-- A frame has begun since reset. -/
  ticked : Bool := false
  /-- An overrun has been recorded in this frame (R62). -/
  overrun : Bool := false
  /-- The handover frame sheds all classes (R407). -/
  handover : Bool := false
  /-- A control item was still running at CMP_END (R61). -/
  late : Bool := false
  /-- An overrun fell in the frame before: its results are discarded at the tick (R62). -/
  discard : Bool := false
  deriving DecidableEq, Repr

/-! ### Protection and safety (chapter 11) -/

/-- Trip matrix and station loop. -/
structure PrtSt where
  /-- Levels of FLT3–FLT0. -/
  fltPin : Nat := 0
  /-- Debug halt or clock stop lasts (code 0x24). -/
  halted : Bool := false
  /-- Clock loss raised under LOSSACT 2 and not yet over (code 0x21). -/
  clkLoss : Bool := false
  /-- Frame of the last ALARM, if any (code 0x25). -/
  alarmFrame : Option Nat := none
  /-- Cell and station redundancy below their minimum (codes 0x26, 0x27). -/
  redCell : Bool := false
  redStation : Bool := false
  /-- The sources were evaluated on the first core clock after the release (R290). -/
  evaluated : Bool := false
  /-- Core clock on which PRT_FIRST was recorded; none when the release recorded it (R290). -/
  firstAt : Option Nat := none
  /-- PRT_TRIP_CLEAR waiting for the end of blanking (R293). -/
  blanking : Option (Src × Packet) := none
  /-- Pin levels of TRIP_IN0 and TRIP_IN1 held for 40 ns, accepted or not. -/
  pinIn : Nat := 0
  /-- PRT_PATH_TEST measuring its loops: start time, and the return time of each loop, TU (R313). -/
  path : Option (Src × Packet × Nat × List (Option Nat)) := none
  /-- The codes whose latches set during this command. -/
  tripped : List Nat := []
  /-- Core clock of the last entry to TRIPPED by a latch, the code and the sequence number of its log record (R366). -/
  tripRec : Option (Nat × Nat × Nat) := none
  deriving DecidableEq, Repr

/-- The safety channels. -/
structure SafSt where
  /-- The loaded block awaiting confirm, and the confirmed block (64 bytes; empty: none) (R308). -/
  loaded : List Byte := []
  confirmed : List Byte := []
  /-- Hedgerow's own copy of the SF0, SF1 fields and the INCFG byte of SF2, kept as a block of the same form. -/
  hedge : List Byte := []
  /-- Functions whose pair is in a half state, with the station time it began, and whether it came from DEMAND (R300). -/
  half : List (Nat × Nat × Bool) := []
  /-- Functions whose present half state has raised its discrepancy fault. -/
  discRaised : List Nat := []
  /-- Bit c: diagnostic c of R310 fails now. -/
  bad : Nat := 0
  /-- Bit 0, 1: Hedgerow holds SF0, SF1 latched by a fault (R306). -/
  hfault : Nat := 0
  /-- The present SRESET press has lasted more than 5 s (R305). -/
  srStuck : Bool := false
  /-- Feedback episodes in disagreement (bit k) that have raised their fault (R304). -/
  ctfRaised : Nat := 0
  /-- Last tick in a state in which Espalier modulates (R303), as station time plus 1; 0: none since reset. -/
  modTick : Nat := 0
  deriving DecidableEq, Repr

/-- The balls that the chip can drive (R444); `released` when every control output is high-impedance (R382). -/
structure Pins where
  released : Bool := false
  tripOut : List Bool := [true, true]
  /-- Bit n: HBn_PULSE, HBn_ENABLE, CTOn driven high at the ball. -/
  hbPulse : Nat := 0
  hbEnable : Nat := 0
  cto : Nat := 0
  /-- Bit n: the same balls high-impedance, by a 1 in their boundary cell under EXTEST or CLAMP (R462). -/
  hbPulseZ : Nat := 0
  hbEnableZ : Nat := 0
  ctoZ : Nat := 0
  pulseOut : Nat := 0
  hirqN : Bool := true
  /-- Bit n: GPIOn driven, and its level. By its function the chip drives GPIO11 alone, as HIRQ_N, and low only; HSPI_MISO stands with each frame. -/
  gpioOe : Nat := 0
  gpio : Nat := 0
  /-- QSPI_CS_N and QSPI_SCK between commands, and QSPI_IO0–3 driven, with their levels. -/
  qspiCsN : Bool := true
  qspiSck : Bool := false
  qspiOe : Nat := 0
  qspiIo : Nat := 0
  /-- Transmitters that are on: bit r ring r’s two, bit p KKp; the PCIe lanes (0 electrical idle, 1 training, 2 link up); the SGMII transmitter. -/
  thkTx : Nat := 0
  krkTx : Nat := 0
  pcieTx : Nat := 1
  sgmiiTx : Bool := false
  /-- VWAKE active (R427); none while the vault is dark and the ball high-impedance. -/
  wake : Option Bool := some false
  /-- EXTEST or CLAMP is the instruction, with the boundary cells (R462). -/
  extest : Option Boundary := none
  deriving DecidableEq, Repr

/-! ### FRAM writes (chapter 17) -/

/-- One action asked of the energy gate: bursts written in sequence (R434), and what waits for it. -/
structure FramReq where
  /-- The bursts: FRAM offset and bytes. -/
  bursts : List (Nat × List Byte)
  /-- The order of R436: 0 power-fail record, 1 metering save, 2 another fixed record, 3 log entry. -/
  kind : Nat
  /-- The commands that wait for it (R339, R336). -/
  cmds : List (Src × Packet) := []
  /-- The device asks for it by itself, not only for those commands. -/
  auto : Bool := true
  /-- The bursts are asked for together, as one sequence (R434); otherwise each has its own test. -/
  together : Bool := false
  /-- Bursts already written; the gate has started the next one, or the sequence. -/
  done : Nat := 0
  started : Bool := false
  /-- The gate has deferred it and it has not been written since; it waits for the next retry (R434). -/
  deferred : Bool := false
  hold : Bool := false
  deriving DecidableEq, Repr

/-- The FRAM and its write queue. -/
structure FramSt where
  /-- 8 KiB by offset; an unlisted byte reads 0 (log entry 7). -/
  mem : List (Nat × Byte) := []
  /-- Pending actions, oldest first. -/
  reqs : List FramReq := []
  /-- FRAM sequence number of the next log entry (R433). -/
  logSeq : Nat := 1
  deriving DecidableEq, Repr

/-! ### Snapshots (chapter 15) -/

/-- The tick image: every register as copied on the core clock of the tick (R386). -/
structure TickImg where
  stamp : Nat
  frame : Nat
  freerun : Bool
  unsync : Bool
  state : Nat
  chip : Nat
  view : Nat
  /-- The register file with its computed registers filled in. -/
  regs : List (Nat × Word)
  /-- The cell section’s content, when SNP_CFG.CELLS is set (R392). -/
  cells : List Byte
  deriving DecidableEq, Repr

/-- A frozen snapshot (R392). -/
structure Snap where
  img : TickImg
  /-- Bit k: source code k (R387). -/
  mask : Nat
  trigStamp : Nat
  detail : Nat
  /-- Triggers lost before this one since the last release. -/
  lost : Nat
  deriving DecidableEq, Repr

/-- The last freeze: core clock, buffer, sequence number of its log record (R387); whether the buffer was a reserved one (R389), and whether a capture
with TRIG 2 takes it for its trigger (R390). -/
structure SnapLast where
  clk : Nat
  buf : Nat
  seq : Nat
  resv : Bool
  first : Bool
  deriving DecidableEq, Repr

/-- An SNP_TRIGGER whose core clock has not passed, so that a release of that clock can still act before it (R388): clock, command, buffer. -/
structure SnapAsk where
  clk : Nat
  src : Src
  pkt : Packet
  buf : Option Nat
  deriving DecidableEq, Repr

/-- Squall. -/
structure SnpSt where
  tick : Option TickImg := none
  bufs : List (Nat × Option Snap) := []
  lostSince : Nat := 0
  /-- Triggers lost, each with its core clock, source, stamp and detail; those of an earlier clock no longer matter (R388). -/
  lostNow : List (Nat × Nat × Nat × Nat) := []
  last : Option SnapLast := none
  asked : List SnapAsk := []
  /-- Frame number of the first snapshot frozen since the last capture record (R390). -/
  capTrig : Option Nat := none
  /-- Tag of the scheduled station trigger and its reserved buffer (R389, R283). -/
  schedTag : Nat := 0
  schedBuf : Option Nat := none
  /-- The buffer that the prepared command which is executing has reserved (R389). -/
  prepBuf : Option Nat := none
  deriving DecidableEq, Repr

/-! ### Converters and comparators (chapter 03) -/

/-- A conversion in progress, or an injected one that is about to start. -/
structure ConvRun where
  /-- 0 a scan, interleave or QS256 entry; 1 an injected one. -/
  kind : Nat
  /-- Input index 0–5 of the pair. -/
  idx : Nat
  /-- Core clock of the start. -/
  start : Nat
  /-- It has started. -/
  begun : Bool := false
  /-- The slot is SUSPECT (R82). -/
  suspect : Bool := false
  /-- The input's own clamp sense was active at some time during the conversion (R82). -/
  clamped : Bool := false
  /-- Its number among the slots of the pair (R66). -/
  slot : Nat := 0
  /-- The converter that makes it, or the spare slice 16 or 17 (R77). -/
  maker : Nat := 0
  /-- The counter at its hold instant, once that has passed (R66). -/
  hold : Option Nat := none
  /-- The qualifiers of that stamp (R42). -/
  free : Bool := false
  unsync : Bool := false
  deriving DecidableEq, Repr

/-- One pair of converters (R65–R76). -/
structure PairSt where
  started : Bool := false
  /-- Its converters scan; clear from a slot start that found no entry until the next tick that finds one (R69). -/
  scanning : Bool := false
  /-- Slots started so far (R66). -/
  slots : Nat := 0
  /-- Index of the scan entry last taken. -/
  last : Option Nat := none
  /-- Entry put back at the head of the scan list (R76). -/
  putBack : Option Nat := none
  /-- The last slot, by its number, that an over-range conversion marks SUSPECT (R81). -/
  marks : Nat := 0
  /-- Inputs whose clamp sense is active, and the core clock on which one last ended. -/
  clamp : Nat := 0
  clampEnd : Option Nat := none
  deriving DecidableEq, Repr

/-- A result kept for the sample image: normalised code in 1/16 codes (R74), stamp, marks, and the core clock on which it was completed. -/
structure AinRes where
  n16 : Int
  stamp : Nat
  ovr : Bool
  suspect : Bool
  clk : Nat
  /-- Input index within the pair, for an injected result. -/
  idx : Nat
  deriving DecidableEq, Repr

/-- A result that goes to Nimbus (R71): input, converter B, engineering value, stamp and its qualifiers, core clock of its hold instant, OVR or
SUSPECT. -/
structure MeterRes where
  input : Nat
  b : Bool
  value : Word
  stamp : Nat
  free : Bool
  unsync : Bool
  clk : Nat
  bad : Bool
  deriving DecidableEq, Repr

/-- One entry of the sample image (R73): engineering value, stamp and marks. -/
structure Sample where
  value : Word := 0
  stamp : Nat := 0
  ovr : Bool := false
  suspect : Bool := true
  fresh : Bool := false
  deriving DecidableEq, Repr

/-- A system calibration step in progress (R79). -/
structure CalRun where
  /-- 1 ZERO, 2 FULL. -/
  step : Nat
  /-- It has reached its first slot start; the core clock of that, and whether converter B takes the first conversion. -/
  active : Bool
  start : Nat := 0
  firstB : Bool := false
  /-- The number of its first slot among those of the pair (R66). -/
  slot : Nat := 0
  /-- Its input's own clamp sense has been active (R82). -/
  clamped : Bool := false
  /-- The trims that each converter's slots have had since then: core clock, converter, trim word (R77). -/
  trims : List (Nat × Nat × Word) := []
  deriving DecidableEq, Repr

/-- The converters. -/
structure AdcSt where
  /-- Conversions in progress, by converter 0–15. -/
  runs : List (Nat × Option ConvRun) := []
  /-- Idle converters that start a slot at a later core clock: converter and clock. -/
  starts : List (Nat × Nat) := []
  pairs : List (Nat × PairSt) := []
  /-- Last result of each input, and last injected result of each pair, since EN was set. -/
  res : List (Nat × Option AinRes) := []
  jres : List (Nat × Option AinRes) := []
  /-- The results before them, for a tick on whose own core clock the last one is completed (R73). -/
  resOld : List (Nat × Option AinRes) := []
  jresOld : List (Nat × Option AinRes) := []
  /-- Core clock of the last sample image; the hold stamp of the result in each ADC_RESn. -/
  imgClk : Nat := 0
  stamps : List (Nat × Nat) := []
  cal : Option CalRun := none
  /-- Spare slices that take over (true) or hand back at the next slot boundary of their converter (R77). -/
  bgSwap : List (Nat × Bool) := []
  /-- Core clock of the last ADC trigger pulses, and the lines that pulse on it (R201). -/
  trigAt : Nat := 0
  trigLines : Nat := 0
  /-- The means of the ZERO and FULL steps in 1/16 codes (R79); their registers show the low 16 bits. -/
  calNz : Int := 0
  calNf : Int := 0
  /-- A conversion of the ZERO, FULL step was over-range. -/
  calOver : Bool × Bool := (false, false)
  /-- The interleave power grant of the present frame, by pair (R72). -/
  ilDenied : Nat := 0
  /-- Results of this command on their way to Nimbus (R71). -/
  meter : List MeterRes := []
  /-- Frames in which the interleave grant of a metering pair was deferred: core clocks of the tick and of the next one, once it has come (R321). -/
  degr : List (Nat × Option Nat) := []
  deriving DecidableEq, Repr

/-- The comparators. -/
structure CmpSt where
  /-- Bit i: comparator i waits for its response time after power-up (R84) or a settings change (R85). -/
  powering : Nat := 0
  settling : Nat := 0
  /-- Last captured edge: stamp and whether it was an exit (R87). -/
  cap : List (Nat × Option (Nat × Bool)) := []
  deriving DecidableEq, Repr

/-! ### Grid angle (chapter 04) -/

/-- How the selected angle stands at the end of a frame (R106). -/
structure AngSel where
  /-- The external source is selected. -/
  ext : Bool := false
  /-- δ of the last switch, and k of the next frame; no blend when k has reached HOFF. -/
  delta : Int := 0
  k : Nat := 0
  blend : Bool := false
  deriving DecidableEq, Repr

/-- What an index has changed: kept until the next core clock, for an edge of the same one is applied before it (R97). -/
structure IdxUndo where
  clk : Nat
  /-- ANG_STAT.POS, INDEXED and XST before it, and the XST it left. -/
  pos : Nat
  indexed : Nat
  xst : Nat
  left : Nat
  /-- It counted in IDXERR_CNT and set IDXERR_F. -/
  err : Bool
  net : Int
  misses : Nat
  idxSeen : Bool
  illSince : Bool
  cond : Bool
  rearm : Bool
  deriving DecidableEq, Repr

/-- The external reference and the selection. -/
structure AngSt where
  /-- Accepted levels of ANG_A, ANG_B, ANG_Z. -/
  a : Bool := false
  b : Bool := false
  z : Bool := false
  /-- Illegal transitions without a legal edge between them (R95). -/
  runIll : Nat := 0
  /-- Legal edges in the present direction since a reversal, a standstill or EN. -/
  since : Nat := 0
  /-- A legal edge has been seen since EN or a standstill; one has been seen since EN. -/
  moving : Bool := false
  seen : Bool := false
  /-- Net legal edges since the last index, and misses in a row (R98). -/
  net : Int := 0
  misses : Nat := 0
  /-- External frequency (R99). -/
  fx : Word := 0
  /-- Edges of the present window, stamp of the last edge before it, and a reversal within it (R101, R104). -/
  winN : Nat := 0
  winRef : Option Nat := none
  /-- Stamp of the first edge of the window. -/
  winFirst : Nat := 0
  winRev : Bool := false
  /-- The last index, while it is of the present core clock. -/
  undo : Option IdxUndo := none
  /-- The two-index condition of WAIT and INVALID: an index seen, no illegal transition since, condition met (R105, R107). -/
  idxSeen : Bool := false
  illSince : Bool := false
  cond : Bool := false
  /-- A REARM kept (R107). -/
  rearm : Bool := false
  /-- Selection at the end of the previous frame, and in the present one. -/
  base : AngSel := {}
  sel : AngSel := {}
  /-- Output of the PLL context in its last run: angle and frequency. -/
  intAngle : Nat := 0
  intFreq : Word := 0
  deriving DecidableEq, Repr

/-! ### Cirrus (chapter 05) -/

/-- One control context: its descriptor and its states (R111, R121–R127, R139). -/
structure CtxSt where
  /-- The descriptor in use, 384 bytes; empty when not loaded. -/
  img : List Byte := []
  /-- Loaded over a loaded context: image, KEEP, arrival stamp and queue rank, in effect from the next tick (R16, R139). -/
  newImg : Option (List Byte × Bool × Nat × Nat) := none
  /-- Enable written, in use from the next tick (R16). -/
  enNew : Option Bool := none
  /-- Parameter words written, with arrival stamp and queue rank (R16, R139). -/
  parNew : List (Nat × Word × Nat × Nat) := []
  /-- Set-point of the host: in use, and written with arrival stamp and queue rank (R16, R130). -/
  sp : Word := 0
  spNew : Option (Word × Nat × Nat) := none
  /-- Set-point written by the outer context (R127). -/
  spInner : Word := 0
  /-- Integrator, derivative, last measurement, last PLL frequency, PLL angle (R121, R124, R125). -/
  i : Word := 0
  dPrev : Word := 0
  yPrev : Word := 0
  fPrev : Word := 0
  theta : Nat := 0
  /-- Resonator or section states (R122, R123). -/
  xs : List (Word × Word) := List.replicate 8 (0, 0)
  /-- Held inputs IN0–IN7 and SP_AIN: last value used, consecutive runs held (R119). -/
  held : List (Word × Nat) := List.replicate 9 (0, 0)
  /-- Outputs of the last run. -/
  outs : List Word := List.replicate 4 0
  /-- Set-point, error and inputs as used in the last run (R137). -/
  lastR : Word := 0
  lastE : Word := 0
  lastIn : List Word := List.replicate 8 0
  deriving DecidableEq, Repr

/-- One injection generator (R134–R136). -/
structure InjSt where
  block : List Byte := []
  ctx : Nat := 0
  active : Bool := false
  /-- Station time from which the first run injects. -/
  startAt : Nat := 0
  n : Nat := 0
  lfsr : Nat := 0
  /-- Value injected at the last run of the context. -/
  value : Word := 0
  deriving DecidableEq, Repr

/-- The capture (R137, R138). -/
structure CapSt where
  armed : Bool := false
  chans : List Word := []
  rctx : Nat := 0
  trig : Nat := 0
  gen : Nat := 0
  records : Nat := 0
  pre : Nat := 0
  trigd : Bool := false
  /-- Records kept, oldest first, with the tick stamp and frame of the oldest. -/
  mem : List (List Word) := []
  firstStamp : Nat := 0
  firstFrame : Nat := 0
  /-- Frames between records and the frame period in TU, as of the first record (R138); generator GEN has started since arming (R137). -/
  div : Nat := 1
  period : Nat := 0
  started : Bool := false
  /-- Frame of the newest record. -/
  lastFrame : Nat := 0
  /-- Index of the trigger record. -/
  trigIdx : Nat := 0
  short : Bool := false
  freerun : Bool := false
  unsync : Bool := false
  deriving DecidableEq, Repr

/-- The pulse input (R132, R133). -/
structure SppSt where
  /-- Rising edges of the frame, stamp of the last one, and of the last one before the frame. -/
  n : Nat := 0
  last : Nat := 0
  ref : Nat := 0
  /-- An edge has been seen since EN. -/
  seen : Bool := false
  /-- Rising edges since the pulse was lost. -/
  since : Nat := 0
  deriving DecidableEq, Repr

/-- Cirrus. -/
structure CeSt where
  ctxs : List (Nat × CtxSt) := []
  /-- Table entries that are not +0, by table × 1,024 + index. -/
  tables : List (Nat × Word) := []
  /-- The spare table buffer, waiting for the next tick (R129). -/
  spare : Option (Nat × List Byte) := none
  inj : List (Nat × InjSt) := []
  cap : CapSt := {}
  spp : SppSt := {}
  /-- Sample image of the frame: inputs, injected results (R15, R73). -/
  ain : List (Nat × Sample) := []
  jin : List (Nat × Sample) := []
  deriving DecidableEq, Repr

/-! ### Cells (chapter 06) -/

/-- One configured record of the cell map (R143). -/
structure CellRec where
  pos : Nat
  group : Nat
  half : Bool
  /-- 0 capacitor, 1 PV string, 2 battery. -/
  source : Nat
  incCond : Bool
  stby : Bool
  bypOk : Bool
  vnom : Word
  prate : Word
  qcap : Word
  deriving DecidableEq, Repr

/-- Telemetry of one cell in the sample image (R246). -/
structure CellTel where
  vdc : Word := 0
  isrc : Word := 0
  vsrc : Word := 0
  temp : Word := 0
  leak : Word := 0
  ep2 : Nat := 0
  ep7 : Nat := 0
  ep9 : Nat := 0
  fresh : Bool := false
  /-- Frames in a row without a valid base record. -/
  missed : Nat := 0
  deriving DecidableEq, Repr

/-- The running state of one cell (R145–R167). -/
structure CellSt where
  state : Nat := 0
  cause : Nat := 0
  fixed : Bool := false
  curtMax : Bool := false
  socUnk : Bool := false
  capped : Bool := false
  vref : Word := 0
  /-- CELL_VREF_SET for the next tick: FIX, the value, its stamp and the rank of its source (R16). -/
  vrefNew : Option (Bool × Word × Nat × Nat) := none
  alpha : Word := 0
  w : Word := 0
  soc : Word := 0
  integ : Word := 0
  /-- Reference over voltage, written to Espalier (R152). -/
  rc : Word := 0
  /-- MPPT: direction upward, last power, voltage and current, last power at a step, sums since the last step, step due. -/
  up : Bool := false
  pPrev : Word := 0
  vPrev : Word := 0
  iPrev : Word := 0
  pMpp : Word := 0
  sumV : Word := 0
  sumI : Word := 0
  num : Nat := 0
  due : Bool := false
  /-- Stamp of the last state change. -/
  since : Nat := 0
  deriving DecidableEq, Repr

/-- One cell of a running I–V sweep: reference before it, sums of the present point, points taken (value, v, i). -/
structure IvCell where
  pos : Nat
  saved : Word
  sumP : Word := 0
  sumV : Word := 0
  sumI : Word := 0
  num : Nat := 0
  points : List (Word × Word × Word) := []
  /-- Sweep data that its node sent meanwhile (R246). -/
  data : List Word := []
  deriving DecidableEq, Repr

/-- The I–V sweep (R157, R158). -/
structure IvSt where
  running : Bool := false
  commanded : Bool := false
  cells : List IvCell := []
  /-- Later batches, by position. -/
  later : List (List Nat) := []
  point : Nat := 0
  /-- Frames of the present point so far. -/
  frames : Nat := 0
  stamp0 : Nat := 0
  deriving DecidableEq, Repr

/-- A kept result of a commanded sweep. -/
structure IvRes where
  stamp : Nat
  best : Nat
  points : List (Word × Word)
  /-- Sweep data that the node sent. -/
  data : List Word := []
  deriving DecidableEq, Repr

/-- All cells of the chip. -/
structure CellsSt where
  map : List Byte := []
  recs : List CellRec := []
  cells : List (Nat × CellSt) := []
  tel : List (Nat × CellTel) := []
  /-- Telemetry received in the present frame, for the image of the next tick (R15). -/
  telNew : List (Nat × CellTel) := []
  /-- Aggregates of the last run, and as latched at the tick (R149). -/
  agg : List Word := List.replicate 64 0
  aggTick : List Word := List.replicate 64 0
  /-- The next run is the first after CONFIG. -/
  first : Bool := true
  iv : IvSt := {}
  ivRes : List (Nat × Option IvRes) := []
  skipped : Nat := 0
  /-- Groups with a scheduled rotation due (bit mask). -/
  rotDue : Nat := 0
  /-- Bootstrap rotation requests of the frame, and those refused (R166, R183). -/
  bsReq : List Nat := []
  bsRefused : List Nat := []
  /-- Cells the host has asked to bypass (cause 7). -/
  hostByp : List Nat := []
  /-- Swaps made in the last run: outgoing and incoming positions (R189). -/
  swaps : List (Nat × Nat) := []
  /-- Stamp and frame of the last run (R169). -/
  runStamp : Nat := 0
  runFrame : Nat := 0
  /-- The cells and the skipped sweeps as the last run left them (R392). -/
  runCells : List (Nat × CellSt) := []
  runSkipped : Nat := 0
  deriving DecidableEq, Repr

/-! ### Local half-bridges (chapter 07) -/

/-- The set of a local channel that transfers as a whole (R195). -/
structure HbSet where
  period : Nat := 8000
  /-- Duty in sixteenths of a step: DUTY and DFRAC. -/
  duty : Nat := 0
  phase : Nat := 0
  /-- The eight compare registers. -/
  cmp : List Word := List.replicate 8 0
  deriving DecidableEq, Repr

/-- One local half-bridge (R190–R199). What the driver holds is in MOD_HBn_STAT.OUT. -/
structure HbCh where
  active : HbSet := {}
  /-- Pending sets with the core clocks of their COMMITs, oldest first (R195). -/
  pend : List (Nat × HbSet) := []
  /-- UPD 1: what has been written since the last boundary, with the core clocks of the writes (R196): PERIOD, DUTY, PHASE, the compares. -/
  wrPeriod : List (Nat × Nat) := []
  wrDuty : List (Nat × Nat) := []
  wrPhase : List (Nat × Nat) := []
  wrCmp : List (Nat × List Word) := []
  /-- The channel runs periods. -/
  started : Bool := false
  /-- A period has begun since the start. -/
  running : Bool := false
  /-- Stamp of the start of the present period. -/
  start : Nat := 0
  /-- Length of the present period in steps, with the phase shift of R194. -/
  len : Nat := 8000
  /-- Periods counted for R178. -/
  k : Nat := 0
  /-- The high side is commanded. -/
  high : Bool := false
  /-- Commanded changes still due in this period, in steps from its start. -/
  edges : List Nat := []
  /-- In dead time: the state that follows it is the high side. -/
  toHigh : Bool := false
  /-- The level of PULSE when both switches last went off, and the stamp of that (R191). -/
  pulseOld : Bool := false
  deadAt : Nat := 0
  /-- The switch that was on last, 1 low side or 2 high side, 0 none, and the stamp at which it went off (R180). -/
  lastOn : Nat := 0
  offAt : Nat := 0
  /-- After a fault-latch clear: 1 until the next tick, then 2 until a boundary (R199). -/
  rearm : Nat := 0
  /-- Output of the context that names this channel: the value in use, and the one written in this frame (R193). -/
  ctx : Word := 0
  ctxNew : Option Word := none
  /-- Bootstrap model (R182): charge used in steps, Qfull − Q, and the stamp since which the output state has lasted. -/
  used : Nat := 0
  since : Nat := 0
  /-- Stamp since which the low side has conducted without a break. -/
  lowSince : Option Nat := none
  deriving DecidableEq, Repr

/-! ### Cell edges (chapter 07) -/

/-- One leg of a cell between two frames (R170, R179, R182). -/
structure LegSt where
  /-- Its state code at the end of the last scheduled frame. -/
  code : Nat := 0
  /-- A dead time that ends in the next frame: steps into it, and the state then taken. -/
  dead : Option (Nat × Nat) := none
  /-- Bootstrap charge used: Qfull − Q. -/
  used : Nat := 0
  /-- Length of the low-side run that is still going on. -/
  low : Nat := 0
  /-- After a MOD_EDGE_TEST record: how long ago the leg entered state 0, and from which state (R180). -/
  off : Option (Nat × Nat) := none
  deriving DecidableEq, Repr

/-- A cell's two legs. -/
structure CellLegs where
  a : LegSt := {}
  b : LegSt := {}
  deriving DecidableEq, Repr

/-- An edge record (R170): header word and entry words. -/
structure EdgeRec where
  pos : Nat
  head : Word
  entries : List Word
  deriving DecidableEq, Repr

/-- A slot-table transfer that waits for its boundary: group and execute-at (R188). -/
structure SlotCommit where
  group : Nat
  execAt : Nat
  /-- The tick after which the first boundary counts, for execute-at 0. -/
  afterN : Nat
  deriving DecidableEq, Repr

/-- Espalier, apart from the local half-bridges. -/
structure EspSt where
  /-- Group values 0–5 and 8–10 as last written (R172), and as they were when the frame began. -/
  group : List (Nat × Word) := []
  groupKept : List (Nat × Word) := []
  /-- Slot tables by cell position (R188, R189). -/
  active : List (Nat × Nat) := []
  shadow : List (Nat × Nat) := []
  effective : List (Nat × Nat) := []
  commits : List SlotCommit := []
  legs : List (Nat × CellLegs) := []
  /-- The records of the last dispatch. -/
  recs : List EdgeRec := []
  /-- The gate-profile table last loaded (empty: none) and its GEN by ring (R249). -/
  prof : List Byte := []
  gen : List (Nat × Nat) := []
  /-- The rings to which the last table went. -/
  profSent : List Nat := []
  /-- MOD_PROF_LOAD waiting for its nodes, with the frame of its start (R202). -/
  profCmd : Option (Src × Packet × Nat) := none
  /-- The record of MOD_EDGE_TEST for the next dispatch: position and entries. -/
  test : Option (Nat × List Word) := none
  deriving DecidableEq, Repr

/-! ### Grid laws (chapter 08) -/

/-- A complex number d + jq. -/
structure Cx where
  d : Word := 0
  q : Word := 0
  deriving DecidableEq, Repr

/-- A grid record: its 11 slot words (R205). -/
abbrev GridRec := List Word

/-- The GRID context (R204–R226). -/
structure GridSt where
  profile : List Byte := []
  crc : Nat := 0
  /-- 0 follower, 1 leader, 2 shadow; whether this chip issues (R204, R208). -/
  role : Nat := 0
  issuing : Bool := false
  /-- The role has been taken at a join and stands until CONFIG (R204); a LEADER acts as SHADOW (R208). -/
  fixed : Bool := false
  stepped : Bool := false
  /-- A record with ISSUER set has been applied (R208). -/
  shadowSeen : Bool := false
  /-- Filtered sequences (R213). -/
  vp : Cx := {}
  vn : Cx := {}
  ipos : Cx := {}
  ineg : Cx := {}
  /-- Current-loop integrators and resonant states, per phase (R215). -/
  intp : Cx := {}
  intn : Cx := {}
  pr : List (List (Word × Word)) := List.replicate 3 (List.replicate 6 (0, 0))
  /-- References of the last run, pu. -/
  ipRef : Word := 0
  irRef : Word := 0
  inRef : Cx := {}
  /-- Computed outputs of the last run: u_a, u_b, u_c, and Î, θ_i, P, V+, i_r, Vdc. -/
  out : List Word := List.replicate 9 0
  vminus : Word := 0
  vlow : Word := 0
  vhigh : Word := 0
  /-- Ride-through as the issuer decides it (R219–R223): RTS, frame of entry, references at entry. -/
  rts : Nat := 0
  entryN : Nat := 0
  entryIp : Word := 0
  entryIr : Word := 0
  /-- Frame since which the exit conditions have held; frame at which a cessation ended, for the restore. -/
  exitN : Option Nat := none
  restoreN : Option Nat := none
  /-- The exit hold has ended: RTS 0 from this run on (R223). -/
  exitDue : Bool := false
  /-- The active-current ramp of R214 is acting. -/
  ramp : Bool := false
  /-- References frozen on entry to HOLD (R217). -/
  frozen : Option (Word × Word) := none
  /-- Consecutive frames each TRIPS condition has held (R224), and ROCOF above ROCMAX (R225). -/
  timers : List Nat := List.replicate 8 0
  rocRun : Nat := 0
  rocof : Word := 0
  /-- Selected frequencies and angles of vp of the last runs, newest first (R225). -/
  fHist : List Word := []
  aHist : List Word := []
  /-- Trip causes due in this frame for the record. -/
  due : List Nat := []
  /-- Record applied in the present frame, and the records received and not yet due, with their issue frames. -/
  applied : Option GridRec := none
  inbox : List (Nat × GridRec) := []
  /-- The records this chip issued and has not seen fall due (R224). -/
  own : List GridRec := []
  /-- The present frame’s record is extrapolated; consecutive extrapolated frames; total; CRC mismatch. -/
  extrap : Bool := false
  extrapRun : Nat := 0
  extrapTotal : Nat := 0
  mismatch : Bool := false
  /-- GRID_ISL_ARM (R228). -/
  armed : Bool := false
  lastCause : Nat := 0
  rtStamp : Nat := 0
  tripStamp : Nat := 0
  /-- Coded term of the last run. -/
  inj : Bool := false
  seqrev : Bool := false
  deriving DecidableEq, Repr

/-- The ISLCODE context (R227–R230). -/
structure IslSt where
  /-- Sums of the present window: Σc, Σx, Σcx, Σy, Σcy, Σf, records taken; still valid. -/
  sc : Int := 0
  sx : Word := 0
  scx : Word := 0
  sy : Word := 0
  scy : Word := 0
  sf : Word := 0
  n : Nat := 0
  valid : Bool := true
  /-- Windows in Z_ref, newest first: Z and mean frequency. -/
  zref : List (Word × Word) := []
  /-- Consecutive windows with a jump and no drift, newest first. -/
  jumps : List (Word × Word) := []
  /-- Windows without a jump since the last entry to RUN or reset (R230). -/
  count : Nat := 0
  /-- Z_ref exists. -/
  refOk : Bool := false
  /-- The last run was in RUN. -/
  wasRun : Bool := false
  lastZ : Word := 0
  invalid : Nat := 0
  jumpOnly : Nat := 0
  deriving DecidableEq, Repr

/-! ### Thicket (chapter 09) -/

/-- A LOOP notice present on a ring (R252, R256). -/
structure LoopNote where
  cell : Nat
  /-- 0 east-lane input lost, 1 west-lane input lost. -/
  side : Nat
  ready : Bool
  /-- Frame in which it last came. -/
  frame : Nat
  deriving DecidableEq, Repr

/-- One node of a ring. -/
structure NodeSt where
  /-- Discovery reply: Δ in TU, ℓE and ℓW in 1/16 TU (R241). -/
  reply : Option (Int × Int × Int) := none
  /-- Credits granted and records received under them (R246). -/
  cum : Nat := 0
  sent : Nat := 0
  /-- The lane user whose granule backs each credit outstanding, oldest first (R26). -/
  creds : List Nat := []
  deriving DecidableEq, Repr

/-- One ring. -/
structure RingSt where
  /-- Discovery: 0 none, 1 DISC on the east lane, 2 on the west lane; t0, t1, L_E (R241). -/
  disc : Nat := 0
  t0 : Nat := 0
  t1 : Nat := 0
  le : Nat := 0
  notes : List LoopNote := []
  nodes : List (Nat × NodeSt) := []
  /-- UNLOOP has been sent to both loop nodes: the ring is intact from the next tick (R255). -/
  healing : Bool := false
  /-- UNLOOP frames of a MULTI heal still to come, and a heal in progress (R256). -/
  unloop : Nat := 0
  multiHeal : Bool := false
  deriving DecidableEq, Repr

/-! ### Krekai (chapter 10) -/

/-- Another chip of the station, as its heartbeats show it (R269). -/
structure Peer where
  /-- Frames heard and not yet judged. -/
  heard : List Nat := []
  /-- The ports, as a mask, on which the heartbeats of the last complete frame came in; the same of the newest frame, and that frame (R263). -/
  via : Nat := 0
  viaNow : Nat := 0
  viaFrame : Nat := 0
  missed : Nat := 0
  state : Nat := 0
  kproto : Nat := 0
  deriving DecidableEq, Repr

/-- A slot value on its way to the sample image (R278): slot, writer, value, arrival stamp and rank of its source (R16). -/
structure SlotVal where
  slot : Nat
  chip : Nat
  /-- The tick from which it stands in the image. -/
  due : Nat
  value : Int
  stamp : Nat
  rank : Nat
  deriving DecidableEq, Repr

/-- A target's answer or acknowledgement (R282). -/
structure TxnAns where
  chip : Nat
  status : Nat
  detail : Nat
  /-- Result bytes 16–31. -/
  result : List Byte
  deriving DecidableEq, Repr

/-- A station-scoped or COHERENT packet at its coordinator (R280–R282). -/
structure Txn where
  id : Nat
  src : Src
  pkt : Packet
  coherent : Bool
  targets : List Nat
  /-- Answers, and acknowledgements of the second phase. -/
  answers : List TxnAns := []
  acks : List TxnAns := []
  /-- The granules of the coordinator's copy (R29). -/
  copy : Hold := { user := 0, res := 0, sh := 0 }
  /-- 0 waiting for answers, 1 GO sent, 2 ABORT sent. -/
  phase : Nat := 0
  commitN : Nat := 0
  view : Nat := 0
  /-- Frame after which missing answers are given up. -/
  deadline : Nat := 0
  deriving DecidableEq, Repr

/-- A command prepared at a target (R281): coordinator, transaction, packet, commit frame, whether it answered READY. -/
structure Prep where
  origin : Nat
  id : Nat
  /-- Where its bulk data lies: its own queue when the target is the coordinator. -/
  src : Src
  pkt : Packet
  commitN : Nat
  /-- Bulk data that came with it. -/
  data : List Byte := []
  /-- The snapshot buffer reserved for it (R389), and what it adds to the cost of the control items (R57). -/
  buf : Option Nat := none
  cost : Nat := 0
  /-- The granules reserved for it (R281), and the Krekai port's granules that hold it (R280). -/
  bulk : List Hold := []
  link : Option Hold := none
  deriving DecidableEq, Repr

/-- What a message from another chip asks of device firmware (R280–R282). -/
inductive Inward where
  | packet (origin txn : Nat) (pkt : Packet) (data : List Byte)
  | prepare (origin txn : Nat) (pkt : Packet) (commitN : Nat) (data : List Byte)
  | reply (txn : Nat) (ans : TxnAns) (bulk : List Byte)
  | decision (origin txn : Nat) (go : Bool)
  deriving DecidableEq, Repr

/-- A message that waits in granules of the port it came in on until device firmware takes it (R24, R391, R407). -/
structure Inbound where
  port : Nat
  hold : Hold
  msg : Inward
  deriving DecidableEq, Repr

/-- Krekai. -/
structure KrkSt where
  table : List Byte := []
  /-- STN_JOIN waiting for its identity exchanges. -/
  joinCmd : Option (Src × Packet) := none
  joined : Bool := false
  peers : List (Nat × Peer) := []
  /-- Losses detected and not committed: tick of detection and chip (R271). -/
  losses : List (Nat × Nat) := []
  /-- Held contributions: chip and tick of detection (R273). -/
  held : List (Nat × Nat) := []
  commitFrame : Nat := 0
  /-- A chip was MEMBER before (R275: TSRCCHG_F is a change between two). -/
  hadSource : Bool := false
  /-- Values on their way, the image's slot values, and the last contributions by slot × 512 + chip (R273, R278). -/
  flight : List SlotVal := []
  slots : List (Nat × Word) := []
  contrib : List (Nat × Int) := []
  /-- The last update taken of each slot from each chip: a second copy of it that comes round a ring is no new one (R261). -/
  got : List SlotVal := []
  /-- Identities passed on whose copy from the other way round has not come yet: chip and port (R261). -/
  idGot : List (Nat × Nat) := []
  inbox : List Inbound := []
  txns : List Txn := []
  nextTxn : Nat := 0
  preps : List Prep := []
  /-- Bulk data of the forwarded packet being executed, as its coordinator read it (R405). -/
  fwd : List Byte := []
  /-- Station result area of each queue (R282). -/
  area : List (Nat × Nat) := []
  /-- ORPHAN: tick of entry, ramp begun, cells blocked (R272). -/
  orphanN : Nat := 0
  orphanRamp : Bool := false
  orphanOut : Bool := false
  /-- Largest measured fibre delay, ns (R279). -/
  fibre : Nat := 0
  deriving DecidableEq, Repr

/-! ### Nimbus (chapter 12) -/

/-- One channel’s way through the filters (R319, R320). -/
structure MtrChan where
  /-- Results since Nimbus started; the last 97 of them times GAINc, newest first; the last one as it came. -/
  n : Nat := 0
  raw : List Word := []
  prev : Option MeterRes := none
  /-- The 80 kS/s stage: its last 256 samples, and the last 255 of them delayed by PHc, newest first. -/
  mid : List Word := []
  late : List Word := []
  /-- Output samples that wait for METER_SAMPLE, oldest first. -/
  out : List Word := []
  deriving DecidableEq, Repr

/-- The instant at the centre of the filters of an output sample: stamp, its qualifiers, core clock (R320, R321). -/
structure MtrMark where
  stamp : Nat
  free : Bool
  unsync : Bool
  clk : Nat
  deriving DecidableEq, Repr

/-- One output sample: its mark, the values of the seven channels, the input that makes it OVRM, DEGR (R320, R321). -/
structure MtrOut where
  mark : MtrMark
  x : List Word
  ovrm : Option Nat
  degr : Bool
  deriving DecidableEq, Repr

/-- One delayed metering sample: v_x and v̂_x of the phases, and the four currents (R320, R323). -/
structure MtrSample where
  v : List Word
  vh : List Word
  i : List Word
  deriving DecidableEq, Repr

/-- Flags of an interval or a window. -/
structure MtrFlags where
  dir : Bool := false
  part : Bool := false
  freerun : Bool := false
  unsync : Bool := false
  ovrm : Bool := false
  degr : Bool := false
  band : Bool := false
  deriving DecidableEq, Repr

/-- A harmonic window that has ended: its start, length, flags, the 2,048 points of each channel (R332), and the chunks analysed so far. -/
structure HarmWin where
  start : Nat
  len : Nat
  flags : MtrFlags
  freqInv : Bool
  points : List (List Word)
  chunks : Nat
  deriving DecidableEq, Repr

/-- One pulse output (R329, R330). -/
structure PulseSt where
  /-- Residue in 2^−32 mWh or mvarh. -/
  r : Nat := 0
  /-- Scheduled leading edges, by station time. -/
  due : List Nat := []
  /-- Core clock of the last leading edge. -/
  last : Option Nat := none
  deriving DecidableEq, Repr

/-- Last-known power, as the vault keeps it (R338). -/
structure Lkp where
  p : Word := 0
  q : Word := 0
  stamp : Nat := 0
  deriving DecidableEq, Repr

/-- Nimbus. -/
structure MtrSt where
  /-- The configuration block in force; empty: none. -/
  cfg : List Byte := []
  /-- The 18 accumulators in 2^−32 mWh or mvarh, modulo 2^96. -/
  acc : List Nat := List.replicate 18 0
  /-- Nimbus runs (R318). -/
  running : Bool := false
  /-- The channels, the marks of the output samples to come (oldest first), and the results of OVR or SUSPECT: core clock and input. -/
  chans : List MtrChan := List.replicate 7 {}
  marks : List MtrMark := []
  bad : List (Nat × Nat) := []
  /-- Output samples, newest first: as many as a harmonic window and the Hilbert filter need. -/
  outs : List MtrOut := []
  /-- The last two outputs of the low-pass filter, newest first (R331). -/
  lp : List Word := []
  /-- Delayed samples, newest first. -/
  hist : List MtrSample := []
  /-- Stamp of the last sample. -/
  last : Nat := 0
  /-- The register the last active sample went to: true for import (R326). -/
  dir : Option Bool := none
  /-- The interval in progress: its start and length in TU, accumulators 0–5 at its start, flags (R327). -/
  intv : Option (Nat × Nat × List Nat × MtrFlags) := none
  /-- Closed intervals and events, newest first. -/
  intvs : List (List Byte) := []
  evts : List (List Byte) := []
  pulses : List PulseSt := List.replicate 4 {}
  /-- Stamps of the last OVRM and DEGR samples (R321). -/
  lastOvrm : Option Nat := none
  lastDegr : Option Nat := none
  /-- Crossings of Va, newest first (R331). -/
  cross : List Nat := []
  /-- Start, cycles and flags of the harmonic window in progress; windows that have ended, oldest first: start, end, flags, FREQINV. -/
  winStart : Option Nat := none
  winCycles : Nat := 0
  winFlags : MtrFlags := {}
  ended : List (Nat × Nat × MtrFlags × Bool) := []
  /-- Windows completed since Nimbus started; the one under analysis; the last valid result. -/
  winCount : Nat := 0
  win : Option HarmWin := none
  harm : List Byte := []
  /-- |V+|, |V−|, |V0| and THD of the last valid window. -/
  seqs : List Word := List.replicate 3 0
  thd : List Word := List.replicate 7 0
  /-- Consecutive windows toward the start or the end of the wrong-sequence and missing-neutral states (R333). -/
  seqRun : Nat := 0
  neutRun : Nat := 0
  /-- Exact sums of P and Q since the last refresh of the last-known power, on the grid 2^−149, and their number. -/
  sumP : Int := 0
  sumQ : Int := 0
  num : Nat := 0
  lkp : Lkp := {}
  /-- A scheduled save was deferred and is retried (R336). -/
  retry : Bool := false
  /-- CFGCNT as FRAM holds it. -/
  cfgCnt : Nat := 0
  unsaved : List Byte := []
  /-- Quantities for contexts, latched at the tick (R334). -/
  image : List Word := List.replicate 26 0
  deriving DecidableEq, Repr

/-! ### Vault and power arbiter (chapter 17) -/

/-- The vault, apart from its registers (which RESET_N does not affect) and the FRAM. -/
structure VltSt where
  /-- The VLT_ registers as the host sees them, refreshed at every tick (R386). -/
  mirror : List (Nat × Word) := []
  /-- The time keeper in quarters of a TU (R425); the time of the main die, in quarters of a TU, up to which it has counted, and what had passed
  then since the last crystal edge. -/
  keeper : Nat := 0
  seen : Nat := 0
  sinceEdge : Nat := 0
  /-- The crystal stands: no edge has come for 1 ms. -/
  still : Bool := false
  /-- The vault runs from VIO33 (R423). -/
  onMain : Bool := true
  /-- No supply: registers at reset, nothing runs. -/
  dark : Bool := false
  /-- Charging is cut at 4.10 V; the cell is disconnected by the discharge cut; by over-current (R430). -/
  chargeCut : Bool := false
  cut : Bool := false
  oc : Bool := false
  /-- The boost has started (R429). -/
  boost : Bool := false
  deriving DecidableEq, Repr

/-- The arbiter's result of the last tick (R416–R421). -/
structure PwrSt where
  stamp : Nat := 0
  frame : Nat := 0
  limit : Nat := 0
  tj : Nat := 0
  /-- Six fixed costs, as PWR_STATUS_READ gives them, in mW. -/
  costs : List Nat := List.replicate 6 0
  fixed : Nat := 0
  /-- Requests of D0–D4, mW, and the classes deferred. -/
  reqs : List Nat := List.replicate 5 0
  deferred : Nat := 0
  /-- The condition of R421 holds. -/
  overLim : Bool := false
  /-- The tick of `stamp` has been. -/
  valid : Bool := false
  deriving DecidableEq, Repr

/-! ### Firmware images (chapter 16) -/

/-- A handover in progress (R407): its command, the station time at which the new image resumes, and core clocks since the tick. -/
structure HoSt where
  src : Src
  pkt : Packet
  resume : Nat
  clocks : Nat
  /-- A debug halt has fallen into it (R410). -/
  halted : Bool := false
  /-- Latches set in it, whose log records the image that resumes writes: stamp, code, whether it is the first latch; and whether HIF_EVT.TRIP is due
  (R410). -/
  trips : List (Nat × Nat × Bool) := []
  event : Bool := false
  deriving DecidableEq, Repr

/-- Image sessions, slots, boot and the epoch fuses. -/
structure ImgSt where
  /-- Header of the open session; empty: none. Units of 256 bytes received. -/
  head : List Byte := []
  got : List Nat := []
  /-- Body in the standby instruction SRAM slot; an unlisted byte is 0. -/
  standby : List (Nat × Byte) := []
  /-- The QSPI NOR, slots A and B (R398); an unlisted byte is erased, 0xFF. -/
  qspi : List (Nat × Byte) := []
  /-- Header of the running image; empty: no firmware runs. -/
  run : List Byte := []
  /-- Epoch fuses blown (R399), and the epoch a fuse rise is to reach (R400). -/
  fuses : Nat := 0
  fuseTo : Option Nat := none
  ho : Option HoSt := none
  /-- The boot ROM has read the slot headers (R378). -/
  headsRead : Bool := false
  deriving DecidableEq, Repr

/-! ### The device -/

/-- What events did to W1C and RC fields on one core clock (R8): per register its content before the first of them, and the bits they set and
the numbers they counted. -/
structure ClkEvents where
  clk : Nat := 0
  regs : List (Nat × Word × Word) := []
  deriving DecidableEq, Repr

/-- Everything the spec gives the machine, apart from the queue of waiting commands. -/
structure Dev where
  /-- The register file over BAR0 offsets; an unlisted register holds its reset value (R32). -/
  regs : List (Nat × Word) := []
  /-- Latched high words of 64-bit pairs, by the offset of the high register (R11). -/
  hiLatch : List (Nat × Word) := []
  /-- The time counter, 64 bits of TU (R46). -/
  time : Nat := 0
  /-- Core clocks since RESET_N was released (the model's own count, which tells events of one core clock from later ones). -/
  clocks : Nat := 0
  /-- What events set and counted on the last core clock on which one did (R8). -/
  evt : ClkEvents := {}
  /-- The register file at the beginning of the present core clock (R387). -/
  clkRegs : List (Nat × Word) := []
  /-- Number of free values taken so far (the model's own field, log entry 12). -/
  freeUsed : Nat := 0
  /-- Held in reset: RESET_N low or a main rail below its threshold (R382, R448). -/
  inReset : Bool := false
  /-- Straps sampled at the release (R377): bit 0 HOSTSEL, bit 1 SLOTB, bit 2 RECOV. -/
  straps : Nat := 0
  /-- What the last command sent out. -/
  out : List OutMsg := []
  /-- Host memory, by address; an unlisted byte reads 0 (log entry 6). -/
  hostMem : List (Nat × Byte) := []
  /-- Ranges (address, length) of host memory that answer with an error completion (R341). -/
  hostBad : List (Nat × Nat) := []
  pins : Pins := {}
  log : List LogRec := []
  fram : FramSt := {}
  pool : PoolSt := {}
  host : HostSt := {}
  clk : ClkSt := {}
  frm : FrmSt := {}
  adc : AdcSt := {}
  cmp : CmpSt := {}
  ang : AngSt := {}
  ce : CeSt := {}
  cells : CellsSt := {}
  esp : EspSt := {}
  grid : GridSt := {}
  isl : IslSt := {}
  mtr : MtrSt := {}
  vlt : VltSt := {}
  pwr : PwrSt := {}
  img : ImgSt := {}
  thk : List (Nat × RingSt) := []
  krk : KrkSt := {}
  hb : List (Nat × HbCh) := []
  snp : SnpSt := {}
  prt : PrtSt := {}
  saf : SafSt := {}
  deriving DecidableEq, Repr

/-- The reasons a step stops with a fault: none. Every meaning answers a next state (safe). -/
inductive Fault where
  deriving DecidableEq, Repr

/-- The reasons a step is refused. -/
inductive Refusal where
  /-- Raised by an arm of `exec` whose command has no meaning yet; safe, since nothing is claimed of it. -/
  | notModelled (mnemonic : String)
  deriving DecidableEq, Repr

/-- The machine: the device, and the commands that are waiting, first in first out. -/
structure State where
  dev : Dev
  pending : List Instr
  deriving DecidableEq, Repr

/-- The machine right after RESET_N is released: every register at its reset value, in BOOT, with trip latch 0x2C set and
TRIP_OUT high (R290), nothing listed in any memory, and no command waiting. -/
def State.reset : State := { dev := {}, pending := [] }

end Sys2Proof.Machine
end

