-- ==== Sys2Proof/Machine/Ops.lean ====
section
/-! DEFINITION. The named operations every command uses: registers and fields, stamps, the event log, interrupts, the device
state and host memory. -/

namespace Sys2Proof.Machine

/-! ### Applying effects -/

/-- `f` when the condition holds, else nothing. -/
def onlyIf (c : Bool) (f : Dev → Dev) (s : Dev) : Dev := if c then f s else s

/-- `f` for each element in order. -/
def forEach {α : Type} (l : List α) (f : α → Dev → Dev) (s : Dev) : Dev := l.foldl (fun t a => f a t) s

/-! ### Registers -/

/-- The content of the register file at a BAR0 offset. -/
def Dev.reg (s : Dev) (off : Nat) : Word := sget resetWord s.regs off

/-- A register given a new content. -/
def Dev.setReg (s : Dev) (off : Nat) (w : Word) : Dev := { s with regs := sset resetWord s.regs off w }

/-- The value of a field. -/
def Dev.get (s : Dev) (f : Fld) : Nat := bits (s.reg f.off) f.hi f.lo

/-- A field given a new value (its low bits). -/
def Dev.set (s : Dev) (f : Fld) (v : Nat) : Dev := s.setReg f.off (setBits (s.reg f.off) f.hi f.lo v)

/-- A one-bit field is 1. -/
def Dev.isOn (s : Dev) (f : Fld) : Bool := s.get f == 1

/-- A one-bit field given a Bool. -/
def Dev.setB (s : Dev) (f : Fld) (b : Bool) : Dev := s.set f (b2n b)

/-- A counter’s value after `n` more, holding at its greatest. -/
def Fld.more (f : Fld) (v n : Nat) : Nat := satAdd (2 ^ (f.hi + 1 - f.lo) - 1) v n

/-- What the events of the present core clock did to a register: its content before them, and what they set and counted (R8). -/
def Dev.clkEvents (s : Dev) (off : Nat) : Option (Word × Word) :=
  if s.evt.clk = s.clocks then (s.evt.regs.find? (fun x => x.1 == off)).map (·.2) else none

/-- The record of them replaced. -/
def Dev.setClkEvents (s : Dev) (off : Nat) (e : Word × Word) : Dev :=
  let l := if s.evt.clk = s.clocks then s.evt.regs.filter (fun x => x.1 != off) else []
  { s with evt := { clk := s.clocks, regs := l ++ [(off, e)] } }

/-- An event of the present core clock sets or counts in a field (R8). -/
def Dev.noted (s : Dev) (f : Fld) (n : Nat) : Dev :=
  let e := (s.clkEvents f.off).getD (s.reg f.off, 0#32)
  s.setClkEvents f.off (e.1, setBits e.2 f.hi f.lo (f.more (bits e.2 f.hi f.lo) n))

/-- A one-bit field set to 1: the event of a sticky flag (R9). -/
def Dev.raise (s : Dev) (f : Fld) : Dev := (s.noted f 1).set f 1

/-- A counter field increased, holding at its greatest value. -/
def Dev.count (s : Dev) (f : Fld) (n : Nat := 1) : Dev := (s.noted f n).set f (f.more (s.get f) n)

/-- An event of the present core clock is taken back: the field holds what it held before the clock’s events, with the others’ counts. -/
def Dev.unnoted (s : Dev) (f : Fld) (n : Nat) : Dev :=
  match s.clkEvents f.off with
  | none => s
  | some e =>
    let left := bits e.2 f.hi f.lo - n
    (s.setClkEvents f.off (e.1, setBits e.2 f.hi f.lo left)).set f (f.more (bits e.1 f.hi f.lo) left)

/-- A bit of a bitmap register set. -/
def Dev.raiseBit (s : Dev) (off n : Nat) : Dev := s.raise ⟨off, n, n⟩

/-- A 64-bit value put into a register pair, low word first. -/
def Dev.setPair (s : Dev) (lo hi : Nat) (v : Nat) : Dev :=
  (s.setReg lo (BitVec.ofNat 32 v)).setReg hi (BitVec.ofNat 32 (v / 2 ^ 32))

/-- The 64-bit value of a register pair. -/
def Dev.pair (s : Dev) (lo hi : Nat) : Nat := (s.reg lo).toNat + 2 ^ 32 * (s.reg hi).toNat

/-- A fresh free value (log entry 12) and the state that has used it. -/
def Dev.free (s : Dev) : Word × Dev := (Config.freeWord s.freeUsed, { s with freeUsed := s.freeUsed + 1 })

/-- Something is sent out. -/
def Dev.send (s : Dev) (m : OutMsg) : Dev := { s with out := s.out ++ [m] }

/-! ### Time (R4, R46) -/

/-- A stamp: the counter at the last core clock before the event plus the TDC interpolation of 0–15 TU. -/
def Dev.stamp (s : Dev) (tdc : Nat) : Nat := (s.time + min 15 tdc) % 2 ^ 64

/-- Stamps issued now carry FREERUN (R42). -/
def Dev.freerun (s : Dev) : Bool := s.isOn Reg.CLK_STAT_FREERUN

/-- Stamps issued now carry UNSYNC (R42, R48). -/
def Dev.unsync (s : Dev) : Bool := s.isOn Reg.CLK_STAT_UNSYNC

/-- The present frame number. -/
def Dev.frame (s : Dev) : Nat := s.get Reg.FRM_NUM_FRAME

/-- The frame period in TU for a rate code (R51). -/
def periodTU (rate : Nat) : Nat :=
  match rate with
  | 0 => 400000 | 1 => 320000 | 2 => 256000 | 3 => 200000 | 4 => 160000 | 5 => 128000 | 6 => 80000 | _ => 160000

/-- The frame period in core clocks. -/
def periodClk (rate : Nat) : Nat := periodTU rate / 16

/-- The present frame period in TU. -/
def Dev.frameTU (s : Dev) : Nat := periodTU (s.get Reg.FRM_CFG_RATE)

/-- A number of TU in a number of milliseconds. -/
def msTU (n : Nat) : Nat := n * 3200000

/-- The chip’s station position 16 × bay + chip (R264); 0 until it joins (R21). -/
def Dev.chipIndex (s : Dev) : Nat :=
  if s.get Reg.KRK_STAT_MST = 0 then 0 else 16 * s.get Reg.KRK_ID_BAY + s.get Reg.KRK_ID_CHIP

/-! ### Device states (R367) -/

/-- State codes. -/
def stPOWEROFF : Nat := 0
def stBOOT : Nat := 1
def stCONFIG : Nat := 2
def stREADY : Nat := 3
def stPRECHARGE : Nat := 4
def stSYNC : Nat := 5
def stRUN : Nat := 6
def stRIDETHROUGH : Nat := 7
def stHOLD : Nat := 8
def stORPHAN : Nat := 9
def stBLOCKED : Nat := 10
def stTRIPPED : Nat := 11

/-- The device state code. -/
def Dev.st (s : Dev) : Nat := s.get Reg.HIF_STAT_STATE

/-- The device state is one of those listed. -/
def Dev.stIn (s : Dev) (l : List Nat) : Bool := l.contains s.st

/-! ### The event log (R394) and its copy in FRAM (R433) -/

/-- The 32 bytes of a log record. -/
def LogRec.bytes (r : LogRec) : List Byte :=
  toLe r.stamp 8 ++ toLe r.frame 4 ++ [BitVec.ofNat 8 r.src, BitVec.ofNat 8 r.code,
    BitVec.ofNat 8 (b2n r.freerun + 2 * b2n r.unsync), 0] ++ toLe r.seq 4 ++ toLe r.addr 4 ++ toLe r.data 8

/-- The sequence number after `n`: 1 after 0xFFFFFFFF. -/
def nextSeq (n : Nat) : Nat := if n ≥ 0xFFFFFFFF then 1 else n + 1

/-- Two requests are for the same record: one metering save, one of each other fixed record; a sequence that a command asks for stays one of its own
(R434, R436, log entry 28). -/
def FramReq.sameRecord (x r : FramReq) : Bool :=
  x.kind == r.kind && r.kind != 3 &&
    (r.kind == 1 || (r.cmds.isEmpty && x.cmds.isEmpty && (x.bursts.getD 0 (0, [])).1 == (r.bursts.getD 0 (0, [])).1))

/-- An action asked of the FRAM energy gate (R434); a newer request for the record of a pending one replaces it (R436), and the commands that waited for
that record wait for the newer one. -/
def Dev.framAsk (s : Dev) (r : FramReq) : Dev :=
  let old := fun (x : FramReq) => !x.started && x.sameRecord r
  let gone := s.fram.reqs.filter old
  let r := { r with cmds := (gone.map (·.cmds)).flatten ++ r.cmds, auto := r.auto || gone.any (·.auto), deferred := gone.any (·.deferred) }
  { s with fram := { s.fram with reqs := (s.fram.reqs.filter (fun x => !old x)) ++ [r] } }

/-- The 48 bytes of a FRAM log entry (R433). -/
def framLogEntry (r : LogRec) (fseq : Nat) : List Byte :=
  let b := r.bytes ++ toLe fseq 4 ++ zeros 8
  b ++ toLe (crc32 b) 4

/-- The record is copied to the FRAM log (R433); `first` says that it is the first latch. -/
def framCopied (src code : Nat) (first : Bool) : Bool :=
  (src == 10 && code == 1 && first) || src == 11 || src == 16 || src == 20 ||
    (src == 12 && [2, 3, 4, 5, 9, 11, 12].contains code)

/-- The oldest pending log entry that has not started is dropped (R436). -/
def dropOldestLog : List FramReq → List FramReq
  | [] => []
  | r :: t => if r.kind == 3 && !r.started then t else r :: dropOldestLog t

/-- Eight log entries are pending (R436). -/
def Dev.framLogFull (s : Dev) : Bool := decide (8 ≤ (s.fram.reqs.filter (fun x => x.kind == 3 && !x.started)).length)

/-- A log record is copied into the oldest of the 128 FRAM log entries; a ninth pending entry drops the oldest pending one (R436). -/
def Dev.framLog (s : Dev) (r : LogRec) : Dev :=
  let n := s.fram.logSeq
  let full := s.framLogFull
  let s := if full then { s with fram := { s.fram with reqs := dropOldestLog s.fram.reqs } } else s
  let s := onlyIf full (fun t => (t.raise Reg.VLT_FLAG_DROP_F).count Reg.VLT_CNT_DROPCNT) s
  let s := s.framAsk { bursts := [(0x800 + 48 * (n % 128), framLogEntry r n)], kind := 3 }
  { s with fram := { s.fram with logSeq := n + 1 } }

/-- A record enters the ring of 1,024 log records (R394). -/
def Dev.logRing (s : Dev) (stamp src code addr data : Nat) : LogRec × Dev :=
  let seq := nextSeq (s.get Reg.SNP_LOGSEQ_SEQ)
  let r : LogRec := { stamp := stamp, frame := s.frame, src := src, code := code, freerun := s.freerun, unsync := s.unsync,
                      seq := seq, addr := addr, data := data }
  let l := s.log ++ [r]
  let s := { s with log := if 1024 < l.length then l.drop 1 else l }
  (r, s.set Reg.SNP_LOGSEQ_SEQ seq)

/-- VBAT in mV, as records of source 20 carry it (R433). -/
def Dev.vbat (s : Dev) : Nat := s.get Reg.VLT_STAT_VBAT

/-- A record copied into the FRAM log, and event 9 of source 20 after it when an entry was dropped for it: `next` makes the record of that event.
The copy of event 9 drops an entry itself, which makes no further event (DESIGN CHOICE, log entry 23). -/
def Dev.framLogged (s : Dev) (r : LogRec) (next : Dev → LogRec × Dev) : Dev :=
  let t := s.framLog r
  if s.framLogFull then
    let x := next t
    x.2.framLog x.1
  else t

/-- A stamped log record (R394): it enters the ring, and the FRAM log where R433 says so. -/
def Dev.logAt (s : Dev) (stamp src code addr data : Nat) (first : Bool := false) : Dev :=
  let x := s.logRing stamp src code addr data
  if framCopied src code first then x.2.framLogged x.1 (fun t => t.logRing stamp 20 9 0 t.vbat) else x.2

/-- A log record stamped at the present core clock. -/
def Dev.logNow (s : Dev) (src code data : Nat) : Dev := s.logAt (s.stamp 0) src code 0 data

/-- The time keeper's value, TU (R425). -/
def Dev.keeperTU (s : Dev) : Nat := s.vlt.keeper / 4 % 2 ^ 64

/-- The record of an event of source 20 while the main die is off: stamped by the keeper with UNSYNC (R425); its frame and sequence numbers are free
values (log entry 28). -/
def Dev.keeperRec (s : Dev) (code data : Nat) : LogRec × Dev :=
  let f := s.free
  let q := f.2.free
  ({ stamp := s.keeperTU, frame := f.1.toNat, src := 20, code := code, freerun := false, unsync := true, seq := q.1.toNat, addr := 0,
     data := data }, q.2)

/-- An event of source 20 (R433). While the main die is off only the FRAM copy is written. -/
def Dev.vaultLog (s : Dev) (code data : Nat) : Dev :=
  if s.inReset then
    let x := s.keeperRec code data
    x.2.framLogged x.1 (fun t => t.keeperRec 9 t.vbat)
  else s.logNow 20 code data

/-! ### Interrupts (R352) -/

/-- The vector control word of an MSI-X vector; masked until the host unmasks it (PRESUMED, log entry 13). -/
def Dev.msixMasked (s : Dev) (v : Nat) : Bool :=
  s.host.msixFnMask || bit (sget (fun i => if i % 4 = 3 then 1#32 else 0#32) s.host.msixTable (4 * v + 3)) 0

/-- An MSI-X message: sent, or its pending bit set when masked. -/
def Dev.msix (s : Dev) (v : Nat) : Dev :=
  if !s.host.msixEnable then s
  else if s.msixMasked v then
    { s with host := { s.host with pba := if s.host.pba.contains v then s.host.pba else s.host.pba ++ [v] } }
  else s.send (.msix v)

/-- HIF_EVT masked by HIF_EVTEN. -/
def Dev.evtMasked (s : Dev) : Nat := (s.reg Reg.HIF_EVT).toNat &&& (s.reg Reg.HIF_EVTEN).toNat

/-- A bit of HIF_EVT set by an event; vector 64 is sent when the masked value becomes non-zero (R352). -/
def Dev.event (s : Dev) (f : Fld) : Dev :=
  let t := s.raise f
  onlyIf (s.evtMasked == 0 && t.evtMasked != 0) (·.msix 64) t

/-- A flag of HIF_FLAG set, with the FLAG event. -/
def Dev.hifFlag (s : Dev) (f : Fld) : Dev := (s.raise f).event Reg.HIF_EVT_FLAG

/-! ### Changing the device state (R366) -/

/-- Causes of a state change that are neither a Tag nor a trip code (DESIGN CHOICE of the numbers, log entry 14). -/
def causeFirmware : Nat := 0x10000
def causeMembership : Nat := 0x20000
def causeClockLoss : Nat := 0x30000
def causeRideThrough : Nat := 0x40000

/-- The device enters a state: HIF_EVT.STATE, and a log record with the old state, the new state and the cause. -/
def Dev.enter (s : Dev) (new cause : Nat) : Dev :=
  let old := s.st
  if old = new then s
  else
    let s := (s.set Reg.HIF_STAT_STATE new).event Reg.HIF_EVT_STATE
    s.logNow 19 1 (old + 256 * new + 65536 * cause)

/-! ### Host memory and the SPI windows -/

/-- Bytes of host memory. -/
def Dev.hostRead (s : Dev) (a n : Nat) : List Byte := readBytes s.hostMem a n

/-- Bytes written to host memory. -/
def Dev.hostWrite (s : Dev) (a : Nat) (d : List Byte) : Dev := { s with hostMem := writeBytes s.hostMem a d }

/-! ### Pool views (R31) -/

/-- What a user of the pool holds. -/
def Dev.user (s : Dev) (u : Nat) : PoolUser := sget (fun _ => {}) s.pool.users u

/-- A user’s holding replaced. -/
def Dev.setUser (s : Dev) (u : Nat) (p : PoolUser) : Dev :=
  { s with pool := { s.pool with users := sset (fun _ => {}) s.pool.users u p } }

/-- A queue. -/
def Dev.queue (s : Dev) (q : Nat) : QueueSt := sget (fun _ => {}) s.host.queues q

/-- A queue replaced. -/
def Dev.setQueue (s : Dev) (q : Nat) (x : QueueSt) : Dev :=
  { s with host := { s.host with queues := sset (fun _ => {}) s.host.queues q x } }

end Sys2Proof.Machine
end

