-- ==== Sys2Proof/Machine/Angle.lean ====
section
/-! DEFINITION. The external grid angle reference and the selected angle (R91–R107). -/

namespace Sys2Proof.Machine

def Dev.setAng (s : Dev) (a : AngSt) : Dev := { s with ang := a }

/-- Counts per grid cycle (R96, R109). -/
def Dev.cpc (s : Dev) : Nat := s.get Reg.ANG_CPC_CPC + 1

/-- Reference state codes of R105. -/
def xOFF : Nat := 0
def xWAIT : Nat := 1
def xVALID : Nat := 2
def xINVALID : Nat := 3
def xLOST : Nat := 4

def Dev.xst (s : Dev) : Nat := s.get Reg.ANG_STAT_XST

/-- The stamp of an accepted level: the first sample of its stable run (R93). -/
def Dev.filtStamp (s : Dev) : Nat := s.time - 16 * (max 2 (s.get Reg.ANG_CFG_FILT) - 1)

/-- The reference enters WAIT (R105, R97). -/
def Dev.xWait (s : Dev) : Dev :=
  let s := (s.set Reg.ANG_STAT_XST xWAIT).set Reg.ANG_STAT_INDEXED 0
  s.setAng { s.ang with idxSeen := false, illSince := false, cond := false }

/-- A VALID reference becomes INVALID (R105). -/
def Dev.xInvalid (s : Dev) : Dev :=
  if s.xst = xVALID then
    let s := (s.set Reg.ANG_STAT_XST xINVALID).raise Reg.ANG_FLAG_INVAL_F
    s.setAng { s.ang with idxSeen := false, illSince := false, cond := false, rearm := false }
  else s

/-- POS moved by a number of counts, modulo CPC. A POS that a lower CPC leaves at or above it stays until the next edge or index (DESIGN
CHOICE, log entry 64). -/
def Dev.movePos (s : Dev) (d : Int) : Dev :=
  s.set Reg.ANG_STAT_POS (((s.get Reg.ANG_STAT_POS : Int) + d) % (s.cpc : Int)).toNat

/-- fx of `n` counts in `dt` TU, signed by the direction (R100, R101). -/
def Dev.fxOf (s : Dev) (n dt : Nat) (reverse : Bool) : Word :=
  fOfRat ((if reverse then (-1 : Int) else 1) * (n * 3200000000 : Nat)) (s.cpc * max 1 dt)

/-- Position of a level pair in the forward sequence 00, 10, 11, 01 (R94). -/
def quadIndex (a b : Bool) : Nat := if a then (if b then 2 else 1) else (if b then 3 else 0)

/-- Net edges since the last index, with the index missed beyond CPC + IDXTOL (R98). -/
def Dev.countNet (s : Dev) (d : Int) : Dev :=
  let net := s.ang.net + d
  if s.cpc + s.get Reg.ANG_CPC_IDXTOL < net.natAbs then
    let m := s.ang.misses + 1
    let s := (s.setAng { s.ang with net := 0, misses := m }).raise Reg.ANG_FLAG_IDXMISS_F
    onlyIf (decide (2 ≤ m)) (·.xInvalid) s
  else s.setAng { s.ang with net := net }

/-- A legal edge (R94, R100, R103, R104). -/
def Dev.legalEdge (s : Dev) (reverse : Bool) : Dev :=
  let stamp := s.filtStamp
  let prev := s.pair Reg.ANG_ESTAMP_LO Reg.ANG_ESTAMP_HI
  let reversal := s.ang.seen && s.isOn Reg.ANG_STAT_DIR != reverse
  let since := if !s.ang.moving || reversal then 1 else s.ang.since + 1
  let s := if s.xst = xLOST then s.xWait else s
  let s := s.movePos (if reverse then -1 else 1)
  let s := (s.setPair Reg.ANG_ESTAMP_LO Reg.ANG_ESTAMP_HI stamp).setB Reg.ANG_STAT_DIR reverse
  let s := onlyIf reversal (·.raise Reg.ANG_FLAG_REV_F) s
  let s := onlyIf (reversal && s.stIn [stRUN, stRIDETHROUGH]) (·.xInvalid) s
  let a := s.ang
  let period := !s.isOn Reg.ANG_STAT_METH
  let fx := if period then (if reversal then fZero else if 2 ≤ since then s.fxOf 1 (stamp - prev) reverse else a.fx) else a.fx
  let a := { a with since := since, moving := true, seen := true, runIll := 0, fx := fx, winN := a.winN + 1,
                    winFirst := if a.winN = 0 then stamp else a.winFirst, winRev := a.winRev || reversal }
  (s.setAng a).countNet (if reverse then -1 else 1)

/-- An illegal transition (R95). -/
def Dev.illegalEdge (s : Dev) : Dev :=
  let s := (s.count Reg.ANG_CNT_ANG_ERR).raise Reg.ANG_FLAG_ILL_F
  let run := s.ang.runIll + 1
  let d : Int := if s.isOn Reg.ANG_STAT_DIR then -2 else 2
  let s := if fIsZero s.ang.fx then s else s.movePos d
  let s := s.setAng { s.ang with runIll := run, illSince := true }
  onlyIf (decide (3 ≤ run)) (·.xInvalid) s

/-- An INVALID reference whose conditions hold becomes VALID (R107). -/
def Dev.xReturn (s : Dev) : Dev :=
  if s.xst = xINVALID && s.ang.cond && (s.isOn Reg.ANG_CFG_AUTORET || s.ang.rearm) then
    (s.set Reg.ANG_STAT_XST xVALID).setAng { s.ang with rearm := false, cond := false }
  else s

/-- POS as a signed value modulo CPC (R97). -/
def Dev.posError (s : Dev) : Int :=
  let p := s.get Reg.ANG_STAT_POS
  if s.cpc / 2 < p then (p : Int) - s.cpc else p

/-- An index now lies too far from position 0; the first one of WAIT is not judged (R97). -/
def Dev.idxErr (s : Dev) : Bool :=
  !(s.xst == xWAIT && !s.ang.idxSeen) && decide (s.get Reg.ANG_CPC_IDXTOL < s.posError.natAbs)

/-- An index (R97, R105, R107). Each index counts as the first of the next pair: `illSince` begins anew at it, also after one that fails
(DESIGN CHOICE, log entry 64). -/
def Dev.index (s : Dev) : Dev :=
  if !s.isOn Reg.ANG_CFG_EN then s
  else
    let ok := decide (s.posError.natAbs ≤ s.get Reg.ANG_CPC_IDXTOL)
    let err := s.idxErr
    let x := s.xst
    let s := (s.set Reg.ANG_STAT_POS 0).setPair Reg.ANG_ZSTAMP_LO Reg.ANG_ZSTAMP_HI s.filtStamp
    let s := onlyIf err (fun t => (t.count Reg.ANG_CNT_IDXERR_CNT).raise Reg.ANG_FLAG_IDXERR_F) s
    let met := s.ang.idxSeen && ok && !s.ang.illSince && !fIsZero s.ang.fx
    let s := s.set Reg.ANG_STAT_INDEXED 1
    let s := s.setAng { s.ang with net := 0, misses := 0, idxSeen := true, illSince := false, cond := s.ang.cond || met }
    if x = xWAIT && met then s.set Reg.ANG_STAT_XST xVALID
    else s.xReturn

/-- An index, and what it changes kept beside it. -/
def Dev.indexKept (s : Dev) : Dev :=
  if !s.isOn Reg.ANG_CFG_EN then s
  else
    let a := s.ang
    let t := s.index
    let u : IdxUndo := { clk := s.clocks, pos := s.get Reg.ANG_STAT_POS, indexed := s.get Reg.ANG_STAT_INDEXED, xst := s.xst, left := t.xst,
                         err := s.idxErr, net := a.net, misses := a.misses, idxSeen := a.idxSeen, illSince := a.illSince, cond := a.cond,
                         rearm := a.rearm }
    t.setAng { t.ang with undo := some u }

/-- The state before an index of the present core clock. What it counted and flagged is taken back; what other events set since then stays (R8, R9). -/
def Dev.beforeIndex (s : Dev) (u : IdxUndo) : Dev :=
  let s := (s.set Reg.ANG_STAT_POS u.pos).set Reg.ANG_STAT_INDEXED u.indexed
  let s := if s.xst = u.left then s.set Reg.ANG_STAT_XST u.xst else s
  let s := onlyIf u.err (fun t => (t.unnoted Reg.ANG_CNT_IDXERR_CNT 1).unnoted Reg.ANG_FLAG_IDXERR_F 1) s
  s.setAng { s.ang with net := u.net, misses := u.misses, idxSeen := u.idxSeen, illSince := u.illSince, cond := u.cond, rearm := u.rearm,
                        undo := none }

/-- A legal edge on the core clock of an index comes before it (R97). -/
def Dev.edgeThenIndex (s : Dev) (reverse : Bool) : Dev :=
  match s.ang.undo with
  | none => s.legalEdge reverse
  | some u => if u.clk ≠ s.clocks then s.legalEdge reverse else ((s.beforeIndex u).legalEdge reverse).index

/-- New accepted levels of ANG_A and ANG_B (R94). -/
def Dev.quadrature (s : Dev) (a b : Bool) : Dev :=
  let d := (quadIndex a b + 4 - quadIndex s.ang.a s.ang.b) % 4
  let s := s.setAng { s.ang with a := a, b := b }
  if !s.isOn Reg.ANG_CFG_EN then s
  else
    match d with
    | 0 => s
    | 1 => s.edgeThenIndex false
    | 3 => s.edgeThenIndex true
    | _ => s.illegalEdge

/-- A write of 1 to ANG_CTL.REARM (R107). An edge of the same core clock after an index of it finds the REARM kept. -/
def Dev.angRearm (s : Dev) : Dev :=
  if s.xst = xINVALID then
    let t := (s.setAng { s.ang with rearm := true }).xReturn
    t.setAng { t.ang with undo := t.ang.undo.map (fun u => if u.clk = t.clocks then { u with left := t.xst, rearm := true } else u) }
  else s

/-- Standstill (R103). An INVALID reference stays INVALID, which only R107 ends (DEDUCED, log entry 17). -/
def Dev.standstill (s : Dev) : Dev :=
  if !s.isOn Reg.ANG_CFG_EN then s
  else
    let s := s.raise Reg.ANG_FLAG_STILL_F
    let s := s.setAng { s.ang with fx := fZero, moving := false, since := 0 }
    if s.xst = xWAIT || s.xst = xVALID then s.set Reg.ANG_STAT_XST xLOST else s

/-- ANG_CFG has been written; `was` is EN before (R105). Setting EN begins with the period method and an empty window (DESIGN CHOICE, log
entry 64). -/
def Dev.angWritten (s : Dev) (was : Bool) : Dev :=
  let now := s.isOn Reg.ANG_CFG_EN
  if now && !was then
    let s := s.setAng { s.ang with moving := false, seen := false, since := 0, fx := fZero, runIll := 0, net := 0, misses := 0, winN := 0,
                                   winRef := none, winRev := false }
    (s.setB Reg.ANG_STAT_METH false).xWait
  else if !now then s.set Reg.ANG_STAT_XST xOFF else s

/-! ### The selected angle (R92, R99, R106) -/

/-- The external angle at a tick. Divisions round toward zero (DEDUCED, log entry 17). -/
def Dev.thetaX (s : Dev) (tick : Nat) : Nat :=
  let cpc := s.cpc
  let fx := s.ang.fx
  let dt := tick - s.pair Reg.ANG_ESTAMP_LO Reg.ANG_ESTAMP_HI
  -- fx × dt × 312.5 ps × 2^32
  let e := fSc fx + 32
  let num := fMant fx * dt
  let mag := if 0 ≤ e then num * 2 ^ e.toNat / 3200000000 else num / (3200000000 * 2 ^ (-e).toNat)
  let lim := min mag (2 ^ 32 / cpc - 1)
  let x : Int := if fIsZero fx then 0 else if fSign fx then -(lim : Int) else lim
  toBits 32 (((s.get Reg.ANG_STAT_POS * 2 ^ 32 / cpc : Nat) : Int) + (s.reg Reg.ANG_ZOFF).toNat + x)

/-- An angle of the blend: θnew + δ × (HOFF − k) / HOFF. -/
def blendAngle (hoff : Nat) (sel : AngSel) (theta : Nat) : Nat :=
  if sel.blend && decide (sel.k < hoff) then
    toBits 32 ((theta : Int) + (sel.delta * ((hoff - sel.k : Nat) : Int)).tdiv hoff)
  else theta

/-- Selection at a tick from the one of the frame before: a switch of source starts a blend (R106). -/
def Dev.angSelect (s : Dev) : Dev :=
  let hoff := s.get Reg.ANG_CFG_HOFF
  let want := s.get Reg.ANG_CFG_SRC != 0 && s.xst == xVALID
  let tx := (s.reg Reg.ANG_XANGLE).toNat
  let ti := s.ang.intAngle
  let b := s.ang.base
  let cont : AngSel := { b with blend := b.blend && decide (b.k < hoff) }
  let old := blendAngle hoff cont (if b.ext then tx else ti)
  let new := if want then tx else ti
  let sel : AngSel :=
    if want = b.ext then cont
    else { ext := want, delta := signed 32 (toBits 32 ((old : Int) - new)), k := 0, blend := decide (0 < hoff) }
  let s := s.setAng { s.ang with sel := sel }
  let s := s.setReg Reg.ANG_ANGLE (BitVec.ofNat 32 (blendAngle hoff sel new))
  let s := s.setReg Reg.ANG_FREQ (if want then s.reg Reg.ANG_XFREQ else s.ang.intFreq)
  (s.setB Reg.ANG_STAT_ACTIVE want).setB Reg.ANG_STAT_BLEND sel.blend

/-- The window result: n edges from t_ref, the last edge before the window; the first edge since EN stands in for it, and is not counted, in a window
before which there is none (DESIGN CHOICE, log entry 64). -/
def Dev.windowFx (s : Dev) : Word :=
  let a := s.ang
  let last := s.pair Reg.ANG_ESTAMP_LO Reg.ANG_ESTAMP_HI
  if a.winRev then fZero
  else if a.winN = 0 || a.since < 2 then a.fx
  else
    match a.winRef with
    | some t => s.fxOf a.winN (last - t) (s.isOn Reg.ANG_STAT_DIR)
    | none => if a.winN < 2 then a.fx else s.fxOf (a.winN - 1) (last - a.winFirst) (s.isOn Reg.ANG_STAT_DIR)

/-- A window ends (R101, R102, R104). A result that comes after the tick’s FRAME_TICK is sampled at the next tick (DESIGN CHOICE, log entry 64). -/
def Dev.windowEnd (s : Dev) : Dev :=
  if !s.isOn Reg.ANG_CFG_EN then s
  else
    let a := s.ang
    let win := s.isOn Reg.ANG_STAT_METH
    let fx := if win then s.windowFx else a.fx
    let meth :=
      if s.stIn [stRUN, stRIDETHROUGH] then true
      else if win then !decide (a.winN < s.get Reg.ANG_THR_CLO) else decide (s.get Reg.ANG_THR_CHI ≤ a.winN)
    let ref := if a.seen then some (s.pair Reg.ANG_ESTAMP_LO Reg.ANG_ESTAMP_HI) else none
    (s.setAng { a with fx := fx, winN := 0, winRef := ref, winRev := false }).setB Reg.ANG_STAT_METH meth

/-- The tick: the external angle and frequency are sampled, and the source for the frame is chosen; a switch sets HOFF_F and writes a
log record. t_tick is the counter’s value on the tick’s core clock, which is up to 16 TU later than the instant N × P of the grid (DESIGN CHOICE,
log entry 64). -/
def Dev.angTick (s : Dev) : Dev :=
  let tick := s.time
  let s := (s.setReg Reg.ANG_XANGLE (BitVec.ofNat 32 (s.thetaX tick))).setReg Reg.ANG_XFREQ s.ang.fx
  let p := s.ang.sel
  let base : AngSel := if p.blend then { p with k := p.k + 1 } else p
  let s := (s.setAng { s.ang with base := base }).angSelect
  onlyIf (s.ang.sel.ext != base.ext) (fun t => (t.raise Reg.ANG_FLAG_HOFF_F).logNow 5 1 (b2n t.ang.sel.ext)) s

/-- The output of the PLL context in a frame is the internal angle (R92). While it does not run, its last output stays (DESIGN CHOICE, log
entry 64). -/
def Dev.angInternal (s : Dev) (angle : Nat) (freq : Word) : Dev := s.setAng { s.ang with intAngle := angle, intFreq := freq }

end Sys2Proof.Machine
end

