-- ==== Sys2Proof/Machine/Adc.lean ====
section
/-! DEFINITION. The converters: slots, results, injected conversions, calibration, over-range marks (R65–R82). -/

namespace Sys2Proof.Machine

def Dev.pair_ (s : Dev) (p : Nat) : PairSt := sget (fun _ => {}) s.adc.pairs p
def Dev.setPair_ (s : Dev) (p : Nat) (x : PairSt) : Dev :=
  { s with adc := { s.adc with pairs := sset (fun _ => {}) s.adc.pairs p x } }
def Dev.convRun (s : Dev) (c : Nat) : Option ConvRun := sget (fun _ => none) s.adc.runs c
def Dev.setRun (s : Dev) (c : Nat) (r : Option ConvRun) : Dev :=
  { s with adc := { s.adc with runs := sset (fun _ => none) s.adc.runs c r } }
def Dev.ainRes (s : Dev) (n : Nat) : Option AinRes := sget (fun _ => none) s.adc.res n
def Dev.injRes (s : Dev) (p : Nat) : Option AinRes := sget (fun _ => none) s.adc.jres p

/-- A pair index field: 6 and 7 act as 5 (R89). -/
def idx5 (v : Nat) : Nat := min 5 v

/-- Pair mode; 3 is SCAN with MASK 0 (R68). -/
def Dev.pairMode (s : Dev) (p : Nat) : Nat := s.get (Reg.ADC_PAIRp_CFG_MODE p)

/-- The scan mask of a pair. -/
def Dev.pairMask (s : Dev) (p : Nat) : Nat := if s.pairMode p = 3 then 0 else s.get (Reg.ADC_PAIRp_CFG_MASK p)

/-- The enabled entry after `last` in ascending order, wrapping (R68). -/
def scanNext (mask : Nat) (last : Option Nat) : Option Nat :=
  let en := (List.range 6).filter (fun k => mask / 2 ^ k % 2 == 1)
  match last with
  | none => en.head?
  | some l => (en.find? (fun k => decide (l < k))).or en.head?

/-- A slot that starts on a core clock is SUSPECT (R81): among the next slots after an over-range conversion, or while a clamp sense of the pair
is active or within 2.0 µs, 400 core clocks, after it ended. -/
def slotSuspect (p : PairSt) (clk : Nat) : Bool :=
  decide (p.slots < p.marks) || p.clamp != 0 ||
    (match p.clampEnd with
     | some t => decide (clk < t + 400)
     | none => false)

/-! ### Spare slices (R77) -/

/-- The identity that makes converter `c`'s slots: a spare slice while it replaces it (R77): 16 or 17. -/
def Dev.maker (s : Dev) (c : Nat) : Nat :=
  if c < 8 then (if s.isOn Reg.ADC_BGSTAT_S0ACT && s.get Reg.ADC_BGSTAT_S0POS == c then 16 else c)
  else (if s.isOn Reg.ADC_BGSTAT_S1ACT && s.get Reg.ADC_BGSTAT_S1POS + 8 == c then 17 else c)

/-- The fields of a spare slice. -/
def bgAct (slice : Nat) : Fld := if slice = 0 then Reg.ADC_BGSTAT_S0ACT else Reg.ADC_BGSTAT_S1ACT
def bgPos (slice : Nat) : Fld := if slice = 0 then Reg.ADC_BGSTAT_S0POS else Reg.ADC_BGSTAT_S1POS

/-- A slot boundary of converter `c`: a spare slice that waited for it takes over, or hands back and moves on (R77). A calibration step on the pair
goes on with the trims of the slice that makes its slots now. -/
def Dev.bgBoundary (s : Dev) (c clk : Nat) : Dev :=
  let k := c / 8
  let pos := s.get (bgPos k)
  match s.adc.bgSwap.find? (fun x => x.1 == k) with
  | some (_, on) =>
    if pos ≠ c % 8 then s
    else
      let s := { s with adc := { s.adc with bgSwap := s.adc.bgSwap.filter (fun x => x.1 != k) } }
      let s := if on then s.setB (bgAct k) true
        else
          let s := (s.setB (bgAct k) false).set (bgPos k) ((pos + 1) % 8)
          onlyIf (k == 0 && pos == 7) (fun t => t.set Reg.ADC_BGSTAT_ROT (t.get Reg.ADC_BGSTAT_ROT + 1)) s
      let w := s.reg (Reg.ADC_TRIMc (s.maker c))
      { s with adc := { s.adc with cal := s.adc.cal.map (fun r =>
        if r.active && s.get Reg.ADC_CALCTL_CH / 6 == c / 2 then { r with trims := r.trims ++ [(clk, c, w)] } else r) } }
  | none => s

/-! ### Slots -/

/-- The conversion of converter `c` starts: one slot of its pair (R66). -/
def Dev.beginConv (s : Dev) (c : Nat) (r : ConvRun) : Dev :=
  let p := c / 2
  let s := s.bgBoundary c r.start
  let x := s.pair_ p
  let r := { r with begun := true, suspect := slotSuspect x r.start, clamped := x.clamp / 2 ^ r.idx % 2 == 1, slot := x.slots + 1, maker := s.maker c }
  (s.setPair_ p { x with slots := x.slots + 1 }).setRun c (some r)

/-- A conversion starts on converter `c` on a core clock. -/
def Dev.startConv (s : Dev) (c kind idx clk : Nat) : Dev := s.beginConv c { kind := kind, idx := idx, start := clk }

/-- Converter `c`, if it is idle then, starts its next slot on a later core clock. -/
def Dev.startLater (s : Dev) (c clk : Nat) : Dev :=
  { s with adc := { s.adc with starts := s.adc.starts.filter (fun x => x.1 != c) ++ [(c, clk)] } }

/-- The pair is under system calibration (R75, R79), until the last of the 256 conversions has ended. A step that still waits for its first slot
start does not count (DESIGN CHOICE, log entry 57). -/
def Dev.calPair (s : Dev) (p : Nat) : Bool :=
  match s.adc.cal with
  | some r => r.active && s.get Reg.ADC_CALCTL_CH / 6 == p
  | none => false

/-- A step takes the slot that starts on a core clock: its 256 slots last 128 µs, 25,600 core clocks (R79). -/
def Dev.calSlot (s : Dev) (p clk : Nat) : Bool :=
  s.calPair p && (match s.adc.cal with
  | some r => decide (clk < r.start + 25600)
  | none => false)

/-- The core clock of converter `c`'s slot `i` of a step. -/
def CalRun.slotAt (r : CalRun) (c i : Nat) : Nat := r.start + 200 * i + 100 * (b2n r.firstB + c) % 200

/-- A spare slice that waits for a boundary of a converter in a calibration step changes at that converter's next slot of the step, up to a core clock
(R77, R79). -/
def Dev.calBounds (s : Dev) (clk : Nat) : Dev :=
  match s.adc.cal with
  | none => s
  | some r =>
    if !r.active then s
    else
      forEach s.adc.bgSwap (fun x t =>
        let c := 8 * x.1 + t.get (bgPos x.1)
        let k := r.slotAt c ((s.clocks - r.slotAt c 0 + 199) / 200)
        if c / 2 = s.get Reg.ADC_CALCTL_CH / 6 ∧ k ≤ clk ∧ k < r.start + 25600 then t.bgBoundary c k else t) s

/-- An injected conversion of the pair is pending or running. -/
def Dev.injRunning (s : Dev) (p : Nat) : Bool :=
  [2 * p, 2 * p + 1].any (fun c => match s.convRun c with
    | some r => r.kind == 1
    | none => false)

/-- A calibration step of the pair waits for a slot start at which no injected conversion of the pair runs (R79). -/
def Dev.calDue (s : Dev) (p : Nat) : Bool :=
  match s.adc.cal with
  | some r => !r.active && s.get Reg.ADC_CALCTL_CH / 6 == p && !s.injRunning p
  | none => false

/-- The step begins with converter `c`; after its 256 conversions the converters take their slots again, `c` first (R79). -/
def Dev.calBegin (s : Dev) (c clk : Nat) : Dev :=
  let o := 4 * (c / 2) + 1 - c
  let s := s.bgBoundary c clk
  let tr := fun k => (clk, k, s.reg (Reg.ADC_TRIMc (s.maker k)))
  let x := s.pair_ (c / 2)
  let on := x.clamp / 2 ^ (s.get Reg.ADC_CALCTL_CH % 6) % 2 == 1
  let began := fun (r : CalRun) =>
    { r with active := true, start := clk, firstB := c % 2 == 1, slot := x.slots + 1, clamped := on, trims := [tr c, tr o] }
  let s := { s with adc := { s.adc with cal := s.adc.cal.map began } }
  let s := s.setPair_ (c / 2) { x with slots := x.slots + 256 }
  (s.startLater c (clk + 25600)).startLater o (clk + 25700)

/-- The pair has something to convert (R68, R69). -/
def Dev.hasEntries (s : Dev) (p : Nat) : Bool := s.pairMode p == 1 || s.pairMode p == 2 || s.pairMask p != 0

/-- The core clock from which converter B of an INTERLEAVE pair may start, 0.5 µs from the starts of converter A (R71, R72): after the conversion that A
makes, or before the one that A is about to start; none while A does neither. -/
def Dev.ilClock (s : Dev) (p : Nat) : Option Nat :=
  match s.convRun (2 * p) with
  | some r => if r.kind = 0 then some (r.start + 100) else none
  | none => (s.adc.starts.find? (fun x => x.1 == 2 * p)).map (fun x => x.2 - 100)

/-- A free converter starts its next slot (R66–R70, R72, R79): a step of the calibration begins, or the entry it converts, or idle. A
SCAN pair without an entry stays idle until a tick (R69). -/
def Dev.nextSlot (s : Dev) (c clk : Nat) : Dev :=
  let p := c / 2
  let s := s.setRun c none
  let x := s.pair_ p
  if s.calDue p then s.calBegin c clk
  else if s.calSlot p clk || !x.scanning then s
  else
    match s.pairMode p with
    | 1 =>
      if c % 2 = 0 then s.startConv c 0 (idx5 (s.get (Reg.ADC_PAIRp_CFG_ILCH p))) clk
      else if s.adc.ilDenied / 2 ^ p % 2 = 1 then s
      else
        match s.ilClock p with
        | some k => if k = clk then s.startConv c 0 (idx5 (s.get (Reg.ADC_PAIRp_CFG_ILCH p))) clk else if clk < k then s.startLater c k else s
        | none => s
    | 2 =>
      let e := x.putBack.getD (idx5 (s.get (Reg.ADC_PAIRp_SEL_SEL p)))
      (s.setPair_ p { x with putBack := none }).startConv c 0 e clk
    | _ =>
      match x.putBack with
      | some e => (s.setPair_ p { x with putBack := none }).startConv c 0 e clk
      | none =>
        match scanNext (s.pairMask p) x.last with
        | some e => (s.setPair_ p { x with last := some e }).startConv c 0 e clk
        | none => s.setPair_ p { x with scanning := false }

/-- Converter B of an INTERLEAVE pair that has the grant and is idle starts 0.5 µs after the start of converter A on a core clock (R71, R72). -/
def Dev.ilRestart (s : Dev) (p clk : Nat) : Dev :=
  let c := 2 * p
  let on := s.pairMode p == 1 && s.adc.ilDenied / 2 ^ p % 2 == 0 && !s.calPair p && (s.convRun (c + 1)).isNone
  match s.convRun c with
  | some r => if on && r.kind == 0 && r.start == clk then s.startLater (c + 1) (clk + 100) else s
  | none => s

/-- A converter that is idle starts a slot. -/
def Dev.slotIfIdle (s : Dev) (c clk : Nat) : Dev := if (s.convRun c).isNone then s.nextSlot c clk else s

/-- The first of some starts: by core clock, converter A before B. -/
def firstStart (l : List (Nat × Nat)) : Option (Nat × Nat) :=
  l.foldl (fun (b : Option (Nat × Nat)) x => match b with
    | none => some x
    | some y => if x.2 < y.2 ∨ (x.2 = y.2 ∧ x.1 < y.1) then some x else some y) none

/-- The slots that start up to a core clock, in order; `fuel` bounds their number. -/
def Dev.slotStarts (s : Dev) (clk : Nat) : Nat → Dev
  | 0 => s
  | fuel + 1 =>
    match firstStart (s.adc.starts.filter (fun x => decide (x.2 ≤ clk))) with
    | none => s
    | some x =>
      let s := { s with adc := { s.adc with starts := s.adc.starts.filter (fun y => y != x) } }
      (s.slotIfIdle x.1 x.2).slotStarts clk fuel

/-- What the converters do up to a core clock: slots and injected conversions start, and hold instants pass; `at_ n` is the counter on core clock
`n` (R66). -/
def Dev.adcPass (s : Dev) (clk : Nat) (at_ : Nat → Nat) : Dev :=
  if s.adc.runs.isEmpty && s.adc.starts.isEmpty then s
  else
    let s := forEach (s.adc.runs.map (·.1)) (fun c t => match t.convRun c with
      | some r => if !r.begun && decide (r.start ≤ clk) then t.beginConv c r else t
      | none => t) s
    let s := (s.calBounds clk).slotStarts clk 64
    forEach (s.adc.runs.map (·.1)) (fun c t => match t.convRun c with
      | some r => if r.begun && r.hold.isNone && decide (r.start + 50 ≤ clk) then
          t.setRun c (some { r with hold := some (at_ (r.start + 50)), free := t.freerun, unsync := t.unsync }) else t
      | none => t) s

/-- The normalised code in 1/16 codes: (code − o) × g, to the nearest 1/16, ties to even (R74). -/
def normCode (trim : Word) (code : Nat) : Int :=
  rneDiv ((16 * (code : Int) - signed 16 (bits trim 15 0)) * (bits trim 31 16 : Nat)) 32768

/-- ADC_OVR_F of an input set (R82). -/
def Dev.ovrFlag (s : Dev) (n : Nat) : Dev := s.raiseBit (if n < 32 then 0x1020 else 0x1024) (n % 32)

/-- The code an over-range conversion gives (R81). -/
def ovrCode (oor code : Nat) : Nat := if oor = 1 then 0 else if oor = 2 then 0xFFF else code % 4096

/-- An over-range conversion in slot `k` of a pair marks the next two slots SUSPECT (R81): those that have begun, and those still to come. -/
def Dev.markNext (s : Dev) (p k : Nat) : Dev :=
  let x := s.pair_ p
  let s := s.setPair_ p { x with marks := max x.marks (k + 2) }
  forEach [2 * p, 2 * p + 1] (fun c t => match t.convRun c with
    | some r => if r.begun && decide (k < r.slot) && decide (r.slot ≤ k + 2) then t.setRun c (some { r with suspect := true }) else t
    | none => t) s

/-- A result takes its place; the one before it is kept while it may belong to the frame that begins on this core clock (R73). -/
def keepRes (new old : List (Nat × Option AinRes)) (n : Nat) (v : AinRes) : List (Nat × Option AinRes) × List (Nat × Option AinRes) :=
  let x := sget (fun _ => none) new n
  let stale := match x with
    | some r => r.clk != v.clk
    | none => true
  (sset (fun _ => none) new n (some v), if stale then sset (fun _ => none) old n x else old)

/-- Engineering value: GAIN × N + OFF in FP32, one FMA (R74, R117). -/
def Dev.ainValue (s : Dev) (n : Nat) (n16 : Int) : Word :=
  fFma (s.reg (Reg.ADC_GAINn n)) (fOfInt n16 (-4)) (s.reg (Reg.ADC_OFFn n))

/-- The result of a conversion is written: to ADC_JRESp, or to ADC_RESn and, from a metering pair, to Nimbus (R71, R73, R76). -/
def Dev.convResult (s : Dev) (c cd : Nat) (ovr : Bool) (r : ConvRun) : Dev :=
  let p := c / 2
  let n := 6 * p + r.idx
  let stamp := r.hold.getD (s.stamp 0)
  let v : AinRes := { n16 := normCode (s.reg (Reg.ADC_TRIMc r.maker)) cd, stamp := stamp, ovr := ovr, suspect := r.suspect, clk := s.clocks, idx := r.idx }
  if r.kind = 1 then
    let w := BitVec.ofNat 32 (b2n ovr * 2 ^ 31 + b2n r.suspect * 2 ^ 30 + 2 ^ 29 + r.idx * 2 ^ 16 + cd)
    let s := (s.setReg (Reg.ADC_JRESp p) w).setPair (Reg.ADC_JSTAMPp_LO p) (Reg.ADC_JSTAMPp_HI p) stamp
    let l := keepRes s.adc.jres s.adc.jresOld p v
    { s with adc := { s.adc with jres := l.1, jresOld := l.2 } }
  else
    let w := BitVec.ofNat 32 (b2n ovr * 2 ^ 31 + b2n r.suspect * 2 ^ 30 + (c % 2) * 2 ^ 29 + b2n (decide (16 ≤ r.maker)) * 2 ^ 28 + cd)
    let s := s.setReg (Reg.ADC_RESn n) w
    let l := keepRes s.adc.res s.adc.resOld n v
    let s := { s with adc := { s.adc with res := l.1, resOld := l.2, stamps := sset (fun _ => 0) s.adc.stamps n stamp } }
    if s.pairMode p = 1 ∧ s.isOn (Reg.ADC_PAIRp_CFG_METER p) then
      let m : MeterRes := { input := n, b := c % 2 == 1, value := s.ainValue n v.n16, stamp := stamp, free := r.free, unsync := r.unsync,
                            clk := r.start + 50, bad := ovr || r.suspect }
      { s with adc := { s.adc with meter := s.adc.meter ++ [m] } }
    else s

/-- A conversion ends: its result is written, then the converter starts its next slot (R66, R73, R76, R81). When both converters end on one core
clock, A starts first (R69). -/
def Dev.convEnd (s : Dev) (c code oor : Nat) : Dev :=
  match s.convRun c with
  | none => s
  | some r =>
    if !r.begun then s
    else
      let p := c / 2
      let cd := ovrCode oor code
      let ovr := oor != 0
      let s := onlyIf (ovr || r.clamped) (·.ovrFlag (6 * p + r.idx)) s
      let s := onlyIf ovr (·.markNext p r.slot) s
      let s := s.convResult c cd ovr r
      let first := match s.convRun (2 * p) with
        | some a => c % 2 == 1 && a.begun && a.start == r.start
        | none => false
      if first then (s.setRun c none).startLater c s.clocks
      else
        let s := s.nextSlot c s.clocks
        let s := onlyIf (c % 2 == 0) (·.ilRestart p s.clocks) s
        s.slotStarts s.clocks 64

/-- A tick with EN set (R67, R69): the pair is started, and one that is not scanning and has entries scans from now on, converter A at
once and converter B 0.5 µs later, each when it is free. A step of the calibration that waited for the start begins. -/
def Dev.pairTick (s : Dev) (p : Nat) : Dev :=
  let x := s.pair_ p
  let s := if x.started then s else s.setPair_ p { x with started := true, scanning := false, last := none, putBack := none }
  let wakes := s.hasEntries p && !(s.pair_ p).scanning
  let s := if wakes then s.setPair_ p { s.pair_ p with scanning := true } else s
  if s.calPair p then s
  else if wakes then
    let t := s.slotIfIdle (2 * p) s.clocks
    if t.calPair p then t else t.startLater (2 * p + 1) (t.clocks + 100)
  else if s.calDue p then s.slotIfIdle (2 * p) s.clocks else s.ilRestart p s.clocks

/-- What the tick does: pairs start after EN (R67); denied interleave grants idle converter B (R72). -/
def Dev.adcTick (s : Dev) (denied : Nat) : Dev :=
  let il := (List.range 8).filter (fun p => s.pairMode p == 1 && denied / 2 ^ p % 2 == 1)
  let s := { s with adc := { s.adc with ilDenied := denied } }
  let s := onlyIf (s.isOn Reg.ADC_CTL_EN && !il.isEmpty) (·.raise Reg.ADC_FLAG_ILDEF_F) s
  let past := if s.mtr.running then s.adc.degr.map (fun x => (x.1, some (x.2.getD s.clocks))) else []
  let now := if il.any (fun p => s.isOn (Reg.ADC_PAIRp_CFG_METER p)) then [(s.clocks, none)] else []
  let s := { s with adc := { s.adc with degr := now ++ past } }
  if !s.isOn Reg.ADC_CTL_EN then s
  else
    forEach (List.range 8) (fun p t => t.pairTick p) s

/-- EN written 0: the converters stop (R67). The clamp senses go on. The conversions in progress and a running calibration step end without a result,
BUSY reads 0 and the means stay, on which the spec is silent (DESIGN CHOICE, log entry 57); the step's conversions that were made with their
input's clamp sense active have set its flag (R82). -/
def Dev.adcStop (s : Dev) : Dev :=
  let s := onlyIf ((s.adc.cal.map (·.clamped)).getD false) (·.ovrFlag (s.get Reg.ADC_CALCTL_CH)) s
  let stop := fun (x : Nat × PairSt) => (x.1, ({ marks := x.2.marks - x.2.slots, clamp := x.2.clamp, clampEnd := x.2.clampEnd } : PairSt))
  let pairs := (s.adc.pairs.map stop).filter (fun x => x.2 != {})
  let s := { s with adc := { s.adc with runs := [], starts := [], pairs := pairs, cal := none } }
  s.setB Reg.ADC_CALSTAT_BUSY false

/-- EN written 1: no input counts as converted since EN was set (R73). -/
def Dev.adcStart (s : Dev) : Dev := { s with adc := { s.adc with res := [], jres := [], resOld := [], jresOld := [] } }

/-! ### Sample image (R73, R74) -/

/-- The last result completed before the present core clock. -/
def Dev.resultBefore (s : Dev) (new old : Option AinRes) : Option AinRes :=
  match new with
  | some r => if r.clk < s.clocks then new else old
  | none => none

/-- The image entry of a result of input `n`; one that is not fresh repeats what the image held. -/
def Dev.imageOf (s : Dev) (n : Option AinRes → Nat) (held : Sample) (new old : Option AinRes) : Sample :=
  match s.resultBefore new old with
  | none => {}
  | some r =>
    if s.adc.imgClk ≤ r.clk then { value := s.ainValue (n (some r)) r.n16, stamp := r.stamp, ovr := r.ovr, suspect := r.suspect, fresh := true }
    else { held with fresh := false }

/-- The image entry of input `n`. -/
def Dev.ainSample (s : Dev) (held : Sample) (n : Nat) : Sample :=
  s.imageOf (fun _ => n) held (s.ainRes n) (sget (fun _ => none) s.adc.resOld n)

/-- The image entry of pair `p`'s injected result. -/
def Dev.injSample (s : Dev) (held : Sample) (p : Nat) : Sample :=
  s.imageOf (fun r => 6 * p + (r.map (·.idx)).getD 0) held (s.injRes p) (sget (fun _ => none) s.adc.jresOld p)

/-- The image has been latched: a result is fresh in the next one when it is completed from now on (R73). -/
def Dev.adcStale (s : Dev) : Dev := { s with adc := { s.adc with imgClk := s.clocks } }

/-! ### Injected conversions (R75, R76) -/

/-- A trigger is lost. -/
def Dev.injLost (s : Dev) : Dev := (s.raise Reg.ADC_FLAG_JLOST_F).count Reg.ADC_JLOST_JLOST_CNT

/-- A trigger of pair `p`; `soft` says that software raised it. The injected conversion starts within 150 ns of the trigger, on a core
clock the spec leaves open (a free value, log entry 12). -/
def Dev.inject (s : Dev) (p : Nat) (soft : Bool) : Dev :=
  let x := s.pair_ p
  if s.injRunning p || s.calPair p || (soft && s.pairMode p == 1) || !s.isOn Reg.ADC_CTL_EN || !x.started then s.injLost
  else
    let f := s.free
    let s := f.2
    let k := f.1.toNat % 31
    let a := s.convRun (2 * p)
    let b := s.convRun (2 * p + 1)
    let useB := match a, b with
      | none, _ => false
      | some _, none => true
      | some ra, some rb => decide (ra.start ≤ rb.start)
    let c := if useB then 2 * p + 1 else 2 * p
    let back := match s.convRun c with
      | some r => some r.idx
      | none => x.putBack
    let s := s.setPair_ p { x with putBack := back }
    let s := s.set (Reg.ADC_JRESp_DONE p) 0
    s.setRun c (some { kind := 1, idx := idx5 (s.get (Reg.ADC_PAIRp_CFG_JCH p)), start := s.clocks + k })

/-- An ADC trigger line pulses: every pair whose JTRIG selects it (R75, R201). Pulses of one line on one core clock make one trigger. -/
def Dev.trigLine (s : Dev) (line : Nat) : Dev :=
  let s := s.send (.adcTrig line)
  let on := if s.adc.trigAt = s.clocks then s.adc.trigLines else 0
  if on / 2 ^ line % 2 = 1 then s
  else
    let s := { s with adc := { s.adc with trigAt := s.clocks, trigLines := on + 2 ^ line } }
    forEach (List.range 8) (fun p t => if t.get (Reg.ADC_PAIRp_CFG_JTRIG p) = 32 + line then t.inject p false else t) s

/-- An entry edge of comparator `i` as an injection trigger (R75). -/
def Dev.trigCmp (s : Dev) (i : Nat) : Dev :=
  forEach (List.range 8) (fun p t => if t.get (Reg.ADC_PAIRp_CFG_JTRIG p) = i + 2 then t.inject p false else t) s

/-- A write of ADC_JSOFT: a trigger for each pair named whose source is software (R75). For a pair with another source the write
does nothing, except on an INTERLEAVE pair, where it is lost. -/
def Dev.jsoft (s : Dev) (pairs : Nat) : Dev :=
  forEach ((List.range 8).filter (fun p => pairs / 2 ^ p % 2 == 1)) (fun p t =>
    if t.pairMode p = 1 || t.get (Reg.ADC_PAIRp_CFG_JTRIG p) = 1 then t.inject p true else t) s

/-! ### Clamp senses (R81) -/

/-- The clamp sense of an input becomes active: also for the conversions of a calibration step on it (R82). -/
def Dev.clampOn (s : Dev) (n : Nat) : Dev :=
  let p := n / 6
  let k := n % 6
  let x := s.pair_ p
  let s := s.setPair_ p { x with clamp := x.clamp ||| 2 ^ k }
  let own := s.get Reg.ADC_CALCTL_CH == n
  let s := { s with adc := { s.adc with cal := s.adc.cal.map (fun r => if r.active && own then { r with clamped := true } else r) } }
  forEach [2 * p, 2 * p + 1] (fun c t =>
    match t.convRun c with
    | some r => if r.begun ∧ r.idx = k then t.setRun c (some { r with clamped := true }) else t
    | none => t) s

/-- The clamp sense of an input ends: the 2.0 µs window opens. -/
def Dev.clampOff (s : Dev) (n : Nat) : Dev :=
  let p := n / 6
  let x := s.pair_ p
  if x.clamp / 2 ^ (n % 6) % 2 = 1 then
    s.setPair_ p { x with clamp := x.clamp - 2 ^ (n % 6), clampEnd := some s.clocks }
  else s

/-! ### Background calibration (R77, R78) -/

/-- A trim register from the sums of 256 codes; none when outside its limits (R77, R78), which are held to the exact g and o, not to what their
formats keep of them (DESIGN CHOICE, log entry 44). -/
def newTrim (z f : Nat) : Option Word :=
  let d := f - z
  let o16 := rneDiv (z : Int) 16
  -- g = 3840 × 256 / (full − zero); 0.95 ≤ g ≤ 1.05 and |o| ≤ 64 codes
  if decide (z < f) && decide (95 * d ≤ 98304000) && decide (98304000 ≤ 105 * d) && decide (z ≤ 64 * 256) then
    some (BitVec.ofNat 32 ((rneDiv (983040 * 32768) d).toNat * 65536 + (toBits 16 o16)))
  else none

/-- A calibration step of a slice completes. Phase 0: the spare's own trims are set and it takes over its converter's slots at their next boundary.
Phase 1: the converter's trims are set or refused, at the next boundary it takes its slots back, and the rotation moves on. With BGEN 0 no step
completes: a spare that replaces a converter goes on making its slots until BGEN is 1 again (DESIGN CHOICE, log entry 57). -/
def Dev.bgStep (s : Dev) (slice phase z f : Nat) : Dev :=
  if !s.isOn Reg.ADC_CTL_BGEN || 2 ≤ slice then s
  else
    let c := 8 * slice + s.get (bgPos slice)
    let s := match newTrim z f with
      | some w => s.setReg (Reg.ADC_TRIMc (if phase = 0 then 16 + slice else c)) w
      | none => onlyIf (phase != 0) (·.set Reg.ADC_BGSTAT_FAILCONV c) (s.raise Reg.ADC_FLAG_BGFAIL_F)
    let s := { s with adc := { s.adc with bgSwap := s.adc.bgSwap.filter (fun (x : Nat × Bool) => x.1 != slice) ++ [(slice, phase == 0)] } }
    if s.calPair (c / 2) then s.calBounds s.clocks
    else if (s.convRun c).isNone then s.bgBoundary c s.clocks else s

/-! ### System calibration (R79, R80) -/

/-- The step is over. -/
def Dev.calEnd (s : Dev) : Dev :=
  ({ s with adc := { s.adc with cal := none } }).setB Reg.ADC_CALSTAT_BUSY false

/-- A running step ends at once without a mean (R79): the pair resumes at the next slot start in the rhythm of the step. The conversions it has
made with their input's clamp sense active have set their flag (R82). -/
def Dev.calAbandon (s : Dev) : Dev :=
  match s.adc.cal with
  | none => s
  | some r =>
    let s := onlyIf (r.active && r.clamped) (·.ovrFlag (s.get Reg.ADC_CALCTL_CH)) s
    if r.active && decide (s.clocks < r.start + 25600) then
      let p := s.get Reg.ADC_CALCTL_CH / 6
      let k := (s.clocks - r.start + 99) / 100
      let x := s.pair_ p
      let c := 2 * p + (k + b2n r.firstB) % 2
      let at_ := r.start + 100 * k
      let s := (s.setPair_ p { x with slots := r.slot - 1 + k }).calEnd
      ((s.startLater c at_).startLater (4 * p + 1 - c) (at_ + 100)).slotStarts s.clocks 64
    else s.calEnd

/-- A write of CH; a value above 47 reads back as 47. A new CH discards both means and abandons a running step. In one write with a STEP it acts
first, so that the STEP finds BUSY clear (DESIGN CHOICE, log entry 57). -/
def Dev.calCh (s : Dev) (ch : Nat) : Dev :=
  let ch := min 47 (ch % 64)
  if ch = s.get Reg.ADC_CALCTL_CH then s
  else
    let s := s.calAbandon
    let s := (s.set Reg.ADC_CALSTAT_ZEROOK 0).set Reg.ADC_CALSTAT_FULLOK 0
    let s := (s.set Reg.ADC_CALNZ_NZ_or_NF 0).set Reg.ADC_CALNF_NZ_or_NF 0
    let s := { s with adc := { s.adc with calNz := 0, calNf := 0, calOver := (false, false) } }
    s.set Reg.ADC_CALCTL_CH ch

/-- COMPUTE: the outcome RESULT, and the coefficients on success (R80); offset = Ez − gain × Nz with one rounding (DESIGN CHOICE, log entry 18). -/
def Dev.calCompute (s : Dev) : Dev :=
  let n := s.get Reg.ADC_CALCTL_CH
  let nz := s.adc.calNz
  let nf := s.adc.calNf
  let ez := s.reg Reg.ADC_CALEZ
  let de := fSub (s.reg Reg.ADC_CALEF) ez
  let r :=
    if !(s.isOn Reg.ADC_CALSTAT_ZEROOK && s.isOn Reg.ADC_CALSTAT_FULLOK) then 3
    else if s.adc.calOver.1 || s.adc.calOver.2 then 1
    else if (nf - nz).natAbs < 16384 then 2
    else if fIsZero de || !fFinite de then 4 else 0
  let s := s.set Reg.ADC_CALSTAT_RESULT r
  if r = 0 then
    let g := fDiv de (fOfInt (nf - nz) (-4))
    let o := fFma (fNeg g) (fOfInt nz (-4)) ez
    ((s.setReg (Reg.ADC_GAINn n) g).setReg (Reg.ADC_OFFn n) o).raiseBit (if n < 32 then 0x1028 else 0x102C) (n % 32)
  else s.raise Reg.ADC_FLAG_CALFAIL_F

/-- A STEP write: refused outside CONFIG and READY, with EN 0 or while BUSY (R79). A step starts at the next slot start of the pair
at which no injected conversion runs; on a started pair whose converters are both idle, at once with converter A. -/
def Dev.calStep (s : Dev) (step : Nat) : Dev :=
  if step = 0 then s
  else if !s.stIn [stCONFIG, stREADY] || !s.isOn Reg.ADC_CTL_EN || s.isOn Reg.ADC_CALSTAT_BUSY then s.raise Reg.ADC_FLAG_CALREJ_F
  else if step = 3 then s.calCompute
  else
    let p := s.get Reg.ADC_CALCTL_CH / 6
    let idle := (s.pair_ p).started && (s.convRun (2 * p)).isNone && (s.convRun (2 * p + 1)).isNone
    let s := s.setB Reg.ADC_CALSTAT_BUSY true
    let s := { s with adc := { s.adc with cal := some { step := step, active := false } } }
    if idle && !s.injRunning p then s.calBegin (2 * p) s.clocks else s

/-- Of a step’s conversions, the places in it of those that were over-range: a code at the end of the range of a step that had an over-range
conversion is taken for one (DEDUCED, log entry 57). -/
def calOverAt (codes : List Nat) (oor : Bool) : List Nat :=
  ((codes.zipIdx).filter (fun x => oor && (x.1 % 4096 == 0 || x.1 % 4096 == 4095))).map (·.2)

/-- The trim word that converter `c`'s slot on a core clock had. -/
def CalRun.trimAt (r : CalRun) (c clk : Nat) : Word :=
  ((((r.trims.filter (fun x => x.2.1 == c && decide (x.1 ≤ clk))).getLast?).map (·.2.2)).getD 0x80000000#32)

/-- The 256 conversions of a step have ended: the mean of their normalised codes is stored (R79). -/
def Dev.calDone (s : Dev) (codes : List Nat) (firstB oor : Bool) : Dev :=
  match s.adc.cal with
  | none => s
  | some r =>
    if !r.active then s
    else
      let p := s.get Reg.ADC_CALCTL_CH / 6
      let conv := fun (i : Nat) => 2 * p + (i + b2n firstB) % 2
      let total := (codes.zipIdx).foldl (fun (t : Int) x => t + normCode (r.trimAt (conv x.2) (r.start + 100 * x.2)) (x.1 % 4096)) 0
      let mean := rneDiv total (max 1 codes.length)
      let s := if r.step = 1 then (s.set Reg.ADC_CALNZ_NZ_or_NF (toBits 16 mean)).raise Reg.ADC_CALSTAT_ZEROOK
               else (s.set Reg.ADC_CALNF_NZ_or_NF (toBits 16 mean)).raise Reg.ADC_CALSTAT_FULLOK
      let s := { s with adc := if r.step = 1 then { s.adc with calNz := mean } else { s.adc with calNf := mean } }
      let s := { s with adc := { s.adc with calOver := if r.step = 1 then (oor, s.adc.calOver.2) else (s.adc.calOver.1, oor) } }
      let s := onlyIf (oor || r.clamped) (·.ovrFlag (s.get Reg.ADC_CALCTL_CH)) s
      (forEach (calOverAt codes oor) (fun i t => t.markNext p (r.slot + i)) s).calEnd

end Sys2Proof.Machine
end

