-- ==== Sys2Proof/Machine/HalfBridge.lean ====
section
/-! DEFINITION. The twelve local half-bridges: periods, duty, group commit, fault latches (R178, R182, R185, R190–R199). -/

namespace Sys2Proof.Machine

/-- A channel. -/
def Dev.ch (s : Dev) (n : Nat) : HbCh := sget (fun _ => {}) s.hb n

/-- A channel replaced. -/
def Dev.setCh (s : Dev) (n : Nat) (c : HbCh) : Dev := { s with hb := sset (fun _ => {}) s.hb n c }

/-- Dead time in steps; below 8 acts as 8 (R203). -/
def Dev.hbDT (s : Dev) (n : Nat) : Nat := max 8 (s.get (Reg.MOD_HBn_CFG_DT n))

/-- Refresh run of a bootstrap register in steps: units of 100 ns, 0 acts as 1 (R203). -/
def bsTref (v : Nat) : Nat := 40 * max 1 v

/-- Qfull of a bootstrap register in steps: THOLD in units of 0.1 ms (R182). -/
def bsQfull (v : Nat) : Nat := 40000 * v

/-- The channel's Qfull. -/
def Dev.hbQfull (s : Dev) (n : Nat) : Nat := bsQfull (s.get (Reg.MOD_HBn_BS_THOLD n))

/-- MOD_HBn_STAT.BSQ follows the bootstrap model (R203). -/
def Dev.hbShowQ (s : Dev) (n : Nat) : Dev :=
  let qf := s.hbQfull n
  let used := (s.ch n).used
  s.set (Reg.MOD_HBn_STAT_BSQ n) (if qf = 0 || used == 0 then 0xFFFF else (qf - used) * 65536 / qf)

/-- The bootstrap model brought up to a stamp: Q falls with the high side on; a low run of at least TREF restores it when it
ends (R182). `ends` says that the output state changes now. -/
def Dev.hbModel (s : Dev) (n stamp : Nat) (ends : Bool) : Dev :=
  let c := s.ch n
  let out := s.get (Reg.MOD_HBn_STAT_OUT n)
  let dt := (stamp - c.since) / 8
  let qf := s.hbQfull n
  let used := if out = 2 then min qf (c.used + dt) else c.used
  let low := match c.lowSince with
    | some t => decide (bsTref (s.get (Reg.MOD_HBn_BS_TREF n)) ≤ (stamp - t) / 8)
    | none => false
  let used := if ends && out == 1 && low then 0 else used
  let c := { c with used := used, since := stamp, lowSince := if ends then none else c.lowSince }
  (s.setCh n c).hbShowQ n

/-- HBn_PULSE at an instant: in dead time it changes one step, 8 TU, after ENABLE fell; with both switches off it stays as it was (R191). -/
def Dev.hbPulse (s : Dev) (n at_ : Nat) : Bool :=
  let c := s.ch n
  match s.get (Reg.MOD_HBn_STAT_OUT n) with
  | 1 => false
  | 2 => true
  | 3 => if c.deadAt + 8 ≤ at_ then c.toHigh else c.pulseOld
  | _ => c.pulseOld

/-- The output state becomes `out`: 0 both off, 1 low on, 2 high on, 3 dead time. -/
def Dev.hbOut (s : Dev) (n stamp out : Nat) : Dev :=
  let was := s.get (Reg.MOD_HBn_STAT_OUT n)
  if was = out then s
  else
    let level := s.hbPulse n stamp
    let s := s.hbModel n stamp true
    let c := s.ch n
    let c := if out = 0 ∨ out = 3 then { c with pulseOld := level, deadAt := stamp } else c
    let c := if was = 1 ∨ was = 2 then { c with lastOn := was, offAt := stamp } else c
    (s.setCh n { c with lowSince := if out = 1 then some stamp else none }).set (Reg.MOD_HBn_STAT_OUT n) out

/-- The channel holds its SAFE level or stays off: a latch is set, or a clear awaits its boundary (R197, R199, R180). -/
def Dev.hbHeld (s : Dev) (n : Nat) : Bool :=
  s.isOn (Reg.MOD_HBn_STAT_FLTLAT n) || s.isOn (Reg.MOD_HBn_STAT_XCMD n) || (s.ch n).rearm != 0

/-- The interlock check of a local output (R180): the other switch went off less than DT before. -/
def Dev.hbTooSoon (s : Dev) (n stamp want : Nat) : Bool :=
  let c := s.ch n
  c.lastOn != 0 && c.lastOn != want && decide (stamp < c.offAt + 8 * s.hbDT n)

/-- The commanded state is driven (R191): from both off only ENABLE changes, after the interlock check; between the two sides there is dead
time. A channel that fails the check stays off, with its XCMD latch set (R180). -/
def Dev.hbDrive (s : Dev) (n stamp : Nat) (high : Bool) : Dev :=
  let out := s.get (Reg.MOD_HBn_STAT_OUT n)
  let want := if high then 2 else 1
  if out = 0 then
    if s.hbTooSoon n stamp want then
      ((s.raise (Reg.MOD_HBn_STAT_XCMD n)).raise Reg.MOD_FLAG_XCMD_F).count Reg.MOD_CNT0_XCMD_CNT
    else s.hbOut n stamp want
  else if out = want then s
  else (s.hbOut n stamp 3).setCh n { (s.hbOut n stamp 3).ch n with toHigh := high }

/-- The SAFE level of R197 and R198, reached through the asynchronous path. -/
def Dev.hbSafe (s : Dev) (n stamp : Nat) : Dev :=
  let out := s.get (Reg.MOD_HBn_STAT_OUT n)
  if !s.isOn (Reg.MOD_HBn_CFG_EN n) || s.get (Reg.MOD_HBn_CFG_SAFE n) != 1 then s.hbOut n stamp 0
  else if out = 3 then s.setCh n { s.ch n with toHigh := false }
  else
    let s := s.hbOut n stamp 3
    s.setCh n { s.ch n with toHigh := false }

/-- A channel's fault latch sets (R197). -/
def Dev.hbFault (s : Dev) (stamp n : Nat) : Dev :=
  if s.isOn (Reg.MOD_HBn_STAT_FLTLAT n) then s
  else
    let s := s.raise (Reg.MOD_HBn_STAT_FLTLAT n)
    (s.setCh n { s.ch n with rearm := 0 }).hbSafe n stamp

/-- The local trip output of the matrix sets every channel's latch (R197, R289). -/
def Dev.hbTripAll (s : Dev) (stamp : Nat) : Dev := forEach (List.range 12) (fun n t => t.hbFault stamp n) s

/-- Bit reversal of k mod 16 (R178). -/
def ditherSeq (k : Nat) : Nat := 8 * (k % 2) + 4 * (k / 2 % 2) + 2 * (k / 4 % 2) + k / 8 % 2

/-- The step an instant in sixteenths of a step is placed at (R178). -/
def placeStep (dither : Bool) (k t16 : Nat) : Nat :=
  let i := t16 / 16
  let f := t16 % 16
  if dither then (if ditherSeq k < f then i + 1 else i) else (if 8 ≤ f then i + 1 else i)

/-- The last value written before a core clock, and what was written from then on. -/
def takeBefore {α : Type} (clk : Nat) (l : List (Nat × α)) : Option α × List (Nat × α) :=
  (((l.filter (fun x => decide (x.1 < clk))).getLast?).map (·.2), l.filter (fun x => decide (clk ≤ x.1)))

/-- What was written before a core clock transfers: the pending set (R195), or under UPD 1 each register on its own (R196). A write on the core clock
of a boundary belongs to the following period. -/
def Dev.hbTransfer (s : Dev) (n clk : Nat) : Dev :=
  let c := s.ch n
  if s.isOn (Reg.MOD_HBn_CFG_UPD n) then
    let p := takeBefore clk c.wrPeriod
    let d := takeBefore clk c.wrDuty
    let h := takeBefore clk c.wrPhase
    let m := takeBefore clk c.wrCmp
    let a := c.active
    let a : HbSet := { period := p.1.getD a.period, duty := d.1.getD a.duty, phase := h.1.getD a.phase, cmp := m.1.getD a.cmp }
    let s := s.setCh n { c with active := a, wrPeriod := p.2, wrDuty := d.2, wrPhase := h.2, wrCmp := m.2 }
    let s := s.set (Reg.MOD_HBn_APER_APERIOD n) a.period
    onlyIf (p.1.isSome && d.1.isNone) (·.raise Reg.MOD_FLAG_SPLITUPD_F) s
  else
    let p := takeBefore clk c.pend
    match p.1 with
    | none => s
    | some a =>
      ((s.setCh n { c with active := a, pend := p.2 }).setB (Reg.MOD_HBn_STAT_PEND n) (!p.2.isEmpty)).set (Reg.MOD_HBn_APER_APERIOD n) a.period

/-- The duty of a period before dither, in sixteenths of a step, limited to PERIOD (R193, steps 1 and 2), and whether a register
duty was clamped. A context value is clamped to 0–1; the product is rounded to the nearest sixteenth (DEDUCED, log entry 16). -/
def Dev.hbDuty16 (s : Dev) (n : Nat) : Nat × Bool :=
  let c := s.ch n
  let p := c.active.period
  if s.isOn (Reg.MOD_HBn_CFG_SRC n) then
    let y := if fIsNaN c.ctx then fZero else fClamp c.ctx fZero fOne
    (min (16 * p) (fRoundInt (fMul y (fOfNat p)) 4).toNat, false)
  else if 16 * p < c.active.duty then (16 * p, true) else (c.active.duty, false)

/-- Rising and falling instants of the high side in steps for a duty in steps placed edge- or centre-aligned. -/
def hbWindow (centre : Bool) (period duty : Nat) : Nat × Nat :=
  if centre then ((period - duty) / 2, (period - duty) / 2 + duty) else (0, duty)

/-- The duty that a period commands before the bootstrap clamp, in steps, with the instants of its edges (R192, R193, R178). -/
def Dev.hbCommanded (s : Dev) (n k d16 : Nat) : Nat × Nat × Nat :=
  let p := (s.ch n).active.period
  let dith := s.isOn Reg.MOD_CTL_DITHEN
  let centre := s.isOn (Reg.MOD_HBn_CFG_ALIGN n)
  let rise := if centre then placeStep dith k ((16 * p - d16) / 2) else 0
  let fall := if centre then placeStep dith k ((16 * p + d16) / 2) else placeStep dith k d16
  let dt := s.hbDT n
  let duty := fall - rise
  if duty ≤ dt then (0, hbWindow centre p 0)
  else if p - dt ≤ duty then (p, hbWindow centre p p)
  else (duty, rise, fall)

/-- The bootstrap clamp of a refresh period (R185): the duty is limited, and the high side ends so early that the low side conducts for TREF before
the next boundary. -/
def refreshWindow (cap : Nat) (x : Nat × Nat × Nat) : Nat × Nat × Nat :=
  let duty := min cap x.1
  if x.2.2 ≤ cap then x else (duty, cap - duty, cap)

/-- A period begins (R192–R194, R185): transfer, phase, duty, refresh clamp, and the commanded edges. A low-side run that goes on across the boundary
is one run (R182). -/
def Dev.hbBoundary (s : Dev) (n stamp : Nat) : Dev :=
  if !(s.isOn (Reg.MOD_HBn_CFG_EN n) && (s.ch n).started) then s
  else
    let oldPhase := (s.ch n).active.phase
    let s := s.hbTransfer n s.clocks
    let c := s.ch n
    let p := c.active.period
    let shift := if c.running then (c.active.phase + p - oldPhase % p) % p else 0
    let k := if c.running then c.k + 1 else 0
    let rearm := if c.rearm = 2 then 0 else c.rearm
    let s := s.setCh n { c with rearm := rearm }
    let d := s.hbDuty16 n
    let s := onlyIf d.2 (·.raise Reg.MOD_FLAG_DUTYCLP_F) s
    let x := s.hbCommanded n k d.1
    -- the low-side run ends here when the high side is driven from here on
    let ends := s.get (Reg.MOD_HBn_STAT_OUT n) == 1 && !s.hbHeld n && decide (0 < x.1) && x.2.1 == 0
    let s := s.hbModel n stamp ends
    let qf := s.hbQfull n
    let refresh := qf != 0 && decide ((qf - (s.ch n).used) * 256 ≤ qf * s.get (Reg.MOD_HBn_BS_BTHR n))
    let w := if refresh then refreshWindow (p - s.hbDT n - bsTref (s.get (Reg.MOD_HBn_BS_TREF n))) x else x
    let duty := w.1
    let s := onlyIf refresh (fun t => (t.raise Reg.MOD_FLAG_BSCLAMP_F).count Reg.MOD_CNT1_BSREF_CNT) s
    let s := s.setB (Reg.MOD_HBn_STAT_BSCLAMP n) refresh
    let s := s.set (Reg.MOD_HBn_APER_APERIOD n) p
    let s := s.set (Reg.MOD_HBn_ADUTY_ADUTY n) duty
    let high := decide (0 < duty) && w.2.1 == 0
    let edges := if duty = 0 || duty = p then [] else (if w.2.1 = 0 then [w.2.2] else [w.2.1, w.2.2])
    let s := s.setCh n { s.ch n with running := true, start := stamp, len := p + shift, k := k, high := high, edges := edges }
    onlyIf (!s.hbHeld n) (·.hbDrive n stamp high) s

/-- The next commanded edge of the period (R192): the commanded state changes, and the pins unless the channel is held. -/
def Dev.hbEdge (s : Dev) (n stamp : Nat) : Dev :=
  let c := s.ch n
  match c.edges with
  | [] => s
  | _ :: t =>
    let s := s.setCh n { c with high := !c.high, edges := t }
    onlyIf (!s.hbHeld n) (·.hbDrive n stamp (!c.high)) s

/-- Dead time ends (R191, R197, R198): ENABLE rises in the state that follows. -/
def Dev.hbDeadEnd (s : Dev) (n stamp : Nat) : Dev :=
  if s.get (Reg.MOD_HBn_STAT_OUT n) = 3 then s.hbOut n stamp (if (s.ch n).toHigh then 2 else 1) else s

/-- COMMIT of one channel (R195, R196). -/
def Dev.hbCommit (s : Dev) (n : Nat) : Dev :=
  if s.isOn (Reg.MOD_HBn_CFG_UPD n) then s
  else
    let p : HbSet := { period := s.get (Reg.MOD_HBn_PERIOD_PERIOD n), duty := (s.reg (Reg.MOD_HBn_DUTY n)).toNat % 2 ^ 24,
                       phase := s.get (Reg.MOD_HBn_PHASE_PHASE n), cmp := tabulate 8 (fun k => s.reg (Reg.MOD_HBn_CMPk n k)) }
    let c := s.ch n
    if s.isOn (Reg.MOD_HBn_CFG_EN n) then
      (s.setCh n { c with pend := c.pend.filter (fun x => decide (x.1 < s.clocks)) ++ [(s.clocks, p)] }).setB (Reg.MOD_HBn_STAT_PEND n) true
    else (s.setCh n { c with active := p, pend := [] }).set (Reg.MOD_HBn_APER_APERIOD n) p.period

/-- Channel `n` takes part in a 12-bit mask. -/
def inMask (mask n : Nat) : Bool := mask / 2 ^ n % 2 == 1

/-- A write of MOD_COMMIT (R195). -/
def Dev.hbCommitMask (s : Dev) (mask : Nat) : Dev :=
  forEach ((List.range 12).filter (inMask mask)) (fun n t => t.hbCommit n) s

/-- A selected FLT input of the channel or the local trip is active (R199). -/
def Dev.hbActive (s : Dev) (n : Nat) : Bool :=
  s.isOn Reg.PRT_STAT_OUT || (s.get (Reg.MOD_HBn_CFG_FLTSEL n) &&& s.prt.fltPin) != 0

/-- A clear of one channel's fault latch (R199); answers whether it was refused. -/
def Dev.hbClear (s : Dev) (n : Nat) : Bool × Dev :=
  if !s.isOn (Reg.MOD_HBn_STAT_FLTLAT n) then (false, s)
  else if s.hbActive n then (true, s.raise Reg.MOD_FLAG_CLRREJ_F)
  else (false, (s.setB (Reg.MOD_HBn_STAT_FLTLAT n) false).setCh n { s.ch n with rearm := 1 })

/-- A clear of several fault latches; answers the mask of the channels refused. -/
def Dev.hbClearMask (s : Dev) (mask : Nat) : Nat × Dev :=
  ((List.range 12).filter (inMask mask)).foldl (fun (acc : Nat × Dev) n =>
    let r := acc.2.hbClear n
    (if r.1 then acc.1 + 2 ^ n else acc.1, r.2)) (0, s)

/-- Clears of XCMD latches, which always succeed (R180, R202). The channel runs again from the first boundary at or after the next
tick, as after a fault clear (DEDUCED, log entry 16). -/
def Dev.hbXclrMask (s : Dev) (mask : Nat) : Dev :=
  forEach ((List.range 12).filter (inMask mask)) (fun n t =>
    if t.isOn (Reg.MOD_HBn_STAT_XCMD n) then
      (t.setB (Reg.MOD_HBn_STAT_XCMD n) false).setCh n { t.ch n with rearm := 1 }
    else t) s

/-- What the tick does to the local channels: enabled ones start after the device has left CONFIG (R192), clears wait for their
boundary (R199), and context values of the frame before come into use (R193); those of a frame with an overrun are discarded (R62). -/
def Dev.hbTick (s : Dev) : Dev :=
  forEach (List.range 12) (fun n t =>
    let c := t.ch n
    let start := t.isOn (Reg.MOD_HBn_CFG_EN n) && !c.started && !t.stIn [stPOWEROFF, stBOOT, stCONFIG]
    let c := if start then { c with started := true, running := false } else c
    let c := if c.rearm = 1 then { c with rearm := 2 } else c
    let c := match c.ctxNew with
      | some v => { c with ctx := if s.frm.discard then c.ctx else v, ctxNew := none }
      | none => c
    t.setCh n c) s

/-- A channel whose EN has been written 0 drives ENABLE and PULSE low and stops (R190). -/
def Dev.hbDisable (s : Dev) (n : Nat) : Dev :=
  let s := s.hbOut n (s.stamp 0) 0
  s.setCh n { s.ch n with started := false, running := false, high := false, edges := [], pulseOld := false }

/-- Bits of HBn_PULSE and HBn_ENABLE from the output states; Hedgerow drives every ENABLE low at the pin driver (R306). -/
def Dev.hbPins (s : Dev) (hedge : Bool) : Nat × Nat :=
  (List.range 12).foldl (fun (a : Nat × Nat) n =>
    let out := s.get (Reg.MOD_HBn_STAT_OUT n)
    let pulse := s.hbPulse n s.time
    let en := (out == 1 || out == 2) && !hedge
    (a.1 + b2n pulse * 2 ^ n, a.2 + b2n en * 2 ^ n)) (0, 0)

end Sys2Proof.Machine
end

