-- ==== Sys2Proof/Machine/Pool.lean ====
section
/-! DEFINITION. The shared buffer pool (R23–R31): users, granules and their kinds, frees, control-critical use, credits. -/

namespace Sys2Proof.Machine

/-! ### Users (R23, R24) -/

/-- Reserved granules of a user's class (R23): Thicket lanes 0–31, Krekai ports 32–35, host queues 36–99; there is no other user. -/
def resSize (u : Nat) : Nat := if u < 32 then 64 else if u < 36 then 128 else if u < 100 then 8 else 0

/-- Shared cap of a user's class (R24). -/
def Dev.shCap (s : Dev) (u : Nat) : Nat :=
  if u < 32 then s.get Reg.HIF_POOL_CAP0_THK_CAP
  else if u < 36 then s.get Reg.HIF_POOL_CAP0_KRK_CAP else if u < 100 then s.get Reg.HIF_POOL_CAP1_Q_CAP else 0

/-- Reserved granules that hold data: a command’s, a link’s, or control-critical traffic. -/
def PoolUser.resFull (p : PoolUser) : Nat := p.res + p.crit + ((p.fifo.take (p.fifo.length - p.cred)).filter id).length

/-- Reserved granules a user has in use; a granule behind a credit counts as in use (R26). -/
def PoolUser.resUsed (u : Nat) (p : PoolUser) : Nat := min (resSize u) (p.res + p.crit + (p.fifo.filter id).length)

/-- Shared granules a user holds or has committed. -/
def PoolUser.shUsed (p : PoolUser) : Nat := p.sh + (p.fifo.filter not).length + p.com

/-- Free shared granules. -/
def Dev.shFree (s : Dev) : Nat := s.get Reg.HIF_POOL_FREE_SH_FREE

/-- A user's holding replaced, with RES_FREE, SH_FREE, SH_LOW and SHEXH_F following (R31). -/
def Dev.poolPut (s : Dev) (u : Nat) (p : PoolUser) : Dev :=
  let o := s.user u
  let rf := s.get Reg.HIF_POOL_FREE_RES_FREE + o.resUsed u - p.resUsed u
  let sf := s.shFree + o.shUsed - p.shUsed
  let t := ((s.setUser u p).set Reg.HIF_POOL_FREE_RES_FREE rf).set Reg.HIF_POOL_FREE_SH_FREE sf
  let t := onlyIf (decide (sf < s.get Reg.HIF_POOL_LOW_SH_LOW)) (·.set Reg.HIF_POOL_LOW_SH_LOW sf) t
  onlyIf (sf == 0 && s.shFree != 0) (·.raise Reg.HIF_POOL_STAT_SHEXH_F) t

/-! ### Taking and freeing (R24, R28, R29) -/

/-- Granules a user could allocate now: the free ones of its reservation and the shared ones within its cap (R29). -/
def Dev.couldAlloc (s : Dev) (u : Nat) : Nat :=
  let p := s.user u
  (resSize u - p.resUsed u) + min (s.shCap u - p.shUsed) s.shFree

/-- `n` granules taken together by a queue user, its own reservation first (R24); none when it cannot. -/
def Dev.allocN (s : Dev) (u n : Nat) : Option (Hold × Dev) :=
  if s.couldAlloc u < n then none
  else
    let p := s.user u
    let r := min n (resSize u - p.resUsed u)
    some ({ user := u, res := r, sh := n - r }, s.poolPut u { p with res := p.res + r, sh := p.sh + (n - r) })

/-- Committed shared granules that back no credit yet go back once half of a link user’s reservation is free (R26). -/
def PoolUser.halfRule (u : Nat) (p : PoolUser) : PoolUser :=
  if u < 36 ∧ resSize u ≤ 2 * (resSize u - p.resUsed u) then { p with com := 0 } else p

/-- Granules go back to where they came from (R24), and with them what is committed and not needed (R26). -/
def Dev.giveBack (s : Dev) (h : Hold) : Dev :=
  let p := s.user h.user
  s.poolPut h.user (({ p with res := p.res - h.res, sh := p.sh - h.sh } : PoolUser).halfRule h.user)

/-- The allocator’s counts of the present core clock. -/
def Dev.poolClk (s : Dev) : Dev :=
  if s.pool.clk = s.clocks then s else { s with pool := { s.pool with clk := s.clocks, served := 0, freed := 0 } }

/-- A free asked for: served on this core clock, or on a later one when 4 have been (R28). Granules taken or freed together count as one of the
allocations or frees of a clock, on which R28 is silent (DESIGN CHOICE, log entry 15). -/
def Dev.freeHold (s : Dev) (h : Hold) : Dev :=
  let s := s.poolClk
  if h.res + h.sh = 0 then s
  else if s.pool.frees.isEmpty && decide (s.pool.freed < 4) then
    ({ s with pool := { s.pool with freed := s.pool.freed + 1 } }).giveBack h
  else { s with pool := { s.pool with frees := s.pool.frees ++ [h] } }

/-- The frees that `n` core clocks serve, 4 on each; the last of those clocks is the present one. -/
def Dev.freesServed (s : Dev) (n : Nat) : Dev :=
  let s := s.poolClk
  let now := s.pool.frees.take (4 * n)
  let s := { s with pool := { s.pool with frees := s.pool.frees.drop (4 * n), freed := now.length - 4 * (n - 1) } }
  forEach now (fun h t => t.giveBack h) s

/-- The single granule of an entry (R29); the Bool says reserved. -/
def entryHold (u : Nat) (reserved : Bool) : Hold := { user := u, res := b2n reserved, sh := b2n (!reserved) }

/-- A queue user's granule freed to where it came from (R24). -/
def Dev.free1 (s : Dev) (u : Nat) (reserved : Bool) : Dev := s.freeHold (entryHold u reserved)

/-! ### The round robin (R28) -/

/-- The flags of a NO_SPACE completion (R29). -/
def Dev.noSpace (s : Dev) : Dev :=
  (s.raise Reg.HIF_POOL_STAT_NOSPACE_F).count Reg.HIF_POOL_NOSPC_NOSPACE_CNT

/-- The indexes of all users after `ptr`, once round (R28). -/
def rrOrder (ptr : Nat) : List Nat := (List.range 100).map (fun i => (ptr + 1 + i) % 100)

/-- A request has been served on this core clock. -/
def Dev.servedOne (s : Dev) (u : Nat) : Dev := { s with pool := { s.pool with ptr := u, served := s.pool.served + 1 } }

/-! ### Control-critical traffic (R25) -/

/-- `n` reserved granules for control-critical traffic of a lane; false when its reservation is empty. A granule behind an unfilled credit can
serve (log entry 15). -/
def Dev.critTake (s : Dev) (u n : Nat) : Bool × Dev :=
  let p := s.user u
  if p.resFull + n ≤ resSize u then (true, s.poolPut u { p with crit := p.crit + n }) else (false, s)

/-- `n` granules of a lane’s control-critical traffic are consumed and freed. -/
def Dev.critFree (s : Dev) (u n : Nat) : Dev :=
  let p := s.user u
  let k := min n p.crit
  (s.setUser u { p with crit := p.crit - k, res := p.res + k }).freeHold { user := u, res := k, sh := 0 }

/-! ### Link users: credits (R26, R27) -/

/-- A block of 8 shared granules may be committed to a link user (R26). -/
def Dev.mayCommit (s : Dev) (u : Nat) : Bool :=
  let p := s.user u
  p.cred == 0 && p.com == 0 && decide (p.shUsed + 8 ≤ s.shCap u) && decide (8 ≤ s.shFree)

/-- One credit backed by a granule set aside now: of the free reservation, of the committed shared granules, or of a block of 8 committed now
(R26; DEDUCED from the worked example that the block is committed when no credit is outstanding, log entry 15). None when no granule is
available. -/
def Dev.grantOne (s : Dev) (u : Nat) : Option Dev :=
  let p := s.user u
  if p.resUsed u < resSize u then some (s.poolPut u { p with fifo := p.fifo ++ [true], cred := p.cred + 1 })
  else if 0 < p.com then some (s.poolPut u { p with fifo := p.fifo ++ [false], cred := p.cred + 1, com := p.com - 1 })
  else if s.mayCommit u then some (s.poolPut u { p with fifo := p.fifo ++ [false], cred := p.cred + 1, com := 7 })
  else none

/-- `n` granules of data arrive: each uses a credit; data without a credit is discarded and sets CREDERR_F (R27). Answers how
many were without credit. -/
def Dev.linkData (s : Dev) (u n : Nat) : Nat × Dev :=
  let p := s.user u
  let k := min n p.cred
  let s := s.poolPut u { p with cred := p.cred - k }
  (n - k, onlyIf (decide (k < n)) (·.raise Reg.HIF_POOL_STAT_CREDERR_F) s)

/-- The oldest `n` granules of data of a lane are consumed and freed (R24). -/
def Dev.linkConsume (s : Dev) (u n : Nat) : Dev :=
  let p := s.user u
  let now := p.fifo.take (min n (p.fifo.length - p.cred))
  let h : Hold := { user := u, res := (now.filter id).length, sh := (now.filter not).length }
  (s.setUser u { p with fifo := p.fifo.drop now.length, res := p.res + h.res, sh := p.sh + h.sh }).freeHold h

/-- Data of `n` granules comes in on a port, in the granules that its oldest credits had set aside, and is held in them until it is consumed
(R24, R26). Data without a credit is discarded and sets CREDERR_F; what of it had one is free again (R27). -/
def Dev.portData (s : Dev) (u n : Nat) : Option Hold × Dev :=
  let p := s.user u
  let now := p.fifo.take (min n p.cred)
  let h : Hold := { user := u, res := (now.filter id).length, sh := (now.filter not).length }
  let s := s.setUser u { p with fifo := p.fifo.drop now.length, cred := p.cred - now.length, res := p.res + h.res, sh := p.sh + h.sh }
  if n ≤ p.cred then (some h, s) else (none, (s.freeHold h).raise Reg.HIF_POOL_STAT_CREDERR_F)

/-- Data granules of a link user that wait to be consumed. -/
def PoolUser.data (p : PoolUser) : Nat := p.fifo.length - p.cred

/-- Every granule free and every credit withdrawn (R30). -/
def Dev.poolReset (s : Dev) : Dev :=
  let s := { s with pool := {} }
  (s.set Reg.HIF_POOL_FREE_RES_FREE 3072).set Reg.HIF_POOL_FREE_SH_FREE 5120

/-- A write of 1 to HIF_POOL_LOW.REARM (R31). -/
def Dev.poolRearm (s : Dev) : Dev := s.set Reg.HIF_POOL_LOW_SH_LOW s.shFree

end Sys2Proof.Machine
end

