-- ==== Sys2Proof/Machine/Requests.lean ====
section
/-! DEFINITION. The allocator's round robin (R28): the requests that stand on a core clock by themselves, those that a block makes beside them,
and the one order in which they are served. -/

namespace Sys2Proof.Machine

/-! ### Where a source's commands are (R29, R360) -/

/-- The queue that counts for a source: the mailbox is queue 0 (R360). -/
def srcQueue : Src → Nat
  | .queue q => q
  | .mailbox => 0
  | .station _ _ => 0

/-- The rank of a source for two writes with one stamp: its queue; what came over Krekai ranks after queue 63 (R16). -/
def srcRank : Src → Nat
  | .station _ _ => 64
  | x => srcQueue x

/-- A write waiting for the tick is replaced by one with a later stamp, or of the same stamp from a lower queue (R16). Of two with the same
stamp from the same queue, on which the spec is silent, the one executed later takes effect (DESIGN CHOICE, log entry 62). -/
def newer (stamp rank stamp' rank' : Nat) : Bool := decide (stamp' < stamp) || (stamp == stamp' && decide (rank ≤ rank'))

/-- The pool user a command's granules come from (R29): a queue’s own; for a command that came over Krekai the user of the port it came in on
(R280; DESIGN CHOICE, log entry 15). -/
def srcUser : Src → Nat
  | .station _ port => 32 + port
  | x => 36 + srcQueue x

/-- The command came over Krekai. -/
def fromStation : Src → Bool
  | .station _ _ => true
  | _ => false

/-! ### The entries that can be fetched (R349) -/

/-- It keeps later commands of its queue from starting (R351). -/
def WaitKind.blocks : WaitKind → Bool
  | .executing => true
  | .atTick _ => true
  | .routed _ => true
  | _ => false

/-- A command executes on a queue. -/
def Dev.busyQueue (s : Dev) (q : Nat) : Bool := s.host.waits.any (fun w => srcQueue w.src == q && !fromStation w.src && w.kind.blocks)

/-- Recovery: no firmware runs, and the boot ROM serves commands (R379). -/
def Dev.recovery (s : Dev) : Bool := s.st == stBOOT && s.isOn Reg.IMG_BOOT_RECOV

/-- The device runs commands: CMDRDY set, out of reset and not halted (R365, R391). -/
def Dev.fwRuns (s : Dev) : Bool := s.isOn Reg.HIF_STAT_CMDRDY && !s.inReset && !s.prt.halted

/-- Fetching is on: it pauses in a handover (R407). -/
def Dev.fetching (s : Dev) : Bool := s.fwRuns && !s.isOn Reg.IMG_STAT_HOWIN

/-- Free completion slots of a queue. -/
def QueueSt.slots (x : QueueSt) : Nat := 2 ^ x.cqLog - x.unreleased - x.cqRes

/-- A queue may fetch, apart from its granule; in recovery only queue 0 is served (R379). -/
def Dev.mayFetch (s : Dev) (q : Nat) : Bool :=
  let x := s.queue q
  s.fetching && x.exists_ && !x.err && !x.closing && x.sqHead != x.sqTail && decide (2 ≤ x.slots) && !s.busyQueue q &&
    (q == 0 || !s.recovery)

/-- The mailbox packet may be fetched, apart from its granule. -/
def Dev.mbxMayFetch (s : Dev) : Bool := s.fetching && s.host.mbxPkt.isSome && !s.busyQueue 0

/-- The granule granted for the next entry of a queue; the mailbox uses that of queue 0. -/
def Dev.setGrant (s : Dev) (q : Nat) (g : Option Bool) : Dev := s.setQueue q { s.queue q with granted := g }

/-- A queue wants a granule for its next entry. -/
def Dev.wants (s : Dev) (q : Nat) : Bool := (s.mayFetch q || (q == 0 && s.mbxMayFetch)) && (s.queue q).granted.isNone

/-! ### Standing requests -/

/-- The link of a Krekai port is up. -/
def Dev.linkUp (s : Dev) (p : Nat) : Bool := decide (p < 4) && s.get (Reg.KRK_PORTp_STAT_LINK p) == 2

/-- The users that may have a request standing: the ports whose link is up, whose credits are advertised as long as there are granules (R26, R30), and
the queues with an entry or the mailbox with a packet to be fetched (R29). -/
def Dev.standingUsers (s : Dev) : List Nat :=
  let ports := ((List.range 4).filter s.linkUp).map (· + 32)
  let queues := s.host.queues.map (fun x => x.1 + 36)
  ports ++ (if s.host.mbxPkt.isSome && !queues.contains 36 then [36] else []) ++ queues

/-- The standing request of a user, served; none when it has none or cannot have its granule. -/
def Dev.standing (s : Dev) (u : Nat) : Option Dev :=
  if u < 32 then none
  else if u < 36 then (if s.linkUp (u - 32) then s.grantOne u else none)
  else if s.wants (u - 36) then (s.allocN u 1).map (fun x => x.2.setGrant (u - 36) (some (x.1.res == 1))) else none

/-! ### Serving -/

/-- A request that a block makes: its user, and what serving it does; none while it cannot have its granules. -/
abbrev Request (α : Type) := Nat × (Dev → Option (α × Dev))

/-- The next request served on this core clock: in user-index order from after the user served last, a request that cannot be served passed over
(R28). Answers the block’s request that was served, if it was one. -/
def Dev.serveNext {α : Type} (s : Dev) (own : List (Request α)) : Option (Option (Nat × α) × Dev) :=
  let us := s.standingUsers ++ own.map (·.1)
  ((rrOrder s.pool.ptr).filter us.contains).findSome? (fun u =>
    match (own.find? (fun r => r.1 == u)).bind (fun r => r.2 s) with
    | some x => some (some (u, x.1), x.2.servedOne u)
    | none => (s.standing u).map (fun t => (none, t.servedOne u)))

/-- At most `n` requests, one after the other. Answers the block’s own that were served. -/
def Dev.serve {α : Type} (s : Dev) (own : List (Request α)) : Nat → List (Nat × α) × Dev
  | 0 => ([], s)
  | n + 1 =>
    match s.serveNext own with
    | none => ([], s)
    | some (x, t) =>
      let r := t.serve (own.filter (fun o => some o.1 != x.map (·.1))) n
      (x.toList ++ r.1, r.2)

/-- What the allocator still serves on this core clock, 4 in all (R28). -/
def Dev.serveClock {α : Type} (s : Dev) (own : List (Request α)) : List (Nat × α) × Dev :=
  let s := s.poolClk
  s.serve own (4 - s.pool.served)

/-- The standing requests that `n` core clocks serve, 4 on each; the last of those clocks is the present one. -/
def Dev.standingServed (s : Dev) (n : Nat) : Dev :=
  if s.standingUsers.isEmpty then s
  else
    let s := (s.poolClk.serve (α := Unit) [] (4 * n)).2
    { s with pool := { s.pool with served := s.pool.served - 4 * (n - 1) } }

end Sys2Proof.Machine
end

