-- ==== Sys2Proof/Machine/Counter.lean ====
section
/-! DEFINITION. Core clocks pass: the time counter and its slewing (R46, R47), what else counts with the core clock, and the allocator's
requests that wait for later clocks (R28). -/

namespace Sys2Proof.Machine

/-! ### PLL states (R45) -/

/-- PLL states of CLK_STAT.PLLST. -/
def pIDLE : Nat := 0
def pBAND : Nat := 1
def pACQ : Nat := 2
def pLOCK : Nat := 3
def pLOST : Nat := 4

def Dev.pllst (s : Dev) : Nat := s.get Reg.CLK_STAT_PLLST

/-! ### Slewing (R47) -/

/-- SLEWMAX; 0 acts as 1 (R63). -/
def Dev.slewMax (s : Dev) : Nat := max 1 (s.get Reg.CLK_CFG_SLEWMAX)

/-- Core clocks between two slewing clocks of a frame, which are spread evenly over it (log entry 34). -/
def Dev.slewGap (s : Dev) : Nat := max 1 (s.frameTU / 16 / s.slewMax)

/-- Core clocks since the last tick. -/
def Dev.sinceTick (s : Dev) : Nat := s.clocks - s.clk.tickClk

/-- TU that the next `n` core clocks slew: one on each slewing clock, at most SLEWMAX in the frame, until the offset is removed. -/
def Dev.slewIn (s : Dev) (n : Nat) : Nat :=
  min ((s.sinceTick + n) / s.slewGap - s.sinceTick / s.slewGap) (min s.clk.slew.natAbs (s.slewMax - s.clk.slewUsed))

/-- `k` TU of the offset are slewed away. -/
def Dev.slewed (s : Dev) (k : Nat) : Dev :=
  { s with clk := { s.clk with slew := (if 0 ≤ s.clk.slew then s.clk.slew - k else s.clk.slew + k), slewUsed := s.clk.slewUsed + k } }

/-! ### The counter (R46) -/

/-- The counter after `n` core clocks: 16 TU on each, 15 or 17 on a slewing clock; 0 until the first lock (R290). -/
def Dev.counterIn (s : Dev) (n : Nat) : Nat :=
  if !s.clk.locked1 then s.time
  else if 0 ≤ s.clk.slew then s.time + 16 * n - s.slewIn n else s.time + 16 * n + s.slewIn n

/-- Reference cycles of 8 core clocks that end within the next `n` core clocks (log entry 58). -/
def Dev.refCycles (s : Dev) (n : Nat) : Nat := (s.clocks + n) / 8 - s.clocks / 8

/-- `k` reference cycles pass in BAND, ACQ, LOCK or LOST: the last one’s phase error is a free value, and so is how long ago a cycle lay outside
±200 ps (R38, R63, log entry 58). In LOST a free value says whether reference edges arrive. Lock and its loss are commands of their own, so before
LOCK the count stays below 256. -/
def Dev.refPass (s : Dev) (k : Nat) : Dev :=
  if k = 0 || s.pllst == pIDLE then s
  else
    let h := s.free
    if s.pllst = pLOST ∧ h.1.toNat % 2 = 0 then h.2
    else
      let f := h.2.free
      let e := max (-32767) (signed 16 f.1.toNat)
      let g := f.2.free
      let since := if k = 1 then 0 else g.1.toNat % k
      let run := if 200 < e.natAbs then 0 else if since = 0 then s.clk.lockRun + k else since
      let cap := if s.pllst = pLOCK then 256 else 255
      { g.2 with clk := { s.clk with phErr := e, lockRun := min cap run } }

/-- `n` core clocks pass, apart from what the allocator serves on them. The first of them after the release takes the PLL from IDLE to BAND (R45), and
from then on the trip sources are evaluated (R290); on each 4 waiting frees are served (R28). -/
def Dev.clocksPass (s : Dev) (n : Nat) : Dev :=
  if n = 0 then s
  else
    let t := s.counterIn n
    let s := s.adcPass (s.clocks + n) (fun k => s.counterIn (k - s.clocks) % 2 ^ 64)
    let s := (s.slewed (s.slewIn n)).refPass (s.refCycles n)
    let s := { s with time := t, clocks := s.clocks + n, prt := { s.prt with evaluated := true } }
    let s := if s.pllst = pIDLE then s.set Reg.CLK_STAT_PLLST pBAND else s
    let s := if s.frm.ticked then s.set Reg.FRM_STAT_CLK_IN (min 0xFFFF (s.get Reg.FRM_STAT_CLK_IN + n)) else s
    let s := if s.pool.frees.isEmpty then s else s.freesServed n
    { s with clkRegs := s.regs }

/-- `n` core clocks pass, with 4 of the standing requests served on each (R28). -/
def Dev.pass (s : Dev) (n : Nat) : Dev := if n = 0 then s else (s.clocksPass n).standingServed n

/-- The core clocks until the counter first reaches or passes `t`. -/
def Dev.clocksTo (s : Dev) (t : Nat) : Nat :=
  let n := cdiv (t - s.time) 16
  (((List.range 11).map (fun i => n + i - 5)).find? (fun n => decide (t ≤ s.counterIn n))).getD n

/-- Core clocks pass until the counter reaches or passes an instant. -/
def Dev.advanceTo (s : Dev) (t : Nat) : Dev := if t ≤ s.time || !s.clk.locked1 then s else s.pass (s.clocksTo t)

/-- Core clocks pass until clock `n` of the present frame. -/
def Dev.advanceIn (s : Dev) (n : Nat) : Dev := s.pass (n - s.sinceTick)

/-- A conversion of converter `c` ends, 200 core clocks after its start (R66). -/
def Dev.convOver (s : Dev) (c code oor : Nat) : Dev :=
  match s.convRun c with
  | none => s
  | some r => (s.pass (r.start + 200 - s.clocks)).convEnd c code oor

/-- A step’s 256th conversion ends, 255 slots and one conversion after the first start (R79). -/
def Dev.calOver (s : Dev) (codes : List Nat) (firstB oor : Bool) : Dev :=
  match s.adc.cal with
  | none => s
  | some r => if r.active then (s.pass (r.start + 25700 - s.clocks)).calDone codes firstB oor else s

/-- One core clock: what the machine does when no command waits (log entry 2). -/
def Dev.coreClock (s : Dev) : Dev := if s.inReset then s else s.pass 1

/-! ### The vault’s time keeper (R425) -/

/-- The main die’s time since the release: the counter, or the core clocks while it stands at 0. -/
def Dev.dieTime (s : Dev) : Nat := if s.clk.locked1 then s.time else 16 * s.clocks

/-- The keeper counts the crystal periods up to now; the crystal runs in step with the main die (log entry 28). -/
def Dev.keeperCount (s : Dev) : Dev :=
  let n := if s.vlt.still then 0 else s.vlt.sinceEdge + (4 * s.dieTime - s.vlt.seen)
  { s with vlt := { s.vlt with keeper := s.vlt.keeper + n / 390625 * 390625, seen := 4 * s.dieTime, sinceEdge := n % 390625 } }

/-- The counter is set to `t`; the crystal has not moved. -/
def Dev.setCounter (s : Dev) (t : Nat) : Dev :=
  let s := s.keeperCount
  { s with time := t, vlt := { s.vlt with seen := 4 * t } }

/-! ### Requests that wait for their turn (R28) -/

/-- The requests of a block, beside those that stand: each is served on the first core clock that comes to it, at most 4 of them all on a clock; those
that still cannot have their granules when no other is served are passed over. -/
def Dev.serveOwn {α : Type} (s : Dev) (own : List (Request α)) : Nat → List (Nat × α) × Dev
  | 0 => ([], s)
  | k + 1 =>
    if own.isEmpty then ([], s) else
    let a := s.serveClock own
    let left := own.filter (fun r => !a.1.any (fun x => x.1 == r.1) && (r.2 a.2).isSome)
    if left.isEmpty then a
    else
      let b := (a.2.clocksPass 1).serveOwn left k
      (a.1 ++ b.1, b.2)

/-- Requests of link users and lanes, each served with `f`. 25 clocks serve all 100 users, so each gets its turn within that many. -/
def Dev.serveUsers (s : Dev) (us : List Nat) (f : Nat → Dev → Option Dev) : Dev :=
  (s.serveOwn (us.map (fun u => (u, fun t => (f u t).map (fun d => ((), d))))) (26 * (us.length + 1))).2

end Sys2Proof.Machine
end

