-- ==== Sys2Proof/Machine/Station.lean ====
section
/-! DEFINITION. The station table’s fields, the ports it gives each chip, and the paths over the links that are up (R260–R264). -/

namespace Sys2Proof.Machine

def Dev.setKrk (s : Dev) (k : KrkSt) : Dev := { s with krk := k }

/-! ### The station table (R264–R267) -/

def stKeystone (t : List Byte) : Nat := leAt t 0 2
def stRate (t : List Byte) : Nat := byteAt t 2
def stMode (t : List Byte) : Nat := byteAt t 3
def stGrace (t : List Byte) : Nat := byteAt t 4
def stMissf (t : List Byte) : Nat := byteAt t 5
def stTout (t : List Byte) : Nat := byteAt t 6
def stSnmin (t : List Byte) (g : Nat) : Nat := leAt t (8 + 2 * g) 2
def stVote (t : List Byte) (i : Nat) : Nat := byteAt t (64 + i) % 16
def stPresent (t : List Byte) (i : Nat) : Bool := byteAt t (64 + i) / 16 % 2 == 1
def stHead (t : List Byte) (i : Nat) : Bool := byteAt t (64 + i) / 32 % 2 == 1
def stKind (t : List Byte) (s : Nat) : Nat := leAt t (576 + 2 * s) 2 / 2 ^ 13
def stOwner (t : List Byte) (s : Nat) : Nat := leAt t (576 + 2 * s) 2 % 512

/-- The PRESENT chips of the table, ascending. -/
def stChips (t : List Byte) : List Nat := (List.range 512).filter (stPresent t)
/-- The PRESENT chips of a bay. -/
def bayChips (t : List Byte) (b : Nat) : List Nat := (stChips t).filter (fun i => i / 16 == b)
/-- The bays with PRESENT chips. -/
def stBays (t : List Byte) : List Nat := (List.range 32).filter (fun b => !(bayChips t b).isEmpty)
/-- The head of a bay. -/
def bayHead (t : List Byte) (b : Nat) : Option Nat := (bayChips t b).find? (stHead t)
/-- VT (R267). -/
def stVotes (t : List Byte) : Nat := (stChips t).foldl (fun a i => a + stVote t i) 0

/-! ### This chip’s place -/

def mNONE : Nat := 0
def mJOINING : Nat := 1
def mMEMBER : Nat := 2
def mORPHAN : Nat := 3

def Dev.mst (s : Dev) : Nat := s.get Reg.KRK_STAT_MST

/-- The chip index the registers give this chip (R264, R285). -/
def Dev.ownIndex (s : Dev) : Nat := 16 * s.get Reg.KRK_ID_BAY + s.get Reg.KRK_ID_CHIP

/-! ### Ports and paths (R260, R263) -/

/-- The element after another in a list, round the end. -/
def nextIn (l : List Nat) (x : Nat) : Nat :=
  let i := l.findIdx (· == x)
  l.getD ((i + 1) % max 1 l.length) x
/-- The element before it. -/
def prevIn (l : List Nat) (x : Nat) : Nat :=
  let i := l.findIdx (· == x)
  l.getD ((i + l.length - 1) % max 1 l.length) x

/-- The chip the table places at a port of chip `i`; none where the port is disabled. -/
def portChip (t : List Byte) (i p : Nat) : Option Nat :=
  let bay := bayChips t (i / 16)
  let bays := stBays t
  if p < 2 then
    if bay.length < 2 then none else some (if p = 0 then nextIn bay i else prevIn bay i)
  else if bays.length < 2 || !stHead t i then none
  else bayHead t (if p = 2 then nextIn bays (i / 16) else prevIn bays (i / 16))

/-- The chip whose copies come round a ring to this chip: the origin in its own bay or bay ring, else the head that passes them on. -/
def Dev.ringOrigin (s : Dev) (port origin : Nat) : Nat :=
  let t := s.krk.table
  if port < 2 then (if origin / 16 = s.ownIndex / 16 then origin else (bayHead t (s.ownIndex / 16)).getD origin)
  else (bayHead t (origin / 16)).getD origin

/-- The ports on which a chip’s last heartbeats came in, as a mask; each of them is the end of a path whose links are up. -/
def Dev.viaMask (s : Dev) (i : Nat) : Nat :=
  let p : Peer := sget (fun _ => {}) s.krk.peers i
  if p.via = 0 then p.viaNow else p.via

/-- Port `a` may lead to a chip: its link is up, and the chip has been heard through it, or through neither port of the ring. -/
def Dev.mayLead (s : Dev) (i a : Nat) : Bool :=
  let m := s.viaMask i
  let mate := a + 1 - 2 * (a % 2)
  s.linkUp a && (m / 2 ^ a % 2 == 1 || m / 2 ^ mate % 2 == 0)

/-- The shorter way round a ring of the two ports `a` and `a + 1` to a place, for chip `i`; the lower port on a tie (R263). -/
def Dev.ringPort (s : Dev) (l : List Nat) (me dst a i : Nat) : Nat :=
  let x := l.findIdx (· == me)
  let y := l.findIdx (· == dst)
  let n := max 1 l.length
  let east := (y + n - x) % n
  let west := (x + n - y) % n
  if !s.mayLead i a && s.mayLead i (a + 1) then a + 1
  else if s.mayLead i a && !s.mayLead i (a + 1) then a else if east ≤ west then a else a + 1

/-- The port on the shortest path to a chip (R263, log entry 21). -/
def Dev.portTo (s : Dev) (i : Nat) : Nat :=
  let t := s.krk.table
  let me := s.ownIndex
  if i / 16 = me / 16 then s.ringPort (bayChips t (me / 16)) me i 0 i
  else if stHead t me then s.ringPort (stBays t) (me / 16) (i / 16) 2 i
  else s.ringPort (bayChips t (me / 16)) me ((bayHead t (me / 16)).getD me) 0 i

/-- A message that leaves on a port, if its link is up. -/
def Dev.portSend (s : Dev) (port kind dest : Nat) (d : List Byte) : Dev :=
  if s.linkUp port then s.send (.krk port kind dest d) else s

/-- A message to one chip, on the shortest path. -/
def Dev.krkSend (s : Dev) (kind dest : Nat) (d : List Byte) : Dev := s.portSend (s.portTo dest) kind dest d

/-- A message to every chip, both ways round every ring this chip is on (R261). -/
def Dev.krkCast (s : Dev) (kind : Nat) (d : List Byte) : Dev := forEach (List.range 4) (fun p t => t.portSend p kind 512 d) s

/-- A message to every chip that came in on a port goes on round its ring, unless the next chip is the one it began at; a bay head passes the first
copy on to its other ring (R261, log entry 21). -/
def Dev.krkForward (s : Dev) (port origin kind : Nat) (d : List Byte) (first : Bool) : Dev :=
  let t := s.krk.table
  let mate := port + 1 - 2 * (port % 2)
  let s := if portChip t s.ownIndex mate == some (s.ringOrigin port origin) then s else s.portSend mate kind 512 d
  if first && stHead t s.ownIndex then forEach (if port < 2 then [2, 3] else [0, 1]) (fun q t => t.portSend q kind 512 d) s else s

end Sys2Proof.Machine
end

