-- ==== Sys2Proof/Machine/Alloc.lean ====
section
/-! DEFINITION. Who asks the allocator for granules (R28, R29): the entries that can be fetched, and the command that needs more. -/

namespace Sys2Proof.Machine

/-- The allocator serves what it can on this core clock (R28). -/
def Dev.grantEntries (s : Dev) : Dev := (s.serveClock (α := Unit) []).2

/-- A request of user `u` for `n` granules together, served on the first core clock that comes to it (R28); none when it cannot have them on the clock
it is looked at. -/
def Dev.request (s : Dev) (u n : Nat) : Option Hold × Dev :=
  let a := s.serveOwn [(u, fun t => t.allocN u n)] 26
  (a.1.head?.map (·.2), a.2)

/-- The request of one command. What PREPARE reserved for the command serves it (R281). -/
def Dev.ask (s : Dev) (u n : Nat) : Option Hold × Dev :=
  if n = 0 then (some { user := u, res := 0, sh := 0 }, s)
  else
    match s.pool.kept.find? (fun h => h.res + h.sh == n) with
    | some h => (some h, { s with pool := { s.pool with kept := s.pool.kept.erase h } })
    | none => if s.couldAlloc u < n then (none, s) else s.request u n

end Sys2Proof.Machine
end

