-- ==== Sys2Proof/Machine/Operands.lean ====
section
/-! DEFINITION. Operand forms: fields of a command packet (R353), bulk data in host memory or the bulk window (R341, R344),
address words (R19, R20), and the replies a command can give (R356). -/

namespace Sys2Proof.Machine

/-! ### Packets (R353) -/

/-- Parameter length in use. -/
def pLen (p : Packet) : Nat := leAt p 6 2

/-- Byte `i` of a packet; a parameter byte at or beyond 16 + length reads as 0. -/
def pB (p : Packet) (i : Nat) : Nat := if 16 ≤ i ∧ 16 + pLen p ≤ i then 0 else byteAt p i

/-- The little-endian value of `n` packet bytes from `i`. -/
def pN (p : Packet) (i : Nat) : Nat → Nat
  | 0 => 0
  | n + 1 => pB p i + 256 * pN p (i + 1) n

/-- The 32-bit word at byte `i`. -/
def pW (p : Packet) (i : Nat) : Word := BitVec.ofNat 32 (pN p i 4)

def pOp (p : Packet) : Nat := byteAt p 0
def pFlags (p : Packet) : Nat := byteAt p 1
def pCoherent (p : Packet) : Bool := pFlags p % 2 == 1
def pDeferOk (p : Packet) : Bool := pFlags p / 2 % 2 == 1
def pStation (p : Packet) : Bool := pFlags p / 4 % 2 == 1
def pNoReply (p : Packet) : Bool := pFlags p / 8 % 2 == 1
def pTag (p : Packet) : Nat := leAt p 2 2
def pQueue (p : Packet) : Nat := leAt p 4 2
def pExecAt (p : Packet) : Nat := leAt p 8 8

/-- The packet with its opcode byte. -/
def withOp (p : Packet) (op : Nat) : Packet := BitVec.ofNat 8 op :: p.drop 1

/-! ### Status codes (R356) -/

def sOK : Nat := 0x00
def sDEFERRED : Nat := 0x01
def sPARTIAL : Nat := 0x02
def sBAD_OPCODE : Nat := 0x10
def sBAD_PARAM : Nat := 0x11
def sBAD_CONTEXT : Nat := 0x12
def sSTATE_CONFLICT : Nat := 0x13
def sBUSY : Nat := 0x14
def sNOT_READY : Nat := 0x15
def sAUTH_FAIL : Nat := 0x16
def sVERSION_REJECT : Nat := 0x17
def sABORTED : Nat := 0x18
def sTIMEOUT : Nat := 0x19
def sNO_SPACE : Nat := 0x1A
def sTRIP_ACTIVE : Nat := 0x20
def sSAFETY_LOCK : Nat := 0x21
def sINTERNAL : Nat := 0x30

/-- What a body answers: the new state and its reply, none when the reply is written at a later event. -/
abbrev Ans := Dev × Option Reply

/-- OK without a result. -/
def ansOk (s : Dev) : Ans := (s, some { status := sOK })
/-- OK with result bytes 16–31. -/
def ansRes (s : Dev) (r : List Byte) : Ans := (s, some { status := sOK, result := r })
/-- A refusal: status and Detail, no side effect. -/
def ansBad (s : Dev) (status detail : Nat) : Ans := (s, some { status := status, detail := detail })
/-- The reply is written later. -/
def ansLater (s : Dev) : Ans := (s, none)

/-! ### Where a source's data lies (R344) -/

/-- The source's host addresses are offsets into the bulk window (R344). -/
def Dev.windowed (s : Dev) : Src → Bool
  | .queue q => (s.queue q).win
  | .mailbox => s.isOn Reg.HIF_CFG_MBXWIN
  | .station _ _ => false

/-- The address is a legal one for a transfer of `n` bytes: any host address, or within the bulk window (R344). -/
def Dev.addrOk (s : Dev) (src : Src) (a n : Nat) : Bool := !s.windowed src || (decide (a < 65536) && decide (a + n ≤ 65536))

/-- The bytes lie where every access completes (R341). -/
def Dev.memOk (s : Dev) (src : Src) (a n : Nat) : Bool :=
  fromStation src || s.windowed src || !s.hostBad.any (fun b => decide (a < b.1 + b.2) && decide (b.1 < a + n))

/-- Reading the source's bulk data; a forwarded packet brings what its coordinator read (R405). -/
def Dev.bulkRead (s : Dev) (src : Src) (a n : Nat) : List Byte :=
  if fromStation src then tabulate n (fun i => s.krk.fwd.getD i 0)
  else if s.windowed src then readBytes s.host.bulkWin a n else s.hostRead a n

/-- Writing the source's bulk data; for a forwarded packet it goes to the coordinator (log entry 21). -/
def Dev.bulkWrite (s : Dev) (src : Src) (a : Nat) (d : List Byte) : Dev :=
  match src with
  | .station c _ => s.krkSend 7 c d
  | _ => if s.windowed src then { s with host := { s.host with bulkWin := writeBytes s.host.bulkWin a d } } else s.hostWrite a d

/-- The marks of an INTERNAL status: INTERR_F and a log record of the fault code (R356). -/
def Dev.faultNote (s : Dev) (code : Nat) : Dev := (s.hifFlag Reg.HIF_FLAG_INTERR_F).logNow 0 1 code

/-- Fault code 1, a bus error (R341). -/
def Dev.busFault (s : Dev) : Dev := s.faultNote 1

/-- INTERNAL with Detail 1: a bus error (R341, R356). -/
def ansBus (s : Dev) : Ans := (s.busFault, some { status := sINTERNAL, detail := 1 })

/-- A command holds further granules from now until it completes (R29). -/
def Dev.holds (s : Dev) (h : Hold) : Dev := { s with pool := { s.pool with now := s.pool.now ++ [h] } }

/-- The granules taken for it are free again. -/
def Dev.letsGo (s : Dev) : Dev := forEach s.pool.now (fun h t => t.freeHold h) { s with pool := { s.pool with now := [] } }

/-- What a command lacks of `n` granules (R29). -/
def Dev.lacks (s : Dev) (u n : Nat) : Nat := n - s.couldAlloc u

/-- NO_SPACE with the shortfall (R29). -/
def ansNoSpace (s : Dev) (u n : Nat) : Ans := ansBad s.noSpace sNO_SPACE (s.lacks u n)

/-- Granules that a bulk load needs (R29); the data of a forwarded packet lies in granules already: its coordinator’s, or its port’s (R280). -/
def Dev.loadNeeds (s : Dev) (src : Src) (n : Nat) : Nat := if fromStation src || !s.krk.fwd.isEmpty then 0 else cdiv n 256

/-- A bulk load (R29, R341, R344): the address checked, granules taken together and held until the command completes, the bytes read, `k` run
on them. -/
def withLoad (s : Dev) (src : Src) (field a n : Nat) (k : Dev → List Byte → Ans) : Ans :=
  if !s.addrOk src a n then ansBad s sBAD_PARAM field
  else
    match s.ask (srcUser src) (s.loadNeeds src n) with
    | (none, t) => ansNoSpace t (srcUser src) (s.loadNeeds src n)
    | (some h, t) => if !t.memOk src a n then ansBus (t.holds h) else k (t.holds h) (t.bulkRead src a n)

/-- A bulk read-out (R29): the address checked, granules taken and held until the command completes, which is when its last byte is written. -/
def withStore (s : Dev) (src : Src) (field a : Nat) (d : List Byte) (k : Dev → Ans) : Ans :=
  if !s.addrOk src a d.length then ansBad s sBAD_PARAM field
  else
    let n := min (cdiv d.length 256) 8
    match s.ask (srcUser src) n with
    | (none, t) => ansNoSpace t (srcUser src) n
    | (some h, t) => if !t.memOk src a d.length then ansBus (t.holds h) else k ((t.holds h).bulkWrite src a d)

/-- A refusal for want of a result or of a free resource. A host address that is not legal for `n` bytes, a failure of step 5, comes before it
(R344, R355); where the length is not known `n` is 0. -/
def ansWant (s : Dev) (src : Src) (p : Packet) (n status : Nat) : Ans :=
  if s.addrOk src (pN p 24 8) n then ansBad s status 0 else ansBad s sBAD_PARAM 24

/-! ### What a prepared command has reserved (R281) -/

/-- It waits for a tick. -/
def WaitKind.isHeld : WaitKind → Bool
  | .held _ => true
  | _ => false

/-- The commands prepared under COHERENT that have not executed, with what each adds to the cost of the control items. -/
def Dev.prepared (s : Dev) : List (Packet × Nat) :=
  s.krk.preps.map (fun x => (x.pkt, x.cost)) ++
    (s.host.waits.filter (fun w => pCoherent w.pkt && w.route.isSome && w.kind.isHeld)).map (fun w => (w.pkt, w.cost))

/-- Core clocks reserved for them. -/
def Dev.prepCost (s : Dev) : Nat := (s.prepared.map (·.2)).foldl (· + ·) 0

/-- A resource that one command at a time can have. -/
inductive Sole where
  /-- A generator (R134). -/
  | gen (g : Nat)
  /-- The generator of a context (R134). -/
  | genOf (c : Nat)
  /-- The spare table buffer (R129). -/
  | spare
  /-- The capture (R137). -/
  | capture
  /-- The I–V sweep (R157). -/
  | sweep
  deriving DecidableEq, Repr

/-- Those that a command needs. -/
def pNeeds (p : Packet) : List Sole :=
  match pOp p with
  | 0x18 => [.spare]
  | 0x1A => [.gen (pB p 16), .genOf (pB p 17)]
  | 0x1C => [.capture]
  | 0x35 => [.sweep]
  | _ => []

/-- What a command needs is reserved for a prepared one. -/
def Dev.soleTaken (s : Dev) (p : Packet) : Bool := s.prepared.any (fun x => (pNeeds x.1).any (pNeeds p).contains)

/-! ### Address words (R19, R20) -/

def awBay (w : Nat) : Nat := w / 2 ^ 18 % 32
def awChip (w : Nat) : Nat := w / 2 ^ 14 % 16
def awRing (w : Nat) : Nat := w / 2 ^ 10 % 16
def awCell (w : Nat) : Nat := w / 2 ^ 4 % 64
def awEp (w : Nat) : Nat := w % 16
def awAddr (w : Nat) : Nat := w % 2 ^ 23
def awScope (w : Nat) : Nat := w / 2 ^ 24 % 8

/-- The number of address bits below the level a scope names: every one of them must be 0 (R20). -/
def scopeLow (scope : Nat) : Nat :=
  match scope with
  | 0 => 0 | 1 => 4 | 2 => 10 | 3 => 14 | 4 => 18 | _ => 23

/-- The form of an address word is legal (R21, first three cases). -/
def awFormOk (w : Nat) : Bool :=
  w / 2 ^ 27 % 32 == 0 && w / 2 ^ 23 % 2 == 0 && decide (awScope w ≤ 5) && w % 2 ^ scopeLow (awScope w) == 0 &&
    decide (awEp w < 10)

/-- The address word of a cell of this chip, SCOPE 1. -/
def Dev.cellWord (s : Dev) (pos : Nat) : Nat :=
  2 ^ 24 + s.chipIndex * 2 ^ 14 + pos * 2 ^ 4

/-! ### Rejected offsets -/

/-- The lowest of a list of offsets. -/
def lowestOf (l : List Nat) : Option Nat := l.foldl (fun (b : Option Nat) x => match b with
  | none => some x
  | some y => some (min x y)) none

/-- `o` when `bad`, else nothing. -/
def badAt (bad : Bool) (o : Nat) : List Nat := if bad then [o] else []

end Sys2Proof.Machine
end

