-- ==== Sys2Proof/Machine/Squall.lean ====
section
/-! DEFINITION. Squall: triggers, buffers and the record of a snapshot (R386–R393). -/

namespace Sys2Proof.Machine

/-- The content of a buffer. -/
def Dev.snapBuf (s : Dev) (k : Nat) : Option Snap := sget (fun _ => none) s.snp.bufs k

/-- Buffer `k` is frozen; buffer `k` is reserved (R389). -/
def Dev.frozen (s : Dev) (k : Nat) : Bool := s.isOn ⟨0x5804, k, k⟩
def Dev.snapResv (s : Dev) (k : Nat) : Bool := s.isOn ⟨0x5804, 4 + k, 4 + k⟩

/-- The free buffer with the lowest number (R388). -/
def Dev.freeBuf (s : Dev) : Option Nat := (List.range 4).find? (fun k => !s.frozen k && !s.snapResv k)

/-- The lowest set bit of a source mask. -/
def lowestBit (m : Nat) : Nat := ((List.range 32).find? (fun k => m / 2 ^ k % 2 == 1)).getD 0

/-- A trigger is lost (R388); those of the present core clock are kept in mind. -/
def Dev.snapLost (s : Dev) (src stamp detail : Nat) : Dev :=
  let s := (s.raise Reg.SNP_FLAG_LOST_F).count Reg.SNP_CNT_LOST_CNT
  { s with snp := { s.snp with lostSince := s.snp.lostSince + 1,
                               lostNow := s.snp.lostNow.filter (fun x => x.1 == s.clocks) ++ [(s.clocks, src, stamp, detail)] } }

/-- The SNP_TRIGGER commands of the present core clock have this buffer. -/
def Dev.askedBuf (s : Dev) (k : Nat) : Dev :=
  { s with snp := { s.snp with asked := s.snp.asked.map (fun x => if x.clk = s.clocks then { x with buf := some k } else x) } }

/-- The tick image freezes into buffer `k`, with a log record of the buffer and the source mask. -/
def Dev.freeze (s : Dev) (k src stamp detail : Nat) (img : TickImg) (resv : Bool := false) : Dev :=
  let sn : Snap := { img := img, mask := 2 ^ src, trigStamp := stamp, detail := detail, lost := s.snp.lostSince }
  let s := (s.set ⟨0x5804, k, k⟩ 1).set Reg.SNP_STAT_LASTSRC src
  let s := ((s.count Reg.SNP_CNT_TRIGS).logAt stamp 15 1 0 (k + 256 * 2 ^ src)).askedBuf k
  { s with snp := { s.snp with bufs := sset (fun _ => none) s.snp.bufs k (some sn),
                               last := some { clk := s.clocks, buf := k, seq := s.get Reg.SNP_LOGSEQ_SEQ, resv := resv, first := s.snp.capTrig.isNone },
                               capTrig := s.snp.capTrig.or (some img.frame) } }

/-- The log record of the last freeze names a buffer and a source mask. -/
def Dev.relog (s : Dev) (seq k mask : Nat) : Dev :=
  { s with log := s.log.map (fun r => if r.seq = seq then { r with data := k + 256 * mask } else r) }

/-- A second trigger on the core clock of the last freeze: one snapshot, its lowest source and the mask of all (R387), with that source’s
detail (DEDUCED, log entry 36). -/
def Dev.mergeTrig (s : Dev) (k seq src detail : Nat) : Dev :=
  match s.snapBuf k with
  | none => s
  | some sn =>
    let m := sn.mask ||| 2 ^ src
    let s := s.set Reg.SNP_STAT_LASTSRC (lowestBit m)
    ({ s with snp := { s.snp with bufs := sset (fun _ => none) s.snp.bufs k (some { sn with mask := m, detail := if src < lowestBit sn.mask then detail else sn.detail }) } }).relog seq k m

/-- The freeze of the present core clock, if there is one. -/
def Dev.frozenHere (s : Dev) : Option SnapLast := s.snp.last.filter (fun x => x.clk == s.clocks && s.frozen x.buf)

/-- A Squall trigger into a reserved buffer or the lowest free one (R387–R389), or into the snapshot of the present core clock; answers the buffer. -/
def Dev.snapInto (s : Dev) (resv : Option Nat) (src stamp detail : Nat) : Option Nat × Dev :=
  match s.snp.tick with
  | none => (none, s.snapLost src stamp detail)
  | some img =>
    match s.frozenHere with
    | some x => (some x.buf, s.mergeTrig x.buf x.seq src detail)
    | none =>
      match resv.or s.freeBuf with
      | none => (none, s.snapLost src stamp detail)
      | some k => (some k, s.freeze k src stamp detail img resv.isSome)

/-- A Squall trigger into the lowest free buffer (R387, R388); answers the buffer. -/
def Dev.snapTrigger (s : Dev) (src stamp detail : Nat) : Option Nat × Dev := s.snapInto none src stamp detail

/-- The trip code that a snapshot of the present core clock names as its trigger detail, when a latch of a lower code sets on that clock (R288, R392). -/
def Dev.snapDetail (s : Dev) (detail : Nat) : Dev :=
  match s.frozenHere with
  | none => s
  | some x =>
    match s.snapBuf x.buf with
    | some sn =>
      if lowestBit sn.mask = 1 then { s with snp := { s.snp with bufs := sset (fun _ => none) s.snp.bufs x.buf (some { sn with detail := detail }) } } else s
    | none => s

/-! ### Releases (R388) -/

/-- The triggers lost on the present core clock. -/
def Dev.lostHere (s : Dev) : List (Nat × Nat × Nat × Nat) := s.snp.lostNow.filter (fun x => x.1 == s.clocks)

/-- The losses of the present core clock are taken back: what they set and counted goes. -/
def Dev.unlose (s : Dev) : Dev :=
  let n := s.lostHere.length
  let s := { s with snp := { s.snp with lostNow := [], lostSince := s.snp.lostSince - n } }
  (s.unnoted Reg.SNP_FLAG_LOST_F n).unnoted Reg.SNP_CNT_LOST_CNT n

/-- A release has acted before the freeze of the present core clock: none has been lost since it, and an unreserved snapshot has the lowest buffer that
is free then. -/
def Dev.snapMoved (s : Dev) : Dev :=
  match s.frozenHere with
  | none => s
  | some x =>
    match s.snapBuf x.buf with
    | none => s
    | some sn =>
      let j := if x.resv then x.buf else min x.buf (s.freeBuf.getD x.buf)
      let bufs := sset (fun _ => none) (sset (fun _ => none) s.snp.bufs x.buf none) j (some { sn with lost := 0 })
      let s := ((s.set ⟨0x5804, x.buf, x.buf⟩ 0).set ⟨0x5804, j, j⟩ 1).askedBuf j
      ({ s with snp := { s.snp with bufs := bufs, last := some { x with buf := j } } }).relog x.seq j sn.mask

/-- The triggers lost on the present core clock come again. -/
def Dev.retrigger (s : Dev) : Dev :=
  let again := s.lostHere
  if again.isEmpty then s else forEach again (fun x t => (t.snapTrigger x.2.1 x.2.2.1 x.2.2.2).2) s.unlose

/-- Buffers released; a release of a buffer that is not frozen does nothing. Of a release and a trigger on one core clock the release acts
first (R388): a buffer frozen on this clock stays frozen, and triggers of this clock take the buffers that they then find free. -/
def Dev.snapRelease (s : Dev) (mask : Nat) : Dev :=
  let now := (s.frozenHere).map (·.buf)
  let go := (List.range 4).filter (fun k => mask / 2 ^ k % 2 == 1 && s.frozen k && now != some k)
  if go.isEmpty then s
  else
    let s := forEach go (fun k t =>
      let t := t.set ⟨0x5804, k, k⟩ 0
      { t with snp := { t.snp with bufs := sset (fun _ => none) t.snp.bufs k none, lostSince := t.lostHere.length } }) s
    s.snapMoved.retrigger

/-! ### The tick image (R386, R387) -/

/-- The device as the tick image shows it: when a trigger has fallen on the core clock of the tick, its registers as they were when that clock began,
before any effect of the trigger’s cause (R387), with the new frame’s number and phase and the vault’s mirror. -/
def Dev.imageDev (s : Dev) : Dev :=
  if (s.snp.last.map (·.clk)) == some s.clocks then
    let keep := fun (off : Nat) => off == Reg.FRM_NUM || off == Reg.FRM_STAT || (decide (0x5400 ≤ off) && decide (off < 0x5800))
    { s with regs := (s.regs.filter (fun x => keep x.1)).foldl (fun l x => sset resetWord l x.1 x.2) s.clkRegs }
  else s

/-- The tick image stands. A snapshot frozen on the core clock of the tick holds it, and a trigger that was lost on that clock for want of an image
finds it (R387). -/
def Dev.tickImage (s : Dev) (img : TickImg) : Dev :=
  let before := s.snp.tick.isNone
  let s := { s with snp := { s.snp with tick := some img } }
  let s := match s.frozenHere with
    | none => s
    | some x =>
      match s.snapBuf x.buf with
      | none => s
      | some sn =>
        { s with snp := { s.snp with bufs := sset (fun _ => none) s.snp.bufs x.buf (some { sn with img := img }),
                                     capTrig := if x.first then s.snp.capTrig.map (fun _ => img.frame) else s.snp.capTrig } }
  if before then s.retrigger else s

/-! ### Putting records in order (R395) -/

/-- The concurrency window of two records in TU: `settled` when both chips have been synchronised for at least 2 s. -/
def orderWindow (sameBay settled : Bool) : Nat := if !settled then 66 else if sameBay then 9 else 18

/-- Two ordered records of different chips, with their stamps and chip indices, are concurrent. -/
def concurrent (settled : Bool) (a b : Nat × Nat) : Bool :=
  a.2 != b.2 && decide (max a.1 b.1 - min a.1 b.1 ≤ orderWindow (a.2 / 16 == b.2 / 16) settled)

/-- The order of ordered records: stamp, chip index, sequence. -/
def recordBefore (a b : Nat × Nat × Nat) : Bool :=
  decide (a.1 < b.1) || (a.1 == b.1 && (decide (a.2.1 < b.2.1) || (a.2.1 == b.2.1 && decide (a.2.2 < b.2.2))))

/-- The record takes part in the order of the station; the others are local to their chip. -/
def LogRec.ordered (r : LogRec) : Bool := !r.freerun && !r.unsync

/-- The gaps in a chip’s records after sequence number `last`: the first number missing, and the record that follows. -/
def logGaps : Nat → List LogRec → List (Nat × Nat)
  | _, [] => []
  | last, r :: t => (if r.seq = nextSeq last then [] else [(nextSeq last, r.seq)]) ++ logGaps r.seq t

/-- A record of a chip put in its place among ordered ones. -/
def orderInsert (x : Nat × LogRec) : List (Nat × LogRec) → List (Nat × LogRec)
  | [] => [x]
  | y :: t => if recordBefore (x.2.stamp, x.1, x.2.seq) (y.2.stamp, y.1, y.2.seq) then x :: y :: t else y :: orderInsert x t

/-- Index of the ordered record after which a local record of a chip stands: the last of its chip with a lower sequence number. -/
def localAfter (l : List (Nat × LogRec)) (x : Nat × LogRec) : Option Nat :=
  ((l.zipIdx.filter (fun y => y.1.1 == x.1 && decide (y.1.2.seq < x.2.seq))).getLast?).map (·.2)

/-- The records of several chips in order: the ordered ones by stamp, chip and sequence, each local one after the last ordered record of its chip
with a lower sequence number; one without any stands first (DESIGN CHOICE, log entry 36). -/
def orderedLog (logs : List (Nat × List LogRec)) : List (Nat × LogRec) :=
  let all := (logs.map (fun c => c.2.map (fun r => (c.1, r)))).flatten
  let main := (all.filter (fun x => x.2.ordered)).foldl (fun l x => orderInsert x l) []
  let loc := all.filter (fun x => !x.2.ordered)
  loc.filter (fun x => (localAfter main x).isNone) ++
    (main.zipIdx.map (fun y => y.1 :: loc.filter (fun x => localAfter main x == some y.2))).flatten

/-- The pairs of a list of ordered records that are concurrent. -/
def concurrentPairs (settled : Bool) (l : List (Nat × LogRec)) : List ((Nat × LogRec) × (Nat × LogRec)) :=
  (l.map (fun a => (l.filter (fun b => concurrent settled (a.2.stamp, a.1) (b.2.stamp, b.1))).map (fun b => (a, b)))).flatten

/-! ### The record (R392) -/

/-- The sections: BAR0 base, tile and block of the diagnostic address, die, length. -/
def snapSections : List (Nat × Nat × Nat × Nat × Nat) := [
  (0x0000, 0, 0, 0, 1024), (0x0400, 0, 1, 0, 1024), (0x0800, 0, 1, 2, 2048), (0x1000, 0, 2, 9, 2048),
  (0x1800, 0, 3, 9, 1024), (0x1C00, 0, 4, 0, 1024), (0x2000, 0, 14, 0, 2048), (0x2800, 0, 16, 0, 2048),
  (0x3000, 0, 20, 4, 2048), (0x3800, 0, 24, 4, 2048), (0x4000, 0, 4, 1, 1024), (0x4400, 0, 5, 0, 1024),
  (0x4800, 0, 25, 0, 2048), (0x5000, 0, 26, 0, 1024), (0x5400, 1, 0, 0, 1024), (0x5800, 0, 26, 1, 2048),
  (0x6000, 0, 27, 0, 2048)]

/-- A diagnostic address with BANK, WORD and BIT 0 (R34). -/
def diagAddr (die tile block : Nat) : Nat := die * 2 ^ 31 + tile * 2 ^ 26 + block * 2 ^ 20

/-- A section header. -/
def sectionHead (diag base len : Nat) : List Byte := toLe diag 4 ++ toLe base 2 ++ toLe len 2 ++ zeros 8

/-- A section: its header and the registers of its range in address order. -/
def snapSection (regs : List (Nat × Word)) (x : Nat × Nat × Nat × Nat × Nat) : List Byte :=
  sectionHead (diagAddr x.2.1 x.2.2.1 x.2.2.2.1) x.1 x.2.2.2.2 ++
    (List.range (x.2.2.2.2 / 4)).foldr (fun i acc => wordBytes (sget resetWord regs (x.1 + 4 * i)) ++ acc) []

/-- The bytes of a snapshot record. -/
def snapBytes (k : Nat) (sn : Snap) : List Byte :=
  let cells := if sn.img.cells.isEmpty then []
    else sectionHead (diagAddr 0 14 0) 0xFFFF sn.img.cells.length ++ sn.img.cells
  let body := snapSections.foldr (fun x acc => snapSection sn.img.regs x ++ acc) cells
  let len := 64 + body.length
  let head := toLe sn.img.stamp 8 ++ toLe sn.img.frame 4 ++
    [BitVec.ofNat 8 (lowestBit sn.mask), BitVec.ofNat 8 sn.mask,
     BitVec.ofNat 8 (b2n sn.img.freerun + 2 * b2n sn.img.unsync + 4 * b2n (!sn.img.cells.isEmpty)),
     BitVec.ofNat 8 (snapSections.length + b2n (!sn.img.cells.isEmpty))] ++
    toLe sn.trigStamp 8 ++ toLe sn.detail 4 ++ toLe sn.img.chip 2 ++ [BitVec.ofNat 8 sn.img.state, BitVec.ofNat 8 k] ++
    toLe len 4 ++ toLe sn.img.view 4 ++ toLe sn.lost 4 ++ zeros 16
  head ++ toLe (crc32 (head ++ zeros 4 ++ body)) 4 ++ body

end Sys2Proof.Machine
end

