-- ==== Sys2Proof/Machine/Protect.lean ====
section
/-! DEFINITION. The trip matrix and the station loop (R286–R297): sources, latches, what a latch does, clears, loop latches. -/

namespace Sys2Proof.Machine

/-- The PRT_ bit of a source code in a LO/HI register pair. -/
def prtBit (lo code : Nat) : Fld := ⟨if code < 32 then lo else lo + 4, code % 32, code % 32⟩

/-- The latch of a code (R288). -/
def latF (code : Nat) : Fld := prtBit 0x401C code

/-- Every code that names a source (R286). -/
def sourceCodes : List Nat := List.range 30 ++ (List.range 15).map (fun c => c + 32)

/-- The sources without a mask (R286). -/
def unmasked : List Nat := [0x20, 0x24, 0x26, 0x27, 0x2A, 0x2B, 0x2C, 0x2D, 0x2E]

/-- The source is effective: its mask is set, or it has none (R287). -/
def Dev.effective (s : Dev) (code : Nat) : Bool :=
  if code < 24 then s.isOn (Reg.CMP_ROUTEi_TRIP code) else unmasked.contains code || s.isOn (prtBit 0x4004 code)

/-- The loop latches (R295). -/
def Dev.loopLatch (s : Dev) (k : Nat) : Bool := s.isOn ⟨0x4024, 2 + k, 2 + k⟩

/-- The source is active now (R286); event-only sources never are after their event (R292). -/
def Dev.sourceActive (s : Dev) (code : Nat) : Bool :=
  if code < 24 then s.isOn (Reg.CMP_CFGi_EN code) && s.isOn ⟨0x18C0, code, code⟩
  else if code < 28 then s.prt.fltPin / 2 ^ (code - 24) % 2 == 1
  else if code < 30 then s.loopLatch (code - 28)
  else if code = 0x21 then s.prt.clkLoss && s.isOn Reg.CLK_STAT_SRC
  else if code = 0x24 then s.prt.halted
  else if code = 0x25 then
    match s.prt.alarmFrame with
    | some f => decide ((s.frame + 2 ^ 32 - f) % 2 ^ 32 < 2)
    | none => false
  else if code = 0x26 then s.prt.redCell
  else if code = 0x27 then s.prt.redStation
  else if code = 0x2A then s.get Reg.SAF_STAT_DEMAND != 0
  else if code = 0x2B then s.get Reg.SAF_HEDGE_DEM != 0
  else false

/-- Some latch is set. -/
def Dev.anyLatch (s : Dev) : Bool := s.reg Reg.PRT_LAT_LO != 0#32 || s.reg Reg.PRT_LAT_HI != 0#32

/-- The codes latched, ascending. -/
def Dev.latched (s : Dev) : List Nat := sourceCodes.filter (fun c => s.isOn (latF c))

/-- The lowest code latched; 0 when none. -/
def Dev.lowestLatch (s : Dev) : Nat := s.latched.headD 0

/-! ### Thicket words of the matrix (R237, R247) -/

/-- A control block: payload P[55:0] with its CRC-8 in bits [7:0], and the type (R235, R238). -/
def ctlBlock (type payload : Nat) : Nat :=
  let c := crc8 ((toLe (payload / 256) 6))
  (payload / 256 * 256 + c) * 256 + type

/-- A block sent on both transmitters of every enabled ring. -/
def Dev.thkAll (s : Dev) (block : Nat) : Dev :=
  forEach (List.range 16) (fun r t =>
    if t.isOn (Reg.THK_RINGr_CFG_EN r) then (t.send (.thk (2 * r) block [])).send (.thk (2 * r + 1) block []) else t) s

/-- A TRIP block carrying a code and this chip’s place. -/
def Dev.tripBlock (s : Dev) (code : Nat) : Nat := ctlBlock 0x55 (code * 2 ^ 48 + s.chipIndex * 2 ^ 39)

/-- A BLOCK block with its reason. -/
def blockBlock (reason : Nat) : Nat := ctlBlock 0x66 (reason * 2 ^ 48)

/-! ### Setting latches (R288, R289) -/

/-- The states in which a latch is held without a change of state (R289). -/
def tripHeldStates : List Nat := [stPOWEROFF, stBOOT, stCONFIG]

/-- The log record of a latch (R289); in a handover the image that resumes writes it (R410). -/
def Dev.tripLog (s : Dev) (stamp code : Nat) (first : Bool) : Dev :=
  match s.img.ho with
  | some h => { s with img := { s.img with ho := some { h with trips := h.trips ++ [(stamp, code, first)] } } }
  | none => s.logAt stamp 10 1 0 code first

/-- HIF_EVT.TRIP when OUT rises; in a handover the image that resumes sets it (R410). -/
def Dev.tripEvent (s : Dev) : Dev :=
  match s.img.ho with
  | some h => { s with img := { s.img with ho := some { h with event := true } } }
  | none => s.event Reg.HIF_EVT_TRIP

/-- The image that resumes writes the log records of the latches that set in the handover, with their own stamps, and sets HIF_EVT.TRIP (R410). -/
def Dev.tripsLogged (s : Dev) (h : HoSt) : Dev :=
  onlyIf h.event (·.event Reg.HIF_EVT_TRIP) (forEach h.trips (fun x t => t.logAt x.1 10 1 0 x.2.1 x.2.2) s)

/-- A BLOCK word for the halt event (R200, R247). -/
def haltBlock (stop : Bool) : Nat := blockBlock (if stop then 4 else 3)

/-- What OUT does when it rises or a further latch sets, for one code: the word to the cells and the log record (R289).
`stop` says that a clock stop, not a debug halt, raised code 0x24. -/
def Dev.latchOne (s : Dev) (stamp code : Nat) (first stop : Bool) : Dev :=
  let s := s.raise (latF code)
  let block :=
    if code = 0x20 then blockBlock 2
    else if code = 0x24 then haltBlock stop
    else if code = 0x2D then blockBlock 5 else s.tripBlock code
  (s.thkAll block).tripLog stamp code first

/-- PRT_FIRST and PRT_FSTAMP take a code and its stamp (R288). -/
def Dev.firstIs (s : Dev) (code stamp : Nat) : Dev :=
  ((s.set Reg.PRT_FIRST_CODE code).setPair Reg.PRT_FSTAMP_LO Reg.PRT_FSTAMP_HI stamp)

/-- The first latch set while every latch was empty is recorded, and it holds until a PRT_TRIP_CLEAR leaves every latch empty; of the latches of
one core clock the lowest code is (R288). -/
def Dev.firstNote (s : Dev) (wasEmpty : Bool) (low stamp : Nat) : Dev :=
  if wasEmpty && !s.isOn Reg.PRT_FIRST_VALID then
    { (s.setB Reg.PRT_FIRST_VALID true).firstIs low stamp with prt := { s.prt with firstAt := some s.clocks } }
  else if s.isOn Reg.PRT_FIRST_VALID && s.prt.firstAt == some s.clocks && decide (low < s.get Reg.PRT_FIRST_CODE) then
    (s.firstIs low stamp).snapDetail low
  else s

/-- The entry to TRIPPED, its log record kept in mind. -/
def Dev.tripMove (s : Dev) (low : Nat) : Dev :=
  if s.st = stTRIPPED then s
  else
    let s := s.enter stTRIPPED low
    { s with prt := { s.prt with tripRec := some (s.clocks, low, s.get Reg.SNP_LOGSEQ_SEQ) } }

/-- A latch takes the device to TRIPPED, with its code as the cause; of the latches of one core clock the lowest code is (R289, R366). -/
def Dev.tripEnter (s : Dev) (low : Nat) : Dev :=
  match s.prt.tripRec with
  | some (c, code, seq) =>
    if c = s.clocks ∧ s.st = stTRIPPED then
      if low < code then
        { s with prt := { s.prt with tripRec := some (c, low, seq) },
                 log := s.log.map (fun r => if r.seq = seq then { r with data := r.data % 65536 + 65536 * low } else r) }
      else s
    else s.tripMove low
  | none => s.tripMove low

/-- Latches set for the effective ones of the codes given, all on this core clock (R288, R289). -/
def Dev.latch (s : Dev) (stamp : Nat) (codes : List Nat) (stop : Bool := false) : Dev :=
  let new := (sourceCodes.filter (fun c => codes.contains c)).filter (fun c => s.effective c && !s.isOn (latF c))
  match new with
  | [] => s
  | low :: _ =>
    let wasEmpty := !s.anyLatch
    let s := (s.raise Reg.PRT_FLAG_TRIP_F).firstNote wasEmpty low stamp
    let s := onlyIf wasEmpty (fun t => ((t.count Reg.PRT_CNT_TRIPS).raise Reg.PRT_STAT_OUT).tripEvent) s
    let s := forEach new (fun c t => t.latchOne stamp c (wasEmpty && c == low) stop) s
    let s := s.hbTripAll stamp
    let s := { s with prt := { s.prt with tripped := s.prt.tripped ++ new } }
    let s := onlyIf (wasEmpty && s.isOn Reg.PRT_CFG_SNP) (fun t => (t.snapTrigger 1 stamp low).2) s
    onlyIf (!s.stIn tripHeldStates) (·.tripEnter low) s

/-- Every effective source that is active sets its latch (R288), from the first core clock after the release on (R290). -/
def Dev.matrix (s : Dev) : Dev :=
  if s.prt.evaluated then s.latch (s.stamp 0) (sourceCodes.filter s.sourceActive) else s

/-! ### Clearing latches (R292, R293) -/

/-- A latch cleared; PRT_STAT.OUT follows. -/
def Dev.unlatch (s : Dev) (code : Nat) : Dev :=
  let s := s.set (latF code) 0
  s.setB Reg.PRT_STAT_OUT s.anyLatch

/-- A refused clear: counted (R292). -/
def Dev.clearRefused (s : Dev) : Dev := (s.raise Reg.PRT_FLAG_CLRREJ_F).count Reg.PRT_CNT_CLRREJ_CNT

/-- The latch of a code was set on this core clock, so no clear of this clock takes it (R8, R292). -/
def Dev.latchedNow (s : Dev) (code : Nat) : Bool :=
  match s.clkEvents (latF code).off with
  | some e => bit e.2 (latF code).lo
  | none => false

/-- The clear of a latch is refused while its source is active (R292); in recovery latch 0x2C stays set (R379). -/
def Dev.mayNotClear (s : Dev) (code : Nat) : Bool := s.sourceActive code || (code == 0x2C && s.recovery)

/-- A clear attempted on each of the codes that are latched: done when the source is inactive, else refused (R292); one set on this core clock
stays set. -/
def Dev.clearLatches (s : Dev) (codes : List Nat) : Dev :=
  forEach (codes.filter (fun c => s.isOn (latF c))) (fun c t =>
    if t.mayNotClear c then t.clearRefused else if t.latchedNow c then t else t.unlatch c) s

/-- The codes named by a write to the PRT_LAT register at an offset. -/
def latWriteCodes (off : Nat) (w : Word) : List Nat :=
  sourceCodes.filter (fun c => (latF c).off == off && bit w (c % 32))

/-- A write to PRT_LAT_LO or PRT_LAT_HI (R292). Only PRT_TRIP_CLEAR with LOOP clears the latches of 0x1C and 0x1D: a write of 1 to one that is
set is refused. -/
def Dev.latWrite (s : Dev) (off : Nat) (w : Word) : Dev :=
  forEach ((latWriteCodes off w).filter (fun c => s.isOn (latF c))) (fun c t =>
    if c = 0x1C ∨ c = 0x1D then t.clearRefused else t.clearLatches [c]) s

/-! ### The station loop (R294–R297) -/

/-- Loop k is in use as an incoming line (R295). -/
def Dev.loopOn (s : Dev) (k : Nat) : Bool := s.isOn ⟨0x4000, k, k⟩

/-- LLk set or cleared. -/
def Dev.setLoop (s : Dev) (k : Nat) (b : Bool) : Dev := s.setB ⟨0x4024, 2 + k, 2 + k⟩ b

/-- The accepted level of TRIP_INk. -/
def Dev.tin (s : Dev) (k : Nat) : Bool := s.isOn ⟨0x4024, k, k⟩

/-- A level that TRIP_INk has held for 40 ns is accepted; an accepted high sets LLk unless blanking is in progress (R295). -/
def Dev.tripIn (s : Dev) (k : Nat) (level : Bool) (tdc : Nat) : Dev :=
  let bitOff := s.prt.pinIn / 2 ^ k % 2
  let s := { s with prt := { s.prt with pinIn := s.prt.pinIn + b2n level * 2 ^ k - bitOff * 2 ^ k } }
  if !s.loopOn k || s.isOn Reg.PRT_STAT_BLANK then s
  else
    let s := s.setB ⟨0x4024, k, k⟩ level
    let s := match s.prt.path with
      | some (src, p, t0, l) =>
        if level && l.getD k none == none then
          { s with prt := { s.prt with path := some (src, p, t0, l.set k (some (s.stamp tdc - t0))) } } else s
      | none => s
    if level then (s.setLoop k true).latch (s.stamp tdc) [0x1C + k] else s

/-- Both loops enabled and their accepted levels different for longer than LDISC (R297). -/
def Dev.loopDiscrepancy (s : Dev) : Dev :=
  if s.loopOn 0 && s.loopOn 1 && s.tin 0 != s.tin 1 then
    (s.raise Reg.PRT_FLAG_LOOPDIS_F).logNow 10 2 (b2n (s.tin 0) + 256 * b2n (s.tin 1))
  else s

/-- A latched safety function has its ACT.LOOP bit set (R301). -/
def Dev.safLoop (s : Dev) : Bool :=
  (List.range 8).any (fun i => s.get Reg.SAF_STAT_DEMAND / 2 ^ i % 2 == 1 && byteAt s.saf.confirmed (24 + i) / 16 % 2 == 1)

/-- TRIP_OUTk is high (R295, R301). -/
def Dev.tripOut (s : Dev) (k : Nat) : Bool :=
  s.loopLatch k || s.safLoop ||
  (s.reg Reg.PRT_LAT_LO &&& s.reg Reg.PRT_LOOPEN_LO) != 0#32 ||
  (s.reg Reg.PRT_LAT_HI &&& s.reg Reg.PRT_LOOPEN_HI) != 0#32 ||
  s.isOn Reg.SAF_HEDGE_LOOP

/-! ### PRT_TRIP_CLEAR (R293, R296) -/

/-- The outcome, decided after the last step: OK when every latch is empty, from TRIPPED into BLOCKED; else the refusal. -/
def Dev.clearOutcome (s : Dev) (tag : Nat) : Dev × Reply :=
  if !s.anyLatch then
    let s := (s.setReg Reg.PRT_FIRST 0#32)
    let s := if s.st = stTRIPPED then s.enter stBLOCKED tag else s
    (s, { status := sOK })
  else
    let low := s.lowestLatch
    let safe := s.isOn (latF 0x2A) || s.isOn (latF 0x2B)
    (s.raise Reg.PRT_FLAG_CLRREJ_F, { status := if safe then sSAFETY_LOCK else sTRIP_ACTIVE, detail := low })

/-- Step 1: every latch whose source is inactive, apart from the loop latches. -/
def Dev.clearStep1 (s : Dev) : Dev :=
  s.clearLatches (sourceCodes.filter (fun c => c != 0x1C && c != 0x1D))

/-- Step 3: every local channel's fault latch (R199). -/
def Dev.clearChannels (s : Dev) : Dev := (s.hbClearMask 0xFFF).2

/-- PRT_TRIP_CLEAR at its execution tick. A second one with LOOP during a blanking finds it in use. -/
def bodyTripClear (src : Src) (p : Packet) (s : Dev) : Ans :=
  let loop := pB p 16 % 2 == 1
  let chan := pB p 16 / 2 % 2 == 1
  let busy := loop && s.prt.blanking.isSome
  let s := onlyIf (!busy) (·.clearStep1) s
  if busy then ansBad s sBUSY 0
  else if loop then
    let s := (s.setLoop 0 false).setLoop 1 false
    let s := s.raise Reg.PRT_STAT_BLANK
    ansLater { s with prt := { s.prt with blanking := some (src, p) } }
  else
    let s := onlyIf chan (·.clearChannels) s
    let r := s.clearOutcome (pTag p)
    (r.1, some r.2)

/-- TRIP_INk is high on a loop that is in use. -/
def Dev.loopHigh (s : Dev) (k : Nat) : Bool := s.loopOn k && s.prt.pinIn / 2 ^ k % 2 == 1

/-- The level of TRIP_INk is accepted again: a high one sets LLk (R295, R296). -/
def Dev.loopAccept (s : Dev) (k : Nat) : Dev :=
  if !s.loopOn k then s
  else
    let t := s.setB ⟨0x4024, k, k⟩ (s.loopHigh k)
    if s.loopHigh k then (t.setLoop k true).latch (t.stamp 0) [0x1C + k] else t

/-- The end of blanking (R293, step 2, then 3): a high TRIP_INk sets LLk again, a low one clears its latch. Answers the waiting
command with its reply. -/
def Dev.blankEnd (s : Dev) : Dev × Option (Src × Packet × Reply) :=
  match s.prt.blanking with
  | none => (s, none)
  | some (src, p) =>
    let s := (s.set Reg.PRT_STAT_BLANK 0)
    let s := { s with prt := { s.prt with blanking := none } }
    let s := forEach [0, 1] (fun k t =>
      let on := t.isOn (latF (0x1C + k))
      if t.loopHigh k then onlyIf on (·.clearRefused) (t.loopAccept k) else onlyIf on (·.unlatch (0x1C + k)) (t.loopAccept k)) s
    let s := onlyIf (pB p 16 / 2 % 2 == 1) (·.clearChannels) s
    let r := s.clearOutcome (pTag p)
    (r.1, some (src, p, r.2))

/-- A latch that R292 would refuse, other than the loop latches: the test of PREPARE (R296); the lowest such code. -/
def Dev.wouldRefuse (s : Dev) : Option Nat :=
  (s.latched.filter (fun c => c != 0x1C && c != 0x1D)).find? s.mayNotClear

/-! ### Overrun (R61, R62) -/

/-- FRM_OVR keeps the first overrun until OVR_F is written 1. -/
def Dev.ovrNote (s : Dev) (cause frame : Nat) : Dev :=
  if s.get Reg.FRM_OVR_CAUSE = 0 then (s.set Reg.FRM_OVR_CAUSE cause).set Reg.FRM_OVR_FRAME frame else s

/-- An overrun of the given cause: nothing more of the frame is dispatched. The spec states no trigger detail for it (log entry 36). -/
def Dev.overrun (s : Dev) (cause : Nat) : Dev :=
  let s := ((s.ovrNote cause s.frame).raise Reg.FRM_FLAG_OVR_F).logNow 2 1 cause
  let s := { s with frm := { s.frm with overrun := true } }
  let s := s.latch (s.stamp 0) [0x20]
  onlyIf (s.isOn Reg.FRM_CFG_OVRSNP) (fun t => (t.free.2.snapTrigger 2 (t.stamp 0) t.free.1.toNat).2) s

/-- PRT_TRIP_FORCE raises source 0x2D (R286). -/
def bodyTripForce (_src : Src) (_p : Packet) (s : Dev) : Ans := ansOk (s.latch (s.stamp 0) [0x2D])

end Sys2Proof.Machine
end

