-- ==== Sys2Proof/Machine/Cmp.lean ====
section
/-! DEFINITION. The window comparators (R83–R88). An input is given in 1/16 threshold steps. -/

namespace Sys2Proof.Machine

/-- The entry condition of R83; with FUNC 1, POL is ignored. -/
def Dev.cmpEntry (s : Dev) (i : Nat) (v : Int) : Bool :=
  let lo : Int := 16 * s.get (Reg.CMP_CFGi_LO i)
  let hi : Int := 16 * s.get (Reg.CMP_CFGi_HI i)
  if s.isOn (Reg.CMP_CFGi_FUNC i) then decide (hi ≤ v) || decide (v ≤ lo)
  else if s.isOn (Reg.CMP_CFGi_POL i) then decide (v ≤ lo) else decide (hi ≤ v)

/-- The return condition of R83. -/
def Dev.cmpReturn (s : Dev) (i : Nat) (v : Int) : Bool :=
  let lo : Int := 16 * s.get (Reg.CMP_CFGi_LO i)
  let hi : Int := 16 * s.get (Reg.CMP_CFGi_HI i)
  let hys : Int := 16 * s.get (Reg.CMP_CFGi_HYS i)
  if s.isOn (Reg.CMP_CFGi_FUNC i) then decide (lo + hys < v) && decide (v < hi - hys)
  else if s.isOn (Reg.CMP_CFGi_POL i) then decide (hi ≤ v) else decide (v ≤ lo)

/-- Comparator `i` reads TRIPPED. -/
def Dev.cmpTripped (s : Dev) (i : Nat) : Bool := s.isOn ⟨0x18C0, i, i⟩

/-- An EDGE field chooses entries (0), exits (1) or both. -/
def edgeChosen (edge : Nat) (exit : Bool) : Bool := if edge = 0 then !exit else if edge = 1 then exit else true

/-- A wake request (R427): WAKE_F, with VWAKE while it is set, and event 7 of source 20 (R433). -/
def Dev.wakeRequest (s : Dev) : Dev := (s.raise Reg.VLT_FLAG_WAKE_F).vaultLog 7 s.vbat

/-- A transition at the output, stamped there: flags, routes, injection triggers, snapshot (R75, R86, R87, R387). -/
def Dev.cmpEdge (s : Dev) (i : Nat) (exit : Bool) (stamp : Nat) : Dev :=
  let s := s.setB ⟨0x18C0, i, i⟩ (!exit)
  let s := s.raiseBit (if exit then 0x18CC else 0x18C8) i
  let chosen := edgeChosen (s.get (Reg.CMP_ROUTEi_EDGE i)) exit
  let s := if chosen && s.isOn (Reg.CMP_ROUTEi_CAPT i) then
      { s with cmp := { s.cmp with cap := sset (fun _ => none) s.cmp.cap i (some (stamp, exit)) } } else s
  let s := onlyIf (chosen && s.isOn (Reg.CMP_ROUTEi_IRQ i)) (·.event Reg.HIF_EVT_CMP) s
  let s := onlyIf (chosen && s.isOn (Reg.CMP_ROUTEi_WAKE i)) (·.wakeRequest) s
  let s := onlyIf (!exit && s.isOn (Reg.CMP_ROUTEi_TRIP i)) (·.latch stamp [i]) s
  let s := onlyIf (!exit) (·.trigCmp i) s
  onlyIf (s.isOn Reg.SNP_CFG_CMPEN && min 23 (s.get Reg.SNP_CFG_CMPSEL) == i && edgeChosen (s.get Reg.SNP_CFG_CMPEDGE) exit)
    (fun t => (t.snapTrigger 3 stamp i).2) s

/-- A comparator evaluates its input (R83, R84): the entry condition wins, then the return condition; otherwise it holds its state in
the band. -/
def Dev.cmpEval (s : Dev) (i : Nat) (v : Int) (tdc : Nat) : Dev :=
  let e := s.cmpEntry i v
  let r := s.cmpReturn i v
  let s := s.setB ⟨0x18C4, i, i⟩ (!e && !r)
  if e && !s.cmpTripped i then s.cmpEdge i false (s.stamp tdc)
  else if !e && r && s.cmpTripped i then s.cmpEdge i true (s.stamp tdc)
  else s

/-- Comparator `i` is enabled, and waits for no response time. -/
def Dev.cmpLive (s : Dev) (i : Nat) : Bool :=
  decide (i < 24) && s.isOn (Reg.CMP_CFGi_EN i) && s.cmp.powering / 2 ^ i % 2 == 0 && s.cmp.settling / 2 ^ i % 2 == 0

/-- The input of a live comparator has moved, long enough for its mode (R85). -/
def Dev.cmpInput (s : Dev) (i : Nat) (v : Int) (tdc : Nat) : Dev := if s.cmpLive i then s.cmpEval i v tdc else s

/-- A bit taken out of a mask. -/
def clearBit (m i : Nat) : Nat := if m / 2 ^ i % 2 = 1 then m - 2 ^ i else m
/-- A bit put into a mask. -/
def setBit (m i : Nat) : Nat := if m / 2 ^ i % 2 = 1 then m else m + 2 ^ i

/-- The response time after power-up has passed: the first evaluation (R84). -/
def Dev.cmpPowered (s : Dev) (i : Nat) (v : Int) (tdc : Nat) : Dev :=
  if s.cmp.powering / 2 ^ i % 2 = 1 then
    let s := { s with cmp := { s.cmp with powering := clearBit s.cmp.powering i } }
    s.cmpInput i v tdc
  else s

/-- The response time after a settings change has passed (R85). -/
def Dev.cmpSettled (s : Dev) (i : Nat) (v : Int) (tdc : Nat) : Dev :=
  if s.cmp.settling / 2 ^ i % 2 = 1 then
    let s := { s with cmp := { s.cmp with settling := clearBit s.cmp.settling i } }
    s.cmpInput i v tdc
  else s

/-- CMP_CFGi has been written; `old` is its value before (R84, R85). While the comparator holds its state after a change of settings its bit of CMP_BAND
stays as it was, on which R85 is silent (DESIGN CHOICE, log entry 57). -/
def Dev.cmpWritten (s : Dev) (i : Nat) (old : Word) : Dev :=
  let new := s.reg (Reg.CMP_CFGi i)
  let was := bit old 31
  let now := bit new 31
  if now && was then
    if (old ^^^ new) &&& 0x3FCFFFFF#32 != 0#32 then { s with cmp := { s.cmp with settling := setBit s.cmp.settling i } } else s
  else
    let s := (s.setB ⟨0x18C0, i, i⟩ (bit new 30)).setB ⟨0x18C4, i, i⟩ false
    { s with cmp := { s.cmp with powering := if now then setBit s.cmp.powering i else clearBit s.cmp.powering i,
                                 settling := clearBit s.cmp.settling i } }

end Sys2Proof.Machine
end

