-- ==== Sys2Proof/Machine/CirrusLaws.lean ====
section
/-! DEFINITION. The arithmetic of Cirrus with its five flags (R117, R118) and the laws 0x01–0x06 (R121–R125). A product followed by
an addition in the pseudocode is one FMA (DEDUCED, log entry 18). -/

namespace Sys2Proof.Machine

/-- The events of one run (R118). -/
structure CFlags where
  ovf : Bool := false
  nan : Bool := false
  sat : Bool := false
  wind : Bool := false
  held : Bool := false
  deriving DecidableEq, Repr

/-- A computation of Cirrus, with the events of the run. -/
abbrev CM (α : Type) := StateM CFlags α

/-- A value as R117 and R118 let it stand: NaN becomes +0, an infinity the largest number, a subnormal zero. -/
def cchk (w : Word) : CM Word := fun f =>
  if fIsNaN w then (fZero, { f with nan := true })
  else if fIsInf w then ((if fSign w then 0xFF7FFFFF#32 else fMax), { f with ovf := true })
  else if fIsZero w then (fZeroOf (fSign w), f) else (w, f)

def cAdd (a b : Word) : CM Word := cchk (fAdd a b)
def cSub (a b : Word) : CM Word := cchk (fSub a b)
def cMul (a b : Word) : CM Word := cchk (fMul a b)
def cDiv (a b : Word) : CM Word := cchk (fDiv a b)
/-- a × b + c. -/
def cFma (a b c : Word) : CM Word := cchk (fFma a b c)
/-- c − a × b. -/
def cFms (a b c : Word) : CM Word := cchk (fFma (fNeg a) b c)
def cSqrt (a : Word) : CM Word := cchk (fSqrt a)
def cSin (a : Word) : CM Word := cchk (Config.fpSin a)
def cCos (a : Word) : CM Word := cchk (Config.fpCos a)
def cAtan2 (y x : Word) : CM Word := cchk (Config.fpAtan2 y x)

def setSat : CM Unit := fun f => ((), { f with sat := true })
def setWind : CM Unit := fun f => ((), { f with wind := true })
def setHeld : CM Unit := fun f => ((), { f with held := true })

/-- Clamped to limits, with SAT when it lay outside. -/
def cSatClamp (x lo hi : Word) : CM Word := do
  if fLt x lo || fLt hi x then setSat
  pure (fClamp x lo hi)

/-- Clamped to limits, with WIND when it lay outside; a value that lands exactly on a limit is not clamped and sets nothing (DESIGN CHOICE, log
entry 18). -/
def cWindClamp (x lo hi : Word) : CM Word := do
  if fLt x lo || fLt hi x then setWind
  pure (fClamp x lo hi)

/-- The sum of a list, left to right. -/
def cSum : List Word → CM Word
  | l => l.foldlM cAdd fZero

/-! ### Descriptor fields (R111–R113) -/

def imgLaw (b : List Byte) : Nat := byteAt b 0
def imgFlags (b : List Byte) : Nat := byteAt b 1
def imgEn (b : List Byte) : Bool := byteAt b 1 % 2 == 1
def imgErrIn (b : List Byte) : Bool := byteAt b 1 / 2 % 2 == 1
def imgNanTrip (b : List Byte) : Bool := byteAt b 1 / 4 % 2 == 1
def imgNorm (b : List Byte) : Bool := byteAt b 1 / 8 % 2 == 1
def imgDiv (b : List Byte) : Nat := byteAt b 2 + 1
def imgPhase (b : List Byte) : Nat := byteAt b 3
def imgNin (b : List Byte) : Nat := byteAt b 4
def imgNout (b : List Byte) : Nat := byteAt b 5
def imgOrder (b : List Byte) : Nat := byteAt b 6
def imgSpSrc (b : List Byte) : Nat := byteAt b 7 % 16
def imgSpArg (b : List Byte) : Nat := leAt b 8 4
def imgSpA (b : List Byte) : Word := wordAt b 12
def imgSpB (b : List Byte) : Word := wordAt b 16
def imgOMin (b : List Byte) : Word := wordAt b 20
def imgOMax (b : List Byte) : Word := wordAt b 24
def imgIMin (b : List Byte) : Word := wordAt b 28
def imgIMax (b : List Byte) : Word := wordAt b 32
def imgTblMode (b : List Byte) : Nat := byteAt b 36
def imgTblSel (b : List Byte) : Nat := byteAt b 37
def imgSignIn (b : List Byte) : Nat := byteAt b 38
def imgTblOut (b : List Byte) : Nat := byteAt b 39
def imgTblPh (b : List Byte) : Nat := leAt b 40 4
def imgTblGain (b : List Byte) : Word := wordAt b 44
def imgIn (b : List Byte) (k : Nat) : Nat := leAt b (48 + 4 * k) 4
def imgOut (b : List Byte) (k : Nat) : Nat := leAt b (80 + 4 * k) 4
def imgPar (b : List Byte) (j : Nat) : Word := wordAt b (128 + 4 * j)

/-- Class and index of an input selector, destination and index of an output selector. -/
def selClass (v : Nat) : Nat := v / 2 ^ 24 % 16
def selIndex (v : Nat) : Nat := v % 2 ^ 24
def selHold (v : Nat) : Bool := v / 2 ^ 31 % 2 == 1
def selDest (v : Nat) : Nat := v / 2 ^ 28 % 16

/-! ### Anti-windup (R121) -/

/-- The integrator step of R121: the candidate `ic`, the output sum without integrator `rest` (a list added in order), the new
integrator and the clamped output. -/
def antiWindup (i ki_ts e : Word) (b : List Byte) (before after : List Word) : CM (Word × Word) := do
  let cand ← cFma ki_ts e i
  let ic ← cWindClamp cand (imgIMin b) (imgIMax b)
  let uc ← cSum (before ++ [ic] ++ after)
  let hold := (fLt (imgOMax b) uc && fLt i ic) || (fLt uc (imgOMin b) && fLt ic i)
  if hold then setWind
  let i' := if hold then i else ic
  let u0 ← cSum (before ++ [i'] ++ after)
  let u ← cSatClamp u0 (imgOMin b) (imgOMax b)
  pure (i', u)

/-! ### Laws -/

/-- PI and PID (R121). `tbl` is the table value of the output. -/
def lawPid (pid : Bool) (b : List Byte) (c : CtxSt) (ts y e tbl : Word) : CM (CtxSt × List Word) := do
  let p ← cMul (imgPar b 0) e
  let d ← if pid then do
      let n1 ← cMul (imgPar b 3) c.dPrev
      let dy ← cSub y c.yPrev
      let n ← cFms (imgPar b 2) dy n1
      let den ← cAdd (imgPar b 3) ts
      cDiv n den
    else pure fZero
  let kit ← cMul (imgPar b 1) ts
  let r ← antiWindup c.i kit e b [p] (if pid then [d, tbl] else [tbl])
  pure ({ c with i := r.1, dPrev := d, yPrev := y }, [r.2])

/-- One resonant term of PR (R122), its three parameter words from PAR`k` on. -/
def prTerm (b : List Byte) (ts f e : Word) (k : Nat) (x : Word × Word) : CM (Word × Word) := do
  let kr := imgPar b k
  let wc := imgPar b (k + 2)
  let w0 ← cMul f2Pi (imgPar b (k + 1))
  let w1 ← cMul w0 (fAbs f)
  let lim ← cDiv fOne ts
  if fLt lim w1 then setSat
  let w := fMin w1 lim
  let d ← cFma kr e (fNeg x.1)
  let wc2 ← cMul fTwo wc
  let t1 ← cMul wc2 d
  let t2 ← cFms w x.2 t1
  let x1 ← cFma ts t2 x.1
  let tw ← cMul ts w
  let x2 ← cFma tw x1 x.2
  pure (x1, x2)

/-- The terms in order. -/
def prTerms (b : List Byte) (ts f e : Word) : Nat → List (Word × Word) → CM (List (Word × Word))
  | _, [] => pure []
  | k, x :: t => do
    let x' ← prTerm b ts f e k x
    let t' ← prTerms b ts f e (k + 3) t
    pure (x' :: t')

/-- PR (R122). -/
def lawPr (b : List Byte) (c : CtxSt) (ts f e tbl : Word) : CM (CtxSt × List Word) := do
  let n := imgOrder b
  let xs ← prTerms b ts f e 1 (c.xs.take n)
  let p ← cMul (imgPar b 0) e
  let u ← cSum ([p] ++ xs.map (·.1) ++ [tbl])
  let u ← cSatClamp u (imgOMin b) (imgOMax b)
  pure ({ c with xs := xs ++ c.xs.drop n }, [u])

/-- The sections of BIQUAD in series (R123). -/
def bqSections (b : List Byte) : Nat → Word → List (Word × Word) → CM (Word × List (Word × Word))
  | _, x, [] => pure (x, [])
  | j, x, s :: t => do
    let out ← cFma (imgPar b (5 * j)) x s.1
    let a ← cMul (imgPar b (5 * j + 1)) x
    let a ← cFms (imgPar b (5 * j + 3)) out a
    let a ← cAdd a s.2
    let s1 ← cWindClamp a (imgIMin b) (imgIMax b)
    let c ← cMul (imgPar b (5 * j + 2)) x
    let c ← cFms (imgPar b (5 * j + 4)) out c
    let s2 ← cWindClamp c (imgIMin b) (imgIMax b)
    let r ← bqSections b (j + 1) out t
    pure (r.1, (s1, s2) :: r.2)

/-- BIQUAD (R123). -/
def lawBiquad (b : List Byte) (c : CtxSt) (in0 e tbl : Word) : CM (CtxSt × List Word) := do
  let n := imgOrder b
  let r ← bqSections b 0 (if imgErrIn b then e else in0) (c.xs.take n)
  let u ← cAdd r.1 tbl
  let u ← cSatClamp u (imgOMin b) (imgOMax b)
  pure ({ c with xs := r.2 ++ c.xs.drop n }, [u])

/-- N r − Σ K_i x_i. -/
def stateSum (b : List Byte) : Nat → Word → List Word → CM Word
  | _, acc, [] => pure acc
  | i, acc, x :: t => do
    let a ← cFms (imgPar b i) x acc
    stateSum b (i + 1) a t

/-- STATEFB (R124). PAR9 of 0 disables the integral: it is 0 and has no part in the sum. -/
def lawStateFb (b : List Byte) (c : CtxSt) (ts r : Word) (ins : List Word) (tbl : Word) : CM (CtxSt × List Word) := do
  let e ← cSub r (ins.getD 0 0)
  let nr ← cMul (imgPar b 8) r
  let base ← stateSum b 0 nr (ins.take (imgOrder b))
  if fIsZero (imgPar b 9) then do
    let u0 ← cAdd base tbl
    let u ← cSatClamp u0 (imgOMin b) (imgOMax b)
    pure ({ c with i := fZero }, [u])
  else do
    let kit ← cMul (imgPar b 9) ts
    let res ← antiWindup c.i kit e b [base] [tbl]
    pure ({ c with i := res.1 }, [res.2])

/-- round(f × ts × 2^32) modulo 2^32 (R125). -/
def pllStep (f ts : Word) : CM Nat := do
  let x ← cMul f ts
  pure (toBits 32 (fRoundInt x 32))

/-- An angle in FP32 radians, in [0, 2π) (R112, class 3): one that would round up to 2π gives the number below it. -/
def angleRad (a : Nat) : Word :=
  let w := fMul (fOfInt a (-32)) f2Pi
  if fLe f2Pi w then 0x40C90FDA#32 else w

/-- SRFPLL (R125): outputs θ, f, vd, vq; `inj` is an injection on f, added before its clamp. -/
def lawPll (b : List Byte) (c : CtxSt) (ts va vb vc inj : Word) : CM (CtxSt × List Word) := do
  let a0 ← cMul fTwo va
  let a1 ← cSub a0 vb
  let a2 ← cSub a1 vc
  let alpha ← cDiv a2 fThree
  let b0 ← cSub vb vc
  let beta ← cDiv b0 fSqrt3
  let adv ← pllStep c.fPrev ts
  let thp := angleRad ((c.theta + adv) % 2 ^ 32)
  let sn ← cSin thp
  let cs ← cCos thp
  let d0 ← cMul alpha sn
  let vd ← cFms beta cs d0
  let q0 ← cMul alpha cs
  let vq ← cFma beta sn q0
  let vq ← if imgNorm b then cDiv vq (fMaxOf vd (imgPar b 3)) else pure vq
  let p ← cMul (imgPar b 0) vq
  let kit ← cMul (imgPar b 1) ts
  let r ← antiWindup c.i kit vq b [imgPar b 2, p] [inj]
  let f := r.2
  let adv2 ← pllStep f ts
  let th := (c.theta + adv2) % 2 ^ 32
  pure ({ c with i := r.1, theta := th, fPrev := f }, [angleRad th, f, vd, vq])

end Sys2Proof.Machine
end

