-- ==== Sys2Proof/Machine/Cells.lean ====
section
/-! DEFINITION. The cell sweep: failures, swaps, weights, shares, zero sequence, aggregates; per-cell MPPT and the I–V sweep
(R142–R169). Conventions the spec leaves open are in log entry 19. -/

namespace Sys2Proof.Machine

/-! ### Access -/

def Dev.setCells (s : Dev) (c : CellsSt) : Dev := { s with cells := c }

/-- The running state of the cell at a position. -/
def Dev.cell (s : Dev) (pos : Nat) : CellSt := sget (fun _ => {}) s.cells.cells pos

def Dev.setCell (s : Dev) (pos : Nat) (c : CellSt) : Dev :=
  s.setCells { s.cells with cells := sset (fun _ => {}) s.cells.cells pos c }

/-- The record of a configured cell. -/
def Dev.cellRec (s : Dev) (pos : Nat) : Option CellRec := s.cells.recs.find? (·.pos == pos)

/-- MODE of the map header: 0 CHB, 1 MMC (R142). -/
def Dev.mmc (s : Dev) : Bool := byteAt s.cells.map 0 == 1

/-- The number of the present frame, unwrapped (R115): the last tick is N × P. -/
def Dev.curN (s : Dev) : Nat := s.frm.tickNo - 1

/-- The stamp of the last tick. -/
def Dev.tickStamp (s : Dev) : Nat := s.curN * s.frameTU

/-- The loaded CELLSWEEP context, if any (R126). -/
def Dev.sweepImg (s : Dev) : Option (List Byte) :=
  (s.ce.ctxs.find? (fun x => !x.2.img.isEmpty && imgLaw x.2.img == 0x07)).map (·.2.img)

/-- The states in which a cell has a share (R145): ACTIVE, CURTAILED, SWEEPING. -/
def sharing (st : Nat) : Bool := st == 2 || st == 3 || st == 4

/-! ### The parameter words (R148) -/

def pMMAX (b : List Byte) : Word := imgPar b 0
def pKPV (b : List Byte) : Word := imgPar b 1
def pKIV (b : List Byte) : Word := imgPar b 2
def pVDCMAX (b : List Byte) : Word := imgPar b 3
def pVDCTRIP (b : List Byte) : Word := imgPar b 4
def pTMAX (b : List Byte) : Word := imgPar b 5
def pLEAKMAX (b : List Byte) : Word := imgPar b 6
def pV0MAX (b : List Byte) : Word := imgPar b 7
def pSMIN (b : List Byte) : Word := imgPar b 8
def pDV (b : List Byte) : Word := imgPar b 9
def pEPSG (b : List Byte) : Word := imgPar b 10
def pVMINR (b : List Byte) : Word := imgPar b 11
def pVSTARTR (b : List Byte) : Word := imgPar b 12
def pPCMAX (b : List Byte) : Word := imgPar b 13
def pIZMIN (b : List Byte) : Word := imgPar b 14
def pSOCK (b : List Byte) : Word := imgPar b 15
def pSOCMIN (b : List Byte) : Word := imgPar b 16
def pSOCMAX (b : List Byte) : Word := imgPar b 17
def pKBAL (b : List Byte) : Word := imgPar b 18

/-- A voltage reference limited as every MPPT step limits it (R154). -/
def vrefLimit (b : List Byte) (r : CellRec) (v : Word) : Word := fClamp v (fMul (pVMINR b) r.vnom) (pVDCMAX b)

/-! ### One cell during a run -/

/-- A cell as the run works on it. -/
structure SweepCell where
  r : CellRec
  c : CellSt
  t : CellTel
  /-- It has taken part in a swap of this run (R166). -/
  swapped : Bool := false
  /-- A failure replacement, which keeps the failed cell's weight and share for the run (R165). -/
  repl : Bool := false
  /-- Pass-1 share and cap of the run (R151). -/
  share1 : Word := fZero
  cap : Word := fInf
  deriving DecidableEq, Repr

/-- The state of a cell changes, with the stamp of the run. -/
def CellSt.to (c : CellSt) (stamp st : Nat) : CellSt := { c with state := st, since := stamp }

/-- The start conditions of R155 as a cell becomes ACTIVE: reference VSTARTR × v_src unless it is fixed, direction toward lower
voltage, p_prev 0, integ 0 (R150). -/
def CellSt.activate (c : CellSt) (b : List Byte) (t : CellTel) (stamp : Nat) : CellSt :=
  { c with state := 2, since := stamp, integ := fZero, up := false, pPrev := fZero, vPrev := fZero, iPrev := fZero,
           sumV := fZero, sumI := fZero, num := 0, due := false, curtMax := false,
           vref := if c.fixed then c.vref else fMul (pVSTARTR b) t.vsrc }

/-- The state a cell has at the first run after CONFIG (R145, R155, R161). -/
def CellRec.firstState (r : CellRec) (b : List Byte) (t : CellTel) (c : CellSt) (stamp : Nat) : CellSt :=
  if r.stby then { c with state := 1, since := stamp } else c.activate b t stamp

/-- The failure cause of a cell, 0 for none (R164). -/
def failCause (b : List Byte) (t : CellTel) (host : Bool) : Nat :=
  if [1, 2, 3, 5].contains (t.ep9 / 4096 % 16) then 1
  else if t.ep7 % 32 ≠ 0 then 2
  else if fLt (pVDCTRIP b) t.vdc then 3
  else if fLt (pTMAX b) t.temp then 4
  else if fLt (pLEAKMAX b) t.leak then 5
  else if 3 ≤ t.missed then 6
  else if host then 7 else 0

/-- A cell checked: failed into BYPASSED with its cause, share and weight 0. Its share before stays in `share1`, for the cell that
replaces it. Answers the cause. -/
def SweepCell.check (b : List Byte) (host : List Nat) (stamp : Nat) (x : SweepCell) : Nat × SweepCell :=
  if x.c.state = 5 ∨ x.c.state = 0 then (0, x)
  else
    let k := failCause b x.t (host.contains x.r.pos)
    if k = 0 then (0, x)
    else (k, { x with c := { (x.c.to stamp 5) with cause := k, curtMax := false, capped := false, rc := fZero } })

/-- The STANDBY cell of a group that has not been swapped and has stood by longest, on a tie the lower position (R166). -/
def longest (st : Nat) (g : Nat) (ok : SweepCell → Bool) (l : List SweepCell) : Option SweepCell :=
  l.foldl (fun best x =>
    if x.c.state == st && x.r.group == g && !x.swapped && ok x then
      match best with
      | none => some x
      | some y => if x.c.since < y.c.since then some x else best
    else best) none

/-- The cell at a position replaced by `f` of it. -/
def updCell (pos : Nat) (f : SweepCell → SweepCell) (l : List SweepCell) : List SweepCell :=
  l.map (fun x => if x.r.pos = pos then f x else x)

/-- A cell of a swap that enters ACTIVE under R155. -/
def SweepCell.enterActive (b : List Byte) (stamp : Nat) (x : SweepCell) : SweepCell :=
  { x with c := x.c.activate b x.t stamp, swapped := true }

/-- A cell of a swap that enters STANDBY: its share and its r_c are 0 (R145, R152). -/
def SweepCell.enterStandby (stamp : Nat) (x : SweepCell) : SweepCell :=
  { x with c := { (x.c.to stamp 1) with curtMax := false, capped := false, due := false, alpha := fZero, w := fZero, rc := fZero }, swapped := true }

/-- A failure replacement (R165): the failed cell's weight and share, the reference its own v_dc. -/
def replaceFailed (b : List Byte) (stamp : Nat) (acc : List SweepCell × List (Nat × Nat)) (f : SweepCell) :
    List SweepCell × List (Nat × Nat) :=
  match longest 1 f.r.group (fun _ => true) acc.1 with
  | none => acc
  | some n =>
    (updCell n.r.pos (fun x =>
      let y := x.enterActive b stamp
      { y with repl := true, c := { y.c with w := f.c.w, alpha := f.c.alpha, vref := if y.c.fixed then y.c.vref else x.t.vdc } })
      (updCell f.r.pos (fun x => { x with swapped := true }) acc.1), acc.2 ++ [(f.r.pos, n.r.pos)])

/-- Bootstrap rotation requests of R166 in the order sent: served while fewer than 4 of the group are, refused without a free STANDBY
cell. A request for a cell that has no share any more is dropped. Carries the swaps, the refused, and the served groups. -/
def serveRequest (b : List Byte) (stamp : Nat) (acc : List SweepCell × List (Nat × Nat) × List Nat × List Nat) (pos : Nat) :
    List SweepCell × List (Nat × Nat) × List Nat × List Nat :=
  match acc.1.find? (fun x => x.r.pos == pos && sharing x.c.state) with
  | none => acc
  | some o =>
    let refuse := (acc.1, acc.2.1, acc.2.2.1 ++ [pos], acc.2.2.2)
    if o.swapped || decide (4 ≤ (acc.2.2.2.filter (· == o.r.group)).length) then refuse
    else
      match longest 1 o.r.group (fun _ => true) acc.1 with
      | none => refuse
      | some n =>
        (updCell n.r.pos (·.enterActive b stamp) (updCell pos (·.enterStandby stamp) acc.1),
         acc.2.1 ++ [(pos, n.r.pos)], acc.2.2.1, acc.2.2.2 ++ [o.r.group])

/-- The scheduled rotation of one group (R167): a cell with a fixed reference is no candidate on either side. Answers whether it stays due because its cells are already in a swap. -/
def rotateGroup (b : List Byte) (stamp g : Nat) (l : List SweepCell) (sw : List (Nat × Nat)) :
    Bool × List SweepCell × List (Nat × Nat) :=
  let free := fun (x : SweepCell) => !x.c.fixed
  match longest 1 g free l, longest 2 g free l with
  | some n, some o =>
    (false, updCell n.r.pos (·.enterActive b stamp) (updCell o.r.pos (·.enterStandby stamp) l), sw ++ [(o.r.pos, n.r.pos)])
  | _, _ =>
    let all := l.map (fun x => { x with swapped := false })
    ((longest 1 g free all).isSome && (longest 2 g free all).isSome, l, sw)

/-! ### Weights (R150, R161, R163) -/

/-- The weight of a PV cell. -/
def pvWeight (b : List Byte) (ts : Word) (x : SweepCell) : CM SweepCell := do
  let e ← cSub x.t.vdc x.c.vref
  let kt ← cMul (pKIV b) ts
  let i0 ← cFma kt e x.c.integ
  let integ := fClamp i0 (fNeg (pPCMAX b)) (pPCMAX b)
  let p ← cMul x.t.vsrc x.t.isrc
  let q ← cFma (pKPV b) e p
  let w ← cAdd q integ
  pure { x with c := { x.c with integ := integ, w := fClamp w fZero (pPCMAX b) } }

/-- The state of charge of a battery cell after a run (R161). -/
def socStep (ts : Word) (x : SweepCell) : CM SweepCell := do
  let q ← cMul x.t.isrc ts
  let d ← cDiv q x.r.qcap
  let v ← cSub x.c.soc d
  pure { x with c := { x.c with soc := fClamp v fZero fOne } }

/-- The weight of a battery cell; `up` says σ = +1, `mean` is the station's mean state of charge of the group. -/
def batWeight (b : List Byte) (up : Bool) (mean : Word) (x : SweepCell) : CM SweepCell := do
  let d ← cSub x.c.soc mean
  let k ← cMul (pSOCK b) (if up then fOne else fNeg fOne)
  let f ← cFma k d fOne
  let w ← cMul x.r.prate (fMaxOf fZero f)
  let cut := if up then fLe x.c.soc (pSOCMIN b) else fLe (pSOCMAX b) x.c.soc
  pure { x with c := { x.c with w := if cut then fZero else w } }

/-- The weight of an MMC cell; `mean` is v̄_g. -/
def mmcWeight (b : List Byte) (mean : Word) (x : SweepCell) : CM SweepCell := do
  let d ← cSub x.t.vdc mean
  let k := if fIsZero x.t.isrc then fZero else if fSign x.t.isrc then fNeg (pKBAL b) else pKBAL b
  let n ← cMul k d
  let q ← cDiv n mean
  let w ← cSub fOne q
  pure { x with c := { x.c with w := fMaxOf fZero w } }

/-- The weights of a run; a failure replacement keeps the failed cell's. -/
def weigh (b : List Byte) (mmc : Bool) (ts in4 : Word) (sum : Nat → Word) (x : SweepCell) : CM SweepCell := do
  let x ← if x.r.source = 2 then socStep ts x else pure x
  if !sharing x.c.state || x.repl then pure x
  else if mmc then do
    let n ← cMul (pMMAX b) (sum (12 + x.r.group))
    let mean ← cDiv (sum (30 + x.r.group)) n
    mmcWeight b mean x
  else if x.r.source = 2 then do
    let mean ← cDiv (sum (36 + x.r.group)) (sum (42 + x.r.group))
    batWeight b (!fLt in4 fZero) mean x
  else pvWeight b ts x

/-! ### Zero sequence (R159, R162) -/

/-- V0, φ0, k and P_lim from the three d_g and the mean. -/
def zeroFrom (b : List Byte) (in1 pm d0 d1 d2 : Word) : CM (Word × Word × Word × Word) := do
  let b0 ← cSub d1 d2
  let dpb ← cDiv b0 fSqrt3
  let a2 ← cMul d0 d0
  let m2 ← cFma dpb dpb a2
  let dmag ← cSqrt m2
  let r ← if fLt in1 (pIZMIN b) || fIsZero dmag then pure (fZero, fZero, if fIsZero dmag then fOne else fZero)
    else do
      let n ← cMul fTwo dmag
      let req ← cDiv n in1
      let phi ← cAtan2 (fNeg dpb) d0
      let v0 := fMin req (pV0MAX b)
      let k ← cDiv v0 req
      pure (v0, phi, k)
  let q ← cSub fOne r.2.2
  let m := fMin (fMin d0 d1) d2
  let t ← cFma q m pm
  let pl ← cMul fThree t
  pure (r.1, r.2.1, r.2.2, pl)

/-- The zero sequence of a run; in MMC mode V0, φ0 and k are 0 and P_lim is `free` (R163 states none). -/
def zeroSeq (b : List Byte) (mmc storage : Bool) (in1 in4 free : Word) (sum : Nat → Word) : CM (Word × Word × Word × Word) := do
  if mmc then pure (fZero, fZero, fZero, free)
  else if storage then do
    let m0 ← cDiv (sum 36) (sum 42)
    let m1 ← cDiv (sum 37) (sum 43)
    let m2 ← cDiv (sum 38) (sum 44)
    let e ← cSum [sum 36, sum 37, sum 38]
    let q ← cSum [sum 42, sum 43, sum 44]
    let m ← cDiv e q
    let t ← cDiv in4 fThree
    let t ← cMul t (pSOCK b)
    let t ← cMul t (if fLt in4 fZero then fNeg fOne else fOne)
    let e0 ← cSub m0 m
    let e1 ← cSub m1 m
    let e2 ← cSub m2 m
    let d0 ← cMul t e0
    let d1 ← cMul t e1
    let d2 ← cMul t e2
    let r ← zeroFrom b in1 fZero d0 d1 d2
    pure (r.1, r.2.1, r.2.2.1, fMax)
  else do
    let t ← cSum [sum 6, sum 7, sum 8]
    let pm ← cDiv t fThree
    let d0 ← cSub (sum 6) pm
    let d1 ← cSub (sum 7) pm
    let d2 ← cSub (sum 8) pm
    zeroFrom b in1 pm d0 d1 d2

/-! ### Shares (R151, R152) -/

/-- The first share of a cell and its cap. -/
def firstShare (b : List Byte) (pv : Bool) (s cg vpk : Word) (x : SweepCell) : CM SweepCell := do
  let bad := !(fLt fZero s)
  let a ← if pv && (bad || fLt s (pSMIN b)) then do
      let n ← cMul (pMMAX b) x.t.vdc
      cDiv n cg
    else if bad then pure fZero else cDiv x.c.w s
  let cap ← if fLt fZero vpk then do
      let n ← cMul (pMMAX b) x.t.vdc
      cDiv n vpk
    else pure fInf
  pure { x with share1 := a, cap := cap, c := { x.c with alpha := a, capped := false } }

/-- A share limited to its cap; answers the excess. -/
def capShare (x : SweepCell) (acc : Word) : CM (Word × SweepCell) := do
  if fLt x.cap x.c.alpha then do
    setSat
    let d ← cSub x.c.alpha x.cap
    let acc ← cAdd acc d
    pure (acc, { x with c := { x.c with alpha := x.cap, capped := true } })
  else pure (acc, x)

/-- `f` on the cells that satisfy `p`, carrying an accumulator through the list in order. -/
def sweepFold {α : Type} (p : SweepCell → Bool) (f : SweepCell → α → CM (α × SweepCell)) :
    List SweepCell → α → CM (α × List SweepCell)
  | [], a => pure (a, [])
  | x :: t, a => do
    let r ← if p x then f x a else pure (a, x)
    let t' ← sweepFold p f t r.1
    pure (t'.1, r.2 :: t'.2)

/-- The shares of one group; answers the unplaced share. -/
def groupShares (b : List Byte) (g : Nat) (pv : Bool) (vpk : Word) (sum : Nat → Word) (l : List SweepCell) :
    CM (Word × List SweepCell) := do
  let mem := fun (x : SweepCell) => x.r.group == g && sharing x.c.state && !x.repl
  let r ← sweepFold mem (fun x (a : Unit) => do
    let y ← firstShare b pv (sum g) (sum (30 + g)) vpk x
    pure (a, y)) l ()
  let r1 ← sweepFold mem capShare r.2 fZero
  let excess := r1.1
  let open_ := fun (x : SweepCell) => mem x && !x.c.capped
  let free ← cSum ((r1.2.filter open_).map (·.c.alpha))
  if fIsZero free then pure (excess, r1.2)
  else do
    let r2 ← sweepFold open_ (fun x (a : Unit) => do
      let n ← cMul excess x.c.alpha
      let d ← cDiv n free
      let v ← cAdd x.c.alpha d
      pure (a, { x with c := { x.c with alpha := v } })) r1.2 ()
    sweepFold open_ capShare r2.2 fZero

/-- r_c of a cell (R152); the share of a cell that cannot be placed joins the unplaced share. -/
def reference (x : SweepCell) (acc : Word) : CM (Word × SweepCell) := do
  if fLt fZero x.c.alpha && fLt fOne x.t.vdc then do
    let rc ← cDiv x.c.alpha x.t.vdc
    pure (acc, { x with c := { x.c with rc := rc } })
  else do
    let acc ← cAdd acc x.c.alpha
    pure (acc, { x with c := { x.c with rc := fZero } })

/-- The shares of groups 0 to `n − 1`, with their unplaced shares. -/
def allShares (b : List Byte) (v0 in3 : Word) (mmc : Bool) (sum : Nat → Word) :
    List Nat → List SweepCell → CM (List Word × List SweepCell)
  | [], l => pure ([], l)
  | g :: t, l => do
    let vpk ← cAdd in3 v0
    let pv := !mmc && l.any (fun x => x.r.group == g && x.r.source == 1)
    let r ← groupShares b g pv vpk sum l
    let r2 ← sweepFold (fun x => x.r.group == g && sharing x.c.state) reference r.2 r.1
    let rest ← allShares b v0 in3 mmc sum t r2.2
    pure (r2.1 :: rest.1, rest.2)

/-! ### After the shares: CURTAILED (R153) -/

/-- The state of a PV cell after the shares; answers whether its CURTMAX flag sets now. A capped cell that was SWEEPING ends its sweep, with the
reference it had before (`iv` is the sweep). A share below 0.98 × cap in pass 1 ends CURTAILED unless pass 2 capped the cell again. -/
def curtail (b : List Byte) (stamp : Nat) (iv : IvSt) (x : SweepCell) : Bool × SweepCell :=
  if x.r.source ≠ 1 || x.repl then (false, x)
  else
    let hold := fun (c : CellSt) =>
      let v := fMin (fMaxOf c.vref x.t.vdc) (pVDCMAX b)
      let hit := fLe (pVDCMAX b) x.t.vdc
      (hit && !c.curtMax, { x with c := { c with vref := v, curtMax := c.curtMax || hit, due := false } })
    let before := ((iv.cells.find? (·.pos == x.r.pos)).map (·.saved)).getD x.c.vref
    if x.c.state = 2 && x.c.capped then hold (x.c.to stamp 3)
    else if x.c.state = 4 && x.c.capped then hold { (x.c.to stamp 3) with vref := before }
    else if x.c.state = 3 then
      if !x.c.capped && fLt x.share1 (fMul 0x3F7AE148#32 x.cap) then
        (false, { x with c := { (x.c.to stamp 2) with vref := x.t.vdc, up := false, curtMax := false } })
      else hold x.c
    else (false, x)

/-- Fresh samples add to the means of the next MPPT step (R154), and the step of an ACTIVE cell falls due in its frames. -/
def sample (dueNow : Bool) (x : SweepCell) : SweepCell :=
  if x.r.source = 1 && sharing x.c.state then
    let c := if x.t.fresh then
        { x.c with sumV := fAdd x.c.sumV x.t.vsrc, sumI := fAdd x.c.sumI x.t.isrc, num := x.c.num + 1 } else x.c
    { x with c := { c with due := c.due || (dueNow && !c.fixed && c.state == 2) } }
  else x

/-! ### Aggregates (R149) -/

/-- The sum over the cells of a group that satisfy `p`. -/
def aggSum (l : List SweepCell) (g : Nat) (p : SweepCell → Bool) (v : SweepCell → Word) : Word :=
  fSum ((l.filter (fun x => x.r.group == g && p x)).map v)

/-- A count over the cells of a group. -/
def aggCount (l : List SweepCell) (g : Nat) (p : SweepCell → Bool) : Word :=
  fOfNat (l.filter (fun x => x.r.group == g && p x)).length

def SweepCell.shares (x : SweepCell) : Bool := sharing x.c.state
/-- Configured and not BYPASSED. -/
def SweepCell.inCircuit (x : SweepCell) : Bool := x.c.state != 5 && x.c.state != 0
/-- Measured source power. -/
def SweepCell.power (x : SweepCell) : Word := fMul x.t.vsrc x.t.isrc

/-- Available source power of a cell. -/
def SweepCell.available (x : SweepCell) : Word :=
  if x.r.source = 2 then x.r.prate
  else if x.r.source = 1 then (if x.c.state = 3 then x.c.pMpp else x.power) else fZero

/-- One aggregate of index 6 × k + g. -/
def aggregate (b : List Byte) (mmc : Bool) (l : List SweepCell) (unplaced : List Word) (k g : Nat) : Word :=
  match k with
  | 0 => aggSum l g (·.shares) (·.c.w)
  | 1 => aggSum l g (·.shares) (·.available)
  | 2 => aggCount l g (·.shares)
  | 3 => aggCount l g (·.c.state == 1)
  | 4 => if mmc then aggSum l g (·.inCircuit) (fun x => fMul (fMul fHalf x.r.qcap) (fMul x.t.vdc x.t.vdc)) else fZero
  | 5 => aggSum l g (·.shares) (fun x => fMul (pMMAX b) x.t.vdc)
  | 6 => aggSum l g (fun x => x.inCircuit && x.r.source == 2) (fun x => fMul x.c.soc x.r.qcap)
  | 7 => aggSum l g (fun x => x.inCircuit && x.r.source == 2) (·.r.qcap)
  | 8 => aggSum l g (·.c.state == 3) (fun x => fSub x.available x.power)
  | _ => unplaced.getD g fZero

/-! ### The run -/

/-- The cells as a run finds them. -/
def Dev.sweepCells (s : Dev) : List SweepCell :=
  s.cells.recs.map (fun r => { r := r, c := s.cell r.pos, t := sget (fun _ => {}) s.cells.tel r.pos })

/-- The working cells put back. -/
def Dev.putCells (s : Dev) (l : List SweepCell) : Dev :=
  s.setCells { s.cells with cells := l.foldl (fun a x => sset (fun _ => {}) a x.r.pos x.c) s.cells.cells }

/-- A cell that left SWEEPING early takes its reference back (R158); one that is now CURTAILED has done so. -/
def restoreSwept (iv : IvSt) (x : SweepCell) : SweepCell :=
  match iv.cells.find? (·.pos == x.r.pos) with
  | some v => if x.c.state = 4 ∨ x.c.state = 3 then x else { x with c := { x.c with vref := if x.repl then x.c.vref else v.saved } }
  | none => x

/-- Failures, replacements, requests and rotation of a run, in the order of R166. -/
structure PlanOut where
  cells : List SweepCell
  swaps : List (Nat × Nat)
  refused : List Nat
  /-- Groups whose rotation stays due. -/
  rot : Nat
  /-- Failures: position and cause. -/
  failed : List (Nat × Nat)
  deriving DecidableEq, Repr

/-- The plan of a run. -/
def plan (b : List Byte) (stamp : Nat) (host req : List Nat) (rotDue : Nat) (l : List SweepCell) : PlanOut :=
  let chk := l.map (fun x => (x, x.check b host stamp))
  let failed := (chk.filter (fun x => x.2.1 != 0)).map (fun x => (x.1.r.pos, x.2.1))
  let l1 := chk.map (fun x => x.2.2)
  let lost := (chk.filter (fun x => x.2.1 != 0 && sharing x.1.c.state)).map (·.1)
  let r := lost.foldl (replaceFailed b stamp) (l1, [])
  let l2 := r.1.map (fun x => if x.c.state = 5 then { x with c := { x.c with alpha := fZero, w := fZero } } else x)
  let q := req.foldl (serveRequest b stamp) (l2, r.2, [], [])
  let rot := (List.range 6).foldl (fun (a : Nat × List SweepCell × List (Nat × Nat)) g =>
    if rotDue / 2 ^ g % 2 = 1 then
      let x := rotateGroup b stamp g a.2.1 a.2.2
      (if x.1 then a.1 + 2 ^ g else a.1, x.2)
    else a) (0, q.1, q.2.1)
  { cells := rot.2.1, swaps := rot.2.2, refused := q.2.2.1, rot := rot.1, failed := failed }

/-- The arithmetic of a run: weights, zero sequence, shares. -/
def sweepCalc (b : List Byte) (mmc storage : Bool) (ts free : Word) (ins : List Word) (sum : Nat → Word) (l : List SweepCell) :
    CM (List SweepCell × List Word × (Word × Word × Word × Word)) := do
  let in1 := ins.getD 1 0
  let in3 := ins.getD 3 0
  let in4 := ins.getD 4 0
  let w ← sweepFold (fun _ => true) (fun x (a : Unit) => do
    let y ← weigh b mmc ts in4 sum x
    pure (a, y)) l ()
  let z ← zeroSeq b mmc storage in1 in4 free sum
  let r ← allShares b z.1 in3 mmc sum (List.range 6) w.2
  pure (r.2, r.1, z)

/-- The 64 aggregates. -/
def aggregates (b : List Byte) (mmc : Bool) (l : List SweepCell) (unplaced : List Word) (z : Word × Word × Word × Word) : List Word :=
  (List.range 60).map (fun a => aggregate b mmc l unplaced (a / 6) (a % 6)) ++ [z.1, z.2.1, z.2.2.1, z.2.2.2]

/-- Every swept cell leaves SWEEPING with the reference it had before (R158). -/
def Dev.ivAbort (s : Dev) : Dev :=
  let s := forEach s.cells.iv.cells (fun v t =>
    let c := t.cell v.pos
    t.setCell v.pos { (if c.state = 4 then c.to t.tickStamp 2 else c) with vref := v.saved }) s
  s.setCells { s.cells with iv := {} }

/-- A log record naming a cell of this chip. -/
def Dev.logCell (s : Dev) (src code pos data : Nat) : Dev := s.logAt (s.stamp 0) src code (s.cellWord pos) data

/-- A run of the cell sweep: `ins` its inputs, `sum` the station sums S_a. The first run after CONFIG sets every cell's state (R145).
The cell-redundancy source 0x26 follows the active counts (R165). -/
def Dev.sweepRun (s : Dev) (b : List Byte) (ins : List Word) (ts : Word) (sum : Nat → Word) : Dev × CFlags :=
  let stamp := s.tickStamp
  let s := if s.st = stRUN then s else onlyIf s.cells.iv.running (·.ivAbort) s
  -- the rotation requests of the frame before are sent (R183)
  let s := onlyIf (!s.cells.bsReq.isEmpty) (·.count Reg.MOD_CNT1_BSROT_CNT s.cells.bsReq.length) s
  let fr := if s.mmc then s.free else (fZero, s)
  let s := fr.2
  let l0 := s.sweepCells
  let l0 := if s.cells.first then
      l0.map (fun x => { x with c := x.r.firstState b x.t x.c stamp }) else l0
  let p := plan b stamp s.cells.hostByp s.cells.bsReq s.cells.rotDue l0
  let storage := !s.mmc && p.cells.any (fun x => x.r.source == 2) && !p.cells.any (fun x => x.r.source == 1)
  let r := (sweepCalc b s.mmc storage ts fr.1 ins sum p.cells).run {}
  let m := byteAt s.cells.map 1 + 1
  let dueNow := s.st == stRUN && s.curN % m == byteAt s.cells.map 2
  let cs := r.1.1.map (curtail b stamp s.cells.iv)
  let hit := (cs.filter (·.1)).map (fun x => x.2.r.pos)
  let l := (cs.map (·.2)).map (fun x => sample dueNow (restoreSwept s.cells.iv x))
  let agg := aggregates b s.mmc l r.1.2.1 r.1.2.2
  let s := s.putCells l
  let iv := { s.cells.iv with cells := s.cells.iv.cells.filter (fun v => l.any (fun x => x.r.pos == v.pos && x.c.state == 4)) }
  let s := s.setCells { s.cells with agg := agg, first := false, bsReq := [], bsRefused := p.refused, rotDue := p.rot, hostByp := [],
                                     swaps := p.swaps, iv := iv, runStamp := stamp, runFrame := s.frame }
  let s := forEach p.failed (fun f t => t.logCell 17 1 f.1 f.2) s
  let s := forEach hit (fun pos t => t.logCell 17 2 pos 0) s
  let low := (List.range 6).any (fun g =>
    l.any (fun x => x.r.group == g) && decide ((l.filter (fun x => x.r.group == g && sharing x.c.state)).length < leAt s.cells.map (4 + 2 * g) 2))
  let s := s.setCells { s.cells with runCells := s.cells.cells, runSkipped := s.cells.skipped }
  ({ s with prt := { s.prt with redCell := low } }, r.2)

/-! ### MPPT (R154, R155) -/

/-- A perturb-and-observe step on the means v and i. -/
def poStep (b : List Byte) (r : CellRec) (v i : Word) (c : CellSt) : CellSt :=
  let p := fMul v i
  let up := if fLt p c.pPrev then !c.up else c.up
  let d := if up then pDV b else fNeg (pDV b)
  { c with up := up, vref := vrefLimit b r (fAdd c.vref d), pPrev := p, pMpp := p }

/-- An incremental-conductance step. -/
def icStep (b : List Byte) (r : CellRec) (v i : Word) (c : CellSt) : CellSt :=
  let dv := fSub v c.vPrev
  let di := fSub i c.iPrev
  let e := pEPSG b
  let mv : Int :=
    if fLt (fAbs dv) 0x3A83126F#32 then
      (if fLt (fMul (fMul e v) v) (fMul (fAbs di) v) then (if fLt fZero di then 1 else -1) else 0)
    else
      let g := fAdd (fDiv di dv) (fDiv i v)
      (if fLt e g then 1 else if fLt g (fNeg e) then -1 else 0)
  let vr := if mv = 1 then fAdd c.vref (pDV b) else if mv = -1 then fSub c.vref (pDV b) else c.vref
  { c with vref := vrefLimit b r vr, vPrev := v, iPrev := i, pMpp := fMul v i }

/-- The step of one due cell; a cell without a fresh sample since its last step waits. -/
def mpptCell (b : List Byte) (x : SweepCell) : SweepCell :=
  if x.c.due && x.c.state == 2 && !x.c.fixed && x.c.num != 0 then
    let n := fOfNat x.c.num
    let v := fDiv x.c.sumV n
    let i := fDiv x.c.sumI n
    let c := if x.r.incCond then icStep b x.r v i x.c else poStep b x.r v i x.c
    { x with c := { c with due := false, sumV := fZero, sumI := fZero, num := 0 } }
  else x

/-- One frame of a running I–V sweep (R157): the last ⌊SWDWELL / 2⌋ frames of a point count. -/
def Dev.ivFrame (s : Dev) : Dev :=
  let iv := s.cells.iv
  if !iv.running then s
  else
    let dwell := byteAt s.cells.map 25
    let f := iv.frames + 1
    let counts := decide (dwell - dwell / 2 < f) && decide (f ≤ dwell)
    let upd := fun (v : IvCell) =>
      let t := sget (fun _ => {}) s.cells.tel v.pos
      if counts then { v with sumP := fFma t.vsrc t.isrc v.sumP, sumV := fAdd v.sumV t.vsrc, sumI := fAdd v.sumI t.isrc, num := v.num + 1 }
      else v
    s.setCells { s.cells with iv := { iv with frames := f, cells := iv.cells.map upd } }

/-- The sheddable item "MPPT steps" of a frame (R154, R157): it runs only in RUN. -/
def Dev.mpptItem (s : Dev) : Dev :=
  match s.sweepImg with
  | none => s
  | some b => if s.st = stRUN then (s.putCells (s.sweepCells.map (mpptCell b))).ivFrame else s

/-! ### The I–V sweep (R157, R158) -/

/-- v_k of a cell. -/
def ivPoint (b : List Byte) (r : CellRec) (nstep k : Nat) : Word :=
  let lo := fMul (pVMINR b) r.vnom
  fAdd lo (fDiv (fMul (fOfNat k) (fSub (pVDCMAX b) lo)) (fOfNat (nstep - 1)))

/-- References of the swept cells at point k. -/
def Dev.ivGo (s : Dev) (b : List Byte) (k : Nat) : Dev :=
  forEach s.cells.iv.cells (fun v t =>
    match t.cellRec v.pos with
    | some r => t.setCell v.pos { t.cell v.pos with vref := ivPoint b r (byteAt s.cells.map 24) k }
    | none => t) s

/-- The named cells that are ACTIVE begin to sweep. -/
def Dev.ivBegin (s : Dev) (b : List Byte) (cmd : Bool) (now : List Nat) (later : List (List Nat)) : Dev :=
  let now := now.filter (fun p => (s.cell p).state == 2)
  let vs := now.map (fun p => ({ pos := p, saved := (s.cell p).vref } : IvCell))
  let s := forEach now (fun p t => t.setCell p ((t.cell p).to t.tickStamp 4)) s
  let s := s.setCells { s.cells with iv := { running := !now.isEmpty || !later.isEmpty, commanded := cmd, cells := vs, later := later,
                                             stamp0 := s.tickStamp } }
  s.ivGo b 0

/-- A list cut into pieces of `n`. -/
def chunks (n : Nat) : Nat → List Nat → List (List Nat)
  | 0, _ => []
  | _, [] => []
  | f + 1, l => l.take n :: chunks n f (l.drop n)

/-- The batches of a scheduled sweep: the k-th piece of every group together. -/
def Dev.ivBatches (s : Dev) : List (List Nat) :=
  let n := byteAt s.cells.map 26 + 256 * byteAt s.cells.map 27
  let per := (List.range 6).map (fun g =>
    chunks (max 1 n) 1024 ((s.cells.recs.filter (fun r => r.group == g && r.source == 1 && (s.cell r.pos).state == 2)).map (·.pos)))
  let most := per.foldl (fun a x => max a x.length) 0
  tabulate most (fun k => (per.map (fun x => x.getD k [])).flatten)

/-- A scheduled sweep begins, or is skipped and counted while one runs (R158). Outside RUN there is nothing to sweep. -/
def Dev.ivScheduled (s : Dev) : Dev :=
  if leAt s.cells.map 20 4 = 0 then s
  else if s.cells.iv.running then s.setCells { s.cells with skipped := satAdd 0xFFFF s.cells.skipped 1 }
  else
    match s.sweepImg, s.ivBatches with
    | some b, now :: later => if s.st = stRUN then s.ivBegin b false now later else s
    | _, _ => s

/-- The index of the greatest value, the lowest on a tie. -/
def bestPoint (l : List Word) : Nat :=
  (l.zipIdx.foldl (fun (a : Option (Word × Nat)) x =>
    match a with
    | none => some x
    | some y => if fLt y.1 x.1 then some x else a) none).map (·.2) |>.getD 0

/-- The end of a cell's sweep: reference v_k of the best point, ACTIVE, direction toward lower voltage, p_prev that value. -/
def Dev.ivFinish (s : Dev) (b : List Byte) (v : IvCell) : Dev :=
  match s.cellRec v.pos with
  | none => s
  | some r =>
    let k := bestPoint (v.points.map (·.1))
    let val := (v.points.getD k (0, 0, 0)).1
    let c := s.cell v.pos
    let best := ivPoint b r (byteAt s.cells.map 24) k
    let s := s.setCell v.pos
      { (c.to s.tickStamp 2) with vref := best, up := false, pPrev := val, pMpp := val, due := false }
    if s.cells.iv.commanded then
      let x : IvRes := { stamp := s.cells.iv.stamp0, best := k, points := v.points.map (·.2), data := v.data }
      s.setCells { s.cells with ivRes := sset (fun _ => none) s.cells.ivRes v.pos (some x) }
    else s

/-- The mean of a sum of `n` samples; +0 without any. -/
def meanOf (sum : Word) (n : Nat) : Word := if n = 0 then fZero else fDiv sum (fOfNat n)

/-- The dwell of a point ends: its value is taken and the references move on, or the cells finish and the next batch begins (R157). -/
def Dev.ivPointEnd (s : Dev) : Dev :=
  match s.sweepImg with
  | none => s
  | some b =>
    if !s.cells.iv.running then s
    else
      let take := fun (v : IvCell) =>
        { v with points := v.points ++ [(meanOf v.sumP v.num, meanOf v.sumV v.num, meanOf v.sumI v.num)],
                 sumP := fZero, sumV := fZero, sumI := fZero, num := 0 }
      let iv := s.cells.iv
      let iv := { iv with cells := iv.cells.map take, frames := 0, point := iv.point + 1 }
      let s := s.setCells { s.cells with iv := iv }
      if iv.point < byteAt s.cells.map 24 && !iv.cells.isEmpty then s.ivGo b iv.point
      else
        let s := forEach iv.cells (fun v t => t.ivFinish b v) s
        match iv.later with
        | [] => s.setCells { s.cells with iv := {} }
        | now :: later => (s.setCells { s.cells with iv := {} }).ivBegin b iv.commanded now later

/-- The frame number reaches a multiple of ROTP: a rotation is due in every group (R167). -/
def Dev.rotationDue (s : Dev) : Dev :=
  if leAt s.cells.map 16 4 = 0 then s else s.setCells { s.cells with rotDue := 63 }

/-! ### The cell map (R142–R144) -/

/-- The record at position `pos` of a map. -/
def mapRec (m : List Byte) (pos : Nat) : CellRec :=
  let o := 64 + 16 * pos
  let k := byteAt m (o + 1)
  { pos := pos, group := byteAt m o, half := k % 4 == 1, source := k / 4 % 4, incCond := k / 16 % 2 == 1, stby := k / 32 % 2 == 1,
    bypOk := k / 64 % 2 == 1, vnom := wordAt m (o + 4), prate := wordAt m (o + 8), qcap := wordAt m (o + 12) }

/-- The configured records of a map, in position order. -/
def mapRecs (m : List Byte) : List CellRec :=
  (List.range 1024).filterMap (fun p => let r := mapRec m p; if r.group = 0xFF then none else some r)

/-- The first rejected byte of the header. -/
def badHeader (m : List Byte) : Option Nat :=
  let si := leAt m 20 4
  if 2 ≤ byteAt m 0 then some 0
  else if byteAt m 1 < byteAt m 2 then some 2
  else if byteAt m 3 ≠ 0 then some 3
  else if si ≠ 0 ∧ (si < 60 ∨ 86400 < si) then some 20
  else if byteAt m 24 < 8 ∨ 64 < byteAt m 24 then some 24
  else if byteAt m 25 < 2 ∨ 64 < byteAt m 25 then some 25
  else if leAt m 26 2 < 1 ∨ 64 < leAt m 26 2 then some 26
  else (List.range 36).find? (fun i => byteAt m (28 + i) != 0) |>.map (· + 28)

/-- The first rejected byte of a record by itself; of a position without a cell, its reserved bytes. `served` says whether Thicket serves the
position. -/
def badRecord (m : List Byte) (served : Nat → Bool) (pos : Nat) : Option Nat :=
  let o := 64 + 16 * pos
  let k := byteAt m (o + 1)
  let r := mapRec m pos
  let mmc := byteAt m 0 == 1
  if r.group = 0xFF then (if byteAt m (o + 2) ≠ 0 then some (o + 2) else if byteAt m (o + 3) ≠ 0 then some (o + 3) else none)
  else if 6 ≤ r.group ∨ (!mmc ∧ 3 ≤ r.group) ∨ !served pos then some o
  else if 2 ≤ k % 4 ∨ r.source = 3 ∨ 128 ≤ k ∨ (!mmc ∧ (r.half ∨ r.source = 0)) ∨ (mmc ∧ r.source ≠ 0) then some (o + 1)
  else if byteAt m (o + 2) ≠ 0 then some (o + 2)
  else if byteAt m (o + 3) ≠ 0 then some (o + 3)
  else if !fPos r.vnom then some (o + 4)
  else if !fPos r.prate then some (o + 8)
  else if r.source ≠ 1 ∧ !fPos r.qcap then some (o + 12)
  else none

/-- The first record that breaks a rule over its group: a CHB group that mixes SOURCE 1 and 2, or a ninth STBY cell. -/
def badGroup (m : List Byte) (pos : Nat) (before : List CellRec) : Option Nat :=
  let r := mapRec m pos
  if r.group = 0xFF then none
  else
    let mine := before.filter (fun x => x.group == r.group)
    if byteAt m 0 = 0 ∧ mine.any (fun x => x.source != r.source) then some (64 + 16 * pos + 1)
    else if r.stby ∧ 8 ≤ (mine.filter (·.stby)).length then some (64 + 16 * pos + 1)
    else none

/-- The first rejected field of a map (R144); NMINg is judged in the header, its bytes standing first. -/
def badMap (m : List Byte) (served : Nat → Bool) : Option Nat :=
  let recs := mapRecs m
  let nmin := (List.range 6).find? (fun g =>
    decide ((recs.filter (fun r => r.group == g && !r.stby)).length < leAt m (4 + 2 * g) 2))
  let head := badHeader m
  let first := lowestOf (head.toList ++ (nmin.map (fun g => 4 + 2 * g)).toList)
  first.or ((List.range 1024).findSome? (fun p =>
    lowestOf ((badRecord m served p).toList ++ (badGroup m p (recs.filter (fun r => r.pos < p))).toList)))

/-- Thicket serves a position: its ring is enabled and has more cells than the position’s index. -/
def Dev.servedPos (s : Dev) (pos : Nat) : Bool :=
  s.isOn (Reg.THK_RINGr_CFG_EN (pos / 64)) && decide (pos % 64 < s.get (Reg.THK_RINGr_CFG_NCELL (pos / 64)))

/-! ### Opcodes 0x30–0x39 (R168) -/

/-- The positions an address word of this chip names, in the population. -/
def Dev.scopePos (s : Dev) (w : Nat) : List Nat :=
  let all := s.cells.recs.map (·.pos)
  match awScope w with
  | 0 | 1 => all.filter (· == awRing w * 64 + awCell w)
  | 2 => all.filter (fun p => p / 64 == awRing w)
  | _ => all

/-- An address word checked under R21 for the SCOPE values an opcode lists; none when good, else the Detail. -/
def Dev.badAddress (s : Dev) (p : Packet) (w : Nat) (scopes : List Nat) : Option Nat :=
  let own := w / 2 ^ 14 % 512 == s.chipIndex
  let known := match s.cellRec (awRing w * 64 + awCell w) with
    | some r => !(awEp w == 1 && r.half && s.mmc)
    | none => false
  let pop := match awScope w with
    | 0 => known
    | 1 => (s.cellRec (awRing w * 64 + awCell w)).isSome
    | 2 => s.cells.recs.any (fun r => r.pos / 64 == awRing w)
    | _ => true
  let place := match awScope w with
    | 4 => w / 2 ^ 18 % 32 == s.chipIndex / 16
    | 5 => true
    | _ => own
  if awFormOk w && scopes.contains (awScope w) && (pStation p || place) && (!place || pop) then none else some (awAddr w)

/-- A new cell map: its records replace the old ones, and the cells’ states are cleared. -/
def Dev.newMap (s : Dev) (m : List Byte) : Dev := s.setCells { map := m, recs := mapRecs m, tel := s.cells.tel }

/-- CELL_MAP_READ; a map that was never loaded reads as zeros with no cell. -/
def bodyCellMapRead (src : Src) (p : Packet) (s : Dev) : Ans :=
  let m := if s.cells.map.isEmpty then zeros 64 ++ (List.replicate 1024 (0xFF#8 :: zeros 15)).flatten else s.cells.map
  withStore s src 24 (pN p 24 8) m ansOk

/-- The record of one cell in a status read-out (R169). -/
def Dev.cellStatus (s : Dev) (r : CellRec) : List Byte :=
  let c := s.cell r.pos
  toLe (s.cellWord r.pos) 4 ++
    [BitVec.ofNat 8 c.state, BitVec.ofNat 8 c.cause,
     BitVec.ofNat 8 (b2n c.fixed + 2 * b2n c.curtMax + 4 * b2n c.socUnk + 8 * b2n c.capped), 0] ++
    wordBytes c.vref ++ wordBytes c.alpha ++ wordBytes c.w ++ wordBytes (if r.source = 2 then c.soc else 0) ++ toLe c.since 8

/-- The header of a read-out of `n` records. -/
def Dev.cellHead (s : Dev) (n : Nat) : List Byte :=
  toLe s.cells.runStamp 8 ++ toLe s.cells.runFrame 4 ++ toLe n 2 ++ toLe s.cells.skipped 2 ++ zeros 16

/-- CELL_STATUS_READ. -/
def bodyCellStatusRead (src : Src) (p : Packet) (s : Dev) : Ans :=
  let w := pN p 16 4
  match s.badAddress p w [1, 2, 3] with
  | some d => ansBad s sBAD_PARAM d
  | none =>
    let ps := s.scopePos w
    let rs := s.cells.recs.filter (fun r => ps.contains r.pos)
    withStore s src 24 (pN p 24 8) (s.cellHead rs.length ++ (rs.map s.cellStatus).flatten) ansOk

/-- CELL_BYPASS: cause 7 of the next run (R164). -/
def bodyCellBypass (_src : Src) (p : Packet) (s : Dev) : Ans :=
  match s.badAddress p (pN p 16 4) [1] with
  | some d => ansBad s sBAD_PARAM d
  | none => ansOk (s.setCells { s.cells with hostByp := s.cells.hostByp ++ s.scopePos (pN p 16 4) })

/-- CELL_RESTORE: a BYPASSED cell enters STANDBY (R164). -/
def bodyCellRestore (_src : Src) (p : Packet) (s : Dev) : Ans :=
  match s.badAddress p (pN p 16 4) [1] with
  | some d => ansBad s sBAD_PARAM d
  | none =>
    ansOk (forEach (s.scopePos (pN p 16 4)) (fun q t =>
      let c := t.cell q
      if c.state = 5 then t.setCell q (c.to (t.stamp 0) 1) else t) s)

/-- CELL_IV_SWEEP: the parameters come before the sweep that runs (R355). -/
def bodyCellIvSweep (_src : Src) (p : Packet) (s : Dev) : Ans :=
  let w := pN p 16 4
  match s.badAddress p w [1, 2, 3] with
  | some d => ansBad s sBAD_PARAM d
  | none =>
    let ps := (s.scopePos w).filter (fun q => s.cells.recs.any (fun r => r.pos == q && r.source == 1))
    if ps.isEmpty || decide (64 < ps.length) || (s.scopePos w).any (fun q => (s.cell q).state != 2) then ansBad s sBAD_PARAM 16
    else if s.cells.iv.running || s.soleTaken p then ansBad s sBUSY 0
    else
      match s.sweepImg with
      | none => ansBad s sBAD_PARAM 16
      | some b => ansOk ((s.setCells { s.cells with ivRes := [] }).ivBegin b true ps [])

/-- The points of a kept result. Where the node sent sweep data, that feeds CELL_IV_READ in a form no rule gives, so v and i of every point are
free values (R246, log entry 20). -/
def Dev.ivPoints (s : Dev) (x : IvRes) : List Byte × Dev :=
  if x.data.isEmpty then ((x.points.map (fun q => wordBytes q.1 ++ wordBytes q.2)).flatten, s)
  else x.points.foldl (fun (a : List Byte × Dev) _ =>
    let v := a.2.free
    let i := v.2.free
    (a.1 ++ wordBytes v.1 ++ wordBytes i.1, i.2)) ([], s)

/-- CELL_IV_READ. -/
def bodyCellIvRead (src : Src) (p : Packet) (s : Dev) : Ans :=
  let w := pN p 16 4
  match s.badAddress p w [1] with
  | some d => ansBad s sBAD_PARAM d
  | none =>
    match (s.scopePos w).findSome? (fun q => sget (fun _ => none) s.cells.ivRes q) with
    | none => ansWant s src p 0 sNOT_READY
    | some x =>
      let f := s.ivPoints x
      let body := toLe w 4 ++ [BitVec.ofNat 8 x.points.length, BitVec.ofNat 8 x.best, 0, 0] ++ toLe x.stamp 8 ++ f.1
      withStore f.2 src 24 (pN p 24 8) body ansOk

/-- A fixed reference taken at a tick, within the limits of R154 of the loaded CELLSWEEP context. -/
def Dev.vrefTake (s : Dev) (r : CellRec) : Dev :=
  let c := s.cell r.pos
  match c.vrefNew with
  | none => s
  | some (fix, w, _, _) =>
    let v := match s.sweepImg with
      | some b => vrefLimit b r w
      | none => w
    s.setCell r.pos (if fix then { c with fixed := true, due := false, vref := v, vrefNew := none } else { c with fixed := false, vrefNew := none })

/-- Every such reference, at a tick. -/
def Dev.vrefTick (s : Dev) : Dev := forEach s.cells.recs (fun r t => t.vrefTake r) s

/-- CELL_VREF_SET: used from the next tick on (R16). -/
def bodyCellVrefSet (src : Src) (p : Packet) (s : Dev) : Ans :=
  let w := pN p 16 4
  match s.badAddress p w [1, 2, 3] with
  | some d => ansBad s sBAD_PARAM d
  | none =>
    let ps := s.scopePos w
    let rs := s.cells.recs.filter (fun r => ps.contains r.pos)
    let fix := pB p 20 % 2 == 1
    if rs.any (fun r => r.source != 1) then ansBad s sBAD_PARAM 16
    else if fix && !fFinite (pW p 32) then ansBad s sBAD_PARAM 32
    else
      ansOk (forEach rs (fun r t =>
        let c := t.cell r.pos
        let new := (fix, pW p 32, t.host.arrived, srcRank src)
        let take_ := match c.vrefNew with
          | none => true
          | some o => newer t.host.arrived (srcRank src) o.2.2.1 o.2.2.2
        if take_ then t.setCell r.pos { c with vrefNew := some new } else t) s)

/-- CELL_SOC_SET. -/
def bodyCellSocSet (_src : Src) (p : Packet) (s : Dev) : Ans :=
  let w := pN p 16 4
  match s.badAddress p w [1, 2, 3] with
  | some d => ansBad s sBAD_PARAM d
  | none =>
    let ps := s.scopePos w
    let rs := s.cells.recs.filter (fun r => ps.contains r.pos)
    let v := pW p 32
    if rs.any (fun r => r.source != 2) then ansBad s sBAD_PARAM 16
    else if !(fLe fZero v && fLe v fOne) then ansBad s sBAD_PARAM 32
    else ansOk (forEach rs (fun r t => t.setCell r.pos { t.cell r.pos with soc := v, socUnk := false }) s)

/-- CELL_ROTATE: a rotation is due in the next run. -/
def bodyCellRotate (_src : Src) (p : Packet) (s : Dev) : Ans :=
  let g := pB p 16
  if g = 0xFF then ansOk (s.setCells { s.cells with rotDue := 63 })
  else if 6 ≤ g then ansBad s sBAD_PARAM 16
  else ansOk (s.setCells { s.cells with rotDue := s.cells.rotDue ||| 2 ^ g })

/-- What leaving CONFIG does to the cells: the next run is the first (R145, R161, R169). -/
def Dev.cellsLeaveConfig (s : Dev) : Dev :=
  let s := forEach s.cells.recs (fun r t =>
    t.setCell r.pos { soc := (if r.source = 2 then fHalf else fZero), socUnk := r.source == 2 }) s
  s.setCells { s.cells with first := true, skipped := 0, iv := {}, hostByp := [], bsReq := [], bsRefused := [], rotDue := 0, swaps := [] }

end Sys2Proof.Machine
end

