-- ==== Sys2Proof/Machine/Thicket.lean ====
section
/-! DEFINITION. Thicket: blocks, discovery, telemetry, credits, alarms, folds and heals, budgets (R234–R259). Conventions the spec
leaves open are in log entry 20. -/

namespace Sys2Proof.Machine

def Dev.ring (s : Dev) (r : Nat) : RingSt := sget (fun _ => {}) s.thk r
def Dev.setRing (s : Dev) (r : Nat) (x : RingSt) : Dev := { s with thk := sset (fun _ => {}) s.thk r x }

/-- Ring states of THK_RINGr_STAT.ST. -/
def rsOFF : Nat := 0
def rsDISCOVER : Nat := 1
def rsUP : Nat := 2
def rsFOLDED : Nat := 3
def rsFAILED : Nat := 4
def rsMULTI : Nat := 5

def Dev.ringSt (s : Dev) (r : Nat) : Nat := s.get (Reg.THK_RINGr_STAT_ST r)
def Dev.ringEn (s : Dev) (r : Nat) : Bool := s.isOn (Reg.THK_RINGr_CFG_EN r)
def Dev.ncell (s : Dev) (r : Nat) : Nat := s.get (Reg.THK_RINGr_CFG_NCELL r)
/-- XPF, at most 8 (R259). -/
def Dev.xpf (s : Dev) : Nat := min 8 (s.get Reg.THK_CFG_XPF)
/-- TCOLLECT, at least 240 core clocks. -/
def Dev.tcollect (s : Dev) : Nat := max 240 (s.get Reg.THK_CFG_TCOLLECT)
/-- Records go to the ring (R241): it is UP, FOLDED or MULTI. -/
def Dev.ringServed (s : Dev) (r : Nat) : Bool := s.ringEn r && [rsUP, rsFOLDED, rsMULTI].contains (s.ringSt r)

/-- The ring is served as two segments. -/
def Dev.folded (s : Dev) (r : Nat) : Bool := [rsFOLDED, rsMULTI].contains (s.ringSt r)

/-! ### Blocks (R235, R237, R238) -/

/-- A control block of a type from its payload P[55:0]. -/
def ctlRaw (type payload : Nat) : Nat := payload % 2 ^ 56 * 256 + type

/-- The bytes that CRC-8 covers: P[55:8], from P[15:8] upward. -/
def crcBytes (payload : Nat) : List Byte := toLe (payload / 256) 6

/-- A payload’s CRC-8 is right. -/
def crc8Ok (payload : Nat) : Bool := payload % 256 == crc8 (crcBytes payload)

/-- CRC-16 over words, each least significant byte first. -/
def crcWords (l : List Word) : Nat := crc16 (l.map wordBytes).flatten

/-- A RECORD block: destination, kind, generation and words. -/
def recordBlock (dest kind gen : Nat) (ws : List Word) : Nat :=
  ctlRaw 0x33 (dest * 2 ^ 49 + kind * 2 ^ 44 + ws.length * 2 ^ 36 + gen * 2 ^ 32 + crcWords ws)

/-- An EDGE block and the words behind it, an odd count padded with zero (R237). -/
def edgeBlock (e : EdgeRec) : Nat × List Word :=
  (ctlRaw 0x4B (e.head.toNat * 2 ^ 24 + crcWords (e.head :: e.entries) * 256),
   if e.entries.length % 2 = 1 then e.entries ++ [0] else e.entries)

/-- Frame start (R237, R240): `port` 0 E, 1 W. -/
def Dev.fsBlock (s : Dev) (r port lofs stamp : Nat) : Nat × List Word :=
  let fl := b2n s.freerun + 2 * b2n s.unsync + 4 * b2n (s.folded r) + 8 * port
  let p := s.frame * 2 ^ 24 + lofs * 2 ^ 16 + fl * 256
  let c := crc8 (crcBytes p ++ toLe stamp 8)
  (ctlRaw 0x78 (p + c), [BitVec.ofNat 32 stamp, BitVec.ofNat 32 (stamp / 2 ^ 32)])

/-- A discarded block or record (R238). -/
def Dev.crcErr (s : Dev) (r : Nat) : Dev := (s.raise Reg.THK_FLAG_CRCERR_F).count (Reg.THK_RINGr_ERR_CRCERR r)

/-- The lane on which the chip reaches a cell (R243, R253): 0 east, 1 west. -/
def Dev.laneOf (s : Dev) (r c : Nat) : Nat :=
  let east := if !s.folded r then cdiv (s.ncell r) 2 else s.get (Reg.THK_RINGr_STAT_SEG_E r)
  if c < east then 0 else 1

/-- The lane whose telemetry train carries a cell’s records: that of the COLLECT which starts it, west on an intact ring (R234, R244). -/
def Dev.telLane (s : Dev) (r c : Nat) : Nat := if s.folded r then s.laneOf r c else 1

/-- A record to one node on the lane that reaches it. -/
def Dev.sendRecord (s : Dev) (r dest kind gen : Nat) (ws : List Word) : Dev :=
  s.send (.thk (2 * r + s.laneOf r dest) (recordBlock dest kind gen ws) ws)

/-- One record to every node of a ring (R249): on each transmitter of a folded one, on the east one of an intact one. -/
def Dev.sendAll (s : Dev) (r kind gen : Nat) (ws : List Word) : Dev :=
  let b := recordBlock 127 kind gen ws
  let s := s.send (.thk (2 * r) b ws)
  if s.folded r then s.send (.thk (2 * r + 1) b ws) else s

/-- A record on both transmitters. -/
def Dev.sendBoth (s : Dev) (r dest kind gen : Nat) (ws : List Word) : Dev :=
  let b := recordBlock dest kind gen ws
  (s.send (.thk (2 * r) b ws)).send (.thk (2 * r + 1) b ws)

/-! ### Discovery (R241) -/

/-- DISC with HOPS 0 goes out on the east lane at t0. A ring that is not enabled is OFF. -/
def Dev.discStart (s : Dev) (r : Nat) : Dev :=
  if !s.ringEn r then s.set (Reg.THK_RINGr_STAT_ST r) rsOFF
  else
    let s := (s.setReg (Reg.THK_RINGr_STAT r) 0#32).set (Reg.THK_RINGr_STAT_ST r) rsDISCOVER
    let nodes := (s.ring r).nodes.map (fun x => (x.1, { x.2 with reply := none }))
    let s := s.setRing r { disc := 1, t0 := s.time, nodes := nodes.filter (fun x => x.2 != {}) }
    s.send (.thk (2 * r) (ctlBlock 0xB4 0) [])

/-- σ_c in 1/16 TU: the latency differences of the nodes beyond `c`. -/
def sigma (x : RingSt) (c n : Nat) : Int :=
  ((List.range n).filter (fun k => decide (c < k))).foldl (fun a k =>
    match (sget (fun _ => {}) x.nodes k : NodeSt).reply with
    | some (_, le, lw) => a + (le - lw)
    | none => a) 0

/-- The words of NODE_CFG for node `c`. -/
def Dev.nodeCfg (s : Dev) (r n c : Nat) : List Word :=
  let x := s.ring r
  match (sget (fun _ => {}) x.nodes c : NodeSt).reply with
  | none => []
  | some (delta, le, _) =>
    let round := (x.t1 : Int) - x.t0
    let dE := rneDiv (16 * (round + x.le - delta) - le - sigma x c n) 32
    let dW := dE + delta - round
    let rec_ := s.cellRec (64 * r + c)
    let by_ := match rec_ with
      | some q => q.bypOk
      | none => false
    let half := match rec_ with
      | some q => q.half
      | none => false
    [BitVec.ofNat 32 (c * 2 ^ 26 + b2n by_ * 2 ^ 25 + b2n half * 2 ^ 24), BitVec.ofNat 32 (toBits 32 dE),
     BitVec.ofNat 32 (toBits 32 dW), 0]

/-- Every node has replied: NODE_CFG goes to each, and the ring is UP. -/
def Dev.discFinish (s : Dev) (r : Nat) : Dev :=
  let n := s.ncell r
  let x := s.ring r
  if s.ringSt r = rsDISCOVER && x.disc = 2 &&
      (List.range n).all (fun c => (sget (fun _ => {}) x.nodes c : NodeSt).reply.isSome) then
    let s := forEach (List.range n) (fun c t => t.sendRecord r c 1 0 (t.nodeCfg r n c)) s
    (s.setRing r { s.ring r with disc := 0 }).set (Reg.THK_RINGr_STAT_ST r) rsUP
  else s

/-- DISC returns with its payload: on the east lane at THrW_RX with its HOPS, or on the west lane at THrE_RX; `arr` is the station time of
the arrival. One that fails its CRC is discarded (R238). -/
def Dev.discReturn (s : Dev) (r : Nat) (west : Bool) (payload arr : Nat) : Dev :=
  let x := s.ring r
  let hops := payload / 2 ^ 49 % 128
  if !crc8Ok payload then s.crcErr r
  else if west then
    if x.disc = 2 then (s.set (Reg.THK_RINGr_DLY_LW r) (arr - x.t1)).discFinish r else s
  else if x.disc ≠ 1 then s
  else
    let s := (s.set (Reg.THK_RINGr_CFG_NFOUND r) hops).set (Reg.THK_RINGr_DLY_LE r) (arr - x.t0)
    if hops ≠ s.ncell r then
      ((s.setRing r { x with disc := 0 }).set (Reg.THK_RINGr_STAT_ST r) rsFAILED).raise Reg.THK_FLAG_DISCERR_F
    else
      let s := s.setRing r { x with disc := 2, le := arr - x.t0, t1 := s.time }
      (s.send (.thk (2 * r + 1) (ctlBlock 0xB4 0) [])).discFinish r

/-! ### Served lengths and budgets (R254, R257, R258) -/

/-- Blocks of a full-length record of a cell. -/
def Dev.fullBlocks (s : Dev) (pos : Nat) : Nat :=
  match s.cellRec pos with
  | some r => if r.half then 6 else 9
  | none => 0

/-- D of records in sending order, in tenths of ns: each with its blocks and hops. -/
def portD : Nat → List (Nat × Nat) → Nat
  | _, [] => 0
  | b, (n, h) :: t => max (4000 + 528 * (b + n) + 1200 * h + 4500 + 2000) (portD (b + n) t)

/-- The dispatch phase in tenths of ns. -/
def Dev.dispatch10 (s : Dev) : Nat :=
  50 * (periodClk (s.get Reg.FRM_CFG_RATE) - s.get Reg.FRM_PHASE_CMP_END)

/-- The configured cells of a segment of a port, nearest first, with their hops: port 0 from cell 0 up, port 1 from the last cell
down. -/
def Dev.segment (s : Dev) (r port m : Nat) : List (Nat × Nat) :=
  let n := s.ncell r
  (List.range m).map (fun i => (64 * r + (if port = 0 then i else n - 1 - i), i + 1))

/-- D of a segment whose nearest `k` cells are served fully and the others by one block sent first (R254). -/
def Dev.segD (s : Dev) (r port m k : Nat) : Nat :=
  let l := s.segment r port m
  let far := ((l.drop k).reverse).map (fun x => (if s.fullBlocks x.1 = 0 then 0 else 1, x.2))
  let near := ((l.take k).reverse).map (fun x => (s.fullBlocks x.1, x.2))
  portD 0 ((far ++ near).filter (fun x => x.1 != 0))

/-- The largest number of cells served fully. -/
def Dev.servedLen (s : Dev) (r port m : Nat) : Nat :=
  ((List.range (m + 1)).reverse.find? (fun k => decide (s.segD r port m k ≤ s.dispatch10))).getD 0

/-- D of a port of the intact ring. -/
def Dev.intactD (s : Dev) (r port : Nat) : Nat :=
  let n := s.ncell r
  s.segD r port (if port = 0 then cdiv n 2 else n / 2) 64

/-- T of a ring in tenths of ns. -/
def Dev.ringT (s : Dev) (r : Nat) : Nat :=
  let n := s.ncell r
  50 * s.tcollect + 2400 * n + 2 * 4500 + 528 * (1 + 3 * n + 16 * s.xpf) + 2000

/-- Granules of a lane in the worst case: every record of the ring, base telemetry and XPF credits (R171, R258). -/
def Dev.laneGranules (s : Dev) (r : Nat) : Nat :=
  let words := (s.cells.recs.filter (fun x => x.pos / 64 == r)).foldl (fun a x => a + (if x.half then 11 else 17)) 0
  cdiv (4 * words) 256 + cdiv (4 * 5 * s.ncell r) 256 + s.xpf

/-- The offsets of R363 for the conditions of R258 that ring `r` fails, in their order (log entry 31). -/
def Dev.ringFails (s : Dev) (r : Nat) : List Nat :=
  let n := s.ncell r
  let phase := Reg.FRM_PHASE
  (if n ≤ (if s.get Reg.FRM_CFG_RATE = 6 then 32 else 64) then [] else [Reg.THK_RINGr_CFG r]) ++
  (if s.cells.recs.all (fun x => x.pos / 64 != r || decide (x.pos % 64 < n)) then [] else [0xFFFF]) ++
  (if s.intactD r 0 ≤ s.dispatch10 ∧ s.intactD r 1 ≤ s.dispatch10 then [] else [phase]) ++
  (if s.ringT r ≤ 50 * s.get Reg.FRM_PHASE_CMP_END then [] else [phase]) ++
  (if s.laneGranules r ≤ 64 then [] else [Reg.THK_CFG])

/-- The Thicket checks at the command that leaves CONFIG (R258). -/
def Dev.thkCheck (s : Dev) : List Nat := (((List.range 16).filter s.ringEn).map s.ringFails).flatten

/-- THK_BUDGET as the checks leave it. -/
def Dev.thkBudget (s : Dev) : Dev :=
  let rs := (List.range 16).filter s.ringEn
  let d := rs.foldl (fun a r => max a (max (s.intactD r 0) (s.intactD r 1))) 0
  let t := rs.foldl (fun a r => max a (s.ringT r)) 0
  (s.set Reg.THK_BUDGET_DREQ (cdiv d 50)).set Reg.THK_BUDGET_TREQ (cdiv t 50)

/-! ### Telemetry (R244–R246) -/

/-- COLLECT starts the train (R244): on the west transmitter of an intact ring, on both of a folded one. -/
def Dev.collectSend (s : Dev) : Dev :=
  forEach ((List.range 16).filter s.ringEn) (fun r t =>
    let b := ctlBlock 0xAA (t.frame * 2 ^ 24)
    let t := if t.folded r then t.send (.thk (2 * r) b []) else t
    t.send (.thk (2 * r + 1) b [])) s

/-- A base record in volts, amperes, °C and mA (R245, R246). -/
def baseTel (ws : List Word) : CellTel :=
  let w := fun i => ws.getD i 0
  { vdc := fOfRat (bits (w 0) 31 16) 20, vsrc := fOfRat (bits (w 0) 15 0) 20, isrc := fOfRat (signed 16 (bits (w 1) 31 16)) 20,
    temp := fOfRat (signed 16 (bits (w 1) 15 0)) 100, leak := fOfRat (bits (w 3) 31 16) 100,
    ep2 := bits (w 2) 1 0, ep7 := bits (w 2) 31 8, ep9 := bits (w 3) 15 0, fresh := true, missed := 0 }

/-- A node's state. -/
def Dev.node (s : Dev) (r c : Nat) : NodeSt := sget (fun _ => {}) (s.ring r).nodes c
def Dev.setNode (s : Dev) (r c : Nat) (x : NodeSt) : Dev :=
  s.setRing r { s.ring r with nodes := sset (fun _ => {}) (s.ring r).nodes c x }

/-- Device firmware consumes what the link users of Thicket hold, while it runs. -/
def Dev.thkConsume (s : Dev) (u : Nat) : Dev := if s.fwRuns then s.linkConsume u (s.user u).data else s

/-- Sweep data of a cell is kept with its sweep, or with its last result, for CELL_IV_READ (R246, log entry 20). -/
def Dev.sweepData (s : Dev) (pos : Nat) (ws : List Word) : Dev :=
  let iv := s.cells.iv
  if iv.cells.any (fun v => v.pos == pos) then
    s.setCells { s.cells with iv := { iv with cells := iv.cells.map (fun v => if v.pos = pos then { v with data := v.data ++ ws } else v) } }
  else
    match sget (fun _ => none) s.cells.ivRes pos with
    | some x => s.setCells { s.cells with ivRes := sset (fun _ => none) s.cells.ivRes pos (some { x with data := x.data ++ ws }) }
    | none => s

/-- A KIND 1 or 2 record: it uses a credit of its node and the granule set aside with it, else it is discarded (R27, R246). One of more than 30 words
is discarded and counted the same way, a credit notwithstanding (DESIGN CHOICE, log entry 20). A diagnostic record enters the event log (its code is the
model’s, log entry 20). -/
def Dev.extTel (s : Dev) (r c kind : Nat) (ws : List Word) : Dev :=
  let x := s.node r c
  let left := (x.cum + 256 - x.sent) % 256
  let u := x.creds.headD (2 * r + s.telLane r c)
  if 1 ≤ left ∧ left ≤ 127 ∧ ws.length ≤ 30 ∧ (s.user u).cred ≠ 0 then
    let s := s.setNode r c { x with sent := (x.sent + 1) % 256, creds := x.creds.drop 1 }
    let s := (s.linkData u 1).2.thkConsume u
    if kind = 1 then s.sweepData (64 * r + c) ws
    else s.logCell 8 3 (64 * r + c) (leAt ((ws.take 2).map wordBytes).flatten 0 8)
  else (s.raise Reg.HIF_POOL_STAT_CREDERR_F).count (Reg.THK_RINGr_ERR_CREDERR r)

/-- Every credit is withdrawn (R30). -/
def Dev.thkWithdraw (s : Dev) : Dev :=
  { s with thk := s.thk.filterMap (fun x =>
      let y : RingSt := { x.2 with nodes := x.2.nodes.filterMap (fun n =>
        let m : NodeSt := { n.2 with cum := n.2.sent, creds := [] }
        if m = {} then none else some (n.1, m)) }
      if y = {} then none else some (x.1, y)) }

/-- Control-critical traffic finds its reservation empty (R25). -/
def Dev.resvEmpty (s : Dev) : Dev := (s.raise Reg.HIF_POOL_STAT_RESVERR_F).overrun 4

/-- Control-critical traffic of a lane takes `n` reserved granules and is handled with `f`. -/
def Dev.critical (s : Dev) (u n : Nat) (f : Dev → Dev) : Dev :=
  let a := s.critTake u n
  if a.1 then f a.2 else s.resvEmpty

/-- The types of control blocks (R237). -/
def blockTypes : List Nat := [0x1E, 0x78, 0x4B, 0x2D, 0x33, 0xAA, 0x55, 0x66, 0x87, 0x99, 0xB4, 0xCC]

/-- CELL and KIND of a TELEM record. -/
def telemCell (t : TelemRec) : Nat := t.payload / 2 ^ 50 % 64
def telemKind (t : TelemRec) : Nat := t.payload / 2 ^ 48 % 4

/-- What comes back to a receiver beside telemetry passes its CRC (R238): CRC-16 of an edge record and of a record, CRC-8 of the others, for FS with
its stamp. TRIP and BLOCK act whatever it is, and IDLE has none. -/
def returnOk (t : TelemRec) : Bool :=
  match t.type with
  | 0x1E => true
  | 0x55 => true
  | 0x66 => true
  | 0x78 => t.payload % 256 == crc8 (crcBytes t.payload ++ ((t.words.take 2).map wordBytes).flatten)
  | 0x4B =>
    let head : Word := BitVec.ofNat 32 (t.payload / 2 ^ 24)
    let ne := bits head 4 0
    decide (ne ≤ t.words.length) && t.payload / 256 % 2 ^ 16 == crcWords (head :: t.words.take ne)
  | 0x33 =>
    let len := t.payload / 2 ^ 36 % 256
    decide (len ≤ t.words.length) && t.payload % 2 ^ 16 == crcWords (t.words.take len)
  | _ => crc8Ok t.payload

/-- One record of a telemetry train; `held`: its lane has granules for base records. A block of no known type counts as a CRC error, and so does any
that fails its CRC; what else returns of the chip’s own traffic is stripped (R237–R239). -/
def Dev.telemRec (s : Dev) (r : Nat) (held : Nat → Bool) (t : TelemRec) : Dev :=
  let c := telemCell t
  let len := t.payload / 2 ^ 40 % 256
  let ws := t.words.take len
  if t.type ≠ 0x2D then (if blockTypes.contains t.type && returnOk t then s else s.crcErr r)
  else if t.words.length < len ∨ t.payload % 2 ^ 16 ≠ crcWords ws then s.crcErr r
  else
    match telemKind t with
    | 0 => if len ≠ 4 then s.crcErr r
      else if held (s.telLane r c) then
        s.setCells { s.cells with telNew := sset (fun _ => {}) s.cells.telNew (64 * r + c) (baseTel ws) }
      else s
    | 3 =>
      let x := s.node r c
      (s.setNode r c { x with reply := some (signed 32 (ws.getD 0 0).toNat, signed 32 (ws.getD 1 0).toNat, signed 32 (ws.getD 2 0).toNat) }).discFinish r
    | k => s.extTel r c k ws

/-- Granules for the base records of a train: 5 words each (R258). -/
def Dev.baseGranules (s : Dev) (r : Nat) (recs : List TelemRec) (u : Nat) : Nat :=
  cdiv (20 * (recs.filter (fun t => t.type == 0x2D && telemKind t == 0 && 2 * r + s.telLane r (telemCell t) == u)).length) 256

/-- A telemetry train arrives (R246). Base records take reserved granules until the tick latches them (R25); a train that finds none is an overrun,
and its base records are not taken. -/
def Dev.telemReceived (s : Dev) (r : Nat) (recs : List TelemRec) : Dev :=
  let n := s.baseGranules r recs
  let us := [2 * r, 2 * r + 1].filter (fun u => n u != 0)
  let e := s.serveUsers us (fun u t => some (t.critical u (n u) id))
  forEach recs (fun t d => d.telemRec r (fun lane => (s.user (2 * r + lane)).crit != (e.user (2 * r + lane)).crit) t) e

/-- A cell is not served fully under the fold plan of its ring: unserved (R254). -/
def Dev.unserved (s : Dev) (pos : Nat) : Bool :=
  let r := pos / 64
  let c := pos % 64
  if s.folded r then
    let e := s.get (Reg.THK_RINGr_STAT_SEG_E r)
    let w := s.get (Reg.THK_RINGr_STAT_SEG_W r)
    let h := s.ncell r - 1 - c
    (decide (c < e) && decide (s.get (Reg.THK_RINGr_STAT_SERV_E r) ≤ c)) ||
    (decide (h < w) && decide (s.get (Reg.THK_RINGr_STAT_SERV_W r) ≤ h))
  else false

/-- The tick latches the telemetry of the frame before into the image, whose granules are then free (R15, R246). Every frame without a base record
counts in MISS and toward cause 6. -/
def Dev.telemLatch (s : Dev) : Dev :=
  let s := forEach s.cells.recs (fun r t =>
    let old := sget (fun _ => {}) t.cells.tel r.pos
    let got := t.cells.telNew.find? (fun x => x.1 == r.pos)
    let new : CellTel := match got with
      | some x => x.2
      | none => { old with fresh := false, missed := satAdd 255 old.missed 1 }
    let new := if t.unserved r.pos then { new with ep9 := new.ep9 % 4096 + 5 * 4096 } else new
    let t := onlyIf got.isNone (·.count (Reg.THK_RINGr_ERR_MISS (r.pos / 64))) t
    t.setCells { t.cells with tel := sset (fun _ => {}) t.cells.tel r.pos new }) s
  let s := forEach (s.pool.users.filter (fun x => decide (x.1 < 32) && x.2.crit != 0)) (fun x t => t.critFree x.1 x.2.crit) s
  s.setCells { s.cells with telNew := [] }

/-! ### Credits (R26, R246) -/

/-- The lane users that grant credits: the one of an intact ring’s train, both of a folded ring (R234, R244). -/
def Dev.creditUsers (s : Dev) : List Nat :=
  ((List.range 16).filter s.ringServed).flatMap (fun r => if s.folded r then [2 * r, 2 * r + 1] else [2 * r + 1])

/-- The node of a train with the fewest credits outstanding, on a tie the lower position (log entry 20). -/
def Dev.creditNode (s : Dev) (u : Nat) : Option Nat :=
  let r := u / 2
  ((List.range (s.ncell r)).filter (fun c => 2 * r + s.telLane r c == u)).foldl (fun (best : Option Nat) c =>
    let left := fun k => ((s.node r k).cum + 256 - (s.node r k).sent) % 256
    if 126 < left c then best
    else match best with
      | none => some c
      | some b => if left c < left b then some c else best) none

/-- One credit on a lane: its granule, and the CREDIT block. -/
def Dev.creditOne (s : Dev) (u : Nat) : Option Dev :=
  match s.creditNode u, s.grantOne u with
  | some c, some t =>
    let x := t.node (u / 2) c
    let x := { x with cum := (x.cum + 1) % 256, creds := x.creds ++ [u] }
    some ((t.setNode (u / 2) c x).send (.thk u (ctlBlock 0x99 (c * 2 ^ 50 + x.cum * 2 ^ 42)) []))
  | _, _ => none

/-- The credits of a frame: at most XPF per lane, one of each lane after the other (R28, R246). -/
def Dev.thkCredits (s : Dev) : Dev :=
  let s := forEach s.creditUsers (fun u t => t.thkConsume u) s
  forEach (List.range s.xpf) (fun _ t => t.serveUsers t.creditUsers (fun u d => d.creditOne u)) s

/-! ### Alarms (R248) -/

/-- An ALARM block with its payload. -/
def Dev.alarmReceived (s : Dev) (r payload : Nat) : Dev :=
  if !crc8Ok payload then s.crcErr r
  else
    let w := 2 ^ 31 + payload / 2 ^ 46 % 16 * 2 ^ 16 + r * 2 ^ 10 + payload / 2 ^ 50 % 64 * 2 ^ 4
    let s := (s.raise Reg.THK_FLAG_ALARM_F).setReg Reg.THK_ALM (BitVec.ofNat 32 w)
    let s := { s with prt := { s.prt with alarmFrame := some s.frame } }
    s.latch (s.stamp 0) [0x25]

/-! ### Folds and heals (R252–R256) -/

/-- The loop node nearest to a port: east, the lowest position with SIDE 1; west, the highest with SIDE 0. -/
def eastLoop (l : List LoopNote) : Option LoopNote :=
  (l.filter (·.side == 1)).foldl (fun (b : Option LoopNote) x => match b with
    | none => some x
    | some y => if x.cell < y.cell then some x else b) none
def westLoop (l : List LoopNote) : Option LoopNote :=
  (l.filter (·.side == 0)).foldl (fun (b : Option LoopNote) x => match b with
    | none => some x
    | some y => if y.cell < x.cell then some x else b) none

/-- The segments the present notices give: SEG_E, SEG_W; none while one side of the break has not been heard. A break next to the chip
has the chip itself on its other side. -/
def segments (n : Nat) (l : List LoopNote) : Option (Nat × Nat) :=
  match eastLoop l, westLoop l with
  | some e, some w => some (e.cell + 1, n - w.cell)
  | none, some w => if w.cell = 0 then some (0, n) else none
  | some e, none => if e.cell + 1 = n then some (n, 0) else none
  | none, none => none

/-- The segments of a folded ring by the loop nodes now nearest to its ports; a port that has heard none keeps its segment (R256). -/
def Dev.refold (s : Dev) (r : Nat) : Nat × Nat :=
  let l := (s.ring r).notes
  ((eastLoop l).elim (s.get (Reg.THK_RINGr_STAT_SEG_E r)) (fun e => e.cell + 1),
   (westLoop l).elim (s.get (Reg.THK_RINGr_STAT_SEG_W r)) (fun w => s.ncell r - w.cell))

/-- The ring is planned as two segments in state `st` (R253, R254, R256). -/
def Dev.foldPlan (s : Dev) (r st e w : Nat) : Dev :=
  let se := s.servedLen r 0 e
  let sw := s.servedLen r 1 w
  let v := st * 2 ^ 29 + e * 2 ^ 22 + w * 2 ^ 15 + se * 2 ^ 8 + sw * 2
  let s := s.setReg (Reg.THK_RINGr_STAT r) (BitVec.ofNat 32 v)
  onlyIf (decide (se < e) || decide (sw < w)) (·.raise Reg.THK_FLAG_UNSRV_F) s

/-- A fold is declared: plan, FOLD_F, FOLDS and a log record. A heal under way is over. -/
def Dev.foldDeclare (s : Dev) (r st e w : Nat) : Dev :=
  let s := s.setRing r { s.ring r with healing := false }
  let s := ((s.foldPlan r st e w).raise Reg.THK_FLAG_FOLD_F).count (Reg.THK_RINGr_ERR_FOLDS r)
  s.logNow 8 1 (r + 256 * e + 65536 * w)

/-- The ring is intact again. -/
def Dev.ringIntact (s : Dev) (r : Nat) : Dev :=
  let s := (s.setReg (Reg.THK_RINGr_STAT r) 0#32).set (Reg.THK_RINGr_STAT_ST r) rsUP
  let s := s.setRing r { s.ring r with notes := [], healing := false, multiHeal := false }
  (s.raise Reg.THK_FLAG_HEAL_F).logNow 8 2 r

/-- Both loop nodes of a folded ring are READY. -/
def bothReady (l : List LoopNote) : Bool :=
  match eastLoop l, westLoop l with
  | some e, some w => e.ready && w.ready
  | some e, none => e.ready
  | none, some w => w.ready
  | none, none => false

/-- UNLOOP to both loop nodes (R255). -/
def Dev.unloopBoth (s : Dev) (r : Nat) : Dev :=
  let x := s.ring r
  let one := fun (n : Option LoopNote) (t : Dev) => match n with
    | some y => t.sendRecord r y.cell 4 0 []
    | none => t
  let s := one (westLoop x.notes) (one (eastLoop x.notes) s)
  s.setRing r { s.ring r with healing := true }

/-- A notice put among those present. -/
def noteSet (l : List LoopNote) (n : LoopNote) : List LoopNote :=
  if l.any (fun x => x.cell == n.cell && x.side == n.side) then
    l.map (fun x => if x.cell == n.cell && x.side == n.side then n else x)
  else l ++ [n]

/-- A LOOP block with its payload (R252, R253, R255, R256). -/
def Dev.loopNotice (s : Dev) (r payload : Nat) : Dev :=
  if !crc8Ok payload then s.crcErr r
  else if !s.ringEn r then s
  else
    let n : LoopNote := { cell := payload / 2 ^ 50 % 64, side := payload / 2 ^ 49 % 2, ready := payload / 2 ^ 48 % 2 == 1, frame := s.curN }
    let s := s.setRing r { s.ring r with notes := noteSet (s.ring r).notes n }
    if s.ringSt r = rsUP then
      match segments (s.ncell r) (s.ring r).notes with
      | some (e, w) => s.foldDeclare r rsFOLDED e w
      | none => s
    else if s.folded r then
      let seg := s.refold r
      let moved := seg != (s.get (Reg.THK_RINGr_STAT_SEG_E r), s.get (Reg.THK_RINGr_STAT_SEG_W r))
      if moved then s.foldDeclare r rsMULTI seg.1 seg.2
      else onlyIf (s.ringSt r == rsFOLDED && s.isOn Reg.THK_CFG_AUTOHEAL && bothReady (s.ring r).notes && !(s.ring r).healing) (·.unloopBoth r) s
    else s

/-- The states in which a MULTI heal or a rediscovery is allowed. -/
def stillStates : List Nat := [stCONFIG, stREADY, stBLOCKED, stTRIPPED]

/-- THK_CMD HEAL (R255, R256). -/
def Dev.thkHeal (s : Dev) (r : Nat) : Dev :=
  if s.ringSt r = rsMULTI then
    if s.stIn stillStates then s.setRing r { s.ring r with unloop := cdiv (s.ncell r) 2 + 2, multiHeal := true }
    else s.raise Reg.THK_FLAG_CMDREJ_F
  else if s.ringSt r = rsFOLDED && bothReady (s.ring r).notes then s.unloopBoth r
  else s.raise Reg.THK_FLAG_CMDREJ_F

/-- THK_CMD rediscovery (R241, R259). -/
def Dev.thkRediscover (s : Dev) (r : Nat) : Dev :=
  if s.stIn stillStates then s.discStart r else s.raise Reg.THK_FLAG_CMDREJ_F

/-- Notices of one break: at most one from each side, from the two nodes beside a lost span or a lost node, or from the node next to the chip
(R256, log entry 20). -/
def singleBreak (n : Nat) (l : List LoopNote) : Bool :=
  match l.filter (·.side == 1), l.filter (·.side == 0) with
  | [e], [w] => decide (e.cell < w.cell) && decide (w.cell ≤ e.cell + 2)
  | [e], [] => e.cell + 1 == n
  | [], [w] => w.cell == 0
  | _, _ => false

/-- The end of a MULTI heal (R256): the notices of the present and the last frame decide. -/
def Dev.multiHealEnd (s : Dev) (r : Nat) : Dev :=
  let x := s.ring r
  if s.ringSt r ≠ rsMULTI || !x.multiHeal || x.unloop ≠ 0 then s
  else
    let now := x.notes.filter (fun n => decide (s.curN ≤ n.frame + 1))
    let s := s.setRing r { x with notes := now, multiHeal := false }
    if now.isEmpty then s.ringIntact r
    else
      let seg := (segments (s.ncell r) now).getD (s.refold r)
      s.foldPlan r (if singleBreak (s.ncell r) now then rsFOLDED else rsMULTI) seg.1 seg.2

/-! ### The tick (R240, R247, R252, R255, R256) -/

/-- Heals whose UNLOOP has been received are complete at the tick. -/
def Dev.thkHealed (s : Dev) : Dev := forEach ((List.range 16).filter s.ringEn) (fun r t => onlyIf (t.ring r).healing (·.ringIntact r) t) s

/-- FS on a lane; where in the block the tick falls is a free value. -/
def Dev.fsSend (s : Dev) (u : Nat) : Dev :=
  s.critical u 1 (fun s =>
    let f := s.free
    let b := f.2.fsBlock (u / 2) (u % 2) (f.1.toNat % 170) f.2.tickStamp
    (f.2.send (.thk u b.1 b.2)).critFree u 1)

/-- TRIP on a lane directly after its FS, while the matrix output is active (R247); it needs no granule of the pool (R18). -/
def Dev.tripRepeat (s : Dev) (u : Nat) : Dev :=
  onlyIf (s.isOn Reg.PRT_STAT_OUT) (fun v => v.send (.thk u (v.tripBlock (v.get Reg.PRT_FIRST_CODE)) [])) s

/-- What else goes out at the tick on a ring: UNLOOP frames of a MULTI heal, and LOOPCMD for a break heard from one side, on the lane that reaches
the node beyond it. -/
def Dev.ringTick (s : Dev) (r : Nat) : Dev :=
  let x := s.ring r
  let s := if 0 < x.unloop then (s.sendBoth r 127 4 0 []).setRing r { x with unloop := x.unloop - 1 } else s
  if s.ringSt r = rsUP then
    match eastLoop (s.ring r).notes, westLoop (s.ring r).notes with
    | some e, none => s.send (.thk (2 * r + 1) (recordBlock (e.cell + 1) 3 0 []) [])
    | none, some w => s.send (.thk (2 * r) (recordBlock (w.cell - 1) 3 0 []) [])
    | _, _ => s
  else s

/-- The tick sends FS on both transmitters of every enabled ring, from the first PLL lock on. -/
def Dev.thkTick (s : Dev) : Dev :=
  let rs := (List.range 16).filter s.ringEn
  let us := rs.flatMap (fun r => [2 * r, 2 * r + 1])
  let s := forEach us (fun u t => t.tripRepeat u) (s.serveUsers us (fun u t => some (t.fsSend u)))
  forEach rs (fun r t => t.ringTick r) s

/-! ### Edge records on the ring (R243, R253, R254) -/

/-- The order in which a port sends the records of its cells: farthest first, the unserved before the others. -/
def Dev.sendOrder (s : Dev) (r port : Nat) : List Nat :=
  let n := s.ncell r
  let m := if s.folded r then s.get (if port = 0 then Reg.THK_RINGr_STAT_SEG_E r else Reg.THK_RINGr_STAT_SEG_W r)
    else if port = 0 then cdiv n 2 else n / 2
  let k := if s.folded r then s.get (if port = 0 then Reg.THK_RINGr_STAT_SERV_E r else Reg.THK_RINGr_STAT_SERV_W r) else m
  let l := (s.segment r port m).map (·.1)
  (l.drop k).reverse ++ (l.take k).reverse

/-- The records a lane sends, in sending order; an unserved cell gets a one-block record with BLK and BYP. -/
def Dev.laneRecords (s : Dev) (recs : List EdgeRec) (u : Nat) : List EdgeRec :=
  (s.sendOrder (u / 2) (u % 2)).filterMap (fun pos => (recs.find? (fun e => e.pos == pos)).map (fun e =>
    if s.unserved pos then { e with head := BitVec.ofNat 32 (pos % 64 * 2 ^ 26 + 3 * 2 ^ 24), entries := [] } else e))

/-- Granules of some records. -/
def edgeGranules (l : List EdgeRec) : Nat := cdiv (4 * l.foldl (fun a e => a + 1 + e.entries.length) 0) 256

/-- The records of a lane go out, in granules of its reservation (R25); nothing once the frame is discarded (R62). -/
def Dev.laneSend (s : Dev) (recs : List EdgeRec) (u : Nat) : Dev :=
  let l := s.laneRecords recs u
  if s.frm.overrun then s
  else
    s.critical u (edgeGranules l) (fun s =>
      (forEach l (fun e t => t.send (.thk u (edgeBlock e).1 (edgeBlock e).2)) s).critFree u (edgeGranules l))

/-- The records of a dispatch go out. -/
def Dev.thkDispatch (s : Dev) (recs : List EdgeRec) : Dev :=
  let us := ((List.range 16).filter s.ringServed).flatMap (fun r => [2 * r, 2 * r + 1])
  s.serveUsers (us.filter (fun u => !(s.laneRecords recs u).isEmpty)) (fun u t => some (t.laneSend recs u))

end Sys2Proof.Machine
end

