-- ==== Sys2Proof/Machine/Krekai.lean ====
section
/-! DEFINITION. Krekai: the station table, joining, heartbeats, the partition rule, views, orphans, slots and sums (R260–R279, R284).
Conventions the spec leaves open are in log entry 21. -/

namespace Sys2Proof.Machine

/-- The rejected offsets of the table by itself (R265). -/
def tableOwn (t : List Byte) : List Nat :=
  badAt (decide (511 < stKeystone t) || !stPresent t (stKeystone t) || stVote t (stKeystone t) == 0) 0 ++
  badAt (decide (6 < stRate t)) 2 ++ badAt (decide (1 < stMode t)) 3 ++
  badAt (decide (stGrace t < 1) || decide (200 < stGrace t)) 4 ++
  badAt (decide (stMissf t < 2) || decide (15 < stMissf t)) 5 ++ badAt (decide (stTout t < 4)) 6 ++
  badAt (byteAt t 7 != 0) 7 ++ badAt (!zeroSlice t 20 44) 20 ++
  ((List.range 512).filter (fun i => decide (64 ≤ byteAt t (64 + i)) || (stHead t i && !stPresent t i))).map (· + 64) ++
  (List.range 32).flatMap (fun b =>
    let heads := (List.range 16).filter (fun c => stHead t (16 * b + c))
    badAt (decide (2 ≤ heads.length)) (64 + 16 * b + heads.getD 1 0) ++
      badAt (heads.isEmpty && !(bayChips t b).isEmpty) (64 + 16 * b + 15)) ++
  ((List.range 256).filter (fun s =>
    decide (5 ≤ stKind t s) || leAt t (576 + 2 * s) 2 / 512 % 16 != 0 || (stKind t s == 1 && !stPresent t (stOwner t s)))).map
      (fun s => 576 + 2 * s)

/-- IN0 of the CELLSWEEP context names broadcast slots from this one on. -/
def Dev.sweepBase (s : Dev) : Option Nat :=
  match s.sweepImg with
  | some b => if selClass (imgIn b 0) = 7 then some (selIndex (imgIn b 0)) else none
  | none => none

/-- The rejected offsets against the structures that are loaded (R265, R266). -/
def Dev.tableOthers (s : Dev) (t : List Byte) : List Nat :=
  badAt (stRate t != s.get Reg.FRM_CFG_RATE) 2 ++
  badAt (!s.cells.map.isEmpty && stMode t != byteAt s.cells.map 0) 3 ++
  (if s.grid.profile.isEmpty then []
   else
    let g := byteAt s.grid.profile 5
    ((List.range 11).filter (fun i => stKind t (g + i) != 3)).map (fun i => 576 + 2 * (g + i))) ++
  (match s.sweepBase with
   | none => []
   | some b => ((List.range 60).filter (fun i => stKind t (b + i) != 2)).map (fun i => 576 + 2 * (b + i)))

/-! ### Membership registers -/

/-- The membership state becomes `m`; a change sets HIF_EVT.MEMBER (R365). -/
def Dev.member (s : Dev) (m : Nat) : Dev := if s.mst = m then s else (s.set Reg.KRK_STAT_MST m).event Reg.HIF_EVT_MEMBER
def Dev.lsFrames (s : Dev) : Nat := s.get Reg.KRK_STAT_LS
def Dev.laFrames (s : Dev) : Nat := s.get Reg.KRK_STAT_LA
def Dev.setReach (s : Dev) (i : Nat) (b : Bool) : Dev := s.setB ⟨0x3900 + 4 * (i / 32), i % 32, i % 32⟩ b
def Dev.reach (s : Dev) (i : Nat) : Bool := s.isOn ⟨0x3900 + 4 * (i / 32), i % 32, i % 32⟩
/-- The reachable chips that the table names. -/
def Dev.reachSet (s : Dev) : List Nat := (stChips s.krk.table).filter s.reach
/-- The chips a member counts on: the reachable ones and, until the commit, those it has lost (R271). -/
def Dev.planSet (s : Dev) : List Nat := (stChips s.krk.table).filter (fun i => s.reach i || s.krk.losses.any (fun x => x.2 == i))
/-- The chip forms a station alone (R204). -/
def Dev.alone (s : Dev) : Bool := decide ((stChips s.krk.table).length ≤ 1)
/-- The bay of the chip’s position: 0 on a chip alone (R204). -/
def Dev.gridBay (s : Dev) : Nat := if s.alone then 0 else s.chipIndex / 16
/-- The bays with a chip in the governing partition (NG of R205). -/
def Dev.bayCount (s : Dev) : List Nat :=
  if s.mst = mMEMBER && !s.alone then (List.range 32).filter (fun b => s.planSet.any (fun i => i / 16 == b)) else [s.gridBay]

/-! ### Latency (R279) -/

/-- TSRC and TSUM in hundredths of ns. -/
def Dev.tsrc100 (s : Dev) : Nat :=
  let t := s.krk.table
  let c := (stBays t).foldl (fun a b => max a (bayChips t b).length) 0
  200000 + 10000 * (2 * (c - 1) + ((stBays t).length - 1)) + 100 * s.krk.fibre
def Dev.tsum100 (s : Dev) : Nat :=
  2 * s.tsrc100 + 2112 * ((List.range 256).filter (fun k => stKind s.krk.table k == 2)).length

/-- LS, LA. -/
def Dev.latencies (s : Dev) : Nat × Nat :=
  let cmp := 500 * s.get Reg.FRM_PHASE_CMP_END
  let p := 500 * periodClk (s.get Reg.FRM_CFG_RATE)
  (cdiv (cmp + s.tsrc100) p, cdiv (cmp + s.tsum100) p)

/-! ### Joining (R268) -/

/-- The first check an identity fails: its code and the chip; 0 codes none. -/
def Dev.joinCheck (s : Dev) (port : Nat) (x : Ident) : Option (Nat × Nat) :=
  let t := s.krk.table
  let l := s.latencies
  if x.crc ≠ (s.reg Reg.KRK_TBLCRC).toNat then some (1, x.chip)
  else if x.rate ≠ s.get Reg.FRM_CFG_RATE then some (2, x.chip)
  else if x.mode ≠ b2n s.mmc then some (3, x.chip)
  else if x.chip = s.ownIndex then some (4, x.chip)
  else if !stPresent t s.ownIndex then some (5, x.chip)
  else if x.neighbour && portChip t s.ownIndex port != some x.chip then some (6, x.chip)
  else if 2 < l.1 || 3 < l.2 then some (7, x.chip)
  else if !s.grid.profile.isEmpty && decide (byteAt s.grid.profile 4 < l.1) then some (8, x.chip)
  else none

/-- The checks that need no other chip. -/
def Dev.joinOwn (s : Dev) : Option (Nat × Nat) :=
  let l := s.latencies
  if !stPresent s.krk.table s.ownIndex then some (5, s.ownIndex)
  else if 2 < l.1 || 3 < l.2 then some (7, s.ownIndex)
  else if !s.grid.profile.isEmpty && decide (byteAt s.grid.profile 4 < l.1) then some (8, s.ownIndex)
  else none

/-- The grid role of a position (R204). -/
def Dev.gridRole (s : Dev) : Nat :=
  let p := s.grid.profile
  if s.alone then 1
  else if byteAt p 0 * 16 + byteAt p 1 = s.ownIndex then 1
  else if byteAt p 2 ≠ 0xFF && byteAt p 2 * 16 + byteAt p 3 == s.ownIndex then 2 else 0

/-- The join is done: the latencies stand, heartbeats begin, and the chip is JOINING until the partition rule at a tick. -/
def Dev.joinDone (s : Dev) : Dev :=
  let l := s.latencies
  let s := (s.set Reg.KRK_STAT_LS l.1).set Reg.KRK_STAT_LA l.2
  let s := (s.set Reg.KRK_LAT_TSRC (cdiv s.tsrc100 500)).set Reg.KRK_LAT_TSUM (cdiv s.tsum100 500)
  let s := s.set Reg.KRK_VOTES_VTOTAL (stVotes s.krk.table)
  let s := (s.setKrk { s.krk with joined := true, joinCmd := none, hadSource := false }).member mJOINING
  let role := if s.grid.fixed then s.grid.role else s.gridRole
  let s := { s with grid := { s.grid with role := role, fixed := true, issuing := role == 1 && !s.grid.stepped } }
  s.setReach s.ownIndex true

/-- The reply of a failed join. -/
def Dev.joinFail (s : Dev) (c : Nat × Nat) : Dev × Reply :=
  let s := s.raise Reg.KRK_FLAG_JOINERR_F
  let s := s.setKrk { s.krk with joinCmd := none, fibre := 0 }
  let s := forEach (List.range 4) (fun p t => t.set (Reg.KRK_PORTp_STAT_LINK p) 0) s
  (s, { status := sBAD_PARAM, detail := c.1 + 256 * c.2 })

/-- The identity this chip sends (R268): index, table CRC-32, frame rate, topology, protocol version, and what it found of the other chip. -/
def Dev.ownIdentity (s : Dev) (code : Nat) : List Byte :=
  toLe s.ownIndex 2 ++ wordBytes (s.reg Reg.KRK_TBLCRC) ++ [BitVec.ofNat 8 (s.get Reg.FRM_CFG_RATE), BitVec.ofNat 8 (b2n s.mmc)] ++
    toLe (s.get Reg.IMG_KPROTO_RUNKP) 2 ++ [BitVec.ofNat 8 code]

/-- It goes out on a port. -/
def Dev.identitySend (s : Dev) (port dest code : Nat) : Dev := s.portSend port 8 dest (s.ownIdentity code)

/-- The bytes of the identity of another chip. -/
def identBytes (x : Ident) : List Byte :=
  toLe x.chip 2 ++ toLe x.crc 4 ++ [BitVec.ofNat 8 x.rate, BitVec.ofNat 8 x.mode] ++ toLe x.kproto 2 ++ [BitVec.ofNat 8 x.code]

/-- An identity for every chip goes on round its ring; of the two copies that come round a ring the first also goes to the other ring (R261). -/
def Dev.identityOn (s : Dev) (port : Nat) (x : Ident) : Dev :=
  let mate := port + 1 - 2 * (port % 2)
  let second := s.krk.idGot.contains (x.chip, mate)
  let got := if second then s.krk.idGot.filter (· != (x.chip, mate)) else s.krk.idGot ++ [(x.chip, port)]
  (s.setKrk { s.krk with idGot := got }).krkForward port x.chip 8 (identBytes x) (!second)

/-- STN_JOIN (R268): the ports of the table start training, and identities go out on those that are up. A chip with no enabled port has
nobody to exchange identities with. -/
def bodyStnJoin (src : Src) (p : Packet) (s : Dev) : Ans :=
  if s.krk.table.isEmpty then ansBad s sNOT_READY 0
  else if s.krk.joined then ansRes s [BitVec.ofNat 8 s.mst]
  else if s.krk.joinCmd.isSome then ansBad s sBUSY 0
  else
    let s := s.setKrk { s.krk with fibre := 0 }
    match s.joinOwn with
    | some c => let r := s.joinFail c; (r.1, some r.2)
    | none =>
      let ps := (List.range 4).filter (fun q => (portChip s.krk.table s.ownIndex q).isSome)
      if ps.isEmpty then
        let s := s.joinDone
        ansRes s [BitVec.ofNat 8 s.mst]
      else
        let s := forEach ps (fun q t =>
          let t := if t.linkUp q then t else t.set (Reg.KRK_PORTp_STAT_LINK q) 1
          t.identitySend q 512 0) s
        ansLater (s.setKrk { s.krk with joinCmd := some (src, p) })

/-- The register that names a port’s neighbour follows its identity (R285). -/
def Dev.neighbourShown (s : Dev) (port : Nat) (x : Ident) : Dev :=
  if x.neighbour && s.linkUp port then s.set (Reg.KRK_PORTp_STAT_NEIGH port) x.chip else s

/-- An identity exchange (R268). A chip of the station checks the other chip and answers with its own identity and what it found. A chip that
joins checks the other chip and is told what that chip found; with `last` the exchange of the join is complete. Answers the reply of a waiting
STN_JOIN. An incompatible protocol version is VERSION_REJECT (R411: versions differing by at most 1 are compatible). -/
def Dev.identity (s : Dev) (port : Nat) (peer : Option Ident) (last : Bool) (kproto : Nat) : Dev × Option (Src × Packet × Reply) :=
  let s := match peer with
    | some x => s.neighbourShown port x
    | none => s
  match s.krk.joinCmd with
  | none =>
    match peer with
    | some x => (if s.krk.joined then s.identitySend port x.chip (((s.joinCheck port x).map (·.1)).getD 0) else s, none)
    | none => (s, none)
  | some (src, p) =>
    let s := match peer with
      | some x => s.setKrk { s.krk with fibre := max s.krk.fibre x.fibre }
      | none => s
    let bad := match peer with
      | some x => (s.joinCheck port x).or (if x.code = 0 then none else some (x.code, x.chip))
      | none => s.joinOwn
    let ver := match peer with
      | some x => decide (x.kproto + 1 < kproto) || decide (kproto + 1 < x.kproto)
      | none => false
    if ver then
      let r := s.joinFail (0, 0)
      (r.1, some (src, p, { status := sVERSION_REJECT }))
    else
      match bad with
      | some c => let r := s.joinFail c; (r.1, some (src, p, r.2))
      | none =>
        if last then
          let s := s.joinDone
          (s, some (src, p, { status := sOK, result := [BitVec.ofNat 8 s.mst] }))
        else (s, none)

/-- The chip leaves the station (STN_LEAVE, and CONFIG): heartbeats stop and the ports are disabled (R284). VT stays the table’s (R267). It counts no
redundancy any more, so source 0x27 is not active (R274, R286). Transactions and a STN_JOIN on their way come to their own end. -/
def Dev.leaveStation (s : Dev) : Dev :=
  let s := s.member mNONE
  let k := s.krk
  let s := s.setKrk { table := k.table, area := k.area, nextTxn := k.nextTxn, txns := k.txns, preps := k.preps, joinCmd := k.joinCmd, inbox := k.inbox }
  let s := forEach (List.range 16) (fun k t => t.setReg (Reg.KRK_REACHk k) 0#32) s
  let s := forEach (List.range 4) (fun p t => t.setReg (Reg.KRK_PORTp_STAT p) 0#32) s
  let s := (s.setReg Reg.KRK_STAT 0#32).set Reg.KRK_VOTES_VREACH 0
  let s := { s with grid := { s.grid with issuing := false }, prt := { s.prt with redStation := false } }
  let s := s.setB Reg.CLK_STAT_UNSYNC true
  { s with clk := { s.clk with inRun := 0 } }

/-! ### Heartbeats and reachability (R269) -/

/-- The bytes of a heartbeat: chip index, frame number, device state, Krekai protocol version. -/
def beatBytes (chip frame state kproto : Nat) : List Byte := toLe chip 2 ++ toLe frame 4 ++ [BitVec.ofNat 8 state] ++ toLe kproto 2

/-- A heartbeat of `frame` came in on a port: each port on which the copies of one frame come ends a path that is up (R263). -/
def Peer.seen (p : Peer) (port frame : Nat) : Peer :=
  if p.viaFrame = frame then { p with viaNow := p.viaNow ||| 2 ^ port } else { p with via := p.viaNow, viaNow := 2 ^ port, viaFrame := frame }

/-- A block that comes in on a port: nothing comes while the link is down, and one that fails its check is discarded and counted (R285). -/
def Dev.blockIn (s : Dev) (port : Nat) (ok : Bool) (f : Dev → Dev) : Dev :=
  if !s.linkUp port then s else if !ok then s.count (Reg.KRK_PORTp_ERR_CRCERR port) else f s

/-- A heartbeat arrives on a port and goes on round its ring (R261, R269). A chip that is not in the station only passes it on (log entry 21). -/
def Dev.heartbeat (s : Dev) (port chip frame state kproto : Nat) : Dev :=
  if !s.krk.joined then s.krkForward port chip 1 (beatBytes chip frame state kproto) false
  else if !stPresent s.krk.table chip || chip == s.ownIndex then s
  else
    let p : Peer := sget (fun _ => {}) s.krk.peers chip
    let first := p.viaFrame != frame || p.viaNow == 0
    let p := p.seen port frame
    let p := { p with heard := (if first then p.heard ++ [frame] else p.heard), state := state, kproto := kproto,
                      missed := if s.reach chip then p.missed else 0 }
    let k := s.krk
    let s := s.setKrk { k with peers := sset (fun _ => {}) k.peers chip p,
                               losses := k.losses.filter (fun x => x.2 != chip), held := k.held.filter (fun x => x.1 != chip) }
    (s.setReach chip true).krkForward port chip 1 (beatBytes chip frame state kproto) first

/-- The heartbeat this chip sends in its dispatch phase (R269), and the time words of its links (R275). -/
def Dev.heartbeatSend (s : Dev) (kproto : Nat) : Dev :=
  if s.krk.joined then
    let s := s.krkCast 1 (beatBytes s.ownIndex s.frame s.st kproto)
    forEach (List.range 4) (fun q t => t.portSend q 9 512 (toLe (t.stamp 0) 8)) s
  else s

/-- One peer judged at tick N for frame N − LS: the losses found. -/
def Dev.judge (s : Dev) (chip : Nat) : Dev :=
  let k := (s.curN + 2 ^ 32 - s.lsFrames) % 2 ^ 32
  let p : Peer := sget (fun _ => {}) s.krk.peers chip
  let got := p.heard.contains k
  let p := { p with missed := if got then 0 else satAdd 255 p.missed 1,
                    heard := p.heard.filter (fun f => f != k && decide ((f + 2 ^ 32 - k) % 2 ^ 32 < 2 ^ 31)) }
  let s := s.setKrk { s.krk with peers := sset (fun _ => {}) s.krk.peers chip p }
  if stMissf s.krk.table ≤ p.missed then
    let k := s.krk
    (s.setKrk { k with losses := k.losses ++ [(s.curN, chip)], held := k.held ++ [(chip, s.curN)] }).setReach chip false
  else s

/-! ### The partition rule (R270) -/

/-- The reachable set governs. -/
def Dev.governs (s : Dev) : Bool :=
  let v := s.reachSet.foldl (fun a i => a + stVote s.krk.table i) 0
  let vt := stVotes s.krk.table
  decide (vt < 2 * v) || (2 * v == vt && s.reach (stKeystone s.krk.table))

/-- The states in which a chip that does not govern is JOINING. -/
def joiningStates : List Nat := [stBOOT, stCONFIG, stREADY, stBLOCKED, stTRIPPED]

/-- The port that faces the time parent, 0 on the time source (R275, R285). -/
def Dev.parentFollow (s : Dev) : Dev :=
  if s.mst ≠ mMEMBER then s
  else s.set Reg.KRK_STAT_PARPORT (if s.isOn Reg.KRK_STAT_TSRC then 0 else s.portTo (s.get Reg.KRK_STAT_TSIDX))

/-- Time source and parent (R275, R276). A time source measures no offset; by the model’s choice (DESIGN CHOICE) it is synchronised from the tick on at which it is one, once its clock is not in bypass; the chip alone is at the end of station formation whatever its clock is
in (R48), and after a later bypass as any other (DESIGN CHOICE, log entry 61). -/
def Dev.timeSource (s : Dev) : Dev :=
  if s.mst ≠ mMEMBER then
    let s := (s.set Reg.KRK_STAT_TSRC 0).setB Reg.CLK_STAT_UNSYNC true
    let s := s.setKrk { s.krk with hadSource := false }
    { s with clk := { s.clk with inRun := 0 } }
  else
    let key := stKeystone s.krk.table
    let src := if s.planSet.contains key then key else s.planSet.headD s.ownIndex
    let s := onlyIf (s.krk.hadSource && s.get Reg.KRK_STAT_TSIDX != src) (·.raise Reg.KRK_FLAG_TSRCCHG_F) s
    let own := src == s.ownIndex
    let formed := s.alone && !s.krk.hadSource
    let s := ((s.set Reg.KRK_STAT_TSIDX src).setB Reg.KRK_STAT_TSRC own).parentFollow
    let s := s.setKrk { s.krk with hadSource := true }
    let s := { s with clk := { s.clk with tree := true } }
    if own && s.unsync && (formed || !s.freerun) then s.setB Reg.CLK_STAT_UNSYNC false else s

/-- The chip enters ORPHAN (R272). -/
def Dev.orphanEntry (s : Dev) : Dev :=
  let s := (s.raise Reg.KRK_FLAG_ORPH_F).member mORPHAN
  let s := s.setKrk { s.krk with orphanN := s.curN, orphanRamp := false, orphanOut := false }
  let s := { s with grid := { s.grid with issuing := false } }
  s.enter stORPHAN causeMembership

/-- The rule at a tick. A member again after ORPHAN is BLOCKED (R272). -/
def Dev.partition (s : Dev) : Dev :=
  let v := s.reachSet.foldl (fun a i => a + stVote s.krk.table i) 0
  let s := (s.set Reg.KRK_VOTES_VREACH v).setB Reg.KRK_STAT_KEYIN (s.reach (stKeystone s.krk.table))
  let s :=
    if s.governs then
      let s := s.member mMEMBER
      if s.st = stORPHAN then s.enter stBLOCKED causeMembership else s
    else if s.stIn joiningStates then s.member mJOINING
    else if s.st = stORPHAN then s.member mORPHAN
    else s.orphanEntry
  s.timeSource

/-! ### Slots and sums (R273, R277, R278) -/

/-- The image value of a slot. -/
def Dev.slot (s : Dev) (k : Nat) : Word := sget (fun _ => 0) s.krk.slots k

/-- An FP32 contribution as 64-bit fixed point with 16 fraction bits, rounded to nearest and saturated. -/
def toFixed (w : Word) : Int := max (-(2 ^ 63 : Int)) (min (2 ^ 63 - 1 : Int) (fRoundInt w 16))

/-- A number of frames in a number of milliseconds: the first tick at or after. -/
def Dev.msFrames (s : Dev) (ms : Nat) : Nat := cdiv (msTU ms) s.frameTU

/-- What stays of the contribution of a chip that is held: all until GRACE after the detection, then scaled down over 10 ms (R273). -/
def Dev.heldPart (s : Dev) (chip : Nat) (v : Int) : Int :=
  match s.krk.held.find? (fun x => x.1 == chip) with
  | none => v
  | some (_, n) =>
    let k := s.curN - (n + s.msFrames (stGrace s.krk.table))
    let m := s.msFrames 10
    if m ≤ k then 0 else rneDiv (v * ((m - k : Nat) : Int)) m

/-- The exact sum of a KIND 2 slot over the chips that `p` admits. -/
def Dev.slotSum (s : Dev) (k : Nat) (p : Nat → Bool) : Int :=
  ((s.krk.contrib.filter (fun x => x.1 / 512 == k && p (x.1 % 512))).map (fun x => s.heldPart (x.1 % 512) x.2)).foldl (· + ·) 0

/-- A sum delivered in FP32, saturated at ±2^47 (R277). -/
def sumOut (v : Int) : Bool × Word :=
  let lim : Int := 2 ^ 63
  if lim < v.natAbs then (true, fOfInt (if v < 0 then -lim else lim) (-16)) else (false, fOfInt v (-16))

/-- The order in which values of one tick are taken, each after those it prevails over: by due tick and arrival stamp; the lower chip index
last; then the lower rank (R16, R278). -/
def slotBefore (a b : SlotVal) : Bool :=
  decide (a.due < b.due) || (a.due == b.due && (decide (a.stamp < b.stamp) || (a.stamp == b.stamp &&
    (decide (b.chip < a.chip) || (a.chip == b.chip && decide (b.rank < a.rank))))))

/-- A value put in order among those on their way. -/
def slotInsert (v : SlotVal) : List SlotVal → List SlotVal
  | [] => [v]
  | x :: t => if slotBefore v x then v :: x :: t else x :: slotInsert v t

/-- The delay in frames from the frame of a write to its image (R278). -/
def Dev.slotDelay (s : Dev) (slot : Nat) : Nat :=
  match stKind s.krk.table slot with
  | 2 => s.laFrames
  | 4 => s.lsFrames + 1
  | _ => s.lsFrames

/-- A slot value on its way; late when its tick has passed: the slot keeps its value and SLOTERR_F sets (R279). -/
def Dev.slotArrive (s : Dev) (v : SlotVal) : Dev :=
  if stKind s.krk.table v.slot = 0 || !s.krk.joined then s
  else if v.due ≤ s.curN && v.chip ≠ s.ownIndex then s.raise Reg.KRK_FLAG_SLOTERR_F
  else s.setKrk { s.krk with flight := slotInsert v s.krk.flight }

/-- The bytes of a slot update: slot, writer, its frame, value, arrival stamp and rank. -/
def updateBytes (v : SlotVal) (frame : Nat) : List Byte :=
  toLe v.slot 2 ++ toLe v.chip 2 ++ toLe frame 4 ++ toLe (toBits 64 v.value) 8 ++ toLe v.stamp 8 ++ [BitVec.ofNat 8 v.rank]

/-- A slot update from another chip, which goes on round its ring (R261, R278). The owner of a KIND 1 slot alone writes it. A chip that is not in the
station only passes it on (log entry 21). -/
def Dev.slotUpdate (s : Dev) (port slot chip frame : Nat) (value : Int) (stamp rank : Nat) : Dev :=
  let v : SlotVal := { slot := slot, chip := chip, due := frame + s.slotDelay slot, value := value, stamp := stamp, rank := rank }
  if !s.krk.joined then s.krkForward port chip 2 (updateBytes v frame) false
  else if chip == s.ownIndex then s
  else
    let first := !(s.krk.got.contains v || s.krk.flight.contains v)
    let s := s.setKrk { s.krk with got := s.krk.got.filter (fun x => !(x.slot == slot && x.chip == chip)) ++ [v] }
    let s := if first && !(stKind s.krk.table slot == 1 && stOwner s.krk.table slot != chip) then s.slotArrive v else s
    s.krkForward port chip 2 (updateBytes v frame) first

/-- A value this chip writes in the present frame, sent to every member. A host’s write has its arrival stamp and its queue’s rank (R16). -/
def Dev.slotWrite (s : Dev) (slot : Nat) (value : Int) (rank : Nat := 0) : Dev :=
  let v : SlotVal := { slot := slot, chip := s.ownIndex, due := s.curN + s.slotDelay slot, value := value,
                        stamp := (if stKind s.krk.table slot = 4 then s.host.arrived else 0), rank := rank }
  let s := s.slotArrive v
  if s.krk.joined && stKind s.krk.table slot ≠ 0 then s.krkCast 2 (updateBytes v s.frame) else s

/-- An FP32 output with DEST 5 (R113): owned source slots and sum slots. -/
def Dev.aggWrite (s : Dev) (slot : Nat) (w : Word) : Dev :=
  match stKind s.krk.table slot with
  | 1 => if stOwner s.krk.table slot = s.ownIndex then s.slotWrite slot w.toNat else s
  | 2 => s.slotWrite slot (toFixed w)
  | _ => s

/-- The image of the slots at a tick; in ORPHAN they keep their last values (R272). -/
def Dev.slotLatch (s : Dev) : Dev :=
  let due := s.krk.flight.filter (fun v => decide (v.due ≤ s.curN))
  let rest := s.krk.flight.filter (fun v => decide (s.curN < v.due))
  let s := s.setKrk { s.krk with flight := rest }
  let s := forEach due (fun v t =>
    if stKind t.krk.table v.slot = 2 then t.setKrk { t.krk with contrib := sset (fun _ => 0) t.krk.contrib (v.slot * 512 + v.chip) v.value }
    else if t.st = stORPHAN then t
    else t.setKrk { t.krk with slots := sset (fun _ => 0) t.krk.slots v.slot (BitVec.ofNat 32 (toBits 32 v.value)) }) s
  if s.st = stORPHAN then s
  else
    forEach ((List.range 256).filter (fun k => stKind s.krk.table k == 2)) (fun k t =>
      let r := sumOut (t.slotSum k (fun _ => true))
      let t := onlyIf r.1 (·.raise Reg.KRK_FLAG_SUMOVF_F) t
      t.setKrk { t.krk with slots := sset (fun _ => 0) t.krk.slots k r.2 }) s

/-- S_a of the cell sweep (R149): the slot of the station sum, or the section’s own latched value when IN0 is CLASS 0 and in ORPHAN
(R272). -/
def Dev.stationSum (s : Dev) (a : Nat) : Word :=
  match s.sweepBase with
  | some b => if s.st = stORPHAN then s.cells.aggTick.getD a 0 else s.slot (b + a)
  | none => s.cells.aggTick.getD a 0

/-! ### Redundancy and views (R271, R274) -/

/-- The active count of a group over the station, without any held contribution; as 16-fraction-bit fixed point. A chip whose loss is not
committed yet still counts (R271). -/
def Dev.activeCount (s : Dev) (g : Nat) : Int :=
  match s.sweepBase with
  | some b => s.slotSum (b + 12 + g) (fun c => !s.krk.held.any (fun x => x.1 == c) || s.krk.losses.any (fun x => x.2 == c))
  | none => toFixed (s.cells.aggTick.getD (12 + g) 0)

/-- The count of some group is below its minimum. -/
def Dev.redShort (s : Dev) : Bool :=
  (List.range 6).any (fun g =>
    let n := stSnmin s.krk.table g
    n != 0 && decide (s.activeCount g < (n * 65536 : Nat)))

/-- The states in which R274 counts every frame. -/
def countStates : List Nat := [stPRECHARGE, stSYNC, stRUN, stRIDETHROUGH, stHOLD]

/-- The redundancy check. -/
def Dev.redCheck (s : Dev) : Dev :=
  let short := s.mst == mMEMBER && s.redShort
  let s := { s with prt := { s.prt with redStation := short } }
  if short then (s.raise Reg.KRK_FLAG_REDTRIP_F).latch (s.stamp 0) [0x27] else s

/-- The address word of a chip, SCOPE 3 (R20). -/
def chipWord (i : Nat) : Nat := 3 * 2 ^ 24 + i * 2 ^ 14

/-- The commit of the losses detected two ticks ago or earlier (R271): one log record for each lost chip, its index in the address word and the
data of R394 (DEDUCED, log entry 21). -/
def Dev.viewCommit (s : Dev) : Dev :=
  let due := s.krk.losses.filter (fun x => decide (x.1 + 2 ≤ s.curN))
  if due.isEmpty || s.mst ≠ mMEMBER then s
  else
    let s := s.setKrk { s.krk with losses := s.krk.losses.filter (fun x => decide (s.curN < x.1 + 2)), commitFrame := s.frame }
    let v := (s.get Reg.KRK_VIEW_VIEWNUM + 1) % 2 ^ 32
    let s := (s.set Reg.KRK_VIEW_VIEWNUM v).raise Reg.KRK_FLAG_PART_F
    let s := forEach due (fun x t => t.logAt (t.stamp 0) 9 1 (chipWord x.2) (v + 2 ^ 32 * due.length)) s
    s.timeSource.redCheck

/-- A lost chip's held contribution, ramped out, is removed (R273). -/
def Dev.heldExpiry (s : Dev) : Dev :=
  let g := s.msFrames (stGrace s.krk.table) + s.msFrames 10
  let gone := (s.krk.held.filter (fun x => decide (x.2 + g ≤ s.curN))).map (·.1)
  s.setKrk { s.krk with contrib := s.krk.contrib.filter (fun x => !gone.contains (x.1 % 512)),
                        held := s.krk.held.filter (fun x => decide (s.curN < x.2 + g)) }

/-! ### Orphan timers (R272) -/

/-- GRACE has passed: the ramp begins. -/
def Dev.orphanGraceEnd (s : Dev) : Dev :=
  if s.st = stORPHAN then s.setKrk { s.krk with orphanRamp := true } else s

/-- The ramp has ended: every configured cell is BYPASSED, its cause unchanged. -/
def Dev.orphanRampEnd (s : Dev) : Dev :=
  if s.st = stORPHAN then
    let s := forEach s.cells.recs (fun r t =>
      let c := t.cell r.pos
      if c.state = 5 then t else t.setCell r.pos { (c.to (t.stamp 0) 5) with alpha := fZero, w := fZero, rc := fZero, curtMax := false }) s
    s.setKrk { s.krk with orphanRamp := true, orphanOut := true }
  else s

/-- The factor on every r_c in ORPHAN: 1 − k / K. -/
def Dev.orphanFactor (s : Dev) : Word :=
  if s.st = stORPHAN && s.krk.orphanRamp then
    let k := s.curN - (s.krk.orphanN + s.msFrames (stGrace s.krk.table))
    let m := s.msFrames 10
    if m ≤ k then fZero else fSub fOne (fDiv (fOfNat k) (fOfNat m))
  else fOne

/-! ### Links (R263) -/

/-- A link loses block lock; the time parent may be reached through another port from now on (R276). -/
def Dev.linkDown (s : Dev) (p : Nat) : Dev :=
  if p < 4 && s.get (Reg.KRK_PORTp_STAT_LINK p) = 2 then
    (((s.set (Reg.KRK_PORTp_STAT_LINK p) 3).count (Reg.KRK_PORTp_ERR_DOWNS p)).raise Reg.KRK_FLAG_LINKDN_F).parentFollow
  else s

/-- A link that trains is up, with its neighbour’s round delay; its credits are advertised from now on (R26, R30), and its identity goes out
while STN_JOIN waits (R268). -/
def Dev.linkUpEvent (s : Dev) (p rdly : Nat) : Dev :=
  if p < 4 && s.get (Reg.KRK_PORTp_STAT_LINK p) ≠ 0 then
    let s := ((s.set (Reg.KRK_PORTp_STAT_LINK p) 2).set (Reg.KRK_PORTp_STAT_RDLY p) rdly).parentFollow.grantEntries
    if s.krk.joinCmd.isSome then s.identitySend p 512 0 else s
  else s

/-- The redundancy trip of a tick comes before the membership of the tick (R369): the check of R274 on the slots that the tick takes. -/
def Dev.krkTrip (s : Dev) : Dev :=
  if !s.krk.joined || s.mst != mMEMBER || !s.stIn countStates || !s.slotLatch.redShort then s
  else (s.raise Reg.KRK_FLAG_REDTRIP_F).latch (s.stamp 0) [0x27]

/-- What the tick does on Krekai, in order: heartbeats judged, partition rule, slots, redundancy. -/
def Dev.krkTick (s : Dev) : Dev :=
  if !s.krk.joined then s
  else
    let s := forEach ((stChips s.krk.table).filter (fun c => c != s.ownIndex && s.reach c)) (fun c t => t.judge c) s
    let s := s.partition
    let s := s.slotLatch
    if s.stIn countStates then s.redCheck else { s with prt := { s.prt with redStation := s.prt.redStation && s.mst == mMEMBER && s.redShort } }

/-! ### Opcodes 0x60–0x67 (R284) -/

/-- STN_TABLE_LOAD. -/
def bodyStnTableLoad (src : Src) (p : Packet) (s : Dev) : Ans :=
  withLoad s src 24 (pN p 24 8) 1088 (fun s t =>
    match lowestOf (tableOwn t ++ s.tableOthers t) with
    | some o => ansBad s sBAD_PARAM o
    | none =>
      let c := crc32 t
      let s := (s.setKrk { s.krk with table := t }).setReg Reg.KRK_TBLCRC (BitVec.ofNat 32 c)
      ansRes (s.set Reg.KRK_VOTES_VTOTAL (stVotes t)) (toLe c 4))

/-- STN_TABLE_READ. -/
def bodyStnTableRead (src : Src) (p : Packet) (s : Dev) : Ans :=
  withStore s src 24 (pN p 24 8) (if s.krk.table.isEmpty then zeros 1088 else s.krk.table) ansOk

/-- STN_LEAVE. -/
def bodyStnLeave (_src : Src) (_p : Packet) (s : Dev) : Ans := ansOk s.leaveStation

/-- The 128-byte station status record (R284). -/
def Dev.stnStatus (s : Dev) : List Byte :=
  let map := tabulate 64 (fun i => BitVec.ofNat 8 ((List.range 8).foldl (fun a j => a + b2n (s.reach (8 * i + j)) * 2 ^ j) 0))
  toLe s.tickStamp 8 ++ toLe s.frame 4 ++ [BitVec.ofNat 8 s.mst, BitVec.ofNat 8 s.lsFrames, BitVec.ofNat 8 s.laFrames, 0] ++
    toLe (s.get Reg.KRK_VOTES_VREACH) 2 ++ toLe (s.get Reg.KRK_VOTES_VTOTAL) 2 ++ toLe (s.get Reg.KRK_STAT_TSIDX) 2 ++
    toLe (if s.krk.table.isEmpty then 0 else stKeystone s.krk.table) 2 ++ toLe (s.get Reg.KRK_VIEW_VIEWNUM) 4 ++
    toLe s.krk.commitFrame 4 ++ wordBytes (s.reg Reg.KRK_TBLCRC) ++ zeros 28 ++ map

/-- STN_STATUS_READ. -/
def bodyStnStatusRead (src : Src) (p : Packet) (s : Dev) : Ans := withStore s src 24 (pN p 24 8) s.stnStatus ansOk

/-- STN_SLOT_SET. -/
def bodyStnSlotSet (src : Src) (p : Packet) (s : Dev) : Ans :=
  let n := pB p 16
  if n = 0 ∨ 8 < n then ansBad s sBAD_PARAM 16
  else
    match (List.range n).find? (fun i => stKind s.krk.table (pB p (24 + i)) != 4) with
    | some i => ansBad s sBAD_PARAM (24 + i)
    | none => ansOk (forEach (List.range n) (fun i t => t.slotWrite (pB p (24 + i)) (pW p (32 + 4 * i)).toNat (srcRank src)) s)

/-- STN_RESAREA. -/
def bodyStnResarea (_src : Src) (p : Packet) (s : Dev) : Ans :=
  let q := pN p 16 2
  if 63 < q then ansBad s sBAD_PARAM 16
  else ansOk (s.setKrk { s.krk with area := sset (fun _ => 0) s.krk.area q (pN p 24 8) })

/-- Buffer `k` reserved, or not reserved. -/
def Dev.reserveBuf (s : Dev) (k : Nat) (b : Bool) : Dev := s.setB ⟨0x5804, 4 + k, 4 + k⟩ b

/-- No trigger is scheduled; its buffer is free again. -/
def Dev.schedDrop (s : Dev) : Dev :=
  match s.snp.schedBuf with
  | some k => { (s.reserveBuf k false) with snp := { s.snp with schedBuf := none } }
  | none => s

/-- STN_SQUALL_AT at a target (R283, R389): the schedule with its reserved buffer, or CANCEL. A schedule that it replaces gives it its reservation;
else it has the buffer that its PREPARE reserved, or a free one. -/
def bodyStnSquallAt (_src : Src) (p : Packet) (s : Dev) : Ans :=
  if pB p 16 % 2 = 1 then ansOk (s.schedDrop.setB Reg.SNP_STAT_SCHED false)
  else
    match s.snp.schedBuf.or (s.snp.prepBuf.or s.freeBuf) with
    | none => ansBad s sBUSY 0
    | some k =>
      let s := match s.snp.prepBuf with
        | some j => s.reserveBuf j false
        | none => s
      let s := s.reserveBuf k true
      let s := { s with snp := { s.snp with schedBuf := some k, schedTag := pTag p, prepBuf := none } }
      ansOk ((s.setB Reg.SNP_STAT_SCHED true).setPair Reg.SNP_SCHED_LO Reg.SNP_SCHED_HI (pExecAt p))

/-- The scheduled trigger fires (R283): its buffer is no longer reserved and takes the snapshot. -/
def Dev.squallAt (s : Dev) : Dev :=
  match s.snp.schedBuf with
  | none => s
  | some k => ((s.schedDrop.setB Reg.SNP_STAT_SCHED false).snapInto (some k) 5 s.tickStamp s.snp.schedTag).2

end Sys2Proof.Machine
end

