-- ==== Sys2Proof/Machine/Espalier.lean ====
section
/-! DEFINITION. Espalier: cell references, carriers, edge records, interlock, bootstrap model, slot tables, profiles (R170–R189, R202).
Times are in edge steps of 2.5 ns, or in sixteenths of a step. Conventions the spec leaves open are in log entry 22. -/

namespace Sys2Proof.Machine

def Dev.setEsp (s : Dev) (e : EspSt) : Dev := { s with esp := e }

/-- Edge steps in a frame. -/
def Dev.frameSteps (s : Dev) : Nat := s.frameTU / 8

/-- Cell dead time in steps; below 40 acts as 40 (R203). -/
def Dev.dtc (s : Dev) : Nat := max 40 (s.get Reg.MOD_CELLCFG_DTC)
def Dev.minpc (s : Dev) : Nat := 8 * s.get Reg.MOD_CELLCFG_MINPC
/-- CFR of a group, frames per carrier period (R174). -/
def Dev.cfr (s : Dev) (g : Nat) : Nat := s.get (Reg.MOD_GRPg_CAR_CFRM1 g) + 1
/-- NSLOT; 0 acts as 1. -/
def Dev.nslot (s : Dev) (g : Nat) : Nat := max 1 (s.get (Reg.MOD_GRPg_CAR_NSLOT g))
/-- Nearest-level modulation. -/
def Dev.nlm (s : Dev) (g : Nat) : Bool := s.get (Reg.MOD_GRPg_CAR_SCHEME g) == 1
/-- Qfull and TREF of the cells, in steps (R182). -/
def Dev.cellQfull (s : Dev) : Nat := bsQfull (s.get Reg.MOD_BSCELL_THOLD)
def Dev.cellTref (s : Dev) : Nat := bsTref (s.get Reg.MOD_BSCELL_TREF)

/-! ### Cell references (R172, R173) -/

/-- The group value an index holds: 0 when no loaded context writes it (R172). -/
def Dev.groupVal (s : Dev) (i : Nat) : Word := sget (fun _ => 0) s.esp.group i

/-- A value clamped to a range; whether it lay outside. -/
def clampFlag (x lo hi : Word) : Bool × Word := (fLt x lo || fLt hi x, fClamp x lo hi)

/-- m_c of a cell with r_c `rc`, and whether it was clamped. `v0` is the zero-sequence term of CHB mode. -/
def Dev.modValue (s : Dev) (r : CellRec) (rc v0 : Word) : Bool × Word :=
  if s.mmc then
    let v := fMul rc (fAdd (s.groupVal r.group) (s.groupVal (8 + r.group % 3)))
    if r.half then clampFlag v fZero fOne else clampFlag v (fNeg fOne) fOne
  else clampFlag (fMul rc (fAdd (s.groupVal r.group) v0)) (fNeg fOne) fOne

/-- θ_i of the last run: IN2 of the CELLSWEEP context. -/
def Dev.sweepTheta (s : Dev) : Word :=
  ((s.ce.ctxs.find? (fun x => !x.2.img.isEmpty && imgLaw x.2.img == 0x07)).map (fun x => x.2.lastIn.getD 2 0)).getD 0

/-- v0 for the next frame: V0 cos(θ_i + φ0 + 2π f P). -/
def Dev.zeroTerm (s : Dev) : Word :=
  let f := s.reg Reg.ANG_FREQ
  let p := fOfRat s.frameTU 3200000000
  let adv := fMul (fMul f2Pi f) p
  fMul (s.cells.agg.getD 60 0) (Config.fpCos (fAdd (fAdd s.sweepTheta (s.cells.agg.getD 61 0)) adv))

/-! ### Carriers (R174–R176) -/

/-- An exact multiple of a number: m × k / 4 rounded to the nearest integer, ties to even, for a finite m. -/
def quarterOf (m : Word) (add : Int) (k : Nat) : Int :=
  -- (m + add) / 4 × k, with m = mantissa × 2^sc
  let sc := fSc m
  if 0 ≤ sc then rneDiv ((fSMant m * (2 ^ sc.toNat : Nat) + add) * k) 4
  else rneDiv ((fSMant m + add * (2 ^ (-sc).toNat : Nat)) * k) (4 * 2 ^ (-sc).toNat)

/-- The two crossing instants of a compared value with its carrier, in sixteenths from the start of the group carrier period, each with
the level that follows: low after (m + 1)/4 of the period, high after (3 − m)/4. No crossing where |m| ≥ 1. Two crossings that fall on one
sixteenth stand in the order in which they occur. -/
def crossings (m : Word) (shift t16 : Nat) : List (Nat × Bool) :=
  if fLe fOne m || fLe m (fNeg fOne) then []
  else
    let off := quarterOf m 1 t16
    let on := quarterOf (fNeg m) 3 t16
    let lo := ((off.toNat + shift) % t16, false)
    let hi := ((on.toNat + shift) % t16, true)
    if t16 ≤ on.toNat then [hi, lo] else [lo, hi]

/-- The compared level at an instant of the carrier period: m > c. -/
def levelAt (m : Word) (shift t16 t : Nat) : Bool :=
  if fLe fOne m then true
  else if fLe m (fNeg fOne) then false
  else
    let u := (t + t16 - shift % t16) % t16
    let off := (quarterOf m 1 t16).toNat
    let on := (quarterOf (fNeg m) 3 t16).toNat
    decide (u < off) || decide (on ≤ u)

/-- Insertion by instant. -/
def insEdge (x : Nat × Bool) : List (Nat × Bool) → List (Nat × Bool)
  | [] => [x]
  | y :: t => if x.1 < y.1 then x :: y :: t else y :: insEdge x t

/-- The level at the tick and the level changes of a leg within a frame that starts `base` sixteenths into the carrier period: steps
from the tick, placed under R178. -/
def legLevels (m : Word) (shift t16 base steps : Nat) (dith : Bool) (k : Nat) : Bool × List (Nat × Bool) :=
  let cs := (crossings m shift t16).filterMap (fun c =>
    let d := (c.1 + t16 - base % t16) % t16
    if d < 16 * steps then some (d, c.2) else none)
  let cs := (cs.foldl (fun a x => insEdge x a) []).map (fun c => (placeStep dith k c.1, c.2))
  (levelAt m shift t16 base, cs.filter (fun c => decide (c.1 < steps)))

/-! ### Dead time and minimum pulse (R179) -/

/-- State code of a level. -/
def lvCode (b : Bool) : Nat := if b then 2 else 1

/-- Switchings kept: two consecutive ones whose on-interval is too short are both removed. `acc` holds those kept, latest first.
Answers the kept ones and the removals. -/
def minPulse (dtc minp : Nat) : List (Nat × Bool) → List (Nat × Bool) → Nat × List (Nat × Bool)
  | [], acc => (0, acc.reverse)
  | x :: t, acc =>
    match acc with
    | [] => minPulse dtc minp t [x]
    | y :: ys =>
      if (x.1 : Int) - y.1 - dtc < minp then
        let r := minPulse dtc minp t ys
        (r.1 + 1, r.2)
      else minPulse dtc minp t (x :: y :: ys)

/-- Level changes reduced to those that change the level. -/
def dedup (lv : Bool) : List (Nat × Bool) → List (Nat × Bool)
  | [] => []
  | x :: t => if x.2 = lv then dedup lv t else x :: dedup x.2 t

/-- Entries of one leg: (step, state code), with the state at the end and the dead time that runs on into the next frame. -/
structure LegPlan where
  entries : List (Nat × Nat)
  code : Nat
  dead : Option (Nat × Nat)
  removed : Nat
  deriving DecidableEq, Repr

/-- Each switching as two entries, state 0 at its instant and the new state DTC later (R179). -/
def expand (dtc steps : Nat) : List (Nat × Bool) → List (Nat × Nat) × Nat × Option (Nat × Nat) → List (Nat × Nat) × Nat × Option (Nat × Nat)
  | [], a => a
  | x :: t, a =>
    let on := x.1 + dtc
    let new := lvCode x.2
    let e := a.1 ++ [(x.1, 0)]
    if on < steps then expand dtc steps t (e ++ [(on, new)], new, none)
    else expand dtc steps t (e, 0, some (on - steps, new))

/-- The plan of one leg from the level wanted at the tick and the level changes of the frame. -/
def legPlan (l : LegSt) (start : Bool) (chg : List (Nat × Bool)) (dtc minp steps : Nat) : LegPlan :=
  match l.dead with
  | some (rem, tgt) =>
    -- a dead time of the frame before is still running
    let sw := if lvCode start = tgt then dedup start chg else (0, start) :: dedup start chg
    let r := minPulse dtc minp sw []
    match r.2 with
    | x :: t =>
      if x.1 ≤ rem then
        let e := expand dtc steps t (if x.1 + dtc < steps then ([(x.1 + dtc, lvCode x.2)], lvCode x.2, none)
          else ([], 0, some (x.1 + dtc - steps, lvCode x.2)))
        { entries := e.1, code := e.2.1, dead := e.2.2, removed := r.1 }
      else
        let e := expand dtc steps (x :: t) ([(rem, tgt)], tgt, none)
        { entries := e.1, code := e.2.1, dead := e.2.2, removed := r.1 }
    | [] =>
      if rem < steps then { entries := [(rem, tgt)], code := tgt, dead := none, removed := r.1 }
      else { entries := [], code := 0, dead := some (rem - steps, tgt), removed := r.1 }
  | none =>
    if l.code = 0 then
      let r := minPulse dtc minp (dedup start chg) []
      let e := expand dtc steps r.2 ([(0, lvCode start)], lvCode start, none)
      { entries := e.1, code := e.2.1, dead := e.2.2, removed := r.1 }
    else
      let was := l.code == 2
      let sw := if start = was then dedup start chg else (0, start) :: dedup start chg
      let r := minPulse dtc minp sw []
      let e := expand dtc steps r.2 ([], l.code, none)
      { entries := e.1, code := e.2.1, dead := e.2.2, removed := r.1 }

/-! ### Forced refresh (R183) -/

/-- The state a leg's schedule holds at a step. -/
def stateAt (init : Nat) (e : List (Nat × Nat)) (t : Nat) : Nat :=
  e.foldl (fun a x => if x.1 ≤ t then x.2 else a) init

/-- The longest low run of a schedule. -/
def lowRuns (steps : Nat) : List (Nat × Nat) → Nat → Nat → Nat
  | [], st, t0 => if st = 1 then steps - t0 else 0
  | x :: t, st, t0 => max (if st = 1 then x.1 - t0 else 0) (lowRuns steps t x.2 x.1)

/-- A refresh window put into a leg's entries; the window's instants. -/
def refreshLeg (init dtc tref steps : Nat) (e : List (Nat × Nat)) : List (Nat × Nat) :=
  let tm := steps / 2
  let stop := tm + 2 * dtc + tref
  let w := [(tm, 0), (tm + dtc, 1), (tm + dtc + tref, 0), (stop, stateAt init e stop)]
  e.filter (fun x => decide (x.1 < tm)) ++ w.filter (fun x => decide (x.1 < steps)) ++ e.filter (fun x => decide (stop < x.1))

/-! ### The bootstrap model over a schedule (R182) -/

/-- Charge used and running low run after a leg's schedule of one frame. -/
def bootRun (qfull tref steps : Nat) : List (Nat × Nat) → Nat → Nat → Nat × Nat → Nat × Nat
  | [], st, t0, (u, lo) =>
    let d := steps - t0
    if st = 2 then (min qfull (u + d), 0) else if st = 1 then (u, lo + d) else (u, 0)
  | x :: t, st, t0, (u, lo) =>
    let d := x.1 - t0
    let a := if st = 2 then (min qfull (u + d), 0) else if st = 1 then (u, lo + d) else (u, 0)
    let a := if st = 1 && x.2 != 1 then ((if tref ≤ a.2 then 0 else a.1), 0) else a
    bootRun qfull tref steps t x.2 x.1 a

/-! ### Records (R170) -/

/-- The header word of a record. -/
def recHead (pos : Nat) (blk byp : Bool) (ne : Nat) : Word :=
  BitVec.ofNat 32 (pos % 64 * 2 ^ 26 + b2n blk * 2 ^ 25 + b2n byp * 2 ^ 24 + ne)

/-- The instants of two legs together, ascending. -/
def mergeTimes (a b : List (Nat × Nat)) : List Nat :=
  (a ++ b).foldl (fun acc x =>
    if acc.contains x.1 then acc else acc.filter (fun y => decide (y < x.1)) ++ [x.1] ++ acc.filter (fun y => decide (x.1 < y))) []

/-- The entry words: at each instant the state of both legs from there on. -/
def entryWords (ia ib : Nat) (a b : List (Nat × Nat)) (half : Bool) (prof : Nat → Nat) : List Word :=
  (mergeTimes a b).map (fun t =>
    BitVec.ofNat 32 (t * 65536 + prof t * 4096 + (if half then 0 else stateAt ib b t) * 4 + stateAt ia a t))

/-! ### Interlock (R180) -/

/-- Entry fields: instant, state of leg A, state of leg B. -/
def entryT (w : Word) : Nat := bits w 31 16
def entryA (w : Word) : Nat := bits w 1 0
def entryB (w : Word) : Nat := bits w 3 2

/-- A leg's sequence breaks the rule: code 3, or a change between 1 and 2 without a state 0 of at least DTC in between. `zeroAt` is when
the present state 0 began, with the state before it. -/
def legBad (dtc : Nat) : List (Nat × Nat) → Nat → Option (Nat × Nat) → Bool
  | [], _, _ => false
  | x :: t, st, z =>
    if x.2 = 3 then true
    else if st = x.2 then legBad dtc t st z
    else if x.2 = 0 then legBad dtc t 0 (some (x.1, st))
    else if st = 0 then
      match z with
      | some (t0, before) => (before != 0 && before != x.2 && decide (x.1 < t0 + dtc)) || legBad dtc t x.2 none
      | none => legBad dtc t x.2 none
    else true

/-- Strictly ascending instants. -/
def ascending : List Word → Bool
  | [] => true
  | [_] => true
  | a :: b :: t => decide (entryT a < entryT b) && ascending (b :: t)

/-- The record as a whole is malformed (R180). -/
def recMalformed (half : Bool) (steps : Nat) (e : List Word) : Bool :=
  decide (16 < e.length) || !ascending e || e.any (fun w => decide (steps ≤ entryT w)) || (half && e.any (fun w => entryB w != 0))

/-- A leg’s sequence from the state in which the frame before left it breaks the rule. -/
def legFails (dtc : Nat) (l : LegSt) (e : List (Nat × Nat)) : Bool :=
  match l.off with
  | some (age, before) => legBad dtc (e.map (fun x => (x.1 + age, x.2))) l.code (some (0, before))
  | none => legBad dtc e l.code none

/-- Which of legs A and B fail the check; every half-bridge of a malformed record. -/
def interlock (half : Bool) (dtc steps : Nat) (l : CellLegs) (e : List Word) : Bool × Bool :=
  if recMalformed half steps e then (true, true)
  else
    (legFails dtc l.a (e.map (fun w => (entryT w, entryA w))), !half && legFails dtc l.b (e.map (fun w => (entryT w, entryB w))))

/-- The record with its failing legs forced to state 0 from T = 0. -/
def forceOff (bad : Bool × Bool) (malformed : Bool) (ia ib : Nat) (e : List Word) : List Word :=
  if malformed then [0]
  else
    let fix := fun (w : Word) =>
      let w := if bad.1 then setBits w 1 0 0 else w
      if bad.2 then setBits w 3 2 0 else w
    let first := BitVec.ofNat 32 ((if bad.2 then 0 else ib) * 4 + (if bad.1 then 0 else ia))
    match e with
    | [] => [first]
    | w :: t => if entryT w = 0 then (fix w) :: t.map fix else first :: (w :: t).map fix

/-- An interlock failure of a cell (R180). -/
def Dev.interlockFail (s : Dev) (pos : Nat) : Dev :=
  let s := ((s.raise Reg.MOD_FLAG_XCMD_F).count Reg.MOD_CNT0_XCMD_CNT).logCell 7 1 pos (2 ^ 16 + pos)
  onlyIf (s.isOn Reg.MOD_CTL_XCMDTRIP) (fun t => t.latch (t.stamp 0) [0x23]) s

/-- A local channel acts: an interlock failure of it is logged and raises its trip source (R180). -/
def Dev.hbRun (s : Dev) (n : Nat) (f : Dev → Dev) : Dev :=
  let t := f s
  if t.isOn (Reg.MOD_HBn_STAT_XCMD n) && !s.isOn (Reg.MOD_HBn_STAT_XCMD n) then
    let t := t.logNow 7 1 n
    onlyIf (t.isOn Reg.MOD_CTL_XCMDTRIP) (fun u => u.latch (u.stamp 0) [0x23]) t
  else t

/-! ### Nearest-level modulation (R177) -/

/-- The position is ranked before another: by v_dc, ties to the lower position. -/
def rankBefore (asc : Bool) (a b : Nat × Word) : Bool :=
  if asc then fLt a.2 b.2 || (!fLt b.2 a.2 && decide (a.1 < b.1)) else fLt b.2 a.2 || (!fLt a.2 b.2 && decide (a.1 < b.1))

/-- Insertion by rank. -/
def rankInsert (asc : Bool) (x : Nat × Word) : List (Nat × Word) → List (Nat × Word)
  | [] => [x]
  | y :: t => if rankBefore asc x y then x :: y :: t else y :: rankInsert asc x t

/-- The cells of a group that nearest-level modulation inserts; the ramp of R272 acts through V_s. -/
def Dev.nlmInserted (s : Dev) (g : Nat) (l : List SweepCell) : List Nat :=
  let act := l.filter (fun x => x.r.group == g && sharing x.c.state)
  let v := fMul (fMul (fSum (act.map (·.c.alpha))) s.orphanFactor) (fAdd (s.groupVal g) (s.groupVal (8 + g % 3)))
  let mean := fMean (act.map (·.t.vdc))
  let n := (max 0 (min (act.length : Int) (fRoundInt (fDiv v mean) 0))).toNat
  let i := fMean (act.map (·.t.isrc))
  let asc := !fLt i fZero
  let ranked := (act.map (fun x => (x.r.pos, x.t.vdc))).foldl (fun a x => rankInsert asc x a) []
  (ranked.take n).map (·.1)

/-! ### One frame’s schedule of one cell (R173–R183) -/

def Dev.legsOf (s : Dev) (pos : Nat) : CellLegs := sget (fun _ => {}) s.esp.legs pos

/-- The device states in which the cells are modulated (R181). -/
def modStates : List Nat := [stSYNC, stRUN, stRIDETHROUGH, stHOLD, stORPHAN]
/-- The states in which records block the cells. -/
def blkStates : List Nat := [stREADY, stPRECHARGE, stBLOCKED, stTRIPPED]

/-- Plans of the two legs of a modulated cell, and whether m_c was clamped. -/
def Dev.cellPlans (s : Dev) (x : SweepCell) (v0 : Word) (nlmOn : List Nat) : Bool × LegPlan × LegPlan :=
  let steps := s.frameSteps
  let g := x.r.group
  let legs := s.legsOf x.r.pos
  let n1 := s.curN + 1
  let dtc := s.dtc
  let none_ : LegPlan := { entries := [], code := 0, dead := none, removed := 0 }
  if s.nlm g then
    let on := nlmOn.contains x.r.pos
    let off := s.get (Reg.MOD_GRPg_PROF_NLMOFF g)
    let plan := fun (l : LegSt) (lv : Bool) =>
      let was := l.code == 2
      if l.code = 0 && l.dead.isNone then
        { entries := [(off, lvCode lv)], code := lvCode lv, dead := none, removed := 0 }
      else legPlan l (match l.dead with
        | some d => d.2 == 2
        | none => was) [(off, lv)] dtc 0 steps
    (false, plan legs.a on, if x.r.half then none_ else plan legs.b false)
  else
    let m := s.modValue x.r (fMul x.c.rc s.orphanFactor) v0
    let tc := s.cfr g * steps
    let t16 := 16 * tc
    let shift := 16 * sget (fun _ => 0) s.esp.effective x.r.pos * tc / (if x.r.half then s.nslot g else 2 * s.nslot g)
    let base := n1 % s.cfr g * (16 * steps)
    let k := n1 / s.cfr g
    let d := s.isOn Reg.MOD_CTL_DITHEN
    let leg := fun (l : LegSt) (v : Word) =>
      let r := legLevels v (shift % t16) t16 base steps d k
      legPlan l r.1 r.2 dtc s.minpc steps
    if x.r.half then (m.1, leg legs.a (fSub (fMul fTwo m.2) fOne), none_)
    else (m.1, leg legs.a m.2, leg legs.b (fNeg m.2))

/-- Both legs low: the zero state of a STANDBY cell. -/
def zeroPlan (l : LegSt) (dtc steps : Nat) : LegPlan := legPlan l false [] dtc 0 steps

/-- A record formed for a cell that switches, with its legs afterwards (R170, R180, R182, R183). -/
def Dev.switchRecord (s : Dev) (x : SweepCell) (v0 : Word) (nlmOn : List Nat) : Dev × EdgeRec :=
  let pos := x.r.pos
  let steps := s.frameSteps
  let half := x.r.half
  let legs := s.legsOf pos
  let standby := x.c.state == 1
  let none_ : LegPlan := { entries := [], code := 0, dead := none, removed := 0 }
  let p : Bool × LegPlan × LegPlan :=
    if standby then (false, zeroPlan legs.a s.dtc steps, if half then none_ else zeroPlan legs.b s.dtc steps)
    else s.cellPlans x v0 nlmOn
  let tref := s.cellTref
  let needs := fun (l : LegSt) (q : LegPlan) => decide (lowRuns steps q.entries l.code 0 < tref)
  let refresh := s.cells.bsRefused.contains pos && !standby && (needs legs.a p.2.1 || (!half && needs legs.b p.2.2))
  let ea := if refresh && needs legs.a p.2.1 then refreshLeg legs.a.code s.dtc tref steps p.2.1.entries else p.2.1.entries
  let eb := if refresh && !half && needs legs.b p.2.2 then refreshLeg legs.b.code s.dtc tref steps p.2.2.entries else p.2.2.entries
  let tm := steps / 2
  let stop := tm + 2 * s.dtc + tref
  let prof := fun t => if refresh && decide (tm ≤ t) && decide (t ≤ stop) then s.get (Reg.MOD_GRPg_PROF_PREF x.r.group)
    else s.get (Reg.MOD_GRPg_PROF_PNORM x.r.group)
  let words := entryWords legs.a.code legs.b.code ea eb half prof
  let bad := interlock half s.dtc steps legs words
  let mal := recMalformed half steps words
  let fail := bad.1 || bad.2
  let words := if fail then forceOff bad mal legs.a.code legs.b.code words else words
  let qf := s.cellQfull
  let ba := bootRun qf tref steps ea legs.a.code 0 (legs.a.used, legs.a.low)
  let bb := bootRun qf tref steps eb legs.b.code 0 (legs.b.used, legs.b.low)
  let endA := stateAt legs.a.code ea steps
  let endB := stateAt legs.b.code eb steps
  let la : LegSt := if bad.1 then { used := ba.1 } else { code := endA, dead := p.2.1.dead, used := ba.1, low := ba.2 }
  let lb : LegSt := if bad.2 || half then { used := bb.1 } else { code := endB, dead := p.2.2.dead, used := bb.1, low := bb.2 }
  let s := onlyIf p.1 (·.raise Reg.MOD_FLAG_OVM_F) s
  let rm := p.2.1.removed + p.2.2.removed
  let s := onlyIf (decide (0 < rm)) (fun t => (t.raise Reg.MOD_FLAG_MINP_F).count Reg.MOD_CNT0_MINP_CNT rm) s
  let s := onlyIf refresh (fun t => (t.raise Reg.MOD_FLAG_BSCLAMP_F).count Reg.MOD_CNT1_BSREF_CNT) s
  let s := onlyIf fail (·.interlockFail pos) s
  let s := s.setEsp { s.esp with legs := sset (fun _ => {}) s.esp.legs pos { a := la, b := lb } }
  (s, { pos := pos, head := recHead pos false false words.length, entries := words })

/-- A leg over a frame in which its bridge is blocked: it starts from state 0 in the next one, and Q stays apart from a low run that ends (R182). -/
def LegSt.blocked (x : LegSt) (qfull tref steps : Nat) : LegSt :=
  { used := (bootRun qfull tref steps [(0, 0)] x.code 0 (x.used, x.low)).1 }
def CellLegs.blocked (x : CellLegs) (qfull tref steps : Nat) : CellLegs := { a := x.a.blocked qfull tref steps, b := x.b.blocked qfull tref steps }

/-- A blocking record. -/
def Dev.blkRecord (s : Dev) (pos : Nat) (byp : Bool) : Dev × EdgeRec :=
  (s.setEsp { s.esp with legs := sset (fun _ => {}) s.esp.legs pos ((s.legsOf pos).blocked s.cellQfull s.cellTref s.frameSteps) },
   { pos := pos, head := recHead pos true byp 0, entries := [] })

/-- The last change of a schedule into state 0 from a conducting state: its instant and that state. -/
def lastOff : List (Nat × Nat) → Nat → Option (Nat × Nat) → Option (Nat × Nat)
  | [], _, z => z
  | x :: t, st, z => lastOff t x.2 (if x.2 != 0 then none else if st = 0 then z else some (x.1, st))

/-- A leg after a record of test entries that passed the check, or was forced to state 0. -/
def LegSt.tested (l : LegSt) (qfull tref steps : Nat) (bad : Bool) (e : List (Nat × Nat)) : LegSt :=
  let u := bootRun qfull tref steps e l.code 0 (l.used, l.low)
  let z := match l.off with
    | some (age, before) => lastOff (e.map (fun x => (x.1 + age, x.2))) l.code (some (0, before)) |>.map (fun y => (steps + age - y.1, y.2))
    | none => (lastOff e l.code none).map (fun y => (steps - y.1, y.2))
  { code := stateAt l.code e steps, used := u.1, low := u.2, off := if bad then none else z }

/-- The MOD_EDGE_TEST record in place of a BLK record (R202), through the interlock check; a leg keeps the state of a test record of the frame before
(R170), and the bootstrap model follows it (R182). -/
def Dev.testRecord (s : Dev) (r : CellRec) (e : List Word) : Dev × EdgeRec :=
  let steps := s.frameSteps
  let l := s.legsOf r.pos
  let bad := interlock r.half s.dtc steps l e
  let mal := recMalformed r.half steps e
  let w := if bad.1 || bad.2 then forceOff bad mal l.a.code l.b.code e else e
  let s := onlyIf (bad.1 || bad.2) (·.interlockFail r.pos) s
  let run := fun (x : LegSt) (bad : Bool) (f : Word → Nat) => x.tested s.cellQfull s.cellTref steps bad (w.map (fun v => (entryT v, f v)))
  let legs : CellLegs := { a := run l.a bad.1 entryA, b := if r.half then l.b else run l.b bad.2 entryB }
  (s.setEsp { s.esp with legs := sset (fun _ => {}) s.esp.legs r.pos legs },
   { pos := r.pos, head := recHead r.pos false false w.length, entries := w })

/-- The record of one cell for the next frame (R181). -/
def Dev.cellRecord (s : Dev) (x : SweepCell) (v0 : Word) (nlmOn : List Nat) : Dev × EdgeRec :=
  let byp := x.c.state == 5 || (s.st == stORPHAN && s.krk.orphanOut)
  if s.stIn modStates then
    if byp then s.blkRecord x.r.pos true else s.switchRecord x v0 nlmOn
  else
    match s.esp.test with
    | some (pos, e) => if pos = x.r.pos && s.st = stREADY then s.testRecord x.r e else s.blkRecord x.r.pos byp
    | none => s.blkRecord x.r.pos byp

/-- Rotation requests of a dispatch (R183): cells with a share whose charge at the end of the schedule is at or below the threshold. -/
def Dev.rotationRequests (s : Dev) (l : List SweepCell) : List Nat :=
  let qf := s.cellQfull
  let thr := qf * s.get Reg.MOD_BSCELL_BTHR
  if qf = 0 || !s.stIn modStates then []
  else
    (l.filter (fun x =>
      let g := s.legsOf x.r.pos
      sharing x.c.state && (decide (256 * (qf - g.a.used) ≤ thr) || (!x.r.half && decide (256 * (qf - g.b.used) ≤ thr))))).map (·.r.pos)

/-- The records of every cell, formed in order; a cell that is ABSENT gets none (R145). -/
def recordsOf (v0 : Word) (ins : Nat → List Nat) : List SweepCell → Dev → Dev × List EdgeRec
  | [], s => (s, [])
  | x :: t, s =>
    if x.c.state = 0 then recordsOf v0 ins t s
    else
      let r := s.cellRecord x v0 (ins x.r.group)
      let rest := recordsOf v0 ins t r.1
      (rest.1, r.2 :: rest.2)

/-- Effective slots follow the swaps of the last run (R189). -/
def Dev.slotSwaps (s : Dev) : Dev :=
  let e := s.cells.swaps.foldl (fun e x =>
    let a := sget (fun _ => 0) e x.1
    let b := sget (fun _ => 0) e x.2
    sset (fun _ => 0) (sset (fun _ => 0) e x.1 b) x.2 a) s.esp.effective
  (s.setEsp { s.esp with effective := e }).setCells { s.cells with swaps := [] }

/-- Espalier in the dispatch phase of frame N: one record per configured cell for frame N + 1, sent over Thicket (R170). -/
def Dev.edgeDispatch (s : Dev) : Dev :=
  let s := s.slotSwaps
  if !s.stIn (modStates ++ blkStates) then
    let legs := s.esp.legs.map (fun x => (x.1, x.2.blocked s.cellQfull s.cellTref s.frameSteps))
    s.setEsp { s.esp with recs := [], legs := legs.filter (fun x => x.2 != {}), test := none }
  else
    let l := s.sweepCells
    let ins := fun g => if s.nlm g then s.nlmInserted g l else []
    let r := recordsOf (if s.mmc then fZero else s.zeroTerm) ins l s
    let s := r.1
    let req := s.rotationRequests l
    let s := s.setCells { s.cells with bsReq := req, bsRefused := [] }
    (s.setEsp { s.esp with recs := r.2, test := none }).thkDispatch r.2

/-- The reported bootstrap levels lower the model (R182). -/
def Dev.bootReport (s : Dev) (pos : Nat) (t : CellTel) : Dev :=
  let qf := s.cellQfull
  let l := s.legsOf pos
  let lower := fun (x : LegSt) (lev : Nat) =>
    if lev = 255 then x
    else
      let q := lev * qf / 256
      if q < qf - x.used then { x with used := qf - q } else x
  let l' : CellLegs := { a := lower l.a (t.ep7 / 65536 % 256), b := lower l.b (t.ep7 / 256 % 256) }
  if t.fresh then s.setEsp { s.esp with legs := sset (fun _ => {}) s.esp.legs pos l' } else s

/-! ### Slot tables (R188, R189) -/

/-- The positions of a group. -/
def Dev.groupPos (s : Dev) (g : Nat) : List Nat := (s.cells.recs.filter (·.group == g)).map (·.pos)

/-- The transfer of a group: shadow to active, active to effective. -/
def Dev.slotTransfer (s : Dev) (g : Nat) : Dev :=
  forEach (s.groupPos g) (fun p t =>
    let v := sget (fun _ => 0) t.esp.shadow p
    t.setEsp { t.esp with active := sset (fun _ => 0) t.esp.active p v, effective := sset (fun _ => 0) t.esp.effective p v }) s

/-- The states in which a transfer happens at the next tick. -/
def slotStillStates : List Nat := [stBOOT, stCONFIG, stREADY, stPRECHARGE, stBLOCKED, stTRIPPED]

/-- A commit whose time has come at the tick of frame `n` with stamp `t`. -/
def SlotCommit.dueAt (c : SlotCommit) (n t : Nat) : Bool :=
  if c.execAt = 0 then decide (c.afterN < n) else decide (c.execAt ≤ t)

/-- A carrier period of a group begins (R174, R188). -/
def Dev.carrierBoundary (s : Dev) (g : Nat) : Dev :=
  if s.esp.commits.any (fun c => c.group == g && c.dueAt s.curN s.tickStamp) then
    (s.slotTransfer g).setEsp { (s.slotTransfer g).esp with commits := s.esp.commits.filter (fun c => c.group != g) }
  else s

/-- The tick in a state in which cells do not switch: every pending transfer happens. -/
def Dev.slotTick (s : Dev) : Dev :=
  if s.stIn slotStillStates then
    let t := forEach (s.esp.commits.map (·.group)) (fun g t => t.slotTransfer g) s
    t.setEsp { t.esp with commits := [] }
  else s

/-- The bytes of a slot table. -/
def slotBytes (l : List (Nat × Nat)) : List Byte := (List.range 1024).foldr (fun p a => toLe (sget (fun _ => 0) l p) 2 ++ a) []

/-! ### Opcodes 0x40–0x47 (R202) -/

/-- MOD_SLOT_LOAD. -/
def bodyModSlotLoad (src : Src) (p : Packet) (s : Dev) : Ans :=
  withLoad s src 24 (pN p 24 8) 2048 (fun s d =>
    let t := (List.range 1024).foldl (fun a i => sset (fun _ => 0) a i (leAt d (2 * i) 2)) []
    ansOk (s.setEsp { s.esp with shadow := t }))

/-- MOD_CELL_COMMIT: BAD_PARAM for a shadow slot of NSLOT or above. -/
def bodyModCellCommit (_src : Src) (p : Packet) (s : Dev) : Ans :=
  if s.cells.recs.any (fun r => decide (s.nslot r.group ≤ sget (fun _ => 0) s.esp.shadow r.pos)) then ansBad s sBAD_PARAM 0
  else
    let c := (List.range 6).map (fun g => ({ group := g, execAt := pExecAt p, afterN := s.frm.tickNo } : SlotCommit))
    ansOk (s.setEsp { s.esp with commits := c })

/-- A profile table's first reserved byte that is not 0. -/
def badProf (d : List Byte) : Option Nat :=
  (List.range 128).find? (fun i => decide (4 ≤ i % 8) && byteAt d i != 0)

/-- The node at a position has reported the GEN of the last table, and its ring was sent it (R249). -/
def Dev.profHeld (s : Dev) (pos : Nat) : Bool :=
  let e := (sget (fun _ => {}) s.cells.tel pos : CellTel).ep9
  s.esp.profSent.contains (pos / 64) && e / 256 % 2 == 1 && e / 16 % 16 == sget (fun _ => 0) s.esp.gen (pos / 64)

/-- The rings with a configured cell whose node has not (R202). -/
def Dev.profMissing (s : Dev) : List Nat :=
  (List.range 16).filter (fun r => s.cells.recs.any (fun c => c.pos / 64 == r && !s.profHeld c.pos))

/-- How many configured nodes have. -/
def Dev.profCount (s : Dev) : Nat := (s.cells.recs.filter (fun c => s.profHeld c.pos)).length

/-- MOD_PROF_LOAD (R186, R249): one RECORD to every node of each enabled ring but a FAILED one (R241); the reply follows the nodes' reports. -/
def bodyModProfLoad (src : Src) (p : Packet) (s : Dev) : Ans :=
  withLoad s src 24 (pN p 24 8) 128 (fun s d =>
    match badProf d with
    | some o => ansBad s sBAD_PARAM o
    | none =>
      if s.esp.profCmd.isSome then ansBad s sBUSY 0
      else
        let ws := (List.range 32).map (wordAt d <| 4 * ·)
        let rs := (List.range 16).filter (fun r => s.ringEn r && s.ringSt r != rsFAILED)
        let s := forEach rs (fun r t =>
          let g := (sget (fun _ => 0) t.esp.gen r + 1) % 16
          (t.setEsp { t.esp with gen := sset (fun _ => 0) t.esp.gen r g }).sendAll r 2 g ws) s
        let s := s.setEsp { s.esp with prof := d, profSent := rs }
        if s.cells.recs.isEmpty then ansRes s (toLe 0 2)
        else ansLater (s.setEsp { s.esp with profCmd := some (src, p, s.curN) }))

/-- The reply of a MOD_PROF_LOAD whose nodes have all reported. -/
def Dev.profDone (s : Dev) : Dev × Option (Src × Packet × Reply) :=
  match s.esp.profCmd with
  | some (src, p, _) =>
    if s.profMissing.isEmpty then
      (s.setEsp { s.esp with profCmd := none }, some (src, p, { status := sOK, result := toLe s.profCount 2 }))
    else (s, none)
  | none => (s, none)

/-- Ten frames have passed (R202). -/
def Dev.profTimeout (s : Dev) : Dev × Option (Src × Packet × Reply) :=
  match s.esp.profCmd with
  | some (src, p, _) =>
    let m := s.profMissing.foldl (fun a r => a + 2 ^ r) 0
    (s.setEsp { s.esp with profCmd := none }, some (src, p, { status := sTIMEOUT, detail := m, result := toLe s.profCount 2 }))
  | none => (s, none)

/-- MOD_PROF_READ; zeros when no table was loaded. -/
def bodyModProfRead (src : Src) (p : Packet) (s : Dev) : Ans :=
  withStore s src 24 (pN p 24 8) (if s.esp.prof.isEmpty then zeros 128 else s.esp.prof) ansOk

/-- MOD_FLT_CLEAR. -/
def bodyModFltClear (_src : Src) (p : Packet) (s : Dev) : Ans :=
  let m := pN p 16 2 % 4096
  let s := if pB p 18 / 2 % 2 = 1 then s.hbXclrMask m else s
  if pB p 18 % 2 = 1 then
    let r := s.hbClearMask m
    if r.1 = 0 then ansOk r.2 else (r.2, some { status := sTRIP_ACTIVE, detail := r.1 })
  else ansOk s

/-- MOD_EDGE_TEST. -/
def bodyModEdgeTest (_src : Src) (p : Packet) (s : Dev) : Ans :=
  let w := pN p 16 4
  let n := pB p 20
  match s.badAddress p w [1] with
  | some d => ansBad s sBAD_PARAM d
  | none =>
    if n = 0 ∨ 8 < n then ansBad s sBAD_PARAM 20
    else ansOk (s.setEsp { s.esp with test := some (awRing w * 64 + awCell w, (List.range n).map (fun i => pW p (32 + 4 * i))) })

/-- Q / Qfull as a 16-bit fraction; 0xFFFF when full or with the model off. -/
def Dev.bsFraction (s : Dev) (l : LegSt) : Nat :=
  let qf := s.cellQfull
  if qf = 0 || l.used = 0 then 0xFFFF else (qf - l.used) * 65536 / qf

/-- MOD_BS_READ. -/
def bodyModBsRead (src : Src) (p : Packet) (s : Dev) : Ans :=
  let w := pN p 16 4
  match s.badAddress p w [1, 2, 3] with
  | some d => ansBad s sBAD_PARAM d
  | none =>
    let d := ((s.scopePos w).map (fun q =>
      let l := s.legsOf q
      toLe (s.cellWord q) 4 ++ toLe (s.bsFraction l.a) 2 ++ toLe (s.bsFraction l.b) 2)).flatten
    withStore s src 24 (pN p 24 8) d ansOk

/-- MOD_SLOT_READ. -/
def bodyModSlotRead (src : Src) (p : Packet) (s : Dev) : Ans :=
  match pB p 16 % 4 with
  | 0 => withStore s src 24 (pN p 24 8) (slotBytes s.esp.active) ansOk
  | 1 => withStore s src 24 (pN p 24 8) (slotBytes s.esp.shadow) ansOk
  | 2 => withStore s src 24 (pN p 24 8) (slotBytes s.esp.effective) ansOk
  | _ => ansBad s sBAD_PARAM 16

/-! ### ADC-trigger compares (R201) -/

/-- Compare k of a local channel reaches its position. -/
def Dev.localCompare (s : Dev) (n k : Nat) : Dev :=
  let w := (s.ch n).active.cmp.getD k 0
  if (s.ch n).running && bit w 31 && decide (bits w 19 0 < (s.ch n).active.period) then s.trigLine (bits w 28 24) else s

/-- Compare j of a group reaches its position in the carrier period. -/
def Dev.groupCompare (s : Dev) (g j : Nat) : Dev :=
  let w := s.reg (Reg.MOD_GCMPg_j (4 * g + j))
  if decide (g < 6) && decide (j < 4) && bit w 31 then s.trigLine (bits w 28 24) else s

end Sys2Proof.Machine
end

