-- ==== Sys2Proof/Machine/Grid.lean ====
section
/-! DEFINITION. Grid current, fault ride-through and islanding (R204–R233): the grid profile, the GRID law, the grid record, the
ISLCODE law and the grid opcodes. -/

namespace Sys2Proof.Machine

def Dev.setGrid (s : Dev) (g : GridSt) : Dev := { s with grid := g }
def Dev.setIsl (s : Dev) (x : IslSt) : Dev := { s with isl := x }

/-! ### The grid profile (R209, R210) -/

def gfGDLY (p : List Byte) : Nat := byteAt p 4
def gfGRSLOT (p : List Byte) : Nat := byteAt p 5
def gfCHIPF (p : List Byte) : Nat := byteAt p 6
def gfWINB (p : List Byte) : Nat := byteAt p 7
def gfVBASE (p : List Byte) : Word := wordAt p 8
def gfIRATED (p : List Byte) : Word := wordAt p 12
def gfIMAX (p : List Byte) : Word := wordAt p 16
def gfIMAXRT (p : List Byte) : Word := wordAt p 20
def gfKRT (p : List Byte) : Word := wordAt p 24
def gfKNEG (p : List Byte) : Word := wordAt p 28
def gfDB (p : List Byte) : Word := wordAt p 32
def gfVLOENT (p : List Byte) : Word := wordAt p 36
def gfVLOEXIT (p : List Byte) : Word := wordAt p 40
def gfVHIENT (p : List Byte) : Word := wordAt p 44
def gfVHIEXIT (p : List Byte) : Word := wordAt p 48
def gfTEXIT (p : List Byte) : Nat := leAt p 52 4
def gfVMCLO (p : List Byte) : Word := wordAt p 56
def gfVMCHI (p : List Byte) : Word := wordAt p 60
def gfTRESTORE (p : List Byte) : Nat := leAt p 64 4
def gfPRAMP (p : List Byte) : Word := wordAt p 68
def gfACODE (p : List Byte) : Word := wordAt p 72
def gfZJUMP (p : List Byte) : Word := wordAt p 76
def gfFDRIFT (p : List Byte) : Word := wordAt p 80
def gfROCMAX (p : List Byte) : Word := wordAt p 84
def gfROCT (p : List Byte) : Nat := leAt p 88 2
def gfROCWIN (p : List Byte) : Nat := leAt p 90 2
def gfVSWIN (p : List Byte) : Nat := leAt p 92 2
def gfVSMAX (p : List Byte) : Word := wordAt p 96
/-- Threshold and clearing time of TRIPS entry i. -/
def gfTrip (p : List Byte) (i : Nat) : Word × Nat := (wordAt p (100 + 8 * i), leAt p (104 + 8 * i) 4)

/-- The valid points of a curve: times in ms and voltages in 1/1,000 pu, up to the first time 0xFFFF. -/
def curvePts (p : List Byte) (off : Nat) : List (Nat × Nat) :=
  ((List.range 16).map (fun i => (leAt p (off + 4 * i) 2, leAt p (off + 4 * i + 2) 2))).takeWhile (fun x => x.1 != 0xFFFF)

/-- A decimal constant as FP32: `n / d`. -/
def dec (n : Int) (d : Nat) : Word := fOfRat n d

/-- x lies in [lo, hi] and is finite. -/
def inRange (x lo hi : Word) : Bool := fFinite x && fLe lo x && fLe x hi

/-- The offset of a curve’s first bad point. -/
def badCurve (p : List Byte) (off : Nat) : List Nat :=
  let pts := curvePts p off
  let t := fun i => (pts.getD i (0, 0)).1
  badAt (leAt p off 2 != 0) off ++
    ((List.range pts.length).filter (fun i => i != 0 && decide (t i ≤ t (i - 1)))).map (fun i => off + 4 * i)

/-- Offsets of the fields of a profile that are rejected (R210). -/
def badProfile (p : List Byte) : List Nat :=
  let sh := !(byteAt p 2 == 0xFF && byteAt p 3 == 0xFF)
  let lo := fIsZero (gfVMCLO p)
  let hi := fIsZero (gfVMCHI p)
  badAt (decide (31 < byteAt p 0)) 0 ++ badAt (decide (15 < byteAt p 1)) 1 ++
  badAt (sh && decide (31 < byteAt p 2)) 2 ++ badAt (sh && decide (15 < byteAt p 3)) 3 ++
  badAt (byteAt p 2 == byteAt p 0 && byteAt p 3 == byteAt p 1) 2 ++
  badAt (!(decide (1 ≤ gfGDLY p) && decide (gfGDLY p ≤ 3))) 4 ++ badAt (decide (245 < gfGRSLOT p)) 5 ++
  badAt (!(decide (1 ≤ gfCHIPF p) && decide (gfCHIPF p ≤ 64))) 6 ++ badAt (gfWINB p == 0) 7 ++
  badAt (!fPos (gfVBASE p)) 8 ++ badAt (!fPos (gfIRATED p)) 12 ++
  badAt (!inRange (gfIMAX p) (dec 1 2) (dec 3 2)) 16 ++ badAt (!inRange (gfIMAXRT p) (dec 1 2) fTwo) 20 ++
  badAt (!inRange (gfKRT p) fZero (dec 10 1)) 24 ++ badAt (!inRange (gfKNEG p) fZero (dec 10 1)) 28 ++
  badAt (!inRange (gfDB p) fZero (dec 1 5)) 32 ++
  badAt (!inRange (gfVLOENT p) (dec 1 2) (dec 19 20)) 36 ++ badAt (!inRange (gfVLOEXIT p) (gfVLOENT p) fOne) 40 ++
  badAt (!inRange (gfVHIENT p) (dec 21 20) (dec 3 2)) 44 ++ badAt (!inRange (gfVHIEXIT p) fOne (gfVHIENT p)) 48 ++
  badAt (decide (10000 < gfTEXIT p)) 52 ++
  badAt (!(fFinite (gfVMCLO p) && (lo || (fLe (dec 1 20) (gfVMCLO p) && fLt (gfVMCLO p) (gfVLOENT p))))) 56 ++
  badAt (!(fFinite (gfVMCHI p) && (hi || (fLt (gfVHIENT p) (gfVMCHI p) && fLe (gfVMCHI p) fTwo)))) 60 ++
  badAt (decide (10000 < gfTRESTORE p)) 64 ++ badAt (!inRange (gfPRAMP p) (dec 1 100) (dec 1000 1)) 68 ++
  badAt (!inRange (gfACODE p) fZero (dec 1 200)) 72 ++ badAt (!inRange (gfZJUMP p) (dec 1 10) (dec 10 1)) 76 ++
  badAt (!inRange (gfFDRIFT p) (dec 1 100) (dec 5 1)) 80 ++
  badAt (!(fFinite (gfROCMAX p) && (fIsZero (gfROCMAX p) || inRange (gfROCMAX p) (dec 1 10) (dec 20 1)))) 84 ++
  badAt (decide (10000 < gfROCT p)) 88 ++
  badAt (!(decide (1 ≤ gfROCWIN p) && decide (gfROCWIN p ≤ 4000))) 90 ++
  badAt (!(decide (1 ≤ gfVSWIN p) && decide (gfVSWIN p ≤ 4000))) 92 ++
  badAt (byteAt p 94 != 0) 94 ++ badAt (byteAt p 95 != 0) 95 ++
  badAt (!(fFinite (gfVSMAX p) && (fIsZero (gfVSMAX p) || inRange (gfVSMAX p) fTwo (dec 90 1)))) 96 ++
  ((List.range 8).filter (fun i =>
    let t := (gfTrip p i).1
    !fFinite t || (!fIsZero t && ((decide (i < 2) && fLe t fOne) || (decide (2 ≤ i) && decide (i < 4) && fLe fOne t))))).map
      (fun i => 100 + 8 * i) ++
  badCurve p 164 ++ badCurve p 228 ++ ((List.range 28).filter (fun i => byteAt p (292 + i) != 0)).map (fun i => 292 + i)

/-! ### Complex arithmetic (R213) -/

def cxAdd (a b : Cx) : CM Cx := do
  let d ← cAdd a.d b.d
  let q ← cAdd a.q b.q
  pure { d := d, q := q }
def cxSub (a b : Cx) : CM Cx := do
  let d ← cSub a.d b.d
  let q ← cSub a.q b.q
  pure { d := d, q := q }
def cxMul (a b : Cx) : CM Cx := do
  let t ← cMul a.q b.q
  let d ← cFma a.d b.d (fNeg t)
  let u ← cMul a.q b.d
  let q ← cFma a.d b.q u
  pure { d := d, q := q }
/-- k a + b for a real k. -/
def cxFma (k : Word) (a b : Cx) : CM Cx := do
  let d ← cFma k a.d b.d
  let q ← cFma k a.q b.q
  pure { d := d, q := q }
def cxScale (k : Word) (a : Cx) : CM Cx := do
  let d ← cMul k a.d
  let q ← cMul k a.q
  pure { d := d, q := q }
/-- j a. -/
def cxJ (a : Cx) : Cx := { d := fNeg a.q, q := a.d }
def cxConj (a : Cx) : Cx := { a with q := fNeg a.q }
def cxAbs (a : Cx) : CM Word := do
  let t ← cMul a.q a.q
  let u ← cFma a.d a.d t
  cSqrt u
/-- e^(jφ). -/
def cxRot (phi : Word) : CM Cx := do
  let c ← cCos phi
  let n ← cSin phi
  pure { d := c, q := n }

/-- The amplitude-invariant Clarke transform. -/
def clarke (a b c : Word) : CM Cx := do
  let x ← cMul fTwo a
  let x ← cSub x b
  let x ← cSub x c
  let d ← cDiv x fThree
  let y ← cSub b c
  let q ← cDiv y fSqrt3
  pure { d := d, q := q }

/-- Its inverse. -/
def invClarke (u : Cx) : CM (Word × Word × Word) := do
  let h ← cMul fSqrt3 fHalf
  let y ← cMul h u.q
  let b ← cFms fHalf u.d y
  let c ← cFms fHalf u.d (fNeg y)
  pure (u.d, b, c)

/-- √(max(0, a² − b²)). -/
def sqrtDiff (a b : Word) : CM Word := do
  let x ← cMul a a
  let y ← cFms b b x
  cSqrt (if fSign y then fZero else y)

/-- Limited to ±lim, with SAT when it lay outside. -/
def cLim (x lim : Word) : CM Word := cSatClamp x (fNeg lim) lim

/-! ### Sequences and measurements (R213) -/

/-- One update of the decoupled double frame. -/
def seqStep (a : Word) (rawP rawN : Cx) (r2n r2p : Cx) (x : Cx × Cx) : CM (Cx × Cx) := do
  let t ← cxMul x.2 r2n
  let t ← cxSub rawP t
  let t ← cxSub t x.1
  let p ← cxFma a t x.1
  let u ← cxMul p r2p
  let u ← cxSub rawN u
  let u ← cxSub u x.2
  let n ← cxFma a u x.2
  pure (p, n)

/-- What a run measures. -/
structure GridMeas where
  /-- abs(vp), floored at 0.1 × VBASE. -/
  vabs : Word := 0
  unit : Cx := {}
  vplus : Word := 0
  vminus : Word := 0
  vlow : Word := 0
  vhigh : Word := 0
  /-- Active and reactive current, A. -/
  ip : Word := 0
  ir : Word := 0
  iabs : Word := 0
  /-- θ_i, rad in [0, 2π). -/
  thi : Word := 0
  power : Word := 0
  /-- angle(vp). -/
  ang : Word := 0
  deriving DecidableEq, Repr

/-- An angle brought into [0, 2π) from (−2π, 4π). -/
def wrap2Pi (x : Word) : CM Word :=
  if fSign x && !fIsZero x then cAdd x f2Pi else if fLe f2Pi x then cSub x f2Pi else pure x

/-- The filtered sequences and the measurements of a run. -/
def gridMeasure (p b : List Byte) (ins : List Word) (th ts : Word) (g : GridSt) : CM (GridSt × GridMeas) := do
  let x ← cMul f2Pi (imgPar b 5)
  let x ← cMul x ts
  let a ← cSub fOne (Config.fpExp (fNeg x))
  let th2 ← cMul fTwo th
  let rn ← cxRot (fNeg th)
  let rp ← cxRot th
  let r2n ← cxRot (fNeg th2)
  let r2p ← cxRot th2
  let v ← clarke (ins.getD 3 0) (ins.getD 4 0) (ins.getD 5 0)
  let i ← clarke (ins.getD 0 0) (ins.getD 1 0) (ins.getD 2 0)
  let vpr ← cxMul v rn
  let vnr ← cxMul v rp
  let ipr ← cxMul i rn
  let inr ← cxMul i rp
  let vv ← seqStep a vpr vnr r2n r2p (g.vp, g.vn)
  let ii ← seqStep a ipr inr r2n r2p (g.ipos, g.ineg)
  let vb := gfVBASE p
  let va ← cxAbs vv.1
  let vna ← cxAbs vv.2
  let floor_ ← cMul (dec 1 10) vb
  let vabs := fMaxOf va floor_
  let ud ← cDiv vv.1.d vabs
  let uq ← cDiv vv.1.q vabs
  let vplus ← cDiv va vb
  let vminus ← cDiv vna vb
  let third ← cDiv f2Pi fThree
  let third2 ← cMul fTwo third
  let ra ← cxRot third2
  let rb ← cxRot (fNeg third2)
  let h0 ← cxAdd vv.1 vv.2
  let h0 ← cxAbs h0
  let t1 ← cxMul vv.2 ra
  let h1 ← cxAdd vv.1 t1
  let h1 ← cxAbs h1
  let t2 ← cxMul vv.2 rb
  let h2 ← cxAdd vv.1 t2
  let h2 ← cxAbs h2
  let ph0 ← cDiv h0 vb
  let ph1 ← cDiv h1 vb
  let ph2 ← cDiv h2 vb
  let m ← cxMul ii.1 (cxConj vv.1)
  let ip ← cDiv m.d vabs
  let ir ← cDiv (fNeg m.q) vabs
  let iabs ← cxAbs ii.1
  let ai ← cAtan2 ii.1.q ii.1.d
  let thi ← cAdd th ai
  let thi ← wrap2Pi thi
  let pw ← cMul (dec 3 2) m.d
  let ang ← cAtan2 vv.1.q vv.1.d
  pure ({ g with vp := vv.1, vn := vv.2, ipos := ii.1, ineg := ii.2 },
    { vabs := vabs, unit := { d := ud, q := uq }, vplus := vplus, vminus := vminus,
      vlow := fMin (fMin ph0 ph1) ph2, vhigh := fMaxOf (fMaxOf ph0 ph1) ph2,
      ip := ip, ir := ir, iabs := iabs, thi := thi, power := pw, ang := ang })

/-! ### Codes (R227) -/

/-- The Walsh row of bay b at m, in sequency order: true for −1. -/
def walshNeg (b m : Nat) : Bool :=
  (List.range 5).foldl (fun w i => w != ((b / 2 ^ (5 - i) % 2 != b / 2 ^ (4 - i) % 2) && m / 2 ^ i % 2 == 1)) false

/-- One shift of a Fibonacci register of `n` stages with taps at stages n and t, stage i in bit i − 1 (R135). -/
def lfsrShift (n t r : Nat) : Nat :=
  (2 * r + (r / 2 ^ (n - 1) + r / 2 ^ (t - 1)) % 2) % 2 ^ n

/-- `k` shifts. -/
def lfsrRun (n t : Nat) : Nat → Nat → Nat
  | 0, r => r
  | k + 1, r => lfsrRun n t k (lfsrShift n t r)

/-- p(j) = +1: the output of the order-9 register, seeded with ones, after j shifts; its period is 511. -/
def prbsPos (j : Nat) : Bool := lfsrRun 9 5 (j % 511) 511 / 2 ^ 8 % 2 == 1

/-- c_b(j), as +1 or −1. -/
def codeAt (b j : Nat) : Int := if walshNeg b (j % 32) == prbsPos j then -1 else 1

/-! ### References (R214, R217, R218, R221, R222) -/

/-- The references of a run. -/
structure GridRef where
  ip : Word := 0
  ir : Word := 0
  /-- i_n, in the negative-sequence frame. -/
  inn : Cx := {}
  /-- The coded term was added. -/
  inj : Bool := false
  /-- The ramp of R214 still acts. -/
  ramp : Bool := false
  deriving DecidableEq, Repr

/-- i_r0 by QMODE. -/
def reactiveCmd (b : List Byte) (in6 ip0 scale : Word) : CM Word := do
  let qm := fRoundInt (imgPar b 6) 0
  if qm = 1 then
    let pf ← cSatClamp in6 (fNeg fOne) fOne
    let small := dec 1 20
    let pf := if fLt (fAbs pf) small then (if fSign pf then fNeg small else small) else pf
    let s ← sqrtDiff fOne pf
    let t ← cMul ip0 s
    let t ← cDiv t (fAbs pf)
    pure (if fSign pf then fNeg t else t)
  else if qm = 2 then pure in6
  else cMul scale in6

/-- Normal references (R214). `delta` is the coded term, when it is injected. -/
def normalRefs (p b : List Byte) (ins : List Word) (r ts : Word) (limIn7 : Bool) (m : GridMeas) (g : GridSt) (delta : Option Word) :
    CM GridRef := do
  let low := limIn7 && fLt (ins.getD 7 0) r
  if low then setSat else pure ()
  let pUse := if low then ins.getD 7 0 else r
  let den ← cMul fThree m.vabs
  let den ← cMul den (gfIRATED p)
  let scale ← cDiv fTwo den
  let num ← cMul fTwo pUse
  let ip0 ← cDiv num den
  let ir0 ← reactiveCmd b (ins.getD 6 0) ip0 scale
  let imax := gfIMAX p
  let activeFirst := fIsZero (imgPar b 7)
  let ipl ← if activeFirst then cLim ip0 imax else pure ip0
  let irl ← if activeFirst then do
      let lim ← sqrtDiff imax ipl
      cLim ir0 lim
    else cLim ir0 imax
  let ipl ← if activeFirst then pure ipl else do
      let lim ← sqrtDiff imax irl
      cLim ipl lim
  let step ← cMul (gfPRAMP p) ts
  let top ← cAdd g.ipRef step
  let hit := g.ramp && fLt top ipl
  let ip := if hit then top else ipl
  match delta with
  | none => pure { ip := ip, ir := irl, ramp := hit }
  | some d => do
    let lim ← if activeFirst then sqrtDiff imax ipl else pure imax
    let s ← cAdd irl d
    let ir ← cLim s lim
    pure { ip := ip, ir := ir, inj := true, ramp := hit }

/-- The factor of a restore (R222). -/
def restoreFactor (p : List Byte) (n tu : Nat) (g : GridSt) : Word :=
  match g.restoreN with
  | none => fOne
  | some k =>
    let t := msTU (gfTRESTORE p)
    let e := (n - k) * tu
    if t ≤ e then fOne else fDiv (fOfNat e) (fOfNat t)

/-- Ride-through references (R221, R222). -/
def rtRefs (p : List Byte) (n tu : Nat) (m : GridMeas) (g : GridSt) : CM GridRef := do
  if g.rts = 3 ∨ g.rts = 4 then pure {}
  else
    let lim := gfIMAXRT p
    let dv ← cSub m.vplus fOne
    let db := gfDB p
    let dv ← if fLe (fAbs dv) db then pure fZero else if fSign dv then cAdd dv db else cSub dv db
    let x ← cFms (gfKRT p) dv g.entryIr
    let ir := fClamp x (fNeg lim) lim
    let k ← cDiv (gfKNEG p) (gfVBASE p)
    let inn ← cxScale k (cxJ g.vn)
    let left ← cSub lim (fAbs ir)
    let a ← cxAbs inn
    let inn ← if fLt left a then do
        let q ← cDiv left a
        cxScale q inn
      else pure inn
    let ina := fMin a left
    let rest ← cSub lim ina
    let top ← sqrtDiff rest ir
    let ip := fClamp g.entryIp (fNeg top) top
    let f := restoreFactor p n tu g
    let ip ← cMul f ip
    let ir ← cMul f ir
    let inn ← cxScale f inn
    pure { ip := ip, ir := ir, inn := inn }

/-! ### Ride-through (R219, R222, R223) -/

/-- The boundary of a curve at a time in TU. -/
def boundary (p : List Byte) (off t : Nat) : Word :=
  let pts := (curvePts p off).filter (fun x => decide (msTU x.1 ≤ t))
  match pts.getLast? with
  | some x => fOfRat x.2 1000
  | none => fZero

/-- Momentary cessation inside ride-through (R222). -/
def cessation (p : List Byte) (n : Nat) (m : GridMeas) (g : GridSt) : GridSt :=
  let hyst := dec 1 50
  let lo := gfVMCLO p
  let hi := gfVMCHI p
  if g.rts = 1 ∧ !fIsZero lo ∧ fLt m.vlow lo then { g with rts := 3, restoreN := none }
  else if g.rts = 2 ∧ !fIsZero hi ∧ fLt hi m.vhigh then { g with rts := 4, restoreN := none }
  else if g.rts = 3 ∧ fLe (fAdd lo hyst) m.vlow then { g with rts := 1, restoreN := some n }
  else if g.rts = 4 ∧ fLe m.vhigh (fSub hi hyst) then { g with rts := 2, restoreN := some n }
  else g

/-- The ride-through decision of a run, with the trip causes it raises. The exit needs its conditions in the run that ends the hold too. -/
def rideThrough (p : List Byte) (st n tu : Nat) (m : GridMeas) (g : GridSt) : GridSt × List Nat :=
  let low := fLt m.vlow (gfVLOENT p)
  let high := fLt (gfVHIENT p) m.vhigh
  if g.rts = 0 then
    if st = stRUN ∧ (low ∨ high) then
      (cessation p n m { g with rts := (if low then 1 else 2), entryN := n, entryIp := g.ipRef, entryIr := g.irRef, exitN := none,
                                restoreN := none, exitDue := false }, [])
    else (g, if st = stHOLD then (if low then [9] else []) ++ (if high then [10] else []) else [])
  else if !(st = stRUN ∨ st = stRIDETHROUGH) then
    ({ g with rts := 0, exitN := none, exitDue := false, restoreN := none },
     if st = stHOLD then (if low then [9] else []) ++ (if high then [10] else []) else [])
  else
    let ok := fLe (gfVLOEXIT p) m.vlow && fLe m.vhigh (gfVHIEXIT p)
    if ok && (g.exitDue || gfTEXIT p == 0) then
      ({ g with rts := 0, exitN := none, exitDue := false, restoreN := none, ramp := true }, [])
    else
    let g := cessation p n m g
    let g := { g with exitN := if ok then some (g.exitN.getD n) else none, exitDue := false }
    let t := (n - g.entryN) * tu
    (g, (if fLt m.vlow (boundary p 164 t) then [9] else []) ++ (if fLt (boundary p 228 t) m.vhigh then [10] else []))

/-! ### Passive supervision (R224, R225) -/

/-- The condition of TRIPS entry i. -/
def tripCond (p : List Byte) (m : GridMeas) (f : Word) (i : Nat) : Bool :=
  let t := (gfTrip p i).1
  !fIsZero t &&
    (if i < 2 then fLt t m.vhigh else if i < 4 then fLt m.vlow t else if i < 6 then fLt t f else fLt f t)

/-- Timers, ROCOF and vector shift of a run; the causes due at once. -/
def supervise (p : List Byte) (st : Nat) (ts f : Word) (m : GridMeas) (g : GridSt) : CM (GridSt × List Nat) := do
  let timers := (List.range 8).map (fun i => if tripCond p m f i then satAdd (2 ^ 32 - 1) (g.timers.getD i 0) 1 else 0)
  let fh := (f :: g.fHist).take (gfROCWIN p + 1)
  let ah := (m.ang :: g.aHist).take (gfVSWIN p + 1)
  let win ← cMul (fOfNat (gfROCWIN p)) ts
  let df ← cSub f (fh.getD (gfROCWIN p) f)
  let roc ← cDiv df win
  let oor := !fIsZero (gfROCMAX p) && fLt (gfROCMAX p) (fAbs roc)
  let da ← cSub m.ang (ah.getD (gfVSWIN p) m.ang)
  let pi ← cMul f2Pi fHalf
  let da ← if fLt pi da then cSub da f2Pi else if fLt da (fNeg pi) then cAdd da f2Pi else pure da
  let deg ← cMul (fAbs da) (dec 360 1)
  let deg ← cDiv deg f2Pi
  let shift := st != stRIDETHROUGH && !fIsZero (gfVSMAX p) && fLt (gfVSMAX p) deg
  let rev := fSign f && !fIsZero f && (st == stRUN || st == stRIDETHROUGH)
  pure ({ g with timers := timers, fHist := fh, aHist := ah, rocof := roc, rocRun := if oor then g.rocRun + 1 else 0 },
    (if shift then [12] else []) ++ (if rev then [13] else []))

/-! ### The current law (R215) -/

/-- One axis of an integrator: the candidate, limited. -/
def intAxis (b : List Byte) (kts e i : Word) : CM Word := do
  let c ← cFma kts e i
  cWindClamp c (imgIMin b) (imgIMax b)

def intCx (b : List Byte) (kts : Word) (e i : Cx) : CM Cx := do
  let d ← intAxis b kts e.d i.d
  let q ← intAxis b kts e.q i.q
  pure { d := d, q := q }

/-- The resonant terms of the three phases on the phase errors. -/
def phaseTerms (b : List Byte) (ts f : Word) : List Word → List (List (Word × Word)) → CM (List (List (Word × Word)))
  | e :: es, x :: xs => do
    let y ← prTerms b ts f e 8 (x.take (imgOrder b))
    let r ← phaseTerms b ts f es xs
    pure ((y ++ x.drop (imgOrder b)) :: r)
  | _, _ => pure []

/-- The result of the law. -/
structure GridOut where
  u : Word × Word × Word := (0, 0, 0)
  intp : Cx := {}
  intn : Cx := {}
  pr : List (List (Word × Word)) := []
  deriving DecidableEq, Repr

/-- u = up rot(θf) + un rot(−θf) with the feed-forward and proportional parts `up`, `un` and the integrators, plus the resonant terms,
before and after the output clamp. -/
def phaseOut (b : List Byte) (up un ip inn : Cx) (rf rb : Cx) (pr : List (List (Word × Word))) :
    CM ((Word × Word × Word) × (Word × Word × Word)) := do
  let a ← cxAdd up ip
  let a ← cxMul a rf
  let n ← cxAdd un inn
  let n ← cxMul n rb
  let u ← cxAdd a n
  let x ← invClarke u
  let tot := fun (k : Nat) (v : Word) => cSum (v :: ((pr.getD k []).map (·.1)))
  let ua ← tot 0 x.1
  let ub ← tot 1 x.2.1
  let uc ← tot 2 x.2.2
  let lo := imgOMin b
  let hi := imgOMax b
  pure ((ua, ub, uc), (fClamp ua lo hi, fClamp ub lo hi, fClamp uc lo hi))

/-- The current law; `held` keeps every integrator and resonant state at 0 (R217); `track` is the record a SHADOW follows (R208). -/
def currentLaw (p b : List Byte) (ins : List Word) (th ts f : Word) (m : GridMeas) (r : GridRef) (g : GridSt) (held : Bool)
    (track : Option (Word × Word × Word)) : CM GridOut := do
  let ir := gfIRATED p
  let refp ← cxScale ir { d := r.ip, q := fNeg r.ir }
  let refp ← cxMul refp m.unit
  let refn ← cxScale ir r.inn
  let ep ← cxSub refp g.ipos
  let en ← cxSub refn g.ineg
  let w ← cMul f2Pi f
  let wl ← cMul w (imgPar b 4)
  let up ← cxFma wl (cxJ g.ipos) g.vp
  let up ← cxFma (imgPar b 0) ep up
  let un ← cxFma (fNeg wl) (cxJ g.ineg) g.vn
  let un ← cxFma (imgPar b 2) en un
  let adv ← cMul w ts
  let thf ← cAdd th adv
  let rf ← cxRot thf
  let rb ← cxRot (fNeg thf)
  let rp ← cxRot th
  let rn ← cxRot (fNeg th)
  let sp ← cxMul refp rp
  let sn ← cxMul refn rn
  let ist ← cxAdd sp sn
  let ix ← invClarke ist
  let ea ← cSub ix.1 (ins.getD 0 0)
  let eb ← cSub ix.2.1 (ins.getD 1 0)
  let ec ← cSub ix.2.2 (ins.getD 2 0)
  let fa := fAbs f
  let pr ← if held then pure (g.pr.map (fun l => l.map (fun _ => ((0 : Word), (0 : Word))))) else phaseTerms b ts fa [ea, eb, ec] g.pr
  let kp ← cMul (imgPar b 1) ts
  let kn ← cMul (imgPar b 3) ts
  let cp ← if held then pure {} else intCx b kp ep g.intp
  let cn ← if held then pure {} else intCx b kn en g.intn
  let c ← phaseOut b up un cp cn rf rb pr
  let sat := c.1 != c.2
  if sat then do
    setSat
    setWind
  let hold := sat && !held
  let i := if hold then g.intp else cp
  let n := if hold then g.intn else cn
  let o ← if hold then phaseOut b up un i n rf rb pr else pure c
  match (if held then none else track) with
  | none => pure { u := o.2, intp := i, intn := n, pr := pr }
  | some t => do
    -- R208: the integrator takes up what the computed outputs differ by from the record
    let want ← clarke t.1 t.2.1 t.2.2
    let have_ ← clarke o.1.1 o.1.2.1 o.1.2.2
    let d ← cxSub want have_
    let d ← cxMul d rb
    let i2 ← cxAdd i d
    let i3 : Cx := { d := fClamp i2.d (imgIMin b) (imgIMax b), q := fClamp i2.q (imgIMin b) (imgIMax b) }
    let o2 ← phaseOut b up un i3 n rf rb pr
    pure { u := o2.2, intp := i3, intn := n, pr := pr }

/-! ### A run on LEADER and SHADOW -/

/-- What a run takes from the device. -/
structure GridEnv where
  p : List Byte
  b : List Byte
  n : Nat
  tu : Nat
  st : Nat
  th : Word
  f : Word
  ins : List Word
  r : Word
  limIn7 : Bool
  issuing : Bool
  bays : List Nat
  deriving DecidableEq, Repr

/-- δ of R228 when it is injected in this run. -/
def GridEnv.delta (e : GridEnv) (g : GridSt) : Option Word :=
  if !fIsZero (gfACODE e.p) && g.armed && e.issuing && e.st == stRUN && g.rts == 0 then
    let sum := (e.bays.map (fun b => codeAt b (e.n / gfCHIPF e.p))).foldl (· + ·) 0
    some (fMul (fDiv (gfACODE e.p) (fOfNat e.bays.length)) (fOfInt sum 0))
  else none

/-- The states in which the integrators are held at 0 (R217). -/
def heldStates : List Nat := [stREADY, stPRECHARGE, stBLOCKED, stTRIPPED]

/-- The run: the new state and the trip causes that fall due in it. In ORPHAN, for which R217 states no references, they are 0 (log entry 26). From SYNC
the active current rises into RUN under PRAMP, as the start example has it (DEDUCED, log entry 26). -/
def GridEnv.law (e : GridEnv) (g : GridSt) : CM (GridSt × List Nat) := do
  let ts := fOfRat e.tu 3200000000
  let x ← gridMeasure e.p e.b e.ins e.th ts g
  let g := x.1
  let m := x.2
  let rt := rideThrough e.p e.st e.n e.tu m g
  let g := rt.1
  let sup ← supervise e.p e.st ts e.f m g
  let g := sup.1
  let rev := fSign e.f && !fIsZero e.f
  let zero := rev || !(e.st = stRUN ∨ e.st = stRIDETHROUGH ∨ e.st = stHOLD)
  let normal := !zero && e.st != stHOLD && g.rts == 0
  let r ← if zero then pure {}
    else if e.st = stHOLD then
      let z := g.frozen.getD (g.ipRef, g.irRef)
      pure { ip := z.1, ir := z.2 }
    else if g.rts ≠ 0 then rtRefs e.p e.n e.tu m g
    else normalRefs e.p e.b e.ins e.r ts e.limIn7 m g (e.delta g)
  let track := if e.issuing then none
    else match g.applied with
      | some rec => some (rec.getD 1 0, rec.getD 2 0, rec.getD 3 0)
      | none => none
  let o ← currentLaw e.p e.b e.ins e.th ts e.f m r g (heldStates.contains e.st) track
  let irpu ← cDiv m.ir (gfIRATED e.p)
  let frozen := if e.st = stHOLD then some (g.frozen.getD (g.ipRef, g.irRef)) else none
  pure ({ g with intp := o.intp, intn := o.intn, pr := o.pr, ipRef := r.ip, irRef := r.ir, inRef := r.inn, ramp := (if normal then r.ramp else g.ramp || e.st == stSYNC),
                 frozen := frozen, inj := r.inj, seqrev := rev, vminus := m.vminus, vlow := m.vlow, vhigh := m.vhigh,
                 out := [o.u.1, o.u.2.1, o.u.2.2, m.iabs, m.thi, m.power, m.vplus, irpu, if e.limIn7 then fZero else e.ins.getD 7 0] },
    rt.2 ++ sup.2)

/-! ### Trips (R224, R226) -/

/-- The states in which a due cause is raised (R217). -/
def gridActive (st : Nat) : Bool := [stSYNC, stRUN, stRIDETHROUGH, stHOLD].contains st

/-- A trip cause raised: the source, a log record and the status fields. -/
def Dev.gridTrip (s : Dev) (cause : Nat) : Dev :=
  let s := s.logNow 18 (if cause = 14 then 4 else 3) cause
  let s := s.setGrid { s.grid with lastCause := cause, tripStamp := s.stamp 0 }
  s.latch (s.stamp 0) [if cause = 14 then 0x29 else 0x28]

/-- A cause due on the issuer: raised where R217 makes it active, else only reported. -/
def Dev.gridDue (s : Dev) (cause : Nat) : Dev :=
  if gridActive s.st then
    (s.setGrid { s.grid with due := s.grid.due ++ [cause] }).gridTrip cause
  else s.setGrid { s.grid with lastCause := cause }

/-- A clearing time in frames, rounded up, at least the frame of the condition itself. -/
def Dev.clearFrames (s : Dev) (ms : Nat) : Nat := max 1 (cdiv (msTU ms) s.frameTU)

/-- TRIPS entry i has held for its clearing time (R224). -/
def Dev.gridTripDue (s : Dev) (i : Nat) : Dev :=
  let g := s.grid
  let t := gfTrip g.profile i
  if i < 8 && g.issuing && !fIsZero t.1 && decide (s.clearFrames t.2 ≤ g.timers.getD i 0) then s.gridDue (i + 1) else s

/-- ROCOF above ROCMAX for ROCT (R225). -/
def Dev.rocofHold (s : Dev) : Dev :=
  if s.grid.issuing && decide (s.clearFrames (gfROCT s.grid.profile) ≤ s.grid.rocRun) then s.gridDue 11 else s

/-- The exit conditions have held for TEXIT (R223): RTS 0 from the next run on. -/
def Dev.rtExitHold (s : Dev) : Dev :=
  match s.grid.exitN with
  | some n =>
    if s.grid.rts ≠ 0 && decide (n * s.frameTU + msTU (gfTEXIT s.grid.profile) ≤ s.curN * s.frameTU) then
      s.setGrid { s.grid with exitDue := true }
    else s
  | none => s

/-! ### The grid record (R205, R207, R208) -/

def recCtl (r : GridRec) : Nat := (r.getD 0 0).toNat
def recRts (r : GridRec) : Nat := recCtl r % 8
def recTripReq (r : GridRec) : Bool := recCtl r / 8 % 2 == 1
def recInj (r : GridRec) : Bool := recCtl r / 16 % 2 == 1
def recIssuer (r : GridRec) : Bool := recCtl r / 32 % 2 == 1
def recSeqRev (r : GridRec) : Bool := recCtl r / 64 % 2 == 1
def recCause (r : GridRec) : Nat := recCtl r / 256 % 16
def recNg (r : GridRec) : Nat := recCtl r / 4096 % 32 + 1
def recFrame (r : GridRec) : Nat := recCtl r / 2 ^ 17

/-- The image of the GRID context in use. -/
def Dev.lawImg (s : Dev) (law : Nat) : Option (Nat × List Byte) :=
  (s.ce.ctxs.find? (fun x => !x.2.img.isEmpty && imgLaw x.2.img == law)).map (fun x => (x.1, x.2.img))

/-- The chip acts as SHADOW: by its role, or as a LEADER that has applied a record of the shadow (R208). -/
def GridSt.shadow (g : GridSt) : Bool := g.role == 2 || g.stepped

/-- The record of this frame, from the last run. -/
def Dev.gridRecord (s : Dev) : GridRec :=
  let g := s.grid
  let o := g.out
  let cause := g.due.foldl (fun a c => if a = 0 then c else min a c) 0
  let ctl := g.rts + 8 * b2n (!g.due.isEmpty) + 16 * b2n g.inj + 32 * b2n g.shadow + 64 * b2n g.seqrev + 256 * cause +
    4096 * (s.bayCount.length - 1) + 2 ^ 17 * (s.curN % 2 ^ 15)
  [BitVec.ofNat 32 ctl, o.getD 0 0, o.getD 1 0, o.getD 2 0, o.getD 3 0, o.getD 4 0, o.getD 5 0, o.getD 6 0, o.getD 7 0,
   o.getD 8 0, BitVec.ofNat 32 g.crc]

/-- A record takes its place among those waiting for their frame. -/
def Dev.gridQueue (s : Dev) (r : GridRec) : Dev :=
  s.setGrid { s.grid with inbox := s.grid.inbox ++ [(recFrame r, r)] }

/-- The issuer writes its record into the broadcast slots in the dispatch phase (R205). -/
def Dev.gridIssue (s : Dev) : Dev :=
  let s := onlyIf (s.st == stORPHAN) (fun t => t.setGrid { t.grid with issuing := false }) s
  let g := s.grid
  if g.issuing && (s.lawImg 0x10).isSome && !s.stIn [stPOWEROFF, stBOOT, stCONFIG] then
    let r := s.gridRecord
    let s := forEach (List.range 11) (fun i t => t.slotWrite (gfGRSLOT g.profile + i) (r.getD i 0).toNat) s
    let s := s.gridQueue r
    s.setGrid { s.grid with due := [], own := s.grid.own ++ [r] }
  else s.setGrid { g with due := [] }

/-- A record arrives on a port in the broadcast slots, which show it under R278; it waits for its frame, and one whose frame has passed is
ignored (R207). The profile says which slots they are. -/
def Dev.gridReceive (s : Dev) (port : Nat) (r : GridRec) : Dev :=
  let late := (s.curN + 2 ^ 15 - (recFrame r + gfGDLY s.grid.profile) % 2 ^ 15) % 2 ^ 15
  if r.length ≠ 11 || s.grid.profile.isEmpty then s
  else
    let p := s.grid.profile
    let chip := if recIssuer r then 16 * byteAt p 2 + byteAt p 3 else 16 * byteAt p 0 + byteAt p 1
    let back := (s.curN % 2 ^ 15 + 2 ^ 15 - recFrame r) % 2 ^ 15
    let issued := if back < 2 ^ 14 then s.curN - back else s.curN + (2 ^ 15 - back)
    let s := forEach (List.range 11) (fun i t => t.slotUpdate port (gfGRSLOT p + i) chip issued (r.getD i 0).toNat 0 0) s
    if !s.krk.joined || late < 2 ^ 14 || s.grid.inbox.contains (recFrame r, r) then s else s.gridQueue r

/-- The extrapolation of a record over one frame (R207). -/
def extrapolate (f ts : Word) (r : GridRec) : CM GridRec := do
  let w ← cMul f2Pi f
  let phi ← cMul w ts
  let rot ← cxRot phi
  let u ← clarke (r.getD 1 0) (r.getD 2 0) (r.getD 3 0)
  let u ← cxMul u rot
  let x ← invClarke u
  let t ← cAdd (r.getD 5 0) phi
  let t ← wrap2Pi t
  pure ((((r.set 1 x.1).set 2 x.2.1).set 3 x.2.2).set 5 t)

/-- Cause 15, except in ORPHAN. -/
def Dev.recordLost (s : Dev) : Dev := if s.st = stORPHAN then s else s.gridTrip 15

/-- The station trip loop has reached this chip. -/
def Dev.loopLatched (s : Dev) : Bool := s.isOn (latF 0x1C) || s.isOn (latF 0x1D)

/-- An applied record changes the issuer (R208), and trips every chip but the one that issued it (R224). -/
def Dev.gridApply (s : Dev) (r : GridRec) : Dev :=
  let g := s.grid
  let own := g.own.contains r
  let step := g.role == 1 && !g.stepped && recIssuer r
  let s := s.setGrid { g with applied := some r, extrap := false, extrapRun := 0, shadowSeen := g.shadowSeen || recIssuer r,
                              stepped := g.stepped || step, issuing := g.issuing && !step }
  if recTripReq r && !own && !s.loopLatched then s.gridTrip (recCause r) else s

/-- A frame without an applicable record (R207, R208). A SHADOW in ORPHAN does not take over, for no chip there issues. A member that has applied
no record yet has nothing to extrapolate; the frame counts all the same (DEDUCED, log entry 26). -/
def Dev.gridMissed (s : Dev) : Dev :=
  let g := s.grid
  if g.applied.isNone && s.mst != mMEMBER then s
  else
    let n := g.extrapRun + 1
    let s := s.setGrid { g with extrap := true, extrapRun := n, extrapTotal := satAdd 0xFFFF g.extrapTotal 1,
                                issuing := g.issuing || (g.shadow && s.st != stORPHAN && decide (2 ≤ n)) }
    onlyIf (n == 8) (·.recordLost) s

/-- The tick: the record issued GDLY frames ago is applied, or there is none (R205, R207, R208). The records this chip issued are kept as long as it
may apply them. -/
def Dev.gridTick (s : Dev) : Dev :=
  if (s.lawImg 0x10).isNone || s.stIn [stPOWEROFF, stBOOT, stCONFIG] then s
  else
    let g := s.grid
    let key := (s.curN + 2 ^ 15 - gfGDLY g.profile) % 2 ^ 15
    let cand := (g.inbox.filter (fun x => x.1 == key)).map (·.2)
    let cand := cand.filter (fun r => recIssuer r || !g.shadowSeen)
    let good := cand.find? (fun r => (r.getD 10 0).toNat == g.crc)
    let bad := cand.any (fun r => (r.getD 10 0).toNat != g.crc)
    let waits := fun (n : Nat) => decide ((n + 2 ^ 15 - key) % 2 ^ 15 ≠ 0) && decide ((n + 2 ^ 15 - key) % 2 ^ 15 < 16)
    let s := s.setGrid { g with inbox := g.inbox.filter (fun x => waits x.1) }
    let s := onlyIf (bad && !g.mismatch) (fun t => (t.setGrid { t.grid with mismatch := true }).recordLost) s
    let s := match good with
      | some r => s.gridApply r
      | none => s.gridMissed
    s.setGrid { s.grid with own := s.grid.own.filter (fun r => waits (recFrame r)) }

/-- What the record in use at a tick does last: a missing one is extrapolated from the last with the frame’s frequency (R207), and an applied one
begins or ends ride-through (R219). -/
def Dev.gridRide (s : Dev) : Dev :=
  let g := s.grid
  if (s.lawImg 0x10).isNone || s.stIn [stPOWEROFF, stBOOT, stCONFIG] then s
  else
    match g.applied with
    | none => s
    | some r =>
      if g.extrap then
        s.setGrid { g with applied := some ((extrapolate (s.reg Reg.ANG_FREQ) (fOfRat s.frameTU 3200000000) r).run {}).1 }
      else if s.st = stRUN && recRts r ≠ 0 then
        let s := (s.enter stRIDETHROUGH causeRideThrough).logNow 18 1 (recRts r)
        s.setGrid { s.grid with rtStamp := s.tickStamp }
      else if s.st = stRIDETHROUGH && recRts r = 0 then (s.enter stRUN causeRideThrough).logNow 18 2 0
      else s

/-! ### The GRID context's run -/

/-- The group references of the applied record (R211). -/
def Dev.gridGroups (s : Dev) (r : GridRec) : Dev :=
  let put := fun (i : Nat) (w : Word) (t : Dev) => t.setEsp { t.esp with group := sset (fun _ => 0) t.esp.group i w }
  if s.mmc then
    let h := fMul (r.getD 9 0) fHalf
    forEach (List.range 3) (fun x t => put (x + 3) (fAdd h (r.getD (1 + x) 0)) (put x (fSub h (r.getD (1 + x) 0)) t)) s
  else forEach (List.range 3) (fun x t => put x (r.getD (1 + x) 0) t) s

/-- A run of the GRID context: inputs and set-point in; events, and the four outputs, out. -/
def Dev.gridRun (s : Dev) (b : List Byte) (ins : List Word) (r : Word) : Dev × CFlags × List Word :=
  let g := s.grid
  let e : GridEnv := { p := g.profile, b := b, n := s.curN, tu := s.frameTU, st := s.st, th := angleRad (s.reg Reg.ANG_ANGLE).toNat,
                       f := s.reg Reg.ANG_FREQ, ins := ins, r := r, limIn7 := !s.mmc && selClass (imgIn b 7) != 0,
                       issuing := g.issuing, bays := s.bayCount }
  let run := g.role == 1 || g.role == 2
  let x := if run then (e.law g).run {} else ((g, []), {})
  let out := x.1.1.out
  -- slot 9 carries the DC voltage in MMC mode and +0 in CHB mode
  let s := s.setGrid { x.1.1 with out := out.set 8 (if s.mmc then ins.getD 7 0 else fZero) }
  let s := onlyIf (run && g.issuing) (forEach x.1.2 (fun c t => t.gridDue c)) s
  match s.grid.applied with
  | some rec => (s.gridGroups rec, x.2, [rec.getD 1 0, rec.getD 4 0, rec.getD 5 0, rec.getD 6 0])
  | none => (s, x.2, [0, 0, 0, 0])

/-- The states of a GRID context at 0 (R139). -/
def GridSt.zeroed (g : GridSt) : GridSt :=
  { g with vp := {}, vn := {}, ipos := {}, ineg := {}, intp := {}, intn := {}, pr := List.replicate 3 (List.replicate 6 (0, 0)) }

/-! ### Coded islanding (R229, R230) -/

/-- Frames of a correlation window. -/
def islWindow (p : List Byte) : Nat := 32 * gfCHIPF p * gfWINB p

/-- A run of the ISLCODE context: the applied record joins the window of its issue frame. Answers OUT0. -/
def Dev.islRun (s : Dev) (b : List Byte) : Dev × CFlags × List Word :=
  let p := s.grid.profile
  let x := s.isl
  let inRun := s.st == stRUN
  let x := if inRun && !x.wasRun then { x with count := 0 } else x
  let x := { x with wasRun := inRun }
  match s.grid.applied with
  | none => (s.setIsl x, {}, [x.lastZ])
  | some r =>
    let n := s.curN - gfGDLY p
    let x := if n % islWindow p = 0 then { x with sc := 0, sx := 0, scx := 0, sy := 0, scy := 0, sf := 0, n := 0, valid := true } else x
    let lag := (fRoundInt (imgPar b 0) 0).toNat
    let c := codeAt s.gridBay ((n - lag) / gfCHIPF p)
    let cw := fOfInt c 0
    let run : CM IslSt := do
      let sx ← cAdd x.sx (r.getD 7 0)
      let scx ← cFma cw (r.getD 7 0) x.scx
      let sy ← cAdd x.sy (r.getD 8 0)
      let scy ← cFma cw (r.getD 8 0) x.scy
      let sf ← cAdd x.sf (s.reg Reg.ANG_FREQ)
      pure { x with sc := x.sc + c, sx := sx, scx := scx, sy := sy, scy := scy, sf := sf, n := x.n + 1,
                    valid := x.valid && inRun && recInj r && recRts r == 0 && !s.grid.extrap }
    let q := run.run {}
    (s.setIsl q.1, q.2, [x.lastZ])

/-- Z_ref and f_ref: the means of the windows kept. -/
def IslSt.refs (x : IslSt) : Word × Word := (fMean (x.zref.map (·.1)), fMean (x.zref.map (·.2)))

/-- NREF of the ISLCODE context. -/
def Dev.nref (s : Dev) : Nat :=
  match s.lawImg 0x11 with
  | some x => (fRoundInt (imgPar x.2 2) 0).toNat
  | none => 16

/-- The decision is armed (R230). -/
def Dev.islArmed (s : Dev) : Bool := s.isl.refOk && decide (s.nref ≤ s.isl.count)

/-- Ci and Cv of the sums (R229). -/
def corr (sc : Int) (sv scv : Word) (w : Nat) : Word := fFma (fNeg (fDiv (fOfInt sc 0) (fOfNat w))) sv scv

/-- A valid window judged (R230). -/
def Dev.islJudge (s : Dev) (z fm : Word) : Dev :=
  let p := s.grid.profile
  let x := { s.isl with lastZ := z }
  let r := x.refs
  let jump := x.refOk && fLt (fMul (gfZJUMP p) r.1) (fAbs (fSub z r.1))
  let drift := fLt (gfFDRIFT p) (fAbs (fSub fm r.2))
  if !jump then
    let l := ((z, fm) :: x.zref).take s.nref
    s.setIsl { x with zref := l, refOk := x.refOk || decide (s.nref ≤ l.length), jumps := [], count := x.count + 1 }
  else if drift then
    let s := s.setIsl { x with jumps := [] }
    if s.islArmed then s.gridTrip 14 else s
  else
    let j := (z, fm) :: x.jumps
    let x := { x with jumpOnly := satAdd 0xFFFF x.jumpOnly 1 }
    if 3 ≤ j.length then (s.setIsl { x with zref := j.take 3, refOk := true, jumps := [] }).logNow 18 5 z.toNat
    else s.setIsl { x with jumps := j }

/-- A window ends (R229): valid or not, and judged when valid. -/
def Dev.islWindowEnd (s : Dev) : Dev :=
  match s.lawImg 0x11 with
  | none => s
  | some img =>
    let p := s.grid.profile
    let x := s.isl
    let w := islWindow p
    let ng := match s.grid.applied with
      | some r => recNg r
      | none => 1
    let ci := corr x.sc x.sy x.scy w
    let cv := corr x.sc x.sx x.scx w
    let thr := fMul (fMul (imgPar img.2 1) (fOfNat w)) (fDiv (gfACODE p) (fOfNat ng))
    let ok := x.valid && x.n == w && fLe thr ci
    let fm := fDiv x.sf (fOfNat w)
    let s := s.setIsl { x with sc := 0, sx := 0, scx := 0, sy := 0, scy := 0, sf := 0, n := 0, valid := true,
                               invalid := if ok then x.invalid else satAdd 0xFFFF x.invalid 1 }
    if ok then s.islJudge (fDiv cv ci) fm else s

/-! ### Opcodes 0x50–0x55 (R232, R233) -/

/-- GRID_PROFILE_LOAD. Only the profile and its CRC change; a mismatch found with the old profile is over (DESIGN CHOICE, log entry 26). -/
def bodyGridProfileLoad (src : Src) (p : Packet) (s : Dev) : Ans :=
  withLoad s src 24 (pN p 24 8) 320 (fun s d =>
    match lowestOf (badProfile d) with
    | some o => ansBad s sBAD_PARAM o
    | none =>
      let g := s.grid
      let c := crc32 d
      ansRes (s.setGrid { g with profile := d, crc := c, mismatch := false }) (toLe c 4))

/-- GRID_PROFILE_READ. -/
def bodyGridProfileRead (src : Src) (p : Packet) (s : Dev) : Ans :=
  let d := s.grid.profile
  withStore s src 24 (pN p 24 8) (if d.isEmpty then zeros 320 else d) ansOk

/-- The 96-byte status record (R233). -/
def Dev.gridStatus (s : Dev) : List Byte :=
  let g := s.grid
  let a := g.applied.getD (List.replicate 11 0)
  let led := g.role != 0
  let pick := fun (w : Word) => wordBytes (if led then w else fZero)
  let role := if g.shadow then (if g.issuing then 3 else 2) else g.role
  let inAbs := ((cxAbs g.inRef).run {}).1
  let r := if s.isl.refOk then s.isl.refs else (fZero, fZero)
  toLe s.tickStamp 8 ++ toLe s.frame 4 ++
    [BitVec.ofNat 8 role, BitVec.ofNat 8 (recRts a), BitVec.ofNat 8 g.lastCause,
     BitVec.ofNat 8 (b2n g.extrap + 2 * b2n (recInj a) + 4 * b2n s.islArmed + 8 * b2n (recSeqRev a) + 16 * b2n g.mismatch)] ++
    wordBytes (a.getD 7 0) ++ pick g.vminus ++ pick g.vlow ++ pick g.vhigh ++ pick (s.reg Reg.ANG_FREQ) ++ pick g.rocof ++
    wordBytes (a.getD 6 0) ++ wordBytes (a.getD 8 0) ++ pick inAbs ++ wordBytes s.isl.lastZ ++ wordBytes r.1 ++ wordBytes r.2 ++
    toLe g.rtStamp 8 ++ toLe g.tripStamp 8 ++ toLe g.extrapTotal 2 ++ toLe s.isl.invalid 2 ++ toLe s.isl.jumpOnly 2 ++ zeros 2 ++
    toLe g.crc 4 ++ zeros 4

/-- GRID_STATUS_READ. -/
def bodyGridStatusRead (src : Src) (p : Packet) (s : Dev) : Ans := withStore s src 24 (pN p 24 8) s.gridStatus ansOk

/-- GRID_ISL_ARM. -/
def bodyGridIslArm (_src : Src) (p : Packet) (s : Dev) : Ans := ansOk (s.setGrid { s.grid with armed := pB p 16 % 2 == 1 })

/-- GRID_ZREF_RESET. -/
def bodyGridZrefReset (_src : Src) (_p : Packet) (s : Dev) : Ans := ansOk (s.setIsl { s.isl with count := 0 })

/-- GRID_TRIP_TEST. -/
def bodyGridTripTest (_src : Src) (p : Packet) (s : Dev) : Ans :=
  let c := pB p 16
  if c = 0 ∨ 15 < c then ansBad s sBAD_PARAM 16 else ansOk (s.gridTrip c)

end Sys2Proof.Machine
end

