-- ==== Sys2Proof/Machine/Nimbus.lean ====
section
/-! DEFINITION. Nimbus, the energy meter (R316–R340): configuration, samples, accumulators, intervals, events, pulses, harmonics,
saves and restore, and the metering opcodes. -/

namespace Sys2Proof.Machine

def Dev.setMtr (s : Dev) (m : MtrSt) : Dev := { s with mtr := m }

/-! ### Configuration (R316–R318) -/

def mcFNOM (c : List Byte) : Nat := byteAt c 0
def mcHGRP (c : List Byte) : Nat := byteAt c 1
def mcPAIR (c : List Byte) (k : Nat) : Nat := byteAt c (2 + k)
def mcINTV (c : List Byte) : Nat := byteAt c 9
def mcSAVEINT (c : List Byte) : Nat := leAt c 10 2
def mcGAIN (c : List Byte) (k : Nat) : Word := wordAt c (12 + 4 * k)
def mcPH (c : List Byte) (k : Nat) : Int := signed 32 (leAt c (40 + 4 * k) 4)
def mcPNL (c : List Byte) : Word := wordAt c 68
def mcQNL (c : List Byte) : Word := wordAt c 72
def mcNTHR (c : List Byte) : Word := wordAt c 76
def mcSRC (c : List Byte) (k : Nat) : Nat := byteAt c (80 + 8 * k)
def mcPW (c : List Byte) (k : Nat) : Nat := byteAt c (81 + 8 * k)
def mcWEIGHT (c : List Byte) (k : Nat) : Nat := leAt c (84 + 8 * k) 4
def mcCRC (c : List Byte) : Nat := leAt c 124 4
/-- NC: cycles per harmonic window. -/
def mcNC (c : List Byte) : Nat := if mcFNOM c = 0 then 10 else 12
/-- The nominal frequency. -/
def mcF0 (c : List Byte) : Nat := if mcFNOM c = 0 then 50 else 60

/-- Offsets of the fields of a configuration block that are rejected (R317). -/
def badMtr (c : List Byte) : List Nat :=
  let pairs := (List.range 7).map (mcPAIR c)
  badAt (decide (1 < mcFNOM c)) 0 ++ badAt (decide (1 < mcHGRP c)) 1 ++
  ((List.range 7).filter (fun k =>
    let p := mcPAIR c k
    !(decide (p ≤ 7) || (k == 6 && p == 0xFF)) || (p != 0xFF && (pairs.take k).contains p))).map (· + 2) ++
  badAt (! [1, 2, 3, 4, 5, 6, 10, 12, 15, 20, 30, 60].contains (mcINTV c)) 9 ++
  badAt (!(decide (1 ≤ mcSAVEINT c) && decide (mcSAVEINT c ≤ 3600))) 10 ++
  ((List.range 7).filter (fun k => !inRange (mcGAIN c k) (dec 9 10) (dec 11 10))).map (fun k => 12 + 4 * k) ++
  ((List.range 7).filter (fun k => decide (32000 < (mcPH c k).natAbs))).map (fun k => 40 + 4 * k) ++
  badAt (!inRange (mcPNL c) fZero (dec 1000000000 1)) 68 ++ badAt (!inRange (mcQNL c) fZero (dec 1000000000 1)) 72 ++
  badAt (!inRange (mcNTHR c) (dec 1 20) (dec 1 2)) 76 ++
  ((List.range 4).map (fun k =>
    let o := 80 + 8 * k
    badAt (!(decide (mcSRC c k ≤ 17) || mcSRC c k == 0xFF)) o ++
    badAt (!(decide (1 ≤ mcPW c k) && decide (mcPW c k ≤ 250))) (o + 1) ++
    badAt (byteAt c (o + 2) != 0) (o + 2) ++ badAt (byteAt c (o + 3) != 0) (o + 3) ++ badAt (mcWEIGHT c k == 0) (o + 4))).flatten ++
  ((List.range 12).filter (fun i => byteAt c (112 + i) != 0)).map (· + 112) ++
  badAt (mcCRC c != crc32 (c.take 124)) 124

/-- Nimbus runs (R318). -/
def Dev.mtrRuns (s : Dev) : Bool :=
  s.isOn Reg.MTR_CTL_EN && s.isOn Reg.MTR_STAT_CFGVALID && s.isOn Reg.ADC_CTL_EN && !s.stIn [stPOWEROFF, stBOOT, stCONFIG]

/-- Channels whose pair is named. -/
def namedPairs (c : List Byte) : List Nat := ((List.range 7).map (mcPAIR c)).filter (· != 0xFF)

/-- NCH of R333: 6 or 7. -/
def mtrNCH (c : List Byte) : Nat := (namedPairs c).length

/-- Registers whose setting keeps the device in CONFIG with EN set (R318), condition by condition. -/
def Dev.mtrCheck (s : Dev) : List Nat :=
  if !s.isOn Reg.MTR_CTL_EN then []
  else
    let named := if s.isOn Reg.MTR_STAT_CFGVALID then namedPairs s.mtr.cfg else []
    let ps := List.range 8
    let meter := fun p => s.isOn (Reg.ADC_PAIRp_CFG_METER p)
    let input := fun p => 6 * p + idx5 (s.get (Reg.ADC_PAIRp_CFG_ILCH p))
    (ps.filter (fun p => named.contains p && !(s.pairMode p == 1 && meter p))).map Reg.ADC_PAIRp_CFG ++
    (ps.filter (fun p => meter p && !named.contains p)).map Reg.ADC_PAIRp_CFG ++
    (ps.filter (fun p => named.contains p && !s.isOn ⟨if input p < 32 then 0x1028 else 0x102C, input p % 32, input p % 32⟩)).map
      (fun p => if input p < 32 then 0x1028 else 0x102C)

/-! ### Events (R328) -/

/-- An event record, with its copy in the log (R394). -/
def Dev.mtrEvent (s : Dev) (stamp code chan : Nat) (value : Word) : Dev :=
  let b := toLe stamp 8 ++ [BitVec.ofNat 8 code, BitVec.ofNat 8 chan, 0, 0] ++ wordBytes value ++ zeros 16
  (s.setMtr { s.mtr with evts := (b :: s.mtr.evts).take 128 }).logAt stamp 12 code 0 value.toNat

/-! ### Start and stop -/

/-- f_m is invalid: FNOM’s frequency, FREQINV set (R331). -/
def Dev.freqInvalid (s : Dev) : Dev :=
  ((s.setReg Reg.MTR_FREQ (fOfNat (mcF0 s.mtr.cfg))).setB Reg.MTR_STAT_FREQINV true).setMtr { s.mtr with cross := [] }

/-- The pulse outputs begin anew, but for the time of their last leading edges (R330). -/
def keptEdges (m : MtrSt) : List PulseSt := m.pulses.map (fun p => { last := p.last })

/-- Nimbus starts: residues, windows and the sliding means begin anew; its first interval carries PART (R326, R327, R330). -/
def Dev.mtrStart (s : Dev) : Dev :=
  let m := s.mtr
  let intv := m.intv.map (fun x => (x.1, x.2.1, x.2.2.1, { x.2.2.2 with part := true }))
  let s := s.setMtr { m with running := true, chans := List.replicate 7 {}, marks := [], bad := [], outs := [], lp := [], hist := [], dir := none,
                             intv := intv, pulses := keptEdges m, lastOvrm := none, lastDegr := none, winStart := none, winCycles := 0,
                             winFlags := {}, ended := [], winCount := 0, win := none, seqRun := 0, neutRun := 0, sumP := 0, sumQ := 0, num := 0 }
  let s := (s.setB Reg.MTR_STAT_RUN true).freqInvalid
  let s := { s with pins := { s.pins with pulseOut := 0 } }
  forEach (List.range 4) (fun k t => t.set (Reg.MTR_PSTATk_BACKLOG k) 0) s

/-- Nimbus stops: pins low, the last-known power is no longer valid (R330, R423). The pulses that wait then are given up, on which R330 is silent
(DESIGN CHOICE, log entry 63). -/
def Dev.mtrStop (s : Dev) : Dev :=
  let m := s.mtr
  let intv := m.intv.map (fun x => (x.1, x.2.1, x.2.2.1, { x.2.2.2 with part := true }))
  let s := s.setMtr { m with running := false, intv := intv, pulses := keptEdges m }
  let s := (s.setB Reg.MTR_STAT_RUN false).setB Reg.VLT_STAT_LKPVALID false
  let s := forEach (List.range 4) (fun k t => t.set (Reg.MTR_PSTATk_BACKLOG k) 0) s
  { s with pins := { s.pins with pulseOut := 0 } }

/-- Nimbus follows its conditions (R318). -/
def Dev.mtrFollow (s : Dev) : Dev :=
  if s.mtrRuns && !s.mtr.running then s.mtrStart
  else if !s.mtrRuns && s.mtr.running then s.mtrStop else s

/-! ### Power (R323–R326) -/

/-- L of R323. -/
def Dev.slideLen (s : Dev) : Nat :=
  if s.isOn Reg.MTR_STAT_FREQINV then (if mcFNOM s.mtr.cfg = 0 then 320 else 267)
  else (fRoundInt (fDiv (fOfNat 16000) (s.reg Reg.MTR_FREQ)) 0).toNat

/-- P_x or Q_x: the mean of the products over the last L samples. -/
def phaseMean (pick : MtrSample → List Word) (x : Nat) (l : List MtrSample) : Word :=
  fMean (l.map (fun m => fMul ((pick m).getD x 0) (m.i.getD x 0)))

/-- The increments of the accumulators for a sample, as values in W or var; none where the condition fails (R324). -/
def increments (pnl qnl p q : Word) (px qx : List Word) : List (Option Word) :=
  let on := fun (c : Bool) (v : Word) => if c then some v else none
  let pNeg := fSign p && !fIsZero p
  let third := fun (w : Word) => fDiv w fThree
  [on (fLe pnl p) p, on (fLe p (fNeg pnl)) (fNeg p), on (fLe qnl q && !pNeg) q, on (fLe qnl q && pNeg) q,
   on (fLe q (fNeg qnl) && pNeg) (fNeg q), on (fLe q (fNeg qnl) && !pNeg) (fNeg q)] ++
  ((List.range 3).map (fun x =>
    let a := px.getD x 0
    let b := qx.getD x 0
    [on (fLe (third pnl) a) a, on (fLe a (fNeg (third pnl))) (fNeg a), on (fLe (third qnl) b) b,
     on (fLe b (fNeg (third qnl))) (fNeg b)])).flatten

/-- An increment of 62.5 µs in 2^−32 mWh, formed in FP32 and rounded (R324). -/
def incFixed (v : Word) : Nat := (fRoundInt (fMul v (fOfRat 625 36000000)) 32).toNat

/-- Integer parts of accumulators 0–5. -/
def accInts (acc : List Nat) : List Nat := (List.range 6).map (fun i => acc.getD i 0 / 2 ^ 32)

/-! ### Intervals (R327) -/

/-- The interval length in TU. -/
def intvTU (c : List Byte) : Nat := mcINTV c * 60 * 3200000000

/-- The record of an interval. -/
def intvRecord (start : Nat) (base now : List Nat) (f : MtrFlags) : List Byte :=
  toLe start 8 ++
    [BitVec.ofNat 8 (b2n f.dir + 2 * b2n f.part + 4 * b2n f.freerun + 8 * b2n f.unsync + 16 * b2n f.ovrm + 32 * b2n f.degr + 64 * b2n f.band)] ++
    zeros 7 ++ ((List.range 6).map (fun i => toLe ((now.getD i 0 + 2 ^ 64 - base.getD i 0) % 2 ^ 64) 8)).flatten

/-- The interval of a sample’s stamp begins when it is a new one; the sample’s flags join it. The one that the first sample after a start
begins carries PART, and so does one that does not follow on the last. An interval keeps its own start when INTV has changed since it
(DESIGN CHOICE, log entry 63). -/
def Dev.intvSample (s : Dev) (t : Nat) (first : Bool) (before : List Nat) (f : MtrFlags) : Dev :=
  let c := s.mtr.cfg
  let len := intvTU c
  let start := t / len * len
  let join := fun (a : MtrFlags) => ({ dir := a.dir || f.dir, part := a.part, freerun := a.freerun || f.freerun, unsync := a.unsync || f.unsync,
                                       ovrm := a.ovrm || f.ovrm, degr := a.degr || f.degr, band := a.band || f.band } : MtrFlags)
  match s.mtr.intv with
  | none => s.setMtr { s.mtr with intv := some (start, len, accInts before, join { part := true }) }
  | some (start0, len0, base, a) =>
    if start0 = start ∧ len0 = len then s.setMtr { s.mtr with intv := some (start, len, base, join a) }
    else
      let r := intvRecord start0 base (accInts before) a
      let part := first || len0 != len || start0 + len != start
      s.setMtr { s.mtr with intvs := (r :: s.mtr.intvs).take 96, intv := some (start, len, accInts before, join { part := part }) }

/-! ### Pulses (R329, R330) -/

/-- The pulses of a sample for one output. -/
def pulseStep (weight inc tPrev : Nat) (p : PulseSt) : PulseSt :=
  if inc = 0 then p
  else
    let w := weight * 2 ^ 32
    let r := p.r + inc
    let n := r / w
    let edges := (List.range n).map (fun k =>
      let x := tPrev + (200000 * ((k + 1) * w - p.r)) / inc + 160000000
      (x + 8) / 16 * 16)
    { p with r := r - n * w, due := p.due ++ edges }

/-- 2 × PW have passed since output k’s last leading edge (R330). -/
def Dev.pulseFree (s : Dev) (k : Nat) : Bool :=
  match (s.mtr.pulses.getD k {}).last with
  | none => true
  | some c => decide (c + 400000 * mcPW s.mtr.cfg k ≤ s.clocks)

/-- Output k’s pin rises. -/
def Dev.pulseRise (s : Dev) (k : Nat) : Dev :=
  let s := s.setMtr { s.mtr with pulses := s.mtr.pulses.set k { s.mtr.pulses.getD k {} with last := some s.clocks } }
  { s with pins := { s.pins with pulseOut := s.pins.pulseOut ||| 2 ^ k } }

/-- An edge of output k has fallen due: it rises when it may and none waits, else it joins BACKLOG, or is lost. -/
def Dev.pulseDue (s : Dev) (k : Nat) : Dev :=
  let back := s.get (Reg.MTR_PSTATk_BACKLOG k)
  if s.pulseFree k && back == 0 then s.pulseRise k
  else if back = 65535 then (s.count (Reg.MTR_PSTATk_LOST k)).raise Reg.MTR_FLAG_PBKLOG_F
  else s.set (Reg.MTR_PSTATk_BACKLOG k) (back + 1)

/-- The leading edges of output k up to now: a waiting one rises when it may, then the ones that have fallen due since follow. -/
def Dev.pulseEdge (s : Dev) (k : Nat) : Dev :=
  if !s.mtr.running || 4 ≤ k then s
  else
    let back := s.get (Reg.MTR_PSTATk_BACKLOG k)
    let s := if s.pulseFree k && decide (0 < back) then (s.set (Reg.MTR_PSTATk_BACKLOG k) (back - 1)).pulseRise k else s
    let p := s.mtr.pulses.getD k {}
    let due := p.due.takeWhile (fun t => decide (t ≤ s.time))
    let s := s.setMtr { s.mtr with pulses := s.mtr.pulses.set k { p with due := p.due.drop due.length } }
    forEach due (fun _ u => u.pulseDue k) s

/-- PW after its leading edge the pin returns low. -/
def Dev.pulseEnd (s : Dev) (k : Nat) : Dev := { s with pins := { s.pins with pulseOut := clearBit s.pins.pulseOut k } }

/-! ### The filters (R319–R321) -/

/-- The weights of the sinc⁴ filter: a running sum of 25 terms, four times over; they add up to 25⁴. -/
def box25 (l : List Nat) : List Nat :=
  (List.range (l.length + 24)).map (fun i => ((List.range 25).map (fun k => if k ≤ i then l.getD (i - k) 0 else 0)).sum)
def sincWeights : List Nat := box25 (box25 (box25 (List.replicate 25 1)))

/-- A sample of the 80 kS/s stage from the last 97 results: the exact sum, rounded once (DESIGN CHOICE, log entry 63). -/
def sinc4 (raw : List Word) : Word :=
  let t := ((sincWeights.zip raw).map (fun x => (x.1 : Int) * fExact x.2)).foldl (· + ·) 0
  fRound (decide (t < 0)) t.natAbs (25 ^ 4) (-149)

/-- One more result of a channel: every 25th completes a sample of the 80 kS/s stage, which PHc delays, and every fifth of these an output
sample, once the spans of the filters have filled (DESIGN CHOICE, log entry 63). -/
def MtrChan.push (x : MtrChan) (ph : Int) (v : Word) : MtrChan :=
  let raw := (v :: x.raw).take 97
  let n := x.n + 1
  if 97 ≤ n ∧ (n - 97) % 25 = 0 then
    let mid := (sinc4 raw :: x.mid).take 256
    let late := ((if ph = 0 then mid.headD 0 else Config.meterDelay ph mid) :: x.late).take 255
    let m := (n - 97) / 25
    if 254 ≤ m ∧ (m - 254) % 5 = 0 then { x with n := n, raw := raw, mid := mid, late := late, out := x.out ++ [Config.meterFir late] }
    else { x with n := n, raw := raw, mid := mid, late := late }
  else { x with n := n, raw := raw }

/-- The channel an input belongs to. -/
def chanOf (c : List Byte) (input : Nat) : Nat := ((List.range 7).find? (fun k => mcPAIR c k == input / 6)).getD 0xFF

/-- Result `i` of a channel, counted from 0, is the centre of an output sample’s span (R320). -/
def isCentre (i : Nat) : Bool := decide (3223 ≤ i) && (i - 3223) % 125 == 0

/-- A value enters channel k; on channel 0 the mark of a centre is kept. -/
def Dev.mtrPush (s : Dev) (k : Nat) (v : Word) (m : MtrMark) : Dev :=
  let x := s.mtr.chans.getD k {}
  let marks := if k = 0 && isCentre x.n then s.mtr.marks ++ [m] else s.mtr.marks
  s.setMtr { s.mtr with chans := s.mtr.chans.set k (x.push (mcPH s.mtr.cfg k) (fMul v (mcGAIN s.mtr.cfg k))), marks := marks }

/-- A result for Nimbus: a channel begins with converter A; one that is missing between two of the other converter is their mean, at the instant
between them (R319, R321). -/
def Dev.mtrResult (s : Dev) (r : MeterRes) : Dev :=
  let k := chanOf s.mtr.cfg r.input
  if !s.mtr.running || 7 ≤ k then s
  else
    let s := if r.bad then s.setMtr { s.mtr with bad := s.mtr.bad ++ [(r.clk, r.input)] } else s
    let mark : MtrMark := { stamp := r.stamp, free := r.free, unsync := r.unsync, clk := r.clk }
    let keep := fun (t : Dev) => t.setMtr { t.mtr with chans := t.mtr.chans.set k { t.mtr.chans.getD k {} with prev := some r } }
    match (s.mtr.chans.getD k {}).prev with
    | none => if r.b then s else keep (s.mtrPush k r.value mark)
    | some a =>
      let mid : MtrMark := { stamp := (a.stamp + r.stamp) / 2, free := a.free || r.free, unsync := a.unsync || r.unsync, clk := (a.clk + r.clk) / 2 }
      let s := if a.b == r.b then s.mtrPush k (fMean [a.value, r.value]) mid else s
      keep (s.mtrPush k r.value mark)

/-- The results of this command go to Nimbus (R71). -/
def Dev.mtrFeed (s : Dev) : Dev :=
  let l := s.adc.meter
  forEach l (fun r t => t.mtrResult r) { s with adc := { s.adc with meter := [] } }

/-! ### Samples (R321–R326) -/

/-- Half the span of the two filters in core clocks (R320). -/
def filterHalf : Nat := 322300

/-- The input that makes a sample OVRM: a result of OVR or SUSPECT in its span (R321). -/
def Dev.sampleBad (s : Dev) (clk : Nat) : Option Nat :=
  (s.mtr.bad.find? (fun x => decide (x.1 ≤ clk + filterHalf) && decide (clk ≤ x.1 + filterHalf))).map (·.2)

/-- DEGR: a frame whose interleave grant was deferred lies in the sample’s span. -/
def Dev.sampleDegr (s : Dev) (clk : Nat) : Bool :=
  s.adc.degr.any (fun x => decide (x.1 ≤ clk + filterHalf) && (match x.2 with
    | some e => decide (clk < e + filterHalf)
    | none => true))

/-- The value of channel k in a sample. -/
def chanValue (m : MtrSample) (k : Nat) : Word := if k < 3 then m.v.getD k 0 else m.i.getD (k - 3) 0

/-- A flag that returns after 1 s without it: event and sticky flag (R321). -/
def firstAfterSecond (last : Option Nat) (t : Nat) : Bool :=
  match last with
  | none => true
  | some x => decide (x + 3200000000 ≤ t)

/-- Flags OVRM and DEGR of an output sample: sticky flags, events, status. The first flagged sample after a start counts as one after 1 s
without (DESIGN CHOICE, log entry 63). -/
def Dev.sampleFlags (s : Dev) (o : MtrOut) : Dev :=
  let t := o.mark.stamp
  let s := match o.ovrm with
    | none => s
    | some i =>
      let k := chanOf s.mtr.cfg i
      let s := if firstAfterSecond s.mtr.lastOvrm t then (s.raise Reg.MTR_FLAG_OVRM_F).mtrEvent t 6 k (o.x.getD k 0) else s
      s.setMtr { s.mtr with lastOvrm := some t }
  let s := if o.degr then
      let s := if firstAfterSecond s.mtr.lastDegr t then (s.raise Reg.MTR_FLAG_DEGR_F).mtrEvent t 7 0xFF fZero else s
      s.setMtr { s.mtr with lastDegr := some t }
    else s
  let old := o.mark.clk - filterHalf
  let s := s.setMtr { s.mtr with bad := s.mtr.bad.filter (fun x => decide (old ≤ x.1)) }
  let s := { s with adc := { s.adc with degr := s.adc.degr.filter (fun x => decide (old ≤ x.2.getD old)) } }
  s.setB Reg.MTR_STAT_DEGR o.degr

/-- The harmonic window in progress has ended: it waits for its analysis, and the next one begins (R332). -/
def Dev.winClose (s : Dev) (t0 stop : Nat) : Dev :=
  s.setMtr { s.mtr with ended := s.mtr.ended ++ [(t0, stop, s.mtr.winFlags, s.isOn Reg.MTR_STAT_FREQINV)],
                        winStart := some stop, winCycles := 0, winFlags := {} }

/-- A crossing in the harmonic windows: the first one begins a window, and NC cycles end it, unless f_m is invalid (R332). -/
def Dev.winCrossing (s : Dev) (t : Nat) : Dev :=
  if !s.isOn Reg.MTR_CTL_HEN then s
  else
    match s.mtr.winStart with
    | none => s.setMtr { s.mtr with winStart := some t, winCycles := 0, winFlags := {} }
    | some t0 =>
      let n := s.mtr.winCycles + 1
      if !s.isOn Reg.MTR_STAT_FREQINV && decide (mcNC s.mtr.cfg ≤ n) then s.winClose t0 t else s.setMtr { s.mtr with winCycles := n }

/-- A sample in the harmonic windows: while f_m is invalid a window ends NC / FNOM after its start, and the sample’s flags join the window it lies in
(R332). With HEN clear there is none. -/
def Dev.winSample (s : Dev) (o : MtrOut) : Dev :=
  if !s.isOn Reg.MTR_CTL_HEN then s.setMtr { s.mtr with winStart := none, ended := [] }
  else
    match s.mtr.winStart with
    | none => s
    | some t0 =>
      let stop := t0 + mcNC s.mtr.cfg * 3200000000 / mcF0 s.mtr.cfg
      let s := if s.isOn Reg.MTR_STAT_FREQINV && decide (stop ≤ o.mark.stamp) then s.winClose t0 stop else s
      let w := s.mtr.winFlags
      s.setMtr { s.mtr with winFlags := { w with freerun := w.freerun || o.mark.free, unsync := w.unsync || o.mark.unsync,
                                                 ovrm := w.ovrm || o.ovrm.isSome, degr := w.degr || o.degr } }

/-- A crossing of Va (R331): f_m over the last NC cycles. -/
def Dev.mtrCrossing (s : Dev) (t : Nat) : Dev :=
  let nc := mcNC s.mtr.cfg
  let l := (t :: s.mtr.cross).take (nc + 1)
  let s := s.setMtr { s.mtr with cross := l }
  if l.length ≤ nc then s
  else
    let dt := t - l.getD nc 0
    let f := if dt = 0 then fZero else fOfRat ((nc * 3200000000 : Nat) : Int) dt
    if fLe (dec 40 1) f && fLe f (dec 70 1) then (s.setReg Reg.MTR_FREQ f).setB Reg.MTR_STAT_FREQINV false
    else (s.setReg Reg.MTR_FREQ (fOfNat (mcF0 s.mtr.cfg))).setB Reg.MTR_STAT_FREQINV true

/-- The instant at which a line from y0 at t0 to y1 at t1 crosses zero upward, to the nearest TU; none when it does not. -/
def crossAt (t0 : Nat) (y0 : Word) (t1 : Nat) (y1 : Word) : Option Nat :=
  let a := fExact y0
  let b := fExact y1
  if a < 0 ∧ 0 ≤ b then some (t0 + (rneDiv ((t1 - t0 : Nat) * -a) (b - a).toNat).toNat) else none

/-- Va of an output sample through the low-pass filter, and the crossing since the sample before (R331). -/
def Dev.mtrLowpass (s : Dev) (o : MtrOut) : Dev :=
  let va := fun (m : MtrOut) => m.x.getD 0 0
  let y := Config.meterLowpass ((o :: s.mtr.outs).take 3 |>.map va) s.mtr.lp
  let c := match s.mtr.outs, s.mtr.lp with
    | m :: _, y0 :: _ => crossAt m.mark.stamp y0 o.mark.stamp y
    | _, _ => none
  let s := s.setMtr { s.mtr with lp := (y :: s.mtr.lp).take 2 }
  match c with
  | some t => (s.mtrCrossing t).winCrossing t
  | none => s

/-- No crossing for 100 ms (R331). -/
def Dev.freqTimeout (s : Dev) : Dev := if s.mtr.running then s.freqInvalid else s

/-- The direction of a sample that is added to A_EXP or A_IMP (R326). -/
def Dev.direction (s : Dev) (t : Nat) (p : Word) (exp imp : Bool) : Dev × Bool :=
  if !(exp || imp) then (s, false)
  else
    let change := match s.mtr.dir with
      | none => false
      | some d => d != imp
    let s := (s.setMtr { s.mtr with dir := some imp }).setB Reg.MTR_STAT_DIR imp
    if change then (((s.raise Reg.MTR_FLAG_DIRCHG_F).count Reg.MTR_CNT_DIRCHG_CNT).mtrEvent t 1 0xFF p, true) else (s, false)

/-- A delayed sample joins the accumulators (R323–R330). -/
def Dev.mtrAccumulate (s : Dev) (o : MtrOut) (m : MtrSample) : Dev :=
  let t := o.mark.stamp
  let n := s.slideLen
  let hist := (m :: s.mtr.hist).take 400
  let win := hist.take n
  let px := (List.range 3).map (fun x => phaseMean (·.v) x win)
  let qx := (List.range 3).map (fun x => phaseMean (·.vh) x win)
  let p := fSum px
  let q := fSum qx
  let c := s.mtr.cfg
  let inc := increments (mcPNL c) (mcQNL c) p q px qx
  let fx := inc.map (fun o => match o with
    | some w => incFixed w
    | none => 0)
  let before := s.mtr.acc
  let acc := (List.range 18).map (fun k => (before.getD k 0 + fx.getD k 0) % 2 ^ 96)
  let exp := (inc.getD 0 none).isSome
  let imp := (inc.getD 1 none).isSome
  let band := !(exp || imp) || inc.getD 2 none == none && inc.getD 3 none == none && inc.getD 4 none == none && inc.getD 5 none == none
  let first := s.mtr.hist.isEmpty
  let tPrev := if first then t - 200000 else s.mtr.last
  let pulses := (List.range 4).map (fun k =>
    let x := s.mtr.pulses.getD k {}
    if mcSRC c k = 0xFF then x else pulseStep (mcWEIGHT c k) (fx.getD (mcSRC c k) 0) tPrev x)
  let s := s.setMtr { s.mtr with hist := hist, last := t, pulses := pulses, sumP := s.mtr.sumP + fExact p, sumQ := s.mtr.sumQ + fExact q,
                                 num := s.mtr.num + 1 }
  let d := s.direction t p exp imp
  let s := d.1
  let f : MtrFlags := { dir := d.2, freerun := o.mark.free, unsync := o.mark.unsync, ovrm := o.ovrm.isSome, degr := o.degr, band := band }
  let s := s.intvSample t first before f
  let s := s.setMtr { s.mtr with acc := acc }
  ((s.setReg Reg.MTR_PTOT p).setReg Reg.MTR_QTOT q).setB Reg.MTR_STAT_NOLOAD (fLt (fAbs p) (mcPNL c))

/-- The next output sample of the filters, once every channel has it: its flags, the crossings of Va, and the delayed sample that it completes,
511 samples older (R320–R323). -/
def Dev.meterSample (s : Dev) : Dev :=
  let named := (List.range 7).filter (fun k => mcPAIR s.mtr.cfg k != 0xFF)
  match s.mtr.marks with
  | [] => s
  | mark :: marks =>
    if !s.mtr.running || named.any (fun k => (s.mtr.chans.getD k {}).out.isEmpty) then s
    else
      let x := (s.mtr.chans.map (fun c => c.out.headD fZero))
      let o : MtrOut := { mark := mark, x := x, ovrm := s.sampleBad mark.clk, degr := s.sampleDegr mark.clk }
      let s := s.setMtr { s.mtr with marks := marks, chans := s.mtr.chans.map (fun c => { c with out := c.out.drop 1 }) }
      let s := ((s.sampleFlags o).mtrLowpass o).winSample o
      let outs := (o :: s.mtr.outs).take 5200
      let s := s.setMtr { s.mtr with outs := outs }
      match outs[511]? with
      | none => s
      | some d =>
        if outs.length < 1023 then s
        else
          let vh := (List.range 3).map (fun k => Config.meterHilbert ((outs.take 1023).map (fun m => m.x.getD k 0)))
          s.mtrAccumulate d { v := d.x.take 3, vh := vh, i := d.x.drop 3 }

/-! ### Harmonics (R332, R333) -/

/-- C²(k) as an exact value rounded once per product. -/
def binSq (l : List Word) (k : Nat) : Word := fMul (l.getD k 0) (l.getD k 0)

/-- G_h (R332). -/
def harmGroup (c : List Byte) (l : List Word) (h : Nat) : Word :=
  let k := mcNC c * h
  let d := mcNC c / 2
  if mcHGRP c = 0 then
    let mid := (List.range (2 * d - 1)).map (fun i => binSq l (k + i + 1 - d))
    fSqrt (fSum ([fMul fHalf (binSq l (k - d))] ++ mid ++ [fMul fHalf (binSq l (k + d))]))
  else fSqrt (fSum [binSq l (k - 1), binSq l k, binSq l (k + 1)])

/-- The value at fraction a / b between the middle two of four equally spaced samples, by the cubic through them (R332): exact, rounded once
(DESIGN CHOICE, log entry 63). -/
def lagrange4 (x : List Word) (a b : Nat) : Word :=
  let i : Int := a
  let j : Int := b
  let e := fun k => fExact (x.getD k 0)
  let t := e 0 * -(i * (i - j) * (i - 2 * j)) + e 1 * (3 * (i + j) * (i - j) * (i - 2 * j)) + e 2 * (-3 * (i + j) * i * (i - 2 * j)) +
    e 3 * ((i + j) * i * (i - j))
  fRound (decide (t < 0)) t.natAbs (6 * b ^ 3) (-149)

/-- The four samples around instant τ / 2048 and its fraction between the middle two; `l` is oldest first. -/
def aroundPoint (l : List MtrOut) (tau : Nat) : List MtrOut × Nat × Nat :=
  let n := (l.filter (fun o => decide (2048 * o.mark.stamp ≤ tau))).length
  let four := (l.drop (n - 2)).take 4
  let t0 := (four.map (·.mark.stamp)).getD 1 0
  let t1 := (four.map (·.mark.stamp)).getD 2 (t0 + 1)
  (four, tau - 2048 * t0, max 1 (2048 * (t1 - t0)))

/-- The window resampled to 2,048 points, by channel (R332). -/
def winPoints (outs : List MtrOut) (start len : Nat) : List (List Word) :=
  let l := outs.reverse
  let at_ := (List.range 2048).map (fun j => aroundPoint l (2048 * start + j * len))
  (List.range 7).map (fun k => at_.map (fun p => lagrange4 (p.1.map (fun o => o.x.getD k 0)) p.2.1 p.2.2))

/-- One part of bin k of the transform of a window as an RMS value (R332): the mean of the points times the cosine or sine of 2π k n / N, times √2
but for bin 0. The transform’s sine and cosine are those of log entry 10, and the order of its roundings is a DESIGN CHOICE (log entry 63). -/
def binPart (trig : Word → Word) (l : List Word) (k : Nat) : Word :=
  let m := fMean ((List.range l.length).map (fun n => fMul (l.getD n fZero) (trig (fMul f2Pi (fOfRat ((k * n % l.length : Nat) : Int) l.length)))))
  if k = 0 then m else fMul (fSqrt fTwo) m

/-- Bin k of a window, oldest point first: real and imaginary RMS parts. -/
def meterBin (l : List Word) (k : Nat) : Word × Word := (binPart Config.fpCos l k, fNeg (binPart Config.fpSin l k))

/-- C_k of a window: the magnitude of its bin. -/
def binMag (l : List Word) (k : Nat) : Word :=
  let z := meterBin l k
  fSqrt (fAdd (fMul z.1 z.1) (fMul z.2 z.2))

/-- THD and G_1–G_63 of a channel. -/
def harmWords (c : List Byte) (l : List Word) : List Word :=
  let g := (List.range 63).map (fun h => harmGroup c l (h + 1))
  let thd := fDiv (fSqrt (fSum (((g.drop 1).take 39).map (fun x => fMul x x)))) (g.getD 0 0)
  thd :: g

/-- |V+|, |V−| and |V0| of the fundamental bins of Va, Vb and Vc (R333). -/
def fundSeqs (f : List (Word × Word)) : CM (List Word) := do
  let v := fun (k : Nat) => ({ d := (f.getD k (0, 0)).1, q := (f.getD k (0, 0)).2 } : Cx)
  let h ← cMul fSqrt3 fHalf
  let a : Cx := { d := fNeg fHalf, q := h }
  let a2 : Cx := { d := fNeg fHalf, q := fNeg h }
  let comb := fun (x y : Cx) => do
    let p ← cxMul x (v 1)
    let q ← cxMul y (v 2)
    let t ← cxAdd (v 0) p
    let t ← cxAdd t q
    let m ← cxAbs t
    cDiv m fThree
  let p ← comb a a2
  let n ← comb a2 a
  let one : Cx := { d := fOne, q := fZero }
  let z ← comb one one
  pure [p, n, z]

/-- A state that starts or ends after 5 windows in a row: the count toward the change, and whether it changes. -/
def fiveRun (now cond : Bool) (run : Nat) : Nat × Bool := if cond == now then (0, false) else if 4 ≤ run then (0, true) else (run + 1, false)

/-- The analysis of a window is done: its result is valid (R332, R333). -/
def Dev.harmDone (s : Dev) (w : HarmWin) : Dev :=
  let c := s.mtr.cfg
  let nNull := mcPAIR c 6 == 0xFF
  let words := (List.range 7).map (fun k => if k = 6 && nNull then List.replicate 64 fZero else harmWords c ((List.range 1024).map (binMag (w.points.getD k []))))
  let freq := if w.len = 0 then fZero else fOfRat ((mcNC c * 3200000000 : Nat) : Int) w.len
  let n := s.mtr.winCount
  let head := toLe w.start 8 ++ toLe w.len 8 ++ wordBytes freq ++ toLe n 4 ++
    [BitVec.ofNat 8 (b2n w.flags.freerun + 2 * b2n w.flags.unsync + 4 * b2n w.flags.degr + 8 * b2n w.flags.ovrm + 16 * mcHGRP c + 32 * b2n w.freqInv)] ++
    zeros 7
  let q := ((fundSeqs ((w.points.take 3).map (fun l => meterBin l (mcNC c)))).run {}).1
  let vp := q.getD 0 0
  let vn := q.getD 1 0
  let v0 := q.getD 2 0
  let seqNow := s.isOn Reg.MTR_STAT_PHSEQ
  let neutNow := s.isOn Reg.MTR_STAT_MISSNEUT
  let a := fiveRun seqNow (fLt vp vn) s.mtr.seqRun
  let b := fiveRun neutNow (fLt (fMul (mcNTHR c) vp) v0) s.mtr.neutRun
  let s := s.setMtr { s.mtr with harm := head ++ (words.flatten.map wordBytes).flatten, seqs := q, thd := words.map (fun l => l.getD 0 0),
                                 win := none, seqRun := a.1, neutRun := b.1 }
  let s := if a.2 then
      (onlyIf (!seqNow) (·.raise Reg.MTR_FLAG_PHSEQ_F) (s.setB Reg.MTR_STAT_PHSEQ (!seqNow))).mtrEvent (s.stamp 0) (if seqNow then 3 else 2) 0xFF (fDiv vn vp)
    else s
  if b.2 then
    (onlyIf (!neutNow) (·.raise Reg.MTR_FLAG_MISSNEUT_F) (s.setB Reg.MTR_STAT_MISSNEUT (!neutNow))).mtrEvent (s.stamp 0) (if neutNow then 5 else 4) 0xFF (fDiv v0 vp)
  else s

/-- One chunk of the harmonic item (R333). -/
def Dev.harmChunk (s : Dev) : Dev :=
  match s.mtr.win with
  | none => s
  | some w =>
    if 1023 ≤ w.chunks then s.harmDone { w with chunks := 1024 } else s.setMtr { s.mtr with win := some { w with chunks := w.chunks + 1 } }

/-- A window that has ended is resampled and goes to its analysis; a result not yet done is discarded (R332, R333). -/
def Dev.harmWindowEnd (s : Dev) : Dev :=
  match s.mtr.ended with
  | [] => s
  | (t0, stop, flags, inv) :: rest =>
    if !(s.mtr.running && s.isOn Reg.MTR_CTL_HEN) then s
    else
      let s := if s.mtr.win.isSome then (s.raise Reg.MTR_FLAG_HGAP_F).count Reg.MTR_CNT_HGAP_CNT else s
      s.setMtr { s.mtr with
        win := some { start := t0, len := stop - t0, flags := flags, freqInv := inv, points := winPoints s.mtr.outs t0 (stop - t0), chunks := 0 },
        winCount := s.mtr.winCount + 1, ended := rest }

/-! ### Quantities for contexts (R334) -/

/-- The quantities of the tick. -/
def Dev.mtrLatch (s : Dev) : Dev :=
  let m := s.mtr
  if !m.running then s
  else
    let win := m.hist.take s.slideLen
    let rms := (List.range 7).map (fun k => fSqrt (fMean (win.map (fun x => fMul (chanValue x k) (chanValue x k)))))
    let px := (List.range 3).map (fun x => phaseMean (·.v) x win)
    let qx := (List.range 3).map (fun x => phaseMean (·.vh) x win)
    s.setMtr { m with image := rms ++ px ++ [s.reg Reg.MTR_PTOT] ++ qx ++ [s.reg Reg.MTR_QTOT, s.reg Reg.MTR_FREQ] ++ m.seqs ++ m.thd }

/-! ### Saves (R335, R336) -/

/-- An accumulator as 12 bytes: integer part, then fraction. -/
def accBytes (a : Nat) : List Byte := toLe (a / 2 ^ 32) 8 ++ toLe (a % 2 ^ 32) 4

/-- A save record. -/
def saveRecord (stamp seq crc : Nat) (acc : List Nat) : List Byte :=
  let b := toLe stamp 8 ++ toLe seq 4 ++ toLe crc 4 ++ ((List.range 18).map (fun k => accBytes (acc.getD k 0))).flatten ++ zeros 20
  b ++ toLe (crc32 b) 4

/-- Where a save of a sequence number goes. -/
def saveSlot (seq : Nat) : Nat := 0x140 + 256 * (seq % 2)

/-- The next sequence number: above the last save completed and one that is being written. -/
def Dev.nextSave (s : Dev) : Nat :=
  let now := (s.fram.reqs.filter (fun r => r.kind == 1 && r.started)).map (fun r => leAt (r.bursts.getD 0 (0, [])).2 8 4)
  (now.foldl max (s.get Reg.MTR_SAVESEQ_SEQ)) + 1

/-- The burst of a save of these accumulators, under a sequence number and a configuration CRC. -/
def saveBurst (stamp n crc : Nat) (acc : List Nat) : Nat × List Byte := (saveSlot n, saveRecord stamp n crc acc)

/-- A save of the accumulators asked of the gate, for a command or for the meter itself. -/
def Dev.saveAsk (s : Dev) (cmd : Option (Src × Packet)) : Dev :=
  s.framAsk { bursts := [saveBurst s.mtr.last s.nextSave (s.reg Reg.MTR_CFGCRC).toNat s.mtr.acc], kind := 1, cmds := cmd.toList,
              auto := cmd.isNone }

/-- A scheduled save falls due. -/
def Dev.saveDue (s : Dev) : Dev := if s.mtr.running then (s.setMtr { s.mtr with retry := false }).saveAsk none else s

/-- A deferred save is retried with fresh values. -/
def Dev.saveRetry (s : Dev) : Dev := if s.mtr.running && s.mtr.retry then s.saveAsk none else s

/-- The gate has deferred a save (R336). -/
def Dev.saveDeferred (s : Dev) : Dev :=
  (s.raise Reg.MTR_FLAG_SAVEDEF_F).mtrEvent (s.stamp 0) 8 0xFF (fOfNat s.nextSave)

/-- A save record has been written. -/
def Dev.saveDone (s : Dev) (r : List Byte) : Dev :=
  let s := s.setPair Reg.MTR_SAVE_LO Reg.MTR_SAVE_HI (leAt r 0 8)
  (s.setReg Reg.MTR_SAVESEQ (wordAt r 8)).setMtr { s.mtr with retry := false }

/-! ### Records in FRAM (R431, R432) -/

/-- A record of `n` bytes held in two copies from `off`: copy 0 when its CRC, in the last 4 bytes, matches, else copy 1. -/
def Dev.framCopy (s : Dev) (off n : Nat) : Option (List Byte) :=
  let ok := fun (b : List Byte) => leAt b (n - 4) 4 == crc32 (b.take (n - 4))
  let a := readBytes s.fram.mem off n
  let b := readBytes s.fram.mem (off + n) n
  if ok a then some a else if ok b then some b else none

/-- Two bursts, one for each copy. -/
def twoCopies (off : Nat) (b : List Byte) : List (Nat × List Byte) := [(off, b), (off + b.length, b)]

/-- The vault header (log entry 23 gives the places of its fields). -/
def vaultHeader (cnt : Nat) : List Byte :=
  let b := toLe 1 4 ++ toLe cnt 2 ++ zeros 22
  b ++ toLe (crc32 b) 4

/-- A configuration block comes into force. -/
def Dev.mtrUse (s : Dev) (c : List Byte) : Dev :=
  ((s.setMtr { s.mtr with cfg := c }).setB Reg.MTR_STAT_CFGVALID true).setReg Reg.MTR_CFGCRC (BitVec.ofNat 32 (mcCRC c))

/-- The UNSAVED record (R338) from a power-fail record and the stamp of the restored save. -/
def unsavedRecord (ts : Nat) (pf : List Byte) : List Byte :=
  let tkv := byteAt pf 24 % 2 == 1
  let pv := byteAt pf 24 / 2 % 2 == 1
  let tf := if tkv then leAt pf 0 8 else 0
  let p := wordAt pf 8
  let q := wordAt pf 12
  let est := fun (w : Word) => if tkv && pv then ((fExact w).natAbs * (tf - ts)) / (2 ^ 149 * 11520000000) else 0
  toLe ts 8 ++ toLe tf 8 ++ wordBytes p ++ wordBytes q ++ toLe (leAt pf 16 8) 8 ++ toLe (est p) 8 ++ toLe (est q) 8 ++
    [BitVec.ofNat 8 (b2n (fSign p && !fIsZero p) + 2 * b2n (fSign q && !fIsZero q) + 4 * b2n (!tkv) + 8 * b2n (!pv))] ++ zeros 15

/-- A save slot read in BOOT: its sequence number, stamp and accumulators when it is valid (R337). -/
def Dev.slotRead (s : Dev) (slot : Nat) : Option (Nat × Nat × List Nat) :=
  let b := readBytes s.fram.mem (0x140 + 256 * slot) 256
  if leAt b 252 4 = crc32 (b.take 252) ∧ leAt b 12 4 = (s.reg Reg.MTR_CFGCRC).toNat then
    some (leAt b 8 4, leAt b 0 8, (List.range 18).map (fun k => leAt b (16 + 12 * k) 8 * 2 ^ 32 + leAt b (24 + 12 * k) 4))
  else none

/-- The estimate of an UNSAVED record in Wh, as event 10 carries it. -/
def unsavedWh (u : List Byte) : Word := fOfRat (leAt u 32 8) 1000

/-- The save BOOT restores: RESTST, and the slot’s content (R337). -/
def pickSave (a b : Option (Nat × Nat × List Nat)) : Nat × Option (Nat × Nat × List Nat) :=
  match a with
  | some x =>
    match b with
    | some y => (1, some (if x.1 < y.1 then y else x))
    | none => (2, some x)
  | none =>
    match b with
    | some y => (2, some y)
    | none => (3, none)

/-- The configuration of FRAM comes into force (R316). -/
def Dev.bootCfg (s : Dev) : Dev :=
  let cnt := ((s.framCopy 0 32).map (fun h => leAt h 4 2)).getD 0
  let s := (s.setMtr { s.mtr with cfgCnt := cnt }).set Reg.MTR_STAT_CFGCNT cnt
  match s.framCopy 0x40 128 with
  | some c => s.mtrUse c
  | none => s

/-- A save restored. -/
def Dev.restore (s : Dev) (x : Nat × Nat × List Nat) : Dev :=
  ((s.setMtr { s.mtr with acc := x.2.2, last := x.2.1 }).setReg Reg.MTR_SAVESEQ (BitVec.ofNat 32 x.1)).setPair Reg.MTR_SAVE_LO
    Reg.MTR_SAVE_HI x.2.1

/-- The UNSAVED record formed from a power-fail record that lies after the restored save (R338). -/
def Dev.bootUnsaved (s : Dev) (ts : Nat) (pf : List Byte) : Dev :=
  if byteAt pf 24 % 2 == 1 && decide (leAt pf 0 8 ≤ ts) then s
  else
    let u := unsavedRecord ts pf
    let s := (s.setMtr { s.mtr with unsaved := u }).raise Reg.MTR_FLAG_UNSAVED_F
    let f := u.take 60 ++ toLe (crc32 (u.take 60)) 4
    (s.framAsk { bursts := twoCopies 0x3C0 f, kind := 2 }).mtrEvent (s.stamp 0) 10 0xFF (unsavedWh u)

/-- What BOOT does with the metering records (R316, R337, R338). -/
def Dev.mtrBoot (s : Dev) : Dev :=
  let s := s.bootCfg
  let best := pickSave (s.slotRead 0) (s.slotRead 1)
  let s := (s.setMtr { s.mtr with unsaved := [] }).set Reg.MTR_STAT_RESTST best.1
  match best.2 with
  | none =>
    ((s.setMtr { s.mtr with acc := List.replicate 18 0 }).raise Reg.MTR_FLAG_RESTERR_F).mtrEvent (s.stamp 0) 9 0xFF fTwo
  | some x =>
    let s := s.restore x
    let s := if best.1 = 2 then s.mtrEvent (s.stamp 0) 9 0xFF fOne else s
    match s.framCopy 0x340 64 with
    | some pf => s.bootUnsaved x.2.1 pf
    | none => s

/-- The last-known power refreshed once per second (R338). -/
def Dev.lkpRefresh (s : Dev) : Dev :=
  let m := s.mtr
  if !m.running || m.num = 0 then s
  else
    let mean := fun (t : Int) => fRound (decide (t < 0)) t.natAbs m.num (-149)
    (s.setMtr { m with lkp := { p := mean m.sumP, q := mean m.sumQ, stamp := m.last }, sumP := 0, sumQ := 0, num := 0 }).setB Reg.VLT_STAT_LKPVALID true

/-! ### Opcodes 0x80–0x88 (R339) -/

/-- The bursts of MTR_CFG_LOAD: both copies of the block, the save under its CRC, the header with the new count. -/
def Dev.cfgBursts (s : Dev) (c : List Byte) : List (Nat × List Byte) :=
  twoCopies 0x40 c ++ [saveBurst s.mtr.last s.nextSave (mcCRC c) s.mtr.acc] ++ twoCopies 0 (vaultHeader (satAdd 0xFFFF s.mtr.cfgCnt 1))

/-- The bursts of MTR_CFG_LOAD are asked for; it completes when the last has been written. -/
def Dev.cfgAsk (s : Dev) (src : Src) (p : Packet) (c : List Byte) : Dev :=
  s.framAsk { bursts := s.cfgBursts c, kind := 2, cmds := [(src, p)], auto := false, together := true }

/-- The bursts of MTR_CFG_LOAD are written: the block is in force, CFGCNT and event 11 follow (R339). -/
def Dev.cfgLoadDone (s : Dev) (bursts : List (Nat × List Byte)) : Dev × Reply :=
  let c := (bursts.getD 0 (0, [])).2
  let n := satAdd 0xFFFF s.mtr.cfgCnt 1
  let s := s.mtrUse c
  let s := s.saveDone (bursts.getD 2 (0, [])).2
  let s := (s.setMtr { s.mtr with cfgCnt := n }).set Reg.MTR_STAT_CFGCNT n
  (s.mtrEvent (s.stamp 0) 11 0xFF (fOfNat n), { status := sOK, result := toLe (mcCRC c) 4 })

/-- MTR_CFG_READ. -/
def bodyMtrCfgRead (src : Src) (p : Packet) (s : Dev) : Ans :=
  withStore s src 24 (pN p 24 8) (if s.mtr.cfg.isEmpty then zeros 128 else s.mtr.cfg) ansOk

/-- The accumulators as bytes 16–231 of a save record. -/
def Dev.accAll (s : Dev) : List Byte := ((List.range 18).map (fun k => accBytes (s.mtr.acc.getD k 0))).flatten

/-- MTR_ACC_READ. -/
def bodyMtrAccRead (src : Src) (p : Packet) (s : Dev) : Ans := withStore s src 24 (pN p 24 8) (toLe s.mtr.last 8 ++ s.accAll) ansOk

/-- Records of a ring, newest first: `first` and `count` from bytes 16 and 17. NOT_READY when the ring holds none; those present are returned, also
when there are fewer than asked for (R339). -/
def ringRead (src : Src) (p : Packet) (s : Dev) (max_ : Nat) (l : List (List Byte)) : Ans :=
  let first := pB p 16
  let count := pB p 17
  if max_ ≤ first then ansBad s sBAD_PARAM 16
  else if count = 0 ∨ max_ < count then ansBad s sBAD_PARAM 17
  else
    let r := (l.drop first).take count
    if l.isEmpty then ansWant s src p 0 sNOT_READY
    else withStore s src 24 (pN p 24 8) r.flatten (fun s => ansRes s (toLe r.length 4))

/-- MTR_INTV_READ. -/
def bodyMtrIntvRead (src : Src) (p : Packet) (s : Dev) : Ans := ringRead src p s 96 s.mtr.intvs

/-- MTR_EVT_READ. -/
def bodyMtrEvtRead (src : Src) (p : Packet) (s : Dev) : Ans := ringRead src p s 128 s.mtr.evts

/-- MTR_HARM_READ. -/
def bodyMtrHarmRead (src : Src) (p : Packet) (s : Dev) : Ans :=
  if s.mtr.harm.isEmpty then ansWant s src p 1824 sNOT_READY else withStore s src 24 (pN p 24 8) s.mtr.harm ansOk

/-- MTR_UNSAVED_READ. -/
def bodyMtrUnsavedRead (src : Src) (p : Packet) (s : Dev) : Ans :=
  if s.mtr.unsaved.isEmpty then ansWant s src p 64 sNOT_READY else withStore s src 24 (pN p 24 8) s.mtr.unsaved ansOk

/-- MTR_SAVE_NOW: it completes when the record is written. -/
def bodyMtrSaveNow (src : Src) (p : Packet) (s : Dev) : Ans := ansLater (s.saveAsk (some (src, p)))

/-- The accumulators of a preset. -/
def presetAcc (d : List Byte) : List Nat := (List.range 18).map (fun k => leAt d (12 * k) 8 * 2 ^ 32 + leAt d (8 + 12 * k) 4)

/-- The bursts of MTR_ACC_PRESET: both save slots. -/
def Dev.presetBursts (s : Dev) (stamp : Nat) (acc : List Nat) : List (Nat × List Byte) :=
  [0, 1].map (fun k => saveBurst stamp (s.nextSave + k) (s.reg Reg.MTR_CFGCRC).toNat acc)

/-- MTR_ACC_PRESET: both save slots are written, with new sequence numbers, before it completes. -/
def bodyMtrAccPreset (src : Src) (p : Packet) (s : Dev) : Ans :=
  withLoad s src 24 (pN p 24 8) 216 (fun s d =>
    ansLater (s.framAsk { bursts := s.presetBursts s.mtr.last (presetAcc d), kind := 2, cmds := [(src, p)], auto := false, together := true }))

/-- The bursts of a request as they are written when it starts: the sequence number of a save follows the last save completed, the count of the header
the last load, whatever was written since the request was made (R316, R335, R339). With the main die off they stay as they were asked for. -/
def Dev.freshBursts (s : Dev) (r : FramReq) : List (Nat × List Byte) :=
  let b := fun k => (r.bursts.getD k (0, [])).2
  if s.inReset then r.bursts
  else if r.kind = 1 then [saveBurst (leAt (b 0) 0 8) s.nextSave (s.reg Reg.MTR_CFGCRC).toNat (presetAcc ((b 0).drop 16))]
  else if r.kind = 2 ∧ r.together then
    if r.bursts.length = 2 then s.presetBursts (leAt (b 0) 0 8) (presetAcc ((b 0).drop 16)) else s.cfgBursts (b 0)
  else r.bursts

/-- The bursts of MTR_ACC_PRESET are written. -/
def Dev.presetDone (s : Dev) (bursts : List (Nat × List Byte)) : Dev × Reply :=
  let r := (bursts.getD 1 (0, [])).2
  let s := s.saveDone r
  let s := s.setMtr { s.mtr with acc := presetAcc (r.drop 16) }
  (s.mtrEvent (s.stamp 0) 12 0xFF fZero, { status := sOK })

/-! ### Registers (R340) -/

/-- The accumulator MTR_ASEL shows. -/
def Dev.accShown (s : Dev) : Nat := s.mtr.acc.getD (min 17 (s.get Reg.MTR_ASEL_IDX)) 0

end Sys2Proof.Machine
end

