-- ==== Sys2Proof/Machine/Cirrus.lean ====
section
/-! DEFINITION. Cirrus (R110–R141): descriptor checks, costs and admission (R55–R57), the run of a context with its inputs, set-point,
injection, table, outputs and flags, captures, the pulse input, what a tick loads, and the control-engine opcodes. -/

namespace Sys2Proof.Machine

def Dev.setCe (s : Dev) (c : CeSt) : Dev := { s with ce := c }

/-- A context. -/
def Dev.ctx (s : Dev) (c : Nat) : CtxSt := sget (fun _ => {}) s.ce.ctxs c

/-- A context replaced. -/
def Dev.setCtx (s : Dev) (c : Nat) (x : CtxSt) : Dev := s.setCe { s.ce with ctxs := sset (fun _ => {}) s.ce.ctxs c x }

/-- The descriptor last loaded. -/
def CtxSt.latest (x : CtxSt) : List Byte :=
  match x.newImg with
  | some n => n.1
  | none => x.img

/-- A descriptor is loaded. -/
def CtxSt.loaded (x : CtxSt) : Bool := !x.latest.isEmpty

/-- The loaded contexts with their descriptors, ascending. -/
def Dev.loadedCtxs (s : Dev) : List (Nat × List Byte) := (s.ce.ctxs.filter (fun x => x.2.loaded)).map (fun x => (x.1, x.2.latest))

/-- The sample period of a descriptor in TU (R115). -/
def Dev.ctxTU (s : Dev) (b : List Byte) : Nat := imgDiv b * s.frameTU

/-- The sample period in s. -/
def Dev.ctxTs (s : Dev) (b : List Byte) : Word := fOfRat (s.ctxTU b) 3200000000

/-! ### Costs and admission (R55–R57, R116, R156, R333) -/

/-- The cost of a law (R116, R216). -/
def lawCost (b : List Byte) : Nat :=
  match imgLaw b with
  | 1 => 16
  | 2 => 24
  | 3 => 17 + 12 * imgOrder b
  | 4 => 4 + 10 * imgOrder b
  | 5 => 26 + 32 * imgOrder b
  | 6 => 116
  | _ => 0

/-- The worst-case cost of a context. -/
def Dev.ctxCost (s : Dev) (b : List Byte) : Nat :=
  match imgLaw b with
  | 0x07 => 112 + 37 * cdiv s.cells.recs.length 16
  | 0x10 => 34 + 180 + 30 * imgOrder b + (if imgTblMode b = 0 then 0 else 16)
  | 0x11 => 72 + (if imgTblMode b = 0 then 0 else 16)
  | _ => 10 + 2 * (imgNin b + imgNout b) + (if imgTblMode b = 0 then 0 else 16) + lawCost b

/-- The cost of an injection block. -/
def injCost (b : List Byte) : Nat :=
  match byteAt b 0 with
  | 1 => 10
  | 2 => 6 + 4 * byteAt b 14
  | _ => 6

/-- CTRL_WC: the worst-case costs of every admitted control item (R56). -/
def Dev.ctrlSum (s : Dev) : Nat :=
  (s.loadedCtxs.map (fun x => s.ctxCost x.2)).foldl (· + ·) 0 +
  ((s.ce.inj.filter (fun x => x.2.active)).map (fun x => injCost x.2.block)).foldl (· + ·) 0 +
  (if s.ce.cap.armed then 4 + 2 * s.ce.cap.chans.length else 0)

/-- Perturb-and-observe and incremental-conductance cells of the map (R156). -/
def Dev.mpptCells (s : Dev) : Nat × Nat :=
  let pv := if s.mmc then [] else s.cells.recs.filter (fun r => r.source == 1)
  ((pv.filter (fun r => !r.incCond)).length, (pv.filter (fun r => r.incCond)).length)

/-- The sheddable items admitted: class (2 telemetry aggregation, 1 MPPT steps, 0 harmonic analysis), typical and worst-case cost. -/
def Dev.shedItems (s : Dev) : List (Nat × Nat × Nat) :=
  let n := s.cells.recs.length
  let m := s.mpptCells
  let h := mtrNCH s.mtr.cfg
  (if n = 0 then [] else [(2, (Config.aggCost n).1, (Config.aggCost n).1 + (Config.aggCost n).2)]) ++
  (if m.1 + m.2 = 0 then [] else
    [(1, 20 + 15 * cdiv m.1 64 + 21 * cdiv m.2 64, 20 + 5 * cdiv m.1 16 + 7 * cdiv m.2 16)]) ++
  (if s.isOn Reg.MTR_CTL_EN && s.isOn Reg.MTR_CTL_HEN && s.isOn Reg.MTR_STAT_CFGVALID then [(0, 20 + 40 * h, 28 + 56 * h)] else [])

/-- SHED_TYP: the typical costs of every admitted sheddable item. -/
def Dev.shedSum (s : Dev) : Nat := (s.shedItems.map (fun x => x.2.1)).foldl (· + ·) 0

/-- Clocks of the compute phase, and those control work may use (R56). -/
def Dev.computeClk (s : Dev) : Nat := s.get Reg.FRM_PHASE_CMP_END - s.get Reg.FRM_PHASE_SW_END
def Dev.controlClk (s : Dev) : Nat := s.computeClk * (100 - min 50 (s.get Reg.FRM_CFG_MARGIN)) / 100

/-- The shortfall of a schedule in core clocks; 0 when it fits (R56, R57). What prepared commands will add counts (R281). -/
def Dev.shortfall (s : Dev) : Nat :=
  let c := s.ctrlSum + s.prepCost
  if s.controlClk < c then c - s.controlClk else c + s.shedSum - s.computeClk

/-- The cell sweep is admitted: its item is what loads the dispatch phase and the lanes (R55, R56). -/
def Dev.sweepAdmitted (s : Dev) : Bool := s.loadedCtxs.any (fun x => imgLaw x.2 == 0x07)

/-- What the dispatch phase lacks for the worst case of a lane, in core clocks (R56, R257). -/
def Dev.dispatchShort (s : Dev) : Nat :=
  if s.sweepAdmitted then
    ((List.range 16).filter s.ringEn).foldl (fun a r => max a (cdiv (max (s.intactD r 0) (s.intactD r 1) - s.dispatch10) 50)) 0
  else 0

/-- What a lane’s 64 reserved granules lack for its worst case (R56, R258). -/
def Dev.laneShort (s : Dev) : Nat :=
  if s.sweepAdmitted then ((List.range 16).filter s.ringEn).foldl (fun a r => max a (s.laneGranules r - 64)) 0 else 0

/-- The Detail of a limiting resource and its shortfall (R57); the first of them counts when several are short (log entry 30). -/
def admissionDetail (compute dispatch granules : Nat) : Option Nat :=
  if compute ≠ 0 then some (0x100000 + min 0xFFFFF compute)
  else if dispatch ≠ 0 then some (0x200000 + min 0xFFFFF dispatch)
  else if granules ≠ 0 then some (0x300000 + min 0xFFFFF granules) else none

/-- Why the whole schedule is not admitted (R57). -/
def Dev.notAdmitted (s : Dev) : Option Nat := admissionDetail s.shortfall s.dispatchShort s.laneShort

/-- Why an item is not admitted, `t` being `s` with the item in: what is short in `t` and not as short in `s` (R57). -/
def Dev.itemRefused (s t : Dev) : Option Nat :=
  admissionDetail (if t.ctrlSum ≤ s.ctrlSum ∧ t.shedSum ≤ s.shedSum then 0 else t.shortfall)
    (if t.dispatchShort ≤ s.dispatchShort then 0 else t.dispatchShort) (if t.laneShort ≤ s.laneShort then 0 else t.laneShort)

/-- A command that adds an item or raises its cost: `t` is the state with the item in (R57). -/
def whenAdmitted (s t : Dev) (k : Dev → Ans) : Ans :=
  match s.itemRefused t with
  | none => k t
  | some d => (s.raise Reg.FRM_FLAG_ADMREJ_F, some { status := sBUSY, detail := d })

/-! ### Descriptor checks (R114) -/

/-- Ranges of NIN, NOUT and ORDER by law; none for a reserved law. -/
def lawRanges (b : List Byte) : Option ((Nat × Nat) × (Nat × Nat) × (Nat × Nat)) :=
  match imgLaw b with
  | 0x00 => some ((0, 0), (0, 0), (0, 0))
  | 0x01 => some ((1, 8), (1, 4), (0, 0))
  | 0x02 => some ((1, 8), (1, 4), (0, 0))
  | 0x03 => some ((1, 8), (1, 4), (1, 8))
  | 0x04 => some ((1, 8), (1, 4), (1, 8))
  | 0x05 => some ((imgOrder b, imgOrder b), (1, 4), (1, 8))
  | 0x06 => some ((3, 3), (1, 4), (0, 0))
  | 0x07 => some ((5, 5), (0, 0), (0, 0))
  | 0x10 => some ((8, 8), (4, 4), (0, 6))
  | 0x11 => some ((0, 0), (1, 1), (0, 0))
  | _ => none

/-- v lies in a range. -/
def within (v : Nat) (r : Nat × Nat) : Bool := decide (r.1 ≤ v) && decide (v ≤ r.2)

/-- An input selector is legal in form and index (R112). -/
def selOk (v : Nat) : Bool :=
  let i := selIndex v
  v / 2 ^ 28 % 8 == 0 &&
    match selClass v with
    | 0 => i == 0
    | 1 => decide (i ≤ 47)
    | 2 => decide (i ≤ 7)
    | 3 => i == 0
    | 4 => i == 0
    | 5 => decide (1 ≤ i / 2 ^ 8) && decide (i / 2 ^ 8 ≤ 63) && i % 2 ^ 8 / 4 == 0
    | 6 => decide (i ≤ 255)
    | 7 => decide (i ≤ 255)
    | 8 => decide (i ≤ 63)
    | 9 => decide (i ≤ 255)
    | _ => false

/-- A selector of the cell sweep is of a class its input allows (R147). -/
def sweepSelOk (mmc storage known : Bool) (k v : Nat) : Bool :=
  let c := selClass v
  match k with
  | 0 => c == 0 || (c == 7 && decide (selIndex v ≤ 196))
  | 1 => !mmc || c == 0
  | 2 => !mmc || c == 0
  | 4 => storage || !known || c == 0
  | _ => true

/-- An output selector is legal in form and index (R113). -/
def outSelOk (v : Nat) : Bool :=
  let i := selIndex v
  v / 2 ^ 24 % 16 == 0 &&
    match selDest v with
    | 0 => true
    | 1 => decide (i ≤ 11)
    | 2 => decide (i ≤ 5) || (decide (8 ≤ i) && decide (i ≤ 10))
    | 3 => decide (1 ≤ i) && decide (i ≤ 63)
    | 4 => true
    | 5 => decide (i ≤ 255)
    | _ => false

/-- What an output writes that only one output may write (R113): (DEST, INDEX) pairs. A GRID context’s OUT0 counts for every group it
writes (R211). -/
def outTargets (mmc : Bool) (b : List Byte) (k : Nat) : List (Nat × Nat) :=
  let v := imgOut b k
  if imgNout b ≤ k then []
  else if imgLaw b = 0x10 ∧ k = 0 then (List.range (if mmc then 6 else 3)).map (fun g => (2, g))
  else if [1, 2, 3, 5].contains (selDest v) then [(selDest v, selIndex v)] else []

/-- Everything a descriptor writes. -/
def imgTargets (mmc : Bool) (b : List Byte) : List (Nat × Nat) := ((List.range 4).map (outTargets mmc b)).flatten

/-- Parameter words in use by the law (R121–R125), those named by CLASS 8 inputs apart. -/
def parUsed (b : List Byte) : List Nat :=
  match imgLaw b with
  | 0x01 => [0, 1]
  | 0x02 => [0, 1, 2, 3]
  | 0x03 => List.range (1 + 3 * imgOrder b)
  | 0x04 => List.range (5 * imgOrder b)
  | 0x05 => List.range (imgOrder b) ++ [8, 9]
  | 0x06 => [0, 1, 2, 3]
  | 0x07 => List.range 64
  | 0x10 => List.range 64
  | 0x11 => List.range 64
  | _ => []

/-- A parameter word of CELLSWEEP within its range (R148). -/
def sweepParOk (b : List Byte) (j : Nat) : Bool :=
  let w := imgPar b j
  match j with
  | 0 => inRange w (dec 1 2) fOne
  | 3 => fPos w
  | 4 => fFinite w && fLt (imgPar b 3) w
  | 5 => inRange w (dec (-40) 1) (dec 200 1)
  | 6 => fPos w
  | 9 => fPos w
  | 11 => inRange w (dec 1 5) fOne
  | 12 => inRange w (dec 1 2) fOne
  | 13 => fPos w
  | 15 => inRange w fZero (dec 10 1)
  | 16 => inRange w fZero fOne
  | 17 => inRange w (imgPar b 16) fOne
  | 18 => inRange w fZero (dec 10 1)
  | _ => if 19 ≤ j then fAbs w == 0 else fNonneg w

/-- A parameter word of GRID within its range (R212). -/
def gridParOk (b : List Byte) (j : Nat) : Bool :=
  let w := imgPar b j
  let n := imgOrder b
  match j with
  | 5 => inRange w (dec 50 1) (dec 1000 1)
  | 6 => w == fZero || w == fOne || w == fTwo
  | 7 => w == fZero || w == fOne
  | _ =>
    if 26 ≤ j then fAbs w == 0
    else if j < 8 then fNonneg w
    else if 8 + 3 * n ≤ j then fFinite w
    else if (j - 8) % 3 = 1 then inRange w fTwo (dec 50 1) else fNonneg w

/-- A parameter word of ISLCODE within its range (R229). -/
def islParOk (b : List Byte) (j : Nat) : Bool :=
  let w := imgPar b j
  match j with
  | 0 => inRange w fZero (dec 16 1)
  | 1 => inRange w (dec 1 10) fOne
  | 2 => inRange w fTwo (dec 16 1)
  | _ => fAbs w == 0

/-- A parameter word passes the checks of its law. -/
def parOk (b : List Byte) (j : Nat) : Bool :=
  let w := imgPar b j
  match imgLaw b with
  | 0x02 => if j = 3 then fPos w else fFinite w
  | 0x03 => if j % 3 = 2 then fFinite w && fLe fHalf w else fFinite w
  | 0x07 => sweepParOk b j
  | 0x10 => gridParOk b j
  | 0x11 => islParOk b j
  | _ => fFinite w

/-- Indices of the parameter words that fail. -/
def badPars (b : List Byte) : List Nat :=
  let named := (List.range (imgNin b)).filterMap (fun k => if selClass (imgIn b k) = 8 then some (selIndex (imgIn b k)) else none)
  (List.range 64).filter (fun j => ((parUsed b).contains j && !parOk b j) || (named.contains j && !fFinite (imgPar b j)))

/-- Offsets that fail in the descriptor itself. `mmc` and `storage` are those of the cell map, `known` that one is loaded. -/
def badImageOwn (mmc storage known : Bool) (b : List Byte) : List Nat :=
  let law := imgLaw b
  let solo := law == 0x07 || law == 0x10 || law == 0x11
  let fp := fun (o : Nat) => badAt (!fFinite (wordAt b o)) o
  (match lawRanges b with
   | none => [0]
   | some r => badAt (!within (imgNin b) r.1) 4 ++ badAt (!within (imgNout b) r.2.1) 5 ++ badAt (!within (imgOrder b) r.2.2) 6) ++
  badAt (decide (16 ≤ imgFlags b)) 1 ++ badAt (solo && imgDiv b != 1) 2 ++ badAt (decide (imgDiv b ≤ imgPhase b)) 3 ++
  badAt (decide (6 ≤ byteAt b 7) || (law == 0x07 && byteAt b 7 != 0)) 7 ++
  badAt (imgSpSrc b == 4 && decide (255 < imgSpArg b)) 8 ++
  fp 12 ++ fp 16 ++ fp 20 ++ fp 24 ++ fp 28 ++ fp 32 ++ fp 44 ++
  badAt (fLt (imgOMax b) (imgOMin b)) 20 ++ badAt (fLt (imgIMax b) (imgIMin b)) 28 ++
  badAt (decide (3 ≤ imgTblMode b) || (law == 0x07 && imgTblMode b != 0)) 36 ++
  badAt (decide (15 < imgTblSel b) || (imgTblMode b == 2 && imgTblSel b % 2 == 1)) 37 ++
  badAt (decide (7 < imgSignIn b) || (imgTblMode b == 2 && decide (imgNin b ≤ imgSignIn b))) 38 ++
  badAt (decide (3 < imgTblOut b) || (imgTblMode b == 2 && decide (imgNout b ≤ imgTblOut b))) 39 ++
  ((List.range (min 8 (imgNin b))).filter (fun k =>
    let v := imgIn b k
    !selOk v || (law == 0x07 && !sweepSelOk mmc storage known k v))).map (fun k => 48 + 4 * k) ++
  ((List.range (min 4 (imgNout b))).filter (fun k =>
    let v := imgOut b k
    !outSelOk v || (law == 0x10 && k == 0 && v != 2 * 2 ^ 28))).map (fun k => 80 + 4 * k) ++
  ((List.range 32).filter (fun i => byteAt b (96 + i) != 0)).map (· + 96) ++ (badPars b).map (fun j => 128 + 4 * j)

/-- A cell map with storage cells in CHB mode. -/
def Dev.chbStorage (s : Dev) : Bool := !s.mmc && s.cells.recs.any (fun r => r.source == 2)

/-- Offsets that fail against the other loaded contexts, for a descriptor of context c. -/
def Dev.badImageOthers (s : Dev) (c : Nat) (b : List Byte) : List Nat :=
  let others := s.loadedCtxs.filter (fun x => x.1 != c)
  let law := imgLaw b
  let solo := law == 0x07 || law == 0x10 || law == 0x11
  let taken := (others.map (fun x => imgTargets s.mmc x.2)).flatten
  let inner := fun (i : Nat) => if i = c then some b else (others.find? (fun x => x.1 == i)).map (·.2)
  let outer := others.find? (fun x => (imgTargets s.mmc x.2).contains (3, c))
  badAt (solo && others.any (fun x => imgLaw x.2 == law)) 0 ++
  badAt (c == s.get Reg.ANG_CFG_PLLCTX && law != 0x06) 0 ++
  (match outer with
   | some x => badAt (imgDiv x.2 % imgDiv b != 0) 2 ++ badAt (imgSpSrc b != 5) 7
   | none => []) ++
  ((List.range 4).filter (fun k =>
    let t := outTargets s.mmc b k
    let before := ((List.range k).map (outTargets s.mmc b)).flatten
    t.any (fun x => taken.contains x || before.contains x ||
      (x.1 == 3 && match inner x.2 with
        | some i => imgSpSrc i != 5 || imgDiv b % imgDiv i != 0
        | none => true)))).map (fun k => 80 + 4 * k)

/-- The first rejected offset of a descriptor (R114). -/
def Dev.badImage (s : Dev) (c : Nat) (b : List Byte) : Option Nat :=
  lowestOf (badImageOwn s.mmc s.chbStorage (!s.cells.recs.isEmpty) b ++ s.badImageOthers c b)

/-! ### Inputs, set-points, tables (R112, R119, R128, R130) -/

/-- The value a selector names, and whether its sample is marked OVR or SUSPECT. `b` is the context’s own descriptor. -/
def Dev.readSel (s : Dev) (b : List Byte) (v : Nat) : Word × Bool :=
  let i := selIndex v
  match selClass v with
  | 1 =>
    let x := sget (fun _ => {}) s.ce.ain i
    (x.value, x.ovr || x.suspect)
  | 2 =>
    let x := sget (fun _ => {}) s.ce.jin i
    (x.value, x.ovr || x.suspect)
  | 3 => (angleRad (s.reg Reg.ANG_ANGLE).toNat, false)
  | 4 => (s.reg Reg.ANG_FREQ, false)
  | 5 => (s.reg (Reg.CE_OUTc_k (i / 2 ^ 8) (i % 4)), false)
  | 6 => (s.cells.aggTick.getD i 0, false)
  | 7 => (s.slot i, false)
  | 8 => (imgPar b i, false)
  | 9 => (s.mtr.image.getD i 0, false)
  | _ => (fZero, false)

/-- A marked sample held for at most 8 runs in a row (R119). -/
def holdInput (hold : Bool) (x : Word × Bool) (h : Word × Nat) : CM (Word × (Word × Nat)) := do
  let v ← cchk x.1
  if hold && x.2 then
    if h.2 < 8 then do
      setHeld
      pure (h.1, (h.1, h.2 + 1))
    else pure (v, (v, h.2))
  else pure (v, (v, 0))

/-- The inputs of a run in order. -/
def readInputs : List (Bool × (Word × Bool)) → List (Word × Nat) → CM (List (Word × (Word × Nat)))
  | [], _ => pure []
  | x :: t, h => do
    let v ← holdInput x.1 x.2 (h.headD (0, 0))
    let r ← readInputs t (h.drop 1)
    pure (v :: r)

/-- The set-point of a run before injection, and the held state of SP_AIN (R130). -/
def Dev.setPoint (s : Dev) (b : List Byte) (x : CtxSt) : CM (Word × (Word × Nat)) := do
  let h := x.held.getD 8 (0, 0)
  match imgSpSrc b with
  | 1 => pure (x.sp, h)
  | 2 => do
    let a := sget (fun _ => {}) s.ce.ain 47
    let v ← holdInput true (a.value, a.ovr || a.suspect) h
    let r ← cFma (imgSpA b) v.1 (imgSpB b)
    pure (r, v.2)
  | 3 => do
    let r ← cFma (imgSpA b) (s.reg Reg.CE_SPP_VAL) (imgSpB b)
    pure (r, h)
  | 4 => do
    let r ← cchk (s.slot (imgSpArg b))
    pure (r, h)
  | 5 => pure (x.spInner, h)
  | _ => pure (fZero, h)

/-- An entry of a compensation table. -/
def Dev.tableAt (s : Dev) (t i : Nat) : Word := sget (fun _ => 0) s.ce.tables (1024 * t + i % 1024)

/-- The table value of a run (R128). -/
def Dev.tableValue (s : Dev) (b : List Byte) (ins : List Word) : CM Word := do
  if imgTblMode b = 0 then pure fZero
  else
    let phi : Nat := ((s.reg Reg.ANG_ANGLE).toNat + imgTblPh b) % 2 ^ 32
    let i : Nat := phi / 2 ^ 22
    let fr := fOfInt ((phi % 2 ^ 22 : Nat) : Int) (-22)
    let t := if imgTblMode b = 2 ∧ fLt (ins.getD (imgSignIn b) 0) fZero then imgTblSel b + 1 else imgTblSel b
    let a ← cchk (s.tableAt t i)
    let z ← cchk (s.tableAt t (i + 1))
    let d ← cSub z a
    let v ← cFma fr d a
    cMul (imgTblGain b) v

/-! ### Injection (R134–R136) -/

def igWave (b : List Byte) : Nat := byteAt b 0
def igPoint (b : List Byte) : Nat := byteAt b 1
def igOut (b : List Byte) : Nat := byteAt b 2
def igAmp (b : List Byte) : Word := wordAt b 4
def igFreq (b : List Byte) : Word := wordAt b 8
def igPord (b : List Byte) : Nat := byteAt b 12
def igPhold (b : List Byte) : Nat := byteAt b 13
def igNtone (b : List Byte) : Nat := byteAt b 14
def igDur (b : List Byte) : Nat := leAt b 16 4
def igM (b : List Byte) (j : Nat) : Nat := leAt b (32 + 8 * j) 2
def igPhi (b : List Byte) (j : Nat) : Nat := leAt b (34 + 8 * j) 2
def igA (b : List Byte) (j : Nat) : Word := wordAt b (36 + 8 * j)

/-- The second tap of a PRBS order (R135); the first is the order itself. -/
def prbsTap (n : Nat) : Option Nat :=
  match n with
  | 7 => some 6 | 9 => some 5 | 10 => some 7 | 11 => some 9 | 15 => some 14 | 17 => some 14 | 23 => some 18 | _ => none

/-- Σ a_j sin(2π m_j f n Ts + 2π φ_j / 65,536). -/
def toneSum (b : List Byte) (nts : Word) : List Nat → Word → CM Word
  | [], acc => pure acc
  | j :: t, acc => do
    let f ← cMul (fOfNat (igM b j)) (igFreq b)
    let x ← cMul f nts
    let ph := fOfInt ((igPhi b j : Nat) : Int) (-16)
    let y ← cAdd x ph
    let a ← cMul f2Pi y
    let n ← cSin a
    let acc ← cFma (igA b j) n acc
    toneSum b nts t acc

/-- The value injected at the n-th run. Of 2π f n Ts the product n Ts is formed first, then f n Ts, each rounded; an n beyond 2^24 is rounded to FP32
(DESIGN CHOICE, log entry 18). -/
def injValue (x : InjSt) (ts : Word) : CM Word := do
  let b := x.block
  let nts ← cMul (fOfNat x.n) ts
  match igWave b with
  | 1 => do
    let y ← cMul (igFreq b) nts
    let a ← cMul f2Pi y
    let n ← cSin a
    cMul (igAmp b) n
  | 2 => do
    let t ← toneSum b nts (List.range (igNtone b)) fZero
    cMul (igAmp b) t
  | _ => pure (if x.lfsr / 2 ^ (igPord b - 1) % 2 = 1 then igAmp b else fNeg (igAmp b))

/-- The generator injects in a run of the context at this tick. -/
def Dev.injFor (s : Dev) (c g : Nat) : Option InjSt :=
  let x := sget (fun _ => {}) s.ce.inj g
  if x.active && x.ctx == c && decide (x.startAt ≤ s.tickStamp) then some x else none

/-- A generator after a run in which it injected `v`: it has stopped when DUR runs are done. -/
def Dev.injStep (s : Dev) (g : Nat) (x : InjSt) (v : Word) : Dev :=
  let b := x.block
  let n := x.n + 1
  let shift := igWave b == 3 && n % max 1 (igPhold b) == 0
  let l := if shift then lfsrShift (igPord b) ((prbsTap (igPord b)).getD 1) x.lfsr else x.lfsr
  let stop := igDur b != 0 && decide (igDur b ≤ n)
  let k := s.ce.cap
  let cap := if x.n = 0 ∧ k.armed ∧ k.gen = g then { k with started := true } else k
  let s := s.setCe { s.ce with inj := sset (fun _ => {}) s.ce.inj g { x with n := n, lfsr := l, value := v, active := !stop }, cap := cap }
  (s.set (Reg.CE_INJg_STAT_RUNS g) (min 0xFFFFFF n)).setB (Reg.CE_INJg_STAT_ACTIVE g) (!stop)

/-- A generator stopped: from the next run of its context on its value is 0. -/
def Dev.injStop (s : Dev) (g : Nat) : Dev :=
  let x := sget (fun _ => {}) s.ce.inj g
  (s.setCe { s.ce with inj := sset (fun _ => {}) s.ce.inj g { x with active := false } }).setB (Reg.CE_INJg_STAT_ACTIVE g) false

/-- A run of context `c`: a generator of it that injects nothing in the run has the value 0 (R136). -/
def Dev.injIdle (s : Dev) (c : Nat) : Dev :=
  forEach ((List.range 2).filter (fun g => (sget (fun _ => {}) s.ce.inj g).ctx == c && (s.injFor c g).isNone)) (fun g t =>
    t.setCe { t.ce with inj := sset (fun _ => {}) t.ce.inj g { sget (fun _ => {}) t.ce.inj g with value := 0 } }) s

/-- Injection stops outside READY, SYNC and RUN (R136). -/
def Dev.injFollow (s : Dev) : Dev :=
  if s.stIn [stREADY, stSYNC, stRUN] then s
  else forEach ((s.ce.inj.filter (fun x => x.2.active)).map (·.1)) (fun g t => (t.injStop g).raise Reg.CE_FLAG_INJSTP_F) s

/-! ### Captures (R137, R138) -/

/-- A generator. -/
def Dev.inj (s : Dev) (g : Nat) : InjSt := sget (fun _ => {}) s.ce.inj g

/-- The value of a channel word. -/
def Dev.capValue (s : Dev) (w : Word) : Word :=
  let x := s.ctx (bits w 13 8)
  let k := bits w 2 0
  match bits w 31 28 with
  | 1 => x.lastR
  | 2 => x.lastE
  | 3 => x.outs.getD (k % 4) 0
  | 4 => x.lastIn.getD k 0
  | 5 => (sget (fun _ => {}) s.ce.inj (k % 2)).value
  | _ => (s.readSel (s.ctx s.ce.cap.rctx).img (bits w 27 0)).1

/-- Frames between records. -/
def Dev.capDiv (s : Dev) : Nat := if s.ce.cap.rctx = 0 then 1 else imgDiv (s.ctx s.ce.cap.rctx).img

/-- The state of a capture shown in CE_CAP_STAT. -/
def Dev.showCap (s : Dev) (c : CapSt) (done : Bool) : Dev :=
  let s := s.setCe { s.ce with cap := { c with armed := c.armed && !done } }
  let s := (s.setB Reg.CE_CAP_STAT_DONE done).setB Reg.CE_CAP_STAT_ARMED (c.armed && !done)
  (s.setB Reg.CE_CAP_STAT_TRIGD c.trigd).set Reg.CE_CAP_STAT_RECS c.mem.length

/-- A record joins the capture. -/
def Dev.capRecord (s : Dev) : Dev :=
  let c := s.ce.cap
  if !c.armed then s
  else
    let r := c.chans.map s.capValue
    let f := s.frame
    let add := c.mem ++ [r]
    let c := if c.mem.isEmpty then { c with firstStamp := s.tickStamp, firstFrame := f, div := s.capDiv, period := s.frameTU } else c
    let c := { c with freerun := c.freerun || s.freerun, unsync := c.unsync || s.unsync }
    let cut := fun (k : Nat) (x : CapSt) =>
      { x with mem := x.mem.drop k, firstStamp := x.firstStamp + k * x.div * x.period, firstFrame := (x.firstFrame + k * x.div) % 2 ^ 32 }
    let finish := fun (x : CapSt) =>
      let need := if x.trig = 2 then x.trigIdx + (x.records - x.pre) else x.records
      let x := if x.trigd then { x with mem := x.mem.take need } else x
      s.showCap { x with lastFrame := f } (x.trigd && decide (need ≤ x.mem.length))
    if c.trigd then finish { c with mem := add }
    else if c.trig = 0 then finish { c with mem := add, trigd := true, trigIdx := 0 }
    else if c.trig = 1 then
      if c.started then finish { c with mem := add, trigd := true, trigIdx := 0 } else s
    else
      match s.snp.capTrig with
      | none => finish (cut (add.length - (c.pre + 1)) { c with mem := add })
      | some q =>
        let i := if !c.mem.isEmpty && c.lastFrame == q then c.mem.length - 1 else c.mem.length
        let k := i - c.pre
        let t := finish (cut k { c with mem := add, trigd := true, trigIdx := i - k, short := decide (i - k < c.pre) })
        { t with snp := { t.snp with capTrig := none } }

/-- A capture aborts (R137). -/
def Dev.capAbort (s : Dev) : Dev :=
  if !s.ce.cap.armed then s
  else
    let s := s.setCe { s.ce with cap := { s.ce.cap with armed := false } }
    ((s.setB Reg.CE_CAP_STAT_ARMED false).setB Reg.CE_CAP_STAT_ABORT true).raise Reg.CE_FLAG_CAPABT_F

/-! ### A run (R110, R118) -/

/-- The events of a run in CE_CFLAGc. -/
def Dev.showFlags (s : Dev) (c : Nat) (f : CFlags) : Dev :=
  let live := (b2n f.held * 16 + b2n f.nan * 8 + b2n f.ovf * 4 + b2n f.wind * 2 + b2n f.sat)
  let s := s.set ⟨Reg.CE_CFLAGc c, 20, 16⟩ live
  s.set ⟨Reg.CE_CFLAGc c, 4, 0⟩ (s.get ⟨Reg.CE_CFLAGc c, 4, 0⟩ ||| live)

/-- An output goes where its selector says (R113); aggregate slots are written in the dispatch phase. -/
def Dev.writeOut (s : Dev) (v : Nat) (w : Word) : Dev :=
  let i := selIndex v
  match selDest v with
  | 1 => s.setCh i { s.ch i with ctxNew := some w }
  | 2 => s.setEsp { s.esp with group := sset (fun _ => 0) s.esp.group i w }
  | 3 => s.setCtx i { s.ctx i with spInner := w }
  | _ => s

/-- The outputs of a law by its set-point, inputs and added value (table and injection at the output). On a law with one result the table value and an
injection at an output enter that result, so they reach all its NOUT outputs and the candidate of the anti-windup, whatever TBLOUT and OUTIDX say
(DESIGN CHOICE, log entry 18). Of SRFPLL only OUT1 has a clamp, which comes after the table value too (DEDUCED, log entry 18). -/
def lawOuts (b : List Byte) (x : CtxSt) (ts f r e : Word) (ins : List Word) (tbl : Word) (injOut : Option (Nat × Word)) :
    CM (CtxSt × List Word) := do
  let y := ins.getD 0 0
  let injV := match injOut with
    | some j => j.2
    | none => fZero
  let add ← if injOut.isSome then cAdd tbl injV else pure tbl
  let single := fun (z : CtxSt × List Word) => (z.1, List.replicate (imgNout b) (z.2.getD 0 0))
  match imgLaw b with
  | 0x01 => do
    let z ← lawPid false b x ts y e add
    pure (single z)
  | 0x02 => do
    let z ← lawPid true b x ts y e add
    pure (single z)
  | 0x03 => do
    let z ← lawPr b x ts f e add
    pure (single z)
  | 0x04 => do
    let z ← lawBiquad b x y e add
    pure (single z)
  | 0x05 => do
    let z ← lawStateFb b x ts r ins add
    pure (single z)
  | 0x06 => do
    let k := match injOut with
      | some j => j.1
      | none => 4
    let z ← lawPll b x ts y (ins.getD 1 0) (ins.getD 2 0) (if k = 1 then injV else fZero)
    let o ← if k = 1 ∨ 4 ≤ k then pure z.2 else do
        let w ← cAdd (z.2.getD k 0) injV
        pure (z.2.set k w)
    let o ← if imgTblMode b = 0 then pure o else do
        let w ← cAdd (o.getD (imgTblOut b) 0) tbl
        let w ← if imgTblOut b = 1 then cSatClamp w (imgOMin b) (imgOMax b) else pure w
        pure (o.set (imgTblOut b) w)
    pure (z.1, o.take (imgNout b))
  | _ => pure (x, [])

/-- What a run of an ordinary law computes. -/
structure RunOut where
  x : CtxSt
  r : Word
  e : Word
  ins : List Word
  outs : List Word
  /-- Values injected, by generator; the table value, and what is injected at an output. -/
  inj : List (Nat × Word)
  tbl : Word := 0
  atOut : Option (Nat × Word) := none
  deriving DecidableEq, Repr

/-- The injected values of a run, generator by generator. -/
def injAll (ts : Word) : List (Nat × InjSt) → CM (List (Nat × InjSt × Word))
  | [] => pure []
  | (g, x) :: t => do
    let v ← injValue x ts
    let r ← injAll ts t
    pure ((g, x, v) :: r)

/-- Inputs, set-point, injection, table and law of a run. For GRID, ISLCODE and CELLSWEEP the law itself runs apart. -/
def Dev.runCalc (s : Dev) (c : Nat) (b : List Byte) (x : CtxSt) : CM RunOut := do
  let ts := s.ctxTs b
  let sels := (List.range (imgNin b)).map (fun k => (selHold (imgIn b k), s.readSel b (imgIn b k)))
  let got ← readInputs sels x.held
  let ins := got.map (·.1)
  let sp ← s.setPoint b x
  let gens := (List.range 2).filterMap (fun g => (s.injFor c g).map (fun y => (g, y)))
  let inj ← injAll ts gens
  let atR := (inj.filter (fun y => igPoint y.2.1.block == 0)).map (·.2.2)
  let atOut := (inj.find? (fun y => igPoint y.2.1.block == 1)).map (fun y => (igOut y.2.1.block, y.2.2))
  let r ← cSum (sp.1 :: atR)
  let e ← cSub r (ins.getD 0 0)
  let tbl ← s.tableValue b ins
  let h := (got.map (·.2) ++ x.held.drop (imgNin b)).take 8 ++ [sp.2]
  let z ← lawOuts b { x with held := h } ts (s.reg Reg.ANG_FREQ) r e ins tbl atOut
  pure { x := z.1, r := r, e := e, ins := ins, outs := z.2, inj := inj.map (fun y => (y.1, y.2.2)), tbl := tbl, atOut := atOut }

/-- The events of two parts of one run. -/
def CFlags.or (a b : CFlags) : CFlags :=
  { ovf := a.ovf || b.ovf, nan := a.nan || b.nan, sat := a.sat || b.sat, wind := a.wind || b.wind, held := a.held || b.held }

/-- What the table and an injection add to output `k` of a grid law; these outputs have no clamp of their own (R128, R134; DEDUCED, log entry 18). -/
def RunOut.addTo (o : RunOut) (b : List Byte) (k : Nat) (w : Word) : CM Word := do
  let w ← if imgTblMode b ≠ 0 ∧ imgTblOut b = k then cAdd w o.tbl else pure w
  match o.atOut with
  | some j => if j.1 = k then cAdd w j.2 else pure w
  | none => pure w

/-- The outputs of a grid law with what is added to each; `groups` are the reference groups that OUT0 writes. -/
def RunOut.gridAdded (o : RunOut) (b : List Byte) (groups : List Nat) (r : Dev × CFlags × List Word) : Dev × CFlags × List Word :=
  if imgTblMode b = 0 ∧ o.atOut = none then r
  else
    let q := (r.2.2.zipIdx.mapM (fun x => o.addTo b x.2 x.1)).run {}
    let g := (groups.mapM (fun i => o.addTo b 0 (sget (fun _ => 0) r.1.esp.group i))).run {}
    let t := forEach (groups.zip g.1) (fun x t => t.setEsp { t.esp with group := sset (fun _ => 0) t.esp.group x.1 x.2 }) r.1
    (t, (r.2.1.or q.2).or g.2, q.1)

/-- The part of a run that the cell sweep and the grid laws add. -/
def Dev.runSpecial (s : Dev) (b : List Byte) (o : RunOut) : Dev × CFlags × List Word :=
  match imgLaw b with
  | 0x07 =>
    let r := s.sweepRun b o.ins (s.ctxTs b) s.stationSum
    (r.1, r.2, [])
  | 0x10 => o.gridAdded b (if s.grid.applied.isNone then [] else if s.mmc then List.range 6 else List.range 3) (s.gridRun b o.ins o.r)
  | 0x11 => o.gridAdded b [] (s.islRun b)
  | _ => (s, {}, o.outs)

/-- A context is due in this frame (R115). -/
def Dev.ctxDue (s : Dev) (b : List Byte) : Bool := !b.isEmpty && imgEn b && s.curN % imgDiv b == imgPhase b

/-- One run of a context. -/
def Dev.runCtx (s : Dev) (c : Nat) : Dev :=
  let x := s.ctx c
  let b := x.img
  if !s.ctxDue b then s
  else
    let o := (s.runCalc c b x).run {}
    let y := s.runSpecial b o.1
    let fl := o.2.or y.2.1
    let outs := y.2.2
    let s := y.1
    let keep := s.ctx c
    let s := s.setCtx c { o.1.x with outs := outs ++ keep.outs.drop outs.length, lastR := o.1.r, lastE := o.1.e,
                                     lastIn := o.1.ins ++ keep.lastIn.drop o.1.ins.length }
    let s := s.showFlags c fl
    let s := onlyIf (fl.nan && imgNanTrip b) (·.latch (s.stamp 0) [0x22]) s
    let s := s.injIdle c
    let s := forEach o.1.inj (fun g t => t.injStep g.1 (sget (fun _ => {}) t.ce.inj g.1) g.2) s
    let s := forEach (List.range outs.length) (fun k t =>
      if imgLaw b = 0x10 ∧ k = 0 then t else t.writeOut (imgOut b k) (outs.getD k 0)) s
    onlyIf (s.ce.cap.rctx == c) (·.capRecord) s

/-- The internal angle of the frame is the output that the PLL context’s run in it has (R92). The run depends on nothing after the tick, so its result
is known here. Where it reads the selected angle itself, it reads the one of the frame before (DESIGN CHOICE, log entry 64). -/
def Dev.pllTick (s : Dev) : Dev :=
  let c := s.get Reg.ANG_CFG_PLLCTX
  let x := s.ctx c
  if !s.ctxDue x.img || imgLaw x.img != 0x06 || s.stIn [stPOWEROFF, stBOOT, stCONFIG] then s
  else
    let o := ((s.runCalc c x.img x).run {}).1
    s.angInternal o.x.theta o.x.fPrev

/-- The contexts run in ascending order (R110). -/
def Dev.runContexts (s : Dev) : Dev :=
  if s.stIn [stPOWEROFF, stBOOT, stCONFIG] then s
  else
    let s := forEach (s.ce.ctxs.map (·.1)) (fun c t => t.runCtx c) s
    onlyIf (s.ce.cap.rctx == 0) (·.capRecord) s

/-- Aggregate slots written in the dispatch phase: outputs with DEST 5, and the cell sweep’s aggregates (R112, R149). -/
def Dev.dispatchSlots (s : Dev) : Dev :=
  if s.stIn [stPOWEROFF, stBOOT, stCONFIG] then s
  else
    forEach s.ce.ctxs (fun x t =>
      let b := x.2.img
      if !t.ctxDue b then t
      else
        let t := forEach (List.range (imgNout b)) (fun k d =>
          if selDest (imgOut b k) = 5 then d.aggWrite (selIndex (imgOut b k)) (x.2.outs.getD k 0) else d) t
        if imgLaw b = 0x07 then
          match t.sweepBase with
          | some base => forEach (List.range 60) (fun a d => d.aggWrite (base + a) (d.cells.agg.getD a 0)) t
          | none => t
        else t) s

/-! ### The pulse input (R132, R133) -/

def spOFF : Nat := 0
def spTRACK : Nat := 1
def spHOLD : Nat := 2
def spRAMP : Nat := 3
def spFALLBACK : Nat := 4
def spRECOVER : Nat := 5

def Dev.spst (s : Dev) : Nat := s.get Reg.CE_SPP_STAT_ST

/-- FB as the device uses it, 0–200,000 Hz. -/
def Dev.sppFb (s : Dev) : Word :=
  let w := s.reg Reg.CE_SPP_FB
  if fIsNaN w then fZero else fClamp w fZero (dec 200000 1)

/-- RAMP × P; a ramp that is not positive makes a step. -/
def Dev.sppStep (s : Dev) : Option Word :=
  let w := s.reg Reg.CE_SPP_RAMP
  if fPos w then some (fMul w (fOfRat s.frameTU 3200000000)) else none

/-- A value moved toward a target by at most a step; whether it is reached. -/
def moveTo (v target : Word) (step : Option Word) : Bool × Word :=
  match step with
  | none => (true, target)
  | some d =>
    let n := if fLt v target then fMin target (fAdd v d) else fMaxOf target (fSub v d)
    (fLe n target && fLe target n, n)

/-- An accepted rising edge (R132). -/
def Dev.sppEdge (s : Dev) : Dev :=
  if !s.isOn Reg.CE_SPP_CFG_EN then s
  else
    let st := s.time - 16 * (max 2 (s.get Reg.CE_SPP_CFG_PFILT) - 1)
    let p := s.ce.spp
    s.setCe { s.ce with spp := { p with n := p.n + 1, last := st, since := p.since + 1 } }

/-- No rising edge for LOSSDET ms. -/
def Dev.sppLoss (s : Dev) : Dev :=
  if s.spst = spTRACK then
    let s := (s.set Reg.CE_SPP_STAT_ST spHOLD).raise Reg.CE_FLAG_PLOSS_F
    s.setCe { s.ce with spp := { s.ce.spp with since := 0 } }
  else s

/-- THOLD has elapsed in HOLD. -/
def Dev.sppHoldEnd (s : Dev) : Dev := if s.spst = spHOLD then s.set Reg.CE_SPP_STAT_ST spRAMP else s

/-- EN written: set leads from OFF to FALLBACK, clear to OFF. -/
def Dev.sppEnable (s : Dev) : Dev :=
  if s.isOn Reg.CE_SPP_CFG_EN then
    if s.spst = spOFF then (s.setCe { s.ce with spp := {} }).set Reg.CE_SPP_STAT_ST spFALLBACK else s
  else s.set Reg.CE_SPP_STAT_ST spOFF

/-- The measurement of a frame. -/
def Dev.sppMeasure (s : Dev) : Bool × Dev :=
  let p := s.ce.spp
  if p.n = 0 then (false, s)
  else
    let f := if p.last ≤ p.ref then fZero else fOfRat ((p.n * 3200000000 : Nat) : Int) (p.last - p.ref)
    let lim := dec 200000 1
    let high := fLt lim f
    let s := s.setCe { s.ce with spp := { p with n := 0, ref := p.last, seen := true } }
    if !p.seen then (false, s)
    else (true, onlyIf high (·.raise Reg.CE_FLAG_PHI_F) (s.setReg Reg.CE_SPP_FREQ (if high then lim else f)))

/-- The tick: measurement, state and value. -/
def Dev.sppTick (s : Dev) : Dev :=
  let m := if s.isOn Reg.CE_SPP_CFG_EN then s.sppMeasure else (false, s)
  let s := m.2
  let f := s.reg Reg.CE_SPP_FREQ
  let v := s.reg Reg.CE_SPP_VAL
  let fb := s.sppFb
  let st := s.spst
  let recover := decide (2 ≤ s.ce.spp.since) && m.1
  let put := fun (st : Nat) (v : Word) (t : Dev) => (t.set Reg.CE_SPP_STAT_ST st).setReg Reg.CE_SPP_VAL v
  let toRecover := fun (t : Dev) =>
    let x := moveTo v f t.sppStep
    put (if x.1 then spTRACK else spRECOVER) x.2 t
  if st = spTRACK then put spTRACK f s
  else if st = spHOLD then if recover then toRecover s else put spHOLD f s
  else if st = spRAMP then
    if recover then toRecover s
    else
      let x := moveTo v fb s.sppStep
      put (if x.1 then spFALLBACK else spRAMP) x.2 s
  else if st = spFALLBACK then if recover then toRecover s else put spFALLBACK fb s
  else if st = spRECOVER then toRecover s
  else put spOFF fb s

/-! ### What a tick loads (R16, R129, R139) -/

/-- A parameter word in a descriptor replaced. -/
def setPar (b : List Byte) (j : Nat) (w : Word) : List Byte := patch b (128 + 4 * j) (wordBytes w)

/-- EN in a descriptor replaced. -/
def setEn (b : List Byte) (on : Bool) : List Byte := patch b 1 [BitVec.ofNat 8 (imgFlags b / 2 * 2 + b2n on)]

/-- A context at the tick. -/
def CtxSt.load (x : CtxSt) : CtxSt :=
  let x := match x.newImg with
    | none => x
    | some (b, keep, _) =>
      if keep && !x.img.isEmpty && imgLaw x.img == imgLaw b && imgOrder x.img == imgOrder b then { x with img := b, newImg := none, spInner := 0 }
      else { img := b, enNew := x.enNew, parNew := x.parNew, sp := x.sp, spNew := x.spNew, outs := x.outs }
  let x := match x.enNew with
    | none => x
    | some e => { x with img := setEn x.img e, enNew := none }
  let x := { x with img := x.parNew.foldl (fun b (q : Nat × Word × Nat × Nat) => setPar b q.1 q.2.1) x.img, parNew := [] }
  match x.spNew with
  | none => x
  | some v => { x with sp := v.1, spNew := none }

/-- A new descriptor without KEEP starts the states that lie outside the context at 0 (R139). -/
def Dev.freshLaw (s : Dev) (x : CtxSt) : Dev :=
  match x.newImg with
  | none => s
  | some (b, keep, _) =>
    if keep && imgLaw x.img == imgLaw b && imgOrder x.img == imgOrder b then s
    else
      match imgLaw b with
      | 0x07 => s.setCells { s.cells with cells := s.cells.cells.map (fun c => (c.1, { c.2 with integ := 0 })) }
      | 0x10 => s.setGrid s.grid.zeroed
      | 0x11 => s.setIsl {}
      | _ => s

/-- Reference groups that a new descriptor no longer writes hold 0 (R172). -/
def Dev.groupsLeft (s : Dev) (x : CtxSt) : Dev :=
  match x.newImg with
  | none => s
  | some (b, _) =>
    let new := imgTargets s.mmc b
    forEach ((imgTargets s.mmc x.img).filter (fun g => g.1 == 2 && !new.contains g)) (fun g t =>
      t.setEsp { t.esp with group := sset (fun _ => 0) t.esp.group g.2 0 }) s

/-- The outputs of a context at a tick go to CE_OUT; those of a frame with an overrun are discarded (R62). -/
def Dev.outsTick (s : Dev) (c : Nat) : Dev :=
  let x := s.ctx c
  if s.frm.discard then s.setCtx c { x with outs := (List.range 4).map (fun k => s.reg (Reg.CE_OUTc_k c k)) }
  else forEach (List.range 4) (fun k d => d.setReg (Reg.CE_OUTc_k c k) (x.outs.getD k 0)) s

/-- The reference groups at a tick: those that a frame with an overrun wrote are discarded (R62). -/
def Dev.groupTick (s : Dev) : Dev :=
  if s.frm.discard then s.setEsp { s.esp with group := s.esp.groupKept } else s

/-- The tick: outputs latched, then descriptors, enables, parameters, set-points and the spare table come into use. -/
def Dev.ceTick (s : Dev) : Dev :=
  let s := forEach ((s.ce.ctxs.filter (fun x => x.2.loaded)).map (·.1)) (fun c t => t.outsTick c) s.groupTick
  let s := forEach s.ce.ctxs (fun x t => ((t.freshLaw x.2).groupsLeft x.2).setCtx x.1 x.2.load) s
  let s := s.setEsp { s.esp with groupKept := s.esp.group }
  match s.ce.spare with
  | none => s
  | some (t, d) =>
    let tb := (List.range 1024).foldl (fun a i => sset (fun _ => 0) a (1024 * t + i) (wordAt d (4 * i))) s.ce.tables
    let s := s.setCe { s.ce with tables := tb, spare := none }
    (s.setB Reg.CE_TBLSTAT_PEND false).set Reg.CE_TBLSTAT_VALID (s.get Reg.CE_TBLSTAT_VALID ||| 2 ^ t)

/-- The sample image of the frame (R15, R73). The aggregates of a frame with an overrun are discarded (R62). -/
def Dev.sampleLatch (s : Dev) : Dev :=
  let ain := (List.range 48).filterMap (fun n => let x := s.ainSample (sget (fun _ => {}) s.ce.ain n) n; if x = {} then none else some (n, x))
  let jin := (List.range 8).filterMap (fun p => let x := s.injSample (sget (fun _ => {}) s.ce.jin p) p; if x = {} then none else some (p, x))
  let s := s.setCe { s.ce with ain := ain, jin := jin }
  let a := if s.frm.discard then s.cells.aggTick else s.cells.agg
  s.adcStale.setCells { s.cells with agg := a, aggTick := a }

/-! ### Opcodes 0x10–0x1E (R140) -/

/-- CSTAT of a context follows its descriptor. -/
def Dev.showCtx (s : Dev) (c : Nat) : Dev :=
  let x := s.ctx c
  let b := x.latest
  if b.isEmpty then s.setReg (Reg.CE_CSTATc c) 0
  else
    let en := match x.enNew with
      | some e => e
      | none => imgEn b
    let s := (s.setB (Reg.CE_CSTATc_LOADED c) true).setB (Reg.CE_CSTATc_EN c) en
    (s.set (Reg.CE_CSTATc_LAW c) (imgLaw b)).set (Reg.CE_CSTATc_COST c) (s.ctxCost b)

/-- The context may be removed or disabled only in CONFIG (R126, R140). -/
def Dev.pinned (s : Dev) (c : Nat) (pll : Bool) : Bool :=
  s.st != stCONFIG && (imgLaw (s.ctx c).latest == 0x07 && (s.ctx c).loaded || (pll && c == s.get Reg.ANG_CFG_PLLCTX))

/-- A capture on a context that no longer runs aborts. -/
def Dev.capFollow (s : Dev) (c : Nat) : Dev := onlyIf (s.ce.cap.armed && s.ce.cap.rctx == c) (·.capAbort) s

/-- A descriptor that waits for the tick; it replaces one that waits, with the enables and words written for it, when it arrived later, or on the same
clock from a lower queue (R16). -/
def Dev.loadWait (s : Dev) (c : Nat) (b : List Byte) (keep : Bool) (rank : Nat) : Dev :=
  let x := s.ctx c
  let t := s.host.arrived
  let later := match x.newImg with
    | none => true
    | some o => newer t rank o.2.2.1 o.2.2.2
  if later then s.setCtx c { x with newImg := some (b, keep, t, rank), enNew := none, parNew := [] } else s

/-- CE_CTX_LOAD. -/
def bodyCeCtxLoad (src : Src) (p : Packet) (s : Dev) : Ans :=
  let c := pB p 16
  withLoad s src 24 (pN p 24 8) 384 (fun s b =>
    match s.badImage c b with
    | some o => ansBad s sBAD_PARAM o
    | none =>
      -- a load must not remove or disable the cell sweep either (R126)
      if s.pinned c false && !(imgLaw b == 0x07 && imgEn b) then ansBad s sSTATE_CONFLICT 0x004
      else
        let t := s.loadWait c b (pB p 17 % 2 == 1) (srcRank src)
        whenAdmitted s t (fun t => ansRes (onlyIf (!imgEn b && (t.ctx c).latest == b) (·.capFollow c) (t.showCtx c)) (toLe (t.ctxCost b) 4)))

/-- CE_CTX_ENABLE: the new value is used from the next tick (R16). -/
def bodyCeCtxEnable (_src : Src) (p : Packet) (s : Dev) : Ans :=
  let c := pB p 16
  let on := pB p 17 % 2 == 1
  if !on && s.pinned c false then ansBad s sSTATE_CONFLICT 0x004
  else
    let s := (s.setCtx c { s.ctx c with enNew := some on }).showCtx c
    ansOk (onlyIf (!on) (·.capFollow c) s)

/-- CE_CTX_REMOVE: its groups hold 0 (R172), its generator stops and its capture aborts. -/
def bodyCeCtxRemove (_src : Src) (p : Packet) (s : Dev) : Ans :=
  let c := pB p 16
  if s.pinned c true then ansBad s sSTATE_CONFLICT 0x004
  else
    let x := s.ctx c
    let groups := (imgTargets s.mmc x.img ++ imgTargets s.mmc x.latest).filterMap (fun x => if x.1 = 2 then some x.2 else none)
    let s := forEach groups (fun g t => t.setEsp { t.esp with group := sset (fun _ => 0) t.esp.group g 0 }) s
    let s := forEach ((s.ce.inj.filter (fun x => x.2.active && x.2.ctx == c)).map (·.1)) (fun g t => t.injStop g) s
    let s := s.injIdle c
    let s := s.capFollow c
    ansOk ((s.setCtx c {}).showCtx c)

/-- CE_CTX_READ. -/
def bodyCeCtxRead (src : Src) (p : Packet) (s : Dev) : Ans := withStore s src 24 (pN p 24 8) (s.ctx (pB p 16)).latest ansOk

/-- CE_SP_SET: no part of a rejected packet takes effect (R131). -/
def bodyCeSpSet (src : Src) (p : Packet) (s : Dev) : Ans :=
  let n := pB p 16
  if n = 0 ∨ 8 < n then ansBad s sBAD_PARAM 16
  else
    let bad := ((List.range n).filter (fun i => imgSpSrc (s.ctx (pB p (24 + i))).latest != 1)).map (· + 24) ++
      ((List.range n).filter (fun i => !fFinite (pW p (32 + 4 * i)))).map (fun i => 32 + 4 * i)
    match lowestOf bad with
    | some o => ansBad s sBAD_PARAM o
    | none =>
      let t := s.host.arrived
      let rk := srcRank src
      ansOk (forEach (List.range n) (fun i d =>
        let c := pB p (24 + i)
        let x := d.ctx c
        let new := (pW p (32 + 4 * i), t, rk)
        let take_ := match x.spNew with
          | none => true
          | some o => newer t rk o.2.1 o.2.2
        if take_ then d.setCtx c { x with spNew := some new } else d) s)

/-- A parameter write waiting for the tick. -/
def parWrite (l : List (Nat × Word × Nat × Nat)) (j : Nat) (w : Word) (t rk : Nat) : List (Nat × Word × Nat × Nat) :=
  match l.find? (fun x => x.1 == j) with
  | some o =>
    if newer t rk o.2.2.1 o.2.2.2 then l.filter (fun x => x.1 != j) ++ [(j, w, t, rk)] else l
  | none => l ++ [(j, w, t, rk)]

/-- The words whose range another word of the cell sweep bounds (R148): PAR4 by PAR3, PAR17 by PAR16. -/
def parBounds (b : List Byte) (j : Nat) : List Nat := if imgLaw b = 0x07 then (if j = 3 then [4] else if j = 16 then [17] else []) else []

/-- CE_PARAM_SET: the words are checked with those that wait for the tick. -/
def bodyCeParamSet (src : Src) (p : Packet) (s : Dev) : Ans :=
  let c := pB p 16
  let first := pB p 17
  let n := pB p 18
  if 63 < first then ansBad s sBAD_PARAM 17
  else if n = 0 ∨ 8 < n ∨ 64 < first + n then ansBad s sBAD_PARAM 18
  else
    let x := s.ctx c
    let b := x.parNew.foldl (fun b (q : Nat × Word × Nat × Nat) => setPar b q.1 q.2.1) x.latest
    let b := (List.range n).foldl (fun b i => setPar b (first + i) (pW p (32 + 4 * i))) b
    let bad := ((List.range n).filter (fun i =>
      !fFinite (pW p (32 + 4 * i)) || ((first + i) :: parBounds b (first + i)).any (badPars b).contains)).map (fun i => 32 + 4 * i)
    match lowestOf bad with
    | some o => ansBad s sBAD_PARAM o
    | none =>
      let l := (List.range n).foldl (fun l i => parWrite l (first + i) (pW p (32 + 4 * i)) s.host.arrived (srcRank src)) x.parNew
      ansOk (s.setCtx c { x with parNew := l })

/-- CE_STATE_RESET. -/
def bodyCeStateReset (_src : Src) (p : Packet) (s : Dev) : Ans :=
  let c := pB p 16
  let x := s.ctx c
  let s := s.freshLaw { x with newImg := some (x.latest, false, 0, 0) }
  ansOk (s.setCtx c { s.ctx c with i := 0, dPrev := 0, yPrev := 0, fPrev := 0, theta := 0, xs := List.replicate 8 (0, 0) })

/-- CE_COST_QUERY: the image is counted on top of the schedule; a descriptor that is malformed in itself is refused. -/
def bodyCeCostQuery (src : Src) (p : Packet) (s : Dev) : Ans :=
  withLoad s src 24 (pN p 24 8) 384 (fun s b =>
    match lowestOf (badImageOwn s.mmc s.chbStorage (!s.cells.recs.isEmpty) b) with
    | some o => ansBad s sBAD_PARAM o
    | none =>
      let k := s.ctxCost b
      let c := s.ctrlSum + s.prepCost + k
      let f := if s.controlClk < c then c - s.controlClk else c + s.shedSum - s.computeClk
      ansRes s (toLe k 4 ++ toLe f 4))

/-- CE_TBL_LOAD: the table is used from the next frame. -/
def bodyCeTblLoad (src : Src) (p : Packet) (s : Dev) : Ans :=
  let t := pB p 16
  if 15 < t then ansBad s sBAD_PARAM 16
  else if s.ce.spare.isSome || s.soleTaken p then ansWant s src p 4096 sBUSY
  else
    withLoad s src 24 (pN p 24 8) 4096 (fun s d =>
      let s := s.setCe { s.ce with spare := some (t, d) }
      ansRes ((s.setB Reg.CE_TBLSTAT_PEND true).set Reg.CE_TBLSTAT_PTBL t) (toLe s.frm.tickNo 4))

/-- CE_TBL_READ. -/
def bodyCeTblRead (src : Src) (p : Packet) (s : Dev) : Ans :=
  let t := pB p 16
  if 15 < t then ansBad s sBAD_PARAM 16
  else withStore s src 24 (pN p 24 8) (((List.range 1024).map (fun i => wordBytes (s.tableAt t i))).flatten) ansOk

/-- abs(m × f) lies above 1 / (2 Ts) for a sample period of `tu` TU, exactly. -/
def aboveNyquist (tu m : Nat) (f : Word) : Bool :=
  let e := fSc f
  let n := fMant f * m * 2 * tu
  if 0 ≤ e then decide (3200000000 < n * 2 ^ e.toNat) else decide (3200000000 * 2 ^ (-e).toNat < n)

/-- Offsets of a generator block that are rejected, for a sample period in TU (R134). -/
def badInj (tu : Nat) (nout : Nat) (b : List Byte) : List Nat :=
  let w := igWave b
  badAt (!(w == 1 || w == 2 || w == 3)) 0 ++ badAt (decide (1 < igPoint b)) 1 ++
  badAt (decide (3 < igOut b) || (igPoint b == 1 && decide (nout ≤ igOut b))) 2 ++ badAt (byteAt b 3 != 0) 3 ++
  badAt (!fFinite (igAmp b)) 4 ++
  badAt (!fFinite (igFreq b) || (w == 1 && aboveNyquist tu 1 (igFreq b))) 8 ++
  badAt (w == 3 && (prbsTap (igPord b)).isNone) 12 ++ badAt (w == 3 && igPhold b == 0) 13 ++
  badAt (w == 2 && !(decide (1 ≤ igNtone b) && decide (igNtone b ≤ 16))) 14 ++ badAt (byteAt b 15 != 0) 15 ++
  ((List.range 12).filter (fun i => byteAt b (20 + i) != 0)).map (· + 20) ++
  (if w = 2 then
    ((List.range (min 16 (igNtone b))).map (fun j =>
      badAt (igM b j == 0 || aboveNyquist tu (igM b j) (igFreq b)) (32 + 8 * j) ++ badAt (!fFinite (igA b j)) (36 + 8 * j))).flatten
   else [])

/-- CE_INJ_START. -/
def bodyCeInjStart (src : Src) (p : Packet) (s : Dev) : Ans :=
  let g := pB p 16
  let c := pB p 17
  if 1 < g then ansBad s sBAD_PARAM 16
  else
    withLoad s src 24 (pN p 24 8) 160 (fun s b =>
      let img := (s.ctx c).latest
      match lowestOf (badInj (s.ctxTU img) (imgNout img) b) with
      | some o => ansBad s sBAD_PARAM o
      | none =>
        let other := sget (fun _ => {}) s.ce.inj (1 - g)
        let x : InjSt := { block := b, ctx := c, active := true, startAt := pExecAt p, lfsr := 2 ^ igPord b - 1 }
        let t := s.setCe { s.ce with inj := sset (fun _ => {}) s.ce.inj g x }
        let busy := (sget (fun _ => {}) s.ce.inj g).active || (other.active && other.ctx == c) || s.soleTaken p
        whenAdmitted s t (fun t =>
          if busy then ansBad s sBUSY 0
          else
            let t := (t.setB (Reg.CE_INJg_STAT_ACTIVE g) true).set (Reg.CE_INJg_STAT_CTX g) c
            ansOk (t.set (Reg.CE_INJg_STAT_RUNS g) 0)))

/-- CE_INJ_STOP. -/
def bodyCeInjStop (_src : Src) (p : Packet) (s : Dev) : Ans :=
  let g := pB p 16
  if 1 < g then ansBad s sBAD_PARAM 16 else ansOk (s.injStop g)

/-- A channel word is legal (R137). -/
def chanOk (w : Word) : Bool :=
  let kind := bits w 31 28
  let ctx := bits w 13 8
  let k := bits w 2 0
  match kind with
  | 6 => selOk (bits w 27 0)
  | 1 => bits w 27 14 == 0 && bits w 7 0 == 0 && ctx != 0
  | 2 => bits w 27 14 == 0 && bits w 7 0 == 0 && ctx != 0
  | 3 => bits w 27 14 == 0 && bits w 7 3 == 0 && ctx != 0 && decide (k < 4)
  | 4 => bits w 27 14 == 0 && bits w 7 3 == 0 && ctx != 0
  | 5 => bits w 27 8 == 0 && bits w 7 3 == 0 && decide (k < 2)
  | _ => false

/-- CE_CAP_ARM. -/
def bodyCeCapArm (_src : Src) (p : Packet) (s : Dev) : Ans :=
  let n := pB p 16
  let trig := pB p 18
  let gen := pB p 19
  let records := pN p 20 4
  let pre := pN p 24 4
  let bad := badAt (n == 0 || decide (8 < n)) 16 ++ badAt (decide (2 < trig)) 18 ++ badAt (decide (1 < gen)) 19 ++
    badAt (records == 0 || decide (65536 < n * records)) 20 ++ badAt (trig == 2 && decide (records < pre)) 24 ++
    ((List.range (min 8 n)).filter (fun i => !chanOk (pW p (32 + 4 * i)))).map (fun i => 32 + 4 * i)
  match lowestOf bad with
  | some o => ansBad s sBAD_PARAM o
  | none =>
    let cap : CapSt := { armed := true, chans := (List.range n).map (fun i => pW p (32 + 4 * i)), rctx := pB p 17, trig := trig,
                         gen := gen, records := records, pre := pre }
    let t := s.setCe { s.ce with cap := cap }
    let t := { t with snp := { t.snp with capTrig := none } }
    whenAdmitted s t (fun t =>
      if s.ce.cap.armed || s.soleTaken p then ansBad s sBUSY 0 else ansOk ((t.showCap cap false).setB Reg.CE_CAP_STAT_ABORT false))

/-- The header of a capture (R138). -/
def Dev.capHeader (s : Dev) : List Byte :=
  let c := s.ce.cap
  toLe c.firstStamp 8 ++ toLe c.firstFrame 4 ++ toLe (c.div * c.period) 4 ++ toLe c.chans.length 2 ++
    [BitVec.ofNat 8 (b2n c.freerun + 2 * b2n c.unsync + 4 * b2n c.short), 0] ++ toLe c.mem.length 4 ++ toLe c.trigIdx 4 ++ zeros 4

/-- CE_CAP_READ. -/
def bodyCeCapRead (src : Src) (p : Packet) (s : Dev) : Ans :=
  let first := pN p 16 4
  let count := pN p 20 4
  if !s.isOn Reg.CE_CAP_STAT_DONE then ansWant s src p 0 sNOT_READY
  else if s.ce.cap.mem.length < first then ansBad s sBAD_PARAM 16
  else if s.ce.cap.mem.length < first + count then ansBad s sBAD_PARAM 20
  else
    let recs := (s.ce.cap.mem.drop first).take count
    withStore s src 24 (pN p 24 8) (s.capHeader ++ (recs.flatten.map wordBytes).flatten) ansOk

/-- CE_CAP_ABORT. -/
def bodyCeCapAbort (_src : Src) (_p : Packet) (s : Dev) : Ans := ansOk s.capAbort

/-- CELL_MAP_LOAD, under admission: a map may raise the cost of the sweep or of a sheddable item (R57, R116). -/
def bodyCellMapLoad (src : Src) (p : Packet) (s : Dev) : Ans :=
  withLoad s src 24 (pN p 24 8) 16448 (fun s m =>
    match badMap m s.servedPos with
    | some o => ansBad s sBAD_PARAM o
    | none => whenAdmitted s (s.newMap m) (fun t =>
        ansOk (forEach (t.loadedCtxs.filter (fun x => imgLaw x.2 == 0x07)) (fun x d => d.showCtx x.1) t)))

/-- MTR_CFG_LOAD, under admission: a block may add the harmonic item or raise its cost (R57). -/
def bodyMtrCfgLoad (src : Src) (p : Packet) (s : Dev) : Ans :=
  withLoad s src 24 (pN p 24 8) 128 (fun s c =>
    match lowestOf (badMtr c) with
    | some o => ansBad s sBAD_PARAM o
    | none => whenAdmitted s (s.mtrUse c) (fun _ => ansLater (s.cfgAsk src p c)))

end Sys2Proof.Machine
end

