-- ==== Sys2Proof/Machine/SafetyChan.lean ====
section
/-! DEFINITION. The safety functions, Hedgerow and their diagnostics (R298–R310), the path test (R313) and the faults that reach
the matrix from outside. -/

namespace Sys2Proof.Machine

/-! ### The configuration block (R308, R309) -/

def scEn (b : List Byte) (i : Nat) : Bool := byteAt b i % 2 == 1
def scAnti (b : List Byte) (i : Nat) : Bool := byteAt b i / 2 % 2 == 1
/-- Discrepancy time of function i, ms. -/
def scDisc (b : List Byte) (i : Nat) : Nat := leAt b (8 + 2 * i) 2
def scMask (b : List Byte) (i : Nat) : Nat := byteAt b (24 + i) % 16
/-- Discharge dwell, s. -/
def scTdis (b : List Byte) : Nat := leAt b 36 2
def scLock (b : List Byte) : Nat := byteAt b 38

/-- Number of bits set in the low four. -/
def popc4 (m : Nat) : Nat := m % 2 + m / 2 % 2 + m / 4 % 2 + m / 8 % 2

/-- Offsets of the failing bytes of a block (R309). -/
def safBad (b : List Byte) : List Nat :=
  let f := fun i => decide (3 < byteAt b i) || (decide (i < 2) && !scEn b i)
  let d := fun i => decide (scDisc b i < 10) || decide (500 < scDisc b i)
  let lockIn := fun i => decide (scLock b < 4) && scMask b i / 2 ^ scLock b % 2 == 1
  let firstLock := (List.range 8).find? lockIn
  let a := fun i => decide (31 < byteAt b (24 + i)) || (decide (i < 2) && decide (popc4 (scMask b i) < 2)) || firstLock == some i
  (List.range 8).filter f ++ ((List.range 8).filter d).map (fun i => 8 + 2 * i) ++
    ((List.range 8).filter a).map (fun i => i + 24) ++
    ((List.range 4).filter (fun k => byteAt b (32 + k) == 0 || decide (100 < byteAt b (32 + k)))).map (fun k => k + 32) ++
    (if scTdis b = 0 ∨ 3600 < scTdis b then [36] else []) ++
    (if 3 < scLock b ∧ scLock b ≠ 0xFF then [38] else []) ++
    (if (List.range 21).any (fun i => byteAt b (39 + i) != 0) then [39] else []) ++
    (if leAt b 60 4 = crc32 (b.take 60) then [] else [60])

/-! ### Reading the contacts (R299) -/

/-- Filtered contacts of function i: A and B. -/
def Dev.sinA (s : Dev) (i : Nat) : Bool := bit (s.reg Reg.SAF_SIN) (2 * i)
def Dev.sinB (s : Dev) (i : Nat) : Bool := bit (s.reg Reg.SAF_SIN) (2 * i + 1)

/-- What a pair reads under a block: 0 RUN, 1 DEMAND, 2 half state. -/
def Dev.pairReads (s : Dev) (b : List Byte) (i : Nat) : Nat :=
  match s.sinA i, s.sinB i, scAnti b i with
  | true, true, false => 0
  | false, false, false => 1
  | true, false, true => 0
  | false, true, true => 1
  | _, _, _ => 2

/-- A configuration is confirmed. -/
def Dev.cfgValid (s : Dev) : Bool := s.isOn Reg.SAF_STAT_CFGVALID

/-- Function i is evaluated: confirmed and enabled. -/
def Dev.safOn (s : Dev) (i : Nat) : Bool := s.cfgValid && scEn s.saf.confirmed i

/-- The energised states of R302. -/
def sf2States : List Nat := [stPRECHARGE, stSYNC, stRUN, stRIDETHROUGH, stHOLD, stORPHAN]

/-- SF2 counts as RUN for R302 and R370: disabled, or its pair reads RUN. -/
def Dev.sf2InRun (s : Dev) : Bool :=
  s.cfgValid && (!scEn s.saf.confirmed 2 || s.pairReads s.saf.confirmed 2 == 0)

/-- Function i counts as reading RUN for a release (R299, R305). -/
def Dev.countsRun (s : Dev) (i : Nat) : Bool :=
  !scEn s.saf.confirmed i || s.pairReads s.saf.confirmed i == 0 ||
    (i == 2 && !s.stIn sf2States && s.pairReads s.saf.confirmed 2 == 1)

/-! ### Latching (R301, R306) -/

/-- Contactor commands taken away. -/
def Dev.ctoOff (s : Dev) (mask : Nat) : Dev :=
  s.set Reg.SAF_STAT_CTOCMD (s.get Reg.SAF_STAT_CTOCMD &&& (15 - mask % 16))

/-- Function i latches, with a fault code or 0 for a demand: source 0x2A, its contactors, the log record. -/
def Dev.safLatch (s : Dev) (i code : Nat) : Dev :=
  let was := s.get Reg.SAF_STAT_DEMAND / 2 ^ i % 2 == 1
  let s := s.set ⟨0x4400, i, i⟩ 1
  let s := onlyIf (code != 0) (·.set ⟨0x4400, 8 + i, 8 + i⟩ 1) s
  let s := s.ctoOff (scMask s.saf.confirmed i)
  let s := onlyIf (!was || code != 0) (·.logNow 11 1 (i + 256 * code)) s
  onlyIf (!was) (·.event Reg.HIF_EVT_SAFETY) s

/-- The last fault is reported (R315): FUNC is the function where there is one, 0xF for all or none, and a free value where some but
not all are concerned (log entry 27). -/
def Dev.safFault (s : Dev) (fns : List Nat) (code : Nat) : Dev :=
  let x := match fns with
    | [] => (0xF, s)
    | [i] => (i, s)
    | _ => if fns.length = 8 then (0xF, s) else let f := s.free; (f.1.toNat % 16, f.2)
  ((x.2.set Reg.SAF_FAULT_FUNC x.1).set Reg.SAF_FAULT_CODE code).setPair Reg.SAF_FSTAMP_LO Reg.SAF_FSTAMP_HI (x.2.stamp 0)

/-- A disabled function: from the confirm on it raises no fault and never latches again (R299). -/
def Dev.safDisabled (s : Dev) (i : Nat) : Bool := s.cfgValid && !scEn s.saf.confirmed i

/-- Functions latched by a fault of the processor channel; a disabled one is passed over (R299). -/
def Dev.safFaultLatch (s : Dev) (fns : List Nat) (code : Nat) : Dev :=
  forEach (fns.filter (fun i => !s.safDisabled i)) (fun i t => t.safLatch i code) (s.safFault fns code)

/-- Hedgerow latches functions of the mask (SF0 bit 0, SF1 bit 1); `fault`: by a fault of its own or of both channels. -/
def Dev.hedgeLatch (s : Dev) (mask : Nat) (fault : Bool) : Dev :=
  let s := s.set Reg.SAF_HEDGE_DEM (s.get Reg.SAF_HEDGE_DEM ||| mask)
  if fault then { s with saf := { s.saf with hfault := s.saf.hfault ||| mask } } else s

/-- A new discrepancy fault of function i (R300), in both channels where Hedgerow watches it. -/
def Dev.discFault (s : Dev) (i : Nat) : Dev :=
  let s := (s.raise Reg.SAF_FLAG_DISC_F).safFaultLatch [i] 1
  onlyIf (decide (i < 2)) (fun t => t.hedgeLatch (2 ^ i) true) s

/-! ### Contacts change (R299, R300, R306) -/

/-- Whether function i is in a half state, with its start and whether it came from DEMAND. -/
def Dev.halfOf (s : Dev) (i : Nat) : Option (Nat × Bool) := (s.saf.half.find? (fun x => x.1 == i)).map (fun x => x.2)

/-- The half-state record after function i went from reading `old` to reading its present value. -/
def Dev.pairMoved (s : Dev) (i old : Nat) : Dev :=
  let now := s.pairReads s.saf.confirmed i
  match s.halfOf i with
  | none =>
    if now = 2 then { s with saf := { s.saf with half := s.saf.half ++ [(i, s.time, old == 1)] } } else s
  | some (t0, fromDemand) =>
    if now = 2 then s
    else
      let late := decide (scDisc s.saf.confirmed i * 3200000 < s.time - t0)
      let again := s.saf.discRaised.contains i
      let s := { s with saf := { s.saf with half := s.saf.half.filter (fun x => x.1 != i),
                                            discRaised := s.saf.discRaised.filter (· != i) } }
      if now = 0 && fromDemand && late && !again then s.discFault i else s

/-- A filtered contact takes a new level. Hedgerow evaluates SF0 and SF1 at once; the processor channel at its next evaluation. -/
def Dev.contact (s : Dev) (i : Nat) (b level : Bool) : Dev :=
  if 8 ≤ i then s
  else
    let old := s.pairReads s.saf.confirmed i
    let s := s.setB ⟨0x4404, 2 * i + b2n b, 2 * i + b2n b⟩ level
    let s := onlyIf (s.safOn i) (·.pairMoved i old) s
    let hedged := decide (i < 2) && !s.saf.hedge.isEmpty
    if hedged && s.pairReads s.saf.hedge i != 0 then s.hedgeLatch (2 ^ i) false else s

/-- A half state has lasted beyond DISCi (R300). -/
def Dev.discTimeout (s : Dev) (i : Nat) : Dev :=
  if s.safOn i && (s.halfOf i).isSome && !s.saf.discRaised.contains i then
    { s.discFault i with saf := { (s.discFault i).saf with discRaised := s.saf.discRaised ++ [i] } }
  else s

/-! ### Evaluation by the processor channel (R307) -/

/-- Function i is in demand: its pair is not in RUN; SF2 only in the energised states (R301, R302). -/
def Dev.inDemand (s : Dev) (i : Nat) : Bool :=
  s.safOn i && s.pairReads s.saf.confirmed i != 0 && (i != 2 || s.stIn sf2States)

/-- One evaluation, every 0.5 ms: the feedback levels and the SRESET level are read, functions in demand latch, the heartbeat goes
to Hedgerow. -/
def Dev.safEvaluate (s : Dev) (ctf : Nat) (sreset : Bool) : Dev :=
  let s := (s.set Reg.SAF_STAT_CTF ctf).setB Reg.SAF_STAT_SRST sreset
  let s := (s.raise Reg.SAF_HEDGE_HBOK).setB Reg.SAF_HEDGE_OSCOK (s.saf.bad / 2 ^ 7 % 2 == 0)
  let s := { s with saf := { s.saf with
    srStuck := s.saf.srStuck && sreset,
    ctfRaised := (List.range 4).foldl (fun m k =>
      if s.get Reg.SAF_STAT_CTF / 2 ^ k % 2 + s.get Reg.SAF_STAT_CTOCMD / 2 ^ k % 2 = 1 then clearBit m k else m) s.saf.ctfRaised } }
  forEach (List.range 8) (fun i t =>
    onlyIf (t.inDemand i && t.get Reg.SAF_STAT_DEMAND / 2 ^ i % 2 == 0) (·.safLatch i 0) t) s

/-! ### Contactors (R304) -/

/-- CTFk agrees with the command of CTOk: low while commanded on, high while off. -/
def Dev.ctfAgrees (s : Dev) (k : Nat) : Bool :=
  s.get Reg.SAF_STAT_CTF / 2 ^ k % 2 != s.get Reg.SAF_STAT_CTOCMD / 2 ^ k % 2

/-- A contactor fault on CTOk, once per episode of disagreement. -/
def Dev.ctoFault (s : Dev) (k : Nat) : Dev :=
  if 4 ≤ k || s.ctfAgrees k || s.saf.ctfRaised / 2 ^ k % 2 == 1 then s
  else
    let s := { s with saf := { s.saf with ctfRaised := s.saf.ctfRaised + 2 ^ k } }
    let fns := (List.range 8).filter (fun i => scMask s.saf.confirmed i / 2 ^ k % 2 == 1 && !s.safDisabled i)
    (((s.raise Reg.SAF_FLAG_CTF_F).safFaultLatch fns 2).ctoOff (2 ^ k))

/-- Hedgerow’s permit for CTOk (R306). -/
def Dev.hedgePermits (s : Dev) (k : Nat) : Bool :=
  !s.saf.hedge.isEmpty &&
  !((List.range 2).any (fun i => s.get Reg.SAF_HEDGE_DEM / 2 ^ i % 2 == 1 && scMask s.saf.hedge i / 2 ^ k % 2 == 1)) &&
  (scLock s.saf.confirmed != k || s.isOn Reg.SAF_HEDGE_LOCKPERM)

/-- A latched function masks CTOk. -/
def Dev.maskedOff (s : Dev) (k : Nat) : Bool :=
  !s.cfgValid ||
    (List.range 8).any (fun i => s.get Reg.SAF_STAT_DEMAND / 2 ^ i % 2 == 1 && scMask s.saf.confirmed i / 2 ^ k % 2 == 1)

/-- Why CTOk may not be newly energised. -/
def Dev.ctoRefused (s : Dev) (k : Nat) : Bool :=
  !s.cfgValid || s.get Reg.SAF_STAT_CTF / 2 ^ k % 2 == 0 || s.maskedOff k || !s.hedgePermits k

/-- SAF_CTO_SET (R304). -/
def bodyCtoSet (_src : Src) (p : Packet) (s : Dev) : Ans :=
  let mask := pB p 16 % 16
  let en := pB p 17 % 16
  let cmd := s.get Reg.SAF_STAT_CTOCMD
  let s1 := s.ctoOff (mask &&& (15 - en))
  let new := (List.range 4).filter (fun k => mask / 2 ^ k % 2 == 1 && en / 2 ^ k % 2 == 1 && cmd / 2 ^ k % 2 == 0)
  match new.find? s.ctoRefused with
  | some k => (s1, some { status := sSAFETY_LOCK, detail := k })
  | none => ansOk (s1.set Reg.SAF_STAT_CTOCMD (s1.get Reg.SAF_STAT_CTOCMD ||| (mask &&& en)))

/-! ### The access permit (R303) -/

/-- The four conditions of R303 that fail, as a bit mask. -/
def Dev.accessFails (s : Dev) : Nat :=
  let b := s.saf.confirmed
  let dwell := s.saf.modTick == 0 || decide (s.saf.modTick - 1 + scTdis b * 3200000000 ≤ s.time)
  let c0 := s.stIn [stREADY, stBLOCKED, stTRIPPED] && dwell
  let c1 := s.safOn 2 && s.pairReads b 2 == 1
  let c2 := (List.range 4).all (fun k => scMask b 1 / 2 ^ k % 2 == 0 ||
    (s.get Reg.SAF_STAT_CTOCMD / 2 ^ k % 2 == 0 && s.get Reg.SAF_STAT_CTF / 2 ^ k % 2 == 1))
  let c3 := s.isOn Reg.SAF_HEDGE_LOCKPERM
  b2n (!c0) + 2 * b2n (!c1) + 4 * b2n (!c2) + 8 * b2n (!c3)

/-- The permit ends and LOCKCTO goes off. -/
def Dev.accessEnd (s : Dev) : Dev :=
  let s := s.set Reg.SAF_STAT_ACCESS 0
  onlyIf (decide (scLock s.saf.confirmed < 4)) (fun t => t.ctoOff (2 ^ scLock t.saf.confirmed)) s

/-- SAF_ACCESS. -/
def bodyAccess (_src : Src) (p : Packet) (s : Dev) : Ans :=
  if pB p 16 % 2 = 0 then ansOk (onlyIf (s.isOn Reg.SAF_STAT_ACCESS) (·.accessEnd) s)
  else if s.accessFails ≠ 0 then ansBad s sSAFETY_LOCK s.accessFails
  else
    let s := s.raise Reg.SAF_STAT_ACCESS
    ansOk (onlyIf (decide (scLock s.saf.confirmed < 4)) (fun t => t.raise ⟨0x4400, 20 + scLock t.saf.confirmed, 20 + scLock t.saf.confirmed⟩) s)

/-! ### Resets (R305) -/

/-- The latch of function i may be released by the processor channel; that of a disabled function always is (R299). A fault holds the latch in each
channel in which it latches the function (R305, R310; DEDUCED, log entry 27): codes 5, 6 and 8 every function here, codes 3 and 4 SF0 and SF1. -/
def Dev.releasable (s : Dev) (i : Nat) : Bool :=
  let common := s.saf.bad / 2 ^ 5 % 4 + s.saf.bad / 2 ^ 8 % 2
  let views := s.saf.bad / 2 ^ 3 % 4
  s.safDisabled i || (s.countsRun i && (s.halfOf i).isNone && common == 0 && (decide (2 ≤ i) || views == 0) &&
    (List.range 4).all (fun k => scMask s.saf.confirmed i / 2 ^ k % 2 == 0 || s.ctfAgrees k))

/-- A reset accepted by the processor channel. -/
def Dev.safReset (s : Dev) : Dev :=
  if s.cfgValid then
    forEach (List.range 8) (fun i t =>
      onlyIf (t.releasable i) (fun u => (u.set ⟨0x4400, i, i⟩ 0).set ⟨0x4400, 8 + i, 8 + i⟩ 0) t) s
  else s

/-- A reset accepted by Hedgerow: its latches whose pair reads RUN, with none of the faults present that latch SF0 and SF1 in Hedgerow: codes 3, 4, 6,
7 and 8 of R310. A function’s fault goes with its latch. -/
def Dev.hedgeReset (s : Dev) : Dev :=
  let well := s.isOn Reg.SAF_HEDGE_OSCOK && s.isOn Reg.SAF_HEDGE_HBOK && s.saf.bad / 2 ^ 3 % 4 == 0 && s.saf.bad / 2 ^ 6 % 8 == 0
  if s.saf.hedge.isEmpty || !well then s
  else
    let ok := fun i => s.pairReads s.saf.hedge i == 0 && (s.halfOf i).isNone
    let dem := b2n (!ok 0 && bit (s.reg Reg.SAF_HEDGE) 0) + 2 * b2n (!ok 1 && bit (s.reg Reg.SAF_HEDGE) 1)
    { s.set Reg.SAF_HEDGE_DEM dem with saf := { s.saf with hfault := s.saf.hfault &&& dem } }

/-- SRESET falls after a high level of `held` TU. Hedgerow measures the press on its own oscillator: within 20 % of a limit its
verdict is the physical observation `hedge`. -/
def Dev.sresetFall (s : Dev) (held : Nat) (hedge : Bool) : Dev :=
  let stuck := s.saf.srStuck
  let s := { s.set Reg.SAF_STAT_SRST 0 with saf := { s.saf with srStuck := false } }
  let proc := !stuck && decide (msTU 50 ≤ held) && decide (held ≤ msTU 5000)
  let sure := decide (msTU 60 ≤ held) && decide (held ≤ msTU 4000)
  let never := decide (held < msTU 40) || decide (msTU 6000 < held)
  let s := onlyIf proc (·.safReset) s
  onlyIf (sure || (!never && hedge)) (·.hedgeReset) s

/-- SRESET has been high for more than 5 s. -/
def Dev.sresetStuck (s : Dev) : Dev :=
  { (s.raise Reg.SAF_FLAG_SRSTUCK_F).raise Reg.SAF_STAT_SRST with saf := { s.saf with srStuck := true } }

/-! ### Hedgerow and diagnostics (R306, R310) -/

/-- The heartbeat has been missing for 5 ms. -/
def Dev.hedgeHeartbeatLost (s : Dev) : Dev :=
  ((s.set Reg.SAF_HEDGE_HBOK 0).safFault [0, 1] 7).hedgeLatch 3 true

/-- The oscillator has left ±30 %. -/
def Dev.hedgeOscBad (s : Dev) : Dev :=
  let s := ((s.set Reg.SAF_HEDGE_OSCOK 0).safFault [0, 1] 7).hedgeLatch 3 true
  { s with saf := { s.saf with bad := s.saf.bad ||| 2 ^ 7 } }

/-- Diagnostic `code` of R310 runs; `failed` is what it finds. A failure acts when it first shows. -/
def Dev.safDiag (s : Dev) (code : Nat) (failed : Bool) : Dev :=
  let was := s.saf.bad / 2 ^ code % 2 == 1
  if code < 3 || 8 < code then s
  else if !failed then
    let s := { s with saf := { s.saf with bad := clearBit s.saf.bad code } }
    onlyIf (code == 7) (·.raise Reg.SAF_HEDGE_OSCOK) s
  else if was then s
  else
    let s := { s with saf := { s.saf with bad := s.saf.bad ||| 2 ^ code } }
    if code = 7 then s.hedgeOscBad
    else if code < 5 then ((s.raise Reg.SAF_FLAG_HDIS_F).safFaultLatch [0, 1] code).hedgeLatch 3 true
    else if code = 5 then (s.raise Reg.SAF_FLAG_SELFT_F).safFaultLatch (List.range 8) 5
    else (s.safFaultLatch (List.range 8) code).hedgeLatch 3 true

/-! ### Configuration commands (R308, R309, R313) -/

/-- SAF_CONFIG_LOAD. -/
def bodySafLoad (src : Src) (p : Packet) (s : Dev) : Ans :=
  withLoad s src 24 (pN p 24 8) 64 (fun s b =>
    match (safBad b).foldl (fun m x => match m with | none => some x | some y => some (min x y)) none with
    | some off => ansBad s sBAD_PARAM off
    | none =>
      let crc := leAt b 60 4
      let s := { s with saf := { s.saf with loaded := b } }
      ansRes (s.setReg Reg.SAF_PEND (BitVec.ofNat 32 crc)) (toLe crc 4))

/-- SAF_CONFIG_CONFIRM: the block takes effect and Hedgerow latches its copy, under which it evaluates its pairs at once (R306). A latched function
stays latched until a reset. -/
def bodySafConfirm (_src : Src) (p : Packet) (s : Dev) : Ans :=
  if s.saf.loaded.isEmpty || leAt s.saf.loaded 60 4 != pN p 16 4 then
    (s.raise Reg.SAF_FLAG_CFGERR_F, some { status := sBAD_PARAM, detail := 16 })
  else
    let b := s.saf.loaded
    let s := { s with saf := { s.saf with confirmed := b, hedge := b, loaded := [], discRaised := [],
                                          half := ((List.range 8).filter (fun i => scEn b i && s.pairReads b i == 2)).map
                                            (fun i => (i, s.time, false)) } }
    let s := (s.raise Reg.SAF_STAT_CFGVALID).setReg Reg.SAF_CRC (BitVec.ofNat 32 (leAt b 60 4))
    let left := (List.range 2).filter (fun i => s.pairReads b i != 0)
    ansOk ((forEach left (fun i t => t.hedgeLatch (2 ^ i) false) s).setReg Reg.SAF_PEND 0#32)

/-- SAF_CONFIG_READ. -/
def bodySafRead (src : Src) (p : Packet) (s : Dev) : Ans :=
  let waits := !s.saf.loaded.isEmpty
  let b := if waits then s.saf.loaded else s.saf.confirmed
  if b.isEmpty then ansWant s src p 64 sNOT_READY
  else withStore s src 24 (pN p 24 8) b (fun s => ansRes s [BitVec.ofNat 8 (b2n waits)])

/-! ### What follows from the safety state on every core clock -/

/-- Hedgerow's outputs, the contactor commands that may stay, the access permit, and the pins read back. -/
def Dev.safDerive (s : Dev) : Dev :=
  let dem := s.get Reg.SAF_HEDGE_DEM
  let well := s.isOn Reg.SAF_HEDGE_OSCOK && s.isOn Reg.SAF_HEDGE_HBOK && s.saf.hfault == 0
  let lock := !s.saf.hedge.isEmpty && scEn s.saf.hedge 2 && s.pairReads s.saf.hedge 2 == 1 && well
  let s := (s.setB Reg.SAF_HEDGE_LOOP (dem != 0)).setB Reg.SAF_HEDGE_LOCKPERM lock
  let s := (s.setB Reg.PRT_STAT_HLOOP (dem != 0)).setB Reg.SAF_STAT_HOK well
  let s := onlyIf (s.isOn Reg.SAF_STAT_ACCESS && s.accessFails != 0) (·.accessEnd) s
  let off := (List.range 4).filter (fun k => s.maskedOff k || !s.hedgePermits k)
  let s := forEach off (fun k t => t.ctoOff (2 ^ k)) s
  s.set Reg.SAF_STAT_CTOOUT (s.get Reg.SAF_STAT_CTOCMD)

/-! ### Other sources of the matrix -/

/-- A level on FLTn: held for 10 ns it is a source of the matrix (R286) and reaches the channels that select it through the
asynchronous path (R197). -/
def Dev.fltIn (s : Dev) (n : Nat) (high : Bool) (tdc : Nat) : Dev :=
  if 4 ≤ n then s
  else
    let s := { s with prt := { s.prt with fltPin := if high then s.prt.fltPin ||| 2 ^ n else clearBit s.prt.fltPin n } }
    if high then
      let s := forEach (List.range 12) (fun c t =>
        onlyIf (t.get (Reg.MOD_HBn_CFG_FLTSEL c) / 2 ^ n % 2 == 1)
          (fun u => u.hbFault (u.stamp tdc) c) t) s
      s.latch (s.stamp tdc) [0x18 + n]
    else s

/-- Control-plane watchdog, internal checks or start-up: source 0x2C (R286). -/
def Dev.firmwareTrip (s : Dev) : Dev := s.latch (s.stamp 0) [0x2C]

/-- The junction has been above 130 °C for 1 ms (R463). -/
def Dev.overTemp (s : Dev) : Dev :=
  let s := s.latch (s.stamp 0) [0x2C]
  s.vaultLog 11 (s.get Reg.PWR_TJ_TJ)

/-- A debug halt or a clock stop (R200): the local channels are safe, the cells block, source 0x24. The BLOCK goes out on every halt event (R247),
also with the latch of 0x24 still set from an earlier one. -/
def Dev.debugHalt (s : Dev) (stop : Bool) : Dev :=
  let s := { s.raise Reg.MOD_FLAG_HALT_F with prt := { s.prt with halted := true } }
  if s.isOn (latF 0x24) then s.thkAll (blockBlock (if stop then 4 else 3)) else s.latch (s.stamp 0) [0x24] stop

/-! ### PRT_PATH_TEST (R313) -/

/-- Loop blanking time, µs. -/
def Dev.lblank (s : Dev) : Nat := max 1 (s.get Reg.PRT_CFG_LBLANK)

/-- The pins of channel n, read back, are not safe (R197, R313): ENABLE is high, and not with PULSE low under SAFE 1. With ENABLE low both
switches are off, which is safe under either setting (DEDUCED, log entry 27). -/
def Dev.pinsUnsafe (s : Dev) (n : Nat) : Bool :=
  let pins := s.hbPins (s.get Reg.SAF_HEDGE_DEM != 0)
  pins.2 / 2 ^ n % 2 == 1 && (pins.1 / 2 ^ n % 2 == 1 || s.get (Reg.MOD_HBn_CFG_SAFE n) != 1)

/-- PRT_PATH_TEST: source 0x2E, and the channels’ pins read back; without LOOP the reply follows at once. -/
def bodyPathTest (src : Src) (p : Packet) (s : Dev) : Ans :=
  let s := s.latch (s.stamp 0) [0x2E]
  let s := onlyIf ((List.range 12).any s.pinsUnsafe) (·.raise Reg.PRT_FLAG_TESTFAIL_F) s
  if pB p 16 % 2 = 0 then ansRes s (toLe 0xFFFFFFFF 4 ++ toLe 0xFFFFFFFF 4)
  else ansLater { s with prt := { s.prt with path := some (src, p, s.time, [none, none]) } }

/-- The path test ends once both loops have returned or LBLANK has passed; answers its reply. -/
def Dev.pathEnd (s : Dev) : Dev × Option (Src × Packet × Reply) :=
  match s.prt.path with
  | none => (s, none)
  | some (src, p, t0, l) =>
    let limit := s.lblank * 3200
    if l.all Option.isSome || decide (t0 + limit ≤ s.time) then
      let within := fun (o : Option Nat) => match o with | some t => decide (t ≤ limit) | none => false
      let ns := fun (o : Option Nat) => match o with | some t => if t ≤ limit then toLe (t * 10 / 32) 4 else toLe 0xFFFFFFFF 4
                                                     | none => toLe 0xFFFFFFFF 4
      let s := onlyIf (!l.all within) (·.raise Reg.PRT_FLAG_TESTFAIL_F) s
      ({ s with prt := { s.prt with path := none } },
        some (src, p, { status := sOK, result := ns (l.getD 0 none) ++ ns (l.getD 1 none) }))
    else (s, none)

end Sys2Proof.Machine
end

