-- ==== Sys2Proof/Machine/Vault.lean ====
section
/-! DEFINITION. The power arbiter (R416–R422), the vault (R423–R430) and the FRAM energy gate (R434–R436). -/

namespace Sys2Proof.Machine

/-! ### Costs (R417, R418) -/

/-- Temperature and static leakage points of R418, in 1/16 °C and mW. -/
def staticPts : List (Int × Int) := [(-640, 350), (400, 700), (1360, 1450), (1680, 1950), (2000, 2600)]

/-- Linear interpolation between the points, rounded up; the end values beyond either end. -/
def staticAt (tj : Int) : List (Int × Int) → Int
  | (t0, p0) :: (t1, p1) :: rest =>
    if tj ≤ t0 then p0
    else if tj ≤ t1 then p0 + ((p1 - p0) * (tj - t0) + (t1 - t0) - 1) / (t1 - t0)
    else staticAt tj ((t1, p1) :: rest)
  | [(_, p)] => p
  | [] => 0

/-- Static leakage at a junction temperature, mW. -/
def staticMW (tj : Int) : Nat := (staticAt tj staticPts).toNat

/-- Core clocks per frame. -/
def Dev.clkN (s : Dev) : Nat := periodClk (s.get Reg.FRM_CFG_RATE)

/-- Supply current of a comparator mode, nA (R85). -/
def cmpNA (mode : Nat) : Nat := match mode with | 0 => 1200000 | 1 => 80000 | 2 => 2000 | _ => 60

/-- Running converters charged as fixed: both of a pair that converts, only converter A of an INTERLEAVE pair. -/
def Dev.fixedConverters (s : Dev) : Nat :=
  if s.isOn Reg.ADC_CTL_EN then
    ((List.range 8).map (fun p => if s.pairMode p = 1 then 1 else if s.pairMode p = 2 ∨ s.pairMask p ≠ 0 then 2 else 0)).foldl (· + ·) 0
  else 0

/-- The six fixed costs of PWR_STATUS_READ at a junction temperature: static; clock tree, host logic and cores; Cirrus; Espalier; SerDes (Thicket,
Krekai, PCIe and the management port); converters, Nimbus and comparators. -/
def Dev.fixedCosts (s : Dev) (tj : Int) : List Nat :=
  let rings := ((List.range 16).filter (fun r => s.isOn (Reg.THK_RINGr_CFG_EN r))).length
  let ports := ((List.range 4).filter (fun p => s.get (Reg.KRK_PORTp_STAT_LINK p) != 0)).length
  let cmp := ((List.range 24).map (fun i => if s.isOn (Reg.CMP_CFGi_EN i) then cmpNA (s.get (Reg.CMP_CFGi_MODE i)) else 0)).foldl (· + ·) 0
  [staticMW tj,
   850 + 600,
   cdiv (2400 * s.ctrlSum) s.clkN,
   150 + cdiv (3 * s.cells.recs.length) 10,
   50 * rings + 120 * ports + 160 * b2n (s.isOn Reg.HIF_STAT_LINKUP) + 70 * b2n (s.isOn Reg.HIF_MGT_CFG_EN),
   10 * s.fixedConverters + 120 * b2n s.mtr.running + cdiv (cmp * 18) 10000000]

/-- FIXED at a junction temperature. -/
def Dev.fixedAt (s : Dev) (tj : Int) : Nat := (s.fixedCosts tj).foldl (· + ·) 0

/-- LIMIT in force. -/
def Dev.powerLimit (s : Dev) : Nat := clampNat 4000 10000 (s.get Reg.PWR_LIMIT_LIMIT)

/-- The junction temperature reported, 1/16 °C. -/
def Dev.tj (s : Dev) : Int := signed 16 (s.get Reg.PWR_TJ_TJ)

/-- The device as it will run once it has left CONFIG and joined, for the check of R422: Nimbus runs when it is configured to, and the ports that the
station table gives the chip are enabled, as the worked example of the chapter counts them (DEDUCED, log entry 65). -/
def Dev.asOperating (s : Dev) : Dev :=
  let runs := s.isOn Reg.MTR_CTL_EN && s.isOn Reg.MTR_STAT_CFGVALID && s.isOn Reg.ADC_CTL_EN
  let ps := (List.range 4).filter (fun q => (portChip s.krk.table s.ownIndex q).isSome && s.get (Reg.KRK_PORTp_STAT_LINK q) == 0)
  forEach ps (fun q t => t.set (Reg.KRK_PORTp_STAT_LINK q) 1) (s.setMtr { s.mtr with running := runs })

/-- FIXED at TJCHK exceeds LIMIT: the check of R422. -/
def Dev.powerBad (s : Dev) : Bool :=
  decide (s.powerLimit < s.asOperating.fixedAt ((clampNat 25 125 (s.get Reg.PWR_CFG_TJCHK) : Nat) * 16))

/-! ### Grants (R419–R421) -/

/-- The MPPT item is due in the frame that begins (R154, R417). -/
def Dev.mpptDue (s : Dev) : Bool :=
  let m := byteAt s.cells.map 1 + 1
  s.st == stRUN && (s.curN % m == byteAt s.cells.map 2 || s.cells.iv.running || s.cells.cells.any (fun x => x.2.due))

/-- The worst-case cost of a sheddable class that is due in this frame; 0 when it is not. -/
def Dev.shedCost (s : Dev) (class_ : Nat) : Nat :=
  let due := match class_ with
    | 2 => true
    | 1 => s.mpptDue
    | _ => s.mtr.win.isSome
  if due then ((s.shedItems.find? (fun x => x.1 == class_)).map (fun x => x.2.2)).getD 0 else 0

/-- The pairs that request class D4 (metering) or D3. -/
def Dev.ilPairs (s : Dev) (meter : Bool) : List Nat :=
  (List.range 8).filter (fun p => s.isOn Reg.ADC_CTL_EN && s.pairMode p == 1 && s.isOn (Reg.ADC_PAIRp_CFG_METER p) == meter)

/-- The deferrable requests in their order: class, pair, cost. -/
def Dev.powerReqs (s : Dev) : List (Nat × Nat × Nat) :=
  (s.ilPairs true).map (fun p => (4, p, 10)) ++ (s.ilPairs false).map (fun p => (3, p, 10)) ++
    [2, 1, 0].filterMap (fun c =>
      let k := s.shedCost c
      if k = 0 then none else some (c, 0, cdiv ((if c = 0 then 1600 else 2400) * k) s.clkN))

/-- Requests granted in order from a running total: the total granted, and the requests from the first that does not fit on. -/
def grantRun (limit : Nat) : Nat → List (Nat × Nat × Nat) → Nat × List (Nat × Nat × Nat)
  | t, [] => (t, [])
  | t, r :: rest => if t + r.2.2 ≤ limit then grantRun limit (t + r.2.2) rest else (t, r :: rest)

/-- Bit masks of the deferred classes and of the deferred interleave pairs. -/
def deferMask (l : List (Nat × Nat × Nat)) : Nat := l.foldl (fun m r => setBit m r.1) 0
def deferPairs (l : List (Nat × Nat × Nat)) : Nat := l.foldl (fun m r => if 3 ≤ r.1 then setBit m r.2.1 else m) 0

/-- The arbiter at a tick (R416–R421). Answers the interleave pairs denied in the frame. -/
def Dev.arbiter (s : Dev) : Nat × Dev :=
  let costs := s.fixedCosts s.tj
  let fixed := costs.foldl (· + ·) 0
  let limit := s.powerLimit
  let reqs := s.powerReqs
  let overLim := decide (limit < fixed)
  let g := if overLim then (fixed, reqs) else grantRun limit fixed reqs
  let mask := deferMask g.2
  let req := fun c => ((reqs.filter (fun r => r.1 == c)).map (fun r => r.2.2)).foldl (· + ·) 0
  let was := s.pwr.overLim
  let s := { s with pwr := { stamp := s.time, frame := s.frame, limit := limit, tj := s.get Reg.PWR_TJ_TJ, costs := costs, fixed := fixed,
                             reqs := (List.range 5).map req, deferred := mask, overLim := overLim, valid := true } }
  let s := (s.set Reg.PWR_STAT_FIXED fixed).set Reg.PWR_STAT_GRANT (g.1 - fixed)
  let s := (s.set Reg.PWR_DEF_DEF mask).set Reg.PWR_PEAK_PEAK (max (s.get Reg.PWR_PEAK_PEAK) g.1)
  let s := onlyIf (mask != 0) (·.raise Reg.PWR_FLAG_DEFER_F) s
  let s := onlyIf (mask % 2 == 1) (·.count Reg.PWR_CNT0_DEFH) s
  let s := onlyIf (mask / 2 % 2 == 1) (·.count Reg.PWR_CNT0_DEFM) s
  let s := onlyIf (mask / 4 % 2 == 1) (·.count Reg.PWR_CNT1_DEFT) s
  let s := onlyIf (mask / 8 != 0) (·.count Reg.PWR_CNT1_DEFI) s
  let s := onlyIf overLim (·.raise Reg.PWR_FLAG_OVERLIM_F) s
  let s := onlyIf (overLim && !was) (·.vaultLog 10 s.vbat) s
  (deferPairs g.2, s)

/-- The record of PWR_STATUS_READ (R437). -/
def Dev.powerRecord (s : Dev) : List Byte :=
  let w := s.pwr
  toLe w.stamp 8 ++ toLe w.frame 4 ++ toLe w.limit 2 ++ toLe w.tj 2 ++ (w.costs.map (fun c => toLe c 2)).flatten ++ toLe w.fixed 2 ++
    (w.reqs.map (fun c => toLe c 2)).flatten ++ [BitVec.ofNat 8 w.deferred] ++ zeros 23

/-- PWR_STATUS_READ. -/
def bodyPwrStatus (src : Src) (p : Packet) (s : Dev) : Ans := withStore s src 24 (pN p 24 8) s.powerRecord ansOk

/-! ### The time keeper (R425) -/

/-- Crystal periods that have passed since the last event of the vault while the main die is off. -/
def Dev.keeperOff (s : Dev) (periods : Nat) : Dev :=
  if s.inReset then { s with vlt := { s.vlt with keeper := s.vlt.keeper + periods * 390625 } } else s

/-- The vault loads the keeper while the chip is synchronised and its clock is not FREERUN. -/
def Dev.keeperLoad (s : Dev) : Dev :=
  if s.unsync || s.freerun || s.inReset then s
  else ({ s with vlt := { s.vlt with keeper := 4 * s.time, seen := 4 * s.time, sinceEdge := 0, still := false } }).raise Reg.VLT_STAT_TKVALID

/-- No crystal edge for 1 ms: the keeper stands until an edge comes again, which the next load shows. -/
def Dev.keeperLost (s : Dev) : Dev :=
  let s := s.keeperCount
  ({ s with vlt := { s.vlt with still := true } }).set Reg.VLT_STAT_TKVALID 0

/-! ### Supplies and the cell (R423, R426–R430) -/

/-- The BAR0 offsets of the vault's registers. -/
def isVault (off : Nat) : Bool := decide (0x5400 ≤ off) && decide (off < 0x5800)

/-- The vault’s registers of a register file, and the rest. -/
def vaultRegs (l : List (Nat × Word)) : List (Nat × Word) := l.filter (fun x => isVault x.1)

/-- Charging is barred by the charge cut or the temperature window. -/
def Dev.tempBarred (s : Dev) : Bool :=
  [1, 2].any (fun k => s.isOn (Reg.VLT_SCk_EN k) && s.get Reg.VLT_STAT_SCST / 2 ^ k % 2 == 1)

/-- CELLON, HRUN and CHG as they stand. The boost idles while charging is barred. -/
def Dev.vaultDerive (s : Dev) : Dev :=
  if s.vlt.dark then s
  else
    let barred := s.vlt.chargeCut || s.tempBarred
    let run := s.vlt.boost && s.isOn Reg.VLT_CFG_HEN && !barred
    let s := (s.setB Reg.VLT_STAT_CELLON (!s.vlt.cut && !s.vlt.oc)).setB Reg.VLT_STAT_HRUN run
    s.setB Reg.VLT_STAT_CHG (!barred && (run || (s.vlt.onMain && s.isOn Reg.VLT_CFG_CHGEN)))

/-- Deferred bursts are tried again (R434). -/
def Dev.gateRetry (s : Dev) : Dev :=
  { s with fram := { s.fram with reqs := s.fram.reqs.map (fun (r : FramReq) => { r with hold := false }) } }

/-- A sampled comparator’s input in µV, and its threshold test (R426). -/
def scInput (k : Nat) (tamp ntc teg : Int) : Int := match k with | 0 => tamp | 3 => teg | _ => ntc
def Dev.scTripped (s : Dev) (k : Nat) (v : Int) : Bool :=
  let thr : Int := (s.get (Reg.VLT_SCk_THR k) : Nat)
  let lhs := 2 * v
  let rhs := thr * (if k = 3 then 1000 else 9375)
  if s.isOn (Reg.VLT_SCk_POL k) then decide (lhs < rhs) else decide (rhs < lhs)

/-- One sampled comparator at a vault tick. -/
def Dev.scSample (s : Dev) (tamp ntc teg : Int) (k : Nat) : Dev :=
  let was := s.get Reg.VLT_STAT_SCST / 2 ^ k % 2 == 1
  let now := s.isOn (Reg.VLT_SCk_EN k) && s.scTripped k (scInput k tamp ntc teg)
  let s := s.setB ⟨0x5408, 20 + k, 20 + k⟩ now
  if now && !was then
    let s := onlyIf (k == 0) (fun t => (t.raise Reg.VLT_FLAG_TAMP_F).vaultLog 6 t.vbat) s
    onlyIf (s.isOn (Reg.VLT_SCk_WAKE k)) (·.wakeRequest) s
  else s

/-- A vault tick (R426, R430, R434): VBAT, the sampled comparators, the temperature window, another try of deferred bursts. -/
def Dev.vaultTick (s : Dev) (vbat : Nat) (tamp ntc teg : Int) : Dev :=
  if s.vlt.dark then s
  else
    let s := s.set Reg.VLT_STAT_VBAT vbat
    let barred := s.tempBarred
    let s := forEach (List.range 4) (fun k t => t.scSample tamp ntc teg k) s
    let s := onlyIf (s.tempBarred && !barred) (fun t => (t.raise Reg.VLT_FLAG_TEMPINH_F).vaultLog 4 t.vbat) s
    s.gateRetry.setB Reg.VLT_STAT_SAVE_DEFERRED (s.fram.reqs.any (fun r => r.deferred))

/-- The boost starts; it stops (R429). -/
def Dev.harvestStart (s : Dev) : Dev :=
  if s.vlt.dark || !s.isOn Reg.VLT_CFG_HEN then s else { s with vlt := { s.vlt with boost := true } }
def Dev.harvestStop (s : Dev) : Dev := { s with vlt := { s.vlt with boost := false } }

/-- The open-circuit voltage sampled, in 0.1 mV (R429). -/
def Dev.harvestVoc (s : Dev) (voc : Nat) : Dev :=
  if s.vlt.boost && !s.vlt.dark then
    (s.set Reg.VLT_TEG_VOC voc).set Reg.VLT_TEG_VIN (voc * clampNat 16 48 (s.get Reg.VLT_CFG_FOCVK) / 64)
  else s

/-- Every vault register at its reset value, and nothing running. -/
def Dev.vaultCleared (s : Dev) (dark : Bool) : Dev :=
  { s with regs := s.regs.filter (fun x => !isVault x.1), fram := { s.fram with reqs := [] }, mtr := { s.mtr with lkp := {} },
           vlt := { mirror := s.vlt.mirror, dark := dark, onMain := false, seen := 4 * s.dieTime } }

/-- The vault goes dark (R430). -/
def Dev.vaultDark (s : Dev) : Dev := s.vaultCleared true

/-- A dark vault receives a supply: the cell, or VIO33 (`onMain`). -/
def Dev.vaultPower (s : Dev) (onMain : Bool) : Dev :=
  let s := if s.vlt.dark then s.vaultCleared false else s
  { s with vlt := { s.vlt with onMain := onMain } }

/-- The cold-start oscillator starts (R428). -/
def Dev.coldStart (s : Dev) : Dev := if s.vlt.dark then s.raise Reg.VLT_STAT_CSTART else s

/-- The vault supply has reached 2.0 V: the boost takes over. -/
def Dev.coldHandoff (s : Dev) : Dev :=
  if s.vlt.dark && s.isOn Reg.VLT_STAT_CSTART then
    let s := s.vaultCleared false
    let s := { s with vlt := { s.vlt with boost := true, cut := true } }
    (s.raise Reg.VLT_FLAG_COLD_F).vaultLog 5 s.vbat
  else s

/-- Charge cut and its release. -/
def Dev.chargeCut (s : Dev) (on : Bool) : Dev := if s.vlt.dark then s else { s with vlt := { s.vlt with chargeCut := on } }

/-- Discharge cut: the cell is disconnected from the vault load. -/
def Dev.dischargeCut (s : Dev) : Dev :=
  if s.vlt.dark || s.vlt.cut then s
  else ((({ s with vlt := { s.vlt with cut := true } }).raise Reg.VLT_FLAG_CUT_F).set Reg.VLT_STAT_CELLON 0).vaultLog 1 s.vbat

/-- VBAT has reached 3.20 V while charging: the cell is connected again. -/
def Dev.dischargeRelease (s : Dev) : Dev :=
  if s.vlt.cut && s.isOn Reg.VLT_STAT_CHG then
    let s := { s with vlt := { s.vlt with cut := false } }
    if s.vlt.oc then s else (s.raise Reg.VLT_STAT_CELLON).gateRetry.vaultLog 2 s.vbat
  else s

/-- Over-current: the cell is disconnected (events 3 and 1). -/
def Dev.cellOver (s : Dev) : Dev :=
  if s.vlt.dark || s.vlt.oc then s
  else
    let was := s.isOn Reg.VLT_STAT_CELLON
    let s := (({ s with vlt := { s.vlt with oc := true } }).raise Reg.VLT_FLAG_OC_F).set Reg.VLT_STAT_CELLON 0
    onlyIf was (·.vaultLog 1 s.vbat) (s.vaultLog 3 s.vbat)

/-- One second later it is connected again, unless the discharge cut holds it. -/
def Dev.cellOverEnd (s : Dev) : Dev :=
  if s.vlt.oc then
    let s := { s with vlt := { s.vlt with oc := false } }
    if s.vlt.cut then s else (s.raise Reg.VLT_STAT_CELLON).gateRetry.vaultLog 2 s.vbat
  else s

/-- The change-over of the vault's supply (R423). -/
def Dev.supplySwitch (s : Dev) (toMain : Bool) : Dev := { s with vlt := { s.vlt with onMain := toMain } }

/-- The power-fail record (R431). -/
def Dev.powerFailRecord (s : Dev) : List Byte :=
  let l := s.mtr.lkp
  let b := toLe s.keeperTU 8 ++ wordBytes l.p ++ wordBytes l.q ++ toLe l.stamp 8 ++
    [BitVec.ofNat 8 (b2n (s.isOn Reg.VLT_STAT_TKVALID) + 2 * b2n (s.isOn Reg.VLT_STAT_LKPVALID))] ++ zeros 35
  b ++ toLe (crc32 b) 4

/-- The main supply has failed (R423): MAINOK cleared, the fail stamp latched, the power-fail record queued. -/
def Dev.mainFailed (s : Dev) : Dev :=
  let s := (s.keeperCount).set Reg.VLT_STAT_MAINOK 0
  let s := { s with fram := { s.fram with reqs := s.fram.reqs.map (fun (r : FramReq) => { r with cmds := [] }) } }
  s.framAsk { bursts := twoCopies 0x340 s.powerFailRecord, kind := 0 }

/-- The vault's mirror at a tick (R386): the keeper’s value, MAINOK while the main die runs, then the registers. -/
def Dev.vaultMirror (s : Dev) : Dev :=
  let s := s.keeperCount
  let s := if s.vlt.dark then s else (s.raise Reg.VLT_STAT_MAINOK).setPair Reg.VLT_TK_LO Reg.VLT_TK_HI s.keeperTU
  { s with vlt := { s.vlt with mirror := vaultRegs s.regs } }

/-! ### The energy gate (R434–R436) -/

/-- Burst time in ns. -/
def burstNs (n : Nat) : Nat := 2000 + 40 * n

/-- tb of the next step of a request: of its next burst, or of the whole sequence asked for together with the test loads between its bursts; while
the cell is disconnected there are none (R434, R435). -/
def FramReq.tb (r : FramReq) (cell : Bool) : Nat :=
  if r.together then
    ((r.bursts.map (fun b => burstNs b.2.length)).foldl (· + ·) 0) + (if cell then 2000 * (r.bursts.length - 1) else 0)
  else burstNs (((r.bursts.getD r.done (0, [])).2).length)

/-- The order of R436. -/
def gateBefore (a b : FramReq) : Bool := decide (a.kind < b.kind)

/-- The first of the requests to run. -/
def gatePick : List FramReq → Option FramReq
  | [] => none
  | r :: t =>
    match gatePick t with
    | none => if r.hold then none else some r
    | some x => if r.hold || gateBefore x r then some x else some r

/-- The reserve passes: VBAT at the start and its fall under the test load, or the vault supply, in µV (R434, R435). -/
def Dev.gatePasses (s : Dev) (vstart dv tb : Nat) : Bool :=
  if s.isOn Reg.VLT_STAT_CELLON then decide (3100000 * 2000 + dv * tb ≤ vstart * 2000)
  else decide (2800000 * 8 + 15 * tb ≤ vstart * 8)

/-- Replacing a request by what has become of it. -/
def Dev.setReq (s : Dev) (r : FramReq) (new : List FramReq) : Dev :=
  { s with fram := { s.fram with reqs := (s.fram.reqs.map (fun x => if x = r then new else [x])).flatten } }

/-- SAVE_DEFERRED follows the deferred requests. -/
def Dev.gateShow (s : Dev) : Dev := s.setB Reg.VLT_STAT_SAVE_DEFERRED (s.fram.reqs.any (fun r => r.deferred))

/-- A scheduled save is to be retried (R336). -/
def Dev.saveRetried (s : Dev) : Dev := s.setMtr { s.mtr with retry := true }

/-- The gate defers (R434): the commands that wait are answered, and what they alone asked for is dropped (R339); a metering save is retried (R336). -/
def Dev.gateDefer (s : Dev) (r : FramReq) : Dev × List (Src × Packet × Reply) :=
  let s := (s.raise Reg.VLT_FLAG_GATEDEF_F).count Reg.VLT_CNT_DEFCNT
  let s := (s.setReq r (if r.auto then [{ r with cmds := [], deferred := true, hold := true }] else [])).raise Reg.VLT_STAT_SAVE_DEFERRED
  let s := if r.kind = 1 && !s.inReset then s.saveDeferred.saveRetried else s
  (s.gateShow, r.cmds.map (fun x => (x.1, x.2, { status := sBUSY, detail := 1 })))

/-- A request starts with its bursts as they now are. A sequence that writes the save slots replaces a pending save, whose commands then wait for it
(R339, R436). -/
def Dev.gateStart (s : Dev) (r : FramReq) : Dev :=
  let save := fun (x : FramReq) => r.kind == 2 && r.together && x.kind == 1 && !x.started
  let more := ((s.fram.reqs.filter save).map (·.cmds)).flatten
  let s := s.setReq r [{ r with bursts := s.freshBursts r, cmds := r.cmds ++ more, started := true, hold := false }]
  { s with fram := { s.fram with reqs := s.fram.reqs.filter (fun x => !save x) } }

/-- The gate takes up the next request: it tests the reserve and starts the burst, or defers it. -/
def Dev.gateTry (s : Dev) (vstart dv : Nat) : Dev × List (Src × Packet × Reply) :=
  if s.vlt.dark || s.fram.reqs.any (fun r => r.started) then (s, [])
  else
    match gatePick s.fram.reqs with
    | none => (s, [])
    | some r => if s.gatePasses vstart dv (r.tb (s.isOn Reg.VLT_STAT_CELLON)) then (s.gateStart r, []) else s.gateDefer r

/-- What follows when the last burst of a request is written: the effect of the load or the preset that asked for it, and its reply; MTR_SAVE_NOW
commands are told the number of the save that was written. -/
def Dev.gateDone (s : Dev) (r : FramReq) : Dev × List (Src × Packet × Reply) :=
  let rec_ := (r.bursts.getD 0 (0, [])).2
  let asked := r.cmds.filter (fun x => pOp x.2 != 0x87)
  let saves := r.cmds.filter (fun x => pOp x.2 == 0x87)
  let x : Dev × List (Src × Packet × Reply) :=
    match asked with
    | y :: _ =>
      let z := if pOp y.2 = 0x80 then s.cfgLoadDone r.bursts else s.presetDone r.bursts
      (z.1, [(y.1, y.2, z.2)])
    | [] =>
      if r.kind = 0 then ((s.setPair Reg.VLT_FAIL_LO Reg.VLT_FAIL_HI (leAt rec_ 0 8)).vaultLog 8 s.vbat, [])
      else if r.kind = 1 && !s.inReset then (s.saveDone rec_, []) else (s, [])
  (x.1, x.2 ++ saves.map (fun y => (y.1, y.2, { status := sOK, result := toLe (x.1.get Reg.MTR_SAVESEQ_SEQ) 4 })))

/-- A burst has been written (R434): a sequence asked for together goes on, other bursts have a test of their own. -/
def Dev.burstDone (s : Dev) : Dev × List (Src × Packet × Reply) :=
  match s.fram.reqs.find? (fun r => r.started) with
  | none => (s, [])
  | some r =>
    let b := r.bursts.getD r.done (0, [])
    let s := { s with fram := { s.fram with mem := writeBytes s.fram.mem b.1 b.2 } }
    if r.done + 1 < r.bursts.length then
      (s.setReq r [{ r with done := r.done + 1, started := r.together }], [])
    else
      let x := (s.setReq r []).gateDone r
      (x.1.gateShow, x.2)

/-- The highest FRAM sequence number among the valid log entries (R433). -/
def Dev.framSeqMax (s : Dev) : Nat :=
  (List.range 128).foldl (fun m k =>
    let e := readBytes s.fram.mem (0x800 + 48 * k) 48
    if leAt e 44 4 = crc32 (e.take 44) then max m (leAt e 32 4) else m) 0

/-- The FRAM log goes on above the highest valid entry, and above what the vault still holds to be written (R433). -/
def Dev.logResume (s : Dev) : Dev :=
  let held := (s.fram.reqs.filter (fun r => r.kind == 3)).map (fun r => leAt (r.bursts.getD 0 (0, [])).2 32 4)
  { s with fram := { s.fram with logSeq := held.foldl max s.framSeqMax + 1 } }

/-- The vault work of BOOT (R380): metering, UNSAVED, then the FRAM log sequence number. The entries that this work makes are written under the
resumed number. -/
def Dev.vaultBoot (s : Dev) : Dev := s.logResume.mtrBoot

/-! ### Opcodes (R437) -/

/-- The fused security epoch (R399). -/
def Dev.fusedEpoch (s : Dev) : Nat := s.get Reg.IMG_STAT_EPOCH

/-- The 64-byte record of VLT_STATUS_READ (R437). -/
def Dev.vltRecord (s : Dev) : List Byte :=
  toLe s.keeperCount.keeperTU 8 ++ toLe (s.pair Reg.VLT_FAIL_LO Reg.VLT_FAIL_HI) 8 ++ toLe s.vbat 2 ++ toLe (s.get Reg.VLT_TEG_VOC) 2 ++
    [BitVec.ofNat 8 (bits (s.reg Reg.VLT_STAT) 31 24), BitVec.ofNat 8 (s.get Reg.VLT_STAT_SCST), BitVec.ofNat 8 s.fusedEpoch, 0] ++
    toLe (s.fram.logSeq - 1) 4 ++ wordBytes (s.reg Reg.VLT_CNT) ++ zeros 32

/-- VLT_STATUS_READ. -/
def bodyVltStatus (src : Src) (p : Packet) (s : Dev) : Ans := withStore s src 24 (pN p 24 8) s.vltRecord ansOk

/-- VLT_FRAM_READ; it waits for a burst that runs (R437). -/
def bodyVltFram (src : Src) (p : Packet) (s : Dev) : Ans :=
  let a := pN p 16 2
  let n := pN p 18 2
  if a % 4 ≠ 0 then ansBad s sBAD_PARAM 16
  else if n % 4 ≠ 0 ∨ n = 0 ∨ 8192 < a + n then ansBad s sBAD_PARAM 18
  else if s.fram.reqs.any (fun r => r.started) then (if s.addrOk src (pN p 24 8) n then ansLater s else ansBad s sBAD_PARAM 24)
  else withStore s src 24 (pN p 24 8) (readBytes s.fram.mem a n) ansOk

end Sys2Proof.Machine
end

