-- ==== Sys2Proof/Machine/Image.lean ====
section
/-! DEFINITION. Firmware images, sessions, the handover and the boot ROM’s slot checks (R377–R379, R398–R411). -/

namespace Sys2Proof.Machine

def Dev.setImg (s : Dev) (x : ImgSt) : Dev := { s with img := x }

/-! ### The header (R398) -/

def ihEpoch (h : List Byte) : Nat := byteAt h 5
def ihVersion (h : List Byte) : Nat := leAt h 8 4
def ihKproto (h : List Byte) : Nat := leAt h 12 2
def ihFmt (h : List Byte) : Nat := leAt h 14 2
def ihMin (h : List Byte) : Nat := leAt h 16 2
def ihLen (h : List Byte) : Nat := leAt h 20 4
def ihHash (h : List Byte) : List Byte := (h.drop 32).take 32

/-- Offsets of the header fields that break a rule. -/
def badImgHeader (h : List Byte) : List Nat :=
  badAt (leAt h 0 4 != 0x57464D51) 0 ++ badAt (byteAt h 4 != 1) 4 ++ badAt (decide (63 < ihEpoch h)) 5 ++
    badAt (leAt h 6 2 != 0x1024) 6 ++ badAt (decide (ihFmt h < ihMin h)) 16 ++ badAt (decide (0x20 < byteAt h 18)) 18 ++
    badAt (byteAt h 19 != 0) 19 ++
    badAt (decide (ihLen h < 256) || decide (1048576 < ihLen h) || ihLen h % 256 != 0) 20 ++
    badAt (leAt h 24 4 % 4 != 0 || decide (ihLen h ≤ leAt h 24 4)) 24 ++ badAt (!zeroSlice h 28 4) 28 ++
    badAt (!zeroSlice h 128 64) 128

/-! ### QSPI and the standby slot -/

/-- Erased flash reads 0xFF. -/
def qErased : Nat → Byte := fun _ => 0xFF

/-- QSPI bytes. -/
def qRead (m : List (Nat × Byte)) (a : Nat) : Nat → List Byte
  | 0 => []
  | n + 1 => sget qErased m a :: qRead m (a + 1) n

/-- Bytes written to erased QSPI cells. -/
def qWrite (m : List (Nat × Byte)) (a : Nat) : List Byte → List (Nat × Byte)
  | [] => m
  | b :: t => qWrite (sset qErased m a b) (a + 1) t

/-- A range erased. -/
def qErase (m : List (Nat × Byte)) (a n : Nat) : List (Nat × Byte) := m.filter (fun x => decide (x.1 < a) || decide (a + n ≤ x.1))

/-- Commands to the QSPI NOR (R461). One read of the status stands for those that follow an erase or a program (log entry 29). -/
def Dev.qspiSend (s : Dev) (l : List (Nat × Nat × Nat × List Byte)) : Dev := forEach l (fun x t => t.send (.qspi x.1 x.2.1 x.2.2.1 x.2.2.2)) s

/-- `n` bytes are read from `a` on: quad I/O fast read. -/
def Dev.qspiRead (s : Dev) (a n : Nat) : Dev := s.qspiSend [(0xEB, a, n, [])]

/-- `n` sectors of 64 KiB are erased from `a` on: write enable, sector erase, read status. -/
def Dev.qspiErase (s : Dev) (a n : Nat) : Dev :=
  let s := forEach (List.range n) (fun i t => t.qspiSend [(0x06, 0, 0, []), (0xD8, a + 65536 * i, 0, []), (0x05, 0, 1, [])]) s
  s.setImg { s.img with qspi := qErase s.img.qspi a (65536 * n) }

/-- Bytes are programmed from `a` on, in pages of 256: write enable, quad page program, read status. -/
def Dev.qspiProgram (s : Dev) (a : Nat) (d : List Byte) : Dev :=
  let s := forEach (List.range (cdiv d.length 256)) (fun i t =>
    t.qspiSend [(0x06, 0, 0, []), (0x32, a + 256 * i, 0, (d.drop (256 * i)).take 256), (0x05, 0, 1, [])]) s
  s.setImg { s.img with qspi := qWrite s.img.qspi a d }

/-- Where slot k (0 A, 1 B) begins. -/
def slotAt (k : Nat) : Nat := 0x200000 * k

/-- Header and body of a QSPI slot. -/
def Dev.slotHead (s : Dev) (k : Nat) : List Byte := qRead s.img.qspi (slotAt k) 256
def Dev.slotBody (s : Dev) (k n : Nat) : List Byte := qRead s.img.qspi (slotAt k + 256) n

/-- The QSPI slot the session writes, if any. -/
def Dev.qTarget (s : Dev) : Option Nat :=
  let t := s.get Reg.IMG_STAT_TGT
  if t / 2 % 2 = 1 then some 0 else if t / 4 % 2 = 1 then some 1 else none

/-! ### Sessions (R401–R404) -/

def Dev.session (s : Dev) : Bool := s.isOn Reg.IMG_STAT_SESSION

/-- The session is over. -/
def Dev.sessionClose (s : Dev) : Dev :=
  let s := ((s.set Reg.IMG_STAT_SESSION 0).set Reg.IMG_STAT_VERIFIED 0).set Reg.IMG_STAT_TGT 0
  let s := ((s.setReg Reg.IMG_SVER 0#32).setReg Reg.IMG_RCVD 0#32).set Reg.IMG_KPROTO_SESSKP 0
  s.setImg { s.img with head := [], got := [], standby := [] }

/-- An abort (R404): the standby slot cleared, a QSPI target left without a header. A header that has been written goes with its sector, which is the
least that can be erased (R461); before that the slot has none. -/
def Dev.sessionAbort (s : Dev) : Dev :=
  if s.session then
    (match s.qTarget with
      | some k => if s.isOn Reg.IMG_STAT_VERIFIED then s.qspiErase (slotAt k) 1 else s
      | none => s).sessionClose
  else s

/-- The check of R399 that fails: 1 epoch, 2 version, 3 Krekai protocol, 4 state format. -/
def Dev.versionRefused (s : Dev) (h : List Byte) : Option Nat :=
  let near := fun (a b : Nat) => decide (a ≤ b + 1) && decide (b ≤ a + 1)
  let peers := s.krk.peers.filter (fun x => s.reach x.1 && s.mst == mMEMBER)
  if ihEpoch h < s.img.fuses then some 1
  else if ihVersion h < (s.reg Reg.HIF_FWVER).toNat then some 2
  else if s.recovery then none
  else if !near (ihKproto h) (s.get Reg.IMG_KPROTO_RUNKP) || peers.any (fun x => !near (ihKproto h) x.2.kproto) then some 3
  else if ihFmt s.img.run < ihMin h || ihFmt h < ihFmt s.img.run then some 4
  else none

/-- A session opened for a checked header: the QSPI target is erased. -/
def Dev.sessionOpen (s : Dev) (mask : Nat) (h : List Byte) : Dev :=
  let s := ((s.raise Reg.IMG_STAT_SESSION).set Reg.IMG_STAT_VERIFIED 0).set Reg.IMG_STAT_TGT mask
  let s := (s.setReg Reg.IMG_SVER (wordAt h 8)).set Reg.IMG_KPROTO_SESSKP (ihKproto h)
  let s := (s.set Reg.IMG_RCVD_NEED (ihLen h / 256)).set Reg.IMG_RCVD_RCVD 0
  let s := match s.qTarget with
    | some k => s.qspiErase (slotAt k) 32
    | none => s
  s.setImg { s.img with head := h, got := [], standby := [] }

/-- IMG_BEGIN. -/
def bodyImgBegin (src : Src) (p : Packet) (s : Dev) : Ans :=
  let mask := pB p 16 % 8
  if mask = 0 ∨ (mask / 2 % 2 = 1 ∧ mask / 4 % 2 = 1) then ansBad s sBAD_PARAM 16
  else if !s.addrOk src (pN p 24 8) 256 then ansBad s sBAD_PARAM 24
  else if s.session then ansBad s sBUSY 0
  else withLoad s src 24 (pN p 24 8) 256 (fun s h =>
    match lowestOf (badImgHeader h) with
    | some o => ansBad s sBAD_PARAM o
    | none =>
      match s.versionRefused h with
      | some c => ansBad (s.raise Reg.IMG_FLAG_VREJ_F) sVERSION_REJECT c
      | none =>
        if Config.imageSignatureOk h then ansOk (s.sessionOpen mask h)
        else ansBad (s.raise Reg.IMG_FLAG_AUTH_F) sAUTH_FAIL 0)

/-- A block written to the targets. -/
def Dev.blockWrite (s : Dev) (off : Nat) (d : List Byte) : Dev :=
  let units := tabulate (d.length / 256) (fun i => off / 256 + i)
  let got := s.img.got ++ units.filter (fun u => !s.img.got.contains u)
  let sb := if s.get Reg.IMG_STAT_TGT % 2 = 1 then writeBytes s.img.standby off d else s.img.standby
  let s := match s.qTarget with
    | some k => s.qspiProgram (slotAt k + 256 + off) d
    | none => s
  (s.setImg { s.img with got := got, standby := sb }).set Reg.IMG_RCVD_RCVD got.length

/-- A repeated unit of a QSPI target carries other data (R402). -/
def Dev.blockDiffers (s : Dev) (off : Nat) (d : List Byte) : Bool :=
  match s.qTarget with
  | some k => (List.range (d.length / 256)).any (fun i =>
      s.img.got.contains (off / 256 + i) && qRead s.img.qspi (slotAt k + 256 + off + 256 * i) 256 != (d.drop (256 * i)).take 256)
  | none => false

/-- IMG_BLOCK. What the packet alone shows to be wrong is a parameter failure of step 5; that no session is open comes after it (R355). -/
def bodyImgBlock (src : Src) (p : Packet) (s : Dev) : Ans :=
  let off := pN p 16 4
  let n := pN p 20 4
  if off % 256 ≠ 0 then ansBad s sBAD_PARAM 16
  else if n % 256 ≠ 0 ∨ n = 0 ∨ 65536 < n then ansBad s sBAD_PARAM 20
  else if !s.addrOk src (pN p 24 8) n then ansBad s sBAD_PARAM 24
  else if !s.session then ansBad s sNOT_READY 0
  else if ihLen s.img.head ≤ off then ansBad s sBAD_PARAM 16
  else if ihLen s.img.head < off + n then ansBad s sBAD_PARAM 20
  else withLoad s src 24 (pN p 24 8) n (fun s d =>
    if s.blockDiffers off d then ansBad s sBAD_PARAM 16 else ansOk (s.blockWrite off d))

/-- The targets whose body does not hash to BODYHASH, as a mask. -/
def Dev.hashFails (s : Dev) : Nat :=
  let t := s.get Reg.IMG_STAT_TGT
  let n := ihLen s.img.head
  let want := ihHash s.img.head
  let sram := t % 2 == 1 && sha256 (readBytes s.img.standby 0 n) != want
  let qs := match s.qTarget with
    | some k => if sha256 (s.slotBody k n) = want then 0 else 2 ^ (k + 1)
    | none => 0
  b2n sram + qs

/-- IMG_VERIFY. -/
def bodyImgVerify (_src : Src) (_p : Packet) (s : Dev) : Ans :=
  if !s.session then ansBad s sNOT_READY 0
  else
    let missing := s.get Reg.IMG_RCVD_NEED - s.img.got.length
    if missing ≠ 0 then ansBad s sNOT_READY missing
    else
      let f := s.hashFails
      let s := match s.qTarget with
        | some k => s.qspiRead (slotAt k + 256) (ihLen s.img.head)
        | none => s
      if f ≠ 0 then ansBad (s.raise Reg.IMG_FLAG_AUTH_F).sessionAbort sAUTH_FAIL f
      else
        let s := match s.qTarget with
          | some k => s.qspiProgram (slotAt k) s.img.head
          | none => s
        ansOk (s.raise Reg.IMG_STAT_VERIFIED)

/-- IMG_ABORT. -/
def bodyImgAbort (_src : Src) (_p : Packet) (s : Dev) : Ans := if s.session then ansOk s.sessionAbort else ansBad s sNOT_READY 0

/-- IMG_STATUS. -/
def bodyImgStatus (_src : Src) (_p : Packet) (s : Dev) : Ans :=
  ansRes s (wordBytes (s.reg Reg.IMG_STAT) ++ wordBytes (s.reg Reg.IMG_RCVD) ++ wordBytes (s.reg Reg.IMG_SVER) ++
    toLe (s.get Reg.IMG_KPROTO_SESSKP) 2)

/-! ### Handover (R406–R411) -/

/-- The new image runs: slot roles, version, Krekai protocol version; the session is over and its QSPI copy stays. -/
def Dev.imageSwap (s : Dev) (act : Nat) : Dev :=
  let h := s.img.head
  let s := (s.set Reg.IMG_STAT_ACT act).setReg Reg.HIF_FWVER (wordAt h 8)
  let s := (s.set Reg.IMG_KPROTO_RUNKP (ihKproto h)).raise Reg.IMG_FLAG_HOVER_F
  s.sessionClose.setImg { s.sessionClose.img with run := h }

/-- The epoch is to rise after a handover with FUSE (R400). -/
def Dev.fuseAsk (s : Dev) (p : Packet) : Dev :=
  if pB p 16 % 2 = 1 ∧ s.img.fuses < ihEpoch s.img.run then s.setImg { s.img with fuseTo := some (ihEpoch s.img.run) } else s

/-- A handover commits (step 6 of R407). -/
def Dev.handoverDone (s : Dev) (p : Packet) (clocks act : Nat) : Dev × Reply :=
  let old := (s.reg Reg.HIF_FWVER).toNat
  let s := (s.imageSwap act).set Reg.IMG_HOTIME_HOCLK clocks
  let s := s.logNow 16 1 (old + 2 ^ 32 * (s.reg Reg.HIF_FWVER).toNat)
  (s.fuseAsk p, { status := sOK, result := toLe clocks 4 })

/-- In recovery the new image starts without a state block (R414): the work of R380, then CONFIG. -/
def Dev.recoveryStart (s : Dev) (p : Packet) : Ans :=
  let f := s.free
  let x := f.2.handoverDone p (f.1.toNat % 65536) 0
  (x.1.vaultBoot.poolReset.thkWithdraw.enter stCONFIG causeFirmware, some x.2)

/-- A VERIFIED session whose targets include the standby SRAM slot (R406). -/
def Dev.handoverReady (s : Dev) : Bool := s.session && s.isOn Reg.IMG_STAT_VERIFIED && s.get Reg.IMG_STAT_TGT % 2 == 1

/-- IMG_HANDOVER at its execution: T, D, then the steps of R407 begin. The size of the state block is a free value, and the clocks the
steps take lie between those the rule fixes and T (log entry 29). -/
def bodyImgHandover (src : Src) (p : Packet) (s : Dev) : Ans :=
  if !s.handoverReady then ansBad s sNOT_READY 0
  else if s.recovery then s.recoveryStart p
  else
    let f := s.free
    let n := 2 * cdiv f.1.toNat 64
    let el := s.sinceTick
    let d : Int := (s.get Reg.FRM_PHASE_CMP_END : Int) - 500
    let excess := ((el + 520 + n : Nat) : Int) - d
    if 0 < excess then ansBad f.2 sBUSY (min 0xFFFFF excess.toNat)
    else
      let g := f.2.free
      let c := el + 20 + n + g.1.toNat % 501
      let s := g.2.raise Reg.IMG_STAT_HOWIN
      let s := { s with frm := { s.frm with handover := true } }
      ansLater (s.setImg { s.img with ho := some { src := src, pkt := p, resume := s.clocks + (c - el), clocks := c } })

/-- A fallback (R409): it aborts the session (R404). -/
def Dev.handoverFallback (s : Dev) (status detail : Nat) : Dev × Reply :=
  let s := (s.raise Reg.IMG_FLAG_FALLBK_F).logNow 16 2 detail
  let s := if status = sINTERNAL then (s.hifFlag Reg.HIF_FLAG_INTERR_F).logNow 0 1 detail else s
  (s.sessionAbort, { status := status, detail := detail })

/-- What the new image checks in step 5 (R407): queue pointers lie inside their rings, the slots reserved agree with the commands that wait for a
reply, and the costs of the contexts with CE_CSTATc. -/
def Dev.handoverChecks (s : Dev) : Bool :=
  s.host.queues.all (fun x => !x.2.exists_ || (decide (x.2.sqHead < 2 ^ x.2.sqLog) && decide (x.2.cqTail < 2 ^ x.2.cqLog) &&
    x.2.cqRes == ((s.host.waits.filter (fun w => w.src == Src.queue x.1 && w.route.isNone)).map (fun w => if w.answered then 1 else 2)).sum)) &&
  s.loadedCtxs.all (fun x => s.get (Reg.CE_CSTATc_COST x.1) == s.ctxCost x.2 % 65536)

/-- A handover ends: the new image resumes, or the old one after a refused state, a failed check, or at the end of a halt (R409, R410). `now`: its
instant has certainly come. The image that resumes writes what latched meanwhile first. -/
def Dev.handoverEnd (s : Dev) (now : Bool) : Dev × Option (Src × Packet × Reply) :=
  match s.img.ho with
  | none => (s, none)
  | some h =>
    if s.prt.halted || (!h.halted && !now && decide (s.clocks < h.resume)) then (s, none)
    else
      let s := ((s.set Reg.IMG_STAT_HOWIN 0).setImg { s.img with ho := none }).tripsLogged h
      let fmt := ihFmt s.img.run
      let x :=
        if h.halted then s.handoverFallback sINTERNAL 0x000202
        else if fmt < ihMin s.img.head || ihFmt s.img.head < fmt then s.handoverFallback sVERSION_REJECT 5
        else if !s.handoverChecks then s.handoverFallback sINTERNAL 0x000201
        else s.handoverDone h.pkt h.clocks (1 - s.get Reg.IMG_STAT_ACT)
      (x.1, some (h.src, h.pkt, x.2))

/-- A debug halt falls into the handover (R410). -/
def Dev.handoverHalt (s : Dev) : Dev :=
  match s.img.ho with
  | some h => s.setImg { s.img with ho := some { h with halted := true } }
  | none => s

/-- The fuses have reached the new epoch (R400). -/
def Dev.fuseDone (s : Dev) : Dev :=
  match s.img.fuseTo with
  | none => s
  | some e =>
    let s := s.setImg { s.img with fuses := e, fuseTo := none }
    ((s.set Reg.IMG_STAT_EPOCH e).raise Reg.IMG_FLAG_EPOCHUP_F).logNow 16 3 e

/-- A supply loss while fuses are being blown leaves E between the old and the new epoch (R400). -/
def Dev.fuseCut (s : Dev) : Dev :=
  match s.img.fuseTo with
  | none => s
  | some e =>
    let f := s.free
    let n := s.img.fuses + f.1.toNat % (e - s.img.fuses + 1)
    f.2.setImg { f.2.img with fuses := n, fuseTo := none }

/-! ### The boot ROM’s slot checks (R378) -/

/-- Outcome field of a slot. -/
def outF (k : Nat) : Fld := if k = 0 then Reg.IMG_BOOT_OUTA else Reg.IMG_BOOT_OUTB

/-- Outcome of a slot header: 7 excluded, 2 malformed, 3 epoch below E, 0 a candidate. -/
def Dev.headOutcome (s : Dev) (k : Nat) : Nat :=
  let h := s.slotHead k
  if k = 0 ∧ s.straps / 2 % 2 = 1 then 7
  else if badImgHeader h ≠ [] then 2
  else if ihEpoch h < s.img.fuses then 3 else 0

/-- The boot ROM reads both headers, once; an epoch that R399 refuses sets VREJ_F (R415). -/
def Dev.readHeads (s : Dev) : Dev :=
  if s.img.headsRead then s
  else
    let s := (s.qspiRead (slotAt 0) 256).qspiRead (slotAt 1) 256
    let s := onlyIf (s.headOutcome 0 == 3 || s.headOutcome 1 == 3) (·.raise Reg.IMG_FLAG_VREJ_F)
      ((s.set Reg.IMG_BOOT_OUTA (s.headOutcome 0)).set Reg.IMG_BOOT_OUTB (s.headOutcome 1))
    s.setImg { s.img with headsRead := true }

/-- The candidate tried next: the higher version, slot A on equal ones. -/
def Dev.nextSlotTry (s : Dev) : Option Nat :=
  let a := s.get Reg.IMG_BOOT_OUTA == 0
  let b := s.get Reg.IMG_BOOT_OUTB == 0
  if a && b then some (if ihVersion (s.slotHead 0) < ihVersion (s.slotHead 1) then 1 else 0)
  else if a then some 0 else if b then some 1 else none

/-- The boot ROM still looks for an image. -/
def Dev.bootLooks (s : Dev) : Bool :=
  s.st == stBOOT && s.straps / 4 % 2 == 0 && s.get Reg.IMG_BOOT_STARTED == 0 && !s.isOn Reg.IMG_BOOT_RECOV

/-- Hash and signature of a slot’s image: 1 started, 4 hash mismatch, 5 signature failure. -/
def Dev.slotOutcome (s : Dev) (k : Nat) : Nat :=
  let h := s.slotHead k
  if sha256 (s.slotBody k (ihLen h)) ≠ ihHash h then 4 else if Config.imageSignatureOk h then 1 else 5

/-- What has become of a slot: recorded; a hash or signature failure sets AUTH_F (R415); a passed image starts. -/
def Dev.slotTried (s : Dev) (k outcome : Nat) : Dev :=
  let s := onlyIf (outcome == 4 || outcome == 5) (·.raise Reg.IMG_FLAG_AUTH_F) (s.set (outF k) outcome)
  if outcome = 1 then (s.set Reg.IMG_BOOT_STARTED (k + 1)).setImg { s.img with run := s.slotHead k } else s

/-- One slot tried with a given outcome, or by reading it. Answers whether recovery follows: no candidate is left. -/
def Dev.bootTry (s : Dev) (timeout : Bool) : Dev × Bool :=
  if !s.bootLooks then (s, false)
  else
    let s := s.readHeads
    match s.nextSlotTry with
    | none => (s, true)
    | some k =>
      let s := s.qspiRead (slotAt k + 256) (ihLen (s.slotHead k))
      let s := s.slotTried k (if timeout then 6 else s.slotOutcome k)
      (s, s.get Reg.IMG_BOOT_STARTED == 0 && s.nextSlotTry.isNone)

end Sys2Proof.Machine
end

