-- ==== Sys2Proof/Machine/Replies.lean ====
section
/-! DEFINITION. Fetched commands and their replies (R346–R362): completion rings, interrupts, the mailbox, granules, deferral, and the
answers of a station-scoped packet (R282). -/

namespace Sys2Proof.Machine

/-! ### Interrupt vectors (R352) -/

/-- A completion entry was written on a vector: its message is sent while it is armed, and disarms it. -/
def Dev.vecFire (s : Dev) (v : Nat) : Dev :=
  if s.host.disarmed.contains v then s else ({ s with host := { s.host with disarmed := s.host.disarmed ++ [v] } }).msix v

/-- The queues whose completions interrupt on a vector. -/
def Dev.vecQueues (s : Dev) (v : Nat) : List (Nat × QueueSt) := s.host.queues.filter (fun x => x.2.exists_ && x.2.ien && x.2.vec == v)

/-- A CQH write re-arms its vector; the message is sent again while a queue on it holds unreleased entries. -/
def Dev.vecRearm (s : Dev) (v : Nat) : Dev :=
  let s := { s with host := { s.host with disarmed := s.host.disarmed.filter (· != v) } }
  onlyIf ((s.vecQueues v).any (fun x => x.2.unreleased != 0)) (·.vecFire v) s

/-! ### Writing replies (R347, R354, R361) -/

/-- The 32 bytes of a reply, phase 0. -/
def Dev.replyBytes (s : Dev) (p : Packet) (r : Reply) : List Byte :=
  toLe (pTag p) 2 ++ [BitVec.ofNat 8 r.status, BitVec.ofNat 8 (4 * b2n r.ext + 8 * b2n s.freerun + 16 * b2n s.unsync), BitVec.ofNat 8 s.st] ++
    toLe r.detail 3 ++ toLe (s.stamp 0) 8 ++ (r.result ++ zeros 16).take 16

/-- Where completion slot `k` of a queue lies. -/
def QueueSt.cqAt (x : QueueSt) (q k : Nat) : Nat := if x.win then 2048 * q + 1024 + 32 * k else x.cqBase + 32 * k

/-- Where submission slot `k` of a queue lies. -/
def QueueSt.sqAt (x : QueueSt) (q k : Nat) : Nat := if x.win then 2048 * q + 64 * k else x.sqBase + 64 * k

/-- Bytes put into a ring. -/
def Dev.ringWrite (s : Dev) (win : Bool) (a : Nat) (b : List Byte) : Dev :=
  if win then { s with host := { s.host with ringWin := writeBytes s.host.ringWin a b } } else s.hostWrite a b

/-- A completion entry written with the phase of the pass (R347). -/
def Dev.cqPost (s : Dev) (q : Nat) (b : List Byte) : Dev :=
  let x := s.queue q
  let s := s.ringWrite x.win (x.cqAt q x.cqTail) (b.set 3 (b.getD 3 0 ||| BitVec.ofNat 8 (b2n x.phase)))
  let tail := (x.cqTail + 1) % 2 ^ x.cqLog
  let s := s.setQueue q { x with cqTail := tail, phase := (if tail = 0 then !x.phase else x.phase), unreleased := x.unreleased + 1 }
  onlyIf x.ien (·.vecFire x.vec) s

/-- A mailbox result posted (R361); `final`: the command is complete. -/
def Dev.mbxShow (s : Dev) (b : List Byte) (final : Bool) : Dev :=
  let seq := s.get Reg.HIF_MBX_STAT_SEQ
  let s := { s with host := { s.host with mbx := { s.host.mbx with live := b } } }
  let s := (s.set Reg.HIF_MBX_STAT_SEQ (if seq = 255 then 1 else seq + 1)).set Reg.HIF_MBX_STAT_VALID 1
  let s := (s.set Reg.HIF_MBX_STAT_STALE 0).event Reg.HIF_EVT_MBX
  onlyIf final (·.set Reg.HIF_MBX_STAT_BUSY 0) s

/-! ### The list of commands without their final reply -/

def Dev.setWaits (s : Dev) (l : List WaitCmd) : Dev := { s with host := { s.host with waits := l } }

/-- The fetched command of an order number replaced. -/
def Dev.setWait (s : Dev) (w : WaitCmd) : Dev := s.setWaits (s.host.waits.map (fun x => if x.order == w.order then w else x))

/-- It leaves the list. -/
def Dev.dropWait (s : Dev) (w : WaitCmd) : Dev := s.setWaits (s.host.waits.filter (fun x => x.order != w.order))

/-- It counts in HIF_QWAIT.WAIT (R365). -/
def WaitKind.waits : WaitKind → Bool
  | .held _ => true
  | .deferred _ => true
  | _ => false

/-- It is a queue’s or the mailbox’s own command, not a target’s part of a station packet. -/
def WaitCmd.ownCmd (w : WaitCmd) : Bool := w.route.isNone

/-- Completion slots of a queue reserved or given back (R349). -/
def Dev.cqReserve (s : Dev) (q n : Nat) : Dev := s.setQueue q { s.queue q with cqRes := (s.queue q).cqRes + n }
def Dev.cqReturn (s : Dev) (q n : Nat) : Dev := s.setQueue q { s.queue q with cqRes := (s.queue q).cqRes - n }

/-! ### The end of a command of a host queue or the mailbox -/

/-- The final reply of a command, or its omission under NO_REPLY (R359); slots and granule go back (R29, R349). -/
def Dev.finishHost (s : Dev) (w : WaitCmd) (r : Reply) : Dev :=
  let s := s.dropWait w
  let b := s.replyBytes w.pkt r
  let skip := pNoReply w.pkt && r.status == sOK
  match w.src with
  | .queue q =>
    let s := s.cqReturn q (if w.answered then 1 else 2)
    let s := if skip then s else s.cqPost q b
    s.free1 (36 + q) w.gran
  | .mailbox =>
    if skip then (s.set Reg.HIF_MBX_STAT_BUSY 0).free1 36 w.gran
    else if s.isOn Reg.HIF_MBX_STAT_VALID then
      { s with host := { s.host with mbx := { s.host.mbx with queued := some b, queuedGran := w.gran } } }
    else (s.mbxShow b true).free1 36 w.gran
  | .station _ _ => s

/-! ### Station answers (R282) -/

/-- Address and length of the bulk data a command loads; none when it loads none. -/
def bulkIn (p : Packet) : Option (Nat × Nat) :=
  let a := pN p 24 8
  match pOp p with
  | 0x06 => some (a, pN p 16 2)
  | 0x10 => some (a, 384)
  | 0x17 => some (a, 384)
  | 0x18 => some (a, 4096)
  | 0x1A => some (a, 160)
  | 0x30 => some (a, 16448)
  | 0x40 => some (a, 2048)
  | 0x42 => some (a, 128)
  | 0x50 => some (a, 320)
  | 0x60 => some (a, 1088)
  | 0x73 => some (a, 64)
  | 0x80 => some (a, 128)
  | 0x88 => some (a, 216)
  | 0xA0 => some (a, 256)
  | 0xA1 => some (a, pN p 20 4)
  | _ => none

/-- A transaction replaced; one taken off the list. -/
def Dev.setTxn (s : Dev) (x : Txn) : Dev :=
  s.setKrk { s.krk with txns := s.krk.txns.map (fun y => if y.id == x.id then x else y) }
def Dev.dropTxn (s : Dev) (x : Txn) : Dev := s.setKrk { s.krk with txns := s.krk.txns.filter (fun y => y.id != x.id) }

/-- A 512-bit map of chips (R282). -/
def chipMap (l : List Nat) : List Byte :=
  tabulate 64 (fun i => BitVec.ofNat 8 ((List.range 8).foldl (fun a j => if l.contains (8 * i + j) then a + 2 ^ j else a) 0))

/-- The coordinator’s command is over: the maps go to the station result area for an outcome other than OK, its copy’s granule is freed, and
the reply is written (R29, R282). A write to the area that fails, or an area outside the bulk window, ends it with INTERNAL (R341; for the window
DEDUCED, log entry 30). -/
def Dev.txnEnd (s : Dev) (x : Txn) (r : Reply) (failed : List Nat) : Dev :=
  let s := (s.dropTxn x).freeHold x.copy
  let base := sget (fun _ => 0) s.krk.area (srcQueue x.src)
  let at_ := base + 128 * (pTag x.pkt % 256)
  let wr := r.status != sOK && base != 0
  let ok := s.addrOk x.src at_ 128 && s.memOk x.src at_ 128
  let s := if wr && ok then
      let a := s.ask (srcUser x.src) 1
      let t := a.2.bulkWrite x.src at_ (chipMap x.targets ++ chipMap failed)
      match a.1 with
      | some h => t.freeHold h
      | none => t
    else s
  let s := onlyIf (wr && !ok) (·.busFault) s
  let r := if !wr then r else if ok then { r with result := toLe at_ 8 ++ toLe 128 4, ext := true } else { status := sINTERNAL, detail := 1 }
  match s.host.waits.find? (fun w => w.kind == .routed x.id) with
  | some w => s.finishHost w r
  | none => s

/-- The result bytes of a station packet that every target executed: theirs when they agree, else a free value (log entry 30). -/
def Dev.txnResult (s : Dev) (l : List TxnAns) : List Byte × Dev :=
  match l with
  | [] => ([], s)
  | a :: t =>
    if t.all (fun b => b.result == a.result) then (a.result, s)
    else
      let f := (List.range 4).foldl (fun (acc : List Byte × Dev) _ => (acc.1 ++ wordBytes acc.2.free.1, acc.2.free.2)) ([], s)
      f

/-- The answer of a lowest-index failing target (R282), with the code R296 adds for PRT_TRIP_CLEAR. -/
def failReply (p : Packet) (a : TxnAns) : Reply :=
  let code := if pOp p = 0x70 ∧ (a.status = sTRIP_ACTIVE ∨ a.status = sSAFETY_LOCK) then a.detail % 64 * 2 ^ 16 else 0
  { status := a.status, detail := a.chip + code }

/-- An INTERNAL status that the coordinator passes on is marked on it too (R356). -/
def Dev.failNote (s : Dev) (a : TxnAns) : Dev := onlyIf (a.status == sINTERNAL) (·.faultNote a.detail) s

/-- The failing answer of the target with the lowest index; a target that has not answered fails with PART_TIMEOUT. -/
def Txn.worst (x : Txn) (l : List TxnAns) : Option TxnAns :=
  (x.targets.filterMap (fun c => match l.find? (fun a => a.chip == c) with
    | some a => if a.status == sOK then none else some a
    | none => some { chip := c, status := sTIMEOUT, detail := 0, result := [] })).head?

/-- The targets that have failed or not answered. -/
def Txn.failing (x : Txn) (l : List TxnAns) : List Nat :=
  x.targets.filter (fun c => !l.any (fun a => a.chip == c && a.status == sOK))

/-- The outcome of R282 with the answers or acknowledgements there are. -/
def Dev.txnOutcome (s : Dev) (x : Txn) : Dev :=
  if !x.coherent then
    let bad := x.failing x.answers
    if bad.isEmpty then
      let f := s.txnResult x.answers
      f.2.txnEnd x { status := sOK, result := f.1 } []
    else s.txnEnd x { status := sPARTIAL, detail := bad.length } bad
  else if x.phase = 1 then
    let lost := x.targets.filter (fun c => !x.acks.any (fun a => a.chip == c))
    let bad := x.acks.filter (fun a => a.status != sOK)
    match x.worst (x.acks ++ lost.map (fun c => { chip := c, status := sOK, detail := 0, result := [] })) with
    | some a => (s.failNote a).txnEnd x (failReply x.pkt a) (bad.map (·.chip) ++ lost)
    | none =>
      if lost.isEmpty then
        let f := s.txnResult x.acks
        f.2.txnEnd x { status := sOK, result := f.1 } []
      else s.txnEnd x { status := sTIMEOUT, detail := lost.length } lost
  else
    match x.worst x.answers with
    | some a => (s.failNote a).txnEnd x (failReply x.pkt a) (x.failing x.answers)
    | none => s

/-- Every target has answered the present phase. -/
def Txn.complete (x : Txn) : Bool :=
  x.targets.all (fun c => (if x.phase = 1 then x.acks else x.answers).any (fun a => a.chip == c))

/-- An answer to PREPARE counts only before tick N − 1 (R281). -/
def Dev.answerLate (s : Dev) (x : Txn) : Bool := x.coherent && x.phase == 0 && decide (x.commitN ≤ s.curN + 1)

/-- An answer or acknowledgement reaches the coordinator; the reply follows once all have arrived, and for a COHERENT packet once the
acknowledgements have (R281, R282). -/
def Dev.txnAnswer (s : Dev) (id : Nat) (a : TxnAns) : Dev :=
  match s.krk.txns.find? (fun x => x.id == id) with
  | none => s
  | some x =>
    if s.answerLate x || !x.targets.contains a.chip || (if x.phase = 1 then x.acks else x.answers).any (fun b => b.chip == a.chip) then s
    else
      let x := if x.phase = 1 then { x with acks := x.acks ++ [a] } else { x with answers := x.answers ++ [a] }
      let s := s.setTxn x
      if x.complete && (!x.coherent || x.phase == 1) then s.txnOutcome x else s

/-- The bytes of an answer in a transaction. -/
def TxnAns.bytes (a : TxnAns) (id : Nat) : List Byte :=
  toLe id 4 ++ toLe a.chip 2 ++ [BitVec.ofNat 8 a.status] ++ toLe a.detail 3 ++ (a.result ++ zeros 16).take 16

/-- This chip’s answer in a transaction: a message to the coordinator, or directly when it is the coordinator. -/
def Dev.answer (s : Dev) (origin id : Nat) (r : Reply) : Dev :=
  let a : TxnAns := { chip := s.ownIndex, status := r.status, detail := r.detail, result := r.result }
  if origin = s.ownIndex then s.txnAnswer id a else s.krkSend 6 origin (a.bytes id)

/-! ### Completing, deferring -/

/-- A port’s granules are consumed, a reserved snapshot buffer is free again. -/
def Dev.linkFree (s : Dev) (link : Option Hold) : Dev :=
  match link with
  | some h => s.freeHold h
  | none => s
def Dev.bufFree (s : Dev) (buf : Option Nat) : Dev :=
  match buf with
  | some k => s.reserveBuf k false
  | none => s

/-- What a command holds beside its entry’s granule is freed: its own granules, those of the Krekai port it came in on (R24, R29, R280), and a snapshot
buffer it has not used (R389). -/
def Dev.freeAll (s : Dev) (w : WaitCmd) : Dev := ((forEach w.bulk (fun h t => t.freeHold h) s).linkFree w.link).bufFree w.buf

/-- A command completes: to its ring or the mailbox, or to its coordinator. -/
def Dev.finish (s : Dev) (w : WaitCmd) (r : Reply) : Dev :=
  let s := s.freeAll w
  match w.route with
  | some (o, id) => (s.dropWait w).answer o id r
  | none => s.finishHost w r

/-- An executing command of a source and packet completes. -/
def Dev.complete (s : Dev) (x : Option (Src × Packet × Reply)) : Dev :=
  match x with
  | none => s
  | some (src, p, r) =>
    match s.host.waits.find? (fun w => w.src == src && w.pkt == p && (w.kind == .executing || w.kind == .posted)) with
    | some w => s.finish w r
    | none => s

/-- Several replies. -/
def Dev.completeAll (s : Dev) (l : List (Src × Packet × Reply)) : Dev := forEach l (fun x t => t.complete (some x)) s

/-- A command is deferred (R358): ACCEPTED_DEFERRED with the states that accept it, and the deferral limit of this moment. -/
def Dev.defer (s : Dev) (w : WaitCmd) (mask : Nat) : Dev :=
  let lim := s.get Reg.HIF_CFG_DEFTO
  let w := { w with kind := .deferred (if lim = 0 then 0 else s.time + lim * 3200000000), answered := true }
  let s := s.setWait w
  if w.ownCmd then
    let b := s.replyBytes w.pkt { status := sDEFERRED, detail := mask }
    match w.src with
    | .queue q => (s.cqReturn q 1).cqPost q b
    | .mailbox => s.mbxShow b false
    | .station _ _ => s
  else s

end Sys2Proof.Machine
end

