-- ==== Sys2Proof/Machine/States.lean ====
section
/-! DEFINITION. Device states (R366–R376): the checks of the command that leaves CONFIG, STATE_GOTO, and resets (R290, R363, R382). -/

namespace Sys2Proof.Machine

/-! ### The configuration checks (R363), each as the BAR0 offsets it reports, in order -/

/-- FRM_PHASE (R54). -/
def Dev.checkPhase (s : Dev) : List Nat :=
  let sw := s.get Reg.FRM_PHASE_SW_END
  let ce := s.get Reg.FRM_PHASE_CMP_END
  if 400 ≤ sw ∧ sw < ce ∧ ce < s.clkN then [] else [Reg.FRM_PHASE]

/-- Comparators and pairs (R88), condition by condition. -/
def Dev.checkFront (s : Dev) : List Nat :=
  let cs := (List.range 24).filter (fun i => s.isOn (Reg.CMP_CFGi_EN i))
  let lo := fun i => s.get (Reg.CMP_CFGi_LO i)
  let hi := fun i => s.get (Reg.CMP_CFGi_HI i)
  let func := fun i => s.isOn (Reg.CMP_CFGi_FUNC i)
  let ps := List.range 8
  (cs.filter (fun i => decide (hi i ≤ lo i))).map Reg.CMP_CFGi ++
  (cs.filter (fun i => func i && (decide (hi i ≤ lo i + 2 * s.get (Reg.CMP_CFGi_HYS i)) || s.isOn (Reg.CMP_CFGi_POL i)))).map Reg.CMP_CFGi ++
  (ps.filter (fun p => s.isOn (Reg.ADC_PAIRp_CFG_METER p) && s.pairMode p != 1)).map Reg.ADC_PAIRp_CFG ++
  (ps.filter (fun p => s.pairMode p == 1 && s.get (Reg.ADC_PAIRp_CFG_JTRIG p) != 0)).map Reg.ADC_PAIRp_CFG ++
  (ps.filter (fun p => let j := s.get (Reg.ADC_PAIRp_CFG_JTRIG p); decide (26 ≤ j) && decide (j ≤ 31))).map Reg.ADC_PAIRp_CFG

/-- The grid angle (R108). -/
def Dev.checkAngle (s : Dev) : List Nat :=
  let c := s.get Reg.ANG_CFG_PLLCTX
  let b := (s.ctx c).latest
  (if c = 0 ∨ b.isEmpty ∨ imgLaw b ≠ 0x06 ∨ imgDiv b ≠ 1 then [Reg.ANG_CFG] else []) ++
  (if s.cpc < 64 ∨ s.cpc % 4 ≠ 0 then [Reg.ANG_CPC] else []) ++
  (if s.get Reg.ANG_THR_CHI ≤ s.get Reg.ANG_THR_CLO then [Reg.ANG_THR] else [])

/-- A refresh threshold Qthr = Qfull × BTHR / 256 below three frames of continuous conduction. -/
def Dev.thinBoot (s : Dev) (thold bthr : Nat) : Bool := thold != 0 && decide (bsQfull thold * bthr < 3 * s.frameSteps * 256)

/-- The modulator (R184, R185, R203). -/
def Dev.checkMod (s : Dev) : List Nat :=
  let hs := (List.range 12).filter (fun n => s.isOn (Reg.MOD_HBn_CFG_EN n) && s.get (Reg.MOD_HBn_BS_THOLD n) != 0)
  let last := fun (l : List (Nat × Nat)) (d : Nat) => ((l.getLast?).map (·.2)).getD d
  -- the PERIOD that the channel starts with: the pending one, or under UPD 1 the one last written
  let period := fun n =>
    let c := s.ch n
    if s.isOn (Reg.MOD_HBn_CFG_UPD n) then last c.wrPeriod c.active.period
    else (((c.pend.getLast?).map (·.2)).getD c.active).period
  (if s.thinBoot (s.get Reg.MOD_BSCELL_THOLD) (s.get Reg.MOD_BSCELL_BTHR) then [Reg.MOD_BSCELL] else []) ++
  (hs.filter (fun n => s.thinBoot (s.get (Reg.MOD_HBn_BS_THOLD n)) (s.get (Reg.MOD_HBn_BS_BTHR n)))).map Reg.MOD_HBn_BS ++
  (hs.filter (fun n => decide (period n ≤ bsTref (s.get (Reg.MOD_HBn_BS_TREF n)) + s.hbDT n))).map Reg.MOD_HBn_BS ++
  ((List.range 6).filter (fun g => s.nlm g && !s.mmc)).map Reg.MOD_GRPg_CAR ++
  ((List.range 6).filter (fun g => decide (s.frameSteps ≤ s.get (Reg.MOD_GRPg_PROF_NLMOFF g)))).map Reg.MOD_GRPg_PROF

/-- The station table against the whole configuration (R266). -/
def Dev.checkTable (s : Dev) : List Nat :=
  if s.krk.table.isEmpty || (s.tableOthers s.krk.table).isEmpty then [] else [0xFFFF]

/-- Every check but admission, chapter by chapter. -/
def Dev.configFails (s : Dev) : List Nat :=
  s.checkPhase ++ s.checkFront ++ s.checkAngle ++ s.checkMod ++ s.thkCheck ++ s.checkTable ++ s.mtrCheck ++
    (if s.powerBad then [Reg.PWR_LIMIT] else [])

/-- The refusal of the command that leaves CONFIG; none when every check passes. -/
def Dev.configRefusal (s : Dev) : Option (Nat × Nat) :=
  match s.configFails with
  | o :: _ => some (sBAD_PARAM, o)
  | [] => s.notAdmitted.map (fun d => (sBUSY, d))

/-! ### STATE_GOTO (R370–R376) -/

/-- The states in which a target is accepted; none for a code that is no target. -/
def gotoStates (target : Nat) : Option (List Nat) :=
  match target with
  | 2 => some [stREADY, stBLOCKED, stTRIPPED]
  | 3 => some [stCONFIG]
  | 4 => some [stREADY, stBLOCKED]
  | 5 => some [stPRECHARGE]
  | 6 => some [stSYNC, stHOLD]
  | 8 => some [stRUN]
  | 10 => some [stPRECHARGE, stSYNC, stRUN, stRIDETHROUGH, stHOLD, stORPHAN, stTRIPPED]
  | _ => none

/-- The conditions of R371 a target asks for. -/
def gotoConds (target : Nat) : List Nat :=
  match target with
  | 4 => [1, 2, 5]
  | 5 => [1, 2, 3]
  | 6 => [1, 2, 4]
  | _ => []

/-- Cells whose fresh voltage is not there for SYNC (condition 3). -/
def Dev.cellsLow (s : Dev) : Nat :=
  let vminr := match s.sweepImg with
    | some b => pVMINR b
    | none => 0
  (s.cells.recs.filter (fun r =>
    let t : CellTel := sget (fun _ => {}) s.cells.tel r.pos
    [1, 2, 3, 4].contains (s.cell r.pos).state && !(t.fresh && fLe (fMul vminr r.vnom) t.vdc))).length

/-- Enabled rings that are neither UP nor FOLDED (condition 5). -/
def Dev.ringsDown (s : Dev) : Nat :=
  ((List.range 16).filter (fun r => s.ringEn r && s.ringSt r != rsUP && s.ringSt r != rsFOLDED)).length

/-- The Detail of a condition that is not met. -/
def Dev.gotoFail (s : Dev) (c : Nat) : Option Nat :=
  match c with
  | 1 => if s.mst = mMEMBER then none else some 1
  | 2 => if s.unsync || s.isOn Reg.CLK_STAT_SRC then some 2 else none
  | 3 => if s.cellsLow = 0 then none else some (3 + 256 * s.cellsLow)
  | 4 => if fLt fZero (s.reg Reg.ANG_FREQ) then none else some 4
  | 5 => if s.ringsDown = 0 then none else some (5 + 256 * s.ringsDown)
  | _ => none

/-- A latch refuses the command: its status and the lowest latched code (R370, R374). -/
def Dev.latchRefusal (s : Dev) : Nat × Nat :=
  (if s.isOn (latF 0x2A) || s.isOn (latF 0x2B) then sSAFETY_LOCK else sTRIP_ACTIVE, s.lowestLatch)

/-- Why a target whose state check passes is refused (R370, R371, R374, R302). -/
def Dev.gotoRefusal (s : Dev) (target : Nat) : Option (Nat × Nat) :=
  if target = 3 then s.configRefusal
  else if target = 10 then
    if s.st = stTRIPPED && s.latched.any (fun c => c != 0x1C && c != 0x1D) then some s.latchRefusal else none
  else if (gotoConds target).isEmpty then none
  else if s.anyLatch then some s.latchRefusal
  else if target = 4 && !s.sf2InRun then some (sSAFETY_LOCK, 0)
  else ((gotoConds target).findSome? s.gotoFail).map (fun d => (sNOT_READY, d))

/-- The effects of entering CONFIG (R376): the chip leaves the station, Nimbus makes its save (R318), injections stop and an armed capture
aborts. -/
def Dev.enterConfig (s : Dev) (cause : Nat) : Dev :=
  let s := onlyIf s.krk.joined (·.leaveStation) s
  let s := onlyIf s.mtr.running (·.saveAsk none) s
  let s := forEach [0, 1] (fun g t => onlyIf (t.inj g).active (fun u => (u.injStop g).raise Reg.CE_FLAG_INJSTP_F) t) s
  let s := s.setGrid { s.grid with role := 0, fixed := false, stepped := false, issuing := false, shadowSeen := false, extrapTotal := 0 }
  (onlyIf s.ce.cap.armed (·.capAbort) s).enter stCONFIG cause

/-- The device leaves CONFIG (R290, R375): discovery starts on every enabled ring. -/
def Dev.leaveConfig (s : Dev) (cause : Nat) : Dev :=
  let s := forEach (List.range 16) (fun r t => t.discStart r) s.thkBudget.cellsLeaveConfig
  s.enter (if s.anyLatch then stTRIPPED else stREADY) cause

/-- The move itself. -/
def Dev.gotoMove (s : Dev) (target tag : Nat) : Dev :=
  if target = 3 then s.leaveConfig tag else if target = 2 then s.enterConfig tag else s.enter target tag

/-- STATE_GOTO at its tick. -/
def bodyStateGoto (_src : Src) (p : Packet) (s : Dev) : Ans :=
  let target := pB p 16
  if target = s.st then ansRes s [BitVec.ofNat 8 s.st]
  else
    match s.gotoRefusal target with
    | some (st, d) =>
      let s := if target = 3 then onlyIf (st == sBUSY) (·.raise Reg.FRM_FLAG_ADMREJ_F) s.thkBudget else s
      ansBad s st d
    | none =>
      let s := s.gotoMove target (pTag p)
      ansRes s [BitVec.ofNat 8 s.st]

/-! ### Resets -/

/-- The straps’ field of HIF_STAT. -/
def spimode (straps : Nat) : Bool := straps % 2 == 1

/-- The host interface after a reset: with `link` the PCIe link and its MSI-X settings stay (R363). -/
def HostSt.afterReset (h : HostSt) (link : Bool) : HostSt :=
  if link then { msixTable := h.msixTable, msixEnable := h.msixEnable, msixFnMask := h.msixFnMask, pba := h.pba } else {}

/-- The registers a reset keeps: the vault’s, and with `link` the link fields of HIF_STAT. -/
def Dev.keptRegs (s : Dev) (link : Bool) : List (Nat × Word) :=
  let keep := if link then bits (s.reg Reg.HIF_STAT) 30 26 else 0
  let w := setBits (resetWord Reg.HIF_STAT) 30 26 keep
  sset resetWord (vaultRegs s.regs) Reg.HIF_STAT w

/-- The main die reset: everything at its reset value but the vault, FRAM, fuses, QSPI, host memory and the levels on input pins; the TAP, which RESET_N
and TRST_N alone reset (R462), stays at a DEV_RESET (`link`). -/
def Dev.mainReset (s : Dev) (link : Bool) : Dev :=
  let s := s.sessionAbort.keeperCount
  let d : Dev := { regs := s.keptRegs link, freeUsed := s.freeUsed, hostMem := s.hostMem, hostBad := s.hostBad, fram := s.fram,
                   vlt := { s.vlt with mirror := [], seen := 0 }, straps := s.straps, inReset := s.inReset, out := s.out,
                   host := s.host.afterReset link,
                   img := { qspi := s.img.qspi, fuses := s.img.fuses, fuseTo := s.img.fuseTo },
                   mtr := { lkp := s.mtr.lkp },
                   prt := { fltPin := s.prt.fltPin, pinIn := s.prt.pinIn },
                   adc := { pairs := (s.adc.pairs.filter (fun x => x.2.clamp != 0)).map (fun x => (x.1, { clamp := x.2.clamp })) },
                   pins := { wake := s.pins.wake, extest := if link then s.pins.extest else none } }
  let d := { d with fram := { d.fram with reqs := d.fram.reqs.map (fun (r : FramReq) => { r with cmds := [] }) } }
  d.set Reg.IMG_STAT_EPOCH s.img.fuses

/-- The straps are sampled (R377): SPIMODE, and SLOTB and RECOV for the boot ROM. -/
def Dev.sampleStraps (s : Dev) (straps : Nat) : Dev :=
  ({ s with straps := straps % 8 }).setB Reg.HIF_STAT_SPIMODE (spimode straps)

/-- Nimbus stops with a reset, and the vault clears the last-known-power valid bit; at a failure of the main supply it keeps it (R423). -/
def Dev.lkpEnds (s : Dev) : Dev := onlyIf s.mtr.running (·.setB Reg.VLT_STAT_LKPVALID false) s

/-- DEV_RESET (R363): its reply has been written; the straps are sampled again (R377), and the levels at the balls then are a free value (log
entry 32). -/
def Dev.devReset (s : Dev) : Dev :=
  let f := (s.lkpEnds.mainReset true).free
  f.2.sampleStraps f.1.toNat

/-- RESET_N falls, or the main rails fail (R382): every output is released, and the main die is held in reset. -/
def Dev.holdReset (s : Dev) : Dev := { (({ s with inReset := true }).mainReset false) with inReset := true }

/-- RESET_N rises: BOOT, with latch 0x2C set (R290). `periods`: crystal periods the keeper counted while the main die was held. -/
def Dev.releaseReset (s : Dev) (straps periods : Nat) : Dev :=
  ({ (s.keeperOff periods) with inReset := false, evt := {} }).sampleStraps straps

end Sys2Proof.Machine
end

