-- ==== Sys2Proof/Machine/Admin.lean ====
section
/-! DEFINITION. The admin opcodes (R363), the snapshot and log opcodes (R396), and the management port (R345). -/

namespace Sys2Proof.Machine

/-! ### NOP, IDENTIFY -/

/-- NOP. -/
def bodyNop (_src : Src) (_p : Packet) (s : Dev) : Ans := ansOk s

/-- IDENTIFY; in recovery HIF_FWVER and the Krekai protocol version read 0. -/
def bodyIdentify (_src : Src) (_p : Packet) (s : Dev) : Ans :=
  ansRes s (wordBytes (s.reg Reg.HIF_ID) ++ wordBytes (s.reg Reg.HIF_FWVER) ++ toLe (s.get Reg.IMG_KPROTO_RUNKP) 2 ++ toLe 1024 2)

/-! ### Queues (R346) -/

/-- A ring size is a legal log2 size. -/
def sizeOk (k : Nat) : Bool := decide (4 ≤ k) && decide (k ≤ 12)

/-- The offsets of the fields of a Q_CREATE packet that are invalid. -/
def badQCreate (p : Packet) : List Nat :=
  let q := pB p 16
  let win := pB p 19 / 2 % 2 == 1
  badAt (q = 0 || decide (63 < q)) 16 ++ badAt (win && decide (7 < q)) 19 ++ badAt (decide (63 < pB p 20)) 20 ++
  if win then (17 :: 18 :: tabulate 16 (fun i => 24 + i)).filter (fun i => pB p i != 0)
  else
    badAt (!sizeOk (pB p 17 % 16)) 17 ++ badAt (!sizeOk (pB p 18 % 16)) 18 ++
    badAt (pN p 24 8 % 64 != 0) 24 ++ badAt (pN p 32 8 % 64 != 0) 32

/-- Q_CREATE. -/
def bodyQCreate (_src : Src) (p : Packet) (s : Dev) : Ans :=
  match lowestOf (badQCreate p) with
  | some o => ansBad s sBAD_PARAM o
  | none =>
    let q := pB p 16
    if (s.queue q).exists_ then ansBad s sBUSY 0
    else
      let b := pB p 19
      let win := b / 2 % 2 == 1
      ansOk (s.setQueue q { s.queue q with
        exists_ := true, win := win, ien := b % 2 == 1, vec := pB p 20, sqBase := pN p 24 8, cqBase := pN p 32 8,
        sqLog := if win then 4 else pB p 17 % 16, cqLog := if win then 5 else pB p 18 % 16 })

/-- A queue stops fetching; its held, deferred and posted commands are discarded and their granules freed (R358, R363). -/
def Dev.closeQueue (s : Dev) (q : Nat) : Dev :=
  let gone := s.host.waits.filter (fun w => w.src == Src.queue q && !w.kind.blocks)
  let s := forEach gone (fun w t =>
    onlyIf w.ownCmd (fun u => (u.free1 (36 + q) w.gran).cqReturn q (if w.answered then 1 else 2)) ((t.freeAll w).dropWait w)) s
  let mg := { s.host.mgt with recvs := s.host.mgt.recvs.filter (fun x => x.1 != Src.queue q) }
  let s := { s with host := { s.host with mgt := mg } }
  s.setQueue q { s.queue q with closing := true }

/-- A queue that nothing executes on goes; an ungranted entry’s granule is freed. -/
def Dev.queueDrop (s : Dev) (q : Nat) : Dev :=
  let s := match (s.queue q).granted with
    | some g => s.free1 (36 + q) g
    | none => s
  s.setQueue q {}

/-- A queue that is being deleted goes once nothing executes on it, and a Q_DELETE that waits for it completes. -/
def Dev.queueGone (s : Dev) (q : Nat) : Dev :=
  if !(s.queue q).closing || s.busyQueue q then s
  else
    let s := s.queueDrop q
    match s.host.waits.find? (fun w => pOp w.pkt == 3 && w.kind == .executing && pB w.pkt 16 == q) with
    | some w => s.finish w { status := sOK }
    | none => s

/-- Every queue that is being deleted. -/
def Dev.queuesGone (s : Dev) : Dev := forEach ((s.host.queues.filter (fun x => x.2.closing)).map (·.1)) (fun q t => t.queueGone q) s

/-- Q_DELETE: it completes once the executing command of the queue has. -/
def bodyQDelete (_src : Src) (p : Packet) (s : Dev) : Ans :=
  let q := pB p 16
  if q = 0 ∨ 63 < q ∨ !(s.queue q).exists_ ∨ (s.queue q).closing then ansBad s sBAD_PARAM 16
  else if s.busyQueue q then ansLater (s.closeQueue q)
  else ansOk ((s.closeQueue q).queueDrop q)

/-! ### Management port (R345) -/

/-- The management port is up. -/
def Dev.mgtUp (s : Dev) : Bool := s.isOn Reg.HIF_MGT_CFG_EN && s.isOn Reg.HIF_MGT_CFG_LINK

/-- MGT_SEND. The frame leaves at a time the spec does not fix after execution, so its stamp is the present one plus a free delay; without a
link it is not sent, is counted, and the stamp is free (log entry 33). -/
def bodyMgtSend (src : Src) (p : Packet) (s : Dev) : Ans :=
  let n := pN p 16 2
  if n < 60 ∨ 1514 < n then ansBad s sBAD_PARAM 16
  else
    withLoad s src 24 (pN p 24 8) n (fun s d =>
      let f := s.free
      let t := f.2
      let t := if t.mgtUp then t.send (.mgtFrame d) else t.count Reg.HIF_MGT_CNT_TXERR
      ansRes t (zeros 8 ++ toLe (s.time + f.1.toNat) 8))

/-- MGT_RECV: the buffer is posted. -/
def bodyMgtRecv (src : Src) (p : Packet) (s : Dev) : Ans :=
  let n := pN p 16 2
  if n < 64 ∨ 1514 < n then ansBad s sBAD_PARAM 16
  else if !s.addrOk src (pN p 24 8) n then ansBad s sBAD_PARAM 24
  else if 8 ≤ s.host.mgt.recvs.length then ansBad s sBUSY 0
  else ansLater { s with host := { s.host with mgt := { s.host.mgt with recvs := s.host.mgt.recvs ++ [(src, p)] } } }

/-- The six bytes of HIF_MAC. -/
def Dev.macBytes (s : Dev) : List Byte := toLe (s.reg Reg.HIF_MAC_LO).toNat 4 ++ toLe (s.get Reg.HIF_MAC_HI_MAC) 2

/-- The PTP multicast address of the selected transport (IEEE 1588: PRESUMED, log entry 33). -/
def Dev.ptpAddr (s : Dev) : List Byte :=
  if s.isOn Reg.HIF_MGT_CFG_TRANSP then [0x01, 0x00, 0x5E, 0x00, 0x01, 0x81] else [0x01, 0x1B, 0x19, 0x00, 0x00, 0x00]

/-- A frame the port accepts. -/
def Dev.mgtAccepts (s : Dev) (d : List Byte) : Bool :=
  let a := d.take 6
  s.mgtUp && (a == s.macBytes || a == List.replicate 6 0xFF || a == s.ptpAddr)

/-- Where the PTP message of a frame begins; none for a frame that is not PTP of the selected transport. -/
def Dev.ptpAt (s : Dev) (d : List Byte) : Option Nat :=
  let et := 256 * byteAt d 12 + byteAt d 13
  if s.isOn Reg.HIF_MGT_CFG_TRANSP then
    let port := 256 * byteAt d 36 + byteAt d 37
    if et = 0x0800 ∧ byteAt d 14 = 0x45 ∧ byteAt d 23 = 17 ∧ (port = 319 ∨ port = 320) then some 42 else none
  else if et = 0x88F7 then some 14 else none

/-- PTP time of a station time. -/
def Dev.ptpTime (s : Dev) (t : Nat) : Int :=
  ((t * 5 / 16 : Nat) : Int) + signed 64 (s.pair Reg.HIF_PTPOFS_LO Reg.HIF_PTPOFS_HI)

/-- clockClass (R345). -/
def Dev.ptpClass (s : Dev) : Nat := if s.unsync || s.freerun then 248 else s.get Reg.HIF_MGT_CFG_CCLASS

/-- The UDP source address and port of a message under TRANSP 1: 319 for an event message, 320 for a general one (R345; which is which PRESUMED,
IEEE 1588, log entry 33); none on Ethernet. -/
def Dev.ptpUdp (s : Dev) (type : Nat) : Option (Word × Nat) :=
  if s.isOn Reg.HIF_MGT_CFG_TRANSP then some (s.reg Reg.HIF_MGT_IP, if type < 8 then 319 else 320) else none

/-- A PTP message sent; without a link it is counted as not sent. -/
def Dev.ptpSend (s : Dev) (type seq t : Nat) : Dev :=
  if s.isOn Reg.HIF_MGT_CFG_LINK then
    s.send (.ptp type seq (s.get Reg.HIF_MGT_CFG_DOMAIN) s.ptpClass (s.ptpTime t) (s.ptpUdp type))
  else s.count Reg.HIF_MGT_CNT_TXERR

/-- The 1 s interval of Sync (or Announce) has passed; a Follow_Up with the Sync’s stamp follows it, the clock being two-step. -/
def Dev.ptpDue (s : Dev) (announce : Bool) : Dev :=
  if !s.isOn Reg.HIF_MGT_CFG_EN then s
  else
    let g := s.host.mgt
    let t := if announce then s.ptpSend 11 g.seqAnn s.time else (s.ptpSend 0 g.seqSync s.time).ptpSend 8 g.seqSync s.time
    let g := if announce then { g with seqAnn := (g.seqAnn + 1) % 65536 } else { g with seqSync := (g.seqSync + 1) % 65536 }
    { t with host := { t.host with mgt := g } }

/-- A management frame arrives, its start-of-frame delimiter at a stamp: PTP goes to the ordinary clock, which answers Delay_Req; every other
accepted frame completes the oldest MGT_RECV or is dropped. -/
def Dev.mgtRx (s : Dev) (d : List Byte) (tdc : Nat) : Dev × Option (Src × Packet × Reply) :=
  if !s.mgtAccepts d then (s, none)
  else
    match s.ptpAt d with
    | some o =>
      if byteAt d o % 16 = 1 ∧ byteAt d (o + 4) = s.get Reg.HIF_MGT_CFG_DOMAIN then
        (s.ptpSend 9 (256 * byteAt d (o + 30) + byteAt d (o + 31)) (s.stamp tdc), none)
      else (s, none)
    | none =>
      match s.host.mgt.recvs with
      | [] => ((s.count Reg.HIF_MGT_CNT_RXDROP).hifFlag Reg.HIF_FLAG_MGTDROP_F, none)
      | (src, p) :: t =>
        let s := { s with host := { s.host with mgt := { s.host.mgt with recvs := t } } }
        let n := pN p 16 2
        let a := withStore s src 24 (pN p 24 8) (d.take n) (fun u =>
          ansRes u (toLe (min d.length n) 2 ++ [BitVec.ofNat 8 (b2n (decide (n < d.length)))] ++ zeros 5 ++ toLe (s.stamp tdc) 8))
        (a.1.letsGo, a.2.map (fun r => (src, p, r)))

/-! ### Snapshots and the log (R396) -/

/-- SNP_TRIGGER. Its reply follows when its core clock has passed: until then a release of that clock acts before the trigger (R388). -/
def bodySnpTrigger (src : Src) (p : Packet) (s : Dev) : Ans :=
  let r := s.snapTrigger 4 (s.stamp 0) (pTag p)
  ansLater { r.2 with snp := { r.2.snp with asked := r.2.snp.asked ++ [{ clk := s.clocks, src := src, pkt := p, buf := r.1 }] } }

/-- The SNP_TRIGGER commands whose core clock has passed complete. -/
def Dev.snapReplies (s : Dev) : Dev :=
  let done := s.snp.asked.filter (fun x => x.clk != s.clocks)
  if done.isEmpty then s
  else
    ({ s with snp := { s.snp with asked := s.snp.asked.filter (fun x => x.clk == s.clocks) } }).completeAll (done.map (fun (x : SnapAsk) =>
      (x.src, x.pkt, match x.buf with
        | some k => { status := sOK, result := [BitVec.ofNat 8 k] }
        | none => { status := sBUSY })))

/-- SNP_READ. -/
def bodySnpRead (src : Src) (p : Packet) (s : Dev) : Ans :=
  let k := pB p 16
  if 3 < k then ansBad s sBAD_PARAM 16
  else
    match s.snapBuf k with
    | none => ansWant s src p 0 sNOT_READY
    | some sn =>
      let b := snapBytes k sn
      let first := pN p 20 4
      if b.length ≤ first then ansBad s sBAD_PARAM 20
      else
        let n := pN p 32 4
        let d := if n = 0 then b.drop first else (b.drop first).take n
        withStore s src 24 (pN p 24 8) d (fun t => ansRes (onlyIf (pB p 17 % 2 == 1) (·.snapRelease (2 ^ k)) t) (toLe d.length 4))

/-- The records of the log from a sequence number on; none for a number newer than the newest. -/
def Dev.logFrom (s : Dev) (first : Nat) : Option (List LogRec) :=
  if first = 0 then some s.log
  else
    match s.log.dropWhile (fun r => r.seq != first) with
    | [] =>
      let newest := s.get Reg.SNP_LOGSEQ_SEQ
      if !s.log.isEmpty && decide ((newest + 2 ^ 32 - first) % 2 ^ 32 < 2 ^ 31) then some s.log else none
    | l => some l

/-- LOG_READ. -/
def bodyLogRead (src : Src) (p : Packet) (s : Dev) : Ans :=
  let n := pN p 20 2
  if n = 0 ∨ 1024 < n then ansBad s sBAD_PARAM 20
  else
    match s.logFrom (pN p 16 4) with
    | none => ansWant s src p 0 sNOT_READY
    | some l =>
      let oldest := match s.log with
        | [] => 0
        | r :: _ => r.seq
      let l := l.take n
      withStore s src 24 (pN p 24 8) ((l.map LogRec.bytes).flatten) (fun t => ansRes t (toLe l.length 4 ++ toLe oldest 4))

end Sys2Proof.Machine
end

