-- ==== Sys2Proof/Machine/OpTable.lean ====
section
/-! DEFINITION. The master opcode table (R364): for each opcode the packet bytes it defines (R13), the states that accept it (R355), and what
it does. -/

namespace Sys2Proof.Machine

/-- Every state a chip reports. -/
def allStates : List Nat := (List.range 11).map (· + 1)

/-- Every state but those listed. -/
def without (l : List Nat) : List Nat := allStates.filter (fun x => !l.contains x)

/-- Every state but BOOT. -/
def notBoot : List Nat := without [stBOOT]

/-- One row of the table. -/
structure OpRow where
  /-- Ranges of defined parameter bytes. -/
  defined : List (Nat × Nat)
  accepted : List Nat
  body : Src → Packet → Dev → Ans

/-- DEV_RESET: the reply is written before the reset. -/
def bodyDevReset (src : Src) (p : Packet) (s : Dev) : Ans :=
  let t := s.complete (some (src, p, { status := sOK }))
  (t.devReset, none)

/-- Admin opcodes. -/
def opAdmin (code : Nat) : Option OpRow :=
  match code with
  | 0x00 => some ⟨[], allStates, bodyNop⟩
  | 0x01 => some ⟨[], allStates, bodyIdentify⟩
  | 0x02 => some ⟨[(16, 20), (24, 39)], allStates, bodyQCreate⟩
  | 0x03 => some ⟨[(16, 16)], allStates, bodyQDelete⟩
  | 0x04 => some ⟨[(16, 16)], allStates, bodyStateGoto⟩
  | 0x05 => some ⟨[], [stBOOT, stCONFIG, stREADY, stBLOCKED, stTRIPPED], bodyDevReset⟩
  | 0x06 => some ⟨[(16, 17), (24, 31)], notBoot, bodyMgtSend⟩
  | 0x07 => some ⟨[(16, 17), (24, 31)], notBoot, bodyMgtRecv⟩
  | _ => none

/-- Cirrus opcodes (R140). -/
def opCirrus (code : Nat) : Option OpRow :=
  match code with
  | 0x10 => some ⟨[(16, 17), (24, 31)], (without [stBOOT, stRIDETHROUGH, stORPHAN]), bodyCeCtxLoad⟩
  | 0x11 => some ⟨[(16, 17)], (without [stBOOT, stRIDETHROUGH, stORPHAN]), bodyCeCtxEnable⟩
  | 0x12 => some ⟨[(16, 16)], (without [stBOOT, stRIDETHROUGH, stORPHAN]), bodyCeCtxRemove⟩
  | 0x13 => some ⟨[(16, 16), (24, 31)], notBoot, bodyCeCtxRead⟩
  | 0x14 => some ⟨[(16, 16), (24, 63)], notBoot, bodyCeSpSet⟩
  | 0x15 => some ⟨[(16, 18), (32, 63)], (without [stBOOT, stRIDETHROUGH, stORPHAN]), bodyCeParamSet⟩
  | 0x16 => some ⟨[(16, 16)], (without [stBOOT, stRIDETHROUGH, stORPHAN]), bodyCeStateReset⟩
  | 0x17 => some ⟨[(24, 31)], notBoot, bodyCeCostQuery⟩
  | 0x18 => some ⟨[(16, 16), (24, 31)], notBoot, bodyCeTblLoad⟩
  | 0x19 => some ⟨[(16, 16), (24, 31)], notBoot, bodyCeTblRead⟩
  | 0x1A => some ⟨[(16, 17), (24, 31)], [stREADY, stSYNC, stRUN], bodyCeInjStart⟩
  | 0x1B => some ⟨[(16, 16)], notBoot, bodyCeInjStop⟩
  | 0x1C => some ⟨[(16, 27), (32, 63)], (without [stBOOT, stCONFIG]), bodyCeCapArm⟩
  | 0x1D => some ⟨[(16, 31)], notBoot, bodyCeCapRead⟩
  | 0x1E => some ⟨[], notBoot, bodyCeCapAbort⟩
  | _ => none

/-- Cell opcodes (R168). -/
def opCells (code : Nat) : Option OpRow :=
  match code with
  | 0x30 => some ⟨[(24, 31)], [stCONFIG], bodyCellMapLoad⟩
  | 0x31 => some ⟨[(24, 31)], notBoot, bodyCellMapRead⟩
  | 0x32 => some ⟨[(16, 19), (24, 31)], notBoot, bodyCellStatusRead⟩
  | 0x33 => some ⟨[(16, 19)], (without [stBOOT, stCONFIG]), bodyCellBypass⟩
  | 0x34 => some ⟨[(16, 19)], [stREADY, stBLOCKED], bodyCellRestore⟩
  | 0x35 => some ⟨[(16, 19)], [stRUN], bodyCellIvSweep⟩
  | 0x36 => some ⟨[(16, 19), (24, 31)], notBoot, bodyCellIvRead⟩
  | 0x37 => some ⟨[(16, 20), (32, 35)], (without [stBOOT, stCONFIG]), bodyCellVrefSet⟩
  | 0x38 => some ⟨[(16, 19), (32, 35)], (without [stBOOT, stCONFIG]), bodyCellSocSet⟩
  | 0x39 => some ⟨[(16, 16)], [stSYNC, stRUN], bodyCellRotate⟩
  | _ => none

/-- Modulator opcodes (R202). -/
def opMod (code : Nat) : Option OpRow :=
  match code with
  | 0x40 => some ⟨[(24, 31)], notBoot, bodyModSlotLoad⟩
  | 0x41 => some ⟨[], notBoot, bodyModCellCommit⟩
  | 0x42 => some ⟨[(24, 31)], [stCONFIG, stREADY, stBLOCKED], bodyModProfLoad⟩
  | 0x43 => some ⟨[(24, 31)], notBoot, bodyModProfRead⟩
  | 0x44 => some ⟨[(16, 18)], notBoot, bodyModFltClear⟩
  | 0x45 => some ⟨[(16, 20), (32, 63)], [stREADY], bodyModEdgeTest⟩
  | 0x46 => some ⟨[(16, 19), (24, 31)], notBoot, bodyModBsRead⟩
  | 0x47 => some ⟨[(16, 16), (24, 31)], notBoot, bodyModSlotRead⟩
  | _ => none

/-- Grid opcodes (R232). -/
def opGrid (code : Nat) : Option OpRow :=
  match code with
  | 0x50 => some ⟨[(24, 31)], [stCONFIG], bodyGridProfileLoad⟩
  | 0x51 => some ⟨[(24, 31)], notBoot, bodyGridProfileRead⟩
  | 0x52 => some ⟨[(24, 31)], (without [stBOOT, stCONFIG]), bodyGridStatusRead⟩
  | 0x53 => some ⟨[(16, 16)], (without [stBOOT, stCONFIG, stRIDETHROUGH]), bodyGridIslArm⟩
  | 0x54 => some ⟨[], (without [stBOOT, stCONFIG]), bodyGridZrefReset⟩
  | 0x55 => some ⟨[(16, 16)], [stREADY, stBLOCKED], bodyGridTripTest⟩
  | _ => none

/-- Station opcodes (R284). -/
def opStation (code : Nat) : Option OpRow :=
  match code with
  | 0x60 => some ⟨[(24, 31)], [stCONFIG], bodyStnTableLoad⟩
  | 0x61 => some ⟨[(24, 31)], notBoot, bodyStnTableRead⟩
  | 0x62 => some ⟨[], [stREADY, stBLOCKED], bodyStnJoin⟩
  | 0x63 => some ⟨[], [stREADY, stBLOCKED, stTRIPPED], bodyStnLeave⟩
  | 0x64 => some ⟨[(24, 31)], notBoot, bodyStnStatusRead⟩
  | 0x65 => some ⟨[(16, 16), (24, 63)], (without [stBOOT, stCONFIG, stORPHAN]), bodyStnSlotSet⟩
  | 0x66 => some ⟨[(16, 17), (24, 31)], notBoot, bodyStnResarea⟩
  | 0x67 => some ⟨[(16, 16)], (without [stBOOT, stCONFIG, stORPHAN]), bodyStnSquallAt⟩
  | _ => none

/-- Protection and safety opcodes (R313). -/
def opProtect (code : Nat) : Option OpRow :=
  match code with
  | 0x70 => some ⟨[(16, 16)], notBoot, bodyTripClear⟩
  | 0x71 => some ⟨[], notBoot, bodyTripForce⟩
  | 0x72 => some ⟨[(16, 16)], [stREADY, stBLOCKED], bodyPathTest⟩
  | 0x73 => some ⟨[(24, 31)], [stCONFIG], bodySafLoad⟩
  | 0x74 => some ⟨[(16, 19)], [stCONFIG], bodySafConfirm⟩
  | 0x75 => some ⟨[(24, 31)], notBoot, bodySafRead⟩
  | 0x76 => some ⟨[(16, 17)], (without [stBOOT, stCONFIG]), bodyCtoSet⟩
  | 0x77 => some ⟨[(16, 16)], [stREADY, stBLOCKED, stTRIPPED], bodyAccess⟩
  | _ => none

/-- Metering opcodes (R339). -/
def opMeter (code : Nat) : Option OpRow :=
  match code with
  | 0x80 => some ⟨[(24, 31)], [stCONFIG], bodyMtrCfgLoad⟩
  | 0x81 => some ⟨[(24, 31)], notBoot, bodyMtrCfgRead⟩
  | 0x82 => some ⟨[(24, 31)], notBoot, bodyMtrAccRead⟩
  | 0x83 => some ⟨[(16, 17), (24, 31)], notBoot, bodyMtrIntvRead⟩
  | 0x84 => some ⟨[(16, 17), (24, 31)], notBoot, bodyMtrEvtRead⟩
  | 0x85 => some ⟨[(24, 31)], (without [stBOOT, stCONFIG]), bodyMtrHarmRead⟩
  | 0x86 => some ⟨[(24, 31)], notBoot, bodyMtrUnsavedRead⟩
  | 0x87 => some ⟨[], (without [stBOOT, stCONFIG]), bodyMtrSaveNow⟩
  | 0x88 => some ⟨[(24, 31)], [stCONFIG], bodyMtrAccPreset⟩
  | _ => none

/-- Snapshot opcodes (R396). -/
def opSquall (code : Nat) : Option OpRow :=
  match code with
  | 0x90 => some ⟨[], notBoot, bodySnpTrigger⟩
  | 0x91 => some ⟨[(16, 17), (20, 35)], notBoot, bodySnpRead⟩
  | 0x92 => some ⟨[(16, 21), (24, 31)], notBoot, bodyLogRead⟩
  | _ => none

/-- Image opcodes (R414). -/
def opImage (code : Nat) : Option OpRow :=
  match code with
  | 0xA0 => some ⟨[(16, 16), (24, 35)], allStates, bodyImgBegin⟩
  | 0xA1 => some ⟨[(16, 35)], allStates, bodyImgBlock⟩
  | 0xA2 => some ⟨[(32, 35)], allStates, bodyImgVerify⟩
  | 0xA3 => some ⟨[(16, 16), (32, 35)], (without [stRIDETHROUGH, stORPHAN]), bodyImgHandover⟩
  | 0xA4 => some ⟨[(32, 35)], allStates, bodyImgAbort⟩
  | 0xA5 => some ⟨[], allStates, bodyImgStatus⟩
  | _ => none

/-- Power and vault opcodes (R437). -/
def opPower (code : Nat) : Option OpRow :=
  match code with
  | 0xB0 => some ⟨[(24, 31)], notBoot, bodyPwrStatus⟩
  | 0xB1 => some ⟨[(24, 31)], notBoot, bodyVltStatus⟩
  | 0xB2 => some ⟨[(16, 19), (24, 31)], notBoot, bodyVltFram⟩
  | _ => none

/-- The row of an opcode; none for a reserved one (R364). -/
def opRow (code : Nat) : Option OpRow :=
  match code / 16 with
  | 0 => opAdmin code
  | 1 => opCirrus code
  | 3 => opCells code
  | 4 => opMod code
  | 5 => opGrid code
  | 6 => opStation code
  | 7 => opProtect code
  | 8 => opMeter code
  | 9 => opSquall code
  | 10 => opImage code
  | 11 => opPower code
  | _ => none

end Sys2Proof.Machine
end

