-- ==== Sys2Proof/Machine/Submit.lean ====
section
/-! DEFINITION. What happens to a command packet: the checks of R355, holding and deferral (R357, R358), station-scoped and COHERENT packets
(R280–R282), fetching (R349), the mailbox (R360–R362) and the doorbells (R348). -/

namespace Sys2Proof.Machine

/-! ### Checks (R355) -/

/-- STN_SQUALL_AT sets COHERENT and STATION_SCOPE itself (R284). -/
def coherent (p : Packet) : Bool := pCoherent p || pOp p == 0x67
def stationScope (p : Packet) : Bool := pStation p || pOp p == 0x67

/-- The horizon of an execute-at, 3,600 s in TU (R357). -/
def horizonTU : Nat := 11520000000000

/-- An image opcode that carries an address word (R405). -/
def imgAddr (p : Packet) : Bool := decide (0xA0 ≤ pOp p) && decide (pOp p ≤ 0xA4)

/-- The byte of a packet lies in one of the ranges. -/
def inRanges (l : List (Nat × Nat)) (i : Nat) : Bool := l.any (fun r => decide (r.1 ≤ i) && decide (i ≤ r.2))

/-- Step 2: the offsets that fail. -/
def Dev.badStep2 (s : Dev) (src : Src) (p : Packet) (row : OpRow) : List Nat :=
  badAt (decide (16 ≤ pFlags p) || (pCoherent p && !pStation p)) 1 ++
  badAt (!fromStation src && pQueue p != srcQueue src) 4 ++
  badAt (decide (48 < pLen p)) 6 ++
  badAt (decide (s.time + horizonTU < pExecAt p)) 8 ++
  ((List.range 48).map (· + 16)).filter (fun i => !inRanges row.defined i && byteAt p i != 0) ++
  badAt (imgAddr p && !pStation p && pN p 32 4 != 0) 32

/-- The contexts a packet names (R350). -/
def ctxNames (p : Packet) : List Nat :=
  match pOp p with
  | 0x10 => [pB p 16]
  | 0x11 => [pB p 16]
  | 0x12 => [pB p 16]
  | 0x13 => [pB p 16]
  | 0x14 => tabulate (min 8 (pB p 16)) (fun i => pB p (24 + i))
  | 0x15 => [pB p 16]
  | 0x16 => [pB p 16]
  | 0x1A => [pB p 17]
  | _ => []

/-- A context is not the queue’s own (R350). -/
def unbound (src : Src) (c : Nat) : Bool :=
  match src with
  | .queue q => q != 0 && c != q
  | _ => false

/-- Context `c` is no loaded one where the packet needs one (R140). -/
def Dev.noCtx (s : Dev) (p : Packet) (c : Nat) : Bool := c == 0 || decide (63 < c) || (pOp p != 0x10 && !(s.ctx c).loaded)

/-- The contexts of the channel words of CE_CAP_ARM (R137). -/
def capCtxs (p : Packet) : List Nat :=
  (tabulate (min 8 (pB p 16)) (fun i => pW p (32 + 4 * i))).filterMap (fun w =>
    if decide (1 ≤ bits w 31 28) && decide (bits w 31 28 ≤ 4) then some (bits w 13 8) else none)

/-- Step 3: the first context that fails (R140, R350); RCTX of CE_CAP_ARM may be 0, and neither it nor a channel’s context is bound to the queue
(log entry 25). -/
def Dev.badContext (s : Dev) (src : Src) (p : Packet) : Option Nat :=
  if pOp p = 0x1C then ((if pB p 17 = 0 then [] else [pB p 17]) ++ capCtxs p).find? (s.noCtx p)
  else (ctxNames p).find? (fun c => unbound src c || s.noCtx p c)

/-- The states that accept a packet (step 4); R126 and R140 narrow them for PLLCTX and the cell sweep, R370 by the target. -/
def Dev.acceptList (s : Dev) (p : Packet) (row : OpRow) : List Nat :=
  match pOp p with
  | 0x04 => (gotoStates (pB p 16)).getD []
  | 0x11 => if pB p 17 % 2 = 0 && s.pinned (pB p 16) false then [stCONFIG] else row.accepted
  | 0x12 => if s.pinned (pB p 16) true then [stCONFIG] else row.accepted
  | _ => row.accepted

/-- The Detail of step 4. -/
def stateMask (l : List Nat) : Nat := l.foldl (fun a x => a + 2 ^ x) 0

/-- The present state accepts the packet; a STATE_GOTO to the present state passes (R370). -/
def Dev.accepts (s : Dev) (p : Packet) (row : OpRow) : Bool :=
  (pOp p == 0x04 && pB p 16 == s.st) || (s.acceptList p row).contains s.st

/-- A STATE_GOTO that names no target (R370). -/
def badTarget (p : Packet) : Bool := pOp p == 0x04 && (gotoStates (pB p 16)).isNone

/-! ### Execution -/

/-- The commands whose effect falls at a tick, with execute-at 0 at the next one (R368, R293, R406). -/
def tickOp (p : Packet) : Bool := [0x04, 0x05, 0x70, 0xA3].contains (pOp p)

/-- The kind of a command that is executing. -/
def runKind (p : Packet) : WaitKind := if pOp p = 0x07 then .posted else .executing

/-- The body of a command that arrived at a stamp (R16), with the granules `kept` and the snapshot buffer `buf` reserved for it: what it answers, the
further granules it holds now, and the buffer when it has not used it. -/
def Dev.runBody (s : Dev) (row : OpRow) (src : Src) (p : Packet) (data : List Byte) (kept : List Hold) (buf : Option Nat) (arrived : Nat) :
    Ans × List Hold × Option Nat :=
  let s := s.setKrk { s.krk with fwd := data }
  let s := { s with host := { s.host with arrived := arrived }, snp := { s.snp with prepBuf := buf } }
  let r := row.body src p { s with pool := { s.pool with now := [], kept := kept } }
  let l := r.1.pool.now ++ r.1.pool.kept
  (({ r.1 with pool := { r.1.pool with now := [], kept := [] }, snp := { r.1.snp with prepBuf := none } }, r.2), l, r.1.snp.prepBuf)

/-- The granules a command holds until it completes are noted with it. -/
def Dev.keepBulk (s : Dev) (w : WaitCmd) (l : List Hold) : Dev :=
  s.setWaits (s.host.waits.map (fun x => if x.order == w.order then { x with bulk := l } else x))

/-- The stamp at which a command counts as arriving: the tick’s for a held one (R357), else the present core clock’s. -/
def Dev.arrivalOf (s : Dev) (w : WaitCmd) : Nat := if w.kind.isHeld then s.tickStamp else s.stamp 0

/-- Steps 5–8. -/
def Dev.execute (s : Dev) (w : WaitCmd) (row : OpRow) : Dev :=
  let t := s.setWait { w with kind := runKind w.pkt, bulk := [], buf := none }
  let r := t.runBody row w.src w.pkt w.data w.bulk w.buf (s.arrivalOf w)
  match r.1.2 with
  | some rep => r.1.1.finish { w with bulk := r.2.1, buf := r.2.2 } rep
  | none => (r.1.1.keepBulk w r.2.1).bufFree r.2.2

/-- An IMG_HANDOVER without a VERIFIED session is refused when it is fetched, and a held one is checked again at its tick (R406). -/
def Dev.handoverUnready (s : Dev) (p : Packet) : Bool := pOp p == 0xA3 && !s.handoverReady

/-- Step 4 and what follows; `atTick`: at the tick at which the command is due. -/
def Dev.step4 (s : Dev) (w : WaitCmd) (row : OpRow) (atTick : Bool) : Dev :=
  let p := w.pkt
  if badTarget p then s.finish w { status := sBAD_PARAM, detail := 16 }
  else if s.accepts p row then
    if tickOp p && !atTick then
      if s.handoverUnready p then s.finish w { status := sNOT_READY } else s.setWait { w with kind := .atTick s.frm.tickNo }
    else s.execute w row
  else if pDeferOk p && !coherent p then s.defer w (stateMask (s.acceptList p row))
  else s.finish w { status := sSTATE_CONFLICT, detail := stateMask (s.acceptList p row) }

/-- Step 3, then holding (R357) or step 4, on the chip that executes the packet. -/
def Dev.runLocal (s : Dev) (w : WaitCmd) (row : OpRow) : Dev :=
  let p := w.pkt
  match s.badContext w.src p with
  | some c => s.finish w { status := sBAD_CONTEXT, detail := c }
  | none =>
    if pExecAt p != 0 && !coherent p && pOp p != 0x41 then
      if s.handoverUnready p then s.finish w { status := sNOT_READY }
      else s.setWait { w with kind := .held (max (pExecAt p) (s.tickStamp + 1)) }
    else s.step4 w row false

/-- A command enters the list of those without a final reply. -/
def Dev.addWait (s : Dev) (w : WaitCmd) : WaitCmd × Dev :=
  let w := { w with order := s.host.nextOrder }
  (w, { s with host := { s.host with waits := s.host.waits ++ [w], nextOrder := s.host.nextOrder + 1 } })

/-! ### COHERENT packets at a target (R281) -/

/-- The checks of PREPARE: READY is OK, with the numbers of granules the command needs and what it adds to the cost of the control items. A check that
fails answers its status; what the command would do is not done. -/
def Dev.prepCheck (s : Dev) (src : Src) (p : Packet) (row : OpRow) (data : List Byte) : Dev × Reply × List Nat × Nat :=
  match s.badContext src p with
  | some c => (s, { status := sBAD_CONTEXT, detail := c }, [], 0)
  | none =>
    if badTarget p then (s, { status := sBAD_PARAM, detail := 16 }, [], 0)
    else if !s.accepts p row then (s, { status := sSTATE_CONFLICT, detail := stateMask (s.acceptList p row) }, [], 0)
    else if pOp p = 0x70 then
      match s.wouldRefuse with
      | none => (s, { status := sOK }, [], 0)
      | some low =>
        let safe := [0x2A, 0x2B].any (fun c => s.isOn (latF c) && s.sourceActive c)
        (s, { status := if safe then sSAFETY_LOCK else sTRIP_ACTIVE, detail := low }, [], 0)
    else if pOp p = 0x05 then (s, { status := sOK }, [], 0)
    else
      let r := s.runBody row src p data [] none (s.stamp 0)
      let need := r.2.1.map (fun h => h.res + h.sh)
      let ready : Dev × Reply × List Nat × Nat := (s, { status := sOK }, need, r.1.1.ctrlSum - s.ctrlSum)
      match r.1.2 with
      | none => ready
      | some rep => if rep.status = sOK then ready else (forEach r.2.1 (fun h t => t.freeHold h) r.1.1, rep, [], 0)

/-- The buffer a STN_SQUALL_AT reserves at PREPARE (R389), each its own; none when no buffer is free. -/
def Dev.prepReserve (s : Dev) (p : Packet) : Option (Option Nat × Dev) :=
  if pOp p = 0x67 && pB p 16 % 2 == 0 then s.freeBuf.map (fun k => (some k, s.reserveBuf k true)) else some (none, s)

/-- The granules it reserves (R281). -/
def Dev.prepTake (s : Dev) (u : Nat) (need : List Nat) : List Hold × Dev :=
  need.foldl (fun (acc : List Hold × Dev) n =>
    let a := acc.2.ask u n
    match a.1 with
    | some h => (acc.1 ++ [h], a.2)
    | none => (acc.1, a.2)) ([], s)

/-- PREPARE at a target: checks, reservation, answer. -/
def Dev.prepare (s : Dev) (origin id : Nat) (src : Src) (p : Packet) (commitN : Nat) (data : List Byte) (link : Option Hold) : Dev :=
  let no := fun (t : Dev) (r : Reply) => (t.linkFree link).answer origin id r
  match opRow (pOp p) with
  | none => no s { status := sBAD_OPCODE, detail := pOp p }
  | some row =>
    let r := s.prepCheck src p row data
    if r.2.1.status ≠ sOK then no r.1 r.2.1
    else
      match r.1.prepReserve p with
      | none => no r.1 { status := sBUSY }
      | some b =>
        let g := b.2.prepTake (srcUser src) r.2.2.1
        let x : Prep := { origin := origin, id := id, src := src, pkt := p, commitN := commitN, data := data, buf := b.1, cost := r.2.2.2,
                          bulk := g.1, link := link }
        (g.2.setKrk { g.2.krk with preps := g.2.krk.preps ++ [x] }).answer origin id { status := sOK }

/-- A prepared command leaves the list. -/
def Dev.dropPrep (s : Dev) (x : Prep) : Dev :=
  s.setKrk { s.krk with preps := s.krk.preps.filter (fun y => !(y.origin == x.origin && y.id == x.id)) }

/-- The reservation of a prepared command is released (R281, R389). -/
def Dev.prepRelease (s : Dev) (x : Prep) : Dev :=
  ((forEach x.bulk (fun h t => t.freeHold h) (s.dropPrep x)).linkFree x.link).bufFree x.buf

/-- GO, in time before tick N: the command executes at that tick, in the order of R351. -/
def Dev.goPrep (s : Dev) (origin id : Nat) : Dev :=
  match s.krk.preps.find? (fun x => x.origin == origin && x.id == id) with
  | none => s
  | some x =>
    if s.curN < x.commitN then
      ((s.dropPrep x).addWait { src := x.src, pkt := x.pkt, kind := .held (x.commitN * s.frameTU), order := 0, route := some (origin, id),
                                data := x.data, bulk := x.bulk, link := x.link, buf := x.buf, cost := x.cost }).2
    else s

/-- A prepared command that waits for tick N after its GO. -/
def Dev.goneTo (s : Dev) (origin id : Nat) : Option WaitCmd :=
  s.host.waits.find? (fun w => w.route == some (origin, id) && (match w.kind with
    | .held due => decide (s.tickStamp < due)
    | _ => false))

/-- ABORT: nothing of the command executes; one that waits for tick N after a GO is dropped as well. -/
def Dev.abortPrep (s : Dev) (origin id : Nat) : Dev :=
  match s.krk.preps.find? (fun x => x.origin == origin && x.id == id), s.goneTo origin id with
  | some x, _ => s.prepRelease x
  | none, some w => (s.freeAll w).dropWait w
  | none, none => s

/-- Prepared commands without a GO by their tick are released. -/
def Dev.expirePreps (s : Dev) : Dev := forEach (s.krk.preps.filter (fun x => decide (x.commitN ≤ s.curN))) (fun x t => t.prepRelease x) s

/-! ### Routing at the coordinator (R280–R282) -/

/-- Where a packet carries its address word (R20); none for an opcode without one. -/
def addrAt (p : Packet) : Option Nat :=
  let op := pOp p
  if (0x32 ≤ op ∧ op ≤ 0x38) ∨ op = 0x45 ∨ op = 0x46 then some 16
  else if imgAddr p then some 32 else none

/-- The chips an address word names. -/
def Dev.namedChips (s : Dev) (w : Nat) : List Nat :=
  match awScope w with
  | 4 => bayChips s.krk.table (awBay w)
  | 5 => stChips s.krk.table
  | _ =>
    let i := 16 * awBay w + awChip w
    if i = s.chipIndex ∨ stPresent s.krk.table i then [i] else []

/-- An address word of a scope its opcode does not take (R168, R202, R405). -/
def badScope (p : Packet) (w : Nat) : Bool :=
  if imgAddr p then decide (awScope w < 3) else decide (3 < awScope w)

/-- The targets of a station-scoped packet, or its refusal. Until the commit of a loss every MEMBER of the previous plan is one (R271). -/
def Dev.routeTargets (s : Dev) (p : Packet) : Reply ⊕ List Nat :=
  match addrAt p with
  | none => if s.mst = mMEMBER then .inr s.planSet else .inl { status := sABORTED }
  | some o =>
    let w := pN p o 4
    let l := s.namedChips w
    if pOp p = 0xA3 && pCoherent p then .inl { status := sBAD_PARAM, detail := 1 }
    else if pOp p = 0xA3 && awScope w != 3 then .inl { status := sBAD_PARAM, detail := 32 }
    else if !awFormOk w || badScope p w || l.isEmpty then .inl { status := sBAD_PARAM, detail := awAddr w }
    else if s.mst != mMEMBER && l.any (· != s.chipIndex) then .inl { status := sABORTED }
    else .inr l

/-- The bytes of a forwarded packet, or of its PREPARE. -/
def packetBytes (origin id : Nat) (commitN : Option Nat) (p : Packet) (data : List Byte) : List Byte :=
  toLe origin 2 ++ toLe id 4 ++ (match commitN with
    | some n => toLe n 8
    | none => []) ++ p ++ data

/-- Address and length of the bulk data that a command reads out; the length is 0 where only the chip that executes it knows it. -/
def bulkOut (p : Packet) : Option (Nat × Nat) :=
  let a := pN p 24 8
  match pOp p with
  | 0x07 => some (a, pN p 16 2)
  | 0x13 => some (a, 384)
  | 0x19 => some (a, 4096)
  | 0x1D => some (a, 0)
  | 0x31 => some (a, 16448)
  | 0x32 => some (a, 0)
  | 0x36 => some (a, 0)
  | 0x43 => some (a, 128)
  | 0x46 => some (a, 0)
  | 0x47 => some (a, 2048)
  | 0x51 => some (a, 320)
  | 0x52 => some (a, 96)
  | 0x61 => some (a, 1088)
  | 0x64 => some (a, 128)
  | 0x75 => some (a, 64)
  | 0x81 => some (a, 128)
  | 0x82 => some (a, 224)
  | 0x83 => some (a, 0)
  | 0x84 => some (a, 0)
  | 0x85 => some (a, 1824)
  | 0x86 => some (a, 64)
  | 0x91 => some (a, 0)
  | 0x92 => some (a, 0)
  | 0xB0 => some (a, 64)
  | 0xB1 => some (a, 64)
  | 0xB2 => some (a, pN p 18 2)
  | _ => none

/-- The bulk data a forwarded packet takes along; a refusal where its address is not legal or the coordinator cannot read it (R341, R344). Where the
length of a read-out is known only to its target, its address alone is checked here, and the length when the data comes. -/
def Dev.forwardData (s : Dev) (src : Src) (p : Packet) : (Dev × Reply) ⊕ List Byte :=
  match bulkIn p with
  | none => if (bulkOut p).any (fun x => !s.addrOk src x.1 x.2) then .inl (s, { status := sBAD_PARAM, detail := 24 }) else .inr []
  | some (a, n) =>
    if 65536 < n then .inr []
    else if !s.addrOk src a n then .inl (s, { status := sBAD_PARAM, detail := 24 })
    else if s.memOk src a n then .inr (s.bulkRead src a n)
    else .inl (s.busFault, { status := sINTERNAL, detail := 1 })

/-- The commit frame of a COHERENT packet as a tick number; STN_SQUALL_AT interprets execute-at as its trigger time and commits as one with
execute-at 0 (log entry 30). -/
def Dev.commitFrame (s : Dev) (p : Packet) : Nat :=
  if pExecAt p = 0 ∨ pOp p = 0x67 then s.curN + 2 * s.lsFrames + 1 else cdiv (pExecAt p) s.frameTU

/-- An execute-at that leaves too few frames. -/
def Dev.tooSoon (s : Dev) (p : Packet) : Bool :=
  pExecAt p != 0 && decide (cdiv (pExecAt p) s.frameTU < s.curN + 2 * s.lsFrames + 1)

/-- The first frame in which missing answers are given up: TOUT frames after receipt, or after the execute-at (log entry 30). -/
def Dev.answerBy (s : Dev) (p : Packet) : Nat := max s.curN (cdiv (pExecAt p) s.frameTU) + stTout s.krk.table

/-- The packet goes to its targets: PREPARE for a COHERENT one, else the packet itself. -/
def Dev.forward (s : Dev) (w : WaitCmd) (row : OpRow) (id : Nat) (data : List Byte) (commitN : Nat) (targets : List Nat) : Dev :=
  let p := w.pkt
  let own := s.ownIndex
  let head := packetBytes own id (if coherent p then some commitN else none) p data
  let s := forEach (targets.filter (· != own)) (fun c t => t.krkSend (if coherent p then 4 else 3) c head) s
  if !targets.contains own then s
  else if coherent p then s.prepare own id w.src p commitN data none
  else
    let a := s.addWait { src := w.src, pkt := p, kind := .executing, order := 0, route := some (own, id), data := data }
    a.2.runLocal a.1 row

/-- A station-scoped packet at its coordinator. -/
def Dev.route (s : Dev) (w : WaitCmd) (row : OpRow) : Dev :=
  let p := w.pkt
  match s.routeTargets p with
  | .inl r => s.finish w r
  | .inr targets =>
    if coherent p && s.tooSoon p then s.finish w { status := sBAD_PARAM, detail := 8 }
    else
      match s.forwardData w.src p with
      | .inl a => a.1.finish w a.2
      | .inr data =>
        let need := 1 + cdiv data.length 256
        let u := srcUser w.src
        match s.ask u need with
        | (none, s) => s.noSpace.finish w { status := sNO_SPACE, detail := s.lacks u need }
        | (some h, s) =>
            let id := s.krk.nextTxn
            let n := s.commitFrame p
            let x : Txn := { id := id, src := w.src, pkt := p, coherent := coherent p, targets := targets, commitN := n,
                             view := s.get Reg.KRK_VIEW_VIEWNUM, deadline := s.answerBy p, copy := h }
            let s := s.setKrk { s.krk with txns := s.krk.txns ++ [x], nextTxn := id + 1 }
            (s.setWait { w with kind := .routed id }).forward w row id data n targets

/-- The bytes of GO or ABORT. -/
def goBytes (origin id : Nat) (go : Bool) : List Byte := toLe origin 2 ++ toLe id 4 ++ [BitVec.ofNat 8 (b2n go)]

/-- GO or ABORT to every target. -/
def Dev.decide_ (s : Dev) (x : Txn) (go : Bool) : Dev :=
  let s := forEach (x.targets.filter (· != s.ownIndex)) (fun c t => t.krkSend 5 c (goBytes t.ownIndex x.id go)) s
  if !x.targets.contains s.ownIndex then s
  else if go then s.goPrep s.ownIndex x.id else s.abortPrep s.ownIndex x.id

/-- The view has changed before tick N, or this chip is no MEMBER any more (R281). -/
def Dev.viewLost (s : Dev) (x : Txn) : Bool := x.view != s.get Reg.KRK_VIEW_VIEWNUM || s.mst != mMEMBER

/-- The decision in frame N − 1 (R281). -/
def Dev.txnDecide (s : Dev) (x : Txn) : Dev :=
  if s.viewLost x then (s.decide_ x false).txnEnd x { status := sABORTED } []
  else if x.failing x.answers == [] then
    let x := { x with phase := 1, deadline := x.commitN + stTout s.krk.table }
    (s.setTxn x).decide_ x true
  else (s.decide_ x false).txnOutcome x

/-- Every COHERENT transaction whose decision falls in this frame. -/
def Dev.decisions (s : Dev) : Dev :=
  forEach (s.krk.txns.filter (fun x => x.coherent && x.phase == 0 && decide (x.commitN ≤ s.curN + 1))) (fun x t => t.txnDecide x) s

/-- COHERENT transactions overtaken by a change of view before their tick. -/
def Dev.txnView (s : Dev) : Dev :=
  forEach (s.krk.txns.filter (fun x => x.coherent && decide (s.curN < x.commitN) && s.viewLost x)) (fun x t =>
    (t.decide_ x false).txnEnd x { status := sABORTED } []) s

/-- TOUT frames have passed: missing answers are given up (R282). -/
def Dev.txnTimeout (s : Dev) : Dev :=
  forEach (s.krk.txns.filter (fun x => decide (x.deadline ≤ s.curN) && (!x.coherent || x.phase == 1))) (fun x t => t.txnOutcome x) s

/-! ### A packet arrives -/

/-- Step 3 at the coordinator of a station-scoped packet: a context that is out of range or not the queue’s own (R350). Whether it is loaded its targets
check. -/
def badBinding (src : Src) (p : Packet) : Option Nat := (ctxNames p).find? (fun c => unbound src c || c == 0 || decide (63 < c))

/-- Steps 1 and 2 (R355), then routing or execution. -/
def Dev.arrive (s : Dev) (w : WaitCmd) : Dev :=
  let a := s.addWait w
  let p := w.pkt
  match opRow (pOp p) with
  | none => a.2.finish a.1 { status := sBAD_OPCODE, detail := pOp p }
  | some row =>
    let admin := decide (pOp p < 0x10) && (match w.src with | .queue q => q != 0 | _ => false)
    if admin then a.2.finish a.1 { status := sBAD_OPCODE, detail := pOp p }
    else
      match lowestOf (s.badStep2 w.src p row) with
      | some o => a.2.finish a.1 { status := sBAD_PARAM, detail := o }
      | none =>
        if stationScope p && w.route.isNone then
          match badBinding w.src p with
          | some c => a.2.finish a.1 { status := sBAD_CONTEXT, detail := c }
          | none => a.2.route a.1 row
        else a.2.runLocal a.1 row

/-! ### Messages from other chips -/

/-- An answer at the coordinator: the bulk data of a read-out goes to the bulk address of the packet. An address that is not legal for its length, or a
write that fails, makes the target’s answer BAD_PARAM or INTERNAL (R341, R344; DEDUCED, log entry 30). -/
def Dev.replyTaken (s : Dev) (txn : Nat) (a : TxnAns) (bulk : List Byte) : Dev :=
  match s.krk.txns.find? (fun x => x.id == txn) with
  | none => s
  | some x =>
    let at_ := pN x.pkt 24 8
    if bulk.isEmpty then s.txnAnswer txn a
    else if !s.addrOk x.src at_ bulk.length then s.txnAnswer txn { a with status := sBAD_PARAM, detail := 24 }
    else if !s.memOk x.src at_ bulk.length then s.busFault.txnAnswer txn { a with status := sINTERNAL, detail := 1 }
    else (s.bulkWrite x.src at_ bulk).txnAnswer txn a

/-- Device firmware takes a message (R280–R282). -/
def Dev.inwardRun (s : Dev) (x : Inbound) : Dev :=
  match x.msg with
  | .packet origin txn p data =>
    s.arrive { src := .station origin x.port, pkt := p, kind := .executing, order := 0, route := some (origin, txn), data := data, link := some x.hold }
  | .prepare origin txn p commitN data => s.prepare origin txn (.station origin x.port) p commitN data (some x.hold)
  | .reply txn a bulk => (s.freeHold x.hold).replyTaken txn a bulk
  | .decision origin txn go => if go then s.goPrep origin txn else s.abortPrep origin txn

/-- A message for this chip: taken at once, or once device firmware runs and no handover is on its way (R391, R407). -/
def Dev.inward (s : Dev) (x : Inbound) : Dev :=
  if s.fetching && s.krk.inbox.isEmpty then s.inwardRun x else s.setKrk { s.krk with inbox := s.krk.inbox ++ [x] }

/-- The messages that wait are taken in the order in which they came; those of a chip that has left the station are dropped. -/
def Dev.inboxRun (s : Dev) : Dev :=
  if !s.fetching || s.krk.inbox.isEmpty then s
  else forEach s.krk.inbox (fun x t => if t.krk.joined then t.inward x else t.freeHold x.hold) (s.setKrk { s.krk with inbox := [] })

/-! ### Fetching (R349, R360) -/

/-- The order in which queues fetch: queue 0, then 1–63 from after the one last served (R349). -/
def Dev.fetchOrder (s : Dev) : List Nat := 0 :: (List.range 63).map (fun i => (s.host.lastServed + i) % 63 + 1)

/-- The next entry of a queue is fetched; an error completion stops the queue (R341). -/
def Dev.fetchQueue (s : Dev) (q : Nat) (g : Bool) : Dev :=
  let x := s.queue q
  let s := s.setGrant q none
  let x := { x with granted := none }
  let at_ := x.sqAt q x.sqHead
  if !x.win && s.hostBad.any (fun b => decide (at_ < b.1 + b.2) && decide (b.1 < at_ + 64)) then
    ((s.setQueue q { x with err := true }).hifFlag Reg.HIF_FLAG_DMAERR_F).free1 (36 + q) g
  else
    let p := if x.win then readBytes s.host.ringWin at_ 64 else s.hostRead at_ 64
    let s := s.setQueue q { x with sqHead := (x.sqHead + 1) % 2 ^ x.sqLog, cqRes := x.cqRes + 2 }
    let s := if q = 0 then s else { s with host := { s.host with lastServed := q } }
    s.arrive { src := .queue q, pkt := p, kind := .executing, order := 0, gran := g }

/-- The mailbox packet is fetched. -/
def Dev.fetchMbx (s : Dev) (p : Packet) (g : Bool) : Dev :=
  let s := s.setGrant 0 none
  let s := { s with host := { s.host with mbxPkt := none } }
  s.arrive { src := .mailbox, pkt := p, kind := .executing, order := 0, gran := g }

/-- The next entry is fetched (R349): granules, then the mailbox, queue 0, and the others in turn. -/
def Dev.fetchNext (s : Dev) : Dev :=
  let s := s.grantEntries
  match s.mbxMayFetch, s.host.mbxPkt, (s.queue 0).granted with
  | true, some p, some g => s.fetchMbx p g
  | _, _, _ =>
    match s.fetchOrder.find? (fun q => s.mayFetch q && (s.queue q).granted.isSome) with
    | some q => s.fetchQueue q ((s.queue q).granted.getD true)
    | none => s

/-- A command of a source as its own fetch would bring it: slots reserved, a granule taken. None when it cannot be fetched now. -/
def Dev.take (s : Dev) (src : Src) : Option (Bool × Dev) :=
  match src with
  | .queue q =>
    let x := s.queue q
    if s.fetching && x.exists_ && !x.err && !x.closing && decide (2 ≤ x.slots) && !s.busyQueue q && (q == 0 || !s.recovery) then
      let a := s.ask (36 + q) 1
      a.1.map (fun h => (h.res == 1, a.2.cqReserve q 2))
    else none
  | .mailbox =>
    if s.fetching && !s.isOn Reg.HIF_MBX_STAT_BUSY && !s.isOn Reg.HIF_MBX_STAT_VALID && !s.busyQueue 0 then
      let a := s.ask 36 1
      a.1.map (fun h => (h.res == 1, a.2.set Reg.HIF_MBX_STAT_BUSY 1))
    else none
  | .station _ _ => if s.fetching then some (true, s) else none

/-- A command of an opcode row: the packet with that opcode, submitted at `src`, is fetched and processed; nothing happens while the device
does not fetch from there (log entry 3). -/
def Dev.runOp (s : Dev) (op : Nat) (src : Src) (p : Packet) : Dev :=
  let p := withOp p op
  match s.take src with
  | none => s
  | some (g, t) =>
    let route := match src with
      | .station c _ => some (c, pTag p)
      | _ => none
    t.arrive { src := src, pkt := p, kind := .executing, order := 0, gran := g, route := route }

/-! ### Commands due at a tick -/

/-- Order of R351 and R369: the mailbox, then queues; packets from other chips last, and IMG_HANDOVER after every other command. -/
def WaitCmd.rank (w : WaitCmd) : Nat :=
  (match w.src with | .mailbox => 0 | .queue q => q + 1 | .station _ _ => 65) + (if pOp w.pkt = 0xA3 then 100 else 0)

/-- The first of some commands in that order. -/
def firstWait (l : List WaitCmd) : Option WaitCmd :=
  l.foldl (fun (b : Option WaitCmd) w => match b with
    | none => some w
    | some x => if w.rank < x.rank ∨ (w.rank = x.rank ∧ w.order < x.order) then some w else some x) none

/-- A held command, or one whose effect falls at a tick, is due at the last tick. -/
def Dev.dueNow (s : Dev) (w : WaitCmd) : Bool :=
  match w.kind with
  | .held due => decide (due ≤ s.tickStamp)
  | .atTick n => decide (n < s.frm.tickNo)
  | _ => false

/-- A deferred command. -/
def WaitCmd.isDeferred (w : WaitCmd) : Bool :=
  match w.kind with
  | .deferred _ => true
  | _ => false

/-- A deferred command that the state accepts and whose turn at this tick has not passed. -/
def Dev.deferredReady (s : Dev) (w : WaitCmd) : Bool :=
  let t := s.host.turn
  w.isDeferred && (t.1 != s.frm.tickNo || decide (t.2.1 < w.rank) || (t.2.1 == w.rank && decide (t.2.2 < w.order))) &&
    (match opRow (pOp w.pkt) with
     | some row => s.accepts w.pkt row
     | none => false)

/-- The next of the commands due at a tick, held and deferred ones in one order (R351). -/
def Dev.nextDue (s : Dev) : Option WaitCmd := firstWait (s.host.waits.filter (fun w => s.dueNow w || s.deferredReady w))

/-- The turn of a command at this tick. -/
def Dev.turnOf (s : Dev) (w : WaitCmd) : Dev := { s with host := { s.host with turn := (s.frm.tickNo, w.rank, w.order) } }

/-- The next command due at the tick, a held one, runs steps 4–8; none starts in a handover (R407). -/
def Dev.heldDue (s : Dev) : Dev :=
  if !s.fetching then s
  else
    match s.nextDue with
    | none => s
    | some w =>
      match opRow (pOp w.pkt) with
      | some row => if w.isDeferred then s else (s.turnOf w).step4 w row true
      | none => s

/-- The next command due at the tick, a deferred one that the state accepts, executes. -/
def Dev.deferredRun (s : Dev) : Dev :=
  if !s.fetching then s
  else
    match s.nextDue with
    | none => s
    | some w =>
      match opRow (pOp w.pkt) with
      | some row => if w.isDeferred then (s.turnOf w).execute w row else s
      | none => s

/-- A deferral limit has passed. -/
def Dev.deferralTimeout (s : Dev) : Dev :=
  match firstWait (s.host.waits.filter (fun w => match w.kind with
      | .deferred lim => lim != 0 && decide (lim ≤ s.time)
      | _ => false)) with
  | none => s
  | some w =>
    match opRow (pOp w.pkt) with
    | some row => s.finish w { status := sSTATE_CONFLICT, detail := stateMask (s.acceptList w.pkt row) }
    | none => s

/-! ### Doorbells (R348) -/

/-- An ignored doorbell. -/
def Dev.dbErr (s : Dev) : Dev := s.hifFlag Reg.HIF_FLAG_DBERR_F

/-- A write to SQT; kept before CMDRDY (R365). A value outside the ring also stops the queue. -/
def Dev.sqtWrite (s : Dev) (q v : Nat) : Dev :=
  let x := s.queue q
  let v := v % 4096
  if !x.exists_ then s.dbErr
  else if 2 ^ x.sqLog ≤ v then (s.setQueue q { x with err := true }).dbErr
  else s.setQueue q { x with sqTail := v }

/-- A write to CQH: releases entries and re-arms the vector. -/
def Dev.cqhWrite (s : Dev) (q v : Nat) : Dev :=
  let x := s.queue q
  let v := v % 4096
  let n := (v + 2 ^ x.cqLog - x.cqHead) % 2 ^ x.cqLog
  if !x.exists_ || decide (2 ^ x.cqLog ≤ v) || decide (x.unreleased < n) then s.dbErr
  else
    let s := s.setQueue q { x with cqHead := v, unreleased := x.unreleased - n }
    onlyIf x.ien (·.vecRearm x.vec) s

/-- A doorbell write before CMDRDY is kept (R365); `cqh` says to CQH. -/
def Dev.bellKept (s : Dev) (q : Nat) (cqh : Bool) (v : Nat) : Dev := s.setQueue q { s.queue q with kept := (s.queue q).kept ++ [(cqh, v)] }
def Dev.sqtBell (s : Dev) (q v : Nat) : Dev := if s.isOn Reg.HIF_STAT_CMDRDY then s.sqtWrite q v else s.bellKept q false v
def Dev.cqhBell (s : Dev) (q v : Nat) : Dev := if s.isOn Reg.HIF_STAT_CMDRDY then s.cqhWrite q v else s.bellKept q true v

/-- CMDRDY is set: the doorbells kept act, each queue’s in the order of their writes (R365). -/
def Dev.cmdReady (s : Dev) : Dev :=
  let s := s.raise Reg.HIF_STAT_CMDRDY
  forEach s.host.queues (fun x t =>
    forEach x.2.kept (fun y u => if y.1 then u.cqhWrite x.1 y.2 else u.sqtWrite x.1 y.2)
      (t.setQueue x.1 { t.queue x.1 with kept := [] })) s

/-! ### Mailbox (R360–R362) -/

/-- The packet in HIF_MBX_CMD0–15. -/
def Dev.mbxPacket (s : Dev) : Packet := ((List.range 16).map (fun j => wordBytes (s.reg (Reg.HIF_MBX_CMDj j)))).flatten

/-- A write of 1 to GO. -/
def Dev.mbxGo (s : Dev) : Dev :=
  if s.isOn Reg.HIF_MBX_STAT_BUSY || s.isOn Reg.HIF_MBX_STAT_VALID then s.hifFlag Reg.HIF_FLAG_MBXERR_F
  else ({ s with host := { s.host with mbxPkt := some s.mbxPacket } }).set Reg.HIF_MBX_STAT_BUSY 1

/-- A read of HIF_MBX_STAT latches RES0–7; a result already released carries STALE. -/
def Dev.mbxLatch (s : Dev) : Dev :=
  let l := s.host.mbx.live
  let l := if s.isOn Reg.HIF_MBX_STAT_VALID then l else l.set 3 (l.getD 3 0 ||| 2#8)
  { s with host := { s.host with mbx := { s.host.mbx with latched := l } } }

/-- A write to HIF_MBX_ACK: a matching SEQ releases the result, and a queued final reply is posted. -/
def Dev.mbxAck (s : Dev) (seq : Nat) : Dev :=
  if s.isOn Reg.HIF_MBX_STAT_VALID && s.get Reg.HIF_MBX_STAT_SEQ == seq % 256 then
    let s := (s.set Reg.HIF_MBX_STAT_VALID 0).set Reg.HIF_MBX_STAT_STALE 1
    match s.host.mbx.queued with
    | none => s
    | some b =>
      let g := s.host.mbx.queuedGran
      (({ s with host := { s.host with mbx := { s.host.mbx with queued := none } } }).mbxShow b true).free1 36 g
  else s.hifFlag Reg.HIF_FLAG_MBXERR_F

/-! ### Admin queue (R365) -/

/-- HIF_AQ_CFG.EN set: queue 0 is created, or refused with AQERR_F. -/
def Dev.aqEnable (s : Dev) : Dev :=
  let win := s.isOn Reg.HIF_AQ_CFG_WIN
  let sq := s.get Reg.HIF_AQ_CFG_SQLOG
  let cq := s.get Reg.HIF_AQ_CFG_CQLOG
  let sb := s.pair Reg.HIF_AQ_SQB_LO Reg.HIF_AQ_SQB_HI
  let cb := s.pair Reg.HIF_AQ_CQB_LO Reg.HIF_AQ_CQB_HI
  if (s.queue 0).closing then s.hifFlag Reg.HIF_FLAG_AQERR_F
  else if sb % 64 != 0 || cb % 64 != 0 || (!win && !(sizeOk sq && sizeOk cq)) then
    (s.set Reg.HIF_AQ_CFG_EN 0).hifFlag Reg.HIF_FLAG_AQERR_F
  else
    (s.set Reg.HIF_AQ_CFG_EN 1).setQueue 0 { s.queue 0 with
      exists_ := true, win := win, ien := s.isOn Reg.HIF_AQ_CFG_IEN, vec := s.get Reg.HIF_AQ_CFG_IV, sqBase := sb, cqBase := cb,
      sqLog := if win then 4 else sq, cqLog := if win then 5 else cq }

/-- HIF_AQ_CFG.EN cleared: queue 0 goes as Q_DELETE would delete it. -/
def Dev.aqDisable (s : Dev) : Dev :=
  let s := s.set Reg.HIF_AQ_CFG_EN 0
  if (s.queue 0).exists_ then (s.closeQueue 0).queueGone 0 else s

end Sys2Proof.Machine
end

