-- ==== Sys2Proof/Machine/Views.lean ====
section
/-! DEFINITION. Registers whose content is computed when it is looked at, the register file as the host sees it, and the tick image (R386). -/

namespace Sys2Proof.Machine

/-- HIF_QSTAT of a queue. -/
def QueueSt.stat (x : QueueSt) : Nat :=
  b2n x.exists_ * 2 ^ 31 + b2n x.err * 2 ^ 30 + b2n x.win * 2 ^ 29 + b2n x.phase * 2 ^ 28 + x.sqHead % 4096 * 2 ^ 16 + x.cqTail % 4096

/-- Held and deferred commands of a queue (R365). -/
def Dev.waiting (s : Dev) (q : Nat) : Nat :=
  (s.host.waits.filter (fun w => w.ownCmd && srcQueue w.src == q && w.kind.waits)).length

/-- CE_SUM: bit c for each context of a group of 32 with a flag set. -/
def Dev.ceSum (s : Dev) (from_ : Nat) : Nat :=
  ((List.range 32).filter (fun c => s.get ⟨Reg.CE_CFLAGc (from_ + c), 4, 0⟩ != 0)).foldl (fun a c => a + 2 ^ c) 0

/-- The hold stamp of the result in the ADC_RESn that ADC_STSEL selects; 0 before one. -/
def Dev.adcStamp (s : Dev) : Nat := sget (fun _ => 0) s.adc.stamps (min 47 (s.get Reg.ADC_STSEL_CH))

/-- The captured edge CMP_STSEL selects. -/
def Dev.cmpCap (s : Dev) : Option (Nat × Bool) := sget (fun _ => none) s.cmp.cap (min 23 (s.get Reg.CMP_STSEL_SEL))

/-- A register whose content is computed from the rest of the state; none for one that the register file holds. -/
def Dev.computed (s : Dev) (off : Nat) : Option Nat :=
  if off = Reg.CLK_TIME_LO then some s.time
  else if off = Reg.CLK_TIME_HI then some (s.time / 2 ^ 32)
  else if off = Reg.CLK_STAT then some (setBits (s.reg off) 24 16 s.clk.lockRun).toNat
  else if off = Reg.CLK_PHERR then some (toBits 16 s.clk.phErr)
  else if off = Reg.HIF_QSTAT then some (s.queue (s.get Reg.HIF_QSEL_QUEUE)).stat
  else if off = Reg.HIF_QWAIT then
    some (s.waiting (s.get Reg.HIF_QSEL_QUEUE) % 2 ^ 13 * 2 ^ 16 + (s.queue (s.get Reg.HIF_QSEL_QUEUE)).cqRes % 2 ^ 13)
  else if 0x140 ≤ off ∧ off < 0x160 then some (leAt s.host.mbx.latched (off - 0x140) 4)
  else if off = Reg.HIF_POOL_USE then
    let u := min 99 (s.get Reg.HIF_POOL_SEL_USER)
    some ((s.user u).shUsed % 2 ^ 13 * 2 ^ 16 + (s.user u).resUsed u % 256)
  else if off = Reg.FRM_LOAD then some (s.shedSum % 2 ^ 16 * 2 ^ 16 + s.ctrlSum % 2 ^ 16)
  else if off = Reg.ADC_STAMP_LO then some s.adcStamp
  else if off = Reg.ADC_STAMP_HI then some (s.adcStamp / 2 ^ 32)
  else if off = Reg.CMP_STAMP_LO then some ((s.cmpCap.map (·.1)).getD 0)
  else if off = Reg.CMP_STAMP_HI then some ((s.cmpCap.map (·.1)).getD 0 / 2 ^ 32)
  else if off = Reg.CMP_CAPINFO then some ((s.cmpCap.map (fun x => 2 + b2n x.2)).getD 0)
  else if off = Reg.CE_SUM_LO then some (s.ceSum 0)
  else if off = Reg.CE_SUM_HI then some (s.ceSum 32)
  else if off = Reg.MTR_ACC_LO then some (s.accShown / 2 ^ 32)
  else if off = Reg.MTR_ACC_HI then some (s.accShown / 2 ^ 64)
  else if off = Reg.MTR_ACC_FR then some s.accShown
  else none

/-- The offsets `computed` answers for. -/
def computedOffs : List Nat :=
  [Reg.CLK_TIME_LO, Reg.CLK_TIME_HI, Reg.CLK_STAT, Reg.CLK_PHERR, Reg.HIF_QSTAT, Reg.HIF_QWAIT, Reg.HIF_POOL_USE, Reg.FRM_LOAD, Reg.ADC_STAMP_LO, Reg.ADC_STAMP_HI,
   Reg.CMP_STAMP_LO, Reg.CMP_STAMP_HI, Reg.CMP_CAPINFO, Reg.CE_SUM_LO, Reg.CE_SUM_HI, Reg.MTR_ACC_LO, Reg.MTR_ACC_HI, Reg.MTR_ACC_FR] ++
    (List.range 8).map (fun j => 0x140 + 4 * j)

/-- What a register shows: its computed content, the vault’s mirror for a VLT_ register (R386), else the register file. -/
def Dev.view (s : Dev) (off : Nat) : Word :=
  match s.computed off with
  | some v => BitVec.ofNat 32 v
  | none => if isVault off then sget resetWord s.vlt.mirror off else s.reg off

/-- Every register as it shows, in the form of the register file. -/
def Dev.viewAll (s : Dev) : List (Nat × Word) :=
  let l := s.vlt.mirror.foldl (fun l x => sset resetWord l x.1 x.2) (s.regs.filter (fun x => !isVault x.1))
  computedOffs.foldl (fun l off => sset resetWord l off (s.view off)) l

/-- The content of the cell section (R392): header and records of the configured cells as the last sweep run left them, the rest of its 32,800 bytes
0. -/
def Dev.cellSection (s : Dev) : List Byte :=
  let t := s.setCells { s.cells with cells := s.cells.runCells, skipped := s.cells.runSkipped }
  let b := t.cellHead t.cells.recs.length ++ (t.cells.recs.map t.cellStatus).flatten
  b ++ zeros (32800 - b.length)

/-- The tick image is latched (R386), with the stamp of the tick, which is the same on every chip (R395). -/
def Dev.imageLatch (s : Dev) : Dev :=
  let v := s.imageDev
  s.tickImage
    { stamp := s.tickStamp, frame := s.frame, freerun := v.freerun, unsync := v.unsync, state := v.st, chip := v.chipIndex,
      view := v.get Reg.KRK_VIEW_VIEWNUM, regs := v.viewAll, cells := if v.isOn Reg.SNP_CFG_CELLS then s.cellSection else [] }

end Sys2Proof.Machine
end

