-- ==== Sys2Proof/Machine/Clock.lean ====
section
/-! DEFINITION. The PLL, the time counter and its corrections (R36–R50). -/

namespace Sys2Proof.Machine

/-- The last reference cycle’s phase error, saturating at ±32,767 ps, and the consecutive count it left (R38, R63). -/
def Dev.refCycle (s : Dev) (e : Int) (run : Nat) : Dev :=
  { s with clk := { s.clk with phErr := max (-32767) (min 32767 e), lockRun := run } }

/-! ### Bypass and lock -/

/-- The core runs on the bypass oscillator from now on: stamps carry FREERUN and UNSYNC (R42, R48). -/
def Dev.toBypass (s : Dev) : Dev :=
  let s := ((s.set Reg.CLK_STAT_SRC 1).set Reg.CLK_STAT_FREERUN 1).set Reg.CLK_STAT_UNSYNC 1
  { s.raise Reg.CLK_FLAG_BYP_F with clk := { s.clk with inRun := 0 } }

/-- LOSSACT on an exit from LOCK (R43): nothing, HOLD at the next tick, or the clock-loss source. -/
def Dev.lossAct (s : Dev) : Dev :=
  if !s.stIn [stSYNC, stRUN, stRIDETHROUGH] then s
  else
    match s.get Reg.CLK_CFG_LOSSACT with
    | 0 => s
    | 1 => { s with clk := { s.clk with holdDue := true } }
    | _ => ({ s with prt := { s.prt with clkLoss := true } }).latch (s.stamp 0) [0x21]

/-- The PLL leaves LOCK for LOST (R41). -/
def Dev.leaveLock (s : Dev) (flag : Fld) : Dev :=
  (((s.toBypass.raise flag).count Reg.CLK_CNT_LOL_CNT).set Reg.CLK_STAT_PLLST pLOST).lossAct

/-- The phase error has exceeded ±1,000 ps on 8 cycles (R41). -/
def Dev.lossOfLock (s : Dev) (phErr : Int) : Dev :=
  if s.pllst = pLOCK then (s.refCycle phErr 0).leaveLock Reg.CLK_FLAG_LOL_F else s

/-- No reference edge for 4 periods (R41). -/
def Dev.refLoss (s : Dev) : Dev :=
  if s.pllst = pLOCK then s.leaveLock Reg.CLK_FLAG_REFLOSS_F
  else if s.pllst = pBAND || s.pllst = pACQ then (s.raise Reg.CLK_FLAG_REFLOSS_F).set Reg.CLK_STAT_PLLST pLOST
  else s

/-- 256 clean cycles in LOST (R44). -/
def Dev.refReturn (s : Dev) : Dev := if s.pllst = pLOST then s.set Reg.CLK_STAT_PLLST pBAND else s

/-- A write in CONFIG has changed REFSEL or REFPORT (R36, R45, R276): a band search, from LOCK with a switch to bypass. -/
def Dev.bandSearch (s : Dev) : Dev :=
  let s := onlyIf (s.pllst == pLOCK) (·.toBypass) s
  { s.set Reg.CLK_STAT_PLLST pBAND with clk := { s.clk with tree := false } }

/-! ### The reference (R36, R276) -/

/-- The reference that FOLLOW, REFSEL and REFPORT ask for now: a port 0–3, or 4 for the REFCLK pin. -/
def Dev.reference (s : Dev) : Nat :=
  if s.isOn Reg.KRK_CFG_FOLLOW && s.clk.tree then
    if s.mst = mMEMBER ∧ s.isOn Reg.KRK_STAT_TSRC = false then s.get Reg.KRK_STAT_PARPORT else 4
  else if s.get Reg.CLK_CFG_REFSEL = 1 then s.get Reg.CLK_CFG_REFPORT else 4

/-- The PLL changes its reference; in LOCK it stays there, and the measured phase difference, a free value, is removed in the TDC (R276). -/
def Dev.refFollow (s : Dev) : Dev :=
  let r := s.reference
  if s.clk.ref = r then s
  else if s.pllst = pLOCK then
    let f := s.free
    { f.2 with clk := { s.clk with ref := r, refShift := f.1 } }
  else { s with clk := { s.clk with ref := r, refShift := 0#32 } }

/-- The band search ends (R37). The first core clock after the release has taken the PLL from IDLE to BAND by then (R45). -/
def Dev.bandDone (s : Dev) (band : Nat) : Dev :=
  let s := if s.pllst = pIDLE then s.pass 1 else s
  if s.pllst = pBAND then ((s.refCycle s.clk.phErr 0).set Reg.CLK_STAT_BAND band).set Reg.CLK_STAT_PLLST pACQ else s

/-- 4,096 cycles without lock (R38). -/
def Dev.acqTimeout (s : Dev) (phErr : Int) (run : Nat) : Dev :=
  if s.pllst = pACQ then
    (((s.refCycle phErr (min 255 run)).raise Reg.CLK_FLAG_LKFAIL_F).count Reg.CLK_CNT_LKFAIL_CNT).set Reg.CLK_STAT_PLLST pBAND
  else s

/-- The first lock after the release (R49, R52, R379): the counter is loaded from the keeper, ticks begin, and strapped recovery serves
commands. -/
def Dev.firstLock (s : Dev) : Dev :=
  if s.clk.locked1 then s
  else
    let s := s.keeperCount
    let t := if s.isOn Reg.VLT_STAT_TKVALID then s.keeperTU else 0
    let s := s.setCounter t
    let s := { s with clk := { s.clk with locked1 := true }, frm := { s.frm with tickNo := cdiv t s.frameTU } }
    if s.straps / 4 % 2 = 1 ∧ s.st = stBOOT then (s.raise Reg.IMG_BOOT_RECOV).cmdReady else s

/-- Lock (R38): the core runs on the PLL output. -/
def Dev.pllLock (s : Dev) (phErr : Int) : Dev :=
  if s.pllst = pACQ then
    let s := (s.refCycle phErr 256).set Reg.CLK_STAT_PLLST pLOCK
    let s := (s.set Reg.CLK_STAT_SRC 0).set Reg.CLK_STAT_FREERUN 0
    ({ s with prt := { s.prt with clkLoss := false } }).firstLock
  else s

/-! ### Offset and corrections (R47, R48, R275) -/

/-- The states in which the counter may be stepped (R47). -/
def stepStates : List Nat := [stBOOT, stCONFIG, stREADY, stBLOCKED, stTRIPPED]

/-- UNSYNC by a new offset (R48). -/
def Dev.syncBy (s : Dev) (off : Int) : Dev :=
  let near := decide (off.natAbs ≤ 16)
  let run := if near then min 8 (s.clk.inRun + 1) else 0
  let s := { s with clk := { s.clk with inRun := run } }
  if s.unsync && run == 8 then s.setB Reg.CLK_STAT_UNSYNC false
  else if !s.unsync && decide (32 < off.natAbs) then s.setB Reg.CLK_STAT_UNSYNC true
  else s

/-- A two-way exchange over the link to the time parent (R275): `toNeigh` and `fromNeigh` are arrival minus departure in each direction,
each by the clock of its own end, so the offset is half their difference and span delay cancels. The mean rounds down (log entry 34). -/
def Dev.measure (s : Dev) (port : Nat) (toNeigh fromNeigh : Int) : Dev :=
  if port < 4 ∧ s.linkUp port then
    let s := s.set (Reg.KRK_PORTp_STAT_RDLY port) (toBits 16 (toNeigh + fromNeigh))
    if s.mst ≠ mMEMBER ∨ s.isOn Reg.KRK_STAT_TSRC ∨ s.get Reg.KRK_STAT_PARPORT ≠ port then s
    else
      let off := (fromNeigh - toNeigh) / 2
      let s := s.set Reg.CLK_OFFSET_OFFSET (toBits 32 (max (-(2 ^ 31)) (min (2 ^ 31 - 1) off)))
      let s := s.syncBy off
      if s.stIn stepStates && decide (s.slewMax < off.natAbs) then { s with clk := { s.clk with slew := 0, step := some off } }
      else { s with clk := { s.clk with slew := off, step := none } }
  else s

/-- The offset that is stepped at a tick. -/
def Dev.stepDue (s : Dev) : Option Int := if s.stIn stepStates then s.clk.step else none

/-- A pending step at a tick (R47): the counter is set to the corrected value and the frame number follows it. In a state that does not
step, the offset is slewed. -/
def Dev.stepNow (s : Dev) : Dev :=
  match s.clk.step with
  | none => s
  | some off =>
    if s.stIn stepStates then
      let t := ((s.time : Int) - off).toNat
      let s := s.setCounter t
      let s := { s with clk := { s.clk with step := none }, frm := { s.frm with tickNo := t / s.frameTU } }
      s.raise Reg.CLK_FLAG_TSTEP_F
    else { s with clk := { s.clk with step := none, slew := off } }

end Sys2Proof.Machine
end

