-- ==== Sys2Proof/Machine/Frame.lean ====
section
/-! DEFINITION. The control frame (R51–R62): the tick, the compute phase with shedding, the dispatch phase, overruns. -/

namespace Sys2Proof.Machine

/-! ### Shedding (R59, R60) -/

/-- A class is shed in this frame. -/
def Dev.shedNote (s : Dev) (class_ : Nat) : Dev :=
  match class_ with
  | 0 => (s.raise Reg.FRM_FLAG_SHEDH_F).count Reg.FRM_SHED0_SHED_H
  | 1 => (s.raise Reg.FRM_FLAG_SHEDM_F).count Reg.FRM_SHED0_SHED_M
  | _ => (s.raise Reg.FRM_FLAG_SHEDT_F).count Reg.FRM_SHED1_SHED_T

/-- A sheddable item that has run. The aggregate that telemetry aggregation forms is named by no rule (log entry 24). -/
def Dev.shedRun (s : Dev) (class_ : Nat) : Dev :=
  match class_ with
  | 0 => s.harmChunk
  | 1 => s.mpptItem
  | _ => s

/-- One class in its turn: at core clock `acc.1` of the frame, with every later class shed when `acc.2.1`; `run` is the time it would take. -/
def shedStep (run : Nat) (acc : Nat × Bool × Dev) (class_ : Nat) : Nat × Bool × Dev :=
  let t := acc.1
  let s := acc.2.2
  let cost := s.shedCost class_
  let fin := s.get Reg.FRM_PHASE_CMP_END
  if cost = 0 || s.pwr.deferred / 2 ^ class_ % 2 == 1 then acc
  else if acc.2.1 || s.frm.handover || decide (fin - t < cost) then (t, true, s.shedNote class_)
  else if fin < t + run then (fin, false, s.shedNote class_)
  else (t + run, false, s.shedRun class_)

/-- The sheddable classes after control work that ended at core clock `t`: telemetry aggregation, MPPT steps, harmonic analysis. -/
def Dev.shedAll (s : Dev) (t : Nat) (runs : List Nat) : Dev :=
  let a := shedStep (runs.getD 0 0) (t, false, s) 2
  let b := shedStep (runs.getD 1 0) a 1
  (shedStep (runs.getD 2 0) b 0).2.2

/-! ### The tick (R52) -/

/-- What the tick resets for the frame that begins. -/
def Dev.frameBegin (s : Dev) : Dev :=
  let n := s.frm.tickNo
  let s := { s with frm := { tickNo := n + 1, ticked := true, discard := s.frm.overrun },
                    clk := { s.clk with slewUsed := 0, tickClk := s.clocks } }
  ((s.setReg Reg.FRM_NUM (BitVec.ofNat 32 n)).set Reg.FRM_STAT_PHASE 0).set Reg.FRM_STAT_CLK_IN 0

/-- HOLD after an entry to bypass under LOSSACT 1 (R43, R368, R369). -/
def Dev.holdNow (s : Dev) : Dev :=
  if s.clk.holdDue then
    let s := { s with clk := { s.clk with holdDue := false } }
    if s.stIn [stSYNC, stRUN, stRIDETHROUGH] then s.enter stHOLD causeClockLoss else s
  else s

/-- The power arbiter and the converters at the tick. -/
def Dev.powerTick (s : Dev) : Dev :=
  let a := s.arbiter
  a.2.adcTick a.1

/-- The bootstrap levels that cells reported. -/
def Dev.bootReports (s : Dev) : Dev := forEach s.cells.tel (fun x t => t.bootReport x.1 x.2) s

/-- A tick in a state in which Espalier modulates (R303). -/
def Dev.modTick (s : Dev) : Dev := if s.stIn modStates then { s with saf := { s.saf with modTick := s.time + 1 } } else s

/-- The counter moves to the tick; an unfinished dispatch is an overrun of the frame that ends (R61), a pending step is made (R47), and frame N
begins. The log record of the step carries the stamp and the frame number of after it (R47, R394). -/
def Dev.tickBegin (s : Dev) (dispatchDone : Bool) : Dev :=
  let s := s.advanceTo (s.frm.tickNo * s.frameTU)
  let s := onlyIf (!dispatchDone && s.frm.ticked) (·.overrun 3) s
  let due := s.stepDue
  let s := s.stepNow.frameBegin
  match due with
  | some off => s.logNow 1 1 (toBits 64 off)
  | none => s

/-- The sample image stands, and what waited for the tick comes into use (R15, R16). -/
def Dev.tickSample (s : Dev) : Dev := s.thkHealed.telemLatch.bootReports.sampleLatch.mtrLatch.ceTick

/-- The causes that fall on the tick, in the order of R369: trips by the applied grid record and by the station’s redundancy, membership, clock loss,
ride-through. The angle of the frame stands before a missing grid record is extrapolated with its frequency (R207). -/
def Dev.tickCauses (s : Dev) : Dev := s.gridTick.krkTrip.krkTick.holdNow.pllTick.angTick.gridRide

/-- What each block does at a tick in the state that the causes leave. -/
def Dev.tickBlocks (s : Dev) : Dev := s.slotTick.powerTick.hbTick.vrefTick.sppTick.modTick

/-- Frame N begins (R52). The tick image is last (R386), and then the frame-start words go out (R243). `dispatchDone`: the dispatch of the frame
before has finished. -/
def Dev.frameTick (s : Dev) (dispatchDone : Bool) : Dev :=
  if !s.clk.locked1 || s.inReset then s
  else (s.tickBegin dispatchDone).tickSample.tickCauses.tickBlocks.vaultMirror.imageLatch.thkTick

/-! ### The phases (R53) -/

/-- FRM_PEAK: control work that took `ctl` core clocks ended at `fin`. While Cirrus is stopped, or nothing runs, no control work ends (R56, R110). -/
def Dev.peakNote (s : Dev) (ctl fin : Nat) : Dev :=
  if s.stIn [stPOWEROFF, stBOOT, stCONFIG] || ctl == 0 then s
  else s.set Reg.FRM_PEAK_PEAK (max (s.get Reg.FRM_PEAK_PEAK) (min 0xFFFF fin))

/-- SW_END: the contexts run in order, then the sheddable classes. `sampleDone`: the sample image transfer has finished; `ctl`: core clocks
the control items take; `runs`: core clocks that telemetry aggregation, MPPT steps and harmonic analysis take. The spec does not say whether contexts
and sheddable items still run after an overrun of cause 1 or 4 that falls before the compute phase, nor whether the classes that are not reached when
control work runs past CMP_END count as shed: none runs, their states do not advance, and none is counted (DESIGN CHOICE, log entry 24). -/
def Dev.computeStart (s : Dev) (sampleDone : Bool) (ctl : Nat) (runs : List Nat) : Dev :=
  if !s.frm.ticked then s
  else
    let sw := s.get Reg.FRM_PHASE_SW_END
    let s := (s.advanceIn sw).set Reg.FRM_STAT_PHASE 1
    let s := s.set Reg.FRM_STAT_CLK_IN sw
    let s := onlyIf (!sampleDone) (·.overrun 1) s
    if s.frm.overrun then s
    else
      let s := s.runContexts
      let fin := sw + ctl
      let s := s.peakNote ctl fin
      if ctl != 0 && decide (s.get Reg.FRM_PHASE_CMP_END < fin) then { s with frm := { s.frm with late := true } }
      else s.shedAll fin runs

/-- CMP_END: dispatch. -/
def Dev.dispatchStart (s : Dev) : Dev :=
  if !s.frm.ticked then s
  else
    let cm := s.get Reg.FRM_PHASE_CMP_END
    let s := (s.advanceIn cm).set Reg.FRM_STAT_PHASE 2
    let h := (s.set Reg.FRM_STAT_CLK_IN cm).handoverEnd true
    let s := h.1.complete h.2
    let s := onlyIf s.frm.late (·.overrun 2) s
    let s := s.edgeDispatch
    let s := onlyIf (!s.frm.overrun) (fun t => t.gridIssue.dispatchSlots) s
    s.thkCredits.heartbeatSend (s.get Reg.IMG_KPROTO_RUNKP)

end Sys2Proof.Machine
end

