-- ==== Sys2Proof/Machine/Access.lean ====
section
/-! DEFINITION. Register accesses of the host (R6–R12): writes with their actions, reads with their side effects, doorbells, the MSI-X table,
and the frames of the host SPI slave (R342–R344). -/

namespace Sys2Proof.Machine

/-! ### Writing fields (R7, R10, R12) -/

/-- One field of a register under a write of `w`; `config`: configuration fields accept it. -/
def RegField.write (config : Bool) (w acc : Word) (f : RegField) : Word :=
  match f.acc with
  | .rw => if f.cfg && !config then acc else setBits acc f.hi f.lo (bits w f.hi f.lo)
  | .w1c => acc &&& ~~~ (w &&& maskOf f.hi f.lo)
  | _ => acc

/-- A register’s content after a write. -/
def RegKind.write (k : RegKind) (config : Bool) (old w : Word) : Word := k.fields.foldl (RegField.write config w) old

/-- A word written, less the W1C bits that events of the same core clock set: those stay set (R8). -/
def RegKind.lessEvents (k : RegKind) (set w : Word) : Word :=
  k.fields.foldl (fun a f => if f.acc = .w1c then a &&& ~~~ (set &&& maskOf f.hi f.lo) else a) w

/-- The word that acts when `w` is written at an offset now (R8). -/
def Dev.afterEvents (s : Dev) (k : RegKind) (off : Nat) (w : Word) : Word :=
  match s.clkEvents off with
  | some e => k.lessEvents e.2 w
  | none => w

/-- The content before the clock’s events takes the write too, for an event that is taken back later on the clock. -/
def Dev.beforeWritten (s : Dev) (k : RegKind) (off : Nat) (w : Word) : Dev :=
  match s.clkEvents off with
  | some e => s.setClkEvents off (k.fields.foldl (fun a f => if f.acc = .w1c then RegField.write false w a f else a) e.1, e.2)
  | none => s

/-- Some configuration field would change (R12). -/
def RegKind.cfgDiffers (k : RegKind) (old w : Word) : Bool :=
  k.fields.any (fun f => f.cfg && bits w f.hi f.lo != bits old f.hi f.lo)

/-- Outside CONFIG a write that would change a configuration field sets HIF_WERR_F (R12). -/
def Dev.configError (s : Dev) (k : RegKind) (old w : Word) : Dev :=
  onlyIf (s.st != stCONFIG && k.cfgDiffers old w) (·.hifFlag Reg.HIF_FLAG_HIF_WERR_F) s

/-- A value as a register takes it: 7 written to RATE leaves RATE (R51); SLEWMAX 0 reads as 1 (R63); selectors and periods read back within
their range (R31, R73, R88, R203, R259, R339). -/
def Dev.takenAs (s : Dev) (off : Nat) (w : Word) : Word :=
  if off = Reg.FRM_CFG ∧ bits w 2 0 = 7 then setBits w 2 0 (s.get Reg.FRM_CFG_RATE)
  else if off = Reg.CLK_CFG ∧ bits w 13 8 = 0 then setBits w 13 8 1
  else if off = Reg.HIF_POOL_SEL then setBits w 6 0 (min 99 (bits w 6 0))
  else if off = Reg.ADC_STSEL then setBits w 5 0 (min 47 (bits w 5 0))
  else if off = Reg.CMP_STSEL then setBits w 4 0 (min 23 (bits w 4 0))
  else if off = Reg.MTR_ASEL then setBits w 4 0 (min 17 (bits w 4 0))
  else if 0x2A00 ≤ off ∧ off < 0x2D00 ∧ off % 64 = 4 then setBits w 19 0 (max 400 (bits w 19 0))
  else if 0x3100 ≤ off ∧ off < 0x3200 ∧ off % 16 = 0 then setBits w 6 0 (min 64 (bits w 6 0))
  else w

/-! ### What a write sets off, block by block -/

/-- Interface registers: HIF_EVT and HIF_EVTEN (R352), GO and ACK (R360, R362), REARM (R31). PTPOFS takes effect with its high word (R365). -/
def Dev.wroteHif (s : Dev) (off : Nat) (old w : Word) (before : Nat) : Dev :=
  if off = Reg.HIF_EVT then onlyIf ((old &&& w) != 0#32 && s.evtMasked != 0) (·.msix 64) s
  else if off = Reg.HIF_EVTEN then onlyIf (before == 0 && s.evtMasked != 0) (·.msix 64) s
  else if off = Reg.HIF_MBX_CTL then onlyIf (bit w 0) (·.mbxGo) s
  else if off = Reg.HIF_MBX_ACK then s.mbxAck (bits w 7 0)
  else if off = Reg.HIF_POOL_LOW then onlyIf (bit w 31) (·.poolRearm) s
  else if off = Reg.HIF_PTPOFS_LO then
    { (s.setReg off old) with host := { s.host with mgt := { s.host.mgt with ofsLow := some w } } }
  else if off = Reg.HIF_PTPOFS_HI then
    match s.host.mgt.ofsLow with
    | some lo => { (s.setReg Reg.HIF_PTPOFS_LO lo) with host := { s.host with mgt := { s.host.mgt with ofsLow := none } } }
    | none => s
  else s

/-- The default boundaries of a rate (R51). -/
def defaultPhase (rate : Nat) : Nat := periodClk rate * 6 / 10 * 2 ^ 16 + periodClk rate / 10

/-- A changed RATE loads the default boundaries, and the next tick is the next multiple of the new period (R51, R52). -/
def Dev.rateChanged (s : Dev) : Dev :=
  let s := s.setReg Reg.FRM_PHASE (BitVec.ofNat 32 (defaultPhase (s.get Reg.FRM_CFG_RATE)))
  if s.clk.locked1 then { s with frm := { s.frm with tickNo := s.time / s.frameTU + 1 } } else s

/-- Clock and frame registers: a commanded search (R36), RATE (R51), OVR_F and the PEAK of FRM_PEAK (R64). -/
def Dev.wroteFrame (s : Dev) (off : Nat) (old w : Word) : Dev :=
  if off = Reg.CLK_CFG then onlyIf (bits (s.reg off) 3 0 != bits old 3 0) (·.bandSearch) s
  else if off = Reg.FRM_CFG then
    let s := onlyIf (bits w 2 0 == 7 && s.st == stCONFIG) (·.hifFlag Reg.HIF_FLAG_HIF_WERR_F) s
    onlyIf (bits (s.reg off) 2 0 != bits old 2 0) (·.rateChanged) s
  else if off = Reg.FRM_FLAG then onlyIf (bit w 0) (fun t => t.setReg Reg.FRM_OVR 0#32) s
  else if off = Reg.FRM_PEAK then onlyIf (bit w 31) (fun t => t.set Reg.FRM_PEAK_PEAK 0) s
  else s

/-- Converters, comparators, angle and pulse input: what their chapters let a write do. -/
def Dev.wroteFront (s : Dev) (off : Nat) (old w : Word) : Dev :=
  if off = Reg.ADC_CTL then (if bit old 0 && !s.isOn Reg.ADC_CTL_EN then s.adcStop else if !bit old 0 && s.isOn Reg.ADC_CTL_EN then s.adcStart else s)
  else if off = Reg.ADC_CALCTL then
    let s := s.setReg off old
    (s.calCh (bits w 5 0)).calStep (bits w 9 8)
  else if off = Reg.ADC_JSOFT then s.jsoft (bits w 7 0)
  else if 0x1800 ≤ off ∧ off < 0x18C0 ∧ off % 8 = 0 then s.cmpWritten ((off - 0x1800) / 8) old
  else if off = Reg.ANG_CFG then s.angWritten (bit old 0)
  else if off = Reg.ANG_CTL then onlyIf (bit w 0) (·.angRearm) s
  else if off = Reg.CE_SPP_CFG then onlyIf (bit old 0 != s.isOn Reg.CE_SPP_CFG_EN) (·.sppEnable) s
  else s

/-- A register of local channel n (R190, R195, R196). -/
def Dev.wroteHb (s : Dev) (n r : Nat) (old : Word) : Dev :=
  let c := s.ch n
  let upd := s.isOn (Reg.MOD_HBn_CFG_UPD n)
  if r = 0 then
    if bit old 31 && !s.isOn (Reg.MOD_HBn_CFG_EN n) then onlyIf (!upd) (fun t => t.hbTransfer n (t.clocks + 1)) (s.hbDisable n)
    else onlyIf (s.isOn (Reg.MOD_HBn_STAT_FLTLAT n) && s.isOn (Reg.MOD_HBn_CFG_EN n) && (!bit old 31 || s.get (Reg.MOD_HBn_CFG_SAFE n) != bits old 27 26))
      (fun t => t.hbSafe n (t.stamp 0)) s
  else if r = 0x10 then s.hbShowQ n
  else if !upd then s
  else if r = 4 then s.setCh n { c with wrPeriod := c.wrPeriod ++ [(s.clocks, s.get (Reg.MOD_HBn_PERIOD_PERIOD n))] }
  else if r = 8 then s.setCh n { c with wrDuty := c.wrDuty ++ [(s.clocks, (s.reg (Reg.MOD_HBn_DUTY n)).toNat % 2 ^ 24)] }
  else if r = 0xC then s.setCh n { c with wrPhase := c.wrPhase ++ [(s.clocks, s.get (Reg.MOD_HBn_PHASE_PHASE n))] }
  else s.setCh n { c with wrCmp := c.wrCmp ++ [(s.clocks, tabulate 8 (fun k => s.reg (Reg.MOD_HBn_CMPk n k)))] }

/-- Modulator and Thicket registers. -/
def Dev.wroteMod (s : Dev) (off : Nat) (old w : Word) : Dev :=
  if off = Reg.MOD_COMMIT then s.hbCommitMask (bits w 11 0)
  else if off = Reg.MOD_FLTCLR then (s.hbClearMask (bits w 11 0)).2.hbXclrMask (bits w 27 16)
  else if 0x2A00 ≤ off ∧ off < 0x2D00 then s.wroteHb ((off - 0x2A00) / 64) (off % 64) old
  else if 0x3100 ≤ off ∧ off < 0x3200 ∧ off % 16 = 0 then onlyIf (!s.ringEn ((off - 0x3100) / 16)) (·.discStart ((off - 0x3100) / 16)) s
  else if off = Reg.THK_CMD then
    if bits w 31 30 = 1 then s.thkHeal (bits w 3 0) else if bits w 31 30 = 2 then s.thkRediscover (bits w 3 0) else s
  else s

/-- Protection, power and Squall registers. A loop put into use accepts the level its pin has (R295). -/
def Dev.wroteSafe (s : Dev) (off : Nat) (old w : Word) : Dev :=
  if off = Reg.PRT_LAT_LO ∨ off = Reg.PRT_LAT_HI then (s.setReg off old).latWrite off w
  else if off = Reg.PRT_CFG then
    forEach [0, 1] (fun k t => onlyIf (!bit old k && t.loopOn k) (fun u => u.tripIn k (u.prt.pinIn / 2 ^ k % 2 == 1) 0) t) s
  else if off = Reg.PWR_PEAK then onlyIf (bit w 31) (fun t => t.set Reg.PWR_PEAK_PEAK 0) s
  else if off = Reg.SNP_REL then s.snapRelease (bits w 3 0)
  else s

/-- What a write to a register of the main die sets off. `before`: the masked events before it. -/
def Dev.wrote (s : Dev) (off : Nat) (old w : Word) (before : Nat) : Dev :=
  if off < 0x400 then s.wroteHif off old w before
  else if off < 0x1000 then s.wroteFrame off old w
  else if off < 0x2800 then s.wroteFront off old w
  else if off < 0x3800 then s.wroteMod off old w
  else s.wroteSafe off old w

/-- A write of HIF_AQ_CFG (R365): with EN 1 only one that clears EN acts; its other fields take what is written. -/
def Dev.aqWrite (s : Dev) (w : Word) : Dev :=
  let put := fun (d : Dev) => d.setReg Reg.HIF_AQ_CFG (w &&& 0x603F0F0F#32)
  if s.isOn Reg.HIF_AQ_CFG_EN then (if bit w 31 then s else put s.aqDisable)
  else if bit w 31 then (put s).aqEnable else put s

/-- A write of a vault register goes through the mirror to the vault (R425, R439); a dark vault takes none. -/
def Dev.vaultWrite (s : Dev) (k : RegKind) (off : Nat) (w : Word) : Dev :=
  if s.vlt.dark then s
  else
    let s := s.configError k (sget resetWord s.vlt.mirror off) w
    s.setReg off (k.write (s.st == stCONFIG) (s.reg off) (s.afterEvents k off w))

/-- A 32-bit write at a BAR0 offset: a doorbell, or a register with what it sets off; nothing at an unassigned address (R10). -/
def Dev.writeReg (s : Dev) (off : Nat) (w : Word) : Dev :=
  if 0x8000 ≤ off ∧ off < 0x8400 then
    if off % 16 = 0 then s.sqtBell ((off - 0x8000) / 16) (bits w 11 0)
    else if off % 16 = 4 then s.cqhBell ((off - 0x8000) / 16) (bits w 11 0)
    else s
  else
    match findReg off with
    | none => s
    | some k =>
      if off = Reg.HIF_AQ_CFG then s.aqWrite w
      else if isVault off then s.vaultWrite k off w
      else
        let old := s.reg off
        let before := s.evtMasked
        let s := (s.configError k old w).beforeWritten k off w
        let w := s.afterEvents k off w
        (s.setReg off (k.write (s.st == stCONFIG) old (s.takenAs off w))).wrote off old w before

/-! ### Reading (R7, R8, R11) -/

/-- The high words that a read of a low word latches (R11); MTR_ACC_LO latches MTR_ACC_FR with MTR_ACC_HI. -/
def highsOf (off : Nat) : List Nat :=
  if off = Reg.MTR_ACC_LO then [Reg.MTR_ACC_HI, Reg.MTR_ACC_FR]
  else if [Reg.CLK_TIME_LO, Reg.ADC_STAMP_LO, Reg.CMP_STAMP_LO, Reg.ANG_ESTAMP_LO, Reg.ANG_ZSTAMP_LO, Reg.PRT_FSTAMP_LO,
      Reg.SAF_FSTAMP_LO, Reg.MTR_SAVE_LO, Reg.VLT_TK_LO, Reg.VLT_FAIL_LO, Reg.SNP_SCHED_LO, Reg.HIF_PTPOFS_LO, Reg.HIF_AQ_SQB_LO,
      Reg.HIF_AQ_CQB_LO].contains off || (decide (0x1204 ≤ off) && decide (off < 0x1280) && off % 16 == 4) then [off + 4]
  else []

/-- A word of a register with its RC fields 0. -/
def RegKind.rcCleared (k : RegKind) (w : Word) : Word :=
  k.fields.foldl (fun a f => if f.acc = .rc then setBits a f.hi f.lo 0 else a) w

/-- A word with its RC fields taken from another. -/
def RegKind.rcFrom (k : RegKind) (src w : Word) : Word :=
  k.fields.foldl (fun a f => if f.acc = .rc then setBits a f.hi f.lo (bits src f.hi f.lo) else a) w

/-- What a read of a register with RC fields answers: what they held before the events of the same core clock (R8). -/
def Dev.rcShown (s : Dev) (off : Nat) (v : Word) : Word :=
  match findReg off, s.clkEvents off with
  | some k, some e => if isVault off then v else k.rcFrom e.1 v
  | _, _ => v

/-- RC fields read: they are 0, and what events of the same core clock counted in them is kept (R8). -/
def Dev.rcRead (s : Dev) (k : RegKind) (off : Nat) : Dev :=
  match s.clkEvents off with
  | none => s.setReg off (k.rcCleared (s.reg off))
  | some e => (s.setReg off (k.rcFrom e.2 (s.reg off))).setClkEvents off (k.rcCleared e.1, e.2)

/-- VLT_CNT read: what was shown leaves the vault’s counters, so an event since the mirror was filled is kept (R8). -/
def Dev.vaultRcRead (s : Dev) (off : Nat) (shown : Word) : Dev :=
  let now := s.reg off
  let left := setBits (setBits now 31 16 (bits now 31 16 - bits shown 31 16)) 15 0 (bits now 15 0 - bits shown 15 0)
  let s := s.setReg off left
  { s with vlt := { s.vlt with mirror := sset resetWord s.vlt.mirror off 0#32 } }

/-- What a read does beside answering: RC fields clear, a low word latches, HIF_MBX_STAT latches the result (R361). -/
def Dev.readEffect (s : Dev) (off : Nat) (shown : Word) : Dev :=
  let s := { s with hiLatch := s.hiLatch.filter (fun x => x.1 != off) }
  let s := forEach (highsOf off) (fun h t => { t with hiLatch := t.hiLatch.filter (fun x => x.1 != h) ++ [(h, t.view h)] }) s
  if off = Reg.HIF_MBX_STAT then s.mbxLatch
  else
    match findReg off with
    | none => s
    | some k => if off = Reg.VLT_CNT then s.vaultRcRead off shown else if isVault off then s else s.rcRead k off

/-- A 32-bit read at a BAR0 offset. -/
def Dev.readReg (s : Dev) (off : Nat) : Word × Dev :=
  let v := match s.hiLatch.find? (fun x => x.1 == off) with
    | some x => x.2
    | none => s.rcShown off (s.view off)
  (v, s.readEffect off v)

/-! ### PCIe accesses (R6, R341) -/

/-- The pending bits that no mask holds back any more are sent (R352). -/
def Dev.msixRelease (s : Dev) : Dev :=
  if !s.host.msixEnable then s
  else
    let go := s.host.pba.filter (fun v => !s.msixMasked v)
    let s := { s with host := { s.host with pba := s.host.pba.filter s.msixMasked } }
    forEach go (fun v t => t.send (.msix v)) s

/-- A word written to BAR2 (the MSI-X table; the pending bits are read-only), or MSI-X Message Control (PRESUMED, log entry 13). -/
def Dev.msixWrite (s : Dev) (a : Nat) (w : Word) : Dev :=
  if a < 1040 then
    let d := fun i => if i % 4 = 3 then 1#32 else 0#32
    let s := { s with host := { s.host with msixTable := sset d s.host.msixTable (a / 4) w } }
    s.msixRelease
  else s
def Dev.msixControl (s : Dev) (w : Word) : Dev :=
  ({ s with host := { s.host with msixEnable := bit w 15, msixFnMask := bit w 14 } }).msixRelease

/-- A write over PCIe: `width` bytes at an address. Addresses 0–0xFFFF are BAR0, 0x10000–0x10FFF BAR2, and 0x20000 MSI-X Message Control
(log entry 13). Another width or alignment is aborted (R6). -/
def Dev.hostWriteAt (s : Dev) (addr width : Nat) (w : Word) : Dev :=
  if s.inReset then s
  else if width ≠ 4 ∨ addr % 4 ≠ 0 then s.send .abort
  else if addr < 0x10000 then s.writeReg addr w
  else if addr < 0x11000 then s.msixWrite (addr - 0x10000) w
  else if addr = 0x20000 then s.msixControl w else s

/-- A BAR2 word. -/
def Dev.bar2 (s : Dev) (a : Nat) : Word :=
  if a < 1040 then sget (fun i => if i % 4 = 3 then 1#32 else 0#32) s.host.msixTable (a / 4)
  else if 0x800 ≤ a then BitVec.ofNat 32 (s.host.pba.foldl (fun n v => if v / 32 = (a - 0x800) / 4 then n ||| 2 ^ (v % 32) else n) 0)
  else 0#32

/-- A read over PCIe: the answer is sent. -/
def Dev.hostReadAt (s : Dev) (addr width : Nat) : Dev :=
  if s.inReset then s
  else if width ≠ 4 ∨ addr % 4 ≠ 0 then s.send .abort
  else if addr < 0x10000 then
    let r := s.readReg addr
    r.2.send (.readData r.1)
  else if addr < 0x11000 then s.send (.readData (s.bar2 (addr - 0x10000)))
  else s

/-! ### Host SPI (R342–R344) -/

/-- Fields of a frame. -/
def spiSpace (f : List Byte) : Nat := byteAt f 0 / 32 % 4
def spiAddr (f : List Byte) : Nat := byteAt f 1 * 65536 + byteAt f 2 * 256 + byteAt f 3

/-- Size of a space; 0 for the reserved one. -/
def spaceSize (sp : Nat) : Nat := match sp with | 0 => 65536 | 1 => 16384 | 2 => 65536 | _ => 0

/-- The error bits of a frame of `n` words: [3] SPACE, [2] LEN, [1] ALIGN, [0] CRC. -/
def spiErr (f : List Byte) (n : Nat) (len crc : Bool) : Nat :=
  8 * b2n (spiSpace f == 3 || decide (spaceSize (spiSpace f) < spiAddr f + 4 * n)) + 4 * b2n len + 2 * b2n (spiAddr f % 4 != 0) + b2n crc

/-- The end of a frame: its errors are counted and shown in the next frame’s status byte. -/
def Dev.spiDone (s : Dev) (err : Nat) : Dev :=
  let s := onlyIf (err % 2 == 1) (·.count Reg.HIF_SPIERR_CRC) s
  let s := onlyIf (err / 2 % 2 == 1) (·.count Reg.HIF_SPIERR_ALIGN) s
  let s := onlyIf (err / 4 % 2 == 1) (·.count Reg.HIF_SPIERR_LEN) s
  let s := onlyIf (err / 8 % 2 == 1) (·.count Reg.HIF_SPIERR_SPACE) s
  let s := onlyIf (err != 0) (·.hifFlag Reg.HIF_FLAG_SPIERR_F) s
  { s with host := { s.host with spiPrev := err } }

/-- The status byte sent during byte 0. -/
def Dev.spiStatus (s : Dev) : Byte := BitVec.ofNat 8 (128 * b2n (s.isOn Reg.HIF_STAT_CMDRDY) + s.host.spiPrev % 16)

/-- A word written in a space. -/
def Dev.spiPut (s : Dev) (sp a : Nat) (w : Word) : Dev :=
  match sp with
  | 0 => s.writeReg a w
  | 1 => { s with host := { s.host with ringWin := writeBytes s.host.ringWin a (wordBytes w) } }
  | _ => { s with host := { s.host with bulkWin := writeBytes s.host.bulkWin a (wordBytes w) } }

/-- A word read in a space. -/
def Dev.spiGet (s : Dev) (sp a : Nat) : Word × Dev :=
  match sp with
  | 0 => s.readReg a
  | 1 => (wordAt (readBytes s.host.ringWin a 4) 0, s)
  | _ => (wordAt (readBytes s.host.bulkWin a 4) 0, s)

/-- Host SPI is selected and the device is out of reset. -/
def Dev.spiOn (s : Dev) : Bool := s.isOn Reg.HIF_STAT_SPIMODE && !s.inReset

/-- A write frame: `f` is what came on HSPI_MOSI. A frame whose command byte says read is not one. -/
def Dev.spiWrite (s : Dev) (f : List Byte) : Dev :=
  if !s.spiOn || decide (128 ≤ byteAt f 0) then s
  else
    let n := (f.length - 5) / 4
    let len := f.length != 5 + 4 * n || n == 0 || decide (256 < n)
    let err := spiErr f n len (crc8 (f.take (f.length - 1)) != byteAt f (f.length - 1))
    let s := s.send (.miso [s.spiStatus])
    let s := if err = 0 then forEach (List.range n) (fun i t => t.spiPut (spiSpace f) (spiAddr f + 4 * i) (wordAt f (4 + 4 * i))) s else s
    s.spiDone err

/-- Words read one after the other. -/
def spiWords (sp a : Nat) : Nat → Dev → List Byte × Dev
  | 0, s => ([], s)
  | n + 1, s =>
    let r := s.spiGet sp a
    let t := spiWords sp (a + 4) n r.2
    (wordBytes r.1 ++ t.1, t.2)

/-- A read frame: `f` is what came on HSPI_MOSI, `clocked` its length in bytes (log entry 35). A frame that fails a check returns zeros and
the inverted CRC. -/
def Dev.spiRead (s : Dev) (f : List Byte) (clocked : Nat) : Dev :=
  if !s.spiOn || decide (byteAt f 0 < 128) then s
  else
    let n := byteAt f 4 + 1
    let err := spiErr f n (decide (clocked ≠ 6 + 4 * n)) false
    let st := s.spiStatus
    let r := if err = 0 then spiWords (spiSpace f) (spiAddr f) n s else (zeros (4 * n), s)
    let c := if err = 0 then crc8 r.1 else 255 - crc8 r.1
    (r.2.send (.miso (st :: r.1 ++ [BitVec.ofNat 8 c]))).spiDone err

end Sys2Proof.Machine
end

