-- ==== Sys2Proof/Machine/Settle.lean ====
section
/-! DEFINITION. What holds after every command whatever it was: active sources set their latches, waiting commands that have ended
complete, derived registers and output pins follow; and `onDev`, the form every meaning has. -/

namespace Sys2Proof.Machine

/-- A number with one bit per index of a list of conditions. -/
def boolMask (l : List Bool) : Nat := l.foldr (fun b a => b2n b + 2 * a) 0

/-! ### Commands ended by a trip (R369) -/

/-- The reply of a command that a trip has ended (R369), with the lowest code latched (DEDUCED from R293, log entry 45). -/
def Dev.tripReply (s : Dev) : Reply := { status := sTRIP_ACTIVE, detail := s.lowestLatch }

/-- Commands executing over several events end with TRIP_ACTIVE on the latch (R369): the profile load, the join, the metering save, the clear in its
blanking, the path test and the FRAM read. A handover continues (R410). -/
def Dev.tripProf (s : Dev) : Dev :=
  match s.esp.profCmd with
  | some (src, p, _) => (s.setEsp { s.esp with profCmd := none }).complete (some (src, p, s.tripReply))
  | none => s

def Dev.tripJoin (s : Dev) : Dev :=
  match s.krk.joinCmd with
  | some (src, p) => (s.leaveStation.setKrk { s.leaveStation.krk with joinCmd := none }).complete (some (src, p, s.tripReply))
  | none => s

/-- The clear ends, and with it the blanking: the levels of the loops are accepted again, and the latches are not empty (R293, R296). -/
def Dev.tripClear (s : Dev) : Dev :=
  match s.prt.blanking with
  | some (src, p) =>
    let s := (s.set Reg.PRT_STAT_BLANK 0).raise Reg.PRT_FLAG_CLRREJ_F
    let s := forEach [0, 1] (fun k t => t.loopAccept k) { s with prt := { s.prt with blanking := none } }
    s.complete (some (src, p, s.tripReply))
  | none => s

/-- The path test ends on a latch other than its own: that of its source and those of the loops it measures (R313). -/
def Dev.tripPath (s : Dev) : Dev :=
  match s.prt.path with
  | some (src, p, _) =>
    if s.prt.tripped.all [0x1C, 0x1D, 0x2E].contains then s
    else ({ s with prt := { s.prt with path := none } }).complete (some (src, p, s.tripReply))
  | none => s

/-- The FRAM reads that wait for a burst end. -/
def Dev.tripReads (s : Dev) : Dev :=
  s.completeAll ((s.host.waits.filter (fun w => pOp w.pkt == 0xB2 && w.kind == .executing)).map (fun w => (w.src, w.pkt, s.tripReply)))

/-- The commands that wait for a metering save end; a save that they alone asked for and that has not started is not written. -/
def Dev.tripSave (s : Dev) : Dev :=
  let save := fun (x : Src × Packet) => pOp x.2 == 0x87
  let gone := (s.fram.reqs.map (fun r => r.cmds.filter save)).flatten
  let only := fun (r : FramReq) => !r.auto && !r.started && !r.cmds.isEmpty && r.cmds.all save
  let keep := (s.fram.reqs.filter (fun r => !only r)).map (fun (r : FramReq) => { r with cmds := r.cmds.filter (fun x => !save x) })
  ({ s with fram := { s.fram with reqs := keep } }).completeAll (gone.map (fun (x : Src × Packet) => (x.1, x.2, s.tripReply)))

/-- The latch has ended the commands that execute. -/
def Dev.tripEnds (s : Dev) : Dev :=
  let s := onlyIf (!s.prt.tripped.isEmpty && s.st == stTRIPPED) (fun t => t.tripProf.tripJoin.tripSave.tripClear.tripPath.tripReads) s
  { s with prt := { s.prt with tripped := [] } }

/-! ### Waiting commands that have ended -/

/-- The VLT_FRAM_READ commands that have waited for a burst run once none does (R437). -/
def Dev.framReads (s : Dev) : Dev :=
  if s.fram.reqs.any (fun r => r.started) then s
  else
    match opRow 0xB2 with
    | none => s
    | some row => forEach (s.host.waits.filter (fun w => pOp w.pkt == 0xB2 && w.kind == .executing)) (fun w t => t.execute w row) s

/-- Path test, handover, snapshot triggers, waiting FRAM reads and queue deletions complete when their ends have come, and messages that wait are
taken. -/
def Dev.endings (s : Dev) : Dev :=
  let a := s.pathEnd
  let s := a.1.complete a.2
  let h := s.handoverEnd false
  let s := h.1.complete h.2
  s.snapReplies.framReads.queuesGone.txnView.inboxRun

/-! ### Derived registers -/

/-- PRT_ACT (R286), the comparator part of PRT_EN_LO (R287), PRT_STAT.OUT and TOUT. -/
def Dev.showPrt (s : Dev) : Dev :=
  let act := fun c => sourceCodes.contains c && s.sourceActive c
  let s' := s.setReg Reg.PRT_ACT_LO (BitVec.ofNat 32 (boolMask ((List.range 32).map act)))
  let s' := s'.setReg Reg.PRT_ACT_HI (BitVec.ofNat 32 (boolMask ((List.range 32).map (fun c => act (c + 32)))))
  let s' := s'.set Reg.PRT_EN_LO_CMP (boolMask ((List.range 24).map (fun i => s.isOn (Reg.CMP_ROUTEi_TRIP i))))
  let s' := s'.setB Reg.PRT_STAT_OUT s.anyLatch
  s'.set Reg.PRT_STAT_TOUT (boolMask [s.tripOut 0, s.tripOut 1])

/-- MOD_HBn_STAT.FLTACT (R199). -/
def Dev.showHb (s : Dev) : Dev :=
  forEach (List.range 12) (fun n t => t.setB (Reg.MOD_HBn_STAT_FLTACT n) (t.hbActive n)) s

/-! ### Pins -/

/-- HIRQ_N is low: some queue of the ring window with IEN has unreleased entries, a masked event stands, or an unacknowledged mailbox
result does with MBXIEN 1 (R352). -/
def Dev.hirq (s : Dev) : Bool :=
  s.host.queues.any (fun x => x.2.exists_ && x.2.win && x.2.ien && x.2.unreleased != 0) || s.evtMasked != 0 ||
  (s.isOn Reg.HIF_CFG_MBXIEN && s.isOn Reg.HIF_MBX_STAT_VALID)

/-- The pins that the device drives by its function. -/
def Dev.drivenPins (s : Dev) : Pins :=
  let hb := s.hbPins (s.get Reg.SAF_HEDGE_DEM != 0)
  let irq := s.isOn Reg.HIF_STAT_SPIMODE && s.hirq
  { tripOut := [s.tripOut 0, s.tripOut 1], hbPulse := hb.1, hbEnable := hb.2, cto := s.get Reg.SAF_STAT_CTOOUT,
    pulseOut := (if s.mtr.running then s.pins.pulseOut else 0), hirqN := !irq, gpioOe := b2n irq * 2 ^ 11,
    thkTx := boolMask ((List.range 16).map (fun r => s.isOn (Reg.THK_RINGr_CFG_EN r))),
    krkTx := boolMask ((List.range 4).map (fun p => s.get (Reg.KRK_PORTp_STAT_LINK p) != 0)),
    pcieTx := (if s.isOn Reg.HIF_STAT_LINKUP then 2 else 1), sgmiiTx := s.isOn Reg.HIF_MGT_CFG_EN, extest := s.pins.extest }

/-- The boundary cells drive the balls: a 1 at a local channel or a contactor leaves its ball high-impedance, so none is driven high (R462). -/
def Pins.bounded (p : Pins) (b : Boundary) : Pins :=
  { p with tripOut := [b.tripOut % 2 == 1, b.tripOut / 2 % 2 == 1], hbPulse := 0, hbEnable := 0, cto := 0, hbPulseZ := b.hbPulse,
           hbEnableZ := b.hbEnable, ctoZ := b.cto, pulseOut := b.pulseOut, gpioOe := b.gpioOe, gpio := b.gpio, qspiCsN := b.qspiCsN,
           qspiSck := b.qspiSck, qspiOe := b.qspiOe, qspiIo := b.qspiIo,
           hirqN := !(b.gpioOe / 2 ^ 11 % 2 == 1) || b.gpio / 2 ^ 11 % 2 == 1 }

/-- The output pins: high-impedance in reset (R382, R444); under EXTEST or CLAMP the boundary cells in BOOT and CONFIG (R462); else the functional
drivers. VWAKE is the vault’s. -/
def Dev.pinsFollow (s : Dev) : Dev :=
  let p : Pins :=
    if s.inReset then { released := true, pcieTx := 0 }
    else
      match s.pins.extest with
      | some b => if s.stIn [stBOOT, stCONFIG] then s.drivenPins.bounded b else s.drivenPins
      | none => s.drivenPins
  { s with pins := { p with wake := if s.vlt.dark then none else some (s.isOn Reg.VLT_FLAG_WAKE_F) } }

/-- EXTEST or CLAMP becomes the instruction, or is it no more; the TAP is held in Test-Logic-Reset during reset (R462). -/
def Dev.extest (s : Dev) (on : Bool) (cells : Boundary) : Dev :=
  if s.inReset then s else { s with pins := { s.pins with extest := if on then some cells else none } }

/-! ### The form of every meaning -/

/-- What follows from the state after each command. -/
def Dev.settle (s : Dev) : Dev :=
  let s := s.matrix
  let s := s.refFollow.mtrFollow.injFollow.tripEnds
  let s := s.endings
  let s := s.safDerive.vaultDerive
  s.showPrt.showHb.pinsFollow

/-- A meaning: what went out before is gone, the command acts on the device, and the state settles. The queue is as it was. -/
def onDev (f : Dev → Dev) (s : State) : Host.Outcome State Fault Refusal :=
  .next { s with dev := (f { s.dev with out := [] }).settle }

/-- A meaning of the main die: nothing happens while it is held in reset (R382). -/
def onLive (f : Dev → Dev) (s : State) : Host.Outcome State Fault Refusal := onDev (fun d => if d.inReset then d else f d) s

end Sys2Proof.Machine
end

