-- ==== Sys2Proof/Machine/AdminCmds.lean ====
section
/-! DEFINITION. The meanings of commands: admin opcodes, snapshots and the log. -/

namespace Sys2Proof.Machine

/-- NOP (R363): opcode 0x00 submitted at `src`. -/
def execNop (src : Src) (p : Packet) (s : State) : Host.Outcome State Fault Refusal := onDev (·.runOp 0x00 src p) s

/-- IDENTIFY (R363): opcode 0x01 submitted at `src`. -/
def execIdentify (src : Src) (p : Packet) (s : State) : Host.Outcome State Fault Refusal := onDev (·.runOp 0x01 src p) s

/-- Q_CREATE (R363): opcode 0x02 submitted at `src`. -/
def execQCreate (src : Src) (p : Packet) (s : State) : Host.Outcome State Fault Refusal := onDev (·.runOp 0x02 src p) s

/-- Q_DELETE (R363): opcode 0x03 submitted at `src`. -/
def execQDelete (src : Src) (p : Packet) (s : State) : Host.Outcome State Fault Refusal := onDev (·.runOp 0x03 src p) s

/-- STATE_GOTO (R370): opcode 0x04 submitted at `src`. -/
def execStateGoto (src : Src) (p : Packet) (s : State) : Host.Outcome State Fault Refusal := onDev (·.runOp 0x04 src p) s

/-- DEV_RESET (R363): opcode 0x05 submitted at `src`. -/
def execDevReset (src : Src) (p : Packet) (s : State) : Host.Outcome State Fault Refusal := onDev (·.runOp 0x05 src p) s

/-- MGT_SEND (R363): opcode 0x06 submitted at `src`. -/
def execMgtSend (src : Src) (p : Packet) (s : State) : Host.Outcome State Fault Refusal := onDev (·.runOp 0x06 src p) s

/-- MGT_RECV (R363): opcode 0x07 submitted at `src`. -/
def execMgtRecv (src : Src) (p : Packet) (s : State) : Host.Outcome State Fault Refusal := onDev (·.runOp 0x07 src p) s

/-- SNP_TRIGGER (R396): opcode 0x90 submitted at `src`. -/
def execSnpTrigger (src : Src) (p : Packet) (s : State) : Host.Outcome State Fault Refusal := onDev (·.runOp 0x90 src p) s

/-- SNP_READ (R396): opcode 0x91 submitted at `src`. -/
def execSnpRead (src : Src) (p : Packet) (s : State) : Host.Outcome State Fault Refusal := onDev (·.runOp 0x91 src p) s

/-- LOG_READ (R396): opcode 0x92 submitted at `src`. -/
def execLogRead (src : Src) (p : Packet) (s : State) : Host.Outcome State Fault Refusal := onDev (·.runOp 0x92 src p) s

end Sys2Proof.Machine
end

