-- ==== Sys2Proof/Machine/CellCmds.lean ====
section
/-! DEFINITION. The meanings of commands: cell sweep events and opcodes. -/

namespace Sys2Proof.Machine

/-- IV_SWEEP_SCHEDULED (R158). Station time reaches a multiple of SWEEPINT and a scheduled I–V sweep begins or is skipped. -/
def execIvSweepScheduled (s : State) : Host.Outcome State Fault Refusal := onLive (fun d => d.ivScheduled) s

/-- IV_SWEEP_POINT_END (R157). A sweep point's SWDWELL frames end; its value is taken and the reference moves on, or the sweep ends. -/
def execIvSweepPointEnd (s : State) : Host.Outcome State Fault Refusal := onLive (fun d => d.ivPointEnd) s

/-- ROTATION_DUE (R167). The frame number reaches a multiple of ROTP and a scheduled standby rotation falls due. -/
def execRotationDue (s : State) : Host.Outcome State Fault Refusal := onLive (fun d => d.rotationDue) s

/-- CELL_MAP_LOAD (R144): opcode 0x30 submitted at `src`. -/
def execCellMapLoad (src : Src) (p : Packet) (s : State) : Host.Outcome State Fault Refusal := onDev (·.runOp 0x30 src p) s

/-- CELL_MAP_READ (R168): opcode 0x31 submitted at `src`. -/
def execCellMapRead (src : Src) (p : Packet) (s : State) : Host.Outcome State Fault Refusal := onDev (·.runOp 0x31 src p) s

/-- CELL_STATUS_READ (R169): opcode 0x32 submitted at `src`. -/
def execCellStatusRead (src : Src) (p : Packet) (s : State) : Host.Outcome State Fault Refusal := onDev (·.runOp 0x32 src p) s

/-- CELL_BYPASS (R164): opcode 0x33 submitted at `src`. -/
def execCellBypass (src : Src) (p : Packet) (s : State) : Host.Outcome State Fault Refusal := onDev (·.runOp 0x33 src p) s

/-- CELL_RESTORE (R164): opcode 0x34 submitted at `src`. -/
def execCellRestore (src : Src) (p : Packet) (s : State) : Host.Outcome State Fault Refusal := onDev (·.runOp 0x34 src p) s

/-- CELL_IV_SWEEP (R158): opcode 0x35 submitted at `src`. -/
def execCellIvSweep (src : Src) (p : Packet) (s : State) : Host.Outcome State Fault Refusal := onDev (·.runOp 0x35 src p) s

/-- CELL_IV_READ (R168): opcode 0x36 submitted at `src`. -/
def execCellIvRead (src : Src) (p : Packet) (s : State) : Host.Outcome State Fault Refusal := onDev (·.runOp 0x36 src p) s

/-- CELL_VREF_SET (R168): opcode 0x37 submitted at `src`. -/
def execCellVrefSet (src : Src) (p : Packet) (s : State) : Host.Outcome State Fault Refusal := onDev (·.runOp 0x37 src p) s

/-- CELL_SOC_SET (R161): opcode 0x38 submitted at `src`. -/
def execCellSocSet (src : Src) (p : Packet) (s : State) : Host.Outcome State Fault Refusal := onDev (·.runOp 0x38 src p) s

/-- CELL_ROTATE (R167): opcode 0x39 submitted at `src`. -/
def execCellRotate (src : Src) (p : Packet) (s : State) : Host.Outcome State Fault Refusal := onDev (·.runOp 0x39 src p) s

end Sys2Proof.Machine
end

