-- ==== Sys2Proof/Machine/CirrusCmds.lean ====
section
/-! DEFINITION. The meanings of commands: control engine opcodes. -/

namespace Sys2Proof.Machine

/-- CE_CTX_LOAD (R114): opcode 0x10 submitted at `src`. -/
def execCeCtxLoad (src : Src) (p : Packet) (s : State) : Host.Outcome State Fault Refusal := onDev (·.runOp 0x10 src p) s

/-- CE_CTX_ENABLE (R140): opcode 0x11 submitted at `src`. -/
def execCeCtxEnable (src : Src) (p : Packet) (s : State) : Host.Outcome State Fault Refusal := onDev (·.runOp 0x11 src p) s

/-- CE_CTX_REMOVE (R140): opcode 0x12 submitted at `src`. -/
def execCeCtxRemove (src : Src) (p : Packet) (s : State) : Host.Outcome State Fault Refusal := onDev (·.runOp 0x12 src p) s

/-- CE_CTX_READ (R140): opcode 0x13 submitted at `src`. -/
def execCeCtxRead (src : Src) (p : Packet) (s : State) : Host.Outcome State Fault Refusal := onDev (·.runOp 0x13 src p) s

/-- CE_SP_SET (R131): opcode 0x14 submitted at `src`. -/
def execCeSpSet (src : Src) (p : Packet) (s : State) : Host.Outcome State Fault Refusal := onDev (·.runOp 0x14 src p) s

/-- CE_PARAM_SET (R139): opcode 0x15 submitted at `src`. -/
def execCeParamSet (src : Src) (p : Packet) (s : State) : Host.Outcome State Fault Refusal := onDev (·.runOp 0x15 src p) s

/-- CE_STATE_RESET (R140): opcode 0x16 submitted at `src`. -/
def execCeStateReset (src : Src) (p : Packet) (s : State) : Host.Outcome State Fault Refusal := onDev (·.runOp 0x16 src p) s

/-- CE_COST_QUERY (R140): opcode 0x17 submitted at `src`. -/
def execCeCostQuery (src : Src) (p : Packet) (s : State) : Host.Outcome State Fault Refusal := onDev (·.runOp 0x17 src p) s

/-- CE_TBL_LOAD (R129): opcode 0x18 submitted at `src`. -/
def execCeTblLoad (src : Src) (p : Packet) (s : State) : Host.Outcome State Fault Refusal := onDev (·.runOp 0x18 src p) s

/-- CE_TBL_READ (R140): opcode 0x19 submitted at `src`. -/
def execCeTblRead (src : Src) (p : Packet) (s : State) : Host.Outcome State Fault Refusal := onDev (·.runOp 0x19 src p) s

/-- CE_INJ_START (R134): opcode 0x1A submitted at `src`. -/
def execCeInjStart (src : Src) (p : Packet) (s : State) : Host.Outcome State Fault Refusal := onDev (·.runOp 0x1A src p) s

/-- CE_INJ_STOP (R136): opcode 0x1B submitted at `src`. -/
def execCeInjStop (src : Src) (p : Packet) (s : State) : Host.Outcome State Fault Refusal := onDev (·.runOp 0x1B src p) s

/-- CE_CAP_ARM (R137): opcode 0x1C submitted at `src`. -/
def execCeCapArm (src : Src) (p : Packet) (s : State) : Host.Outcome State Fault Refusal := onDev (·.runOp 0x1C src p) s

/-- CE_CAP_READ (R138): opcode 0x1D submitted at `src`. -/
def execCeCapRead (src : Src) (p : Packet) (s : State) : Host.Outcome State Fault Refusal := onDev (·.runOp 0x1D src p) s

/-- CE_CAP_ABORT (R140): opcode 0x1E submitted at `src`. -/
def execCeCapAbort (src : Src) (p : Packet) (s : State) : Host.Outcome State Fault Refusal := onDev (·.runOp 0x1E src p) s

end Sys2Proof.Machine
end

