-- ==== Sys2Proof/Machine/ClockCmds.lean ====
section
/-! DEFINITION. The meanings of commands: clock, time counter and the phases of a frame. -/

namespace Sys2Proof.Machine

/-- BAND_SEARCH_COMPLETE (R37). The 384-cycle binary band search ends, the band is stored and the PLL enters ACQ. -/
def execBandSearchComplete (band : Nat) (s : State) : Host.Outcome State Fault Refusal := onLive (fun d => d.bandDone band) s

/-- PLL_LOCK (R38). 256 consecutive reference cycles within ±200 ps declare lock and switch the core to the PLL output. -/
def execPllLock (phErr : Int) (s : State) : Host.Outcome State Fault Refusal := onLive (fun d => d.pllLock phErr) s

/-- LOCK_TIMEOUT (R38). No lock within 4,096 cycles after the band search sets LKFAIL_F, increments LKFAIL_CNT and starts a new band search. -/
def execLockTimeout (phErr : Int) (run : Nat) (s : State) : Host.Outcome State Fault Refusal := onLive (fun d => d.acqTimeout phErr run) s

/-- LOSS_OF_LOCK (R41). A phase error beyond ±1,000 ps on 8 consecutive cycles moves the PLL to LOST and the clock to the bypass oscillator. -/
def execLossOfLock (phErr : Int) (s : State) : Host.Outcome State Fault Refusal := onLive (fun d => d.lossOfLock phErr) s

/-- REFERENCE_LOSS (R41). No reference edge for 4 periods sets REFLOSS_F and moves the PLL to LOST, switching to bypass when it was in LOCK. -/
def execReferenceLoss (s : State) : Host.Outcome State Fault Refusal := onLive (fun d => d.refLoss) s

/-- REFERENCE_RETURN (R44). In LOST, 256 clean reference cycles start a new band search and lock. -/
def execReferenceReturn (s : State) : Host.Outcome State Fault Refusal := onLive (fun d => d.refReturn) s

/-- OFFSET_MEASUREMENT (R47). A Krekai two-way time exchange measures the offset from station time and applies a slew or a step. -/
def execOffsetMeasurement (port : Nat) (toNeigh : Int) (fromNeigh : Int) (s : State) : Host.Outcome State Fault Refusal :=
  onLive (fun d => d.measure port toNeigh fromNeigh) s

/-- FRAME_TICK (R52). Station time reaches N × P: frame N begins. -/
def execFrameTick (dispatchDone : Bool) (s : State) : Host.Outcome State Fault Refusal := onLive (fun d => d.frameTick dispatchDone) s

/-- COMPUTE_PHASE_START (R53). SW_END is reached: the compute phase runs the control items, then the sheddable items. -/
def execComputePhaseStart (sampleDone : Bool) (ctl : Nat) (runs : List Nat) (s : State) : Host.Outcome State Fault Refusal :=
  onLive (fun d => d.computeStart sampleDone ctl runs) s

/-- DISPATCH_PHASE_START (R53). CMP_END is reached: sheddable work still running is stopped and dispatch begins. -/
def execDispatchPhaseStart (s : State) : Host.Outcome State Fault Refusal := onLive (fun d => d.dispatchStart) s

end Sys2Proof.Machine
end

