-- ==== Sys2Proof/Machine/FrontCmds.lean ====
section
/-! DEFINITION. The meanings of commands: converters, comparators, angle and pulse inputs. -/

namespace Sys2Proof.Machine

/-- CONVERSION_END (R66). A 1 µs conversion completes, its result is written and the converter starts its next slot. -/
def execConversionEnd (conv : Nat) (code : Nat) (oor : Nat) (s : State) : Host.Outcome State Fault Refusal :=
  onLive (fun d => onlyIf (decide (conv < 16) && (d.convRun conv).isSome) (fun t => (t.convOver conv code oor).mtrFeed) d) s

/-- CLAMP_SENSE (R81). An input's clamp sense becomes active and the pair's slots are marked SUSPECT. -/
def execClampSense (input : Nat) (s : State) : Host.Outcome State Fault Refusal :=
  onLive (fun d => onlyIf (decide (input < 48)) (·.clampOn input) d) s

/-- JSOFT_TRIGGER (R75). A write of 1 to a pair's ADC_JSOFT bit triggers an injected conversion. -/
def execJsoftTrigger (pairs : Nat) (s : State) : Host.Outcome State Fault Refusal :=
  onLive (fun d => d.hostWriteAt Reg.ADC_JSOFT 4 (BitVec.ofNat 32 (pairs % 256))) s

/-- BGCAL_STEP_COMPLETE (R77). A background calibration step completes; new trims are applied or rejected and the rotation moves on. -/
def execBgcalStepComplete (slice : Nat) (phase : Nat) (z : Nat) (f : Nat) (s : State) : Host.Outcome State Fault Refusal :=
  onLive (fun d => onlyIf (decide (slice < 2)) (·.bgStep slice phase z f) d) s

/-- CAL_CH_WRITE (R79). A write of CH to ADC_CALCTL discards both means and abandons a running step. -/
def execCalChWrite (ch : Nat) (s : State) : Host.Outcome State Fault Refusal := onLive (fun d => d.calCh ch) s

/-- CAL_ZERO (R79). STEP 1 starts 256 zero conversions on the input's pair. -/
def execCalZero (s : State) : Host.Outcome State Fault Refusal := onLive (fun d => d.calStep 1) s

/-- CAL_FULL (R79). STEP 2 starts 256 full-scale conversions on the input's pair. -/
def execCalFull (s : State) : Host.Outcome State Fault Refusal := onLive (fun d => d.calStep 2) s

/-- CAL_COMPUTE (R80). STEP 3 computes the gain and offset or reports a failure in RESULT. -/
def execCalCompute (s : State) : Host.Outcome State Fault Refusal := onLive (fun d => d.calStep 3) s

/-- CAL_STEP_COMPLETE (R79). The 256 conversions of a ZERO or FULL step end, the mean is stored and the scan resumes. -/
def execCalStepComplete (codes : List Nat) (firstB : Bool) (oor : Bool) (s : State) : Host.Outcome State Fault Refusal :=
  onLive (fun d => d.calOver codes firstB oor) s

/-- COMPARATOR_TRANSITION (R83). A comparator enters TRIPPED or returns to NORMAL and acts on its routes. -/
def execComparatorTransition (i : Nat) (v : Int) (tdc : Nat) (s : State) : Host.Outcome State Fault Refusal :=
  onLive (fun d => onlyIf (decide (i < 24)) (·.cmpInput i v tdc) d) s

/-- COMPARATOR_POWERUP_EVAL (R84). After power-up, once the mode's response time has passed, the comparator first evaluates its input. -/
def execComparatorPowerupEval (i : Nat) (v : Int) (tdc : Nat) (s : State) : Host.Outcome State Fault Refusal :=
  onLive (fun d => onlyIf (decide (i < 24)) (·.cmpPowered i v tdc) d) s

/-- COMPARATOR_SETTLE (R85). After a settings change, the hold of the new mode's response time ends and the comparator evaluates. -/
def execComparatorSettle (i : Nat) (v : Int) (tdc : Nat) (s : State) : Host.Outcome State Fault Refusal :=
  onLive (fun d => onlyIf (decide (i < 24)) (·.cmpSettled i v tdc) d) s

/-- QUADRATURE_EDGE (R94). A change of the accepted ANG_A and ANG_B levels is decoded as a legal or an illegal transition. -/
def execQuadratureEdge (a : Bool) (b : Bool) (s : State) : Host.Outcome State Fault Refusal := onLive (fun d => d.quadrature a b) s

/-- INDEX_PULSE (R97). An accepted rising edge on ANG_Z resets POS, checks the index error and may validate the reference. -/
def execIndexPulse (s : State) : Host.Outcome State Fault Refusal := onLive (fun d => d.indexKept) s

/-- FREQ_WINDOW_END (R101). A measurement window of WIN frames ends and fx is reported, with a possible change of method. -/
def execFreqWindowEnd (s : State) : Host.Outcome State Fault Refusal := onLive (fun d => d.windowEnd) s

/-- STANDSTILL_TIMEOUT (R103). No legal edge for STILL ms sets fx to 0, sets STILL_F and makes the reference LOST. -/
def execStandstillTimeout (s : State) : Host.Outcome State Fault Refusal := onLive (fun d => d.standstill) s

/-- ANG_REARM (R107). A write of 1 to ANG_CTL.REARM permits an INVALID reference to return to VALID. -/
def execAngRearm (s : State) : Host.Outcome State Fault Refusal := onLive (fun d => d.hostWriteAt Reg.ANG_CTL 4 1#32) s

/-- SP_PULSE_EDGE (R132). An accepted rising edge on SP_PULSE is stamped for the pulse frequency. -/
def execSpPulseEdge (s : State) : Host.Outcome State Fault Refusal := onLive (fun d => d.sppEdge) s

/-- SPP_LOSS_TIMEOUT (R133). No rising edge for LOSSDET ms moves the pulse state from TRACK to HOLD and sets PLOSS_F. -/
def execSppLossTimeout (s : State) : Host.Outcome State Fault Refusal := onLive (fun d => d.sppLoss) s

/-- SPP_HOLD_EXPIRY (R133). THOLD ms in HOLD elapse and the pulse value starts to ramp toward FB. -/
def execSppHoldExpiry (s : State) : Host.Outcome State Fault Refusal := onLive (fun d => d.sppHoldEnd) s

/-- CLAMP_SENSE_RELEASE (R81). An input's clamp sense ends, which opens the 2.0 µs window in which slots of the pair are still marked SUSPECT. -/
def execClampSenseRelease (input : Nat) (s : State) : Host.Outcome State Fault Refusal :=
  onLive (fun d => onlyIf (decide (input < 48)) (·.clampOff input) d) s

end Sys2Proof.Machine
end

