-- ==== Sys2Proof/Machine/GridCmds.lean ====
section
/-! DEFINITION. The meanings of commands: grid laws: events and opcodes. -/

namespace Sys2Proof.Machine

/-- GRID_RECORD (R207). A grid record arriving in the broadcast slots is checked and applied, or ignored. -/
def execGridRecord (port : Nat) (ok : Bool) (words : List (BitVec 32)) (s : State) : Host.Outcome State Fault Refusal :=
  onLive (fun d => d.blockIn port ok (·.gridReceive port words)) s

/-- GRID_TRIP_DUE (R224). A TRIPS entry's condition has held for its clearing time and raises the grid-protection trip. -/
def execGridTripDue (i : Nat) (s : State) : Host.Outcome State Fault Refusal := onLive (fun d => d.gridTripDue i) s

/-- ROCOF_HOLD_EXPIRY (R225). ROCOF has stayed above ROCMAX for ROCT ms and a cause-11 trip falls due. -/
def execRocofHoldExpiry (s : State) : Host.Outcome State Fault Refusal := onLive (fun d => d.rocofHold) s

/-- RT_EXIT_HOLD_EXPIRY (R223). The exit conditions have held for TEXIT ms and the issuer sets RTS 0. -/
def execRtExitHoldExpiry (s : State) : Host.Outcome State Fault Refusal := onLive (fun d => d.rtExitHold) s

/-- ISLCODE_WINDOW_END (R229). A correlation window of W frames ends and Z is computed and judged. -/
def execIslcodeWindowEnd (s : State) : Host.Outcome State Fault Refusal := onLive (fun d => d.islWindowEnd) s

/-- GRID_PROFILE_LOAD (R210): opcode 0x50 submitted at `src`. -/
def execGridProfileLoad (src : Src) (p : Packet) (s : State) : Host.Outcome State Fault Refusal := onDev (·.runOp 0x50 src p) s

/-- GRID_PROFILE_READ (R232): opcode 0x51 submitted at `src`. -/
def execGridProfileRead (src : Src) (p : Packet) (s : State) : Host.Outcome State Fault Refusal := onDev (·.runOp 0x51 src p) s

/-- GRID_STATUS_READ (R233): opcode 0x52 submitted at `src`. -/
def execGridStatusRead (src : Src) (p : Packet) (s : State) : Host.Outcome State Fault Refusal := onDev (·.runOp 0x52 src p) s

/-- GRID_ISL_ARM (R228): opcode 0x53 submitted at `src`. -/
def execGridIslArm (src : Src) (p : Packet) (s : State) : Host.Outcome State Fault Refusal := onDev (·.runOp 0x53 src p) s

/-- GRID_ZREF_RESET (R232): opcode 0x54 submitted at `src`. -/
def execGridZrefReset (src : Src) (p : Packet) (s : State) : Host.Outcome State Fault Refusal := onDev (·.runOp 0x54 src p) s

/-- GRID_TRIP_TEST (R232): opcode 0x55 submitted at `src`. -/
def execGridTripTest (src : Src) (p : Packet) (s : State) : Host.Outcome State Fault Refusal := onDev (·.runOp 0x55 src p) s

end Sys2Proof.Machine
end

