-- ==== Sys2Proof/Machine/HostCmds.lean ====
section
/-! DEFINITION. The meanings of commands: queues, mailbox, management port, register accesses. -/

namespace Sys2Proof.Machine

/-- The PCIe link is up. -/
def Dev.linkTrained (s : Dev) (speed width : Nat) : Dev :=
  ((s.raise Reg.HIF_STAT_LINKUP).set Reg.HIF_STAT_SPEED speed).set Reg.HIF_STAT_WIDTH width

/-- SQT_DOORBELL (R348). A write to a queue's SQT doorbell sets the new submission tail, or is ignored and may stop the queue. -/
def execSqtDoorbell (q : Nat) (v : Nat) (s : State) : Host.Outcome State Fault Refusal :=
  onLive (fun d => onlyIf (decide (q < 64)) (·.hostWriteAt (0x8000 + 16 * q) 4 (BitVec.ofNat 32 v)) d) s

/-- CQH_DOORBELL (R348). A write to CQH releases completion entries and re-arms the queue's interrupt vector. -/
def execCqhDoorbell (q : Nat) (v : Nat) (s : State) : Host.Outcome State Fault Refusal :=
  onLive (fun d => onlyIf (decide (q < 64)) (·.hostWriteAt (0x8004 + 16 * q) 4 (BitVec.ofNat 32 v)) d) s

/-- ENTRY_FETCH (R349). Once a granule and completion slots are available, the device fetches the next submission entry. -/
def execEntryFetch (s : State) : Host.Outcome State Fault Refusal := onLive (fun d => d.fetchNext) s

/-- HELD_COMMAND_DUE (R357). A held command reaches its execute-at tick and runs steps 4–8. -/
def execHeldCommandDue (s : State) : Host.Outcome State Fault Refusal := onLive (fun d => d.heldDue) s

/-- DEFERRED_COMMAND_RUN (R358). A deferred command executes at the first tick whose state accepts it. -/
def execDeferredCommandRun (s : State) : Host.Outcome State Fault Refusal := onLive (fun d => d.deferredRun) s

/-- DEFERRAL_TIMEOUT (R358). DEFTO seconds pass without execution and the final reply is STATE_CONFLICT. -/
def execDeferralTimeout (s : State) : Host.Outcome State Fault Refusal := onLive (fun d => d.deferralTimeout) s

/-- SPI_WRITE_FRAME (R343). At the rising edge of HSPI_CS_N a write frame is checked and applied, or rejected. -/
def execSpiWriteFrame (frame : List (BitVec 8)) (s : State) : Host.Outcome State Fault Refusal := onLive (fun d => d.spiWrite frame) s

/-- SPI_READ_FRAME (R343). A read frame returns the data words and CRC, or zeros with an inverted CRC. -/
def execSpiReadFrame (frame : List (BitVec 8)) (clocked : Nat) (s : State) : Host.Outcome State Fault Refusal :=
  onLive (fun d => d.spiRead frame clocked) s

/-- MBX_GO (R360). A write of 1 to GO submits the mailbox packet, or is ignored with MBXERR_F. -/
def execMbxGo (s : State) : Host.Outcome State Fault Refusal := onLive (fun d => d.hostWriteAt Reg.HIF_MBX_CTL 4 1#32) s

/-- MBX_STAT_READ (R361). Reading HIF_MBX_STAT latches the result registers RES0–7. -/
def execMbxStatRead (s : State) : Host.Outcome State Fault Refusal := onLive (fun d => d.hostReadAt Reg.HIF_MBX_STAT 4) s

/-- MBX_ACK (R362). Writing a SEQ to HIF_MBX_ACK releases that result, or sets MBXERR_F. -/
def execMbxAck (seq : Nat) (s : State) : Host.Outcome State Fault Refusal :=
  onLive (fun d => d.hostWriteAt Reg.HIF_MBX_ACK 4 (BitVec.ofNat 32 (seq % 256))) s

/-- AQ_ENABLE (R346). Setting HIF_AQ_CFG.EN creates the admin queue, or is refused with AQERR_F. -/
def execAqEnable (cfg : BitVec 32) (s : State) : Host.Outcome State Fault Refusal :=
  onLive (fun d => d.hostWriteAt Reg.HIF_AQ_CFG 4 (cfg ||| 0x80000000#32)) s

/-- AQ_DISABLE (R365). Clearing HIF_AQ_CFG.EN deletes queue 0 as Q_DELETE would. -/
def execAqDisable (s : State) : Host.Outcome State Fault Refusal :=
  onLive (fun d => d.hostWriteAt Reg.HIF_AQ_CFG 4 (d.reg Reg.HIF_AQ_CFG &&& 0x7FFFFFFF#32)) s

/-- MGT_FRAME_RX (R345). A management frame is accepted and completes the oldest MGT_RECV, or is dropped. -/
def execMgtFrameRx (data : List (BitVec 8)) (tdc : Nat) (s : State) : Host.Outcome State Fault Refusal :=
  onLive (fun d => (d.mgtRx data tdc).1.complete (d.mgtRx data tdc).2) s

/-- PTP_MESSAGE_DUE (R345). The 1 s Sync or Announce interval expires and the PTP master sends the message. -/
def execPtpMessageDue (announce : Bool) (s : State) : Host.Outcome State Fault Refusal := onLive (fun d => d.ptpDue announce) s

/-- PCIE_LINK_UP (R378). The PCIe link finishes training in hardware. -/
def execPcieLinkUp (speed : Nat) (width : Nat) (s : State) : Host.Outcome State Fault Refusal :=
  onLive (fun d => d.linkTrained speed width) s

/-- POOL_LOW_REARM (R31). Writing 1 to HIF_POOL_LOW.REARM loads SH_LOW with SH_FREE. -/
def execPoolLowRearm (s : State) : Host.Outcome State Fault Refusal := onLive (fun d => d.hostWriteAt Reg.HIF_POOL_LOW 4 0x80000000#32) s

/-- FRM_PEAK_REARM (R64). Writing 1 to FRM_PEAK.REARM sets PEAK to 0. -/
def execFrmPeakRearm (s : State) : Host.Outcome State Fault Refusal := onLive (fun d => d.hostWriteAt Reg.FRM_PEAK 4 0x80000000#32) s

/-- PWR_PEAK_REARM (R438). Writing 1 to PWR_PEAK.REARM sets PEAK to 0. -/
def execPwrPeakRearm (s : State) : Host.Outcome State Fault Refusal := onLive (fun d => d.hostWriteAt Reg.PWR_PEAK 4 0x80000000#32) s

/-- SNP_REL (R388). A write to SNP_REL releases the named snapshot buffers. -/
def execSnpRel (mask : Nat) (s : State) : Host.Outcome State Fault Refusal :=
  onLive (fun d => d.hostWriteAt Reg.SNP_REL 4 (BitVec.ofNat 32 (mask % 16))) s

/-- W1C_WRITE (R8). A write of 1 clears a W1C flag unless a setting event falls on the same clock. -/
def execW1cWrite (addr : Nat) (value : BitVec 32) (s : State) : Host.Outcome State Fault Refusal :=
  onLive (fun d => d.hostWriteAt addr 4 value) s

/-- RC_READ (R8). A read of an RC field returns its value and clears it without losing a simultaneous event. -/
def execRcRead (addr : Nat) (width : Nat) (s : State) : Host.Outcome State Fault Refusal := onLive (fun d => d.hostReadAt addr width) s

/-- LOW_WORD_READ (R11). Reading the low word of a 64-bit pair latches the high word. -/
def execLowWordRead (addr : Nat) (width : Nat) (s : State) : Host.Outcome State Fault Refusal :=
  onLive (fun d => d.hostReadAt addr width) s

/-- REGISTER_WRITE (R12). A write to a register without its own row takes effect, or is refused outside CONFIG with HIF_WERR_F. -/
def execRegisterWrite (addr : Nat) (width : Nat) (value : BitVec 32) (s : State) : Host.Outcome State Fault Refusal :=
  onLive (fun d => d.hostWriteAt addr width value) s

/-- MGT_LINK_UP (R365). The management port link comes up (1000BASE-X auto-negotiation or SGMII) and HIF_MGT_CFG.LINK is set. -/
def execMgtLinkUp (s : State) : Host.Outcome State Fault Refusal :=
  onLive (fun d => onlyIf (d.isOn Reg.HIF_MGT_CFG_EN) (·.raise Reg.HIF_MGT_CFG_LINK) d) s

/-- MGT_LINK_DOWN (R365). The management port link is lost, LINK clears, and frames are then not sent and are counted in TXERR. -/
def execMgtLinkDown (s : State) : Host.Outcome State Fault Refusal := onLive (fun d => d.setB Reg.HIF_MGT_CFG_LINK false) s

end Sys2Proof.Machine
end

