-- ==== Sys2Proof/Machine/ImageCmds.lean ====
section
/-! DEFINITION. The meanings of commands: firmware images. -/

namespace Sys2Proof.Machine

/-- IMG_SESSION_TIMEOUT (R404). 600 s without an image opcode aborts the session. -/
def execImgSessionTimeout (s : State) : Host.Outcome State Fault Refusal := onLive (fun d => d.sessionAbort) s

/-- EPOCH_FUSE_DONE (R400). Fuse blowing after a FUSE handover reaches the new epoch and sets EPOCHUP_F. -/
def execEpochFuseDone (s : State) : Host.Outcome State Fault Refusal := onLive (fun d => d.fuseDone) s

/-- IMG_BEGIN (R401): opcode 0xA0 submitted at `src`. -/
def execImgBegin (src : Src) (p : Packet) (s : State) : Host.Outcome State Fault Refusal := onDev (·.runOp 0xA0 src p) s

/-- IMG_BLOCK (R402): opcode 0xA1 submitted at `src`. -/
def execImgBlock (src : Src) (p : Packet) (s : State) : Host.Outcome State Fault Refusal := onDev (·.runOp 0xA1 src p) s

/-- IMG_VERIFY (R403): opcode 0xA2 submitted at `src`. -/
def execImgVerify (src : Src) (p : Packet) (s : State) : Host.Outcome State Fault Refusal := onDev (·.runOp 0xA2 src p) s

/-- IMG_HANDOVER (R407): opcode 0xA3 submitted at `src`. -/
def execImgHandover (src : Src) (p : Packet) (s : State) : Host.Outcome State Fault Refusal := onDev (·.runOp 0xA3 src p) s

/-- IMG_ABORT (R404): opcode 0xA4 submitted at `src`. -/
def execImgAbort (src : Src) (p : Packet) (s : State) : Host.Outcome State Fault Refusal := onDev (·.runOp 0xA4 src p) s

/-- IMG_STATUS (R414): opcode 0xA5 submitted at `src`. -/
def execImgStatus (src : Src) (p : Packet) (s : State) : Host.Outcome State Fault Refusal := onDev (·.runOp 0xA5 src p) s

end Sys2Proof.Machine
end

