-- ==== Sys2Proof/Machine/MeterCmds.lean ====
section
/-! DEFINITION. The meanings of commands: nimbus: events and opcodes. -/

namespace Sys2Proof.Machine

/-- METER_SAMPLE (R323). A 16 kS/s output sample yields P and Q and is accumulated, split by direction and no-load band. -/
def execMeterSample (s : State) : Host.Outcome State Fault Refusal := onLive (fun d => d.meterSample) s

/-- PULSE_EDGE (R329). A scheduled energy pulse edge falls due on PULSE_OUTk, or waits in BACKLOG. -/
def execPulseEdge (k : Nat) (s : State) : Host.Outcome State Fault Refusal :=
  onLive (fun d => onlyIf (decide (k < 4)) (·.pulseEdge k) d) s

/-- PULSE_END (R329). PW after its leading edge a pulse output returns low. -/
def execPulseEnd (k : Nat) (s : State) : Host.Outcome State Fault Refusal := onLive (fun d => onlyIf (decide (k < 4)) (·.pulseEnd k) d) s

/-- HARMONIC_WINDOW_END (R332). An NC-cycle analysis window ends; a new window starts and an unfinished previous result is discarded. -/
def execHarmonicWindowEnd (s : State) : Host.Outcome State Fault Refusal := onLive (fun d => d.harmWindowEnd) s

/-- FREQ_TIMEOUT (R331). 100 ms without a crossing sets f_m to nominal and FREQINV. -/
def execFreqTimeout (s : State) : Host.Outcome State Fault Refusal := onLive (fun d => d.freqTimeout) s

/-- METER_SAVE_DUE (R335). Station time reaches a multiple of SAVEINT and a save of the accumulators is requested. -/
def execMeterSaveDue (s : State) : Host.Outcome State Fault Refusal := onLive (fun d => d.saveDue) s

/-- SAVE_RETRY (R336). Once per second a deferred metering save is retried with fresh values. -/
def execSaveRetry (s : State) : Host.Outcome State Fault Refusal := onLive (fun d => d.saveRetry) s

/-- LKP_REFRESH (R338). Once per second the last-known-power record in the vault is refreshed. -/
def execLkpRefresh (s : State) : Host.Outcome State Fault Refusal := onLive (fun d => d.lkpRefresh) s

/-- MTR_CFG_LOAD (R317): opcode 0x80 submitted at `src`. -/
def execMtrCfgLoad (src : Src) (p : Packet) (s : State) : Host.Outcome State Fault Refusal := onDev (·.runOp 0x80 src p) s

/-- MTR_CFG_READ (R339): opcode 0x81 submitted at `src`. -/
def execMtrCfgRead (src : Src) (p : Packet) (s : State) : Host.Outcome State Fault Refusal := onDev (·.runOp 0x81 src p) s

/-- MTR_ACC_READ (R339): opcode 0x82 submitted at `src`. -/
def execMtrAccRead (src : Src) (p : Packet) (s : State) : Host.Outcome State Fault Refusal := onDev (·.runOp 0x82 src p) s

/-- MTR_INTV_READ (R339): opcode 0x83 submitted at `src`. -/
def execMtrIntvRead (src : Src) (p : Packet) (s : State) : Host.Outcome State Fault Refusal := onDev (·.runOp 0x83 src p) s

/-- MTR_EVT_READ (R339): opcode 0x84 submitted at `src`. -/
def execMtrEvtRead (src : Src) (p : Packet) (s : State) : Host.Outcome State Fault Refusal := onDev (·.runOp 0x84 src p) s

/-- MTR_HARM_READ (R339): opcode 0x85 submitted at `src`. -/
def execMtrHarmRead (src : Src) (p : Packet) (s : State) : Host.Outcome State Fault Refusal := onDev (·.runOp 0x85 src p) s

/-- MTR_UNSAVED_READ (R338): opcode 0x86 submitted at `src`. -/
def execMtrUnsavedRead (src : Src) (p : Packet) (s : State) : Host.Outcome State Fault Refusal := onDev (·.runOp 0x86 src p) s

/-- MTR_SAVE_NOW (R336): opcode 0x87 submitted at `src`. -/
def execMtrSaveNow (src : Src) (p : Packet) (s : State) : Host.Outcome State Fault Refusal := onDev (·.runOp 0x87 src p) s

/-- MTR_ACC_PRESET (R339): opcode 0x88 submitted at `src`. -/
def execMtrAccPreset (src : Src) (p : Packet) (s : State) : Host.Outcome State Fault Refusal := onDev (·.runOp 0x88 src p) s

end Sys2Proof.Machine
end

