-- ==== Sys2Proof/Machine/ModCmds.lean ====
section
/-! DEFINITION. The meanings of commands: espalier: carrier, local half-bridges, modulator opcodes. -/

namespace Sys2Proof.Machine

/-- CARRIER_PERIOD_BOUNDARY (R174). A group's carrier period begins and a pending slot-table transfer takes effect. -/
def execCarrierPeriodBoundary (g : Nat) (s : State) : Host.Outcome State Fault Refusal :=
  onLive (fun d => onlyIf (decide (g < 6)) (·.carrierBoundary g) d) s

/-- HB_PERIOD_BOUNDARY (R192). A local half-bridge period begins; pending sets, the bootstrap refresh check and the phase apply. -/
def execHbPeriodBoundary (n : Nat) (tdc : Nat) (s : State) : Host.Outcome State Fault Refusal :=
  onLive (fun d => onlyIf (decide (n < 12)) (fun t => t.hbRun n (·.hbBoundary n (t.stamp tdc))) d) s

/-- HB_DUTY_EDGE (R192). Within a period the commanded state of a local channel changes between high side and low side. -/
def execHbDutyEdge (n : Nat) (tdc : Nat) (s : State) : Host.Outcome State Fault Refusal :=
  onLive (fun d => onlyIf (decide (n < 12)) (fun t => t.hbRun n (·.hbEdge n (t.stamp tdc))) d) s

/-- HB_DEADTIME_END (R191). DT steps after ENABLE falls, ENABLE rises, or the SAFE low level is applied. -/
def execHbDeadtimeEnd (n : Nat) (tdc : Nat) (s : State) : Host.Outcome State Fault Refusal :=
  onLive (fun d => onlyIf (decide (n < 12)) (fun t => t.hbRun n (·.hbDeadEnd n (t.stamp tdc))) d) s

/-- LOCAL_COMPARE_FIRE (R201). A local channel compare reaches POS and pulses its ADC trigger line. -/
def execLocalCompareFire (n : Nat) (k : Nat) (s : State) : Host.Outcome State Fault Refusal :=
  onLive (fun d => onlyIf (decide (n < 12)) (·.localCompare n k) d) s

/-- GROUP_COMPARE_FIRE (R201). A group compare reaches POS in the carrier period and pulses its ADC trigger line. -/
def execGroupCompareFire (g : Nat) (j : Nat) (s : State) : Host.Outcome State Fault Refusal :=
  onLive (fun d => onlyIf (decide (g < 6)) (·.groupCompare g j) d) s

/-- GROUP_COMMIT (R195). A write of 1 to a MOD_COMMIT bit copies the channel's shadow set into its pending set. -/
def execGroupCommit (mask : Nat) (s : State) : Host.Outcome State Fault Refusal :=
  onLive (fun d => d.hostWriteAt Reg.MOD_COMMIT 4 (BitVec.ofNat 32 (mask % 4096))) s

/-- FLTCLR_FCLR (R199). A write of 1 to an FCLR bit clears a channel's fault latch, or is refused with CLRREJ_F. -/
def execFltclrFclr (mask : Nat) (s : State) : Host.Outcome State Fault Refusal :=
  onLive (fun d => d.hostWriteAt Reg.MOD_FLTCLR 4 (BitVec.ofNat 32 (mask % 4096))) s

/-- FLTCLR_XCLR (R180). A write of 1 to an XCLR bit clears a local channel's XCMD latch. -/
def execFltclrXclr (mask : Nat) (s : State) : Host.Outcome State Fault Refusal :=
  onLive (fun d => d.hostWriteAt Reg.MOD_FLTCLR 4 (BitVec.ofNat 32 (mask % 4096 * 65536))) s

/-- PROF_LOAD_TIMEOUT (R202). Ten frames pass without every node acknowledging a profile table, and MOD_PROF_LOAD completes with PART_TIMEOUT. -/
def execProfLoadTimeout (s : State) : Host.Outcome State Fault Refusal := onLive (fun d => d.profTimeout.1.complete d.profTimeout.2) s

/-- MOD_SLOT_LOAD (R188): opcode 0x40 submitted at `src`. -/
def execModSlotLoad (src : Src) (p : Packet) (s : State) : Host.Outcome State Fault Refusal := onDev (·.runOp 0x40 src p) s

/-- MOD_CELL_COMMIT (R188): opcode 0x41 submitted at `src`. -/
def execModCellCommit (src : Src) (p : Packet) (s : State) : Host.Outcome State Fault Refusal := onDev (·.runOp 0x41 src p) s

/-- MOD_PROF_LOAD (R249): opcode 0x42 submitted at `src`. -/
def execModProfLoad (src : Src) (p : Packet) (s : State) : Host.Outcome State Fault Refusal := onDev (·.runOp 0x42 src p) s

/-- MOD_PROF_READ (R202): opcode 0x43 submitted at `src`. -/
def execModProfRead (src : Src) (p : Packet) (s : State) : Host.Outcome State Fault Refusal := onDev (·.runOp 0x43 src p) s

/-- MOD_FLT_CLEAR (R199): opcode 0x44 submitted at `src`. -/
def execModFltClear (src : Src) (p : Packet) (s : State) : Host.Outcome State Fault Refusal := onDev (·.runOp 0x44 src p) s

/-- MOD_EDGE_TEST (R202): opcode 0x45 submitted at `src`. -/
def execModEdgeTest (src : Src) (p : Packet) (s : State) : Host.Outcome State Fault Refusal := onDev (·.runOp 0x45 src p) s

/-- MOD_BS_READ (R202): opcode 0x46 submitted at `src`. -/
def execModBsRead (src : Src) (p : Packet) (s : State) : Host.Outcome State Fault Refusal := onDev (·.runOp 0x46 src p) s

/-- MOD_SLOT_READ (R189): opcode 0x47 submitted at `src`. -/
def execModSlotRead (src : Src) (p : Packet) (s : State) : Host.Outcome State Fault Refusal := onDev (·.runOp 0x47 src p) s

end Sys2Proof.Machine
end

