-- ==== Sys2Proof/Machine/ProtectCmds.lean ====
section
/-! DEFINITION. The meanings of commands: trip matrix, loop, safety channels: events and opcodes. -/

namespace Sys2Proof.Machine

/-- FLT_INPUT (R197). A pulse on a selected FLTk sets the channel fault latch through the asynchronous path. -/
def execFltInput (n : Nat) (high : Bool) (tdc : Nat) (s : State) : Host.Outcome State Fault Refusal :=
  onLive (fun d => d.fltIn n high tdc) s

/-- TRIP_IN_EDGE (R295). A level held 40 ns on TRIP_INk is accepted, and an accepted high sets loop latch LLk. -/
def execTripInEdge (k : Nat) (level : Bool) (tdc : Nat) (s : State) : Host.Outcome State Fault Refusal :=
  onLive (fun d => onlyIf (decide (k < 2)) (·.tripIn k level tdc) d) s

/-- PRT_LAT_CLEAR (R292). A write of 1 to PRT_LAT bits clears the latches whose sources are inactive and counts refusals. -/
def execPrtLatClear (hi : Bool) (w : BitVec 32) (s : State) : Host.Outcome State Fault Refusal :=
  onLive (fun d => d.hostWriteAt (if hi then Reg.PRT_LAT_HI else Reg.PRT_LAT_LO) 4 w) s

/-- LOOP_BLANK_END (R296). LBLANK ends; loop latches clear or set again, channel clears run, and the PRT_TRIP_CLEAR reply is written. -/
def execLoopBlankEnd (s : State) : Host.Outcome State Fault Refusal := onLive (fun d => d.blankEnd.1.complete d.blankEnd.2) s

/-- LOOP_DISCREPANCY (R297). TRIP_IN0 and TRIP_IN1 differ for more than LDISC and LOOPDIS_F is set. -/
def execLoopDiscrepancy (s : State) : Host.Outcome State Fault Refusal := onLive (fun d => d.loopDiscrepancy) s

/-- SAFETY_INPUT_CHANGE (R299). A filtered safety contact takes a new level, leading to RUN, DEMAND or a half state. -/
def execSafetyInputChange (i : Nat) (b : Bool) (level : Bool) (s : State) : Host.Outcome State Fault Refusal :=
  onLive (fun d => onlyIf (decide (i < 8)) (·.contact i b level) d) s

/-- SAFETY_EVALUATION (R307). Every 0.5 ms the processor channel evaluates every function and latches those in demand. -/
def execSafetyEvaluation (ctf : Nat) (sreset : Bool) (s : State) : Host.Outcome State Fault Refusal :=
  onLive (fun d => d.safEvaluate ctf sreset) s

/-- DISCREPANCY_TIMEOUT (R300). A half state lasting beyond DISCi raises a discrepancy fault. -/
def execDiscrepancyTimeout (i : Nat) (s : State) : Host.Outcome State Fault Refusal :=
  onLive (fun d => onlyIf (decide (i < 8)) (·.discTimeout i) d) s

/-- CONTACTOR_FAULT (R304). CTFk fails to follow within TFBk, or disagrees for 20 ms, and the masking functions latch. -/
def execContactorFault (k : Nat) (s : State) : Host.Outcome State Fault Refusal :=
  onLive (fun d => onlyIf (decide (k < 4)) (·.ctoFault k) d) s

/-- SRESET_RELEASE (R305). The falling edge of a valid SRESET press clears the latches of functions that may be released. -/
def execSresetRelease (held : Nat) (hedge : Bool) (s : State) : Host.Outcome State Fault Refusal :=
  onLive (fun d => d.sresetFall held hedge) s

/-- SRESET_STUCK (R305). SRESET is held high beyond 5 s and SRSTUCK_F is set. -/
def execSresetStuck (s : State) : Host.Outcome State Fault Refusal := onLive (fun d => d.sresetStuck) s

/-- HEDGEROW_HEARTBEAT_LOSS (R306). The processor heartbeat is missing for 5 ms and Hedgerow latches SF0 and SF1. -/
def execHedgerowHeartbeatLoss (s : State) : Host.Outcome State Fault Refusal := onLive (fun d => d.hedgeHeartbeatLost) s

/-- HEDGEROW_OSC_FAULT (R306). Hedgerow's oscillator leaves ±30 % and SF0 and SF1 latch. -/
def execHedgerowOscFault (s : State) : Host.Outcome State Fault Refusal := onLive (fun d => d.hedgeOscBad) s

/-- SAFETY_DIAGNOSTIC (R310). A periodic safety diagnostic runs and latches functions on a failure. -/
def execSafetyDiagnostic (code : Nat) (failed : Bool) (s : State) : Host.Outcome State Fault Refusal :=
  onLive (fun d => d.safDiag code failed) s

/-- WATCHDOG_EXPIRY (R286). The 1 ms control-plane watchdog expires and raises source 0x2C. -/
def execWatchdogExpiry (s : State) : Host.Outcome State Fault Refusal := onLive (fun d => d.firmwareTrip) s

/-- PRT_TRIP_CLEAR (R293): opcode 0x70 submitted at `src`. -/
def execPrtTripClear (src : Src) (p : Packet) (s : State) : Host.Outcome State Fault Refusal := onDev (·.runOp 0x70 src p) s

/-- PRT_TRIP_FORCE (R286): opcode 0x71 submitted at `src`. -/
def execPrtTripForce (src : Src) (p : Packet) (s : State) : Host.Outcome State Fault Refusal := onDev (·.runOp 0x71 src p) s

/-- PRT_PATH_TEST (R313): opcode 0x72 submitted at `src`. -/
def execPrtPathTest (src : Src) (p : Packet) (s : State) : Host.Outcome State Fault Refusal := onDev (·.runOp 0x72 src p) s

/-- SAF_CONFIG_LOAD (R309): opcode 0x73 submitted at `src`. -/
def execSafConfigLoad (src : Src) (p : Packet) (s : State) : Host.Outcome State Fault Refusal := onDev (·.runOp 0x73 src p) s

/-- SAF_CONFIG_CONFIRM (R308): opcode 0x74 submitted at `src`. -/
def execSafConfigConfirm (src : Src) (p : Packet) (s : State) : Host.Outcome State Fault Refusal := onDev (·.runOp 0x74 src p) s

/-- SAF_CONFIG_READ (R313): opcode 0x75 submitted at `src`. -/
def execSafConfigRead (src : Src) (p : Packet) (s : State) : Host.Outcome State Fault Refusal := onDev (·.runOp 0x75 src p) s

/-- SAF_CTO_SET (R304): opcode 0x76 submitted at `src`. -/
def execSafCtoSet (src : Src) (p : Packet) (s : State) : Host.Outcome State Fault Refusal := onDev (·.runOp 0x76 src p) s

/-- SAF_ACCESS (R303): opcode 0x77 submitted at `src`. -/
def execSafAccess (src : Src) (p : Packet) (s : State) : Host.Outcome State Fault Refusal := onDev (·.runOp 0x77 src p) s

end Sys2Proof.Machine
end

