-- ==== Sys2Proof/Machine/ResetCmds.lean ====
section
/-! DEFINITION. The meanings of commands: reset, boot, debug halt and JTAG. -/

namespace Sys2Proof.Machine

/-- The release of RESET_N, when the device is held in reset; an edge before both rails are in range leaves it there (R448). -/
def Dev.releaseFrom (s : Dev) (straps periods : Nat) (rails : Bool) : Dev :=
  if s.inReset && rails then s.releaseReset straps periods else s

/-- The boot ROM has tried a slot (R378); when no candidate is left recovery follows (R379). -/
def Dev.bootStep (s : Dev) (timeout : Bool) : Dev :=
  let r := s.bootTry timeout
  if r.2 then (r.1.raise Reg.IMG_BOOT_RECOV).cmdReady else r.1

/-- Device firmware has started (R380): the vault work, then CMDRDY, then CONFIG with an empty pool (R30). -/
def Dev.firmwareStart (s : Dev) : Dev :=
  if s.st = stBOOT ∧ s.get Reg.IMG_BOOT_STARTED ≠ 0 ∧ !s.isOn Reg.HIF_STAT_CMDRDY then
    let s := (s.vaultBoot.setReg Reg.HIF_FWVER (wordAt s.img.run 8)).set Reg.IMG_KPROTO_RUNKP (ihKproto s.img.run)
    s.poolReset.thkWithdraw.cmdReady.enter stCONFIG causeFirmware
  else s

/-- A debug halt or clock stop, also in a halt (R200, R247): the freeze comes first and the latch merges with it (R391); a handover falls back (R410).
The spec states no trigger detail for it (log entry 36). -/
def Dev.haltNow (s : Dev) (stop : Bool) : Dev :=
  let f := s.free
  ((f.2.snapTrigger 6 (s.stamp 0) f.1.toNat).2.debugHalt stop).handoverHalt

/-- The halt ends. -/
def Dev.haltEnd (s : Dev) : Dev := { s with prt := { s.prt with halted := false } }

/-- RESET_N_RELEASE (R290). Release of RESET_N: the main die starts in BOOT with trip latch 0x2C set and TRIP_OUT driven high. -/
def execResetNRelease (straps : Nat) (periods : Nat) (rails : Bool) (s : State) : Host.Outcome State Fault Refusal :=
  onDev (fun d => d.releaseFrom straps periods rails) s

/-- RESET_N_ASSERT (R382). An accepted low level on RESET_N resets the main die and releases every output within 100 ns. -/
def execResetNAssert (s : State) : Host.Outcome State Fault Refusal := onDev (fun d => if d.inReset then d else d.lkpEnds.holdReset) s

/-- MAIN_SUPPLY_FAIL (R423). VIO33 or VDD falls below its threshold for 2 µs; the vault clears MAINOK, latches the fail stamp and isolates itself, and the main die is held in reset. -/
def execMainSupplyFail (periods : Nat) (s : State) : Host.Outcome State Fault Refusal :=
  onDev (fun d => (d.keeperOff periods).fuseCut.mainFailed.holdReset) s

/-- DEBUG_HALT (R200). A JTAG debug halt or a clock stop forces the local channels safe, blocks the cells and enters TRIPPED. -/
def execDebugHalt (stop : Bool) (s : State) : Host.Outcome State Fault Refusal := onLive (fun d => d.haltNow stop) s

/-- DEBUG_HALT_END (R410). The halt ends; SNP_READ and LOG_READ are served again and a halted handover falls back. -/
def execDebugHaltEnd (s : State) : Host.Outcome State Fault Refusal := onLive (fun d => d.haltEnd) s

/-- BOOT_IMAGE_CHECK (R378). The boot ROM finishes reading a QSPI slot and checks its hash and signature. -/
def execBootImageCheck (s : State) : Host.Outcome State Fault Refusal := onLive (fun d => d.bootStep false) s

/-- BOOT_QSPI_TIMEOUT (R378). A QSPI read does not complete within 500 ms and the other candidate is tried. -/
def execBootQspiTimeout (s : State) : Host.Outcome State Fault Refusal := onLive (fun d => d.bootStep true) s

/-- FIRMWARE_START (R380). Device firmware completes the vault work, sets CMDRDY and enters CONFIG. -/
def execFirmwareStart (s : State) : Host.Outcome State Fault Refusal := onLive (fun d => d.firmwareStart) s

/-- JTAG_EXTEST (R462). An EXTEST or CLAMP instruction in the JTAG TAP takes control of the balls in BOOT or CONFIG, never driving HBn_ENABLE, HBn_PULSE or CTOk high. -/
def execJtagExtest (on : Bool) (cells : Boundary) (s : State) : Host.Outcome State Fault Refusal := onDev (fun d => d.extest on cells) s

end Sys2Proof.Machine
end

