-- ==== Sys2Proof/Machine/StationCmds.lean ====
section
/-! DEFINITION. The meanings of commands: krekai and station commands. -/

namespace Sys2Proof.Machine

/-- A message for another chip goes on, on the shortest path (R261, R263). -/
def Dev.passOn (s : Dev) (dest : Nat) (out : List (Nat × List Byte)) : Dev := forEach out (fun x t => t.krkSend x.1 dest x.2) s

/-- A packet, a PREPARE or an answer for chip `dest` comes in on a port with `n` bytes of data, in one granule and one for each 256 bytes, backed by
credits; without credit it is discarded and counted (R26, R27). One for another chip goes on as the messages `out` and leaves its granules; one for this
chip, when it is in the station, is held in them for device firmware (R280). -/
def Dev.messageIn (s : Dev) (port dest n : Nat) (ok : Bool) (out : List (Nat × List Byte)) (msg : Inward) : Dev :=
  s.blockIn port ok (fun s =>
    match s.portData (32 + port) (1 + cdiv n 256) with
    | (none, t) => t.count (Reg.KRK_PORTp_ERR_CREDERR port)
    | (some h, t) =>
      if dest != t.ownIndex then (t.freeHold h).passOn dest out
      else if !t.krk.joined then t.freeHold h
      else t.inward { port := port, hold := h, msg := msg })

/-- GO or ABORT for chip `dest`; it is no packet and takes no granules (log entry 21). -/
def Dev.decisionIn (s : Dev) (port dest origin txn : Nat) (ok go : Bool) : Dev :=
  s.blockIn port ok (fun s =>
    if dest != s.ownIndex then s.passOn dest [(5, goBytes origin txn go)]
    else if !s.krk.joined then s
    else s.inward { port := port, hold := { user := 32 + port, res := 0, sh := 0 }, msg := .decision origin txn go })

/-- A packet forwarded by its coordinator (R280, R282), to be executed at once or at its execute-at; its port’s granules hold it until it
completes. -/
def Dev.stationPacket (s : Dev) (port dest origin txn : Nat) (ok : Bool) (p : Packet) (data : List Byte) : Dev :=
  s.messageIn port dest data.length ok [(3, packetBytes origin txn none p data)] (.packet origin txn p data)

/-- PREPARE (R281). -/
def Dev.prepareArrives (s : Dev) (port dest origin txn : Nat) (ok : Bool) (p : Packet) (commitN : Nat) (data : List Byte) : Dev :=
  s.messageIn port dest data.length ok [(4, packetBytes origin txn (some commitN) p data)] (.prepare origin txn p commitN data)

/-- A target’s answer (R282), with the bulk data of a read-out. -/
def Dev.stationReply (s : Dev) (port dest txn : Nat) (ok : Bool) (a : TxnAns) (bulk : List Byte) : Dev :=
  s.messageIn port dest bulk.length ok ((if bulk.isEmpty then [] else [(7, bulk)]) ++ [(6, a.bytes txn)]) (.reply txn a bulk)

/-- An identity exchange, with the reply of STN_JOIN when it ends the join. An identity for every chip goes on round its ring, one for another chip on
its path (R261, R268). -/
def Dev.identityArrives (s : Dev) (port dest : Nat) (ok : Bool) (peer : Option Ident) (last : Bool) : Dev :=
  let take := fun (t : Dev) =>
    let r := t.identity port peer last (t.get Reg.IMG_KPROTO_RUNKP)
    r.1.complete r.2
  match peer with
  | none => take s
  | some x =>
    s.blockIn port ok (fun s =>
      if dest = 512 then
        if s.krk.joined || s.krk.joinCmd.isSome then take (s.identityOn port x)
        else (s.neighbourShown port x).krkForward port x.chip 8 (identBytes x) false
      else if dest = s.ownIndex then take s
      else s.passOn dest [(8, identBytes x)])

/-- KRK_LINK_DOWN (R263). A Krekai link loses block lock and is down; DOWNS increments and LINKDN_F is set. -/
def execKrkLinkDown (port : Nat) (s : State) : Host.Outcome State Fault Refusal :=
  onLive (fun d => onlyIf (decide (port < 4)) (·.linkDown port) d) s

/-- KRK_LINK_UP (R263). After 1 ms of clean block lock a retrained link is up again. -/
def execKrkLinkUp (port : Nat) (rdly : Nat) (s : State) : Host.Outcome State Fault Refusal :=
  onLive (fun d => onlyIf (decide (port < 4)) (·.linkUpEvent port rdly) d) s

/-- HEARTBEAT (R269). A heartbeat from a chip arrives and updates its reachability. -/
def execHeartbeat (port : Nat) (chip : Nat) (frame : Nat) (state : Nat) (kproto : Nat) (ok : Bool) (s : State) : Host.Outcome State Fault Refusal :=
  onLive (fun d => d.blockIn port ok (·.heartbeat port chip frame state kproto)) s

/-- VIEW_COMMIT (R271). The second tick after a detected loss commits a new view number and sets PART_F. -/
def execViewCommit (s : State) : Host.Outcome State Fault Refusal := onLive (fun d => d.viewCommit) s

/-- ORPHAN_GRACE_END (R272). GRACE after entry to ORPHAN, the chip starts ramping its cell power down over 10 ms. -/
def execOrphanGraceEnd (s : State) : Host.Outcome State Fault Refusal := onLive (fun d => d.orphanGraceEnd) s

/-- ORPHAN_RAMP_END (R272). At GRACE + 10 ms the orphan sends BLK and BYP and its cells enter BYPASSED. -/
def execOrphanRampEnd (s : State) : Host.Outcome State Fault Refusal := onLive (fun d => d.orphanRampEnd) s

/-- HELD_CONTRIBUTION_EXPIRY (R273). The governing partition's held contribution of a lost chip is ramped out after GRACE and then removed. -/
def execHeldContributionExpiry (s : State) : Host.Outcome State Fault Refusal := onLive (fun d => d.heldExpiry) s

/-- SLOT_UPDATE (R278). A broadcast or sum slot value arrives, or arrives late and sets SLOTERR_F. -/
def execSlotUpdate (port : Nat) (slot : Nat) (chip : Nat) (frame : Nat) (value : Int) (stamp : Nat) (rank : Nat) (ok : Bool) (s : State) : Host.Outcome State Fault Refusal :=
  onLive (fun d => d.blockIn port ok (·.slotUpdate port slot chip frame value stamp rank)) s

/-- STATION_PACKET (R280). A forwarded station-scoped packet arrives at a target and is executed. -/
def execStationPacket (port : Nat) (dest : Nat) (origin : Nat) (txn : Nat) (ok : Bool) (p : Packet) (data : List (BitVec 8)) (s : State) : Host.Outcome State Fault Refusal :=
  onLive (fun d => d.stationPacket port dest origin txn ok p data) s

/-- PREPARE (R281). A target runs the checks of a COHERENT command, reserves resources and answers. -/
def execPrepare (port : Nat) (dest : Nat) (origin : Nat) (txn : Nat) (ok : Bool) (p : Packet) (commitN : Nat) (data : List (BitVec 8)) (s : State) : Host.Outcome State Fault Refusal :=
  onLive (fun d => d.prepareArrives port dest origin txn ok p commitN data) s

/-- COHERENT_DECISION (R281). In frame N − 1 the coordinator sends GO if every target is READY, and ABORT otherwise. -/
def execCoherentDecision (s : State) : Host.Outcome State Fault Refusal := onLive (fun d => d.decisions) s

/-- GO (R281). A prepared target receives GO and executes the command at tick N. -/
def execGo (port : Nat) (dest : Nat) (origin : Nat) (txn : Nat) (ok : Bool) (s : State) : Host.Outcome State Fault Refusal :=
  onLive (fun d => d.decisionIn port dest origin txn ok true) s

/-- ABORT (R281). A prepared target receives ABORT and releases its reservation. -/
def execAbort (port : Nat) (dest : Nat) (origin : Nat) (txn : Nat) (ok : Bool) (s : State) : Host.Outcome State Fault Refusal :=
  onLive (fun d => d.decisionIn port dest origin txn ok false) s

/-- PREPARE_EXPIRY (R281). A prepared target that has no GO by tick N releases its reservation and does not execute. -/
def execPrepareExpiry (s : State) : Host.Outcome State Fault Refusal := onLive (fun d => d.expirePreps) s

/-- STATION_REPLY (R282). A target's answer or acknowledgement reaches the coordinator, which replies once all have arrived. -/
def execStationReply (port : Nat) (dest : Nat) (txn : Nat) (ok : Bool) (chip : Nat) (status : Nat) (detail : Nat) (result : List (BitVec 8)) (bulk : List (BitVec 8)) (s : State) : Host.Outcome State Fault Refusal :=
  onLive (fun d => d.stationReply port dest txn ok { chip := chip, status := status, detail := detail, result := result } bulk) s

/-- STATION_TIMEOUT (R282). TOUT frames pass without every answer and the coordinator completes with PARTIAL or PART_TIMEOUT. -/
def execStationTimeout (s : State) : Host.Outcome State Fault Refusal := onLive (fun d => d.txnTimeout) s

/-- SQUALL_AT_FIRE (R283). The scheduled station time is reached and the station Squall trigger fires at that tick. -/
def execSquallAtFire (s : State) : Host.Outcome State Fault Refusal := onLive (fun d => d.squallAt) s

/-- STN_TABLE_LOAD (R265): opcode 0x60 submitted at `src`. -/
def execStnTableLoad (src : Src) (p : Packet) (s : State) : Host.Outcome State Fault Refusal := onDev (·.runOp 0x60 src p) s

/-- STN_TABLE_READ (R284): opcode 0x61 submitted at `src`. -/
def execStnTableRead (src : Src) (p : Packet) (s : State) : Host.Outcome State Fault Refusal := onDev (·.runOp 0x61 src p) s

/-- STN_JOIN (R268): opcode 0x62 submitted at `src`. -/
def execStnJoin (src : Src) (p : Packet) (s : State) : Host.Outcome State Fault Refusal := onDev (·.runOp 0x62 src p) s

/-- STN_LEAVE (R284): opcode 0x63 submitted at `src`. -/
def execStnLeave (src : Src) (p : Packet) (s : State) : Host.Outcome State Fault Refusal := onDev (·.runOp 0x63 src p) s

/-- STN_STATUS_READ (R284): opcode 0x64 submitted at `src`. -/
def execStnStatusRead (src : Src) (p : Packet) (s : State) : Host.Outcome State Fault Refusal := onDev (·.runOp 0x64 src p) s

/-- STN_SLOT_SET (R278): opcode 0x65 submitted at `src`. -/
def execStnSlotSet (src : Src) (p : Packet) (s : State) : Host.Outcome State Fault Refusal := onDev (·.runOp 0x65 src p) s

/-- STN_RESAREA (R282): opcode 0x66 submitted at `src`. -/
def execStnResarea (src : Src) (p : Packet) (s : State) : Host.Outcome State Fault Refusal := onDev (·.runOp 0x66 src p) s

/-- STN_SQUALL_AT (R283): opcode 0x67 submitted at `src`. -/
def execStnSquallAt (src : Src) (p : Packet) (s : State) : Host.Outcome State Fault Refusal := onDev (·.runOp 0x67 src p) s

/-- IDENTITY_EXCHANGE (R268). An identity exchange with a neighbour or a joining chip arrives, and the two chips check each other's table CRC, rate, topology, chip index, neighbour placement and latencies. -/
def execIdentityExchange (port : Nat) (dest : Nat) (ok : Bool) (peer : Option Ident) (last : Bool) (s : State) : Host.Outcome State Fault Refusal :=
  onLive (fun d => d.identityArrives port dest ok peer last) s

end Sys2Proof.Machine
end

