-- ==== Sys2Proof/Machine/ThicketCmds.lean ====
section
/-! DEFINITION. The meanings of commands: thicket rings. -/

namespace Sys2Proof.Machine

/-- COLLECT_SEND (R244). TCOLLECT core clocks after the tick the chip sends COLLECT to start the telemetry train. -/
def execCollectSend (s : State) : Host.Outcome State Fault Refusal := onLive (fun d => d.collectSend) s

/-- TELEM_RECEIVED (R246). A telemetry train arrives and its base, extended and discovery records are checked and consumed. -/
def execTelemReceived (ring : Nat) (recs : List TelemRec) (s : State) : Host.Outcome State Fault Refusal :=
  onLive (fun d => onlyIf (decide (ring < 16)) (·.telemReceived ring recs) d) s

/-- DISC_RETURN (R241). DISC returns at THrW_RX; NFOUND and L_E are recorded and DISC is resent west, or the ring fails. -/
def execDiscReturn (ring : Nat) (west : Bool) (payload : Nat) (arr : Nat) (s : State) : Host.Outcome State Fault Refusal :=
  onLive (fun d => onlyIf (decide (ring < 16)) (·.discReturn ring west payload arr) d) s

/-- ALARM_RECEIVED (R248). A valid node ALARM raises the cell-report trip, sets ALARM_F and fills THK_ALM. -/
def execAlarmReceived (ring : Nat) (payload : Nat) (s : State) : Host.Outcome State Fault Refusal :=
  onLive (fun d => onlyIf (decide (ring < 16)) (·.alarmReceived ring payload) d) s

/-- LOOP_NOTICE (R253). A LOOP notice arrives and the ring may be declared FOLDED or MULTI, re-planned, or healed. -/
def execLoopNotice (ring : Nat) (payload : Nat) (s : State) : Host.Outcome State Fault Refusal :=
  onLive (fun d => onlyIf (decide (ring < 16)) (·.loopNotice ring payload) d) s

/-- THK_HEAL (R255). THK_CMD OP 1 requests healing of a folded or multi-broken ring. -/
def execThkHeal (ring : Nat) (s : State) : Host.Outcome State Fault Refusal :=
  onLive (fun d => onlyIf (decide (ring < 16)) (·.thkHeal ring) d) s

/-- THK_REDISCOVER (R241). THK_CMD OP 2 starts ring discovery on the addressed ring. -/
def execThkRediscover (ring : Nat) (s : State) : Host.Outcome State Fault Refusal :=
  onLive (fun d => onlyIf (decide (ring < 16)) (·.thkRediscover ring) d) s

/-- MULTI_HEAL_END (R256). After the last UNLOOP frame of a MULTI heal, the ring state is set from the LOOP notices present. -/
def execMultiHealEnd (ring : Nat) (s : State) : Host.Outcome State Fault Refusal :=
  onLive (fun d => onlyIf (decide (ring < 16)) (·.multiHealEnd ring) d) s

end Sys2Proof.Machine
end

