-- ==== Sys2Proof/Machine/VaultCmds.lean ====
section
/-! DEFINITION. The meanings of commands: Power arbiter, keeper, vault and FRAM. -/

namespace Sys2Proof.Machine

/-- VAULT_SUPPLY_SWITCH (R423). The vault changes between VIO33 and VBAT without interruption as VIO33 crosses 2.95 V. -/
def execVaultSupplySwitch (toMain : Bool) (s : State) : Host.Outcome State Fault Refusal := onDev (fun d => d.supplySwitch toMain) s

/-- OVERTEMP_TRIP (R463). PWR_TJ above 130 °C for 1 ms raises source 0x2C and writes a log record. -/
def execOvertempTrip (s : State) : Host.Outcome State Fault Refusal :=
  onLive (fun d => onlyIf (decide (130 * 16 < d.tj)) (·.overTemp) d) s

/-- TJ_SENSOR_UPDATE (R418). Every 1 ms PWR_TJ is updated from the on-die sensor. -/
def execTjSensorUpdate (tj : Int) (s : State) : Host.Outcome State Fault Refusal := onLive (fun d => d.set Reg.PWR_TJ_TJ (toBits 16 tj)) s

/-- KEEPER_LOAD (R425). Once per second of station time the vault loads the time keeper and sets TKVALID. -/
def execKeeperLoad (s : State) : Host.Outcome State Fault Refusal := onLive (fun d => d.keeperLoad) s

/-- KEEPER_CRYSTAL_LOSS (R425). No crystal edge for 1 ms clears TKVALID. -/
def execKeeperCrystalLoss (s : State) : Host.Outcome State Fault Refusal := onDev (fun d => d.keeperLost) s

/-- VAULT_TICK (R426). At each VTICK the sampled comparators are powered, sampled and acted on, and deferred bursts retry. -/
def execVaultTick (vbat : Nat) (tamp : Int) (ntc : Int) (teg : Int) (periods : Nat) (s : State) : Host.Outcome State Fault Refusal :=
  onDev (fun d => (d.keeperOff periods).vaultTick vbat tamp ntc teg) s

/-- HARVESTER_START (R429). The TEG voltage reaches 20 mV and the boost starts. -/
def execHarvesterStart (s : State) : Host.Outcome State Fault Refusal := onDev (fun d => d.harvestStart) s

/-- HARVESTER_STOP (R429). 1 s below 10 mV stops the boost. -/
def execHarvesterStop (s : State) : Host.Outcome State Fault Refusal := onDev (fun d => d.harvestStop) s

/-- HARVESTER_VOC_SAMPLE (R429). Every 16 s the boost pauses 50 ms, samples Voc and sets its regulation point. -/
def execHarvesterVocSample (voc : Nat) (s : State) : Host.Outcome State Fault Refusal := onDev (fun d => d.harvestVoc voc) s

/-- COLD_START_HANDOFF (R428). The vault supply reaches 2.0 V from cold start; the boost takes over and COLD_F is set. -/
def execColdStartHandoff (periods : Nat) (s : State) : Host.Outcome State Fault Refusal :=
  onDev (fun d => (d.keeperOff periods).coldHandoff) s

/-- CELL_CHARGE_CUT (R430). VBAT reaches 4.10 V and charging stops until 4.00 V. -/
def execCellChargeCut (s : State) : Host.Outcome State Fault Refusal := onDev (fun d => d.chargeCut true) s

/-- CELL_DISCHARGE_CUT (R430). VBAT falls to 3.00 V; the cell is disconnected and CUT_F is set. -/
def execCellDischargeCut (periods : Nat) (s : State) : Host.Outcome State Fault Refusal :=
  onDev (fun d => (d.keeperOff periods).dischargeCut) s

/-- CELL_OVERCURRENT (R430). Discharge above 5 mA for 100 µs disconnects the cell and sets OC_F. -/
def execCellOvercurrent (periods : Nat) (s : State) : Host.Outcome State Fault Refusal :=
  onDev (fun d => (d.keeperOff periods).cellOver) s

/-- CELL_OC_RELEASE (R430). 1 s after an over-current disconnection the cell is reconnected. -/
def execCellOcRelease (periods : Nat) (s : State) : Host.Outcome State Fault Refusal :=
  onDev (fun d => (d.keeperOff periods).cellOverEnd) s

/-- FRAM_WRITE_REQUEST (R434). The energy gate tests the reserve and starts a burst or sequence, or defers it. -/
def execFramWriteRequest (vstart : Nat) (dv : Nat) (s : State) : Host.Outcome State Fault Refusal :=
  onDev (fun d => (d.gateTry vstart dv).1.completeAll (d.gateTry vstart dv).2) s

/-- FRAM_BURST_DONE (R434). A FRAM burst completes and the next pending burst may start. -/
def execFramBurstDone (periods : Nat) (s : State) : Host.Outcome State Fault Refusal :=
  onDev (fun d => (d.keeperOff periods).burstDone.1.completeAll (d.keeperOff periods).burstDone.2) s

/-- PWR_STATUS_READ (R437): opcode 0xB0 submitted at `src`. -/
def execPwrStatusRead (src : Src) (p : Packet) (s : State) : Host.Outcome State Fault Refusal := onDev (·.runOp 0xB0 src p) s

/-- VLT_STATUS_READ (R437): opcode 0xB1 submitted at `src`. -/
def execVltStatusRead (src : Src) (p : Packet) (s : State) : Host.Outcome State Fault Refusal := onDev (·.runOp 0xB1 src p) s

/-- VLT_FRAM_READ (R437): opcode 0xB2 submitted at `src`. -/
def execVltFramRead (src : Src) (p : Packet) (s : State) : Host.Outcome State Fault Refusal := onDev (·.runOp 0xB2 src p) s

/-- VAULT_POWER_UP (R439). A dark vault receives a supply (VBAT fitted or VIO33 applied) and starts with every vault register at its reset value and every sampled comparator NORMAL. -/
def execVaultPowerUp (onMain : Bool) (s : State) : Host.Outcome State Fault Refusal := onDev (fun d => d.vaultPower onMain) s

/-- VAULT_DARK (R430). The vault loses every supply, for example when VLTCAP has discharged on a board without a cell: TKVALID is lost and every vault register returns to reset. -/
def execVaultDark (s : State) : Host.Outcome State Fault Refusal := onDev (fun d => if d.inReset then d.vaultDark else d) s

/-- DISCHARGE_CUT_RELEASE (R430). VBAT reaches 3.20 V while charging and the cut cell is reconnected to the vault load, writing event 2 and retrying deferred bursts. -/
def execDischargeCutRelease (periods : Nat) (s : State) : Host.Outcome State Fault Refusal :=
  onDev (fun d => (d.keeperOff periods).dischargeRelease) s

/-- CHARGE_CUT_RELEASE (R430). VBAT falls to 4.00 V after a charge cut and charging may resume. -/
def execChargeCutRelease (s : State) : Host.Outcome State Fault Refusal := onDev (fun d => d.chargeCut false) s

/-- COLD_START_OSCILLATOR (R428). While the vault is dark, the TEG voltage reaches 330 mV (25 mV with the coupled winding) and the cold-start oscillator starts charging the vault supply. -/
def execColdStartOscillator (s : State) : Host.Outcome State Fault Refusal := onDev (fun d => d.coldStart) s

end Sys2Proof.Machine
end

