-- ==== Sys2Proof/Machine/Dispatch.lean ====
section
/-! DEFINITION. The meaning of every command: one arm per constructor of Instr, each one direct call. -/

namespace Sys2Proof.Machine

def exec (i : Instr) (s : State) : Host.Outcome State Fault Refusal :=
  match i with
  | .resetNRelease straps periods rails => Sys2Proof.Machine.execResetNRelease straps periods rails s
  | .resetNAssert => Sys2Proof.Machine.execResetNAssert s
  | .mainSupplyFail periods => Sys2Proof.Machine.execMainSupplyFail periods s
  | .vaultSupplySwitch toMain => Sys2Proof.Machine.execVaultSupplySwitch toMain s
  | .bandSearchComplete band => Sys2Proof.Machine.execBandSearchComplete band s
  | .pllLock phErr => Sys2Proof.Machine.execPllLock phErr s
  | .lockTimeout phErr run => Sys2Proof.Machine.execLockTimeout phErr run s
  | .lossOfLock phErr => Sys2Proof.Machine.execLossOfLock phErr s
  | .referenceLoss => Sys2Proof.Machine.execReferenceLoss s
  | .referenceReturn => Sys2Proof.Machine.execReferenceReturn s
  | .offsetMeasurement port toNeigh fromNeigh => Sys2Proof.Machine.execOffsetMeasurement port toNeigh fromNeigh s
  | .frameTick dispatchDone => Sys2Proof.Machine.execFrameTick dispatchDone s
  | .computePhaseStart sampleDone ctl runs => Sys2Proof.Machine.execComputePhaseStart sampleDone ctl runs s
  | .dispatchPhaseStart => Sys2Proof.Machine.execDispatchPhaseStart s
  | .conversionEnd conv code oor => Sys2Proof.Machine.execConversionEnd conv code oor s
  | .clampSense input => Sys2Proof.Machine.execClampSense input s
  | .jsoftTrigger pairs => Sys2Proof.Machine.execJsoftTrigger pairs s
  | .bgcalStepComplete slice phase z f => Sys2Proof.Machine.execBgcalStepComplete slice phase z f s
  | .calChWrite ch => Sys2Proof.Machine.execCalChWrite ch s
  | .calZero => Sys2Proof.Machine.execCalZero s
  | .calFull => Sys2Proof.Machine.execCalFull s
  | .calCompute => Sys2Proof.Machine.execCalCompute s
  | .calStepComplete codes firstB oor => Sys2Proof.Machine.execCalStepComplete codes firstB oor s
  | .comparatorTransition n v tdc => Sys2Proof.Machine.execComparatorTransition n v tdc s
  | .comparatorPowerupEval n v tdc => Sys2Proof.Machine.execComparatorPowerupEval n v tdc s
  | .comparatorSettle n v tdc => Sys2Proof.Machine.execComparatorSettle n v tdc s
  | .quadratureEdge a b => Sys2Proof.Machine.execQuadratureEdge a b s
  | .indexPulse => Sys2Proof.Machine.execIndexPulse s
  | .freqWindowEnd => Sys2Proof.Machine.execFreqWindowEnd s
  | .standstillTimeout => Sys2Proof.Machine.execStandstillTimeout s
  | .angRearm => Sys2Proof.Machine.execAngRearm s
  | .spPulseEdge => Sys2Proof.Machine.execSpPulseEdge s
  | .sppLossTimeout => Sys2Proof.Machine.execSppLossTimeout s
  | .sppHoldExpiry => Sys2Proof.Machine.execSppHoldExpiry s
  | .ivSweepScheduled => Sys2Proof.Machine.execIvSweepScheduled s
  | .ivSweepPointEnd => Sys2Proof.Machine.execIvSweepPointEnd s
  | .rotationDue => Sys2Proof.Machine.execRotationDue s
  | .carrierPeriodBoundary g => Sys2Proof.Machine.execCarrierPeriodBoundary g s
  | .hbPeriodBoundary n tdc => Sys2Proof.Machine.execHbPeriodBoundary n tdc s
  | .hbDutyEdge n tdc => Sys2Proof.Machine.execHbDutyEdge n tdc s
  | .hbDeadtimeEnd n tdc => Sys2Proof.Machine.execHbDeadtimeEnd n tdc s
  | .localCompareFire n k => Sys2Proof.Machine.execLocalCompareFire n k s
  | .groupCompareFire g j => Sys2Proof.Machine.execGroupCompareFire g j s
  | .groupCommit mask => Sys2Proof.Machine.execGroupCommit mask s
  | .fltclrFclr mask => Sys2Proof.Machine.execFltclrFclr mask s
  | .fltclrXclr mask => Sys2Proof.Machine.execFltclrXclr mask s
  | .fltInput n high tdc => Sys2Proof.Machine.execFltInput n high tdc s
  | .debugHalt stop => Sys2Proof.Machine.execDebugHalt stop s
  | .debugHaltEnd => Sys2Proof.Machine.execDebugHaltEnd s
  | .gridRecord port ok words => Sys2Proof.Machine.execGridRecord port ok words s
  | .gridTripDue n => Sys2Proof.Machine.execGridTripDue n s
  | .rocofHoldExpiry => Sys2Proof.Machine.execRocofHoldExpiry s
  | .rtExitHoldExpiry => Sys2Proof.Machine.execRtExitHoldExpiry s
  | .islcodeWindowEnd => Sys2Proof.Machine.execIslcodeWindowEnd s
  | .collectSend => Sys2Proof.Machine.execCollectSend s
  | .telemReceived ring recs => Sys2Proof.Machine.execTelemReceived ring recs s
  | .discReturn ring west payload arr => Sys2Proof.Machine.execDiscReturn ring west payload arr s
  | .alarmReceived ring payload => Sys2Proof.Machine.execAlarmReceived ring payload s
  | .loopNotice ring payload => Sys2Proof.Machine.execLoopNotice ring payload s
  | .thkHeal ring => Sys2Proof.Machine.execThkHeal ring s
  | .thkRediscover ring => Sys2Proof.Machine.execThkRediscover ring s
  | .multiHealEnd ring => Sys2Proof.Machine.execMultiHealEnd ring s
  | .profLoadTimeout => Sys2Proof.Machine.execProfLoadTimeout s
  | .krkLinkDown port => Sys2Proof.Machine.execKrkLinkDown port s
  | .krkLinkUp port rdly => Sys2Proof.Machine.execKrkLinkUp port rdly s
  | .heartbeat port chip frame state kproto ok => Sys2Proof.Machine.execHeartbeat port chip frame state kproto ok s
  | .viewCommit => Sys2Proof.Machine.execViewCommit s
  | .orphanGraceEnd => Sys2Proof.Machine.execOrphanGraceEnd s
  | .orphanRampEnd => Sys2Proof.Machine.execOrphanRampEnd s
  | .heldContributionExpiry => Sys2Proof.Machine.execHeldContributionExpiry s
  | .slotUpdate port slot chip frame value stamp rank ok => Sys2Proof.Machine.execSlotUpdate port slot chip frame value stamp rank ok s
  | .stationPacket port dest origin txn ok p data => Sys2Proof.Machine.execStationPacket port dest origin txn ok p data s
  | .prepare port dest origin txn ok p commitN data => Sys2Proof.Machine.execPrepare port dest origin txn ok p commitN data s
  | .coherentDecision => Sys2Proof.Machine.execCoherentDecision s
  | .go port dest origin txn ok => Sys2Proof.Machine.execGo port dest origin txn ok s
  | .abort port dest origin txn ok => Sys2Proof.Machine.execAbort port dest origin txn ok s
  | .prepareExpiry => Sys2Proof.Machine.execPrepareExpiry s
  | .stationReply port dest txn ok chip status detail result bulk => Sys2Proof.Machine.execStationReply port dest txn ok chip status detail result bulk s
  | .stationTimeout => Sys2Proof.Machine.execStationTimeout s
  | .squallAtFire => Sys2Proof.Machine.execSquallAtFire s
  | .tripInEdge k level tdc => Sys2Proof.Machine.execTripInEdge k level tdc s
  | .prtLatClear hi w => Sys2Proof.Machine.execPrtLatClear hi w s
  | .loopBlankEnd => Sys2Proof.Machine.execLoopBlankEnd s
  | .loopDiscrepancy => Sys2Proof.Machine.execLoopDiscrepancy s
  | .safetyInputChange n b level => Sys2Proof.Machine.execSafetyInputChange n b level s
  | .safetyEvaluation ctf sreset => Sys2Proof.Machine.execSafetyEvaluation ctf sreset s
  | .discrepancyTimeout n => Sys2Proof.Machine.execDiscrepancyTimeout n s
  | .contactorFault k => Sys2Proof.Machine.execContactorFault k s
  | .sresetRelease held hedge => Sys2Proof.Machine.execSresetRelease held hedge s
  | .sresetStuck => Sys2Proof.Machine.execSresetStuck s
  | .hedgerowHeartbeatLoss => Sys2Proof.Machine.execHedgerowHeartbeatLoss s
  | .hedgerowOscFault => Sys2Proof.Machine.execHedgerowOscFault s
  | .safetyDiagnostic code failed => Sys2Proof.Machine.execSafetyDiagnostic code failed s
  | .watchdogExpiry => Sys2Proof.Machine.execWatchdogExpiry s
  | .overtempTrip => Sys2Proof.Machine.execOvertempTrip s
  | .meterSample => Sys2Proof.Machine.execMeterSample s
  | .pulseEdge k => Sys2Proof.Machine.execPulseEdge k s
  | .pulseEnd k => Sys2Proof.Machine.execPulseEnd k s
  | .harmonicWindowEnd => Sys2Proof.Machine.execHarmonicWindowEnd s
  | .freqTimeout => Sys2Proof.Machine.execFreqTimeout s
  | .meterSaveDue => Sys2Proof.Machine.execMeterSaveDue s
  | .saveRetry => Sys2Proof.Machine.execSaveRetry s
  | .lkpRefresh => Sys2Proof.Machine.execLkpRefresh s
  | .sqtDoorbell q v => Sys2Proof.Machine.execSqtDoorbell q v s
  | .cqhDoorbell q v => Sys2Proof.Machine.execCqhDoorbell q v s
  | .entryFetch => Sys2Proof.Machine.execEntryFetch s
  | .heldCommandDue => Sys2Proof.Machine.execHeldCommandDue s
  | .deferredCommandRun => Sys2Proof.Machine.execDeferredCommandRun s
  | .deferralTimeout => Sys2Proof.Machine.execDeferralTimeout s
  | .spiWriteFrame frame => Sys2Proof.Machine.execSpiWriteFrame frame s
  | .spiReadFrame frame clocked => Sys2Proof.Machine.execSpiReadFrame frame clocked s
  | .mbxGo => Sys2Proof.Machine.execMbxGo s
  | .mbxStatRead => Sys2Proof.Machine.execMbxStatRead s
  | .mbxAck seq => Sys2Proof.Machine.execMbxAck seq s
  | .aqEnable cfg => Sys2Proof.Machine.execAqEnable cfg s
  | .aqDisable => Sys2Proof.Machine.execAqDisable s
  | .mgtFrameRx data tdc => Sys2Proof.Machine.execMgtFrameRx data tdc s
  | .ptpMessageDue announce => Sys2Proof.Machine.execPtpMessageDue announce s
  | .pcieLinkUp speed width => Sys2Proof.Machine.execPcieLinkUp speed width s
  | .poolLowRearm => Sys2Proof.Machine.execPoolLowRearm s
  | .frmPeakRearm => Sys2Proof.Machine.execFrmPeakRearm s
  | .pwrPeakRearm => Sys2Proof.Machine.execPwrPeakRearm s
  | .snpRel mask => Sys2Proof.Machine.execSnpRel mask s
  | .w1cWrite addr value => Sys2Proof.Machine.execW1cWrite addr value s
  | .rcRead addr width => Sys2Proof.Machine.execRcRead addr width s
  | .lowWordRead addr width => Sys2Proof.Machine.execLowWordRead addr width s
  | .registerWrite addr width value => Sys2Proof.Machine.execRegisterWrite addr width value s
  | .bootImageCheck => Sys2Proof.Machine.execBootImageCheck s
  | .bootQspiTimeout => Sys2Proof.Machine.execBootQspiTimeout s
  | .firmwareStart => Sys2Proof.Machine.execFirmwareStart s
  | .imgSessionTimeout => Sys2Proof.Machine.execImgSessionTimeout s
  | .epochFuseDone => Sys2Proof.Machine.execEpochFuseDone s
  | .tjSensorUpdate tj => Sys2Proof.Machine.execTjSensorUpdate tj s
  | .keeperLoad => Sys2Proof.Machine.execKeeperLoad s
  | .keeperCrystalLoss => Sys2Proof.Machine.execKeeperCrystalLoss s
  | .vaultTick vbat tamp ntc teg periods => Sys2Proof.Machine.execVaultTick vbat tamp ntc teg periods s
  | .harvesterStart => Sys2Proof.Machine.execHarvesterStart s
  | .harvesterStop => Sys2Proof.Machine.execHarvesterStop s
  | .harvesterVocSample voc => Sys2Proof.Machine.execHarvesterVocSample voc s
  | .coldStartHandoff periods => Sys2Proof.Machine.execColdStartHandoff periods s
  | .cellChargeCut => Sys2Proof.Machine.execCellChargeCut s
  | .cellDischargeCut periods => Sys2Proof.Machine.execCellDischargeCut periods s
  | .cellOvercurrent periods => Sys2Proof.Machine.execCellOvercurrent periods s
  | .cellOcRelease periods => Sys2Proof.Machine.execCellOcRelease periods s
  | .framWriteRequest vstart dv => Sys2Proof.Machine.execFramWriteRequest vstart dv s
  | .framBurstDone periods => Sys2Proof.Machine.execFramBurstDone periods s
  | .nop src p => Sys2Proof.Machine.execNop src p s
  | .identify src p => Sys2Proof.Machine.execIdentify src p s
  | .qCreate src p => Sys2Proof.Machine.execQCreate src p s
  | .qDelete src p => Sys2Proof.Machine.execQDelete src p s
  | .stateGoto src p => Sys2Proof.Machine.execStateGoto src p s
  | .devReset src p => Sys2Proof.Machine.execDevReset src p s
  | .mgtSend src p => Sys2Proof.Machine.execMgtSend src p s
  | .mgtRecv src p => Sys2Proof.Machine.execMgtRecv src p s
  | .ceCtxLoad src p => Sys2Proof.Machine.execCeCtxLoad src p s
  | .ceCtxEnable src p => Sys2Proof.Machine.execCeCtxEnable src p s
  | .ceCtxRemove src p => Sys2Proof.Machine.execCeCtxRemove src p s
  | .ceCtxRead src p => Sys2Proof.Machine.execCeCtxRead src p s
  | .ceSpSet src p => Sys2Proof.Machine.execCeSpSet src p s
  | .ceParamSet src p => Sys2Proof.Machine.execCeParamSet src p s
  | .ceStateReset src p => Sys2Proof.Machine.execCeStateReset src p s
  | .ceCostQuery src p => Sys2Proof.Machine.execCeCostQuery src p s
  | .ceTblLoad src p => Sys2Proof.Machine.execCeTblLoad src p s
  | .ceTblRead src p => Sys2Proof.Machine.execCeTblRead src p s
  | .ceInjStart src p => Sys2Proof.Machine.execCeInjStart src p s
  | .ceInjStop src p => Sys2Proof.Machine.execCeInjStop src p s
  | .ceCapArm src p => Sys2Proof.Machine.execCeCapArm src p s
  | .ceCapRead src p => Sys2Proof.Machine.execCeCapRead src p s
  | .ceCapAbort src p => Sys2Proof.Machine.execCeCapAbort src p s
  | .cellMapLoad src p => Sys2Proof.Machine.execCellMapLoad src p s
  | .cellMapRead src p => Sys2Proof.Machine.execCellMapRead src p s
  | .cellStatusRead src p => Sys2Proof.Machine.execCellStatusRead src p s
  | .cellBypass src p => Sys2Proof.Machine.execCellBypass src p s
  | .cellRestore src p => Sys2Proof.Machine.execCellRestore src p s
  | .cellIvSweep src p => Sys2Proof.Machine.execCellIvSweep src p s
  | .cellIvRead src p => Sys2Proof.Machine.execCellIvRead src p s
  | .cellVrefSet src p => Sys2Proof.Machine.execCellVrefSet src p s
  | .cellSocSet src p => Sys2Proof.Machine.execCellSocSet src p s
  | .cellRotate src p => Sys2Proof.Machine.execCellRotate src p s
  | .modSlotLoad src p => Sys2Proof.Machine.execModSlotLoad src p s
  | .modCellCommit src p => Sys2Proof.Machine.execModCellCommit src p s
  | .modProfLoad src p => Sys2Proof.Machine.execModProfLoad src p s
  | .modProfRead src p => Sys2Proof.Machine.execModProfRead src p s
  | .modFltClear src p => Sys2Proof.Machine.execModFltClear src p s
  | .modEdgeTest src p => Sys2Proof.Machine.execModEdgeTest src p s
  | .modBsRead src p => Sys2Proof.Machine.execModBsRead src p s
  | .modSlotRead src p => Sys2Proof.Machine.execModSlotRead src p s
  | .gridProfileLoad src p => Sys2Proof.Machine.execGridProfileLoad src p s
  | .gridProfileRead src p => Sys2Proof.Machine.execGridProfileRead src p s
  | .gridStatusRead src p => Sys2Proof.Machine.execGridStatusRead src p s
  | .gridIslArm src p => Sys2Proof.Machine.execGridIslArm src p s
  | .gridZrefReset src p => Sys2Proof.Machine.execGridZrefReset src p s
  | .gridTripTest src p => Sys2Proof.Machine.execGridTripTest src p s
  | .stnTableLoad src p => Sys2Proof.Machine.execStnTableLoad src p s
  | .stnTableRead src p => Sys2Proof.Machine.execStnTableRead src p s
  | .stnJoin src p => Sys2Proof.Machine.execStnJoin src p s
  | .stnLeave src p => Sys2Proof.Machine.execStnLeave src p s
  | .stnStatusRead src p => Sys2Proof.Machine.execStnStatusRead src p s
  | .stnSlotSet src p => Sys2Proof.Machine.execStnSlotSet src p s
  | .stnResarea src p => Sys2Proof.Machine.execStnResarea src p s
  | .stnSquallAt src p => Sys2Proof.Machine.execStnSquallAt src p s
  | .prtTripClear src p => Sys2Proof.Machine.execPrtTripClear src p s
  | .prtTripForce src p => Sys2Proof.Machine.execPrtTripForce src p s
  | .prtPathTest src p => Sys2Proof.Machine.execPrtPathTest src p s
  | .safConfigLoad src p => Sys2Proof.Machine.execSafConfigLoad src p s
  | .safConfigConfirm src p => Sys2Proof.Machine.execSafConfigConfirm src p s
  | .safConfigRead src p => Sys2Proof.Machine.execSafConfigRead src p s
  | .safCtoSet src p => Sys2Proof.Machine.execSafCtoSet src p s
  | .safAccess src p => Sys2Proof.Machine.execSafAccess src p s
  | .mtrCfgLoad src p => Sys2Proof.Machine.execMtrCfgLoad src p s
  | .mtrCfgRead src p => Sys2Proof.Machine.execMtrCfgRead src p s
  | .mtrAccRead src p => Sys2Proof.Machine.execMtrAccRead src p s
  | .mtrIntvRead src p => Sys2Proof.Machine.execMtrIntvRead src p s
  | .mtrEvtRead src p => Sys2Proof.Machine.execMtrEvtRead src p s
  | .mtrHarmRead src p => Sys2Proof.Machine.execMtrHarmRead src p s
  | .mtrUnsavedRead src p => Sys2Proof.Machine.execMtrUnsavedRead src p s
  | .mtrSaveNow src p => Sys2Proof.Machine.execMtrSaveNow src p s
  | .mtrAccPreset src p => Sys2Proof.Machine.execMtrAccPreset src p s
  | .snpTrigger src p => Sys2Proof.Machine.execSnpTrigger src p s
  | .snpRead src p => Sys2Proof.Machine.execSnpRead src p s
  | .logRead src p => Sys2Proof.Machine.execLogRead src p s
  | .imgBegin src p => Sys2Proof.Machine.execImgBegin src p s
  | .imgBlock src p => Sys2Proof.Machine.execImgBlock src p s
  | .imgVerify src p => Sys2Proof.Machine.execImgVerify src p s
  | .imgHandover src p => Sys2Proof.Machine.execImgHandover src p s
  | .imgAbort src p => Sys2Proof.Machine.execImgAbort src p s
  | .imgStatus src p => Sys2Proof.Machine.execImgStatus src p s
  | .pwrStatusRead src p => Sys2Proof.Machine.execPwrStatusRead src p s
  | .vltStatusRead src p => Sys2Proof.Machine.execVltStatusRead src p s
  | .vltFramRead src p => Sys2Proof.Machine.execVltFramRead src p s
  | .clampSenseRelease input => Sys2Proof.Machine.execClampSenseRelease input s
  | .mgtLinkUp => Sys2Proof.Machine.execMgtLinkUp s
  | .mgtLinkDown => Sys2Proof.Machine.execMgtLinkDown s
  | .identityExchange port dest ok peer last => Sys2Proof.Machine.execIdentityExchange port dest ok peer last s
  | .vaultPowerUp onMain => Sys2Proof.Machine.execVaultPowerUp onMain s
  | .vaultDark => Sys2Proof.Machine.execVaultDark s
  | .dischargeCutRelease periods => Sys2Proof.Machine.execDischargeCutRelease periods s
  | .chargeCutRelease => Sys2Proof.Machine.execChargeCutRelease s
  | .coldStartOscillator => Sys2Proof.Machine.execColdStartOscillator s
  | .jtagExtest on cells => Sys2Proof.Machine.execJtagExtest on cells s

end Sys2Proof.Machine
end

