-- ==== Sys2Proof/Safety.lean ====
section
/-! DEFINITION. The terms claims are stated in: what a command answers, what it leaves, when an opcode's body begins, and the conditions that
hold after every step. -/

namespace Sys2Proof.Machine

/-! ### What a command answers -/

/-- The device as a command finds it: what went out before is gone. -/
def State.start (s : State) : Dev := { s.dev with out := [] }

/-- Command `i` completes at `s`: `exec` answers a next state, whose device is `d`, settled; the queue is as it was. -/
def Answers (i : Instr) (s : State) (d : Dev) : Prop := exec i s = .next { s with dev := d.settle }

/-- The main die runs: it is not held in reset. -/
def State.live (s : State) : Prop := s.dev.inReset = false

/-! ### What is left as it was -/

/-- `e` differs from `d` in the registers at the offsets listed and in the note of what the events of the clock did to registers (R8), and in
nothing else. -/
def SameBut (d e : Dev) (l : List Nat) : Prop := e = { d with regs := e.regs, evt := e.evt } ∧ ∀ o, o ∉ l → e.reg o = d.reg o

/-- The registers at the offsets listed may differ; every other register is as it was. -/
def RegsBut (d e : Dev) (l : List Nat) : Prop := ∀ o, o ∉ l → e.reg o = d.reg o

/-- The registers a log record touches: the ring’s sequence number, and the vault’s flags and counters when a FRAM entry is dropped. -/
def logRegs : List Nat := [Reg.SNP_LOGSEQ, Reg.VLT_FLAG, Reg.VLT_CNT]

/-- The registers that passing core clocks change: the PLL leaves IDLE, the clock of the frame, the background calibration’s rotation, and the pool’s
frees and credits. -/
def clockRegs : List Nat :=
  [Reg.CLK_STAT, Reg.FRM_STAT, Reg.ADC_BGSTAT, Reg.HIF_POOL_FREE, Reg.HIF_POOL_LOW, Reg.HIF_POOL_STAT]

/-- A counter field has gone up by one, holding at its greatest value. -/
def Counted (d e : Dev) (f : Fld) : Prop := e.get f = satAdd (2 ^ (f.hi + 1 - f.lo) - 1) (d.get f) 1

/-- Nothing waits for the state to settle: no active source would set a latch, the PLL has its reference, Nimbus and the injections are as their
conditions have them, no executing command has reached its end, no queue is being deleted, and no station transaction has lost its view. -/
def Dev.quiet (d : Dev) : Prop :=
  (∀ c ∈ sourceCodes, d.prt.evaluated = true → d.sourceActive c = true → d.effective c = true → d.isOn (latF c) = true) ∧
  d.clk.ref = d.reference ∧ d.mtrRuns = d.mtr.running ∧
  (d.stIn [stREADY, stSYNC, stRUN] = true ∨ ∀ x ∈ d.ce.inj, x.2.active = false) ∧
  d.prt.tripped = [] ∧ d.prt.path = none ∧ d.img.ho = none ∧
  (∀ w ∈ d.host.waits, pOp w.pkt = 0xB2 → w.kind = .executing → ∃ r ∈ d.fram.reqs, r.started = true) ∧
  (∀ x ∈ d.host.queues, x.2.closing = false) ∧ d.snp.asked.all (fun x => x.clk == d.clocks) = true ∧ d.krk.inbox = [] ∧
  (∀ x ∈ d.krk.txns, x.coherent = true → d.curN < x.commitN → d.viewLost x = false)

/-- The registers that follow from the state when it settles. -/
def settleRegs : List Nat :=
  [Reg.PRT_ACT_LO, Reg.PRT_ACT_HI, Reg.PRT_EN_LO, Reg.PRT_STAT, Reg.SAF_STAT, Reg.SAF_HEDGE, Reg.VLT_STAT] ++
    (List.range 12).map Reg.MOD_HBn_STAT

/-- The commands that act although the main die is held in reset: the release, the supplies and the vault. The JTAG TAP does not: it is held in
Test-Logic-Reset (R462). -/
def actsInReset : Instr → Bool
  | .resetNRelease _ _ _ => true
  | .resetNAssert => true
  | .mainSupplyFail _ => true
  | .vaultSupplySwitch _ => true
  | .keeperCrystalLoss => true
  | .vaultTick _ _ _ _ _ => true
  | .harvesterStart => true
  | .harvesterStop => true
  | .harvesterVocSample _ => true
  | .coldStartHandoff _ => true
  | .cellChargeCut => true
  | .cellDischargeCut _ => true
  | .cellOvercurrent _ => true
  | .cellOcRelease _ => true
  | .framWriteRequest _ _ => true
  | .framBurstDone _ => true
  | .vaultPowerUp _ => true
  | .vaultDark => true
  | .dischargeCutRelease _ => true
  | .chargeCutRelease => true
  | .coldStartOscillator => true
  | _ => false

/-- A memory in canonical form: addresses strictly rising, no entry equal to what an unlisted address reads as. -/
def Memory.wf (m : List (Nat × Byte)) : Bool := swf (fun _ => 0) m

/-- Every memory of the device is in canonical form. -/
def Dev.memWf (s : Dev) : Prop :=
  Memory.wf s.hostMem = true ∧ Memory.wf s.host.ringWin = true ∧ Memory.wf s.host.bulkWin = true ∧ Memory.wf s.fram.mem = true ∧
  Memory.wf s.img.standby = true ∧ swf qErased s.img.qspi = true

/-! ### The pool -/

/-- No granule is lost or made (R23, R31): the free granules that HIF_POOL_FREE shows and those that the 100 users have in use or committed make up
the 3,072 reserved and the 5,120 shared ones, and no other user holds any. -/
def Dev.granulesOk (d : Dev) : Prop :=
  swf (fun _ => ({} : PoolUser)) d.pool.users = true ∧ (∀ u, 100 ≤ u → d.user u = {}) ∧
  d.get Reg.HIF_POOL_FREE_RES_FREE + ((List.range 100).map (fun u => (d.user u).resUsed u)).sum = 3072 ∧
  d.get Reg.HIF_POOL_FREE_SH_FREE + ((List.range 100).map (fun u => (d.user u).shUsed)).sum = 5120

/-! ### Register writes -/

/-- A write to the register at this offset sets something off beside its fields, or the register is one of the vault’s. -/
def actsOnWrite (off : Nat) : Bool :=
  [Reg.HIF_EVT, Reg.HIF_EVTEN, Reg.HIF_MBX_CTL, Reg.HIF_MBX_ACK, Reg.HIF_POOL_LOW, Reg.HIF_PTPOFS_LO, Reg.HIF_PTPOFS_HI, Reg.HIF_AQ_CFG,
   Reg.CLK_CFG, Reg.FRM_CFG, Reg.FRM_FLAG, Reg.FRM_PEAK, Reg.ADC_CTL, Reg.ADC_CALCTL, Reg.ADC_JSOFT, Reg.ANG_CFG, Reg.ANG_CTL,
   Reg.CE_SPP_CFG, Reg.MOD_COMMIT, Reg.MOD_FLTCLR, Reg.THK_CMD, Reg.PRT_LAT_LO, Reg.PRT_LAT_HI, Reg.PRT_CFG, Reg.PWR_PEAK,
   Reg.SNP_REL].contains off || isVault off ||
  (decide (0x1800 ≤ off) && decide (off < 0x18C0)) || (decide (0x2A00 ≤ off) && decide (off < 0x2D00)) ||
  (decide (0x3100 ≤ off) && decide (off < 0x3200)) || decide (0x8000 ≤ off)

/-! ### Where an opcode's body begins -/

/-- The checks of steps 1 to 4 of R355 pass, and the packet is not held and not for other chips. -/
def Dev.passes4 (s : Dev) (w : WaitCmd) (row : OpRow) : Bool :=
  let p := w.pkt
  !(decide (pOp p < 0x10) && (match w.src with | .queue q => q != 0 | _ => false)) &&
  (lowestOf (s.badStep2 w.src p row)).isNone && !(stationScope p && w.route.isNone) && (s.badContext w.src p).isNone &&
  (pExecAt p == 0 || coherent p || pOp p == 0x41) && !badTarget p && s.accepts p row

/-- It is executed here and now: its effect does not wait for a tick. -/
def Dev.passes (s : Dev) (w : WaitCmd) (row : OpRow) : Bool := s.passes4 w row && !tickOp w.pkt

/-- The device as the body of a command begins: the granules and the snapshot buffer reserved for it at PREPARE are at hand, and no other granules
(R29, R281, R389); its writes count as arriving at the stamp of the tick it was held for, else on this core clock (R16, R357). -/
def Dev.bodyState (s : Dev) (w : WaitCmd) : Dev :=
  let e := s.setWait { w with kind := runKind w.pkt, bulk := [], buf := none }
  let e := e.setKrk { e.krk with fwd := w.data }
  let e := { e with host := { e.host with arrived := s.arrivalOf w }, snp := { e.snp with prepBuf := w.buf } }
  { e with pool := { e.pool with now := [], kept := w.bulk } }

/-- The command record and the device as the body of a command begins that has just been fetched, when it passes. -/
def Dev.starts (t : Dev) (w : WaitCmd) : Option (WaitCmd × Dev) :=
  match opRow (pOp w.pkt) with
  | some row =>
    let a := t.addWait w
    if a.2.passes a.1 row then some (a.1, a.2.bodyState a.1) else none
  | none => none

/-- The command of a fetched packet of opcode `op`, and the device that has fetched it. -/
def Dev.fetched (s : Dev) (op : Nat) (src : Src) (p : Packet) : Option (WaitCmd × Dev) :=
  match s.take src with
  | some (g, t) =>
    let route := match src with
      | .station c _ => some (c, pTag (withOp p op))
      | _ => none
    some ({ src := src, pkt := withOp p op, kind := .executing, order := 0, gran := g, route := route }, t)
  | none => none

/-- The command record and the device as the body of opcode `op` begins, when the packet is fetched from `src` and passes. -/
def Dev.begins (s : Dev) (op : Nat) (src : Src) (p : Packet) : Option (WaitCmd × Dev) :=
  match s.fetched op src p with
  | some (w, t) => t.starts w
  | none => none

/-- The command record and the device once the packet of an opcode whose effect falls at a tick is fetched, passes, and waits for the next
tick (R368). -/
def Dev.awaitsTick (s : Dev) (op : Nat) (src : Src) (p : Packet) : Option (WaitCmd × Dev) :=
  match s.fetched op src p, opRow op with
  | some (w, t), some row =>
    let a := t.addWait w
    if a.2.passes4 a.1 row && tickOp a.1.pkt && !a.2.handoverUnready a.1.pkt then
      let w := { a.1 with kind := .atTick t.frm.tickNo }
      some (w, a.2.setWait w)
    else none
  | _, _ => none

/-- The command record and the device as the body of opcode `op` begins at its tick: the next command due is a held one of that opcode, and
the state accepts it. -/
def Dev.dueAtTick (s : Dev) (op : Nat) : Option (WaitCmd × Dev) :=
  match s.nextDue, opRow op with
  | some w, some row =>
    if s.fetching && !w.isDeferred && pOp w.pkt == op && !badTarget w.pkt && s.accepts w.pkt row then
      some (w, (s.turnOf w).bodyState w)
    else none
  | _, _ => none

/-- The command of an opcode of the master table (R364). -/
def opInstr (op : Nat) (src : Src) (p : Packet) : Option Instr :=
  match op with
  | 0x00 => some (.nop src p)
  | 0x01 => some (.identify src p)
  | 0x02 => some (.qCreate src p)
  | 0x03 => some (.qDelete src p)
  | 0x04 => some (.stateGoto src p)
  | 0x05 => some (.devReset src p)
  | 0x06 => some (.mgtSend src p)
  | 0x07 => some (.mgtRecv src p)
  | 0x10 => some (.ceCtxLoad src p)
  | 0x11 => some (.ceCtxEnable src p)
  | 0x12 => some (.ceCtxRemove src p)
  | 0x13 => some (.ceCtxRead src p)
  | 0x14 => some (.ceSpSet src p)
  | 0x15 => some (.ceParamSet src p)
  | 0x16 => some (.ceStateReset src p)
  | 0x17 => some (.ceCostQuery src p)
  | 0x18 => some (.ceTblLoad src p)
  | 0x19 => some (.ceTblRead src p)
  | 0x1A => some (.ceInjStart src p)
  | 0x1B => some (.ceInjStop src p)
  | 0x1C => some (.ceCapArm src p)
  | 0x1D => some (.ceCapRead src p)
  | 0x1E => some (.ceCapAbort src p)
  | 0x30 => some (.cellMapLoad src p)
  | 0x31 => some (.cellMapRead src p)
  | 0x32 => some (.cellStatusRead src p)
  | 0x33 => some (.cellBypass src p)
  | 0x34 => some (.cellRestore src p)
  | 0x35 => some (.cellIvSweep src p)
  | 0x36 => some (.cellIvRead src p)
  | 0x37 => some (.cellVrefSet src p)
  | 0x38 => some (.cellSocSet src p)
  | 0x39 => some (.cellRotate src p)
  | 0x40 => some (.modSlotLoad src p)
  | 0x41 => some (.modCellCommit src p)
  | 0x42 => some (.modProfLoad src p)
  | 0x43 => some (.modProfRead src p)
  | 0x44 => some (.modFltClear src p)
  | 0x45 => some (.modEdgeTest src p)
  | 0x46 => some (.modBsRead src p)
  | 0x47 => some (.modSlotRead src p)
  | 0x50 => some (.gridProfileLoad src p)
  | 0x51 => some (.gridProfileRead src p)
  | 0x52 => some (.gridStatusRead src p)
  | 0x53 => some (.gridIslArm src p)
  | 0x54 => some (.gridZrefReset src p)
  | 0x55 => some (.gridTripTest src p)
  | 0x60 => some (.stnTableLoad src p)
  | 0x61 => some (.stnTableRead src p)
  | 0x62 => some (.stnJoin src p)
  | 0x63 => some (.stnLeave src p)
  | 0x64 => some (.stnStatusRead src p)
  | 0x65 => some (.stnSlotSet src p)
  | 0x66 => some (.stnResarea src p)
  | 0x67 => some (.stnSquallAt src p)
  | 0x70 => some (.prtTripClear src p)
  | 0x71 => some (.prtTripForce src p)
  | 0x72 => some (.prtPathTest src p)
  | 0x73 => some (.safConfigLoad src p)
  | 0x74 => some (.safConfigConfirm src p)
  | 0x75 => some (.safConfigRead src p)
  | 0x76 => some (.safCtoSet src p)
  | 0x77 => some (.safAccess src p)
  | 0x80 => some (.mtrCfgLoad src p)
  | 0x81 => some (.mtrCfgRead src p)
  | 0x82 => some (.mtrAccRead src p)
  | 0x83 => some (.mtrIntvRead src p)
  | 0x84 => some (.mtrEvtRead src p)
  | 0x85 => some (.mtrHarmRead src p)
  | 0x86 => some (.mtrUnsavedRead src p)
  | 0x87 => some (.mtrSaveNow src p)
  | 0x88 => some (.mtrAccPreset src p)
  | 0x90 => some (.snpTrigger src p)
  | 0x91 => some (.snpRead src p)
  | 0x92 => some (.logRead src p)
  | 0xA0 => some (.imgBegin src p)
  | 0xA1 => some (.imgBlock src p)
  | 0xA2 => some (.imgVerify src p)
  | 0xA3 => some (.imgHandover src p)
  | 0xA4 => some (.imgAbort src p)
  | 0xA5 => some (.imgStatus src p)
  | 0xB0 => some (.pwrStatusRead src p)
  | 0xB1 => some (.vltStatusRead src p)
  | 0xB2 => some (.vltFramRead src p)
  | _ => none

/-- The device once a command has asked for `k` further granules, which it holds until it completes when it gets them (R29). -/
def Dev.granules (s : Dev) (src : Src) (k : Nat) : Dev :=
  match s.ask (srcUser src) k with
  | (some h, t) => t.holds h
  | (none, t) => t

/-- It gets them. -/
def Dev.grants (s : Dev) (src : Src) (k : Nat) : Bool := (s.ask (srcUser src) k).1.isSome

/-- `n` bytes at `a` can be loaded for a command now: the address is legal, the granules are there, and every access completes (R29, R341). -/
def Dev.loads (s : Dev) (src : Src) (a n : Nat) : Bool :=
  s.addrOk src a n && s.grants src (s.loadNeeds src n) && (s.granules src (s.loadNeeds src n)).memOk src a n

/-- The device that has the granules of a load of `n` bytes. -/
def Dev.loading (s : Dev) (src : Src) (n : Nat) : Dev := s.granules src (s.loadNeeds src n)

/-- The granules of a read-out of `n` bytes. -/
def storeNeeds (n : Nat) : Nat := min (cdiv n 256) 8

/-- `n` bytes can be written to `a` for a read-out now. -/
def Dev.stores (s : Dev) (src : Src) (a n : Nat) : Bool :=
  s.addrOk src a n && s.grants src (storeNeeds n) && (s.granules src (storeNeeds n)).memOk src a n

/-- The device with a read-out of the bytes `d` written where packet `p` asks. -/
def Dev.readOut (s : Dev) (src : Src) (p : Packet) (d : List Byte) : Dev :=
  (s.granules src (storeNeeds d.length)).bulkWrite src (pN p 24 8) d

/-- An item that needs admission is admitted: with it in, as in `t`, the schedule fits, or nothing that is short has grown (R57). -/
def Admitted (s t : Dev) : Prop := s.itemRefused t = none

/-- The command whose body left the device `f` is over: the granules it held and a snapshot buffer it has not used are freed, and reply `r` goes
out. -/
def Dev.closed (f : Dev) (w : WaitCmd) (r : Reply) : Dev :=
  ({ f with pool := { f.pool with now := [], kept := [] }, snp := { f.snp with prepBuf := none } }).finish
    { w with bulk := f.pool.now ++ f.pool.kept, buf := f.snp.prepBuf } r

/-- The command whose body left the device `f` goes on: it holds its granules until it completes. -/
def Dev.goesOn (f : Dev) (w : WaitCmd) : Dev :=
  (({ f with pool := { f.pool with now := [], kept := [] }, snp := { f.snp with prepBuf := none } }).keepBulk w
    (f.pool.now ++ f.pool.kept)).bufFree f.snp.prepBuf

/-- The opcode command `i` completes with `r`, its body having left the device as `f`: the reply goes out, and the state settles. -/
def CompletesWith (i : Instr) (s : State) (w : WaitCmd) (f : Dev) (r : Reply) : Prop := Answers i s (f.closed w r)

/-! ### Interrupts -/

/-- Vector `v` is raised between `d` and `e` (R352): sent while MSI-X is enabled, or its pending bit set while it is masked. -/
def VectorRaised (d e : Dev) (v : Nat) : Prop :=
  (d.host.msixEnable = true → d.msixMasked v = false → OutMsg.msix v ∈ e.out) ∧
  (d.host.msixEnable = true → d.msixMasked v = true → v ∈ e.host.pba) ∧
  (d.host.msixEnable = false → e.host.pba = d.host.pba)

/-! ### Results that several commands share -/

/-- Comparator `i` of `d` evaluates the input `v` at a stamp, leaving `e` (R83–R87): the entry condition wins, then the return condition, and
an edge acts on the routes chosen. -/
def CmpEvaluated (d e : Dev) (i : Nat) (v : Int) (tdc : Nat) : Prop :=
  e.isOn ⟨0x18C4, i, i⟩ = (!d.cmpEntry i v && !d.cmpReturn i v) ∧
  (d.cmpEntry i v = true → e.cmpTripped i = true) ∧
  (d.cmpEntry i v = false → d.cmpReturn i v = true → e.cmpTripped i = false) ∧
  (d.cmpEntry i v = false → d.cmpReturn i v = false → e.cmpTripped i = d.cmpTripped i) ∧
  (d.cmpEntry i v = true → d.cmpTripped i = false → e.isOn ⟨0x18C8, i, i⟩ = true ∧
    (d.isOn (Reg.CMP_ROUTEi_TRIP i) = true → e.isOn (latF i) = true) ∧
    (d.isOn (Reg.CMP_ROUTEi_IRQ i) = true → d.get (Reg.CMP_ROUTEi_EDGE i) ≠ 1 → e.isOn Reg.HIF_EVT_CMP = true) ∧
    (d.isOn (Reg.CMP_ROUTEi_CAPT i) = true → d.get (Reg.CMP_ROUTEi_EDGE i) ≠ 1 →
      sget (fun _ => none) e.cmp.cap i = some (d.stamp tdc, false))) ∧
  (d.cmpEntry i v = false → d.cmpReturn i v = true → d.cmpTripped i = true → e.isOn ⟨0x18CC, i, i⟩ = true)

/-- The latch of `code`, set while every latch was clear, is recorded as the first with its stamp unless an earlier first still stands, OUT rises,
and the chip trips (R288, R289): TRIPPED, except in the states that hold a latch without a change of state, with every local channel's fault latch set. -/
def FirstLatch (d e : Dev) (code stamp : Nat) : Prop :=
  e.isOn (latF code) = true ∧ e.isOn Reg.PRT_FIRST_VALID = true ∧
  (d.isOn Reg.PRT_FIRST_VALID = false → e.get Reg.PRT_FIRST_CODE = code ∧ e.pair Reg.PRT_FSTAMP_LO Reg.PRT_FSTAMP_HI = stamp) ∧
  (d.isOn Reg.PRT_FIRST_VALID = true → d.prt.firstAt ≠ some d.clocks → e.get Reg.PRT_FIRST_CODE = d.get Reg.PRT_FIRST_CODE) ∧ e.isOn Reg.PRT_STAT_OUT = true ∧ e.isOn Reg.PRT_FLAG_TRIP_F = true ∧
  Counted d e Reg.PRT_CNT_TRIPS ∧ (∀ n, n < 12 → e.isOn (Reg.MOD_HBn_STAT_FLTLAT n) = true) ∧
  (d.stIn tripHeldStates = false → e.st = stTRIPPED) ∧ (d.stIn tripHeldStates = true → e.st = d.st)

/-! ### What holds after every step -/

/-- The bits of a register that are W1C flags (R8): the trip latches and every block’s flags. -/
def flagBits (off : Nat) : Word :=
  match findReg off with
  | some k => k.fields.foldl (fun a f => if f.acc = .w1c then a ||| maskOf f.hi f.lo else a) 0#32
  | none => 0#32

/-- No W1C flag of `d`, no trip latch among them, is clear in `e`. -/
def FlagsKept (d e : Dev) : Prop := ∀ o, d.reg o &&& flagBits o &&& ~~~(e.reg o) = 0#32

/-- The output pins are as R382, R295, R306 and R462 have them: all released in reset; else TRIP_OUT follows the matrix unless the boundary cells
drive it in BOOT or CONFIG, no local channel is enabled while Hedgerow demands, and EXTEST never enables a channel or a contactor there. -/
def Dev.PinsOk (d : Dev) : Prop :=
  (d.inReset = true → d.pins.released = true ∧ d.pins.hbEnable = 0 ∧ d.pins.hbPulse = 0 ∧ d.pins.cto = 0) ∧
  (d.inReset = false → d.pins.released = false) ∧
  (d.inReset = false → (d.pins.extest = none ∨ d.stIn [stBOOT, stCONFIG] = false) → d.pins.tripOut = [d.tripOut 0, d.tripOut 1]) ∧
  (d.inReset = false → d.get Reg.SAF_HEDGE_DEM ≠ 0 → d.pins.hbEnable = 0) ∧
  (d.inReset = false → d.pins.extest ≠ none → d.stIn [stBOOT, stCONFIG] = true →
    d.pins.hbEnable = 0 ∧ d.pins.hbPulse = 0 ∧ d.pins.cto = 0) ∧
  (∀ b, d.inReset = false → d.pins.extest = some b → d.stIn [stBOOT, stCONFIG] = true → d.pins.hbPulseZ = b.hbPulse ∧ d.pins.hbEnableZ = b.hbEnable ∧
    d.pins.ctoZ = b.cto ∧ d.pins.qspiCsN = b.qspiCsN ∧ d.pins.gpio = b.gpio ∧ d.pins.gpioOe = b.gpioOe) ∧
  (d.inReset = false → (d.pins.extest = none ∨ d.stIn [stBOOT, stCONFIG] = false) → d.pins.hirqN = !(d.isOn Reg.HIF_STAT_SPIMODE && d.hirq)) ∧
  d.pins.wake = (if d.vlt.dark then none else some (d.isOn Reg.VLT_FLAG_WAKE_F))

/-- PRT_STAT.OUT says whether any latch is set (R289). -/
def Dev.OutOk (d : Dev) : Prop := d.isOn Reg.PRT_STAT_OUT = d.anyLatch

/-- PRT_EN_LO.CMP mirrors CMP_ROUTEi.TRIP (R287). -/
def Dev.MaskOk (d : Dev) : Prop :=
  d.get Reg.PRT_EN_LO_CMP = boolMask ((List.range 24).map (fun i => d.isOn (Reg.CMP_ROUTEi_TRIP i)))

end Sys2Proof.Machine
end

