-- ==== Sys2Proof/Certificates/Slice0/Obligations.lean ====
section
/-! DEFINITION. The statements for the provers. Each says what it states; OBLIGATIONS.json gives its rules. -/

open Sys2Proof Sys2Proof.Machine

/-- A step runs the command at the front of the queue, and answers a next state. A step on an empty queue is log entry 2 (DESIGN CHOICE).
(13_host_command_interface.md, 14_states_and_startup.md, 95_what_each_step_holds.md) -/
def Obligations.FrontCommandRuns : Prop :=
  (∀ (c : Instr) (s : State), step { s with pending := c :: s.pending } = exec c s) ∧
  (∀ s : State, ∃ t, step s = .next t ∧ t.pending = s.pending.tail) ∧
  (∀ (i : Instr) (s : State), ∃ d, Answers i s d)

/-- On an empty queue one core clock passes (the model’s choice, log entry 2). The clock on an empty queue is a choice of the model (log
entry 2), the even spread of the slewed clocks is log entry 34, and nothing happens in reset by log entry 38. (02_time_and_frame.md R46,
02_time_and_frame.md R47, 11_protection_and_safety.md R290) -/
def Obligations.EmptyQueueClock : Prop :=
  ∀ s : State, s.pending = [] → ∃ d, step s = .next { s with dev := d.settle } ∧ RegsBut s.dev d clockRegs ∧
    (s.dev.inReset = true → d = s.start) ∧
    (s.live → d.clocks = s.dev.clocks + 1 ∧ d.prt.evaluated = true) ∧
    (s.live → s.dev.pllst = pIDLE → d.pllst = pBAND) ∧
    (s.live → s.dev.clk.locked1 = false → d.time = s.dev.time) ∧
    (s.live → s.dev.clk.locked1 = true → s.dev.slewIn 1 = 0 → d.time = s.dev.time + 16) ∧
    (s.live → s.dev.clk.locked1 = true → s.dev.slewIn 1 ≠ 0 → 0 < s.dev.clk.slew → d.time = s.dev.time + 15) ∧
    (s.live → s.dev.clk.locked1 = true → s.dev.slewIn 1 ≠ 0 → s.dev.clk.slew < 0 → d.time = s.dev.time + 17)

/-- In reset only the release, the supplies and the vault act. The rules hold the main die and its TAP in reset; that such a command is then
answered by the state as it was is log entry 38 (DESIGN CHOICE). (14_states_and_startup.md R382, 18_package_and_electrical.md R462) -/
def Obligations.ResetHoldsTheMainDie : Prop :=
  ∀ (i : Instr) (s : State), actsInReset i = false → s.dev.inReset = true → Answers i s s.start ∧ s.start.out = []

/-- Every step keeps the output pins and derived registers as the rules have them. (11_protection_and_safety.md R287,
11_protection_and_safety.md R289, 11_protection_and_safety.md R295, 11_protection_and_safety.md R306, 13_host_command_interface.md R352,
14_states_and_startup.md R382, 18_package_and_electrical.md R462) -/
def Obligations.StepKeepsPinsAndMasks : Prop :=
  ∀ s t : State, step s = .next t → t.dev.PinsOk ∧ t.dev.OutOk ∧ t.dev.MaskOk

/-- Every step keeps the memories in canonical form and loses no granule. What a byte never written reads as is a choice of the model (log
entries 6, 7 and 8). (01_station_architecture.md R23, 01_station_architecture.md R24, 01_station_architecture.md R31) -/
def Obligations.StepKeepsMemoriesAndGranules : Prop :=
  (∀ s t : State, step s = .next t → (s.dev.memWf → t.dev.memWf) ∧ (s.dev.granulesOk → t.dev.granulesOk)) ∧
  State.reset.dev.memWf ∧ State.reset.dev.granulesOk

/-- What the machine holds after reset. (11_protection_and_safety.md R290, 14_states_and_startup.md R377, 14_states_and_startup.md R382,
01_station_architecture.md R32) -/
def Obligations.ResetState : Prop :=
  State.reset.dev.PinsOk ∧ State.reset.dev.OutOk ∧ State.reset.dev.MaskOk ∧
  State.reset.pending = [] ∧ State.reset.live ∧ State.reset.dev.st = stBOOT ∧ State.reset.dev.isOn Reg.HIF_STAT_CMDRDY = false ∧
  State.reset.dev.latched = [0x2C] ∧ State.reset.dev.get Reg.PRT_FIRST_CODE = 0x2C ∧ State.reset.dev.isOn Reg.PRT_FIRST_VALID = true ∧
  State.reset.dev.pair Reg.PRT_FSTAMP_LO Reg.PRT_FSTAMP_HI = 0 ∧ State.reset.dev.pins.tripOut = [true, true] ∧
  State.reset.dev.host.queues = [] ∧ State.reset.dev.host.waits = [] ∧ State.reset.dev.log = [] ∧
  (∀ o, State.reset.dev.reg o = resetWord o) ∧ State.reset.dev.memWf

/-- What settling does: a quiet state settles by its derived registers and pins alone, and no state loses a flag. (00_scope.md R8,
11_protection_and_safety.md R286, 11_protection_and_safety.md R288, 11_protection_and_safety.md R289, 11_protection_and_safety.md R292,
11_protection_and_safety.md R304, 17_power_and_vault.md R429) -/
def Obligations.QuietSettleFrame : Prop :=
  ∀ d : Dev, (d.quiet → d.settle = { d with regs := d.settle.regs, pins := d.settle.pins } ∧ RegsBut d d.settle settleRegs) ∧
  (d.krk.inbox = [] → FlagsKept d d.settle ∧ (d.settle.st = d.st ∨ (d.settle.st = stTRIPPED ∧ d.settle.anyLatch = true)))

/-- RESET_N, a main supply failure and the release. The two clauses in which nothing happens rest on log entry 38 (DESIGN CHOICE), the
keeper’s crystal periods on log entry 28, and LKPVALID on log entry 67 (DEDUCED). Completion is concluded of: resetNAssert, mainSupplyFail,
resetNRelease. (14_states_and_startup.md R377, 14_states_and_startup.md R382, 17_power_and_vault.md R423, 17_power_and_vault.md R425,
17_power_and_vault.md R431, 18_package_and_electrical.md R448) -/
def Obligations.ResetAndSupplyCommands : Prop :=
  ∀ s : State,
  (s.live → ∃ d, Answers .resetNAssert s d ∧ d.inReset = true ∧ d.time = 0 ∧ d.log = [] ∧ d.host.waits = [] ∧ d.hostMem = s.dev.hostMem ∧
    d.fram.mem = s.dev.fram.mem ∧ (∀ o, isVault o = true → o ≠ Reg.VLT_STAT → d.reg o = s.dev.reg o) ∧
    d.isOn Reg.VLT_STAT_LKPVALID = (s.dev.isOn Reg.VLT_STAT_LKPVALID && !s.dev.mtr.running) ∧
    (∀ o, isVault o = false → o ≠ Reg.IMG_STAT → d.reg o = resetWord o) ∧ d.get Reg.IMG_STAT_EPOCH = s.dev.img.fuses % 64) ∧
  (∀ periods, ∃ d, Answers (.mainSupplyFail periods) s d ∧ d.inReset = true ∧ d.time = 0 ∧ d.log = [] ∧ d.host.waits = [] ∧
    d.isOn Reg.VLT_STAT_MAINOK = false ∧ d.isOn Reg.VLT_STAT_LKPVALID = s.dev.isOn Reg.VLT_STAT_LKPVALID ∧
    d.vlt.keeper = (s.start.keeperOff periods).keeperCount.vlt.keeper ∧
    (∃ r ∈ d.fram.reqs, r.kind = 0 ∧ r.bursts = twoCopies 0x340 d.powerFailRecord) ∧
    (∀ o, isVault o = true → o ≠ Reg.VLT_STAT → d.reg o = s.dev.reg o) ∧
    (∀ o, isVault o = false → o ≠ Reg.IMG_STAT → d.reg o = resetWord o)) ∧
  (∀ straps periods, s.dev.inReset = true → ∃ d, Answers (.resetNRelease straps periods true) s d ∧ d.inReset = false ∧ d.straps = straps % 8 ∧
    d.isOn Reg.HIF_STAT_SPIMODE = (straps % 2 == 1) ∧ d.st = s.dev.st ∧ d.prt.evaluated = s.dev.prt.evaluated ∧ d.vlt.keeper = s.dev.vlt.keeper + periods * 390625 ∧
    RegsBut s.dev d [Reg.HIF_STAT]) ∧
  (∀ straps periods, s.dev.inReset = true → Answers (.resetNRelease straps periods false) s s.start) ∧
  (s.dev.inReset = true → Answers .resetNAssert s s.start) ∧
  (∀ straps periods rails, s.live → Answers (.resetNRelease straps periods rails) s s.start)

/-- A debug halt, its end, and EXTEST. That a halt in a halt acts as the first does is deduced from R200 and R247 (log entry 36). Completion
is concluded of: debugHalt, debugHaltEnd, jtagExtest. (07_espalier_edge_modulator.md R200, 09_thicket_cell_rings.md R247,
11_protection_and_safety.md R286, 14_states_and_startup.md R369, 15_squall_snapshot.md R391, 16_firmware_handover.md R410,
18_package_and_electrical.md R462) -/
def Obligations.HaltAndTapCommands : Prop :=
  ∀ s : State, s.live →
  (∀ stop, ∃ d, Answers (.debugHalt stop) s d ∧ d.prt.halted = true ∧ d.isOn Reg.MOD_FLAG_HALT_F = true ∧ d.isOn (latF 0x24) = true ∧
    (∀ r, r < 16 → s.dev.isOn (Reg.THK_RINGr_CFG_EN r) = true →
      OutMsg.thk (2 * r) (haltBlock stop) [] ∈ d.out ∧ OutMsg.thk (2 * r + 1) (haltBlock stop) [] ∈ d.out) ∧
    (∀ img k, s.dev.snp.tick = some img → s.dev.frozenHere = none → s.dev.freeBuf = some k →
      d.frozen k = true ∧ ∃ sn, d.snapBuf k = some sn ∧ sn.img = img ∧ sn.mask / 2 ^ 6 % 2 = 1) ∧
    (s.dev.isOn (latF 0x24) = false → s.dev.stIn tripHeldStates = false → d.st = stTRIPPED) ∧
    ((s.dev.isOn (latF 0x24) = true ∨ s.dev.stIn tripHeldStates = true) → d.st = s.dev.st)) ∧
  (∃ d, Answers .debugHaltEnd s d ∧ d.prt.halted = false ∧ d.regs = s.dev.regs) ∧
  (∀ on cells, ∃ d, Answers (.jtagExtest on cells) s d ∧ d.regs = s.dev.regs ∧ d.pins.extest = if on then some cells else none)

/-- The boot ROM tries slots, and device firmware starts. The clauses in which nothing happens rest on log entry 38 (DESIGN CHOICE).
Completion is concluded of: bootImageCheck, bootQspiTimeout, firmwareStart. (12_nimbus_metering.md R316, 12_nimbus_metering.md R337,
12_nimbus_metering.md R338, 14_states_and_startup.md R378, 14_states_and_startup.md R379, 14_states_and_startup.md R380,
16_firmware_handover.md R415, 17_power_and_vault.md R433) -/
def Obligations.BootCommands : Prop :=
  ∀ s : State, s.live →
  (∀ x ∈ [(Instr.bootImageCheck, false), (.bootQspiTimeout, true)],
    (s.dev.bootLooks = false → Answers x.1 s s.start) ∧
    (s.dev.bootLooks = true → s.start.readHeads.nextSlotTry = none → ∃ d, Answers x.1 s d ∧ d.isOn Reg.IMG_BOOT_RECOV = true ∧
      d.isOn Reg.HIF_STAT_CMDRDY = true ∧ d.st = stBOOT) ∧
    (∀ k o, s.dev.bootLooks = true → s.start.readHeads.nextSlotTry = some k → o = (if x.2 then 6 else s.start.slotOutcome k) →
      ∃ d, Answers x.1 s d ∧ d.get (outF k) = o ∧ d.st = stBOOT ∧
        ((o = 4 ∨ o = 5) → d.isOn Reg.IMG_FLAG_AUTH_F = true) ∧
        (o = 1 → d.get Reg.IMG_BOOT_STARTED = k + 1 ∧ d.img.run = s.start.slotHead k ∧ d.isOn Reg.IMG_BOOT_RECOV = false) ∧
        (o ≠ 1 → d.get Reg.IMG_BOOT_STARTED = 0) ∧
        (o ≠ 1 → (s.start.readHeads.slotTried k o).nextSlotTry = none →
          d.isOn Reg.IMG_BOOT_RECOV = true ∧ d.isOn Reg.HIF_STAT_CMDRDY = true))) ∧
  (s.dev.st = stBOOT → s.dev.get Reg.IMG_BOOT_STARTED ≠ 0 → s.dev.isOn Reg.HIF_STAT_CMDRDY = false → ∀ best,
    best = pickSave (s.start.bootCfg.slotRead 0) (s.start.bootCfg.slotRead 1) → ∃ d, Answers .firmwareStart s d ∧
    d.st = stCONFIG ∧ d.isOn Reg.HIF_STAT_CMDRDY = true ∧ d.reg Reg.HIF_FWVER = wordAt s.dev.img.run 8 ∧
    d.get Reg.IMG_KPROTO_RUNKP = ihKproto s.dev.img.run ∧ d.get Reg.MTR_STAT_RESTST = best.1 ∧ s.dev.framSeqMax < d.fram.logSeq ∧
    (∀ c, s.dev.framCopy 0x40 128 = some c → d.mtr.cfg = c ∧ d.isOn Reg.MTR_STAT_CFGVALID = true ∧ d.reg Reg.MTR_CFGCRC = BitVec.ofNat 32 (mcCRC c)) ∧
    (best.2 = none → d.mtr.acc = List.replicate 18 0 ∧ d.isOn Reg.MTR_FLAG_RESTERR_F = true) ∧
    (∀ x, best.2 = some x → d.mtr.acc = x.2.2 ∧ d.mtr.last = x.2.1 ∧ d.reg Reg.MTR_SAVESEQ = BitVec.ofNat 32 x.1 ∧
      (∀ pf, s.dev.framCopy 0x340 64 = some pf → (byteAt pf 24 % 2 = 0 ∨ x.2.1 < leAt pf 0 8) →
        d.mtr.unsaved = unsavedRecord x.2.1 pf ∧ d.isOn Reg.MTR_FLAG_UNSAVED_F = true))) ∧
  (s.dev.st ≠ stBOOT → Answers .firmwareStart s s.start)

/-- Band search, lock, lock timeout, losses, the return of the reference, and offset measurements. That the first core clock passes before a
search ends is log entry 2, the counts of LOCKRUN are log entry 58, the keeper’s count is log entry 28, and the clauses in which nothing
happens, a link that is down among them, are log entry 38 (DESIGN CHOICE each). That half the difference rounds down is log entry 34
(DEDUCED). Completion is concluded of: bandSearchComplete, pllLock, lockTimeout, referenceReturn, lossOfLock, referenceLoss,
offsetMeasurement. (02_time_and_frame.md R37, 02_time_and_frame.md R38, 02_time_and_frame.md R41, 02_time_and_frame.md R42,
02_time_and_frame.md R43, 02_time_and_frame.md R44, 02_time_and_frame.md R45, 02_time_and_frame.md R47, 02_time_and_frame.md R48,
02_time_and_frame.md R49, 10_krekai_station_fabric.md R275) -/
def Obligations.PllSearchLockAndLoss : Prop :=
  (∀ s : State, s.live →
  (∀ band, s.dev.pllst = pBAND → ∃ d, Answers (.bandSearchComplete band) s d ∧ d.get Reg.CLK_STAT_BAND = band % 64 ∧
    d.clk.lockRun = 0 ∧ d.pllst = pACQ ∧ d = { s.start with regs := d.regs, clk := d.clk } ∧ RegsBut s.dev d [Reg.CLK_STAT]) ∧
  (∀ band, s.dev.pllst = pIDLE → ∃ d, Answers (.bandSearchComplete band) s d ∧ d.get Reg.CLK_STAT_BAND = band % 64 ∧
    d.clk.lockRun = 0 ∧ d.pllst = pACQ ∧ d.clocks = s.dev.clocks + 1 ∧ RegsBut s.dev d clockRegs) ∧
  (∀ band, s.dev.pllst ≠ pBAND → s.dev.pllst ≠ pIDLE → Answers (.bandSearchComplete band) s s.start) ∧
  (∀ e, s.dev.pllst = pACQ → ∃ d, Answers (.pllLock e) s d ∧ d.pllst = pLOCK ∧ d.clk.lockRun = 256 ∧
    d.isOn Reg.CLK_STAT_SRC = false ∧ d.isOn Reg.CLK_STAT_FREERUN = false ∧ d.unsync = s.dev.unsync ∧
    d.clk.phErr = max (-32767) (min 32767 e) ∧ d.clk.locked1 = true ∧ d.prt.clkLoss = false ∧
    (s.dev.clk.locked1 = true → d.time = s.dev.time ∧ RegsBut s.dev d [Reg.CLK_STAT]) ∧
    (s.dev.clk.locked1 = false → d.time = if s.dev.isOn Reg.VLT_STAT_TKVALID then s.start.keeperCount.keeperTU else 0) ∧
    (s.dev.clk.locked1 = false → (s.dev.straps / 4 % 2 ≠ 1 ∨ s.dev.st ≠ stBOOT) → RegsBut s.dev d [Reg.CLK_STAT]) ∧
    (s.dev.clk.locked1 = false → s.dev.straps / 4 % 2 = 1 → s.dev.st = stBOOT →
      d.isOn Reg.IMG_BOOT_RECOV = true ∧ d.isOn Reg.HIF_STAT_CMDRDY = true)) ∧
  (∀ e, s.dev.pllst ≠ pACQ → Answers (.pllLock e) s s.start) ∧
  (∀ e run, s.dev.pllst = pACQ → ∃ d, Answers (.lockTimeout e run) s d ∧ d.pllst = pBAND ∧ d.isOn Reg.CLK_FLAG_LKFAIL_F = true ∧
    Counted s.dev d Reg.CLK_CNT_LKFAIL_CNT ∧ d.clk.lockRun = min 255 run ∧ d.clk.phErr = max (-32767) (min 32767 e) ∧
    d = { s.start with regs := d.regs, evt := d.evt, clk := d.clk } ∧ RegsBut s.dev d [Reg.CLK_STAT, Reg.CLK_FLAG, Reg.CLK_CNT]) ∧
  (∀ e run, s.dev.pllst ≠ pACQ → Answers (.lockTimeout e run) s s.start) ∧
  (s.dev.pllst = pLOST → ∃ d, Answers .referenceReturn s d ∧ d.pllst = pBAND ∧ SameBut s.start d [Reg.CLK_STAT]) ∧
  (s.dev.pllst ≠ pLOST → Answers .referenceReturn s s.start) ∧
  (∀ e,
  (∀ x ∈ [(Instr.lossOfLock e, Reg.CLK_FLAG_LOL_F), (.referenceLoss, Reg.CLK_FLAG_REFLOSS_F)],
    s.dev.pllst = pLOCK → ∃ d, Answers x.1 s d ∧ d.pllst = pLOST ∧ d.isOn Reg.CLK_STAT_SRC = true ∧ d.freerun = true ∧ d.unsync = true ∧
      d.isOn Reg.CLK_FLAG_BYP_F = true ∧ d.isOn x.2 = true ∧ Counted s.dev d Reg.CLK_CNT_LOL_CNT ∧ d.clk.inRun = 0 ∧
      (s.dev.get Reg.CLK_CFG_LOSSACT = 1 → s.dev.stIn [stSYNC, stRUN, stRIDETHROUGH] = true → d.clk.holdDue = true) ∧
      (2 ≤ s.dev.get Reg.CLK_CFG_LOSSACT → s.dev.stIn [stSYNC, stRUN, stRIDETHROUGH] = true → s.dev.effective 0x21 = true →
        d.isOn (latF 0x21) = true) ∧
      ((s.dev.get Reg.CLK_CFG_LOSSACT ≤ 1 ∨ s.dev.stIn [stSYNC, stRUN, stRIDETHROUGH] = false) →
        RegsBut s.dev d [Reg.CLK_STAT, Reg.CLK_FLAG, Reg.CLK_CNT])) ∧
  (s.dev.pllst ≠ pLOCK → Answers (.lossOfLock e) s s.start) ∧
  ((s.dev.pllst = pBAND ∨ s.dev.pllst = pACQ) → ∃ d, Answers .referenceLoss s d ∧ d.pllst = pLOST ∧
    d.isOn Reg.CLK_FLAG_REFLOSS_F = true ∧ SameBut s.start d [Reg.CLK_STAT, Reg.CLK_FLAG]) ∧
  (s.dev.pllst ≠ pLOCK → s.dev.pllst ≠ pBAND → s.dev.pllst ≠ pACQ → Answers .referenceLoss s s.start))) ∧
  (∀ (s : State) (port : Nat) (out back : Int), s.live →
  ((4 ≤ port ∨ s.dev.linkUp port = false) → Answers (.offsetMeasurement port out back) s s.start) ∧
  (port < 4 → s.dev.linkUp port = true → (s.dev.mst ≠ mMEMBER ∨ s.dev.isOn Reg.KRK_STAT_TSRC = true ∨ s.dev.get Reg.KRK_STAT_PARPORT ≠ port) →
    ∃ d, Answers (.offsetMeasurement port out back) s d ∧ d.get (Reg.KRK_PORTp_STAT_RDLY port) = toBits 16 (out + back) ∧
      SameBut s.start d [Reg.KRK_PORTp_STAT port]) ∧
  (port < 4 → s.dev.linkUp port = true → s.dev.mst = mMEMBER → s.dev.isOn Reg.KRK_STAT_TSRC = false → s.dev.get Reg.KRK_STAT_PARPORT = port →
    ∃ d, Answers (.offsetMeasurement port out back) s d ∧ d.get (Reg.KRK_PORTp_STAT_RDLY port) = toBits 16 (out + back) ∧
      d.get Reg.CLK_OFFSET_OFFSET = toBits 32 (max (-(2 ^ 31)) (min (2 ^ 31 - 1) ((back - out) / 2))) ∧
      RegsBut s.dev d [Reg.KRK_PORTp_STAT port, Reg.CLK_OFFSET, Reg.CLK_STAT] ∧ d.time = s.dev.time ∧
      (s.dev.stIn stepStates = true → s.dev.slewMax < ((back - out) / 2).natAbs → d.clk.step = some ((back - out) / 2) ∧ d.clk.slew = 0) ∧
      ((s.dev.stIn stepStates = false ∨ ((back - out) / 2).natAbs ≤ s.dev.slewMax) → d.clk.step = none ∧ d.clk.slew = (back - out) / 2) ∧
      d.clk.inRun = (if ((back - out) / 2).natAbs ≤ 16 then min 8 (s.dev.clk.inRun + 1) else 0) ∧
      (s.dev.unsync = true → d.unsync = (d.clk.inRun != 8)) ∧
      (s.dev.unsync = false → d.unsync = decide (32 < ((back - out) / 2).natAbs))))

/-- The tick begins frame N. The devices b to f are those between the parts of the tick. That the core clocks up to the tick pass at this
command is log entry 2, the spread of slewed clocks 34, the discarding of results of cause 3 and of the frame after it 24, what counts as a
grid record that can be applied 26, and nothing before the first lock 38. Completion is concluded of: frameTick. (02_time_and_frame.md R43,
02_time_and_frame.md R47, 02_time_and_frame.md R52, 02_time_and_frame.md R61, 02_time_and_frame.md R62, 08_grid_behaviour.md R207,
08_grid_behaviour.md R219, 09_thicket_cell_rings.md R240, 10_krekai_station_fabric.md R270, 14_states_and_startup.md R369,
15_squall_snapshot.md R386, 17_power_and_vault.md R421) -/
def Obligations.FrameTickBegins : Prop :=
  ∀ (s : State) (done : Bool), s.live →
  (s.dev.clk.locked1 = false → Answers (.frameTick done) s s.start) ∧
  (s.dev.clk.locked1 = true → ∀ b a q c e g p f : Dev, b = s.start.tickBegin done → a = b.tickSample → 
    q = forEach ((stChips a.krk.table).filter (fun x => x != a.ownIndex && a.gridTick.krkTrip.reach x)) (fun x t => t.judge x) a.gridTick.krkTrip →
    c = a.gridTick.krkTrip.krkTick → e = c.holdNow.pllTick.angTick → g = e.gridRide → p = g.slotTick →
    f = g.tickBlocks.vaultMirror.imageLatch → ∃ d, Answers (.frameTick done) s d ∧
    d.frm.tickNo = b.frm.tickNo ∧ d.reg Reg.FRM_NUM = BitVec.ofNat 32 (b.frm.tickNo - 1) ∧ d.get Reg.FRM_STAT_PHASE = 0 ∧ d.frm.ticked = true ∧
    (∃ img, d.snp.tick = some img ∧ img.frame = (b.frm.tickNo - 1) % 2 ^ 32 ∧ img.stamp = (b.frm.tickNo - 1) * s.dev.frameTU) ∧
    (s.dev.clk.step = none → b.frm.tickNo = s.dev.frm.tickNo + 1 ∧ b.time = (s.start.advanceTo (s.dev.frm.tickNo * s.dev.frameTU)).time) ∧
    (∀ off, s.dev.clk.step = some off → s.dev.stIn stepStates = true →
      b.time = (((s.start.advanceTo (s.dev.frm.tickNo * s.dev.frameTU)).time : Int) - off).toNat ∧ b.frm.tickNo = b.time / s.dev.frameTU + 1 ∧
      d.clk.step = none ∧ d.isOn Reg.CLK_FLAG_TSTEP_F = true) ∧
    (∀ off, s.dev.clk.step = some off → s.dev.stIn stepStates = false → (done = true ∨ s.dev.frm.ticked = false) →
      b.frm.tickNo = s.dev.frm.tickNo + 1 ∧ b.clk.slew = off ∧ d.clk.step = none) ∧
    (done = false → s.dev.frm.ticked = true → d.isOn Reg.FRM_FLAG_OVR_F = true ∧ d.isOn (latF 0x20) = true ∧
      (s.dev.get Reg.FRM_OVR_CAUSE = 0 → b.get Reg.FRM_OVR_CAUSE = 3 ∧ b.get Reg.FRM_OVR_FRAME = s.dev.frame % 2 ^ 28) ∧
      (s.dev.get Reg.FRM_OVR_CAUSE ≠ 0 → b.reg Reg.FRM_OVR = s.dev.reg Reg.FRM_OVR)) ∧
    b.frm.discard = (s.dev.frm.overrun || (!done && s.dev.frm.ticked)) ∧
    ((a.lawImg 0x10).isSome = true → a.stIn [stPOWEROFF, stBOOT, stCONFIG] = false →
      ∀ r, a.grid.inbox.filter (fun x => x.1 == (a.curN + 2 ^ 15 - gfGDLY a.grid.profile) % 2 ^ 15) = [(recFrame r, r)] →
      (recIssuer r || !a.grid.shadowSeen) = true → (r.getD 10 0).toNat = a.grid.crc → c.grid.applied = some r ∧ c.grid.extrap = false ∧
        (recTripReq r = true → a.grid.own.contains r = false → a.loopLatched = false → recCause r ≠ 14 → a.effective 0x28 = true →
          d.isOn (latF 0x28) = true ∧ d.grid.lastCause = recCause r)) ∧
    (a.gridTick.krkTrip.krk.joined = true →
      (q.governs = true → d.mst = mMEMBER ∧ (q.st = stORPHAN → c.st = stBLOCKED)) ∧
      (q.governs = false → q.stIn joiningStates = true → d.mst = mJOINING) ∧
      (q.governs = false → q.stIn joiningStates = false → d.mst = mORPHAN ∧ c.st = stORPHAN)) ∧
    (a.gridTick.krkTrip.krk.joined = false → c = a.gridTick.krkTrip) ∧
    (s.dev.clk.holdDue = true → c.stIn [stSYNC, stRUN, stRIDETHROUGH] = true → e.st = stHOLD) ∧
    ((s.dev.clk.holdDue = false ∨ c.stIn [stSYNC, stRUN, stRIDETHROUGH] = false) → e.st = c.st) ∧ d.clk.holdDue = false ∧
    (∀ r, (e.lawImg 0x10).isSome = true → e.grid.applied = some r → e.grid.extrap = false →
      (e.st = stRUN → g.st = if recRts r = 0 then stRUN else stRIDETHROUGH) ∧
      (e.st = stRIDETHROUGH → g.st = if recRts r = 0 then stRUN else stRIDETHROUGH)) ∧
    (d.st = g.st ∨ d.st = stTRIPPED) ∧
    (d.pwr.fixed = p.fixedAt p.tj ∧ d.pwr.limit = p.powerLimit ∧ d.pwr.overLim = decide (p.powerLimit < p.fixedAt p.tj) ∧
      d.pwr.deferred = (if p.powerLimit < p.fixedAt p.tj then deferMask p.powerReqs else deferMask (grantRun p.powerLimit (p.fixedAt p.tj) p.powerReqs).2) ∧
      (d.pwr.deferred ≠ 0 → d.isOn Reg.PWR_FLAG_DEFER_F = true) ∧ (d.pwr.overLim = true → d.isOn Reg.PWR_FLAG_OVERLIM_F = true)) ∧
    (∀ r i, r < 16 → i < 2 → s.dev.ringEn r = true → (f.user (2 * r + i)).resFull < 64 →
      ∃ lofs, lofs < 170 ∧ OutMsg.thk (2 * r + i) (f.fsBlock r i lofs f.tickStamp).1 (f.fsBlock r i lofs f.tickStamp).2 ∈ d.out) ∧
    (∀ r i, r < 16 → i < 2 → s.dev.ringEn r = true → f.isOn Reg.PRT_STAT_OUT = true →
      OutMsg.thk (2 * r + i) (d.tripBlock (d.get Reg.PRT_FIRST_CODE)) [] ∈ d.out) ∧
    ((∀ r, r < 16 → s.dev.ringEn r = false) → d.get Reg.FRM_STAT_CLK_IN = 0 ∧ d.time = b.time ∧ d.frm.overrun = false ∧
      d.frm.late = false ∧ d.clk.slewUsed = 0 ∧ d.vlt.mirror = vaultRegs d.regs))

/-- The compute and dispatch phases. That the core clocks up to a boundary pass at this command is log entry 2, that no context runs after
an overrun 24, and nothing before the first tick 38 (DESIGN CHOICE each). Completion is concluded of: computePhaseStart, dispatchPhaseStart.
(02_time_and_frame.md R46, 02_time_and_frame.md R53, 02_time_and_frame.md R56, 02_time_and_frame.md R61, 02_time_and_frame.md R62,
02_time_and_frame.md R64) -/
def Obligations.FramePhasesBegin : Prop :=
  ∀ s : State, s.live →
  (∀ done ctl runs, s.dev.frm.ticked = false → Answers (.computePhaseStart done ctl runs) s s.start) ∧
  (∀ done ctl runs, s.dev.frm.ticked = true → ∃ d, Answers (.computePhaseStart done ctl runs) s d ∧ d.get Reg.FRM_STAT_PHASE = 1 ∧
    d.get Reg.FRM_STAT_CLK_IN = s.dev.get Reg.FRM_PHASE_SW_END ∧ d.clocks = s.dev.clocks + (s.dev.get Reg.FRM_PHASE_SW_END - s.dev.sinceTick) ∧
    (s.dev.clk.locked1 = true → s.dev.clk.slew = 0 → d.time = s.dev.time + 16 * (d.clocks - s.dev.clocks)) ∧
    (done = false → d.isOn Reg.FRM_FLAG_OVR_F = true ∧ d.frm.overrun = true ∧ d.isOn (latF 0x20) = true ∧
      (s.dev.get Reg.FRM_OVR_CAUSE = 0 → d.get Reg.FRM_OVR_CAUSE = 1 ∧ d.get Reg.FRM_OVR_FRAME = s.dev.frame % 2 ^ 28) ∧
      (s.dev.get Reg.FRM_OVR_CAUSE ≠ 0 → d.reg Reg.FRM_OVR = s.dev.reg Reg.FRM_OVR)) ∧
    ((done = false ∨ s.dev.frm.overrun = true) → d.ce.ctxs = s.dev.ce.ctxs) ∧
    (done = true → s.dev.frm.overrun = false →
      d.frm.late = (s.dev.frm.late || (ctl != 0 && decide (s.dev.get Reg.FRM_PHASE_CMP_END < s.dev.get Reg.FRM_PHASE_SW_END + ctl))) ∧
      (s.dev.stIn [stPOWEROFF, stBOOT, stCONFIG] = false → ctl ≠ 0 → d.get Reg.FRM_PEAK_PEAK =
        max (s.dev.get Reg.FRM_PEAK_PEAK) (min 0xFFFF (s.dev.get Reg.FRM_PHASE_SW_END + ctl))))) ∧
  (s.dev.frm.ticked = false → Answers .dispatchPhaseStart s s.start) ∧
  (s.dev.frm.ticked = true → ∃ d, Answers .dispatchPhaseStart s d ∧ d.get Reg.FRM_STAT_PHASE = 2 ∧
    s.dev.clocks + (s.dev.get Reg.FRM_PHASE_CMP_END - s.dev.sinceTick) ≤ d.clocks ∧
    (s.dev.frm.late = true → d.isOn Reg.FRM_FLAG_OVR_F = true ∧ d.frm.overrun = true ∧ d.isOn (latF 0x20) = true ∧
      (s.dev.get Reg.FRM_OVR_CAUSE = 0 → d.get Reg.FRM_OVR_CAUSE = 2 ∧ d.get Reg.FRM_OVR_FRAME = s.dev.frame % 2 ^ 28) ∧
      (s.dev.get Reg.FRM_OVR_CAUSE ≠ 0 → d.reg Reg.FRM_OVR = s.dev.reg Reg.FRM_OVR)))

/-- What the compute and dispatch phases do: contexts, cells, shedding and edge records. The device m is the one after the contexts have
run. What of a result past its limits the table and an injection add to is log entry 18, the costs of telemetry aggregation and what a class
that is never reached counts as log entry 24, the points of the sweep that are open log entry 19. Completion is concluded of:
computePhaseStart, dispatchPhaseStart. (02_time_and_frame.md R59, 02_time_and_frame.md R60, 05_cirrus_control_engine.md R110,
05_cirrus_control_engine.md R115, 05_cirrus_control_engine.md R121, 06_cells_and_mppt.md R145, 06_cells_and_mppt.md R164,
07_espalier_edge_modulator.md R170, 07_espalier_edge_modulator.md R181, 07_espalier_edge_modulator.md R182) -/
def Obligations.FrameWork : Prop :=
  ∀ s : State, s.live → s.dev.frm.ticked = true →
  (∀ ctl runs fin m, s.dev.frm.overrun = false → fin = s.dev.get Reg.FRM_PHASE_SW_END + ctl →
    m = ((((s.start.advanceIn (s.dev.get Reg.FRM_PHASE_SW_END)).set Reg.FRM_STAT_PHASE 1).set Reg.FRM_STAT_CLK_IN
      (s.dev.get Reg.FRM_PHASE_SW_END)).runContexts).peakNote ctl fin → ∃ d, Answers (.computePhaseStart true ctl runs) s d ∧
    (s.dev.stIn [stPOWEROFF, stBOOT, stCONFIG] = true → d.ce.ctxs = s.dev.ce.ctxs) ∧
    (∀ c, s.dev.ctxDue (s.dev.ctx c).img = false → d.ctx c = { s.dev.ctx c with spInner := (d.ctx c).spInner }) ∧
    (∀ c b, s.dev.stIn [stPOWEROFF, stBOOT, stCONFIG] = false → b = (s.dev.ctx c).img → s.dev.ctxDue b = true → 1 ≤ imgLaw b → imgLaw b ≤ 5 →
      fLt (imgOMax b) (imgOMin b) = false → ∀ k, k < imgNout b → (d.ctx c).outs.getD k 0 = (d.ctx c).outs.getD 0 0 ∧
        fLt ((d.ctx c).outs.getD k 0) (imgOMin b) = false ∧ fLt (imgOMax b) ((d.ctx c).outs.getD k 0) = false) ∧
    (∀ c x b, s.dev.ce.ctxs = [(c, x)] → b = x.img → s.dev.stIn [stPOWEROFF, stBOOT, stCONFIG] = false → s.dev.ctxDue b = true →
      (imgLaw b = 1 ∨ imgLaw b = 2) → fLt (imgIMax b) (imgIMin b) = false →
      (d.ctx c).i = x.i ∨ (fLt (d.ctx c).i (imgIMin b) = false ∧ fLt (imgIMax b) (d.ctx c).i = false)) ∧
    (∀ c x b y k, s.dev.ce.ctxs = [(c, x)] → b = x.img → s.dev.stIn [stPOWEROFF, stBOOT, stCONFIG] = false → s.dev.ctxDue b = true →
      imgLaw b = 7 → s.dev.cells.first = false → s.dev.cells.iv.running = false → (s.dev.cells.recs.map (·.pos)).Nodup → y ∈ s.dev.sweepCells →
      y.c.state ≠ 0 → y.c.state ≠ 5 → k = failCause b y.t (s.dev.cells.hostByp.contains y.r.pos) → k ≠ 0 →
      (d.cell y.r.pos).state = 5 ∧ (d.cell y.r.pos).cause = k ∧ (d.cell y.r.pos).alpha = fZero ∧ (d.cell y.r.pos).rc = fZero) ∧
    ((ctl = 0 ∨ fin ≤ s.dev.get Reg.FRM_PHASE_CMP_END) → m.shedCost 2 ≠ 0 → m.pwr.deferred / 4 % 2 = 0 →
      ((m.frm.handover = true ∨ s.dev.get Reg.FRM_PHASE_CMP_END - fin < m.shedCost 2) →
        d.isOn Reg.FRM_FLAG_SHEDT_F = true ∧ Counted s.dev d Reg.FRM_SHED1_SHED_T ∧
        (m.shedCost 1 ≠ 0 → m.pwr.deferred / 2 % 2 = 0 → d.isOn Reg.FRM_FLAG_SHEDM_F = true ∧ Counted s.dev d Reg.FRM_SHED0_SHED_M) ∧
        (m.shedCost 0 ≠ 0 → m.pwr.deferred % 2 = 0 → d.isOn Reg.FRM_FLAG_SHEDH_F = true ∧ Counted s.dev d Reg.FRM_SHED0_SHED_H)) ∧
      (m.frm.handover = false → m.shedCost 2 ≤ s.dev.get Reg.FRM_PHASE_CMP_END - fin → fin + runs.getD 0 0 ≤ s.dev.get Reg.FRM_PHASE_CMP_END →
        d.get Reg.FRM_SHED1_SHED_T = s.dev.get Reg.FRM_SHED1_SHED_T ∧ d.isOn Reg.FRM_FLAG_SHEDT_F = s.dev.isOn Reg.FRM_FLAG_SHEDT_F))) ∧
  (∀ l, l = s.dev.sweepCells.filter (fun x => x.c.state != 0) → s.dev.frm.late = false → ∃ d, Answers .dispatchPhaseStart s d ∧
    (s.dev.stIn (modStates ++ blkStates) = false → d.esp.recs = []) ∧
    (s.dev.stIn blkStates = true → s.dev.esp.test = none →
      d.esp.recs = l.map (fun x => { pos := x.r.pos, head := recHead x.r.pos true (x.c.state == 5) 0, entries := [] }) ∧
      ((s.dev.cells.recs.map (·.pos)).Nodup → ∀ x ∈ l, d.legsOf x.r.pos =
        (s.dev.legsOf x.r.pos).blocked s.dev.cellQfull s.dev.cellTref s.dev.frameSteps)) ∧
    (s.dev.stIn modStates = true → d.esp.recs.map (·.pos) = l.map (·.r.pos) ∧
      ∀ x ∈ l, x.c.state = 5 → ({ pos := x.r.pos, head := recHead x.r.pos true true 0, entries := [] } : EdgeRec) ∈ d.esp.recs))

/-- Conversions, injected triggers and clamp senses. On which of the core clocks within 150 ns an injected conversion starts is a free value
(log entry 12, DESIGN CHOICE); when a calibration step counts as running rests on log entry 57, that core clocks pass up to the end of the
conversion on log entry 2, and the clauses that do nothing on log entry 38 (DESIGN CHOICE). Completion is concluded of: conversionEnd,
jsoftTrigger, clampSense, clampSenseRelease. (03_measurement_front_end.md R66, 03_measurement_front_end.md R75, 03_measurement_front_end.md
R76, 03_measurement_front_end.md R81, 03_measurement_front_end.md R82) -/
def Obligations.ConversionsAndClamps : Prop :=
  ∀ s : State, s.live →
  (∀ c code oor, (16 ≤ c ∨ s.dev.convRun c = none) → Answers (.conversionEnd c code oor) s s.start) ∧
  (∀ c code oor r, c < 16 → r.idx < 6 → s.dev.convRun c = some r → r.begun = true → ∃ d, Answers (.conversionEnd c code oor) s d ∧
    d.clocks = s.dev.clocks + (r.start + 200 - s.dev.clocks) ∧
    RegsBut s.dev d ([Reg.ADC_RESn (6 * (c / 2) + r.idx), Reg.ADC_JRESp (c / 2), Reg.ADC_JSTAMPp_LO (c / 2), Reg.ADC_JSTAMPp_HI (c / 2), 0x1020, 0x1024] ++ clockRegs) ∧
    (r.kind ≠ 1 → d.reg (Reg.ADC_RESn (6 * (c / 2) + r.idx)) = BitVec.ofNat 32 (b2n (oor != 0) * 2 ^ 31 + b2n r.suspect * 2 ^ 30 +
      (c % 2) * 2 ^ 29 + b2n (decide (16 ≤ r.maker)) * 2 ^ 28 + ovrCode oor code) ∧ d.reg (Reg.ADC_JRESp (c / 2)) = s.dev.reg (Reg.ADC_JRESp (c / 2))) ∧
    (r.kind = 1 → d.reg (Reg.ADC_JRESp (c / 2)) = BitVec.ofNat 32 (b2n (oor != 0) * 2 ^ 31 + b2n r.suspect * 2 ^ 30 + 2 ^ 29 + r.idx * 2 ^ 16 +
      ovrCode oor code) ∧
      (∀ h, r.hold = some h → d.pair (Reg.ADC_JSTAMPp_LO (c / 2)) (Reg.ADC_JSTAMPp_HI (c / 2)) = h % 2 ^ 64)) ∧
    ((oor ≠ 0 ∨ r.clamped = true) → d.isOn ⟨if 6 * (c / 2) + r.idx < 32 then 0x1020 else 0x1024, (6 * (c / 2) + r.idx) % 32, (6 * (c / 2) + r.idx) % 32⟩ = true)) ∧
  (∀ c code oor r, c < 16 → s.dev.convRun c = some r → r.begun = false → r.kind = 1 → s.dev.clocks < r.start + 200 →
    ∃ d, Answers (.conversionEnd c code oor) s d ∧ d.isOn (Reg.ADC_JRESp_DONE (c / 2)) = true ∧ d.clocks = r.start + 200) ∧
  (∀ p, p < 8 → s.dev.get (Reg.ADC_PAIRp_CFG_JTRIG p) = 1 → ∃ d, Answers (.jsoftTrigger (2 ^ p)) s d ∧
    RegsBut s.dev d [Reg.ADC_JRESp p, Reg.ADC_FLAG, Reg.ADC_JLOST] ∧
    ((s.dev.isOn Reg.ADC_CTL_EN = false ∨ s.dev.injRunning p = true ∨ s.dev.calPair p = true ∨ s.dev.pairMode p = 1 ∨ (s.dev.pair_ p).started = false) →
      d.isOn Reg.ADC_FLAG_JLOST_F = true ∧ Counted s.dev d Reg.ADC_JLOST_JLOST_CNT) ∧
    (s.dev.isOn Reg.ADC_CTL_EN = true → s.dev.injRunning p = false → s.dev.calPair p = false → s.dev.pairMode p ≠ 1 → (s.dev.pair_ p).started = true →
      d.isOn (Reg.ADC_JRESp_DONE p) = false ∧ ∃ c r, c / 2 = p ∧ d.convRun c = some r ∧ r.kind = 1 ∧
        r.idx = idx5 (s.dev.get (Reg.ADC_PAIRp_CFG_JCH p)) ∧ s.dev.clocks ≤ r.start ∧ r.start ≤ s.dev.clocks + 30)) ∧
  (∀ n, n < 48 → ∃ d, Answers (.clampSense n) s d ∧ d.regs = s.dev.regs ∧ (d.pair_ (n / 6)).clamp = (s.dev.pair_ (n / 6)).clamp ||| 2 ^ (n % 6)) ∧
  (∀ n, n < 48 → (s.dev.pair_ (n / 6)).clamp / 2 ^ (n % 6) % 2 = 1 → ∃ d, Answers (.clampSenseRelease n) s d ∧ d.regs = s.dev.regs ∧
    (d.pair_ (n / 6)).clamp = (s.dev.pair_ (n / 6)).clamp - 2 ^ (n % 6) ∧ (d.pair_ (n / 6)).clampEnd = some s.dev.clocks) ∧
  (∀ n, 48 ≤ n → Answers (.clampSense n) s s.start ∧ Answers (.clampSenseRelease n) s s.start)

/-- A background calibration step applies trims within limits and refuses the others. That the limits hold the exact g and o, not their
rounded formats, is log entry 44 (DESIGN CHOICE); the boundary of an idle converter and the clause of BGEN clear rest on log entries 57 and
38 (DESIGN CHOICE). Completion is concluded of: bgcalStepComplete. (03_measurement_front_end.md R77, 03_measurement_front_end.md R78) -/
def Obligations.BackgroundCalibration : Prop :=
  (∀ z f, newTrim z f = none ↔ ¬ (z < f ∧ 95 * (f - z) ≤ 100 * (3840 * 256) ∧ 100 * (3840 * 256) ≤ 105 * (f - z) ∧ z ≤ 64 * 256)) ∧
  ∀ s : State, s.live → ∀ x ∈ [(0, Reg.ADC_BGSTAT_S0ACT, Reg.ADC_BGSTAT_S0POS), (1, Reg.ADC_BGSTAT_S1ACT, Reg.ADC_BGSTAT_S1POS)], ∀ phase z f c,
    c = 8 * x.1 + s.dev.get x.2.2 →
    (s.dev.isOn Reg.ADC_CTL_BGEN = false → Answers (.bgcalStepComplete x.1 phase z f) s s.start) ∧
    (s.dev.isOn Reg.ADC_CTL_BGEN = true → phase = 0 → ∃ d, Answers (.bgcalStepComplete x.1 phase z f) s d ∧
      d = { s.start with regs := d.regs, evt := d.evt, adc := d.adc } ∧ RegsBut s.dev d [Reg.ADC_TRIMc (16 + x.1), Reg.ADC_BGSTAT, Reg.ADC_FLAG] ∧
      (s.dev.calPair (c / 2) = false → s.dev.convRun c = none → d.isOn x.2.1 = true) ∧
      (s.dev.calPair (c / 2) = false → s.dev.convRun c ≠ none → (x.1, true) ∈ d.adc.bgSwap ∧ d.reg Reg.ADC_BGSTAT = s.dev.reg Reg.ADC_BGSTAT) ∧
      (∀ w, newTrim z f = some w → d.reg (Reg.ADC_TRIMc (16 + x.1)) = w) ∧
      (newTrim z f = none → d.reg (Reg.ADC_TRIMc (16 + x.1)) = s.dev.reg (Reg.ADC_TRIMc (16 + x.1)) ∧ d.isOn Reg.ADC_FLAG_BGFAIL_F = true)) ∧
    (s.dev.isOn Reg.ADC_CTL_BGEN = true → phase ≠ 0 → ∃ d, Answers (.bgcalStepComplete x.1 phase z f) s d ∧
      d = { s.start with regs := d.regs, evt := d.evt, adc := d.adc } ∧ RegsBut s.dev d [Reg.ADC_TRIMc c, Reg.ADC_BGSTAT, Reg.ADC_FLAG] ∧
      (s.dev.calPair (c / 2) = false → s.dev.convRun c = none → d.isOn x.2.1 = false ∧ d.get x.2.2 = (s.dev.get x.2.2 + 1) % 8) ∧
      (s.dev.calPair (c / 2) = false → s.dev.convRun c ≠ none → (x.1, false) ∈ d.adc.bgSwap ∧ d.isOn x.2.1 = s.dev.isOn x.2.1 ∧ d.get x.2.2 = s.dev.get x.2.2) ∧
      (∀ w, newTrim z f = some w → d.reg (Reg.ADC_TRIMc c) = w ∧ d.get Reg.ADC_BGSTAT_FAILCONV = s.dev.get Reg.ADC_BGSTAT_FAILCONV) ∧
      (newTrim z f = none → d.reg (Reg.ADC_TRIMc c) = s.dev.reg (Reg.ADC_TRIMc c) ∧
        d.isOn Reg.ADC_FLAG_BGFAIL_F = true ∧ d.get Reg.ADC_BGSTAT_FAILCONV = c))

/-- System calibration: the channel, the steps and the result. The order of the causes of RESULT and when a step runs rest on log entry 57
(DEDUCED), the one rounding of the offset on log entry 18 (DESIGN CHOICE), the core clocks that pass to the end of a step on log entry 2,
the clauses of a completion that finds no step on log entry 38 (DESIGN CHOICE). Of calChWrite, calZero, calFull and calCompute the
completion is in every state. Completion is concluded of: calChWrite, calZero, calFull, calCompute, calStepComplete.
(03_measurement_front_end.md R79, 03_measurement_front_end.md R80) -/
def Obligations.SystemCalibration : Prop :=
  ∀ s : State, s.live →
  (∀ ch, min 47 (ch % 64) = s.dev.get Reg.ADC_CALCTL_CH → Answers (.calChWrite ch) s s.start) ∧
  (∀ ch, min 47 (ch % 64) ≠ s.dev.get Reg.ADC_CALCTL_CH → ∃ d, Answers (.calChWrite ch) s d ∧ d.get Reg.ADC_CALCTL_CH = min 47 (ch % 64) ∧
    d.isOn Reg.ADC_CALSTAT_ZEROOK = false ∧ d.isOn Reg.ADC_CALSTAT_FULLOK = false ∧ (s.dev.adc.cal ≠ none → d.isOn Reg.ADC_CALSTAT_BUSY = false) ∧ d.adc.cal = none ∧
    d.get Reg.ADC_CALNZ_NZ_or_NF = 0 ∧ d.get Reg.ADC_CALNF_NZ_or_NF = 0 ∧
    RegsBut s.dev d [Reg.ADC_CALCTL, Reg.ADC_CALSTAT, Reg.ADC_CALNZ, Reg.ADC_CALNF, Reg.ADC_BGSTAT, 0x1020, 0x1024]) ∧
  (∀ i ∈ [Instr.calZero, .calFull, .calCompute],
    (s.dev.stIn [stCONFIG, stREADY] = false ∨ s.dev.isOn Reg.ADC_CTL_EN = false ∨ s.dev.isOn Reg.ADC_CALSTAT_BUSY = true) →
      ∃ d, Answers i s d ∧ d.isOn Reg.ADC_FLAG_CALREJ_F = true ∧ SameBut s.start d [Reg.ADC_FLAG]) ∧
  (s.dev.stIn [stCONFIG, stREADY] = true → s.dev.isOn Reg.ADC_CTL_EN = true → s.dev.isOn Reg.ADC_CALSTAT_BUSY = false →
    (∀ x ∈ [(Instr.calZero, 1), (.calFull, 2)], ∃ d r, Answers x.1 s d ∧ d.adc.cal = some r ∧ r.step = x.2 ∧ d.isOn Reg.ADC_CALSTAT_BUSY = true ∧
      RegsBut s.dev d [Reg.ADC_CALSTAT, Reg.ADC_BGSTAT]) ∧
    (∀ n nz nf ez de g v r, n = s.dev.get Reg.ADC_CALCTL_CH → nz = s.dev.adc.calNz → nf = s.dev.adc.calNf → ez = s.dev.reg Reg.ADC_CALEZ →
      de = fSub (s.dev.reg Reg.ADC_CALEF) ez → g = fDiv de (fOfInt (nf - nz) (-4)) → v = (if n < 32 then 0x1028 else 0x102C) →
      r = (if (s.dev.isOn Reg.ADC_CALSTAT_ZEROOK && s.dev.isOn Reg.ADC_CALSTAT_FULLOK) = false then 3
        else if (s.dev.adc.calOver.1 || s.dev.adc.calOver.2) = true then 1
        else if (nf - nz).natAbs < 16384 then 2 else if fIsZero de = true ∨ fFinite de = false then 4 else 0) →
      ∃ d, Answers .calCompute s d ∧ d.get Reg.ADC_CALSTAT_RESULT = r ∧ d = { s.start with regs := d.regs, evt := d.evt } ∧
      d.isOn Reg.ADC_CALSTAT_ZEROOK = s.dev.isOn Reg.ADC_CALSTAT_ZEROOK ∧ d.isOn Reg.ADC_CALSTAT_FULLOK = s.dev.isOn Reg.ADC_CALSTAT_FULLOK ∧
      (r = 0 → d.reg (Reg.ADC_GAINn n) = g ∧ d.reg (Reg.ADC_OFFn n) = fFma (fNeg g) (fOfInt nz (-4)) ez ∧ d.isOn ⟨v, n % 32, n % 32⟩ = true ∧
        RegsBut s.dev d [Reg.ADC_CALSTAT, Reg.ADC_GAINn n, Reg.ADC_OFFn n, v]) ∧
      (r ≠ 0 → d.isOn Reg.ADC_FLAG_CALFAIL_F = true ∧ RegsBut s.dev d [Reg.ADC_CALSTAT, Reg.ADC_FLAG]))) ∧
  (∀ codes b oor, s.dev.adc.cal = none → Answers (.calStepComplete codes b oor) s s.start) ∧
  (∀ codes b oor r, s.dev.adc.cal = some r → r.active = false → Answers (.calStepComplete codes b oor) s s.start) ∧
  (∀ codes b oor r q, s.dev.adc.cal = some r → r.active = true → (s.start.pass (r.start + 25700 - s.dev.clocks)).adc.cal = some q →
    ∃ d, Answers (.calStepComplete codes b oor) s d ∧ d.adc.cal = none ∧ d.isOn Reg.ADC_CALSTAT_BUSY = false ∧
    d.get Reg.ADC_CALCTL_CH = s.dev.get Reg.ADC_CALCTL_CH ∧
    (∀ f ok, (f, ok) = (if r.step = 1 then (Reg.ADC_CALNZ_NZ_or_NF, Reg.ADC_CALSTAT_ZEROOK) else (Reg.ADC_CALNF_NZ_or_NF, Reg.ADC_CALSTAT_FULLOK)) →
      d.isOn ok = true ∧ d.get f = toBits 16 (if r.step = 1 then d.adc.calNz else d.adc.calNf) ∧
      (if r.step = 1 then d.adc.calNf = s.dev.adc.calNf else d.adc.calNz = s.dev.adc.calNz) ∧
      (if r.step = 1 then d.adc.calNz else d.adc.calNf) = rneDiv (codes.zipIdx.foldl (fun (t : Int) x =>
        t + normCode (q.trimAt (2 * (s.dev.get Reg.ADC_CALCTL_CH / 6) + (x.2 + b2n b) % 2) (r.start + 100 * x.2)) (x.1 % 4096)) 0) (max 1 codes.length)) ∧
    RegsBut s.dev d ([Reg.ADC_CALSTAT, Reg.ADC_CALNZ, Reg.ADC_CALNF, 0x1020, 0x1024] ++ clockRegs))

/-- Comparators evaluate their inputs. The clauses that do nothing rest on log entry 38 (DESIGN CHOICE). Completion is concluded of:
comparatorTransition, comparatorPowerupEval, comparatorSettle. (03_measurement_front_end.md R83, 03_measurement_front_end.md R84,
03_measurement_front_end.md R85, 03_measurement_front_end.md R86, 03_measurement_front_end.md R87) -/
def Obligations.ComparatorEvents : Prop :=
  ∀ (s : State) (i : Nat) (v : Int) (tdc : Nat), s.live → i < 24 →
  (s.dev.cmpLive i = true → ∃ d, Answers (.comparatorTransition i v tdc) s d ∧ CmpEvaluated s.dev d i v tdc) ∧
  (s.dev.cmpLive i = false → Answers (.comparatorTransition i v tdc) s s.start) ∧
  (s.dev.isOn (Reg.CMP_CFGi_EN i) = true → s.dev.cmp.powering / 2 ^ i % 2 = 1 → s.dev.cmp.settling / 2 ^ i % 2 = 0 →
    ∃ d, Answers (.comparatorPowerupEval i v tdc) s d ∧ d.cmp.powering = s.dev.cmp.powering - 2 ^ i ∧ CmpEvaluated s.dev d i v tdc) ∧
  (s.dev.cmp.powering / 2 ^ i % 2 = 0 → Answers (.comparatorPowerupEval i v tdc) s s.start) ∧
  (s.dev.isOn (Reg.CMP_CFGi_EN i) = true → s.dev.cmp.settling / 2 ^ i % 2 = 1 → s.dev.cmp.powering / 2 ^ i % 2 = 0 →
    ∃ d, Answers (.comparatorSettle i v tdc) s d ∧ d.cmp.settling = s.dev.cmp.settling - 2 ^ i ∧ CmpEvaluated s.dev d i v tdc) ∧
  (s.dev.cmp.settling / 2 ^ i % 2 = 0 → Answers (.comparatorSettle i v tdc) s s.start)

/-- Net edges beyond CPC + IDXTOL are a missed index. Completion is concluded of: quadratureEdge. (R98) -/
def Obligations.NetEdgesAndIndexMiss : Prop :=
  ∀ (s : State) (a b : Bool), s.live → s.dev.isOn Reg.ANG_CFG_EN = true → (∀ u, s.dev.ang.undo = some u → u.clk ≠ s.dev.clocks) →
  ∀ x ∈ [(1, (1 : Int)), (3, -1)], (quadIndex a b + 4 - quadIndex s.dev.ang.a s.dev.ang.b) % 4 = x.1 → ∃ d, Answers (.quadratureEdge a b) s d ∧
    ((s.dev.ang.net + x.2).natAbs ≤ s.dev.cpc + s.dev.get Reg.ANG_CPC_IDXTOL → d.ang.net = s.dev.ang.net + x.2 ∧ d.ang.misses = s.dev.ang.misses ∧
      d.isOn Reg.ANG_FLAG_IDXMISS_F = s.dev.isOn Reg.ANG_FLAG_IDXMISS_F) ∧
    (s.dev.cpc + s.dev.get Reg.ANG_CPC_IDXTOL < (s.dev.ang.net + x.2).natAbs → d.ang.net = 0 ∧ d.ang.misses = s.dev.ang.misses + 1 ∧
      d.isOn Reg.ANG_FLAG_IDXMISS_F = true ∧ (1 ≤ s.dev.ang.misses → s.dev.xst = xVALID → d.xst = xINVALID))

/-- Quadrature edges, the index, re-arming and standstill. That a standstill leaves INVALID rests on log entry 17 (DEDUCED), the corners of
the first index on log entry 64 (DESIGN CHOICE), and that an edge, an index or a time-out with EN clear leaves the rest on log entry 38
(DESIGN CHOICE). Completion is concluded of: quadratureEdge, indexPulse, standstillTimeout, angRearm. (04_grid_angle.md R94,
04_grid_angle.md R95, 04_grid_angle.md R97, 04_grid_angle.md R103, 04_grid_angle.md R105, 04_grid_angle.md R107) -/
def Obligations.QuadratureAndIndex : Prop :=
  ∀ s : State, s.live →
  (∀ a b, s.dev.isOn Reg.ANG_CFG_EN = false → ∃ d, Answers (.quadratureEdge a b) s d ∧ d.ang.a = a ∧ d.ang.b = b ∧ d.regs = s.dev.regs) ∧
  (∀ a b u, s.dev.isOn Reg.ANG_CFG_EN = true → s.dev.ang.undo = some u → u.clk = s.dev.clocks →
    (quadIndex a b + 4 - quadIndex s.dev.ang.a s.dev.ang.b) % 4 ∈ [1, 3] → ∃ d, Answers (.quadratureEdge a b) s d ∧ d.get Reg.ANG_STAT_POS = 0 ∧
      d.isOn Reg.ANG_STAT_INDEXED = true ∧ d.ang.net = 0 ∧ d.ang.a = a ∧ d.ang.b = b) ∧
  (∀ a b, s.dev.isOn Reg.ANG_CFG_EN = true → (∀ u, s.dev.ang.undo = some u → u.clk ≠ s.dev.clocks) → ∀ x ∈ [(1, (1 : Int), false), (3, -1, true)],
    (quadIndex a b + 4 - quadIndex s.dev.ang.a s.dev.ang.b) % 4 = x.1 → ∃ d, Answers (.quadratureEdge a b) s d ∧
      d.get Reg.ANG_STAT_POS = ((s.dev.get Reg.ANG_STAT_POS + x.2.1) % (s.dev.cpc : Int)).toNat % 65536 ∧ d.isOn Reg.ANG_STAT_DIR = x.2.2 ∧
      d.pair Reg.ANG_ESTAMP_LO Reg.ANG_ESTAMP_HI = s.dev.filtStamp % 2 ^ 64 ∧
      RegsBut s.dev d [Reg.ANG_STAT, Reg.ANG_ESTAMP_LO, Reg.ANG_ESTAMP_HI, Reg.ANG_FLAG]) ∧
  (∀ a b, s.dev.isOn Reg.ANG_CFG_EN = true → (quadIndex a b + 4 - quadIndex s.dev.ang.a s.dev.ang.b) % 4 = 2 → ∃ d, Answers (.quadratureEdge a b) s d ∧
    Counted s.dev d Reg.ANG_CNT_ANG_ERR ∧ d.isOn Reg.ANG_FLAG_ILL_F = true ∧ RegsBut s.dev d [Reg.ANG_STAT, Reg.ANG_CNT, Reg.ANG_FLAG]) ∧
  (s.dev.isOn Reg.ANG_CFG_EN = false → Answers .indexPulse s s.start ∧ Answers .standstillTimeout s s.start) ∧
  (s.dev.isOn Reg.ANG_CFG_EN = true → ∃ d, Answers .indexPulse s d ∧ d.get Reg.ANG_STAT_POS = 0 ∧ d.isOn Reg.ANG_STAT_INDEXED = true ∧
    d.ang.net = 0 ∧ d.ang.misses = 0 ∧ d.pair Reg.ANG_ZSTAMP_LO Reg.ANG_ZSTAMP_HI = s.dev.filtStamp % 2 ^ 64 ∧
    ((s.dev.xst ≠ xWAIT ∨ s.dev.ang.idxSeen = true) → s.dev.get Reg.ANG_CPC_IDXTOL < s.dev.posError.natAbs →
      Counted s.dev d Reg.ANG_CNT_IDXERR_CNT ∧ d.isOn Reg.ANG_FLAG_IDXERR_F = true) ∧
    RegsBut s.dev d [Reg.ANG_STAT, Reg.ANG_ZSTAMP_LO, Reg.ANG_ZSTAMP_HI, Reg.ANG_CNT, Reg.ANG_FLAG]) ∧
  (s.dev.isOn Reg.ANG_CFG_EN = true → ∃ d, Answers .standstillTimeout s d ∧ d.isOn Reg.ANG_FLAG_STILL_F = true ∧ d.ang.fx = fZero ∧
    ((s.dev.xst = xWAIT ∨ s.dev.xst = xVALID) → d.xst = xLOST) ∧ RegsBut s.dev d [Reg.ANG_STAT, Reg.ANG_FLAG]) ∧
  (∃ d, Answers .angRearm s d ∧ RegsBut s.dev d [Reg.ANG_STAT] ∧ (s.dev.xst ≠ xINVALID → d.xst = s.dev.xst) ∧
    (s.dev.xst = xINVALID → s.dev.ang.cond = true → d.xst = xVALID) ∧
    (s.dev.xst = xINVALID → s.dev.ang.cond = false → d.xst = xINVALID ∧ d.ang.rearm = true))

/-- The frequency window and the pulse input. Which edge is t_ref rests on log entry 64 (DESIGN CHOICE), the filter stamp of the pulse input
on log entry 34, and the clauses that do nothing on log entry 38 (DESIGN CHOICE). Completion is concluded of: freqWindowEnd, spPulseEdge,
sppLossTimeout, sppHoldExpiry. (04_grid_angle.md R101, 04_grid_angle.md R102, 05_cirrus_control_engine.md R132, 05_cirrus_control_engine.md
R133) -/
def Obligations.FrequencyAndPulseInput : Prop :=
  ∀ s : State, s.live →
  (s.dev.isOn Reg.ANG_CFG_EN = false → Answers .freqWindowEnd s s.start) ∧
  (s.dev.isOn Reg.ANG_CFG_EN = true → ∃ d, Answers .freqWindowEnd s d ∧ d.ang.winN = 0 ∧ d.ang.winRev = false ∧
    (s.dev.stIn [stRUN, stRIDETHROUGH] = true → d.isOn Reg.ANG_STAT_METH = true) ∧
    (s.dev.stIn [stRUN, stRIDETHROUGH] = false → s.dev.isOn Reg.ANG_STAT_METH = false →
      d.isOn Reg.ANG_STAT_METH = decide (s.dev.get Reg.ANG_THR_CHI ≤ s.dev.ang.winN)) ∧
    (s.dev.stIn [stRUN, stRIDETHROUGH] = false → s.dev.isOn Reg.ANG_STAT_METH = true →
      d.isOn Reg.ANG_STAT_METH = decide (s.dev.get Reg.ANG_THR_CLO ≤ s.dev.ang.winN)) ∧
    (s.dev.isOn Reg.ANG_STAT_METH = true → s.dev.ang.winRev = true → d.ang.fx = fZero) ∧
    (∀ t, s.dev.isOn Reg.ANG_STAT_METH = true → s.dev.ang.winRev = false → s.dev.ang.winRef = some t → s.dev.ang.winN ≠ 0 → 2 ≤ s.dev.ang.since →
      d.ang.fx = s.dev.fxOf s.dev.ang.winN (s.dev.pair Reg.ANG_ESTAMP_LO Reg.ANG_ESTAMP_HI - t) (s.dev.isOn Reg.ANG_STAT_DIR)) ∧
    (s.dev.isOn Reg.ANG_STAT_METH = false → d.ang.fx = s.dev.ang.fx) ∧ RegsBut s.dev d [Reg.ANG_STAT]) ∧
  (s.dev.isOn Reg.CE_SPP_CFG_EN = false → Answers .spPulseEdge s s.start) ∧
  (s.dev.isOn Reg.CE_SPP_CFG_EN = true → ∃ d, Answers .spPulseEdge s d ∧ d.regs = s.dev.regs ∧ d.ce.spp.n = s.dev.ce.spp.n + 1 ∧
    d.ce.spp.last = s.dev.time - 16 * (max 2 (s.dev.get Reg.CE_SPP_CFG_PFILT) - 1)) ∧
  (s.dev.spst = spTRACK → ∃ d, Answers .sppLossTimeout s d ∧ d.spst = spHOLD ∧ d.isOn Reg.CE_FLAG_PLOSS_F = true ∧
    RegsBut s.dev d [Reg.CE_SPP_STAT, Reg.CE_FLAG]) ∧
  (s.dev.spst ≠ spTRACK → Answers .sppLossTimeout s s.start) ∧
  (s.dev.spst = spHOLD → ∃ d, Answers .sppHoldExpiry s d ∧ d.spst = spRAMP ∧ SameBut s.start d [Reg.CE_SPP_STAT]) ∧
  (s.dev.spst ≠ spHOLD → Answers .sppHoldExpiry s s.start)

/-- Period boundaries, duty edges and dead time of the local channels. What the interlock check of a local output looks at rests on log
entry 16 (DEDUCED), the clauses that do nothing on log entry 38 (DESIGN CHOICE). Completion is concluded of: hbPeriodBoundary, hbDutyEdge,
hbDeadtimeEnd. (07_espalier_edge_modulator.md R180, 07_espalier_edge_modulator.md R191, 07_espalier_edge_modulator.md R192,
07_espalier_edge_modulator.md R193, 07_espalier_edge_modulator.md R197, 07_espalier_edge_modulator.md R199) -/
def Obligations.LocalChannelEdges : Prop :=
  ∀ (s : State) (n tdc : Nat), s.live → n < 12 →
  ((s.dev.isOn (Reg.MOD_HBn_CFG_EN n) && (s.dev.ch n).started) = false → Answers (.hbPeriodBoundary n tdc) s s.start) ∧
  (s.dev.isOn (Reg.MOD_HBn_CFG_EN n) = true → (s.dev.ch n).started = true → ∃ d, Answers (.hbPeriodBoundary n tdc) s d ∧
    (d.ch n).running = true ∧ (d.ch n).start = s.dev.stamp tdc ∧ (d.ch n).k = (if (s.dev.ch n).running then (s.dev.ch n).k + 1 else 0) ∧
    d.get (Reg.MOD_HBn_APER_APERIOD n) = (d.ch n).active.period % 2 ^ ((Reg.MOD_HBn_APER_APERIOD n).hi + 1 - (Reg.MOD_HBn_APER_APERIOD n).lo) ∧
    (d.isOn (Reg.MOD_HBn_STAT_XCMD n) = s.dev.isOn (Reg.MOD_HBn_STAT_XCMD n) →
      (d.hbHeld n = true → d.get (Reg.MOD_HBn_STAT_OUT n) = s.dev.get (Reg.MOD_HBn_STAT_OUT n)) ∧
      (d.hbHeld n = false → d.get (Reg.MOD_HBn_STAT_OUT n) =
        if s.dev.get (Reg.MOD_HBn_STAT_OUT n) = 0 ∨ s.dev.get (Reg.MOD_HBn_STAT_OUT n) = (if (d.ch n).high then 2 else 1)
        then (if (d.ch n).high then 2 else 1) else 3)) ∧
    (d.isOn (Reg.MOD_HBn_STAT_XCMD n) ≠ s.dev.isOn (Reg.MOD_HBn_STAT_XCMD n) → d.isOn (Reg.MOD_HBn_STAT_XCMD n) = true ∧
      s.dev.get (Reg.MOD_HBn_STAT_OUT n) = 0 ∧ d.isOn Reg.MOD_FLAG_XCMD_F = true ∧ Counted s.dev d Reg.MOD_CNT0_XCMD_CNT)) ∧
  ((s.dev.ch n).edges = [] → Answers (.hbDutyEdge n tdc) s s.start) ∧
  ((s.dev.ch n).edges ≠ [] → ∃ d, Answers (.hbDutyEdge n tdc) s d ∧ (d.ch n).high = !(s.dev.ch n).high ∧
    (d.ch n).edges = (s.dev.ch n).edges.tail ∧
    (s.dev.hbHeld n = true → d.get (Reg.MOD_HBn_STAT_OUT n) = s.dev.get (Reg.MOD_HBn_STAT_OUT n) ∧ RegsBut s.dev d [Reg.MOD_HBn_STAT n]) ∧
    (s.dev.hbHeld n = false → s.dev.get (Reg.MOD_HBn_STAT_OUT n) = 0 →
      s.dev.hbTooSoon n (s.dev.stamp tdc) (if (d.ch n).high then 2 else 1) = true →
      d.isOn (Reg.MOD_HBn_STAT_XCMD n) = true ∧ d.isOn Reg.MOD_FLAG_XCMD_F = true ∧ Counted s.dev d Reg.MOD_CNT0_XCMD_CNT ∧
      (s.dev.isOn Reg.MOD_CTL_XCMDTRIP = true → s.dev.effective 0x23 = true → d.isOn (latF 0x23) = true)) ∧
    (s.dev.hbHeld n = false →
      (s.dev.get (Reg.MOD_HBn_STAT_OUT n) ≠ 0 ∨ s.dev.hbTooSoon n (s.dev.stamp tdc) (if (d.ch n).high then 2 else 1) = false) →
      RegsBut s.dev d [Reg.MOD_HBn_STAT n] ∧ d.get (Reg.MOD_HBn_STAT_OUT n) =
        if s.dev.get (Reg.MOD_HBn_STAT_OUT n) = 0 ∨ s.dev.get (Reg.MOD_HBn_STAT_OUT n) = (if (d.ch n).high then 2 else 1)
        then (if (d.ch n).high then 2 else 1) else 3)) ∧
  (s.dev.get (Reg.MOD_HBn_STAT_OUT n) ≠ 3 → Answers (.hbDeadtimeEnd n tdc) s s.start) ∧
  (s.dev.get (Reg.MOD_HBn_STAT_OUT n) = 3 → ∃ d, Answers (.hbDeadtimeEnd n tdc) s d ∧
    d.get (Reg.MOD_HBn_STAT_OUT n) = (if (s.dev.ch n).toHigh then 2 else 1) ∧ RegsBut s.dev d [Reg.MOD_HBn_STAT n])

/-- COMMIT, fault clears and compare events. That a channel waits for its boundary after a clear rests on log entry 16 (DEDUCED), the
clauses that do nothing on log entry 38 (DESIGN CHOICE). Completion is concluded of: groupCommit, fltclrFclr, fltclrXclr, localCompareFire,
groupCompareFire, carrierPeriodBoundary. (07_espalier_edge_modulator.md R174, 07_espalier_edge_modulator.md R180,
07_espalier_edge_modulator.md R188, 07_espalier_edge_modulator.md R195, 07_espalier_edge_modulator.md R199, 07_espalier_edge_modulator.md
R201) -/
def Obligations.ChannelWritesAndCompares : Prop :=
  ∀ s : State, s.live →
  (∀ mask, mask < 4096 → ∃ d, Answers (.groupCommit mask) s d ∧ RegsBut s.dev d ((List.range 12).map Reg.MOD_HBn_STAT ++ (List.range 12).map Reg.MOD_HBn_APER) ∧
    ∀ n, n < 12 →
      ((inMask mask n = false ∨ s.dev.isOn (Reg.MOD_HBn_CFG_UPD n) = true) → d.ch n = s.dev.ch n) ∧
      (inMask mask n = true → s.dev.isOn (Reg.MOD_HBn_CFG_UPD n) = false → ∀ p : HbSet,
        p = { period := s.dev.get (Reg.MOD_HBn_PERIOD_PERIOD n), duty := (s.dev.reg (Reg.MOD_HBn_DUTY n)).toNat % 2 ^ 24,
              phase := s.dev.get (Reg.MOD_HBn_PHASE_PHASE n), cmp := tabulate 8 (fun k => s.dev.reg (Reg.MOD_HBn_CMPk n k)) } →
        (s.dev.isOn (Reg.MOD_HBn_CFG_EN n) = true → (d.ch n).pend = (s.dev.ch n).pend.filter (fun x => decide (x.1 < s.dev.clocks)) ++ [(s.dev.clocks, p)] ∧ d.isOn (Reg.MOD_HBn_STAT_PEND n) = true) ∧
        (s.dev.isOn (Reg.MOD_HBn_CFG_EN n) = false → (d.ch n).active = p ∧ (d.ch n).pend = []))) ∧
  (∀ mask, mask < 4096 → ∃ d, Answers (.fltclrFclr mask) s d ∧ RegsBut s.dev d (Reg.MOD_FLAG :: (List.range 12).map Reg.MOD_HBn_STAT) ∧
    ∀ n, n < 12 → inMask mask n = true → s.dev.isOn (Reg.MOD_HBn_STAT_FLTLAT n) = true →
      (s.dev.hbActive n = true → d.isOn (Reg.MOD_HBn_STAT_FLTLAT n) = true ∧ d.isOn Reg.MOD_FLAG_CLRREJ_F = true) ∧
      (s.dev.hbActive n = false → d.isOn (Reg.MOD_HBn_STAT_FLTLAT n) = false ∧ (d.ch n).rearm = 1)) ∧
  (∀ mask, mask < 4096 → ∃ d, Answers (.fltclrXclr mask) s d ∧ RegsBut s.dev d ((List.range 12).map Reg.MOD_HBn_STAT) ∧
    ∀ n, n < 12 → inMask mask n = true → d.isOn (Reg.MOD_HBn_STAT_XCMD n) = false) ∧
  (∀ n k w, n < 12 → w = (s.dev.ch n).active.cmp.getD k 0 →
    (((s.dev.ch n).running && bit w 31 && decide (bits w 19 0 < (s.dev.ch n).active.period)) = true →
      ∃ d, Answers (.localCompareFire n k) s d ∧ OutMsg.adcTrig (bits w 28 24) ∈ d.out) ∧
    (((s.dev.ch n).running && bit w 31 && decide (bits w 19 0 < (s.dev.ch n).active.period)) = false → Answers (.localCompareFire n k) s s.start)) ∧
  (∀ g j w, g < 6 → j < 4 → w = s.dev.reg (Reg.MOD_GCMPg_j (4 * g + j)) →
    (bit w 31 = true → ∃ d, Answers (.groupCompareFire g j) s d ∧ OutMsg.adcTrig (bits w 28 24) ∈ d.out) ∧
    (bit w 31 = false → Answers (.groupCompareFire g j) s s.start)) ∧
  (∀ g, g < 6 →
    ((s.dev.esp.commits.any (fun c => c.group == g && c.dueAt s.dev.curN s.dev.tickStamp)) = false → Answers (.carrierPeriodBoundary g) s s.start) ∧
    ((s.dev.esp.commits.any (fun c => c.group == g && c.dueAt s.dev.curN s.dev.tickStamp)) = true → ∃ d, Answers (.carrierPeriodBoundary g) s d ∧
      d.regs = s.dev.regs ∧ d.esp.commits = s.dev.esp.commits.filter (fun c => c.group != g) ∧
      ∀ p ∈ s.dev.groupPos g, sget (fun _ => 0) d.esp.active p = sget (fun _ => 0) s.dev.esp.shadow p ∧
        sget (fun _ => 0) d.esp.effective p = sget (fun _ => 0) s.dev.esp.shadow p))

/-- Scheduled sweeps, the points of a sweep, rotations and the profile timeout. The clauses that do nothing rest on log entry 38 (DESIGN
CHOICE). Completion is concluded of: ivSweepScheduled, ivSweepPointEnd, rotationDue, profLoadTimeout. (06_cells_and_mppt.md R157,
06_cells_and_mppt.md R158, 06_cells_and_mppt.md R167, 07_espalier_edge_modulator.md R202) -/
def Obligations.CellEvents : Prop :=
  ∀ s : State, s.live →
  (leAt s.dev.cells.map 20 4 = 0 → Answers .ivSweepScheduled s s.start) ∧
  (leAt s.dev.cells.map 20 4 ≠ 0 → s.dev.cells.iv.running = true → ∃ d, Answers .ivSweepScheduled s d ∧
    d.cells.skipped = satAdd 0xFFFF s.dev.cells.skipped 1 ∧ d.regs = s.dev.regs ∧ d.cells.cells = s.dev.cells.cells) ∧
  (∀ b now later, leAt s.dev.cells.map 20 4 ≠ 0 → s.dev.cells.iv.running = false → s.dev.sweepImg = some b → s.dev.ivBatches = now :: later → s.dev.st = stRUN →
    ∃ d, Answers .ivSweepScheduled s d ∧ d.regs = s.dev.regs ∧ d.cells.iv.commanded = false ∧ d.cells.iv.later = later ∧
      ∀ p ∈ now, (s.dev.cell p).state = 2 → (d.cell p).state = 4 ∧ d.cells.iv.running = true) ∧
  ((s.dev.cells.iv.running = false ∨ s.dev.sweepImg = none) → Answers .ivSweepPointEnd s s.start) ∧
  (∀ b, s.dev.cells.iv.running = true → s.dev.sweepImg = some b → ∃ d, Answers .ivSweepPointEnd s d ∧ d.regs = s.dev.regs ∧
    (s.dev.cells.iv.point + 1 < byteAt s.dev.cells.map 24 → s.dev.cells.iv.cells ≠ [] →
      d.cells.iv.point = s.dev.cells.iv.point + 1 ∧ d.cells.iv.frames = 0 ∧ d.cells.iv.running = true) ∧
    (byteAt s.dev.cells.map 24 ≤ s.dev.cells.iv.point + 1 → s.dev.cells.iv.later = [] → d.cells.iv = {} ∧
      ∀ v ∈ s.dev.cells.iv.cells, (s.dev.cellRec v.pos).isSome = true → (d.cell v.pos).state = 2) ∧
    (∀ now later, byteAt s.dev.cells.map 24 ≤ s.dev.cells.iv.point + 1 → s.dev.cells.iv.later = now :: later → d.cells.iv.later = later ∧ d.cells.iv.point = 0)) ∧
  (leAt s.dev.cells.map 16 4 = 0 → Answers .rotationDue s s.start) ∧
  (leAt s.dev.cells.map 16 4 ≠ 0 → ∃ d, Answers .rotationDue s d ∧ d.cells.rotDue = 63 ∧ d.regs = s.dev.regs) ∧
  (s.dev.esp.profCmd = none → Answers .profLoadTimeout s s.start) ∧
  (∀ src p n, s.dev.esp.profCmd = some (src, p, n) → ∃ e : Dev, e.esp.profCmd = none ∧ e.regs = s.dev.regs ∧ e.host = s.dev.host ∧
    Answers .profLoadTimeout s (e.complete (some (src, p,
      { status := sTIMEOUT, detail := s.dev.profMissing.foldl (fun a r => a + 2 ^ r) 0, result := toLe s.dev.profCount 2 }))))

/-- Grid records, trips due, ride-through exit and the islanding window. That a record whose frame has passed is ignored, and what the trip
timers count, rest on log entry 26 (DEDUCED), the way of a record through a chip on log entry 21 (DESIGN CHOICE), the clauses that do
nothing on log entry 38 (DESIGN CHOICE). Completion is concluded of: gridRecord, gridTripDue, rocofHoldExpiry, rtExitHoldExpiry,
islcodeWindowEnd. (08_grid_behaviour.md R207, 08_grid_behaviour.md R217, 08_grid_behaviour.md R223, 08_grid_behaviour.md R224,
08_grid_behaviour.md R225, 08_grid_behaviour.md R229, 10_krekai_station_fabric.md R285) -/
def Obligations.GridEvents : Prop :=
  ∀ s : State, s.live →
  (∀ port ok r, (s.dev.linkUp port = false ∨ (ok = true ∧ (r.length ≠ 11 ∨ s.dev.grid.profile.isEmpty = true))) →
    Answers (.gridRecord port ok r) s s.start) ∧
  (∀ port r, s.dev.linkUp port = true → ∃ d, Answers (.gridRecord port false r) s d ∧ Counted s.dev d (Reg.KRK_PORTp_ERR_CRCERR port) ∧
    SameBut s.start d [Reg.KRK_PORTp_ERR port]) ∧
  (∀ port r, r.length = 11 → s.dev.grid.profile.isEmpty = false → s.dev.krk.joined = false → s.dev.linkUp port = true →
    ∃ d, Answers (.gridRecord port true r) s d ∧ d = { s.start with out := d.out }) ∧
  (∀ port r, r.length = 11 → s.dev.grid.profile.isEmpty = false → s.dev.krk.joined = true → s.dev.linkUp port = true →
    ∃ d, Answers (.gridRecord port true r) s d ∧ RegsBut s.dev d [Reg.KRK_FLAG] ∧
    d.grid.inbox = if (s.dev.curN + 2 ^ 15 - (recFrame r + gfGDLY s.dev.grid.profile) % 2 ^ 15) % 2 ^ 15 < 2 ^ 14 ∨ (recFrame r, r) ∈ s.dev.grid.inbox
      then s.dev.grid.inbox else s.dev.grid.inbox ++ [(recFrame r, r)]) ∧
  (∀ x ∈ (List.range 8).map (fun i => (Instr.gridTripDue i, i + 1, decide (fIsZero (gfTrip s.dev.grid.profile i).1 = false ∧
      s.dev.clearFrames (gfTrip s.dev.grid.profile i).2 ≤ s.dev.grid.timers.getD i 0))) ++
      [(Instr.rocofHoldExpiry, 11, decide (s.dev.clearFrames (gfROCT s.dev.grid.profile) ≤ s.dev.grid.rocRun))],
    ((s.dev.grid.issuing = false ∨ x.2.2 = false) → Answers x.1 s s.start) ∧
    (s.dev.grid.issuing = true → x.2.2 = true → ∃ d, Answers x.1 s d ∧ d.grid.lastCause = x.2.1 ∧
      (gridActive s.dev.st = true → x.2.1 ∈ d.grid.due ∧ (s.dev.effective 0x28 = true → d.isOn (latF 0x28) = true) ∧
        d.grid.tripStamp = s.dev.stamp 0) ∧
      (gridActive s.dev.st = false → d.regs = s.dev.regs ∧ d.grid.due = s.dev.grid.due))) ∧
  (s.dev.grid.exitN = none → Answers .rtExitHoldExpiry s s.start) ∧
  (∀ n, s.dev.grid.exitN = some n →
    ((s.dev.grid.rts = 0 ∨ s.dev.curN * s.dev.frameTU < n * s.dev.frameTU + msTU (gfTEXIT s.dev.grid.profile)) → Answers .rtExitHoldExpiry s s.start) ∧
    (s.dev.grid.rts ≠ 0 → n * s.dev.frameTU + msTU (gfTEXIT s.dev.grid.profile) ≤ s.dev.curN * s.dev.frameTU →
      ∃ d, Answers .rtExitHoldExpiry s d ∧ d.grid.exitDue = true ∧ d.regs = s.dev.regs)) ∧
  (s.dev.lawImg 0x11 = none → Answers .islcodeWindowEnd s s.start) ∧
  ((s.dev.lawImg 0x11).isSome = true → ∃ d, Answers .islcodeWindowEnd s d ∧ d.isl.n = 0 ∧ d.isl.valid = true ∧ d.isl.sc = 0 ∧ d.isl.sx = 0 ∧
    d.isl.sy = 0 ∧ d.isl.sf = 0 ∧ ((s.dev.isl.valid = false ∨ s.dev.isl.n ≠ islWindow s.dev.grid.profile) →
      d.isl.invalid = satAdd 0xFFFF s.dev.isl.invalid 1 ∧ d.isl.zref = s.dev.isl.zref ∧ d.regs = s.dev.regs))

/-- Rings: discovery, COLLECT, telemetry and alarms. That a block of no known type counts as a CRC error, and on which lane a base record
counts, rest on log entry 20 (DEDUCED), the clauses that do nothing on log entry 38 (DESIGN CHOICE). Completion is concluded of:
collectSend, discReturn, telemReceived, alarmReceived, loopNotice, thkRediscover, thkHeal, multiHealEnd. (01_station_architecture.md R25,
09_thicket_cell_rings.md R237, 09_thicket_cell_rings.md R238, 09_thicket_cell_rings.md R241, 09_thicket_cell_rings.md R244,
09_thicket_cell_rings.md R245, 09_thicket_cell_rings.md R246, 09_thicket_cell_rings.md R248) -/
def Obligations.RingDiscoveryAndTelemetry : Prop :=
  ∀ s : State, s.live →
  (∃ d, Answers .collectSend s d ∧ d.regs = s.dev.regs ∧
    ∀ r, r < 16 → s.dev.ringEn r = true → OutMsg.thk (2 * r + 1) (ctlBlock 0xAA (s.dev.frame * 2 ^ 24)) [] ∈ d.out ∧
      (s.dev.folded r = true → OutMsg.thk (2 * r) (ctlBlock 0xAA (s.dev.frame * 2 ^ 24)) [] ∈ d.out)) ∧
  (∀ r, r < 16 →
    (∀ pl arr, crc8Ok pl = true → (s.dev.ring r).disc ≠ 1 → Answers (.discReturn r false pl arr) s s.start) ∧
    (∀ pl arr, crc8Ok pl = true → (s.dev.ring r).disc ≠ 2 → Answers (.discReturn r true pl arr) s s.start) ∧
    (∀ pl arr, crc8Ok pl = true → (s.dev.ring r).disc = 1 → pl / 2 ^ 49 % 128 ≠ s.dev.ncell r → ∃ d, Answers (.discReturn r false pl arr) s d ∧
      d.get (Reg.THK_RINGr_CFG_NFOUND r) = pl / 2 ^ 49 % 128 ∧ d.get (Reg.THK_RINGr_DLY_LE r) = (arr - (s.dev.ring r).t0) % 65536 ∧
      d.ringSt r = rsFAILED ∧ d.isOn Reg.THK_FLAG_DISCERR_F = true ∧ (d.ring r).disc = 0 ∧
      RegsBut s.dev d [Reg.THK_RINGr_CFG r, Reg.THK_RINGr_DLY r, Reg.THK_RINGr_STAT r, Reg.THK_FLAG]) ∧
    (∀ pl arr, crc8Ok pl = true → (s.dev.ring r).disc = 1 → pl / 2 ^ 49 % 128 = s.dev.ncell r → ∃ d, Answers (.discReturn r false pl arr) s d ∧
      d.get (Reg.THK_RINGr_CFG_NFOUND r) = s.dev.ncell r ∧ d.get (Reg.THK_RINGr_DLY_LE r) = (arr - (s.dev.ring r).t0) % 65536 ∧
      OutMsg.thk (2 * r + 1) (ctlBlock 0xB4 0) [] ∈ d.out ∧ (d.ring r).t1 = s.dev.time ∧ (d.ring r).le = arr - (s.dev.ring r).t0 ∧
      RegsBut s.dev d [Reg.THK_RINGr_CFG r, Reg.THK_RINGr_DLY r, Reg.THK_RINGr_STAT r]) ∧
    (∀ pl arr, crc8Ok pl = true → (s.dev.ring r).disc = 2 → ∃ d, Answers (.discReturn r true pl arr) s d ∧
      d.get (Reg.THK_RINGr_DLY_LW r) = (arr - (s.dev.ring r).t1) % 65536 ∧ RegsBut s.dev d [Reg.THK_RINGr_DLY r, Reg.THK_RINGr_STAT r]) ∧
    (∀ t : TelemRec, t.type ≠ 0x2D → blockTypes.contains t.type = true → returnOk t = true → Answers (.telemReceived r [t]) s s.start) ∧
    (∀ t : TelemRec, ((t.type ≠ 0x2D ∧ (blockTypes.contains t.type = false ∨ returnOk t = false)) ∨ (t.type = 0x2D ∧ telemKind t ≠ 0 ∧
        (t.words.length < t.payload / 2 ^ 40 % 256 ∨ t.payload % 2 ^ 16 ≠ crcWords (t.words.take (t.payload / 2 ^ 40 % 256))))) →
      ∃ d, Answers (.telemReceived r [t]) s d ∧ d.isOn Reg.THK_FLAG_CRCERR_F = true ∧ Counted s.dev d (Reg.THK_RINGr_ERR_CRCERR r) ∧
        SameBut s.start d [Reg.THK_FLAG, Reg.THK_RINGr_ERR r]) ∧
    (∀ t : TelemRec, t.type = 0x2D → telemKind t = 0 → (t.payload / 2 ^ 40 % 256 ≠ 4 ∨ t.words.length < 4 ∨
        t.payload % 2 ^ 16 ≠ crcWords (t.words.take 4)) → ∃ d, Answers (.telemReceived r [t]) s d ∧ d.isOn Reg.THK_FLAG_CRCERR_F = true ∧
      Counted s.dev d (Reg.THK_RINGr_ERR_CRCERR r) ∧ d.cells.telNew = s.dev.cells.telNew) ∧
    (∀ t : TelemRec, t.type = 0x2D → telemKind t = 0 → t.payload / 2 ^ 40 % 256 = 4 → t.words.length = 4 → t.payload % 2 ^ 16 = crcWords t.words →
      ∀ u, u = 2 * r + s.dev.telLane r (telemCell t) → ∃ d, Answers (.telemReceived r [t]) s d ∧
        ((s.dev.user u).resFull < 64 → RegsBut s.dev d clockRegs ∧
          sget (fun _ => {}) d.cells.telNew (64 * r + telemCell t) = baseTel t.words) ∧
        (64 ≤ (s.dev.user u).resFull → s.dev.pool.frees = [] → d.cells.telNew = s.dev.cells.telNew ∧ d.isOn Reg.HIF_POOL_STAT_RESVERR_F = true ∧
          d.isOn Reg.FRM_FLAG_OVR_F = true ∧ (s.dev.effective 0x20 = true → d.isOn (latF 0x20) = true))) ∧
    (∀ p arr, crc8Ok p = false → ∀ i ∈ [Instr.alarmReceived r p, .loopNotice r p, .discReturn r false p arr, .discReturn r true p arr], ∃ d, Answers i s d ∧
      d.isOn Reg.THK_FLAG_CRCERR_F = true ∧ Counted s.dev d (Reg.THK_RINGr_ERR_CRCERR r) ∧ SameBut s.start d [Reg.THK_FLAG, Reg.THK_RINGr_ERR r]) ∧
    (∀ p, crc8Ok p = true → ∃ d, Answers (.alarmReceived r p) s d ∧ d.isOn Reg.THK_FLAG_ALARM_F = true ∧
      d.reg Reg.THK_ALM = BitVec.ofNat 32 (2 ^ 31 + p / 2 ^ 46 % 16 * 2 ^ 16 + r * 2 ^ 10 + p / 2 ^ 50 % 64 * 2 ^ 4) ∧
      (s.dev.effective 0x25 = true → d.isOn (latF 0x25) = true)) ∧
    (s.dev.stIn stillStates = false → ∃ d, Answers (.thkRediscover r) s d ∧ d.isOn Reg.THK_FLAG_CMDREJ_F = true ∧ SameBut s.start d [Reg.THK_FLAG]) ∧
    (s.dev.stIn stillStates = true → s.dev.ringEn r = true → ∃ d, Answers (.thkRediscover r) s d ∧ d.ringSt r = rsDISCOVER ∧
      OutMsg.thk (2 * r) (ctlBlock 0xB4 0) [] ∈ d.out ∧ (d.ring r).disc = 1 ∧ (d.ring r).t0 = s.dev.time ∧
      RegsBut s.dev d [Reg.THK_RINGr_STAT r])) ∧
  (∀ r, 16 ≤ r → ∀ west pl arr recs p, ∀ i ∈ [Instr.discReturn r west pl arr, .telemReceived r recs, .alarmReceived r p, .loopNotice r p, .thkHeal r,
    .thkRediscover r, .multiHealEnd r], Answers i s s.start)

/-- Rings: LOOP notices, folds and heals. What a notice that moves no segment does, and which notices count as one break at the end of a
MULTI heal, rest on log entry 20 (DEDUCED), the clauses that do nothing on log entry 38 (DESIGN CHOICE). Completion is concluded of:
loopNotice, thkHeal, multiHealEnd. (09_thicket_cell_rings.md R252, 09_thicket_cell_rings.md R253, 09_thicket_cell_rings.md R255,
09_thicket_cell_rings.md R256) -/
def Obligations.FoldsAndHeals : Prop :=
  ∀ (s : State) (r : Nat), s.live → r < 16 →
  (∀ p, crc8Ok p = true → s.dev.ringEn r = false → Answers (.loopNotice r p) s s.start) ∧
  (∀ p, crc8Ok p = true → s.dev.ringEn r = true → ∃ d, Answers (.loopNotice r p) s d ∧
    RegsBut s.dev d ([Reg.THK_RINGr_STAT r, Reg.THK_RINGr_ERR r, Reg.THK_FLAG] ++ [Reg.SNP_LOGSEQ, Reg.VLT_FLAG, Reg.VLT_CNT]) ∧
    ∀ l, l = noteSet (s.dev.ring r).notes ⟨p / 2 ^ 50 % 64, p / 2 ^ 49 % 2, p / 2 ^ 48 % 2 == 1, s.dev.curN⟩ → (d.ring r).notes = l ∧
      ((s.dev.ringSt r = rsUP → segments (s.dev.ncell r) l = none) → s.dev.folded r = false → d.regs = s.dev.regs) ∧
      (∀ e w, s.dev.ringSt r = rsUP → segments (s.dev.ncell r) l = some (e, w) → e < 128 → w < 128 → d.ringSt r = rsFOLDED ∧
        d.get (Reg.THK_RINGr_STAT_SEG_E r) = e ∧ d.get (Reg.THK_RINGr_STAT_SEG_W r) = w ∧ d.isOn Reg.THK_FLAG_FOLD_F = true ∧
        Counted s.dev d (Reg.THK_RINGr_ERR_FOLDS r)) ∧
      (∀ e w, s.dev.folded r = true → e = (eastLoop l).elim (s.dev.get (Reg.THK_RINGr_STAT_SEG_E r)) (fun x => x.cell + 1) →
        w = (westLoop l).elim (s.dev.get (Reg.THK_RINGr_STAT_SEG_W r)) (fun x => s.dev.ncell r - x.cell) → e < 128 → w < 128 →
        ((e = s.dev.get (Reg.THK_RINGr_STAT_SEG_E r) ∧ w = s.dev.get (Reg.THK_RINGr_STAT_SEG_W r)) → d.regs = s.dev.regs) ∧
        ((e ≠ s.dev.get (Reg.THK_RINGr_STAT_SEG_E r) ∨ w ≠ s.dev.get (Reg.THK_RINGr_STAT_SEG_W r)) →
          d.ringSt r = rsMULTI ∧ d.get (Reg.THK_RINGr_STAT_SEG_E r) = e ∧ d.get (Reg.THK_RINGr_STAT_SEG_W r) = w ∧
          d.isOn Reg.THK_FLAG_FOLD_F = true ∧ Counted s.dev d (Reg.THK_RINGr_ERR_FOLDS r)))) ∧
  (s.dev.ringSt r = rsMULTI → s.dev.stIn stillStates = true → ∃ d, Answers (.thkHeal r) s d ∧ d.regs = s.dev.regs ∧ (d.ring r).multiHeal = true ∧
    (d.ring r).unloop = cdiv (s.dev.ncell r) 2 + 2) ∧
  (s.dev.ringSt r = rsFOLDED → bothReady (s.dev.ring r).notes = true → ∃ d, Answers (.thkHeal r) s d ∧ d.regs = s.dev.regs ∧ (d.ring r).healing = true ∧
    d.out ≠ []) ∧
  ((s.dev.ringSt r = rsMULTI ∧ s.dev.stIn stillStates = false) ∨ (s.dev.ringSt r = rsFOLDED ∧ bothReady (s.dev.ring r).notes = false) ∨
      (s.dev.ringSt r ≠ rsMULTI ∧ s.dev.ringSt r ≠ rsFOLDED) →
    ∃ d, Answers (.thkHeal r) s d ∧ d.isOn Reg.THK_FLAG_CMDREJ_F = true ∧ SameBut s.start d [Reg.THK_FLAG]) ∧
  ((s.dev.ringSt r ≠ rsMULTI ∨ (s.dev.ring r).multiHeal = false ∨ (s.dev.ring r).unloop ≠ 0) → Answers (.multiHealEnd r) s s.start) ∧
  (s.dev.ringSt r = rsMULTI → (s.dev.ring r).multiHeal = true → (s.dev.ring r).unloop = 0 →
    ∀ now, now = (s.dev.ring r).notes.filter (fun n => decide (s.dev.curN ≤ n.frame + 1)) → ∃ d, Answers (.multiHealEnd r) s d ∧
      (d.ring r).notes = now ∧ (d.ring r).multiHeal = false ∧
      RegsBut s.dev d ([Reg.THK_RINGr_STAT r, Reg.THK_FLAG] ++ [Reg.SNP_LOGSEQ, Reg.VLT_FLAG, Reg.VLT_CNT]) ∧
      (now = [] → d.ringSt r = rsUP ∧ d.isOn Reg.THK_FLAG_HEAL_F = true) ∧
      (now ≠ [] → d.ringSt r = if singleBreak (s.dev.ncell r) now then rsFOLDED else rsMULTI))

/-- Krekai: links, heartbeats and views. The way of a heartbeat through this chip and the count of a loss until its commit rest on log entry
21 (DESIGN CHOICE), the clauses that do nothing on log entry 38 (DESIGN CHOICE). Completion is concluded of: krkLinkDown, krkLinkUp,
heartbeat, viewCommit, heldContributionExpiry. (10_krekai_station_fabric.md R263, 10_krekai_station_fabric.md R269,
10_krekai_station_fabric.md R271, 10_krekai_station_fabric.md R273, 10_krekai_station_fabric.md R285) -/
def Obligations.LinksHeartbeatsAndViews : Prop :=
  ∀ s : State, s.live →
  (∀ p, (4 ≤ p ∨ s.dev.get (Reg.KRK_PORTp_STAT_LINK p) ≠ 2) → Answers (.krkLinkDown p) s s.start) ∧
  (∀ p, p < 4 → s.dev.get (Reg.KRK_PORTp_STAT_LINK p) = 2 → ∃ d, Answers (.krkLinkDown p) s d ∧ d.get (Reg.KRK_PORTp_STAT_LINK p) = 3 ∧
    Counted s.dev d (Reg.KRK_PORTp_ERR_DOWNS p) ∧ d.isOn Reg.KRK_FLAG_LINKDN_F = true ∧
    SameBut s.start d [Reg.KRK_PORTp_STAT p, Reg.KRK_PORTp_ERR p, Reg.KRK_FLAG, Reg.KRK_STAT] ∧
    (s.dev.mst ≠ mMEMBER → d.reg Reg.KRK_STAT = s.dev.reg Reg.KRK_STAT)) ∧
  (∀ p rdly, (4 ≤ p ∨ s.dev.get (Reg.KRK_PORTp_STAT_LINK p) = 0) → Answers (.krkLinkUp p rdly) s s.start) ∧
  (∀ p rdly, p < 4 → s.dev.get (Reg.KRK_PORTp_STAT_LINK p) ≠ 0 → ∃ d, Answers (.krkLinkUp p rdly) s d ∧ d.get (Reg.KRK_PORTp_STAT_LINK p) = 2 ∧
    d.get (Reg.KRK_PORTp_STAT_RDLY p) = rdly % 65536 ∧
    RegsBut s.dev d [Reg.KRK_PORTp_STAT p, Reg.KRK_STAT, Reg.HIF_POOL_FREE, Reg.HIF_POOL_LOW, Reg.HIF_POOL_STAT] ∧
    (s.dev.mst ≠ mMEMBER → d.reg Reg.KRK_STAT = s.dev.reg Reg.KRK_STAT)) ∧
  (∀ port chip frame state kproto ok, (s.dev.linkUp port = false ∨
      (ok = true ∧ s.dev.krk.joined = true ∧ (stPresent s.dev.krk.table chip = false ∨ chip = s.dev.ownIndex))) →
    Answers (.heartbeat port chip frame state kproto ok) s s.start) ∧
  (∀ port chip frame state kproto, s.dev.linkUp port = true → s.dev.krk.joined = false →
    ∃ d, Answers (.heartbeat port chip frame state kproto true) s d ∧ d = { s.start with out := d.out }) ∧
  (∀ port chip frame state kproto, s.dev.linkUp port = true →
    ∃ d, Answers (.heartbeat port chip frame state kproto false) s d ∧ Counted s.dev d (Reg.KRK_PORTp_ERR_CRCERR port) ∧
      SameBut s.start d [Reg.KRK_PORTp_ERR port]) ∧
  (∀ port chip frame state kproto, chip < 512 → s.dev.krk.joined = true → s.dev.linkUp port = true → stPresent s.dev.krk.table chip = true →
    chip ≠ s.dev.ownIndex → ∃ d, Answers (.heartbeat port chip frame state kproto true) s d ∧ d.reach chip = true ∧
      RegsBut s.dev d [Reg.KRK_REACHk (chip / 32)] ∧
      (∀ p : Peer, p = sget (fun _ => {}) s.dev.krk.peers chip → p.viaFrame ≠ frame ∨ p.viaNow = 0 →
        frame ∈ (sget (fun _ => {}) d.krk.peers chip : Peer).heard) ∧ (∀ x, x ∈ d.krk.losses ↔ x ∈ s.dev.krk.losses ∧ x.2 ≠ chip) ∧
      (∀ x, x ∈ d.krk.held ↔ x ∈ s.dev.krk.held ∧ x.1 ≠ chip)) ∧
  (((∀ x ∈ s.dev.krk.losses, s.dev.curN < x.1 + 2) ∨ s.dev.mst ≠ mMEMBER) → Answers .viewCommit s s.start) ∧
  ((∃ x ∈ s.dev.krk.losses, x.1 + 2 ≤ s.dev.curN) → s.dev.mst = mMEMBER → ∃ d, Answers .viewCommit s d ∧
    d.get Reg.KRK_VIEW_VIEWNUM = (s.dev.get Reg.KRK_VIEW_VIEWNUM + 1) % 2 ^ 32 ∧ d.isOn Reg.KRK_FLAG_PART_F = true ∧
    (∀ x, x ∈ d.krk.losses ↔ x ∈ s.dev.krk.losses ∧ s.dev.curN < x.1 + 2) ∧ d.krk.commitFrame = s.dev.frame) ∧
  (∃ d, Answers .heldContributionExpiry s d ∧ d.regs = s.dev.regs ∧
    ∀ g, g = s.dev.msFrames (stGrace s.dev.krk.table) + s.dev.msFrames 10 →
      (∀ x, x ∈ d.krk.held ↔ x ∈ s.dev.krk.held ∧ s.dev.curN < x.2 + g) ∧
      (∀ x, x ∈ d.krk.contrib ↔ x ∈ s.dev.krk.contrib ∧ ∀ y ∈ s.dev.krk.held, y.1 = x.1 % 512 → s.dev.curN < y.2 + g))

/-- Krekai: orphans, slot values and the scheduled trigger. The way of a slot value through this chip and what a slot keeps in ORPHAN rest
on log entry 21 (DESIGN CHOICE), the stamp of the trigger on log entry 34, the clauses that do nothing on log entry 38 (DESIGN CHOICE).
Completion is concluded of: orphanGraceEnd, orphanRampEnd, slotUpdate, squallAtFire. (10_krekai_station_fabric.md R272,
10_krekai_station_fabric.md R278, 10_krekai_station_fabric.md R279, 10_krekai_station_fabric.md R283, 15_squall_snapshot.md R388) -/
def Obligations.OrphansSlotsAndSchedule : Prop :=
  ∀ s : State, s.live →
  (s.dev.st ≠ stORPHAN → Answers .orphanGraceEnd s s.start ∧ Answers .orphanRampEnd s s.start) ∧
  (s.dev.st = stORPHAN → ∃ d, Answers .orphanGraceEnd s d ∧ d.regs = s.dev.regs ∧ d.krk.orphanRamp = true) ∧
  (s.dev.st = stORPHAN → ∃ d, Answers .orphanRampEnd s d ∧ d.regs = s.dev.regs ∧ d.krk.orphanOut = true ∧
    ∀ r ∈ s.dev.cells.recs, (d.cell r.pos).state = 5 ∧ (d.cell r.pos).cause = (s.dev.cell r.pos).cause) ∧
  (∀ port slot chip frame value stamp rank ok, (s.dev.linkUp port = false ∨ (ok = true ∧ s.dev.krk.joined = true ∧ chip = s.dev.ownIndex)) →
    Answers (.slotUpdate port slot chip frame value stamp rank ok) s s.start) ∧
  (∀ port slot chip frame value stamp rank, s.dev.linkUp port = true →
    (∃ d, Answers (.slotUpdate port slot chip frame value stamp rank false) s d ∧ Counted s.dev d (Reg.KRK_PORTp_ERR_CRCERR port) ∧
      SameBut s.start d [Reg.KRK_PORTp_ERR port]) ∧
    (s.dev.krk.joined = false → ∃ d, Answers (.slotUpdate port slot chip frame value stamp rank true) s d ∧ d = { s.start with out := d.out })) ∧
  (∀ port slot chip frame value stamp rank, s.dev.krk.joined = true → s.dev.linkUp port = true → chip ≠ s.dev.ownIndex → ∀ v : SlotVal,
    v = ⟨slot, chip, frame + s.dev.slotDelay slot, value, stamp, rank⟩ → ∃ d, Answers (.slotUpdate port slot chip frame value stamp rank true) s d ∧
    ((stKind s.dev.krk.table slot = 0 ∨ (stKind s.dev.krk.table slot = 1 ∧ stOwner s.dev.krk.table slot ≠ chip) ∨
        v ∈ s.dev.krk.got ∨ v ∈ s.dev.krk.flight) → d.regs = s.dev.regs ∧ d.krk.flight = s.dev.krk.flight) ∧
    (stKind s.dev.krk.table slot ≠ 0 → (stKind s.dev.krk.table slot = 1 → stOwner s.dev.krk.table slot = chip) →
      v ∉ s.dev.krk.got → v ∉ s.dev.krk.flight →
      (v.due ≤ s.dev.curN → d.isOn Reg.KRK_FLAG_SLOTERR_F = true ∧ RegsBut s.dev d [Reg.KRK_FLAG] ∧ d.krk.flight = s.dev.krk.flight) ∧
      (s.dev.curN < v.due → d.regs = s.dev.regs ∧ v ∈ d.krk.flight ∧ ∀ x ∈ s.dev.krk.flight, x ∈ d.krk.flight))) ∧
  (s.dev.snp.schedBuf = none → Answers .squallAtFire s s.start) ∧
  (∀ k img, k < 4 → s.dev.snp.schedBuf = some k → s.dev.snp.tick = some img → s.dev.frozenHere = none →
    ∃ d, Answers .squallAtFire s d ∧ d.frozen k = true ∧ d.snapResv k = false ∧ d.isOn Reg.SNP_STAT_SCHED = false ∧
      d.get Reg.SNP_STAT_LASTSRC = 5 ∧ d.snp.schedBuf = none ∧
      d.snapBuf k = some ⟨img, 2 ^ 5, s.dev.tickStamp, s.dev.snp.schedTag, s.dev.snp.lostSince⟩)

/-- Krekai: forwarded packets, PREPARE, answers and the join. The bytes of messages, their paths through this chip and the granules they
take are the model’s choices (log entry 21), that nothing comes in on a link that is down is log entry 38 (DESIGN CHOICE each), and that a
message waits in a halt or a handover log entry 30 (DEDUCED). Completion is concluded of: stationPacket, prepare, stationReply,
identityExchange, go, abort. (01_station_architecture.md R26, 01_station_architecture.md R27, 10_krekai_station_fabric.md R261,
10_krekai_station_fabric.md R263, 10_krekai_station_fabric.md R268, 10_krekai_station_fabric.md R280, 10_krekai_station_fabric.md R281,
10_krekai_station_fabric.md R282, 10_krekai_station_fabric.md R285, 16_firmware_handover.md R407, 16_firmware_handover.md R411) -/
def Obligations.ForwardedPacketsAndJoin : Prop :=
  ∀ s : State, s.live → ∀ pool : List Nat, pool = [Reg.HIF_POOL_FREE, Reg.HIF_POOL_LOW, Reg.HIF_POOL_STAT] →
  (∀ port dest origin txn p data commitN chip st dt res x last,
    (s.dev.linkUp port = false → ∀ ok, ∀ i ∈ [Instr.stationPacket port dest origin txn ok p data, .prepare port dest origin txn ok p commitN data,
      .stationReply port dest txn ok chip st dt res data, .identityExchange port dest ok (some x) last, .go port dest origin txn ok,
      .abort port dest origin txn ok], Answers i s s.start) ∧
    (s.dev.linkUp port = true → ∀ i ∈ [Instr.stationPacket port dest origin txn false p data, .prepare port dest origin txn false p commitN data,
      .stationReply port dest txn false chip st dt res data, .identityExchange port dest false (some x) last, .go port dest origin txn false,
      .abort port dest origin txn false], ∃ d, Answers i s d ∧ Counted s.dev d (Reg.KRK_PORTp_ERR_CRCERR port) ∧
        SameBut s.start d [Reg.KRK_PORTp_ERR port])) ∧
  (∀ port, s.dev.linkUp port = true → ∀ data, (s.dev.user (32 + port)).cred < 1 + (data.length + 255) / 256 →
    ∀ dest origin txn p commitN chip st dt res,
    ∀ i ∈ [Instr.stationPacket port dest origin txn true p data, .prepare port dest origin txn true p commitN data,
      .stationReply port dest txn true chip st dt res data],
      ∃ d, Answers i s d ∧ Counted s.dev d (Reg.KRK_PORTp_ERR_CREDERR port) ∧ d.isOn Reg.HIF_POOL_STAT_CREDERR_F = true ∧
        RegsBut s.dev d (Reg.KRK_PORTp_ERR port :: pool)) ∧
  (∀ port, s.dev.linkUp port = true → ∀ data, 1 + (data.length + 255) / 256 ≤ (s.dev.user (32 + port)).cred →
    ∀ dest origin txn p commitN (a : TxnAns),
    (dest ≠ s.dev.ownIndex → ∀ x ∈ [(Instr.stationPacket port dest origin txn true p data, 3, packetBytes origin txn none p data),
        (.prepare port dest origin txn true p commitN data, 4, packetBytes origin txn (some commitN) p data),
        (.stationReply port dest txn true a.chip a.status a.detail a.result data, 6, a.bytes txn)],
      ∃ d, Answers x.1 s d ∧ RegsBut s.dev d pool ∧ d.krk = s.dev.krk ∧ d.host = s.dev.host ∧
        (s.dev.linkUp (s.dev.portTo dest) = true → OutMsg.krk (s.dev.portTo dest) x.2.1 dest x.2.2 ∈ d.out)) ∧
    (dest = s.dev.ownIndex → ∀ x ∈ [(Instr.stationPacket port dest origin txn true p data, Inward.packet origin txn p data),
        (.prepare port dest origin txn true p commitN data, .prepare origin txn p commitN data),
        (.stationReply port dest txn true a.chip a.status a.detail a.result data, .reply txn a data)],
      (s.dev.krk.joined = false → ∃ d, Answers x.1 s d ∧ RegsBut s.dev d pool ∧ d.krk = s.dev.krk ∧ d.host = s.dev.host) ∧
      (s.dev.krk.joined = true → (s.dev.fetching = false ∨ s.dev.krk.inbox ≠ []) → ∃ d h, Answers x.1 s d ∧ d.regs = s.dev.regs ∧
        d.host = s.dev.host ∧ d.krk.inbox = s.dev.krk.inbox ++ [{ port := port, hold := h, msg := x.2 }]))) ∧
  (∀ port dest, s.dev.linkUp port = true → dest = s.dev.ownIndex → s.dev.krk.joined = true → s.dev.fetching = true → s.dev.krk.inbox = [] →
    ∀ data n, n = 1 + (data.length + 255) / 256 → n ≤ (s.dev.user (32 + port)).cred → ∀ h t, s.start.portData (32 + port) n = (some h, t) →
    (∀ origin txn p w e row r x, opRow (pOp p) = some row →
      t.starts { src := .station origin port, pkt := p, kind := .executing, order := 0, route := some (origin, txn), data := data,
                 link := some h } = some (w, e) →
      row.body (.station origin port) p e = (r, some x) → CompletesWith (.stationPacket port dest origin txn true p data) s w r x) ∧
    (∀ origin txn p commitN, opRow (pOp p) = none → Answers (.prepare port dest origin txn true p commitN data) s
      ((t.linkFree (some h)).answer origin txn { status := sBAD_OPCODE, detail := pOp p })) ∧
    (∀ origin txn p commitN row c, opRow (pOp p) = some row → origin ≠ s.dev.ownIndex → c = t.prepCheck (.station origin port) p row data →
      c.2.1.status = sOK → (c.1.prepReserve p).isSome = true →
      ∃ d, Answers (.prepare port dest origin txn true p commitN data) s d ∧
        ∃ x ∈ d.krk.preps, x.origin = origin ∧ x.id = txn ∧ x.pkt = p ∧ x.commitN = commitN ∧ x.data = data ∧ x.link = some h) ∧
    (∀ txn chip st dt res, data = [] → s.dev.krk.txns.find? (fun x => x.id == txn) = none →
      ∃ d, Answers (.stationReply port dest txn true chip st dt res data) s d ∧ RegsBut s.dev d pool) ∧
    (∀ txn chip st dt res x, data = [] → s.dev.krk.txns.find? (fun x => x.id == txn) = some x → chip ∈ x.targets → x.phase = 0 → x.coherent = true →
      x.answers.any (fun b => b.chip == chip) = false → ∃ d, Answers (.stationReply port dest txn true chip st dt res data) s d ∧ RegsBut s.dev d pool ∧
        (s.dev.curN + 1 < x.commitN → ∃ y ∈ d.krk.txns, y.id = txn ∧ y.answers = x.answers ++ [⟨chip, st, dt, res⟩] ∧ y.pkt = x.pkt) ∧
        (x.commitN ≤ s.dev.curN + 1 → d.krk.txns = s.dev.krk.txns))) ∧
  (∀ port dest x last, s.dev.linkUp port = true → dest ≠ s.dev.ownIndex → dest ≠ 512 → ∃ d,
    Answers (.identityExchange port dest true (some x) last) s d ∧ d.regs = s.dev.regs ∧ d.krk = s.dev.krk ∧
    (s.dev.linkUp (s.dev.portTo dest) = true → OutMsg.krk (s.dev.portTo dest) 8 dest (identBytes x) ∈ d.out)) ∧
  (∀ port dest, s.dev.linkUp port = true → (dest = s.dev.ownIndex ∨ dest = 512) → ∀ ok last,
    (s.dev.krk.joinCmd = none → Answers (.identityExchange port dest ok none last) s s.start ∧
      ∀ x, ∃ d, Answers (.identityExchange port dest true (some x) last) s d ∧ RegsBut s.dev d [Reg.KRK_PORTp_STAT port] ∧
        (x.neighbour = true → d.get (Reg.KRK_PORTp_STAT_NEIGH port) = x.chip % 512) ∧
        (s.dev.krk.joined = true → ∃ b, OutMsg.krk port 8 x.chip b ∈ d.out)) ∧
    (∀ src p x b t, s.dev.krk.joinCmd = some (src, p) → b = (if dest = 512 then s.start.identityOn port x else s.start).neighbourShown port x →
        t = b.setKrk { b.krk with fibre := max s.dev.krk.fibre x.fibre } →
      ((x.kproto + 1 < s.dev.get Reg.IMG_KPROTO_RUNKP ∨ s.dev.get Reg.IMG_KPROTO_RUNKP + 1 < x.kproto) → ∃ e : Dev,
        e.isOn Reg.KRK_FLAG_JOINERR_F = true ∧ e.krk.joined = s.dev.krk.joined ∧ e.krk.joinCmd = none ∧
        Answers (.identityExchange port dest true (some x) last) s (e.complete (some (src, p, { status := sVERSION_REJECT })))) ∧
      (x.kproto ≤ s.dev.get Reg.IMG_KPROTO_RUNKP + 1 → s.dev.get Reg.IMG_KPROTO_RUNKP ≤ x.kproto + 1 →
        (∀ c, (t.joinCheck port x = some c ∨ (t.joinCheck port x = none ∧ x.code ≠ 0 ∧ c = (x.code, x.chip))) → ∃ e : Dev,
          e.isOn Reg.KRK_FLAG_JOINERR_F = true ∧ e.krk.joined = s.dev.krk.joined ∧ e.krk.joinCmd = none ∧
          Answers (.identityExchange port dest true (some x) last) s (e.complete (some (src, p, { status := sBAD_PARAM, detail := c.1 + 256 * c.2 })))) ∧
        (t.joinCheck port x = none → x.code = 0 → ∃ e : Dev, e.krk.joined = true ∧ e.mst = mJOINING ∧ e.reach e.ownIndex = true ∧
          Answers (.identityExchange port dest true (some x) true) s (e.complete (some (src, p, { status := sOK, result := [BitVec.ofNat 8 mJOINING] })))))))

/-- Krekai: GO, ABORT, expiry, decisions and timeouts. The bytes of GO and ABORT, their paths, and that they take no granules are log entry
21 (DESIGN CHOICE), that one in a halt or a handover waits log entry 30 (DEDUCED), and the clauses in which nothing happens log entry 38
(DESIGN CHOICE). Completion is concluded of: go, abort, prepareExpiry, coherentDecision, stationTimeout. (10_krekai_station_fabric.md R261,
10_krekai_station_fabric.md R263, 10_krekai_station_fabric.md R281, 10_krekai_station_fabric.md R282, 15_squall_snapshot.md R389,
16_firmware_handover.md R407) -/
def Obligations.CoherentTransactions : Prop :=
  ∀ s : State, s.live → ∀ free : List Nat, free = [Reg.SNP_STAT, Reg.HIF_POOL_FREE, Reg.HIF_POOL_LOW, Reg.HIF_POOL_STAT] →
  (∀ port dest origin txn, s.dev.linkUp port = true → ∀ x ∈ [(Instr.go port dest origin txn true, true), (.abort port dest origin txn true, false)],
    (dest ≠ s.dev.ownIndex → ∃ d, Answers x.1 s d ∧ d = { s.start with out := d.out } ∧
      (s.dev.linkUp (s.dev.portTo dest) = true → OutMsg.krk (s.dev.portTo dest) 5 dest (goBytes origin txn x.2) ∈ d.out)) ∧
    (dest = s.dev.ownIndex → s.dev.krk.joined = false → Answers x.1 s s.start) ∧
    (dest = s.dev.ownIndex → s.dev.krk.joined = true → (s.dev.fetching = false ∨ s.dev.krk.inbox ≠ []) → ∃ d, Answers x.1 s d ∧ d.regs = s.dev.regs ∧
      d.host = s.dev.host ∧ ∃ m, d.krk.inbox = s.dev.krk.inbox ++ [m] ∧ m.msg = .decision origin txn x.2)) ∧
  (∀ port dest, s.dev.linkUp port = true → dest = s.dev.ownIndex → s.dev.krk.joined = true → s.dev.fetching = true → s.dev.krk.inbox = [] →
    (∀ origin txn, s.dev.krk.preps.find? (fun x => x.origin == origin && x.id == txn) = none →
      Answers (.go port dest origin txn true) s s.start ∧ (s.dev.goneTo origin txn = none → Answers (.abort port dest origin txn true) s s.start) ∧
      (∀ w, s.dev.goneTo origin txn = some w → ∃ d, Answers (.abort port dest origin txn true) s d ∧ RegsBut s.dev d free ∧
        ∀ y ∈ d.host.waits, y.order ≠ w.order)) ∧
    (∀ origin txn x, s.dev.krk.preps.find? (fun x => x.origin == origin && x.id == txn) = some x →
      (x.commitN ≤ s.dev.curN → Answers (.go port dest origin txn true) s s.start) ∧
      (s.dev.curN < x.commitN → ∃ d, Answers (.go port dest origin txn true) s d ∧ d.regs = s.dev.regs ∧
        (∃ w ∈ d.host.waits, w.pkt = x.pkt ∧ w.kind = .held (x.commitN * s.dev.frameTU) ∧ w.route = some (origin, txn) ∧ w.data = x.data ∧
          w.buf = x.buf ∧ w.bulk = x.bulk ∧ w.link = x.link) ∧
        ∀ y ∈ d.krk.preps, ¬ (y.origin = origin ∧ y.id = txn)) ∧
      (∃ d, Answers (.abort port dest origin txn true) s d ∧ RegsBut s.dev d free ∧ d.host = s.dev.host ∧
        ∀ y, y ∈ d.krk.preps ↔ y ∈ s.dev.krk.preps ∧ ¬ (y.origin = origin ∧ y.id = txn)))) ∧
  ((∀ x ∈ s.dev.krk.preps, s.dev.curN < x.commitN) → Answers .prepareExpiry s s.start) ∧
  (∃ d, Answers .prepareExpiry s d ∧ RegsBut s.dev d free ∧ d.host = s.dev.host ∧ ∀ x ∈ d.krk.preps, s.dev.curN < x.commitN) ∧
  ((∀ x ∈ s.dev.krk.txns, ¬ (x.coherent = true ∧ x.phase = 0 ∧ x.commitN ≤ s.dev.curN + 1)) → Answers .coherentDecision s s.start) ∧
  (∀ x, s.dev.krk.txns = [x] → x.coherent = true → x.phase = 0 → x.commitN ≤ s.dev.curN + 1 →
    (s.dev.viewLost x = false → x.failing x.answers = [] → ∃ d, Answers .coherentDecision s d ∧
      (∀ c ∈ x.targets, c ≠ s.dev.ownIndex → s.dev.linkUp (s.dev.portTo c) = true →
        OutMsg.krk (s.dev.portTo c) 5 c (goBytes s.dev.ownIndex x.id true) ∈ d.out) ∧
      ∃ y, d.krk.txns = [y] ∧ y.phase = 1 ∧ y.deadline = x.commitN + stTout s.dev.krk.table) ∧
    ((s.dev.viewLost x = true ∨ x.failing x.answers ≠ []) → ∃ d, Answers .coherentDecision s d ∧ d.krk.txns = [] ∧
      ∀ c ∈ x.targets, c ≠ s.dev.ownIndex → s.dev.linkUp (s.dev.portTo c) = true →
        OutMsg.krk (s.dev.portTo c) 5 c (goBytes s.dev.ownIndex x.id false) ∈ d.out)) ∧
  ((∀ x ∈ s.dev.krk.txns, ¬ (x.deadline ≤ s.dev.curN ∧ (x.coherent = false ∨ x.phase = 1))) → Answers .stationTimeout s s.start) ∧
  (∀ x w, s.dev.krk.txns = [x] → x.deadline ≤ s.dev.curN → x.coherent = false → x.failing x.answers ≠ [] →
    sget (fun _ => 0) s.dev.krk.area (srcQueue x.src) = 0 → s.dev.host.waits.find? (fun w => w.kind == .routed x.id) = some w →
    Answers .stationTimeout s (((s.start.dropTxn x).freeHold x.copy).finishHost w
      { status := sPARTIAL, detail := (x.failing x.answers).length }))

/-- Masks decide which sources are effective, and never clear a latch. (R287) -/
def Obligations.TripMasks : Prop :=
  (∀ (d : Dev) (c : Nat), c < 24 → d.effective c = d.isOn (Reg.CMP_ROUTEi_TRIP c)) ∧
  (∀ (d : Dev), ∀ c ∈ [0x18, 0x19, 0x1A, 0x1B, 0x1C, 0x1D, 0x21, 0x22, 0x23, 0x25, 0x28, 0x29], d.effective c = d.isOn (prtBit Reg.PRT_EN_LO c)) ∧
  (∀ (d : Dev), ∀ c ∈ [0x20, 0x24, 0x26, 0x27, 0x2A, 0x2B, 0x2C, 0x2D, 0x2E], d.effective c = true) ∧
  (∀ s t : State, step s = .next t → t.dev.MaskOk) ∧
  (∀ (s : State) (w : Word), s.live → ∀ o ∈ [Reg.PRT_EN_LO, Reg.PRT_EN_HI] ++ (List.range 24).map Reg.CMP_ROUTEi, ∃ d,
    Answers (.registerWrite o 4 w) s d ∧ ∀ c ∈ sourceCodes, d.isOn (latF c) = s.dev.isOn (latF c))

/-- Trip inputs, clears of latches, blanking and the watchdog. In recovery latch 0x2C stays set (R379). Two levels of one loop while a path
test runs, and a loop that is not in use, rest on log entry 27 (DEDUCED); the clauses that do nothing on log entry 38 (DESIGN CHOICE).
Completion is concluded of: fltInput, tripInEdge, prtLatClear, loopBlankEnd, loopDiscrepancy, watchdogExpiry. (07_espalier_edge_modulator.md
R197, 11_protection_and_safety.md R286, 11_protection_and_safety.md R288, 11_protection_and_safety.md R289, 11_protection_and_safety.md
R292, 11_protection_and_safety.md R293, 11_protection_and_safety.md R295, 11_protection_and_safety.md R296, 11_protection_and_safety.md
R297) -/
def Obligations.TripInputsAndClears : Prop :=
  ∀ s : State, s.live →
  (∀ n high tdc, 4 ≤ n → Answers (.fltInput n high tdc) s s.start) ∧
  (∀ n tdc, n < 4 → (∃ d, Answers (.fltInput n false tdc) s d ∧ d.regs = s.dev.regs ∧ d.prt.fltPin = clearBit s.dev.prt.fltPin n) ∧
    (∃ d, Answers (.fltInput n true tdc) s d ∧ d.prt.fltPin = s.dev.prt.fltPin ||| 2 ^ n ∧
      (∀ c, c < 12 → s.dev.get (Reg.MOD_HBn_CFG_FLTSEL c) / 2 ^ n % 2 = 1 → d.isOn (Reg.MOD_HBn_STAT_FLTLAT c) = true) ∧
      (s.dev.effective (0x18 + n) = true → d.isOn (latF (0x18 + n)) = true ∧
        (s.dev.anyLatch = false → FirstLatch s.dev d (0x18 + n) (s.dev.stamp tdc))))) ∧
  (∀ k level tdc, 2 ≤ k → Answers (.tripInEdge k level tdc) s s.start) ∧
  (∀ k level tdc, k < 2 → (s.dev.loopOn k = false ∨ s.dev.isOn Reg.PRT_STAT_BLANK = true) →
    ∃ d, Answers (.tripInEdge k level tdc) s d ∧ d.regs = s.dev.regs ∧ d.prt.pinIn / 2 ^ k % 2 = b2n level) ∧
  (∀ k tdc, k < 2 → s.dev.loopOn k = true → s.dev.isOn Reg.PRT_STAT_BLANK = false →
    (∃ d, Answers (.tripInEdge k false tdc) s d ∧ RegsBut s.dev d [Reg.PRT_STAT] ∧ d.tin k = false ∧ d.loopLatch k = s.dev.loopLatch k) ∧
    (∃ d, Answers (.tripInEdge k true tdc) s d ∧ d.tin k = true ∧ d.loopLatch k = true ∧
      (s.dev.effective (0x1C + k) = true → d.isOn (latF (0x1C + k)) = true ∧
        (s.dev.anyLatch = false → FirstLatch s.dev d (0x1C + k) (s.dev.stamp tdc))))) ∧
  (∀ hi w, ∃ d, Answers (.prtLatClear hi w) s d ∧
    (∀ c ∈ sourceCodes, ∀ named, named = ((latF c).off == (if hi then Reg.PRT_LAT_HI else Reg.PRT_LAT_LO) && bit w (c % 32)) →
      d.isOn (latF c) = (s.dev.isOn (latF c) && !(named && !(c == 0x1C || c == 0x1D) && !s.dev.mayNotClear c && !s.dev.latchedNow c))) ∧
    d.get Reg.PRT_CNT_CLRREJ_CNT = satAdd 65535 (s.dev.get Reg.PRT_CNT_CLRREJ_CNT) (sourceCodes.filter (fun c =>
      (latF c).off == (if hi then Reg.PRT_LAT_HI else Reg.PRT_LAT_LO) && bit w (c % 32) && s.dev.isOn (latF c) &&
        (c == 0x1C || c == 0x1D || s.dev.mayNotClear c))).length ∧
    d.st = s.dev.st ∧ RegsBut s.dev d [Reg.PRT_LAT_LO, Reg.PRT_LAT_HI, Reg.PRT_STAT, Reg.PRT_FLAG, Reg.PRT_CNT]) ∧
  (s.dev.prt.blanking = none → Answers .loopBlankEnd s s.start) ∧
  (∀ src p, s.dev.prt.blanking = some (src, p) → ∃ (e : Dev) (r : Reply), Answers .loopBlankEnd s (e.complete (some (src, p, r))) ∧
    e.isOn Reg.PRT_STAT_BLANK = false ∧ e.prt.blanking = none ∧
    (∀ k, k < 2 → (s.dev.loopOn k && s.dev.prt.pinIn / 2 ^ k % 2 == 1) = true → e.loopLatch k = true ∧
      (s.dev.isOn (latF (0x1C + k)) = true → e.isOn (latF (0x1C + k)) = true)) ∧
    (∀ k, k < 2 → (s.dev.loopOn k && s.dev.prt.pinIn / 2 ^ k % 2 == 1) = false → e.isOn (latF (0x1C + k)) = false) ∧
    (e.anyLatch = false → r = { status := sOK } ∧ e.isOn Reg.PRT_FIRST_VALID = false ∧ (s.dev.st = stTRIPPED → e.st = stBLOCKED) ∧
      (s.dev.st ≠ stTRIPPED → e.st = s.dev.st)) ∧
    (e.anyLatch = true → e.isOn Reg.PRT_FLAG_CLRREJ_F = true ∧ r.detail = e.lowestLatch ∧
      r.status = if e.isOn (latF 0x2A) || e.isOn (latF 0x2B) then sSAFETY_LOCK else sTRIP_ACTIVE)) ∧
  ((s.dev.loopOn 0 && s.dev.loopOn 1 && s.dev.tin 0 != s.dev.tin 1) = false → Answers .loopDiscrepancy s s.start) ∧
  ((s.dev.loopOn 0 && s.dev.loopOn 1 && s.dev.tin 0 != s.dev.tin 1) = true → ∃ d, Answers .loopDiscrepancy s d ∧
    d.isOn Reg.PRT_FLAG_LOOPDIS_F = true ∧ (∃ r, d.log.getLast? = some r ∧ r.src = 10 ∧ r.code = 2) ∧
    RegsBut s.dev d [Reg.PRT_FLAG, Reg.SNP_LOGSEQ]) ∧
  (s.dev.isOn (latF 0x2C) = true → Answers .watchdogExpiry s s.start) ∧
  (s.dev.isOn (latF 0x2C) = false → ∃ d, Answers .watchdogExpiry s d ∧ d.isOn (latF 0x2C) = true ∧
    (s.dev.anyLatch = false → FirstLatch s.dev d 0x2C (s.dev.stamp 0)))

/-- The safety channels: contacts, evaluation, faults and resets. Which faults hold which latches, FUNC of a fault of several functions, the
levels read at an evaluation and the fall of HBOK and OSCOK rest on log entry 27 (DEDUCED); the clauses that do nothing on log entry 38
(DESIGN CHOICE). Completion is concluded of: safetyInputChange, safetyEvaluation, discrepancyTimeout, contactorFault, sresetRelease,
sresetStuck, hedgerowHeartbeatLoss, hedgerowOscFault, safetyDiagnostic. (11_protection_and_safety.md R299, 11_protection_and_safety.md R300,
11_protection_and_safety.md R301, 11_protection_and_safety.md R304, 11_protection_and_safety.md R305, 11_protection_and_safety.md R306,
11_protection_and_safety.md R307, 11_protection_and_safety.md R310) -/
def Obligations.SafetyChannelEvents : Prop :=
  ∀ s : State, s.live →
  (∀ i b level, 8 ≤ i → Answers (.safetyInputChange i b level) s s.start) ∧
  (∀ i b level, i < 8 → ∃ d, Answers (.safetyInputChange i b level) s d ∧ bit (d.reg Reg.SAF_SIN) (2 * i + b2n b) = level ∧
    (∀ n, n < 16 → n ≠ 2 * i + b2n b → bit (d.reg Reg.SAF_SIN) n = bit (s.dev.reg Reg.SAF_SIN) n) ∧
    (i < 2 → s.dev.saf.hedge ≠ [] → d.pairReads s.dev.saf.hedge i ≠ 0 → d.get Reg.SAF_HEDGE_DEM / 2 ^ i % 2 = 1) ∧
    (s.dev.safOn i = false → RegsBut s.dev d [Reg.SAF_SIN, Reg.SAF_HEDGE]) ∧
    (s.dev.safOn i = true → s.dev.halfOf i = none → d.pairReads s.dev.saf.confirmed i = 2 →
      d.saf.half = s.dev.saf.half ++ [(i, s.dev.time, s.dev.pairReads s.dev.saf.confirmed i == 1)])) ∧
  (∀ ctf sreset, ∃ d, Answers (.safetyEvaluation ctf sreset) s d ∧ d.get Reg.SAF_STAT_CTF = ctf % 16 ∧ d.isOn Reg.SAF_STAT_SRST = sreset ∧
    d.isOn Reg.SAF_HEDGE_HBOK = true ∧ (∀ i, i < 8 →
      (d.get Reg.SAF_STAT_DEMAND / 2 ^ i % 2 == 1) = (s.dev.get Reg.SAF_STAT_DEMAND / 2 ^ i % 2 == 1 || s.dev.inDemand i) ∧
      (s.dev.inDemand i = true → s.dev.get Reg.SAF_STAT_DEMAND / 2 ^ i % 2 = 0 →
        ∀ k, k < 4 → scMask s.dev.saf.confirmed i / 2 ^ k % 2 = 1 → d.get Reg.SAF_STAT_CTOCMD / 2 ^ k % 2 = 0)) ∧
    RegsBut s.dev d [Reg.SAF_STAT, Reg.SAF_HEDGE, Reg.HIF_EVT, Reg.SNP_LOGSEQ, Reg.VLT_FLAG, Reg.VLT_CNT]) ∧
  (∀ i, (8 ≤ i ∨ s.dev.safOn i = false ∨ s.dev.halfOf i = none ∨ s.dev.saf.discRaised.contains i = true) →
    Answers (.discrepancyTimeout i) s s.start) ∧
  (∀ i, i < 8 → s.dev.safOn i = true → (s.dev.halfOf i).isSome = true → s.dev.saf.discRaised.contains i = false →
    ∃ d, Answers (.discrepancyTimeout i) s d ∧ d.get Reg.SAF_STAT_DEMAND / 2 ^ i % 2 = 1 ∧ d.get Reg.SAF_STAT_FAULT / 2 ^ i % 2 = 1 ∧
      d.isOn Reg.SAF_FLAG_DISC_F = true ∧ d.get Reg.SAF_FAULT_CODE = 1 ∧ d.get Reg.SAF_FAULT_FUNC = i ∧ d.saf.discRaised.contains i = true ∧
      (i < 2 → d.get Reg.SAF_HEDGE_DEM / 2 ^ i % 2 = 1)) ∧
  (∀ k, (4 ≤ k ∨ s.dev.ctfAgrees k = true ∨ s.dev.saf.ctfRaised / 2 ^ k % 2 = 1) → Answers (.contactorFault k) s s.start) ∧
  (∀ k, k < 4 → s.dev.ctfAgrees k = false → s.dev.saf.ctfRaised / 2 ^ k % 2 = 0 → ∃ d, Answers (.contactorFault k) s d ∧
    d.isOn Reg.SAF_FLAG_CTF_F = true ∧ d.get Reg.SAF_FAULT_CODE = 2 ∧ d.get Reg.SAF_STAT_CTOCMD / 2 ^ k % 2 = 0 ∧
    ∀ i, i < 8 → (d.get Reg.SAF_STAT_DEMAND / 2 ^ i % 2 == 1) =
      (s.dev.get Reg.SAF_STAT_DEMAND / 2 ^ i % 2 == 1 || (scMask s.dev.saf.confirmed i / 2 ^ k % 2 == 1 && !s.dev.safDisabled i))) ∧
  (∀ held hedge, ∃ d, Answers (.sresetRelease held hedge) s d ∧ d.isOn Reg.SAF_STAT_SRST = false ∧ d.saf.srStuck = false ∧
    RegsBut s.dev d [Reg.SAF_STAT, Reg.SAF_HEDGE] ∧
    (∀ i, i < 8 → (d.get Reg.SAF_STAT_DEMAND / 2 ^ i % 2 == 1) = (s.dev.get Reg.SAF_STAT_DEMAND / 2 ^ i % 2 == 1 &&
      !(s.dev.cfgValid && s.dev.releasable i && !s.dev.saf.srStuck && decide (160000000 ≤ held) && decide (held ≤ 16000000000)))) ∧
    ((held < 128000000 ∨ 19200000000 < held) → d.reg Reg.SAF_HEDGE = s.dev.reg Reg.SAF_HEDGE)) ∧
  (∃ d, Answers .sresetStuck s d ∧ d.isOn Reg.SAF_FLAG_SRSTUCK_F = true ∧ d.saf.srStuck = true ∧ RegsBut s.dev d [Reg.SAF_FLAG, Reg.SAF_STAT] ∧
    d.get Reg.SAF_STAT_DEMAND = s.dev.get Reg.SAF_STAT_DEMAND) ∧
  (∀ x ∈ [(Instr.hedgerowHeartbeatLoss, Reg.SAF_HEDGE_HBOK), (.hedgerowOscFault, Reg.SAF_HEDGE_OSCOK)], ∃ d, Answers x.1 s d ∧
    d.isOn x.2 = false ∧ d.get Reg.SAF_HEDGE_DEM = 3 ∧ d.get Reg.SAF_FAULT_CODE = 7 ∧ d.saf.hfault % 4 = 3 ∧
    RegsBut s.dev d [Reg.SAF_HEDGE, Reg.SAF_FAULT, Reg.SAF_FSTAMP_LO, Reg.SAF_FSTAMP_HI]) ∧
  (∀ code failed, (code < 3 ∨ 8 < code) → Answers (.safetyDiagnostic code failed) s s.start) ∧
  (∀ code, 3 ≤ code → code ≤ 8 → (∃ d, Answers (.safetyDiagnostic code false) s d ∧ d.saf.bad / 2 ^ code % 2 = 0 ∧
      RegsBut s.dev d [Reg.SAF_HEDGE]) ∧
    (s.dev.saf.bad / 2 ^ code % 2 = 1 → Answers (.safetyDiagnostic code true) s s.start) ∧
    (s.dev.saf.bad / 2 ^ code % 2 = 0 → ∃ d, Answers (.safetyDiagnostic code true) s d ∧ d.get Reg.SAF_FAULT_CODE = code ∧
      (∀ i, i < 8 → code ≠ 7 → (code ≤ 4 → i < 2) → s.dev.safDisabled i = false → d.get Reg.SAF_STAT_DEMAND / 2 ^ i % 2 = 1) ∧
      (code ≠ 5 → d.get Reg.SAF_HEDGE_DEM = 3) ∧ (code ≤ 4 → d.isOn Reg.SAF_FLAG_HDIS_F = true) ∧
      (code = 5 → d.isOn Reg.SAF_FLAG_SELFT_F = true)))

/-- The vault’s supplies, its cell and the harvester. The clauses in which nothing happens rest on log entry 38 (DESIGN CHOICE); that the
crystal periods are operands, that the hand-off leaves the cell cut, and the free numbers of a record written while the main die is off, on
log entry 28 (DESIGN CHOICE). Completion is concluded of: vaultSupplySwitch, harvesterStart, harvesterStop, harvesterVocSample,
cellChargeCut, chargeCutRelease, cellDischargeCut, dischargeCutRelease, cellOvercurrent, cellOcRelease, vaultPowerUp, vaultDark,
coldStartOscillator, coldStartHandoff. (17_power_and_vault.md R423, 17_power_and_vault.md R428, 17_power_and_vault.md R429,
17_power_and_vault.md R430, 17_power_and_vault.md R434, 17_power_and_vault.md R439) -/
def Obligations.VaultSupplyCellAndHarvester : Prop :=
  ∀ (s : State) (l : List Nat), l = [Reg.VLT_STAT, Reg.VLT_FLAG, Reg.VLT_CNT, Reg.SNP_LOGSEQ] →
  (∀ b, ∃ d, Answers (.vaultSupplySwitch b) s d ∧ d.regs = s.dev.regs ∧ d.vlt.onMain = b) ∧
  ((s.dev.vlt.dark = true ∨ s.dev.isOn Reg.VLT_CFG_HEN = false) → Answers .harvesterStart s s.start) ∧
  (s.dev.vlt.dark = false → s.dev.isOn Reg.VLT_CFG_HEN = true → ∃ d, Answers .harvesterStart s d ∧ d.regs = s.dev.regs ∧ d.vlt.boost = true) ∧
  (∃ d, Answers .harvesterStop s d ∧ d.regs = s.dev.regs ∧ d.vlt.boost = false) ∧
  (∀ voc, (s.dev.vlt.boost = false ∨ s.dev.vlt.dark = true) → Answers (.harvesterVocSample voc) s s.start) ∧
  (∀ voc, s.dev.vlt.boost = true → s.dev.vlt.dark = false → ∃ d, Answers (.harvesterVocSample voc) s d ∧ SameBut s.start d [Reg.VLT_TEG] ∧
    d.get Reg.VLT_TEG_VOC = voc % 65536 ∧ d.get Reg.VLT_TEG_VIN = voc * clampNat 16 48 (s.dev.get Reg.VLT_CFG_FOCVK) / 64 % 65536) ∧
  (∀ x ∈ [(Instr.cellChargeCut, true), (.chargeCutRelease, false)], (s.dev.vlt.dark = true → Answers x.1 s s.start) ∧
    (s.dev.vlt.dark = false → ∃ d, Answers x.1 s d ∧ d.regs = s.dev.regs ∧ d.vlt.chargeCut = x.2)) ∧
  (∀ periods, (s.dev.vlt.dark = true ∨ s.dev.vlt.cut = true) → Answers (.cellDischargeCut periods) s (s.start.keeperOff periods)) ∧
  (∀ periods, s.dev.vlt.dark = false → s.dev.vlt.cut = false → ∃ d, Answers (.cellDischargeCut periods) s d ∧
    (s.dev.inReset = true → d.vlt.keeper = s.dev.vlt.keeper + periods * 390625) ∧ RegsBut s.dev d l ∧ d.vlt.cut = true ∧
    d.isOn Reg.VLT_FLAG_CUT_F = true ∧ d.isOn Reg.VLT_STAT_CELLON = false) ∧
  (∀ periods, (s.dev.vlt.cut = false ∨ s.dev.isOn Reg.VLT_STAT_CHG = false) → Answers (.dischargeCutRelease periods) s (s.start.keeperOff periods)) ∧
  (∀ periods, s.dev.vlt.cut = true → s.dev.isOn Reg.VLT_STAT_CHG = true → ∃ d, Answers (.dischargeCutRelease periods) s d ∧
    (s.dev.inReset = true → d.vlt.keeper = s.dev.vlt.keeper + periods * 390625) ∧ RegsBut s.dev d l ∧ d.vlt.cut = false ∧
    (s.dev.vlt.oc = false → d.isOn Reg.VLT_STAT_CELLON = true ∧ ∀ r ∈ d.fram.reqs, r.hold = false) ∧ (s.dev.vlt.oc = true → d.regs = s.dev.regs)) ∧
  (∀ periods, (s.dev.vlt.dark = true ∨ s.dev.vlt.oc = true) → Answers (.cellOvercurrent periods) s (s.start.keeperOff periods)) ∧
  (∀ periods, s.dev.vlt.dark = false → s.dev.vlt.oc = false → ∃ d, Answers (.cellOvercurrent periods) s d ∧
    (s.dev.inReset = true → d.vlt.keeper = s.dev.vlt.keeper + periods * 390625) ∧ RegsBut s.dev d l ∧ d.vlt.oc = true ∧
    d.isOn Reg.VLT_FLAG_OC_F = true ∧ d.isOn Reg.VLT_STAT_CELLON = false) ∧
  (∀ periods, s.dev.vlt.oc = false → Answers (.cellOcRelease periods) s (s.start.keeperOff periods)) ∧
  (∀ periods, s.dev.vlt.oc = true → ∃ d, Answers (.cellOcRelease periods) s d ∧
    (s.dev.inReset = true → d.vlt.keeper = s.dev.vlt.keeper + periods * 390625) ∧ RegsBut s.dev d l ∧ d.vlt.oc = false ∧
    (s.dev.vlt.cut = true → d.regs = s.dev.regs) ∧ (s.dev.vlt.cut = false → d.isOn Reg.VLT_STAT_CELLON = true ∧ ∀ r ∈ d.fram.reqs, r.hold = false)) ∧
  (∀ b, ∃ d, Answers (.vaultPowerUp b) s d ∧ d.vlt.onMain = b ∧ d.vlt.dark = false ∧ (∀ o, isVault o = false → d.reg o = s.dev.reg o) ∧
    d.fram.mem = s.dev.fram.mem ∧ (s.dev.vlt.dark = false → d.regs = s.dev.regs) ∧
    (s.dev.vlt.dark = true → ∀ o, isVault o = true → d.reg o = resetWord o)) ∧
  (s.live → Answers .vaultDark s s.start) ∧
  (s.dev.inReset = true → ∃ d, Answers .vaultDark s d ∧ d.vlt.dark = true ∧ d.fram.reqs = [] ∧ d.fram.mem = s.dev.fram.mem ∧
    ∀ o, d.reg o = if isVault o then resetWord o else s.dev.reg o) ∧
  (s.dev.vlt.dark = false → Answers .coldStartOscillator s s.start) ∧
  (s.dev.vlt.dark = true → ∃ d, Answers .coldStartOscillator s d ∧ SameBut s.start d [Reg.VLT_STAT] ∧ d.isOn Reg.VLT_STAT_CSTART = true) ∧
  (∀ periods, (s.dev.vlt.dark = false ∨ s.dev.isOn Reg.VLT_STAT_CSTART = false) → Answers (.coldStartHandoff periods) s (s.start.keeperOff periods)) ∧
  (∀ periods, s.dev.vlt.dark = true → s.dev.isOn Reg.VLT_STAT_CSTART = true → ∃ d, Answers (.coldStartHandoff periods) s d ∧ d.vlt.dark = false ∧ d.vlt.boost = true ∧
    d.vlt.cut = true ∧ d.isOn Reg.VLT_FLAG_COLD_F = true ∧ d.isOn Reg.VLT_STAT_CSTART = false ∧
    ∀ o, isVault o = false → o ≠ Reg.SNP_LOGSEQ → d.reg o = s.dev.reg o)

/-- The temperature, the keeper, the vault tick and the energy gate. The crystal periods as operands, the test of the reserve with its
measured values as operands, and what a newer request takes over rest on log entry 28 (DESIGN CHOICE), a burst of a main die that is gone on
log entry 67 (DEDUCED), the clauses in which nothing happens on log entry 38 (DESIGN CHOICE). Completion is concluded of: overtempTrip,
tjSensorUpdate, keeperLoad, keeperCrystalLoss, vaultTick, framWriteRequest, framBurstDone. (17_power_and_vault.md R418,
17_power_and_vault.md R425, 17_power_and_vault.md R426, 17_power_and_vault.md R431, 17_power_and_vault.md R434, 17_power_and_vault.md R436,
12_nimbus_metering.md R336, 18_package_and_electrical.md R463) -/
def Obligations.KeeperVaultTickAndGate : Prop :=
  ∀ s : State,
  (s.live → s.dev.tj ≤ 130 * 16 → Answers .overtempTrip s s.start) ∧
  (s.live → 130 * 16 < s.dev.tj → ∃ d, Answers .overtempTrip s d ∧ d.isOn (latF 0x2C) = true ∧
    (s.dev.anyLatch = false → FirstLatch s.dev d 0x2C (s.dev.stamp 0))) ∧
  (∀ tj, s.live → ∃ d, Answers (.tjSensorUpdate tj) s d ∧ d.get Reg.PWR_TJ_TJ = toBits 16 tj ∧ SameBut s.start d [Reg.PWR_TJ]) ∧
  (s.live → (s.dev.unsync || s.dev.freerun) = true → Answers .keeperLoad s s.start) ∧
  (s.live → (s.dev.unsync || s.dev.freerun) = false → ∃ d, Answers .keeperLoad s d ∧ d.vlt.keeper = 4 * s.dev.time ∧
    d.vlt.still = false ∧ d.isOn Reg.VLT_STAT_TKVALID = true ∧ RegsBut s.dev d [Reg.VLT_STAT]) ∧
  (∃ d, Answers .keeperCrystalLoss s d ∧ d.isOn Reg.VLT_STAT_TKVALID = false ∧ d.vlt.still = true ∧
    d.vlt.keeper = s.start.keeperCount.vlt.keeper ∧ RegsBut s.dev d [Reg.VLT_STAT]) ∧
  (∀ vbat tamp ntc teg periods, (s.dev.vlt.dark = true → Answers (.vaultTick vbat tamp ntc teg periods) s (s.start.keeperOff periods)) ∧
    (s.dev.vlt.dark = false → ∃ d, Answers (.vaultTick vbat tamp ntc teg periods) s d ∧
      (s.dev.inReset = true → d.vlt.keeper = s.dev.vlt.keeper + periods * 390625) ∧ d.get Reg.VLT_STAT_VBAT = vbat % 65536 ∧
      (∀ k, k < 4 → (d.get Reg.VLT_STAT_SCST / 2 ^ k % 2 == 1) =
        (s.dev.isOn (Reg.VLT_SCk_EN k) && s.dev.scTripped k (scInput k tamp ntc teg))) ∧
      (∀ r ∈ d.fram.reqs, r.hold = false) ∧ d.isOn Reg.VLT_STAT_SAVE_DEFERRED = d.fram.reqs.any (fun r => r.deferred) ∧
      RegsBut s.dev d [Reg.VLT_STAT, Reg.VLT_FLAG, Reg.VLT_CNT, Reg.SNP_LOGSEQ])) ∧
  (∀ vstart dv, (s.dev.vlt.dark = true ∨ s.dev.fram.reqs.any (fun r => r.started) = true ∨ gatePick s.dev.fram.reqs = none) →
    Answers (.framWriteRequest vstart dv) s s.start) ∧
  (∀ vstart dv r, s.dev.vlt.dark = false → s.dev.fram.reqs.any (fun r => r.started) = false → gatePick s.dev.fram.reqs = some r →
    (s.dev.gatePasses vstart dv (r.tb (s.dev.isOn Reg.VLT_STAT_CELLON)) = true → ∃ d, Answers (.framWriteRequest vstart dv) s d ∧ d.regs = s.dev.regs ∧ d.fram.mem = s.dev.fram.mem ∧
      ∃ q ∈ d.fram.reqs, q.started = true ∧ q.hold = false ∧ q.kind = r.kind ∧ q.bursts = s.start.freshBursts r ∧ ∀ c ∈ r.cmds, c ∈ q.cmds) ∧
    (s.dev.gatePasses vstart dv (r.tb (s.dev.isOn Reg.VLT_STAT_CELLON)) = false → ∃ e : Dev, e.isOn Reg.VLT_FLAG_GATEDEF_F = true ∧ Counted s.dev e Reg.VLT_CNT_DEFCNT ∧
      e.isOn Reg.VLT_STAT_SAVE_DEFERRED = e.fram.reqs.any (fun x => x.deferred) ∧ e.fram.mem = s.dev.fram.mem ∧
      (r.auto = true → { r with cmds := [], deferred := true, hold := true } ∈ e.fram.reqs) ∧ (r.auto = false → r ∉ e.fram.reqs) ∧
      (r.kind = 1 → s.live → e.mtr.retry = true ∧ e.isOn Reg.MTR_FLAG_SAVEDEF_F = true) ∧
      Answers (.framWriteRequest vstart dv) s (e.completeAll (r.cmds.map (fun x => (x.1, x.2, { status := sBUSY, detail := 1 })))))) ∧
  (∀ periods, s.dev.fram.reqs.find? (fun r => r.started) = none → Answers (.framBurstDone periods) s (s.start.keeperOff periods)) ∧
  (∀ periods r b f, s.dev.fram.reqs.find? (fun r => r.started) = some r → b = r.bursts.getD r.done (0, []) → f = (r.bursts.getD 0 (0, [])).2 →
    (r.done + 1 < r.bursts.length → ∃ d, Answers (.framBurstDone periods) s d ∧ d.regs = s.dev.regs ∧ d.fram.mem = writeBytes s.dev.fram.mem b.1 b.2 ∧
      { r with done := r.done + 1, started := r.together } ∈ d.fram.reqs) ∧
    (r.bursts.length ≤ r.done + 1 → r.cmds = [] → ∃ d, Answers (.framBurstDone periods) s d ∧ d.fram.mem = writeBytes s.dev.fram.mem b.1 b.2 ∧
      r ∉ d.fram.reqs ∧ d.isOn Reg.VLT_STAT_SAVE_DEFERRED = d.fram.reqs.any (fun x => x.deferred) ∧
      (2 ≤ r.kind → RegsBut s.dev d [Reg.VLT_STAT]) ∧
      (r.kind = 0 → d.pair Reg.VLT_FAIL_LO Reg.VLT_FAIL_HI = leAt f 0 8) ∧
      (r.kind = 1 → s.live → d.pair Reg.MTR_SAVE_LO Reg.MTR_SAVE_HI = leAt f 0 8 ∧ d.reg Reg.MTR_SAVESEQ = wordAt f 8 ∧ d.mtr.retry = false)) ∧
    (s.live → r.bursts.length ≤ r.done + 1 → r.kind = 1 → (∀ c ∈ r.cmds, pOp c.2 = 0x87) → ∃ e : Dev, e.fram.mem = writeBytes s.dev.fram.mem b.1 b.2 ∧
      r ∉ e.fram.reqs ∧ e.pair Reg.MTR_SAVE_LO Reg.MTR_SAVE_HI = leAt f 0 8 ∧ e.reg Reg.MTR_SAVESEQ = wordAt f 8 ∧ e.mtr.retry = false ∧
      Answers (.framBurstDone periods) s
        (e.completeAll (r.cmds.map (fun c => (c.1, c.2, { status := sOK, result := toLe (e.get Reg.MTR_SAVESEQ_SEQ) 4 }))))) ∧
    (∀ src p, r.bursts.length ≤ r.done + 1 → r.cmds = [(src, p)] → pOp p = 0x80 → ∃ e : Dev, e.fram.mem = writeBytes s.dev.fram.mem b.1 b.2 ∧
      r ∉ e.fram.reqs ∧ e.mtr.cfg = f ∧ e.isOn Reg.MTR_STAT_CFGVALID = true ∧ e.reg Reg.MTR_CFGCRC = BitVec.ofNat 32 (mcCRC f) ∧
      e.mtr.cfgCnt = satAdd 0xFFFF s.dev.mtr.cfgCnt 1 ∧
      Answers (.framBurstDone periods) s (e.completeAll [(src, p, { status := sOK, result := toLe (mcCRC f) 4 })])) ∧
    (∀ src p, r.bursts.length ≤ r.done + 1 → r.cmds = [(src, p)] → pOp p = 0x88 → ∃ e : Dev, e.fram.mem = writeBytes s.dev.fram.mem b.1 b.2 ∧
      r ∉ e.fram.reqs ∧ e.mtr.acc = presetAcc (((r.bursts.getD 1 (0, [])).2).drop 16) ∧
      Answers (.framBurstDone periods) s (e.completeAll [(src, p, { status := sOK })])))

/-- Nimbus: samples, pulses, windows, saves and the last-known power. The filters are free functions and the roundings of the sums those of
log entry 63 (DESIGN CHOICE); a window that waits for its end rests on log entry 23 (DESIGN CHOICE), the replaced save on log entry 28, the
clauses in which nothing happens on log entry 38 (DESIGN CHOICE). Completion is concluded of: meterSample, pulseEdge, harmonicWindowEnd,
freqTimeout, meterSaveDue, saveRetry, lkpRefresh, pulseEnd. (12_nimbus_metering.md R318, 12_nimbus_metering.md R323, 12_nimbus_metering.md
R324, 12_nimbus_metering.md R326, 12_nimbus_metering.md R329, 12_nimbus_metering.md R331, 12_nimbus_metering.md R332, 12_nimbus_metering.md
R335, 12_nimbus_metering.md R336, 12_nimbus_metering.md R338) -/
def Obligations.MeterEvents : Prop :=
  ∀ s : State, s.live →
  (s.dev.mtr.running = false → ∀ k,
    ∀ x ∈ [Instr.meterSample, .pulseEdge k, .harmonicWindowEnd, .freqTimeout, .meterSaveDue, .saveRetry, .lkpRefresh], Answers x s s.start) ∧
  (∀ k, 4 ≤ k → Answers (.pulseEdge k) s s.start ∧ Answers (.pulseEnd k) s s.start) ∧
  (∀ k, k < 4 → ∃ d, Answers (.pulseEnd k) s d ∧ d.regs = s.dev.regs ∧ d.pins.pulseOut = clearBit s.dev.pins.pulseOut k) ∧
  (s.dev.mtr.running = true →
    ((s.dev.mtr.marks = [] ∨ ∃ k, k < 7 ∧ mcPAIR s.dev.mtr.cfg k ≠ 0xFF ∧ (s.dev.mtr.chans.getD k {}).out = []) → Answers .meterSample s s.start) ∧
    (∀ mark rest o e outs, s.dev.mtr.marks = mark :: rest → (∀ k, k < 7 → mcPAIR s.dev.mtr.cfg k ≠ 0xFF → (s.dev.mtr.chans.getD k {}).out ≠ []) →
      o = (⟨mark, s.dev.mtr.chans.map (fun c => c.out.headD fZero), s.dev.sampleBad mark.clk, s.dev.sampleDegr mark.clk⟩ : MtrOut) →
      e = (((s.start.setMtr { s.dev.mtr with marks := rest, chans := s.dev.mtr.chans.map (fun c => { c with out := c.out.drop 1 }) }).sampleFlags
        o).mtrLowpass o).winSample o → outs = (o :: s.dev.mtr.outs).take 5200 → ∃ d, Answers .meterSample s d ∧ d.mtr.outs = outs ∧ d.mtr.marks = rest ∧
      (outs.length < 1023 → d.regs = e.regs ∧ d.mtr.acc = s.dev.mtr.acc ∧ d.mtr.hist = s.dev.mtr.hist) ∧
      (1023 ≤ outs.length → ∀ dl m win px qx p q inc, dl = outs.getD 511 o →
        m = (⟨dl.x.take 3, (List.range 3).map (fun k => Config.meterHilbert ((outs.take 1023).map (fun x => x.x.getD k 0))), dl.x.drop 3⟩ : MtrSample) →
        win = ((m :: s.dev.mtr.hist).take 400).take e.slideLen → px = (List.range 3).map (fun x => phaseMean (·.v) x win) →
        qx = (List.range 3).map (fun x => phaseMean (·.vh) x win) → p = fSum px → q = fSum qx →
        inc = increments (mcPNL s.dev.mtr.cfg) (mcQNL s.dev.mtr.cfg) p q px qx →
          d.reg Reg.MTR_PTOT = p ∧ d.reg Reg.MTR_QTOT = q ∧ d.isOn Reg.MTR_STAT_NOLOAD = fLt (fAbs p) (mcPNL s.dev.mtr.cfg) ∧
          d.mtr.last = dl.mark.stamp ∧
          (∀ k, k < 18 → d.mtr.acc.getD k 0 = (s.dev.mtr.acc.getD k 0 + ((inc.getD k none).map incFixed).getD 0) % 2 ^ 96) ∧
          (((inc.getD 0 none).isSome || (inc.getD 1 none).isSome) = true → d.mtr.dir = some (inc.getD 1 none).isSome ∧
            d.isOn Reg.MTR_STAT_DIR = (inc.getD 1 none).isSome) ∧
          (((inc.getD 0 none).isSome || (inc.getD 1 none).isSome) = false → d.mtr.dir = s.dev.mtr.dir))) ∧
    (∀ k, k < 4 → k < s.dev.mtr.pulses.length → ∀ p back due, p = s.dev.mtr.pulses.getD k {} → back = s.dev.get (Reg.MTR_PSTATk_BACKLOG k) →
      due = p.due.takeWhile (fun t => decide (t ≤ s.dev.time)) →
      (due = [] → (s.dev.pulseFree k = false ∨ back = 0) → Answers (.pulseEdge k) s s.start) ∧
      (∃ d, Answers (.pulseEdge k) s d ∧ (d.mtr.pulses.getD k {}).due = p.due.drop due.length ∧ RegsBut s.dev d [Reg.MTR_PSTATk k, Reg.MTR_FLAG] ∧
        (s.dev.pulseFree k = true → (due ≠ [] ∨ 0 < back) → d.pins.pulseOut = s.dev.pins.pulseOut ||| 2 ^ k ∧
          (d.mtr.pulses.getD k {}).last = some s.dev.clocks) ∧
        (s.dev.pulseFree k = true → due = [] → 0 < back → d.get (Reg.MTR_PSTATk_BACKLOG k) = back - 1) ∧
        (s.dev.pulseFree k = true → back = 0 → due.length = 1 → d.regs = s.dev.regs) ∧
        (s.dev.pulseFree k = false → d.pins = s.dev.pins ∧ d.get (Reg.MTR_PSTATk_BACKLOG k) = min 65535 (back + due.length) ∧
          (65535 < back + due.length → d.isOn Reg.MTR_FLAG_PBKLOG_F = true ∧
            d.get (Reg.MTR_PSTATk_LOST k) = satAdd 65535 (s.dev.get (Reg.MTR_PSTATk_LOST k)) (back + due.length - 65535))))) ∧
    ((s.dev.isOn Reg.MTR_CTL_HEN = false ∨ s.dev.mtr.ended = []) → Answers .harmonicWindowEnd s s.start) ∧
    (∀ t0 stop flags inv rest, s.dev.isOn Reg.MTR_CTL_HEN = true → s.dev.mtr.ended = (t0, stop, flags, inv) :: rest →
      ∃ d, Answers .harmonicWindowEnd s d ∧ d.mtr.ended = rest ∧ d.mtr.winCount = s.dev.mtr.winCount + 1 ∧
        (∃ w, d.mtr.win = some w ∧ w.start = t0 ∧ w.len = stop - t0 ∧ w.points = winPoints s.dev.mtr.outs t0 (stop - t0) ∧ w.chunks = 0) ∧
        (s.dev.mtr.win = none → d.regs = s.dev.regs) ∧
        (s.dev.mtr.win ≠ none → d.isOn Reg.MTR_FLAG_HGAP_F = true ∧ Counted s.dev d Reg.MTR_CNT_HGAP_CNT)) ∧
    (∃ d, Answers .freqTimeout s d ∧ d.isOn Reg.MTR_STAT_FREQINV = true ∧ d.reg Reg.MTR_FREQ = fOfNat (mcF0 s.dev.mtr.cfg) ∧
      d.mtr.cross = [] ∧ RegsBut s.dev d [Reg.MTR_FREQ, Reg.MTR_STAT]) ∧
    (∀ b, b = saveBurst s.dev.mtr.last s.dev.nextSave (s.dev.reg Reg.MTR_CFGCRC).toNat s.dev.mtr.acc →
      ∀ x ∈ [(Instr.meterSaveDue, true), (.saveRetry, s.dev.mtr.retry)], x.2 = true → ∃ d q, Answers x.1 s d ∧ d.regs = s.dev.regs ∧ q ∈ d.fram.reqs ∧
        q.bursts = [b] ∧ q.kind = 1 ∧ q.auto = true ∧ q.started = false ∧ (∀ y ∈ d.fram.reqs, y.kind = 1 → y.started = false → y = q) ∧
        (x.1 = .meterSaveDue → d.mtr.retry = false)) ∧
    (s.dev.mtr.retry = false → Answers .saveRetry s s.start) ∧
    (s.dev.mtr.num = 0 → Answers .lkpRefresh s s.start) ∧
    (s.dev.mtr.num ≠ 0 → ∃ d, Answers .lkpRefresh s d ∧ d.isOn Reg.VLT_STAT_LKPVALID = true ∧ d.mtr.lkp.stamp = s.dev.mtr.last ∧ d.mtr.num = 0 ∧
      d.mtr.lkp.p = fRound (decide (s.dev.mtr.sumP < 0)) s.dev.mtr.sumP.natAbs s.dev.mtr.num (-149) ∧ RegsBut s.dev d [Reg.VLT_STAT]))

/-- Doorbells, and the admin queue’s creation and deletion. That EN set on a queue that exists does nothing, and a doorbell of no queue of
the 64, rest on log entry 38 (DESIGN CHOICE). Completion is concluded of: sqtDoorbell, cqhDoorbell, aqEnable, aqDisable.
(13_host_command_interface.md R346, 13_host_command_interface.md R348, 13_host_command_interface.md R363, 13_host_command_interface.md R365)
-/
def Obligations.DoorbellsAndAdminQueue : Prop :=
  ∀ s : State, s.live →
  (∀ q v, 64 ≤ q → Answers (.sqtDoorbell q v) s s.start ∧ Answers (.cqhDoorbell q v) s s.start) ∧
  (∀ q v x, q < 64 → s.dev.queue q = x →
    (s.dev.isOn Reg.HIF_STAT_CMDRDY = false →
      (∃ d, Answers (.sqtDoorbell q v) s d ∧ d.regs = s.dev.regs ∧ d.queue q = { x with kept := x.kept ++ [(false, v % 4096)] }) ∧
      (∃ d, Answers (.cqhDoorbell q v) s d ∧ d.regs = s.dev.regs ∧ d.queue q = { x with kept := x.kept ++ [(true, v % 4096)] })) ∧
    (s.dev.isOn Reg.HIF_STAT_CMDRDY = true →
      (x.exists_ = true → v % 4096 < 2 ^ x.sqLog → ∃ d, Answers (.sqtDoorbell q v) s d ∧ d.regs = s.dev.regs ∧
        d.queue q = { x with sqTail := v % 4096 }) ∧
      (x.exists_ = false → ∃ d, Answers (.sqtDoorbell q v) s d ∧ d.isOn Reg.HIF_FLAG_DBERR_F = true ∧ d.queue q = x ∧
        RegsBut s.dev d [Reg.HIF_FLAG, Reg.HIF_EVT]) ∧
      (x.exists_ = true → 2 ^ x.sqLog ≤ v % 4096 → ∃ d, Answers (.sqtDoorbell q v) s d ∧
        d.isOn Reg.HIF_FLAG_DBERR_F = true ∧ d.queue q = { x with err := true } ∧ RegsBut s.dev d [Reg.HIF_FLAG, Reg.HIF_EVT]) ∧
      (∀ n, n = (v % 4096 + 2 ^ x.cqLog - x.cqHead) % 2 ^ x.cqLog →
        (x.exists_ = true → v % 4096 < 2 ^ x.cqLog → n ≤ x.unreleased → ∃ d, Answers (.cqhDoorbell q v) s d ∧ d.regs = s.dev.regs ∧
          d.queue q = { x with cqHead := v % 4096, unreleased := x.unreleased - n }) ∧
        ((x.exists_ = false ∨ 2 ^ x.cqLog ≤ v % 4096 ∨ x.unreleased < n) → ∃ d, Answers (.cqhDoorbell q v) s d ∧
          d.isOn Reg.HIF_FLAG_DBERR_F = true ∧ d.queue q = x ∧ RegsBut s.dev d [Reg.HIF_FLAG, Reg.HIF_EVT])))) ∧
  (∀ cfg, s.dev.isOn Reg.HIF_AQ_CFG_EN = true → Answers (.aqEnable cfg) s s.start) ∧
  (∀ cfg t, s.dev.isOn Reg.HIF_AQ_CFG_EN = false → (s.dev.queue 0).closing = false →
    t = s.start.setReg Reg.HIF_AQ_CFG (cfg &&& 0x603F0F0F#32) → ∀ good, good = ((t.isOn Reg.HIF_AQ_CFG_WIN ||
      (sizeOk (t.get Reg.HIF_AQ_CFG_SQLOG) && sizeOk (t.get Reg.HIF_AQ_CFG_CQLOG))) && t.pair Reg.HIF_AQ_SQB_LO Reg.HIF_AQ_SQB_HI % 64 == 0 &&
        t.pair Reg.HIF_AQ_CQB_LO Reg.HIF_AQ_CQB_HI % 64 == 0) →
    (good = true → ∃ d, Answers (.aqEnable cfg) s d ∧ d.isOn Reg.HIF_AQ_CFG_EN = true ∧ (d.queue 0).exists_ = true ∧
      (d.queue 0).win = t.isOn Reg.HIF_AQ_CFG_WIN ∧ (d.queue 0).vec = t.get Reg.HIF_AQ_CFG_IV ∧
      (d.queue 0).sqBase = t.pair Reg.HIF_AQ_SQB_LO Reg.HIF_AQ_SQB_HI ∧
      (d.queue 0).sqLog = (if t.isOn Reg.HIF_AQ_CFG_WIN then 4 else t.get Reg.HIF_AQ_CFG_SQLOG) ∧ RegsBut s.dev d [Reg.HIF_AQ_CFG]) ∧
    (good = false → ∃ d, Answers (.aqEnable cfg) s d ∧ d.isOn Reg.HIF_AQ_CFG_EN = false ∧ d.isOn Reg.HIF_FLAG_AQERR_F = true ∧
      d.queue 0 = s.dev.queue 0 ∧ RegsBut s.dev d [Reg.HIF_AQ_CFG, Reg.HIF_FLAG, Reg.HIF_EVT])) ∧
  (∀ cfg, s.dev.isOn Reg.HIF_AQ_CFG_EN = false → (s.dev.queue 0).closing = true → ∃ d, Answers (.aqEnable cfg) s d ∧
    d.isOn Reg.HIF_AQ_CFG_EN = false ∧ d.isOn Reg.HIF_FLAG_AQERR_F = true ∧ d.queue 0 = s.dev.queue 0) ∧
  (s.dev.isOn Reg.HIF_AQ_CFG_EN = true → (s.dev.queue 0).exists_ = true → ∃ d, Answers .aqDisable s d ∧ d.isOn Reg.HIF_AQ_CFG_EN = false ∧
    (s.dev.busyQueue 0 = false → (d.queue 0).exists_ = false) ∧
    (s.dev.busyQueue 0 = true → (d.queue 0).exists_ = true ∧ (d.queue 0).closing = true) ∧
    ∀ w ∈ d.host.waits, w.src = .queue 0 → w.kind.blocks = true)

/-- The mailbox, fetching, and commands held or deferred. A row of an opcode as the fetch of its packet is log entry 3 (DESIGN CHOICE), the
order of the commands that are due log entry 51 (DEDUCED), the mailbox beside queue 0 log entry 59 (DEDUCED), the clauses that do nothing
log entry 38 (DESIGN CHOICE). Completion is concluded of: mbxGo, mbxStatRead, mbxAck, entryFetch, heldCommandDue, deferredCommandRun,
deferralTimeout. (13_host_command_interface.md R341, 13_host_command_interface.md R349, 13_host_command_interface.md R351,
13_host_command_interface.md R355, 13_host_command_interface.md R357, 13_host_command_interface.md R358, 13_host_command_interface.md R360,
13_host_command_interface.md R361, 13_host_command_interface.md R362) -/
def Obligations.MailboxAndFetching : Prop :=
  ∀ s : State, s.live →
  ((s.dev.isOn Reg.HIF_MBX_STAT_BUSY || s.dev.isOn Reg.HIF_MBX_STAT_VALID) = true → ∃ d, Answers .mbxGo s d ∧ d.host.mbxPkt = s.dev.host.mbxPkt ∧
    d.isOn Reg.HIF_FLAG_MBXERR_F = true ∧ RegsBut s.dev d [Reg.HIF_FLAG, Reg.HIF_EVT]) ∧
  ((s.dev.isOn Reg.HIF_MBX_STAT_BUSY || s.dev.isOn Reg.HIF_MBX_STAT_VALID) = false → ∃ d, Answers .mbxGo s d ∧
    d.host.mbxPkt = some s.dev.mbxPacket ∧ d.isOn Reg.HIF_MBX_STAT_BUSY = true ∧ RegsBut s.dev d [Reg.HIF_MBX_STAT]) ∧
  (∃ d, Answers .mbxStatRead s d ∧ d.regs = s.dev.regs ∧ d.out = [.readData (s.dev.view Reg.HIF_MBX_STAT)] ∧ d.host.mbx.live = s.dev.host.mbx.live ∧ d.host.mbx.latched =
    if s.dev.isOn Reg.HIF_MBX_STAT_VALID then s.dev.host.mbx.live else s.dev.host.mbx.live.set 3 (s.dev.host.mbx.live.getD 3 0 ||| 2#8)) ∧
  (∀ seq, (s.dev.isOn Reg.HIF_MBX_STAT_VALID && s.dev.get Reg.HIF_MBX_STAT_SEQ == seq % 256) = false → ∃ d, Answers (.mbxAck seq) s d ∧
    d.isOn Reg.HIF_FLAG_MBXERR_F = true ∧ d.host.mbx = s.dev.host.mbx ∧ RegsBut s.dev d [Reg.HIF_FLAG, Reg.HIF_EVT]) ∧
  (∀ seq, (s.dev.isOn Reg.HIF_MBX_STAT_VALID && s.dev.get Reg.HIF_MBX_STAT_SEQ == seq % 256) = true →
    (s.dev.host.mbx.queued = none → ∃ d, Answers (.mbxAck seq) s d ∧ d.isOn Reg.HIF_MBX_STAT_VALID = false ∧
      d.isOn Reg.HIF_MBX_STAT_STALE = true ∧ RegsBut s.dev d [Reg.HIF_MBX_STAT]) ∧
    (∀ b, s.dev.host.mbx.queued = some b → ∃ d, Answers (.mbxAck seq) s d ∧ d.isOn Reg.HIF_MBX_STAT_VALID = true ∧ d.host.mbx.live = b ∧
      d.isOn Reg.HIF_MBX_STAT_BUSY = false ∧ d.isOn Reg.HIF_MBX_STAT_STALE = false ∧ d.host.mbx.queued = none)) ∧
  (∀ t, t = s.start.grantEntries →
    (∀ p g w e row r x, t.mbxMayFetch = true → t.host.mbxPkt = some p → (t.queue 0).granted = some g → opRow (pOp p) = some row →
      ({ t.setGrant 0 none with host := { (t.setGrant 0 none).host with mbxPkt := none } } : Dev).starts
        { src := .mailbox, pkt := p, kind := .executing, order := 0, gran := g } = some (w, e) →
      row.body .mailbox p e = (r, some x) → CompletesWith .entryFetch s w r x) ∧
    (∀ q g x, t.mbxMayFetch = false → t.fetchOrder.find? (fun q => t.mayFetch q && (t.queue q).granted.isSome) = some q →
      (t.queue q).granted = some g → x = t.queue q → ∀ bad, bad = (!x.win && t.hostBad.any (fun b =>
        decide (x.sqAt q x.sqHead < b.1 + b.2) && decide (b.1 < x.sqAt q x.sqHead + 64))) →
      (bad = true → ∃ d, Answers .entryFetch s d ∧ (d.queue q).err = true ∧ (d.queue q).sqHead = x.sqHead ∧
        d.isOn Reg.HIF_FLAG_DMAERR_F = true) ∧
      (∀ p u w e row r y, bad = false → p = (if x.win then readBytes t.host.ringWin (x.sqAt q x.sqHead) 64 else t.hostRead (x.sqAt q x.sqHead) 64) →
        opRow (pOp p) = some row →
        u = ((t.setGrant q none).setQueue q { x with granted := none, sqHead := (x.sqHead + 1) % 2 ^ x.sqLog, cqRes := x.cqRes + 2 }) →
        ({ u with host := { u.host with lastServed := if q = 0 then u.host.lastServed else q } } : Dev).starts
          { src := .queue q, pkt := p, kind := .executing, order := 0, gran := g } = some (w, e) →
        row.body (.queue q) p e = (r, some y) → CompletesWith .entryFetch s w r y))) ∧
  ((s.dev.fetching = false ∨ s.dev.nextDue = none) → Answers .heldCommandDue s s.start ∧ Answers .deferredCommandRun s s.start) ∧
  (∀ w row t, s.dev.fetching = true → s.dev.nextDue = some w → opRow (pOp w.pkt) = some row → t = s.start.turnOf w →
    (w.isDeferred = true → Answers .heldCommandDue s s.start) ∧ (w.isDeferred = false → Answers .deferredCommandRun s s.start) ∧
    (∀ r x, (w.isDeferred = true ∨ (badTarget w.pkt = false ∧ s.dev.accepts w.pkt row = true)) →
      row.body w.src w.pkt (t.bodyState w) = (r, some x) →
      CompletesWith (if w.isDeferred then .deferredCommandRun else .heldCommandDue) s w r x) ∧
    (w.isDeferred = false → badTarget w.pkt = false → s.dev.accepts w.pkt row = false → (pDeferOk w.pkt && !coherent w.pkt) = false →
      Answers .heldCommandDue s (t.finish w { status := sSTATE_CONFLICT, detail := stateMask (s.dev.acceptList w.pkt row) }))) ∧
  (∀ l, l = s.dev.host.waits.filter (fun w => match w.kind with | .deferred lim => lim != 0 && decide (lim ≤ s.dev.time) | _ => false) →
    (firstWait l = none → Answers .deferralTimeout s s.start) ∧
    (∀ w row, firstWait l = some w → opRow (pOp w.pkt) = some row →
      Answers .deferralTimeout s (s.start.finish w { status := sSTATE_CONFLICT, detail := stateMask (s.dev.acceptList w.pkt row) })))

/-- Register writes and what they set off, and the interrupts. Where the MSI-X table and Message Control lie, and that a vector is masked
until it is written, rest on log entry 13 (PRESUMED); the stop of the converters on log entry 57 (DESIGN CHOICE). Completion is concluded
of: registerWrite, abort, w1cWrite, mbxGo, mbxAck, poolLowRearm, frmPeakRearm, pwrPeakRearm, jsoftTrigger, angRearm, snpRel, aqEnable,
prtLatClear, sqtDoorbell, cqhDoorbell. (00_scope.md R6, 00_scope.md R7, 00_scope.md R8, 00_scope.md R10, 00_scope.md R12,
02_time_and_frame.md R36, 02_time_and_frame.md R51, 04_grid_angle.md R107, 13_host_command_interface.md R352, 13_host_command_interface.md
R365, 17_power_and_vault.md R438) -/
def Obligations.RegisterWrites : Prop :=
  (∀ s : State, s.live →
  (∀ a n w, (n ≠ 4 ∨ a % 4 ≠ 0) → ∃ d, Answers (.registerWrite a n w) s d ∧ d = { s.dev with out := [.abort] }) ∧
  (∀ a w, a % 4 = 0 → ((findReg a = none ∧ (a < 0x8000 ∨ 0x8400 ≤ a ∧ a < 0x10000)) ∨ (0x8000 ≤ a ∧ a < 0x8400 ∧ 8 ≤ a % 16)) →
    ∀ i ∈ [Instr.registerWrite a 4 w, .w1cWrite a w], Answers i s s.start) ∧
  (∀ a w k, a % 4 = 0 → findReg a = some k → actsOnWrite a = false → ∀ i ∈ [Instr.registerWrite a 4 w, .w1cWrite a w], ∃ d, Answers i s d ∧
    d.reg a = k.write (s.dev.st == stCONFIG) (s.dev.reg a) (s.dev.takenAs a (s.dev.afterEvents k a w)) ∧ RegsBut s.dev d [a, Reg.HIF_FLAG, Reg.HIF_EVT] ∧
    (∀ f ∈ k.fields, f.acc = .w1c → ∀ b, f.lo ≤ b → b ≤ f.hi → 
      bit (d.reg a) b = (bit (s.dev.reg a) b && !(bit w b && !((s.dev.clkEvents a).elim false (fun e => bit e.2 b))))) ∧
    (∀ f ∈ k.fields, f.acc = .rw → (f.cfg = false ∨ s.dev.st = stCONFIG) → 
      bits (d.reg a) f.hi f.lo = bits (s.dev.takenAs a (s.dev.afterEvents k a w)) f.hi f.lo) ∧
    (∀ f ∈ k.fields, f.acc ≠ .w1c → (f.acc ≠ .rw ∨ (f.cfg = true ∧ s.dev.st ≠ stCONFIG)) →
      bits (d.reg a) f.hi f.lo = bits (s.dev.reg a) f.hi f.lo) ∧
    ((s.dev.st ≠ stCONFIG ∧ k.cfgDiffers (s.dev.reg a) w = true) → d.isOn Reg.HIF_FLAG_HIF_WERR_F = true) ∧
    ((s.dev.st = stCONFIG ∨ k.cfgDiffers (s.dev.reg a) w = false) → RegsBut s.dev d [a])) ∧
  (∀ a w k v, a % 4 = 0 → findReg a = some k → (a ∈ [Reg.HIF_EVT, Reg.HIF_EVTEN, Reg.CLK_CFG, Reg.FRM_CFG, Reg.FRM_FLAG, Reg.ADC_CTL, Reg.ANG_CFG, Reg.CE_SPP_CFG,
      Reg.PRT_CFG] ∨ (0x1800 ≤ a ∧ a < 0x18C0) ∨ (0x2A00 ≤ a ∧ a < 0x2D00) ∨ (0x3100 ≤ a ∧ a < 0x3200)) → v = s.dev.afterEvents k a w →
    ∃ d, Answers (.registerWrite a 4 w) s d ∧ d.reg a = k.write (s.dev.st == stCONFIG) (s.dev.reg a) (s.dev.takenAs a v) ∧
    (s.dev.st ≠ stCONFIG → k.cfgDiffers (s.dev.reg a) w = true → d.isOn Reg.HIF_FLAG_HIF_WERR_F = true) ∧
    (a = Reg.HIF_EVT → (s.dev.reg a &&& v) ≠ 0#32 → d.evtMasked ≠ 0 → VectorRaised s.dev d 64) ∧
    (a = Reg.HIF_EVT → ((s.dev.reg a &&& v) = 0#32 ∨ d.evtMasked = 0) → d.out = [] ∧ d.host.pba = s.dev.host.pba) ∧
    (a = Reg.HIF_EVTEN → s.dev.evtMasked = 0 → d.evtMasked ≠ 0 → VectorRaised s.dev d 64) ∧
    (a = Reg.CLK_CFG → bits (d.reg a) 3 0 ≠ bits (s.dev.reg a) 3 0 → d.pllst = pBAND) ∧
    (a = Reg.FRM_CFG → bits (d.reg a) 2 0 ≠ bits (s.dev.reg a) 2 0 → d.reg Reg.FRM_PHASE = BitVec.ofNat 32 (defaultPhase (d.get Reg.FRM_CFG_RATE))) ∧
    (a = Reg.FRM_CFG → bits w 2 0 = 7 → s.dev.st = stCONFIG → d.isOn Reg.HIF_FLAG_HIF_WERR_F = true ∧ d.get Reg.FRM_CFG_RATE = s.dev.get Reg.FRM_CFG_RATE) ∧
    (a = Reg.FRM_FLAG → bit v 0 = true → d.reg Reg.FRM_OVR = 0#32) ∧
    (a = Reg.ADC_CTL → s.dev.isOn Reg.ADC_CTL_EN = true → d.isOn Reg.ADC_CTL_EN = false → d.adc.cal = none ∧ d.isOn Reg.ADC_CALSTAT_BUSY = false ∧
      ∀ c, d.convRun c = none) ∧
    (a = Reg.ADC_CTL → s.dev.isOn Reg.ADC_CTL_EN = false → d.isOn Reg.ADC_CTL_EN = true → ∀ n, d.ainRes n = none ∧ d.injRes n = none) ∧
    (a = Reg.ANG_CFG → s.dev.isOn Reg.ANG_CFG_EN = false → d.isOn Reg.ANG_CFG_EN = true → d.xst = xWAIT ∧ d.ang.fx = fZero) ∧
    (a = Reg.ANG_CFG → d.isOn Reg.ANG_CFG_EN = false → d.xst = xOFF) ∧
    (a = Reg.CE_SPP_CFG → s.dev.isOn Reg.CE_SPP_CFG_EN = true → d.isOn Reg.CE_SPP_CFG_EN = false → d.spst = spOFF) ∧
    (a = Reg.CE_SPP_CFG → s.dev.isOn Reg.CE_SPP_CFG_EN = false → d.isOn Reg.CE_SPP_CFG_EN = true → s.dev.spst = spOFF → d.spst = spFALLBACK) ∧
    (∀ r, r < 2 → a = Reg.PRT_CFG → s.dev.loopOn r = false → d.loopOn r = true → s.dev.isOn Reg.PRT_STAT_BLANK = false →
      d.tin r = (s.dev.prt.pinIn / 2 ^ r % 2 == 1) ∧ (s.dev.prt.pinIn / 2 ^ r % 2 = 1 → d.loopLatch r = true)) ∧
    (∀ i, i < 24 → a = Reg.CMP_CFGi i → s.dev.isOn (Reg.CMP_CFGi_EN i) = false → d.isOn (Reg.CMP_CFGi_EN i) = true →
      d.cmp.powering / 2 ^ i % 2 = 1 ∧ d.cmpTripped i = bit (d.reg a) 30) ∧
    (∀ r, r < 16 → a = Reg.THK_RINGr_CFG r → d.ringEn r = false → d.ringSt r = rsOFF) ∧
    (∀ n, n < 12 → a = Reg.MOD_HBn_CFG n → s.dev.isOn (Reg.MOD_HBn_CFG_EN n) = true → d.isOn (Reg.MOD_HBn_CFG_EN n) = false →
      d.get (Reg.MOD_HBn_STAT_OUT n) = 0)) ∧
  (∀ x ∈ [(Reg.HIF_MBX_CTL, 0), (Reg.HIF_POOL_LOW, 31), (Reg.FRM_PEAK, 31), (Reg.PWR_PEAK, 31), (Reg.ANG_CTL, 0)], ∀ w, bit w x.2 = false →
    ∃ d, Answers (.registerWrite x.1 4 w) s d ∧ RegsBut s.dev d [x.1]) ∧
  (∀ w, ∃ d, Answers (.registerWrite Reg.HIF_PTPOFS_LO 4 w) s d ∧ d.regs = (s.dev.setReg Reg.HIF_PTPOFS_LO (s.dev.reg Reg.HIF_PTPOFS_LO)).regs ∧ d.host.mgt.ofsLow = some w) ∧
  (∀ w, ∃ d, Answers (.registerWrite Reg.HIF_PTPOFS_HI 4 w) s d ∧ d.reg Reg.HIF_PTPOFS_HI = w ∧ d.host.mgt.ofsLow = none ∧
    d.reg Reg.HIF_PTPOFS_LO = s.dev.host.mgt.ofsLow.getD (s.dev.reg Reg.HIF_PTPOFS_LO) ∧ RegsBut s.dev d [Reg.HIF_PTPOFS_LO, Reg.HIF_PTPOFS_HI]) ∧
  (∀ w, s.dev.isOn Reg.HIF_AQ_CFG_EN = false → bit w 31 = false → ∃ d, Answers (.registerWrite Reg.HIF_AQ_CFG 4 w) s d ∧
    d.reg Reg.HIF_AQ_CFG = w &&& 0x603F0F0F#32 ∧ RegsBut s.dev d [Reg.HIF_AQ_CFG]) ∧
  (∀ w, s.dev.isOn Reg.HIF_AQ_CFG_EN = true → bit w 31 = true → Answers (.registerWrite Reg.HIF_AQ_CFG 4 w) s s.start) ∧
  (∀ w, ∃ d, Answers (.registerWrite Reg.ADC_CALCTL 4 w) s d ∧ d.get Reg.ADC_CALCTL_CH = min 47 (bits w 5 0) ∧
    (bits w 9 8 = 0 → min 47 (bits w 5 0) = s.dev.get Reg.ADC_CALCTL_CH → RegsBut s.dev d [Reg.ADC_CALCTL])) ∧
  (∀ w, ∃ d, Answers (.registerWrite Reg.THK_CMD 4 w) s d ∧
    (bits w 31 30 = 2 → s.dev.stIn stillStates = false → d.isOn Reg.THK_FLAG_CMDREJ_F = true) ∧
    (bits w 31 30 = 2 → s.dev.stIn stillStates = true → s.dev.ringEn (bits w 3 0) = true → d.ringSt (bits w 3 0) = rsDISCOVER) ∧
    (bits w 31 30 = 1 → s.dev.ringSt (bits w 3 0) ≠ rsMULTI → s.dev.ringSt (bits w 3 0) ≠ rsFOLDED → d.isOn Reg.THK_FLAG_CMDREJ_F = true) ∧
    (bits w 31 30 ≠ 1 → bits w 31 30 ≠ 2 → RegsBut s.dev d [Reg.THK_CMD])) ∧
  (∀ a w k, a % 4 = 0 → isVault a = true → findReg a = some k → (s.dev.vlt.dark = true → Answers (.registerWrite a 4 w) s s.start) ∧
    (s.dev.vlt.dark = false → ∃ d, Answers (.registerWrite a 4 w) s d ∧ d.reg a = k.write (s.dev.st == stCONFIG) (s.dev.reg a) (s.dev.afterEvents k a w) ∧
      RegsBut s.dev d [a, Reg.HIF_FLAG, Reg.HIF_EVT] ∧
      (s.dev.st ≠ stCONFIG → k.cfgDiffers (sget resetWord s.dev.vlt.mirror a) w = true → d.isOn Reg.HIF_FLAG_HIF_WERR_F = true))) ∧
  (∀ n, ∀ x ∈ [(Reg.HIF_MBX_CTL, 1#32, Instr.mbxGo), (Reg.HIF_MBX_ACK, BitVec.ofNat 32 (n % 256), .mbxAck n),
      (Reg.HIF_POOL_LOW, 0x80000000#32, .poolLowRearm), (Reg.FRM_PEAK, 0x80000000#32, .frmPeakRearm), (Reg.PWR_PEAK, 0x80000000#32, .pwrPeakRearm),
      (Reg.ADC_JSOFT, BitVec.ofNat 32 (n % 256), .jsoftTrigger n), (Reg.ANG_CTL, 1#32, .angRearm), (Reg.SNP_REL, BitVec.ofNat 32 (n % 16), .snpRel n)],
    exec (.registerWrite x.1 4 x.2.1) s = exec x.2.2 s) ∧
  (∀ w, exec (.registerWrite Reg.HIF_AQ_CFG 4 (w ||| 0x80000000#32)) s = exec (.aqEnable w) s ∧
    exec (.registerWrite Reg.PRT_LAT_LO 4 w) s = exec (.prtLatClear false w) s ∧ exec (.registerWrite Reg.PRT_LAT_HI 4 w) s = exec (.prtLatClear true w) s) ∧
  (∀ q v, q < 64 → exec (.registerWrite (0x8000 + 16 * q) 4 (BitVec.ofNat 32 v)) s = exec (.sqtDoorbell q v) s ∧
    exec (.registerWrite (0x8004 + 16 * q) 4 (BitVec.ofNat 32 v)) s = exec (.cqhDoorbell q v) s) ∧
  (∀ j w, j < 260 → ∃ d, Answers (.registerWrite (0x10000 + 4 * j) 4 w) s d ∧ d.regs = s.dev.regs ∧ d.bar2 (4 * j) = w ∧
    (∀ k, k < 260 → k ≠ j → d.bar2 (4 * k) = s.dev.bar2 (4 * k)) ∧
    (s.dev.host.msixEnable = true → ∀ v ∈ s.dev.host.pba, (d.msixMasked v = false → .msix v ∈ d.out ∧ v ∉ d.host.pba) ∧ (d.msixMasked v = true → v ∈ d.host.pba))) ∧
  (∀ w, ∃ d, Answers (.registerWrite 0x20000 4 w) s d ∧ d.regs = s.dev.regs ∧ d.host.msixEnable = bit w 15 ∧ d.host.msixFnMask = bit w 14 ∧
    (bit w 15 = true → ∀ v ∈ s.dev.host.pba, (d.msixMasked v = false → .msix v ∈ d.out ∧ v ∉ d.host.pba) ∧ (d.msixMasked v = true → v ∈ d.host.pba))) ∧
  (∀ q v x n, q < 64 → s.dev.isOn Reg.HIF_STAT_CMDRDY = true → x = s.dev.queue q → n = (v % 4096 + 2 ^ x.cqLog - x.cqHead) % 2 ^ x.cqLog →
    x.exists_ = true → v % 4096 < 2 ^ x.cqLog → n ≤ x.unreleased → x.ien = true → ∃ d, Answers (.cqhDoorbell q v) s d ∧
    ((d.vecQueues x.vec).any (fun y => y.2.unreleased != 0) = false → x.vec ∉ d.host.disarmed ∧ d.out = []) ∧
    ((d.vecQueues x.vec).any (fun y => y.2.unreleased != 0) = true → x.vec ∈ d.host.disarmed ∧ VectorRaised s.dev d x.vec))) ∧
  ∀ (d : Dev),
  (∀ f, d.evtMasked = 0 → (d.event f).evtMasked ≠ 0 → VectorRaised d (d.event f) 64) ∧
  (∀ f, (d.evtMasked ≠ 0 ∨ (d.event f).evtMasked = 0) → (d.event f).out = d.out) ∧
  (∀ w k r x, w.route = none → w.src = .queue k → x = d.queue k → (pNoReply w.pkt = false ∨ r.status ≠ sOK) →
    (x.ien = true → x.vec ∉ d.host.disarmed → x.vec ∈ (d.finish w r).host.disarmed ∧ VectorRaised d (d.finish w r) x.vec) ∧
    ((x.ien = false ∨ x.vec ∈ d.host.disarmed) → (d.finish w r).out = d.out))

/-- Register reads, rearms, releases and SPI frames. How a frame with a wrong length counts rests on log entry 35 (DEDUCED), the mirror of
the vault’s registers and a release on the clock of a freeze on log entries 28 and 36, and where BAR2 lies on log entry 13 (PRESUMED).
Completion is concluded of: registerWrite, rcRead, lowWordRead, mbxStatRead, poolLowRearm, frmPeakRearm, pwrPeakRearm, snpRel,
spiWriteFrame, spiReadFrame. (00_scope.md R6, 00_scope.md R7, 00_scope.md R8, 00_scope.md R11, 01_station_architecture.md R31,
13_host_command_interface.md R343, 15_squall_snapshot.md R388, 17_power_and_vault.md R438) -/
def Obligations.RegisterAccesses : Prop :=
  ∀ s : State, s.live →
  (∀ a n w, (n ≠ 4 ∨ a % 4 ≠ 0) → ∀ i ∈ [Instr.registerWrite a n w, .rcRead a n, .lowWordRead a n], ∃ d, Answers i s d ∧ d.out = [.abort] ∧
    d = { s.dev with out := [.abort] }) ∧
  (∀ a k, a % 4 = 0 → a < 0x10000 → a ≠ Reg.HIF_MBX_STAT → isVault a = false → findReg a = some k →
    ∀ i ∈ [Instr.rcRead a 4, .lowWordRead a 4], ∃ d, Answers i s d ∧ RegsBut s.dev d [a] ∧
      d.reg a = ((s.dev.clkEvents a).elim (k.rcCleared (s.dev.reg a)) (fun e => k.rcFrom e.2 (s.dev.reg a))) ∧
      d.out = [.readData (match s.dev.hiLatch.find? (fun x => x.1 == a) with | some x => x.2 | none => s.dev.rcShown a (s.dev.view a))] ∧
      (∀ h ∈ highsOf a, d.hiLatch.find? (fun x => x.1 == h) = some (h, s.dev.view h)) ∧ d.hiLatch.find? (fun x => x.1 == a) = none) ∧
  (∀ i ∈ [Instr.rcRead Reg.HIF_MBX_STAT 4, .lowWordRead Reg.HIF_MBX_STAT 4], exec i s = exec .mbxStatRead s) ∧
  (∀ a, a % 4 = 0 → isVault a = true → a ≠ Reg.VLT_CNT → ∀ i ∈ [Instr.rcRead a 4, .lowWordRead a 4], ∃ d, Answers i s d ∧ d.regs = s.dev.regs ∧
    d.out = [.readData (match s.dev.hiLatch.find? (fun x => x.1 == a) with | some x => x.2 | none => s.dev.rcShown a (s.dev.view a))]) ∧
  (∀ v, v = s.dev.view Reg.VLT_CNT → s.dev.hiLatch.find? (fun x => x.1 == Reg.VLT_CNT) = none → ∃ d, Answers (.rcRead Reg.VLT_CNT 4) s d ∧
    d.out = [.readData v] ∧ RegsBut s.dev d [Reg.VLT_CNT] ∧ bits (d.reg Reg.VLT_CNT) 31 16 = bits (s.dev.reg Reg.VLT_CNT) 31 16 - bits v 31 16 ∧
    bits (d.reg Reg.VLT_CNT) 15 0 = bits (s.dev.reg Reg.VLT_CNT) 15 0 - bits v 15 0 ∧ sget resetWord d.vlt.mirror Reg.VLT_CNT = 0#32) ∧
  (∀ j, j < 1024 → ∀ i ∈ [Instr.rcRead (0x10000 + 4 * j) 4, .lowWordRead (0x10000 + 4 * j) 4],
    Answers i s { s.dev with out := [.readData (s.dev.bar2 (4 * j))] }) ∧
  (∃ d, Answers .poolLowRearm s d ∧ d.get Reg.HIF_POOL_LOW_SH_LOW = s.dev.get Reg.HIF_POOL_FREE_SH_FREE ∧ RegsBut s.dev d [Reg.HIF_POOL_LOW]) ∧
  (∃ d, Answers .frmPeakRearm s d ∧ d.get Reg.FRM_PEAK_PEAK = 0 ∧ RegsBut s.dev d [Reg.FRM_PEAK]) ∧
  (∃ d, Answers .pwrPeakRearm s d ∧ d.get Reg.PWR_PEAK_PEAK = 0 ∧ RegsBut s.dev d [Reg.PWR_PEAK]) ∧
  (∀ mask, ∃ d, Answers (.snpRel mask) s d ∧ (s.dev.lostHere = [] → s.dev.frozenHere = none → RegsBut s.dev d [Reg.SNP_STAT] ∧ ∀ k, k < 4 → ∀ go,
    go = (s.dev.frozen k && mask / 2 ^ k % 2 == 1) → d.frozen k = (s.dev.frozen k && !go) ∧
      d.snapResv k = s.dev.snapResv k ∧ d.snapBuf k = if go then none else s.dev.snapBuf k) ∧
    (∀ x sn k, s.dev.frozenHere = some x → s.dev.snapBuf x.buf = some sn → s.dev.lostHere = [] → k < 4 → k ≠ x.buf →
      mask / 2 ^ k % 2 = 1 → s.dev.frozen k = true → s.dev.snapResv k = false → x.buf < 4 → ∃ j, d.frozen j = true ∧
      d.snapBuf j = some { sn with lost := 0 } ∧ (x.resv = true → j = x.buf) ∧ (x.resv = false → j ≤ k ∧ j ≤ x.buf))) ∧
  (∀ f, (s.dev.spiOn = false ∨ 128 ≤ byteAt f 0) → Answers (.spiWriteFrame f) s s.start) ∧
  (∀ f n, (s.dev.spiOn = false ∨ byteAt f 0 < 128) → Answers (.spiReadFrame f n) s s.start) ∧
  (∀ f n err, s.dev.spiOn = true → byteAt f 0 < 128 → n = (f.length - 5) / 4 →
    err = spiErr f n (f.length != 5 + 4 * n || n == 0 || decide (256 < n)) (crc8 (f.take (f.length - 1)) != byteAt f (f.length - 1)) →
    ∃ d, Answers (.spiWriteFrame f) s d ∧ OutMsg.miso [s.dev.spiStatus] ∈ d.out ∧ d.host.spiPrev = err ∧
      (err ≠ 0 → RegsBut s.dev d [Reg.HIF_SPIERR, Reg.HIF_FLAG, Reg.HIF_EVT] ∧ d.isOn Reg.HIF_FLAG_SPIERR_F = true ∧
        d.host.ringWin = s.dev.host.ringWin ∧ d.host.bulkWin = s.dev.host.bulkWin) ∧
      (err = 0 → spiSpace f = 0 → d.regs = (forEach (List.range n) (fun i t => t.writeReg (spiAddr f + 4 * i) (wordAt f (4 + 4 * i)))
        (s.start.send (.miso [s.dev.spiStatus]))).regs) ∧
      (err = 0 → ∀ b c : List (Nat × Byte), ∀ e : List (Nat × Byte), (spiSpace f, b, c, e) ∈ [(1, s.dev.host.ringWin, d.host.ringWin, d.host.bulkWin),
          (2, s.dev.host.bulkWin, d.host.bulkWin, d.host.ringWin)] → d.regs = s.dev.regs ∧
        e = (if spiSpace f = 1 then s.dev.host.bulkWin else s.dev.host.ringWin) ∧ readBytes c (spiAddr f) (4 * n) = (f.drop 4).take (4 * n) ∧
        ∀ a, (a < spiAddr f ∨ spiAddr f + 4 * n ≤ a) → sget (fun _ => 0) c a = sget (fun _ => 0) b a)) ∧
  (∀ f clocked n err r, s.dev.spiOn = true → 128 ≤ byteAt f 0 → n = byteAt f 4 + 1 → err = spiErr f n (decide (clocked ≠ 6 + 4 * n)) false →
    r = spiWords (spiSpace f) (spiAddr f) n s.start → ∃ d, Answers (.spiReadFrame f clocked) s d ∧ d.host.spiPrev = err ∧
      (err = 0 → d.regs = r.2.regs ∧ OutMsg.miso (s.dev.spiStatus :: r.1 ++ [BitVec.ofNat 8 (crc8 r.1)]) ∈ d.out) ∧
      (err ≠ 0 → RegsBut s.dev d [Reg.HIF_SPIERR, Reg.HIF_FLAG, Reg.HIF_EVT] ∧ d.isOn Reg.HIF_FLAG_SPIERR_F = true ∧
        OutMsg.miso (s.dev.spiStatus :: zeros (4 * n) ++ [BitVec.ofNat 8 (255 - crc8 (zeros (4 * n)))]) ∈ d.out))

/-- The management port, links, and the ends of a session and of fuse blowing. The layout of PTP messages and their UDP ports rest on log
entry 33 (PRESUMED), the end of a session and of fuse blowing on log entry 29, the clauses that do nothing on log entry 38 (DESIGN CHOICE).
Completion is concluded of: mgtFrameRx, ptpMessageDue, mgtLinkUp, mgtLinkDown, pcieLinkUp, imgSessionTimeout, epochFuseDone. A bulk address
that is not 4-byte aligned is taken too: R341 makes the alignment a duty of the host (log entry 43). (13_host_command_interface.md R345,
13_host_command_interface.md R365, 14_states_and_startup.md R378, 16_firmware_handover.md R400, 16_firmware_handover.md R404,
18_package_and_electrical.md R461) -/
def Obligations.PortsLinksAndSessions : Prop :=
  ∀ s : State, s.live →
  (∀ f tdc, s.dev.mgtAccepts f = false → Answers (.mgtFrameRx f tdc) s s.start) ∧
  (∀ f tdc o, s.dev.mgtAccepts f = true → s.dev.ptpAt f = some o →
    ((byteAt f o % 16 = 1 ∧ byteAt f (o + 4) = s.dev.get Reg.HIF_MGT_CFG_DOMAIN) → ∃ d, Answers (.mgtFrameRx f tdc) s d ∧ d.regs = s.dev.regs ∧
      d.out = [.ptp 9 (256 * byteAt f (o + 30) + byteAt f (o + 31)) (s.dev.get Reg.HIF_MGT_CFG_DOMAIN) s.dev.ptpClass
        (s.dev.ptpTime (s.dev.stamp tdc)) (s.dev.ptpUdp 9)]) ∧
    (¬ (byteAt f o % 16 = 1 ∧ byteAt f (o + 4) = s.dev.get Reg.HIF_MGT_CFG_DOMAIN) → Answers (.mgtFrameRx f tdc) s s.start)) ∧
  (∀ f tdc, s.dev.mgtAccepts f = true → s.dev.ptpAt f = none → s.dev.host.mgt.recvs = [] → ∃ d, Answers (.mgtFrameRx f tdc) s d ∧
    Counted s.dev d Reg.HIF_MGT_CNT_RXDROP ∧ d.isOn Reg.HIF_FLAG_MGTDROP_F = true ∧
    RegsBut s.dev d [Reg.HIF_MGT_CNT, Reg.HIF_FLAG, Reg.HIF_EVT]) ∧
  (∀ f tdc src p t n, s.dev.mgtAccepts f = true → s.dev.ptpAt f = none → s.dev.host.mgt.recvs = (src, p) :: t → n = (f.take (pN p 16 2)).length →
    ({ s.start with host := { s.dev.host with mgt := { s.dev.host.mgt with recvs := t } } } : Dev).stores src (pN p 24 8) n = true → ∃ (e : Dev) (r : Reply), Answers (.mgtFrameRx f tdc) s (e.complete (some (src, p, r))) ∧
      e.host.mgt.recvs = t ∧ r.status = sOK ∧ r.result = toLe (min f.length (pN p 16 2)) 2 ++
        [BitVec.ofNat 8 (b2n (decide (pN p 16 2 < f.length)))] ++ zeros 5 ++ toLe (s.dev.stamp tdc) 8) ∧
  (∀ b, s.dev.isOn Reg.HIF_MGT_CFG_EN = false → Answers (.ptpMessageDue b) s s.start) ∧
  (∀ b, s.dev.isOn Reg.HIF_MGT_CFG_EN = true → ∃ d, Answers (.ptpMessageDue b) s d ∧
    d.host.mgt.seqAnn = (if b then (s.dev.host.mgt.seqAnn + 1) % 65536 else s.dev.host.mgt.seqAnn) ∧
    d.host.mgt.seqSync = (if b then s.dev.host.mgt.seqSync else (s.dev.host.mgt.seqSync + 1) % 65536) ∧
    (s.dev.isOn Reg.HIF_MGT_CFG_LINK = true → d.regs = s.dev.regs ∧ ∀ m, m = (fun k n => OutMsg.ptp k n (s.dev.get Reg.HIF_MGT_CFG_DOMAIN) s.dev.ptpClass
      (s.dev.ptpTime s.dev.time) (s.dev.ptpUdp k)) → d.out = if b then [m 11 s.dev.host.mgt.seqAnn] else [m 0 s.dev.host.mgt.seqSync, m 8 s.dev.host.mgt.seqSync]) ∧
    (s.dev.isOn Reg.HIF_MGT_CFG_LINK = false → d.out = [] ∧ RegsBut s.dev d [Reg.HIF_MGT_CNT] ∧
      d.get Reg.HIF_MGT_CNT_TXERR = satAdd 65535 (s.dev.get Reg.HIF_MGT_CNT_TXERR) (if b then 1 else 2))) ∧
  (s.dev.isOn Reg.HIF_MGT_CFG_EN = false → Answers .mgtLinkUp s s.start) ∧
  (s.dev.isOn Reg.HIF_MGT_CFG_EN = true → ∃ d, Answers .mgtLinkUp s d ∧ d.isOn Reg.HIF_MGT_CFG_LINK = true ∧ SameBut s.start d [Reg.HIF_MGT_CFG]) ∧
  (∃ d, Answers .mgtLinkDown s d ∧ d.isOn Reg.HIF_MGT_CFG_LINK = false ∧ SameBut s.start d [Reg.HIF_MGT_CFG]) ∧
  (∀ speed width, ∃ d, Answers (.pcieLinkUp speed width) s d ∧ d.isOn Reg.HIF_STAT_LINKUP = true ∧ d.get Reg.HIF_STAT_SPEED = speed % 4 ∧
    d.get Reg.HIF_STAT_WIDTH = width % 4 ∧ d.st = s.dev.st ∧ SameBut s.start d [Reg.HIF_STAT]) ∧
  (s.dev.session = false → Answers .imgSessionTimeout s s.start) ∧
  (s.dev.session = true → ∃ d, Answers .imgSessionTimeout s d ∧ d.session = false ∧ d.isOn Reg.IMG_STAT_VERIFIED = false ∧
    d.get Reg.IMG_STAT_TGT = 0 ∧ d.img.head = [] ∧ d.img.got = [] ∧ d.img.standby = [] ∧
    RegsBut s.dev d [Reg.IMG_STAT, Reg.IMG_SVER, Reg.IMG_RCVD, Reg.IMG_KPROTO] ∧ ∀ a gone,
      gone = (s.dev.isOn Reg.IMG_STAT_VERIFIED && s.dev.qTarget.any (fun k => decide (slotAt k ≤ a) && decide (a < slotAt k + 65536))) →
      sget qErased d.img.qspi a = if gone then qErased a else sget qErased s.dev.img.qspi a) ∧
  (s.dev.img.fuseTo = none → Answers .epochFuseDone s s.start) ∧
  (∀ e, s.dev.img.fuseTo = some e → ∃ d, Answers .epochFuseDone s d ∧ d.img.fuses = e ∧ d.img.fuseTo = none ∧
    d.get Reg.IMG_STAT_EPOCH = e % 64 ∧ d.isOn Reg.IMG_FLAG_EPOCHUP_F = true)

/-- The buffer pool: allocations, credits, frees and the round robin. That a block is committed when no credit is outstanding, and that
granules taken or freed together count as one of the 4 of a clock, are log entry 15 (DEDUCED and DESIGN CHOICE). (01_station_architecture.md
R23, 01_station_architecture.md R24, 01_station_architecture.md R26, 01_station_architecture.md R27, 01_station_architecture.md R28,
01_station_architecture.md R29) -/
def Obligations.PoolAllocator : Prop :=
  ∀ d : Dev,
  (∀ u n c p, p = d.user u → c = (resSize u - p.resUsed u) + min (d.shCap u - p.shUsed) d.shFree →
    (c < n → d.allocN u n = none) ∧
    (n ≤ c → ∃ (h : Hold) (e : Dev), d.allocN u n = some (h, e) ∧ h.user = u ∧ h.res = min n (resSize u - p.resUsed u) ∧ h.res + h.sh = n ∧
      e.user u = { p with res := p.res + h.res, sh := p.sh + h.sh } ∧ (∀ v, v ≠ u → e.user v = d.user v) ∧
      (h.sh ≠ 0 → (e.user u).resUsed u = resSize u ∧ (e.user u).shUsed ≤ d.shCap u) ∧ h.sh ≤ d.shFree ∧ e.shFree = d.shFree - h.sh ∧
      e.get Reg.HIF_POOL_FREE_RES_FREE = d.get Reg.HIF_POOL_FREE_RES_FREE - h.res)) ∧
  (∀ u p, p = d.user u →
    (p.resUsed u < resSize u → ∃ e, d.grantOne u = some e ∧ e.user u = { p with fifo := p.fifo ++ [true], cred := p.cred + 1 } ∧ e.shFree = d.shFree ∧
      ∀ v, v ≠ u → e.user v = d.user v) ∧
    (resSize u ≤ p.resUsed u → 0 < p.com → ∃ e, d.grantOne u = some e ∧
      e.user u = { p with fifo := p.fifo ++ [false], cred := p.cred + 1, com := p.com - 1 } ∧ e.shFree = d.shFree ∧ ∀ v, v ≠ u → e.user v = d.user v) ∧
    (resSize u ≤ p.resUsed u → p.com = 0 → p.cred = 0 → p.shUsed + 8 ≤ d.shCap u → 8 ≤ d.shFree → ∃ e, d.grantOne u = some e ∧
      e.user u = { p with fifo := p.fifo ++ [false], cred := 1, com := 7 } ∧ (e.user u).shUsed ≤ d.shCap u ∧ e.shFree = d.shFree - 8 ∧
      ∀ v, v ≠ u → e.user v = d.user v) ∧
    (resSize u ≤ p.resUsed u → p.com = 0 → (p.cred ≠ 0 ∨ d.shCap u < p.shUsed + 8 ∨ d.shFree < 8) → d.grantOne u = none)) ∧
  (∀ (h : Hold) (p q : PoolUser) (e : Dev), e = d.giveBack h → p = d.user h.user → q = { p with res := p.res - h.res, sh := p.sh - h.sh } →
    (h.user < 36 → resSize h.user ≤ 2 * (resSize h.user - q.resUsed h.user) → e.user h.user = { q with com := 0 }) ∧
    ((36 ≤ h.user ∨ 2 * (resSize h.user - q.resUsed h.user) < resSize h.user) → e.user h.user = q) ∧
    (∀ v, v ≠ h.user → e.user v = d.user v) ∧
    (d.shFree + p.shUsed ≤ 5120 → e.shFree = d.shFree + p.shUsed - (e.user h.user).shUsed)) ∧
  (∀ (h : Hold) (t : Dev), t = d.poolClk →
    (h.res + h.sh = 0 → d.freeHold h = t) ∧
    (h.res + h.sh ≠ 0 → t.pool.frees = [] → t.pool.freed < 4 →
      d.freeHold h = ({ t with pool := { t.pool with freed := t.pool.freed + 1 } } : Dev).giveBack h) ∧
    (h.res + h.sh ≠ 0 → (t.pool.frees ≠ [] ∨ 4 ≤ t.pool.freed) →
      d.freeHold h = { t with pool := { t.pool with frees := t.pool.frees ++ [h] } })) ∧
  (∀ n, (d.freesServed n).pool.frees = d.pool.frees.drop (4 * n) ∧
    ∀ u, (∀ h ∈ d.pool.frees.take (4 * n), h.user ≠ u) → (d.freesServed n).user u = d.user u) ∧
  (∀ k u, k < 100 → u = (d.pool.ptr + 1 + k) % 100 → (∀ i v, i < k → v = (d.pool.ptr + 1 + i) % 100 → v ∈ d.standingUsers → d.standing v = none) →
    ∀ t, u ∈ d.standingUsers → d.standing u = some t →
      d.serveNext (α := Unit) [] = some (none, { t with pool := { t.pool with ptr := u, served := t.pool.served + 1 } })) ∧
  ((∀ v ∈ d.standingUsers, d.standing v = none) → d.serveNext (α := Unit) [] = none) ∧
  (d.poolClk.pool.served ≤ 4 → (d.serveClock (α := Unit) []).2.pool.served ≤ 4) ∧
  (∀ u n h e, d.standingUsers = [] → u < 100 → d.poolClk.pool.served < 4 → d.poolClk.allocN u n = some (h, e) →
    d.request u n = (some h, { e with pool := { e.pool with ptr := u, served := e.pool.served + 1 } })) ∧
  (∀ u n p, p = d.user u →
    (p.cred < n → (d.portData u n).1 = none ∧ (d.portData u n).2.isOn Reg.HIF_POOL_STAT_CREDERR_F = true) ∧
    (n ≤ p.cred → n ≤ p.fifo.length → ∃ h : Hold, (d.portData u n).1 = some h ∧ h.user = u ∧ h.res = ((p.fifo.take n).filter id).length ∧ h.res + h.sh = n ∧
      (d.portData u n).2.regs = d.regs ∧ (d.portData u n).2.user u = { p with fifo := p.fifo.drop n, cred := p.cred - n, res := p.res + h.res, sh := p.sh + h.sh }) ∧
    (d.linkData u n).1 = n - p.cred ∧ (d.linkData u n).2.user u = { p with cred := p.cred - n } ∧
    (p.cred < n → (d.linkData u n).2.isOn Reg.HIF_POOL_STAT_CREDERR_F = true))

/-- Each opcode’s packet is checked in order, and one that passes is executed. What a source from which nothing is fetched does is log entry
3 (DESIGN CHOICE); which offset a failing field has is log entry 40 and the contexts of CE_CAP_ARM are log entry 25 (DEDUCED each).
(13_host_command_interface.md R349, 13_host_command_interface.md R350, 13_host_command_interface.md R355, 13_host_command_interface.md R356,
13_host_command_interface.md R364, 14_states_and_startup.md R370) -/
def Obligations.PacketsAreChecked : Prop :=
  ∀ (s : State) (op : Nat) (src : Src) (p q : Packet) (i : Instr) (row : OpRow),
  opInstr op src p = some i → opRow op = some row → q = withOp p op →
  (s.start.take src = none → Answers i s s.start) ∧
  (∀ g t r w u, s.start.take src = some (g, t) → r = (match src with | .station c _ => some (c, pTag q) | _ => none) →
    t.addWait { src := src, pkt := q, kind := .executing, order := 0, gran := g, route := r } = (w, u) →
    (op < 16 → (∃ k, src = .queue k ∧ k ≠ 0) → Answers i s (u.finish w { status := sBAD_OPCODE, detail := op })) ∧
    ((16 ≤ op ∨ ∀ k, src = .queue k → k = 0) →
      (∀ o, lowestOf (t.badStep2 src q row) = some o → Answers i s (u.finish w { status := sBAD_PARAM, detail := o })) ∧
      (lowestOf (t.badStep2 src q row) = none → (stationScope q && r.isNone) = false →
        (∀ c, u.badContext src q = some c → Answers i s (u.finish w { status := sBAD_CONTEXT, detail := c })) ∧
        (u.badContext src q = none → (pExecAt q = 0 ∨ coherent q = true ∨ op = 0x41) →
          (badTarget q = true → Answers i s (u.finish w { status := sBAD_PARAM, detail := 16 })) ∧
          (badTarget q = false → u.accepts q row = false → (pDeferOk q && !coherent q) = false →
            Answers i s (u.finish w { status := sSTATE_CONFLICT, detail := stateMask (u.acceptList q row) })))))) ∧
  (∀ w e f r, s.start.begins op src p = some (w, e) → row.body src q e = (f, some r) → CompletesWith i s w f r) ∧
  (∀ w e f, s.start.begins op src p = some (w, e) → row.body src q e = (f, none) → Answers i s (f.goesOn w))

/-- Commands held, deferred, or taken at the next tick. That commands whose effect falls at a tick wait for it with an execute-at of 0 is
log entry 37, and that a held IMG_HANDOVER is refused when it is fetched log entry 29 (DEDUCED each). (13_host_command_interface.md R357,
13_host_command_interface.md R358, 14_states_and_startup.md R368, 11_protection_and_safety.md R293, 16_firmware_handover.md R406) -/
def Obligations.HeldDeferredAndTickCommands : Prop :=
  ∀ (s : State) (op : Nat) (src : Src) (p q : Packet) (i : Instr) (row : OpRow),
  opInstr op src p = some i → opRow op = some row → q = withOp p op → (16 ≤ op ∨ ∀ k, src = .queue k → k = 0) →
  ∀ g t r w u, s.start.take src = some (g, t) → r = (match src with | .station c _ => some (c, pTag q) | _ => none) →
    t.addWait { src := src, pkt := q, kind := .executing, order := 0, gran := g, route := r } = (w, u) →
    lowestOf (t.badStep2 src q row) = none → (stationScope q && r.isNone) = false → u.badContext src q = none →
  (pExecAt q ≠ 0 → coherent q = false → op ≠ 0x41 → u.handoverUnready q = true → Answers i s (u.finish w { status := sNOT_READY })) ∧
  (pExecAt q ≠ 0 → coherent q = false → op ≠ 0x41 → u.handoverUnready q = false → ∃ d, Answers i s d ∧ d = { u with host := { u.host with waits := d.host.waits } } ∧
    d.host.waits = u.host.waits.map (fun x => if x.order == w.order then { w with kind := .held (max (pExecAt q) (u.tickStamp + 1)) } else x)) ∧
  (pExecAt q = 0 → badTarget q = false → u.accepts q row = false → (pDeferOk q && !coherent q) = true → ∃ d v, Answers i s d ∧
    v = { w with kind := .deferred (if s.dev.get Reg.HIF_CFG_DEFTO = 0 then 0 else s.dev.time + s.dev.get Reg.HIF_CFG_DEFTO * 3200000000), answered := true } ∧
    v ∈ d.host.waits ∧
    (∀ k b, src = .queue k → b = u.replyBytes q { status := sDEFERRED, detail := stateMask (u.acceptList q row) } →
      (d.queue k).unreleased = (u.queue k).unreleased + 1 ∧ (d.queue k).cqRes = (u.queue k).cqRes - 1 ∧
      (d.queue k).cqTail = ((u.queue k).cqTail + 1) % 2 ^ (u.queue k).cqLog ∧
      readBytes (if (u.queue k).win then d.host.ringWin else d.hostMem) ((u.queue k).cqAt k (u.queue k).cqTail) 32 =
        b.set 3 (b.getD 3 0 ||| BitVec.ofNat 8 (b2n (u.queue k).phase)))) ∧
  ((pExecAt q = 0 ∨ coherent q = true) → badTarget q = false → u.accepts q row = true → tickOp q = true →
    (u.handoverUnready q = true → Answers i s (u.finish w { status := sNOT_READY })) ∧
    (u.handoverUnready q = false → ∃ d, Answers i s d ∧ d = { u with host := { u.host with waits := d.host.waits } } ∧
      d.host.waits = u.host.waits.map (fun x => if x.order == w.order then { w with kind := .atTick u.frm.tickNo } else x)))

/-- With NO_REPLY set a reply with status OK is not written; every other reply is. (R359) -/
def Obligations.RepliesWrittenOrSkipped : Prop :=
  ∀ (d : Dev) (w : WaitCmd), w.route = none →
  (∀ k x n, w.src = .queue k → x = d.queue k → n = (if w.answered then 1 else 2) →
    (∀ r, pNoReply w.pkt = true → r.status = sOK → ∃ e, d.finish w r = e ∧ e.hostMem = d.hostMem ∧ e.host.ringWin = d.host.ringWin ∧ e.out = d.out ∧
      (e.queue k).cqTail = x.cqTail ∧ (e.queue k).phase = x.phase ∧ (e.queue k).unreleased = x.unreleased ∧ (e.queue k).cqRes = x.cqRes - n) ∧
    (∀ r b, (pNoReply w.pkt = false ∨ r.status ≠ sOK) → b = d.replyBytes w.pkt r → ∃ e, d.finish w r = e ∧
      (e.queue k).cqTail = (x.cqTail + 1) % 2 ^ x.cqLog ∧ (e.queue k).phase = (if (e.queue k).cqTail = 0 then !x.phase else x.phase) ∧
      (e.queue k).unreleased = x.unreleased + 1 ∧ (e.queue k).cqRes = x.cqRes - n ∧
      readBytes (if x.win then e.host.ringWin else e.hostMem) (x.cqAt k x.cqTail) 32 = b.set 3 (b.getD 3 0 ||| BitVec.ofNat 8 (b2n x.phase)) ∧
      (∀ a, a < x.cqAt k x.cqTail ∨ x.cqAt k x.cqTail + 32 ≤ a →
        sget (fun _ => 0) e.hostMem a = sget (fun _ => 0) d.hostMem a ∧ sget (fun _ => 0) e.host.ringWin a = sget (fun _ => 0) d.host.ringWin a)) ∧
    (∀ m b, b = d.replyBytes w.pkt { status := sDEFERRED, detail := m } →
      ∃ e, d.defer w m = e ∧ (e.queue k).cqTail = (x.cqTail + 1) % 2 ^ x.cqLog ∧ (e.queue k).unreleased = x.unreleased + 1 ∧
        (e.queue k).cqRes = x.cqRes - 1 ∧
        readBytes (if x.win then e.host.ringWin else e.hostMem) (x.cqAt k x.cqTail) 32 = b.set 3 (b.getD 3 0 ||| BitVec.ofNat 8 (b2n x.phase)))) ∧
  (w.src = .mailbox →
    (∀ r, pNoReply w.pkt = true → r.status = sOK → ∃ e, d.finish w r = e ∧ e.host.mbx = d.host.mbx ∧ e.isOn Reg.HIF_MBX_STAT_BUSY = false ∧
      e.isOn Reg.HIF_MBX_STAT_VALID = d.isOn Reg.HIF_MBX_STAT_VALID ∧ e.get Reg.HIF_MBX_STAT_SEQ = d.get Reg.HIF_MBX_STAT_SEQ) ∧
    (∀ r b, (pNoReply w.pkt = false ∨ r.status ≠ sOK) → b = d.replyBytes w.pkt r → ∃ e, d.finish w r = e ∧
      (d.isOn Reg.HIF_MBX_STAT_VALID = true → e.host.mbx.queued = some b ∧ e.host.mbx.live = d.host.mbx.live) ∧
      (d.isOn Reg.HIF_MBX_STAT_VALID = false → e.host.mbx.live = b ∧ e.isOn Reg.HIF_MBX_STAT_VALID = true ∧ e.isOn Reg.HIF_MBX_STAT_BUSY = false ∧
        e.get Reg.HIF_MBX_STAT_SEQ = (if d.get Reg.HIF_MBX_STAT_SEQ = 255 then 1 else d.get Reg.HIF_MBX_STAT_SEQ + 1))) ∧
    (∀ m b, b = d.replyBytes w.pkt { status := sDEFERRED, detail := m } → ∃ e, d.defer w m = e ∧ e.host.mbx.live = b ∧ e.isOn Reg.HIF_MBX_STAT_VALID = true ∧
      e.isOn Reg.HIF_MBX_STAT_BUSY = d.isOn Reg.HIF_MBX_STAT_BUSY))

/-- Station-scoped packets at their coordinator. The bytes and paths of the messages are log entry 21 (DESIGN CHOICE), the deadline, and the
commit frame of STN_SQUALL_AT, log entry 30 (DEDUCED). (10_krekai_station_fabric.md R280, 10_krekai_station_fabric.md R281,
10_krekai_station_fabric.md R282, 01_station_architecture.md R20, 01_station_architecture.md R29, 13_host_command_interface.md R344,
13_host_command_interface.md R350) -/
def Obligations.StationPacketsAreRouted : Prop :=
  ∀ (s : State) (op : Nat) (src : Src) (p q : Packet) (i : Instr) (row : OpRow),
  opInstr op src p = some i → opRow op = some row → q = withOp p op → (16 ≤ op ∨ ∀ k, src = .queue k → k = 0) → fromStation src = false →
  ∀ g t w u, s.start.take src = some (g, t) → t.addWait { src := src, pkt := q, kind := .executing, order := 0, gran := g, route := none } = (w, u) →
    lowestOf (t.badStep2 src q row) = none → stationScope q = true →
  (∀ c, (ctxNames q).find? (fun c => unbound src c || c == 0 || decide (63 < c)) = some c → Answers i s (u.finish w { status := sBAD_CONTEXT, detail := c })) ∧
  ((∀ c ∈ ctxNames q, unbound src c = false ∧ 1 ≤ c ∧ c ≤ 63) →
  (addrAt q = none → u.mst ≠ mMEMBER → Answers i s (u.finish w { status := sABORTED })) ∧
  (op = 0xA3 → pCoherent q = true → Answers i s (u.finish w { status := sBAD_PARAM, detail := 1 })) ∧
  (op = 0xA3 → pCoherent q = false → awScope (pN q 32 4) ≠ 3 → Answers i s (u.finish w { status := sBAD_PARAM, detail := 32 })) ∧
  (∀ o, addrAt q = some o → (op = 0xA3 → pCoherent q = false ∧ awScope (pN q 32 4) = 3) →
    ((awFormOk (pN q o 4) = false ∨ badScope q (pN q o 4) = true ∨ u.namedChips (pN q o 4) = []) →
      Answers i s (u.finish w { status := sBAD_PARAM, detail := awAddr (pN q o 4) })) ∧
    (awFormOk (pN q o 4) = true → badScope q (pN q o 4) = false → u.namedChips (pN q o 4) ≠ [] → u.mst ≠ mMEMBER →
      (∃ c ∈ u.namedChips (pN q o 4), c ≠ s.dev.chipIndex) → Answers i s (u.finish w { status := sABORTED }))) ∧
  (∀ l, u.routeTargets q = .inr l →
    (coherent q = true → u.tooSoon q = true → Answers i s (u.finish w { status := sBAD_PARAM, detail := 8 })) ∧
    (∀ a n, (coherent q && u.tooSoon q) = false → bulkIn q = some (a, n) → n ≤ 65536 →
      (u.addrOk src a n = false → Answers i s (u.finish w { status := sBAD_PARAM, detail := 24 })) ∧
      (u.addrOk src a n = true → u.memOk src a n = false → Answers i s (u.busFault.finish w { status := sINTERNAL, detail := 1 }))) ∧
    (∀ a n, (coherent q && u.tooSoon q) = false → bulkIn q = none → bulkOut q = some (a, n) → u.addrOk src a n = false →
      Answers i s (u.finish w { status := sBAD_PARAM, detail := 24 })) ∧
    (∀ data e, (coherent q && u.tooSoon q) = false → u.forwardData src q = .inr data → u.ask (srcUser src) (1 + cdiv data.length 256) = (none, e) →
      Answers i s (e.noSpace.finish w { status := sNO_SPACE, detail := 1 + cdiv data.length 256 - e.couldAlloc (srcUser src) })) ∧
    (∀ data h e, (coherent q && u.tooSoon q) = false → u.forwardData src q = .inr data → u.ask (srcUser src) (1 + cdiv data.length 256) = (some h, e) →
      e.ownIndex ∉ l → ∃ d x, Answers i s d ∧ d.krk.txns = e.krk.txns ++ [x] ∧ d.krk.nextTxn = e.krk.nextTxn + 1 ∧
        x.id = e.krk.nextTxn ∧ x.src = src ∧ x.pkt = q ∧ x.targets = l ∧ x.coherent = coherent q ∧ x.commitN = e.commitFrame q ∧
        x.view = e.get Reg.KRK_VIEW_VIEWNUM ∧ x.deadline = e.answerBy q ∧ x.phase = 0 ∧ x.answers = [] ∧ x.acks = [] ∧ x.copy = h ∧
        { w with kind := .routed x.id } ∈ d.host.waits ∧
        (∀ c ∈ l, e.linkUp (e.portTo c) = true →
          OutMsg.krk (e.portTo c) (if coherent q then 4 else 3) c
            (toLe e.ownIndex 2 ++ toLe x.id 4 ++ (if coherent q then toLe x.commitN 8 else []) ++ q ++ data) ∈ d.out))))

/-- NOP, IDENTIFY, queues, state changes, resets and management frames. That these commands wait for a tick with an execute-at of 0 is log
entry 37, that the straps are sampled again as a free value log entry 32 (DEDUCED each), and the stamp of a frame that is sent log entry 33
(DESIGN CHOICE). Completion is concluded of: nop, identify, qCreate, qDelete, mgtSend, mgtRecv, stateGoto, devReset, heldCommandDue. A bulk
address that is not 4-byte aligned is taken too: R341 makes the alignment a duty of the host (log entry 43). (13_host_command_interface.md
R345, 13_host_command_interface.md R346, 13_host_command_interface.md R363, 14_states_and_startup.md R368, 14_states_and_startup.md R370,
14_states_and_startup.md R371, 14_states_and_startup.md R374, 14_states_and_startup.md R375, 14_states_and_startup.md R376,
11_protection_and_safety.md R290) -/
def Obligations.AdminCommands : Prop :=
  ∀ (s : State) (src : Src) (p : Packet) (w : WaitCmd) (e : Dev),
  (s.start.begins 0x00 src p = some (w, e) → CompletesWith (.nop src p) s w e { status := sOK }) ∧
  (s.start.begins 0x01 src p = some (w, e) →
    ∀ b, b = wordBytes (e.reg Reg.HIF_ID) ++ wordBytes (e.reg Reg.HIF_FWVER) ++ toLe (e.get Reg.IMG_KPROTO_RUNKP) 2 ++ toLe 1024 2 →
    CompletesWith (.identify src p) s w e { status := sOK, result := b }) ∧
  (s.start.begins 0x02 src p = some (w, e) →
    (∀ o, lowestOf (badQCreate p) = some o → CompletesWith (.qCreate src p) s w e { status := sBAD_PARAM, detail := o }) ∧
    (badQCreate p = [] → (e.queue (pB p 16)).exists_ = true → CompletesWith (.qCreate src p) s w e { status := sBUSY }) ∧
    (badQCreate p = [] → (e.queue (pB p 16)).exists_ = false → ∃ f : Dev, CompletesWith (.qCreate src p) s w f { status := sOK } ∧
      f = { e with host := { e.host with queues := f.host.queues } } ∧ (∀ k, k ≠ pB p 16 → f.queue k = e.queue k) ∧
      (f.queue (pB p 16)).exists_ = true ∧ (f.queue (pB p 16)).win = (pB p 19 / 2 % 2 == 1) ∧ (f.queue (pB p 16)).ien = (pB p 19 % 2 == 1) ∧
      (f.queue (pB p 16)).vec = pB p 20 ∧ (f.queue (pB p 16)).sqBase = pN p 24 8 ∧ (f.queue (pB p 16)).cqBase = pN p 32 8 ∧
      (f.queue (pB p 16)).sqLog = (if pB p 19 / 2 % 2 = 1 then 4 else pB p 17 % 16) ∧
      (f.queue (pB p 16)).cqLog = (if pB p 19 / 2 % 2 = 1 then 5 else pB p 18 % 16))) ∧
  (s.start.begins 0x03 src p = some (w, e) →
    ((pB p 16 = 0 ∨ 63 < pB p 16 ∨ (e.queue (pB p 16)).exists_ = false ∨ (e.queue (pB p 16)).closing = true) →
      CompletesWith (.qDelete src p) s w e { status := sBAD_PARAM, detail := 16 }) ∧
    (pB p 16 ≠ 0 → pB p 16 ≤ 63 → (e.queue (pB p 16)).exists_ = true → (e.queue (pB p 16)).closing = false →
      (e.busyQueue (pB p 16) = true → ∃ f : Dev, Answers (.qDelete src p) s (f.goesOn w) ∧ (f.queue (pB p 16)).closing = true ∧
        (∀ k, k ≠ pB p 16 → f.queue k = e.queue k) ∧ (∀ x ∈ f.host.waits, x.src = .queue (pB p 16) → x.kind.blocks = true)) ∧
      (e.busyQueue (pB p 16) = false → ∃ f : Dev, CompletesWith (.qDelete src p) s w f { status := sOK } ∧ f.queue (pB p 16) = {} ∧
        (∀ k, k ≠ pB p 16 → f.queue k = e.queue k) ∧ (∀ x ∈ f.host.waits, x.src ≠ .queue (pB p 16)) ∧
        (∀ x ∈ f.host.mgt.recvs, x.1 ≠ .queue (pB p 16)) ∧ RegsBut e f [Reg.HIF_POOL_FREE, Reg.HIF_POOL_LOW, Reg.HIF_POOL_STAT]))) ∧
  (s.start.begins 0x06 src p = some (w, e) → ∀ n a, n = pN p 16 2 → a = pN p 24 8 →
    ((n < 60 ∨ 1514 < n) → CompletesWith (.mgtSend src p) s w e { status := sBAD_PARAM, detail := 16 }) ∧
    (∀ t, 60 ≤ n → n ≤ 1514 → e.loads src a n = true → t = e.loading src n → ∃ (f : Dev) (k : Nat),
      CompletesWith (.mgtSend src p) s w f { status := sOK, result := zeros 8 ++ toLe (t.time + k) 8 } ∧
      (t.mgtUp = true → f.out = t.out ++ [.mgtFrame (t.bulkRead src a n)] ∧ RegsBut t f []) ∧
      (t.mgtUp = false → f.out = t.out ∧ Counted t f Reg.HIF_MGT_CNT_TXERR ∧ RegsBut t f [Reg.HIF_MGT_CNT]))) ∧
  (s.start.begins 0x07 src p = some (w, e) → ∀ n, n = pN p 16 2 →
    ((n < 64 ∨ 1514 < n) → CompletesWith (.mgtRecv src p) s w e { status := sBAD_PARAM, detail := 16 }) ∧
    (64 ≤ n → n ≤ 1514 → e.addrOk src (pN p 24 8) n = true → 8 ≤ e.host.mgt.recvs.length → CompletesWith (.mgtRecv src p) s w e { status := sBUSY }) ∧
    (64 ≤ n → n ≤ 1514 → e.addrOk src (pN p 24 8) n = true → e.host.mgt.recvs.length < 8 →
      Answers (.mgtRecv src p) s (Dev.goesOn { e with host := { e.host with mgt := { e.host.mgt with recvs := e.host.mgt.recvs ++ [(src, withOp p 7)] } } } w))) ∧
  (∀ x ∈ [(4, Instr.stateGoto src p), (5, .devReset src p)], s.start.awaitsTick x.1 src p = some (w, e) →
    Answers x.2 s e ∧ w ∈ e.host.waits ∧ w.kind = .atTick s.dev.frm.tickNo) ∧
  (s.live → s.start.dueAtTick 4 = some (w, e) → ∀ t, t = pB w.pkt 16 →
    (t = e.st → CompletesWith .heldCommandDue s w e { status := sOK, result := [BitVec.ofNat 8 e.st] }) ∧
    (∀ x, t ≠ e.st → e.gotoRefusal t = some x → ∃ f : Dev, CompletesWith .heldCommandDue s w f { status := x.1, detail := x.2 } ∧ f.st = e.st ∧
      (t ≠ 3 → f = e) ∧ (t = 3 → RegsBut e f [Reg.FRM_FLAG, Reg.THK_BUDGET]) ∧ (t = 3 → x.1 = sBUSY → f.isOn Reg.FRM_FLAG_ADMREJ_F = true)) ∧
    (t ≠ e.st → e.gotoRefusal t = none → ∃ f : Dev, CompletesWith .heldCommandDue s w f { status := sOK, result := [BitVec.ofNat 8 f.st] } ∧
      f.st = (if t = 3 ∧ e.anyLatch = true then stTRIPPED else t) ∧ f.isOn Reg.HIF_EVT_STATE = true ∧
      (t = 2 → f.krk.joined = false ∧ (f.inj 0).active = false ∧ (f.inj 1).active = false ∧ f.ce.cap.armed = false) ∧
      (t = 3 → ∀ r, r < 16 → (e.ringEn r = true → f.ringSt r = rsDISCOVER) ∧ (e.ringEn r = false → f.ringSt r = rsOFF)) ∧
      ((t ≠ 2 ∧ t ≠ 3) → RegsBut e f ([Reg.HIF_STAT, Reg.HIF_EVT] ++ logRegs)))) ∧
  (s.live → s.start.dueAtTick 5 = some (w, e) → ∃ f u : Dev, Answers .heldCommandDue s f ∧ u = e.complete (some (w.src, w.pkt, { status := sOK })) ∧
    f.st = stBOOT ∧ f.isOn Reg.HIF_STAT_CMDRDY = false ∧ f.latched = [0x2C] ∧ f.host.queues = [] ∧ f.host.waits = [] ∧
    f.hostMem = u.hostMem ∧ f.fram.mem = u.fram.mem ∧ f.img.qspi = u.sessionAbort.img.qspi ∧
    (∀ o, isVault o = true → f.reg o = u.lkpEnds.reg o) ∧ (∀ o, isVault o = false → o ≠ Reg.HIF_STAT → o ≠ Reg.IMG_STAT → f.reg o = resetWord o))

/-- SNP_TRIGGER, SNP_READ and LOG_READ. That the reply of SNP_TRIGGER comes when its core clock has passed, so that a release of that clock
acts before it, rests on log entry 36 (DEDUCED). Completion is concluded of: snpTrigger, snpRead, logRead. A bulk address that is not 4-byte
aligned is taken too: R341 makes the alignment a duty of the host (log entry 43). (15_squall_snapshot.md R387, 15_squall_snapshot.md R388,
15_squall_snapshot.md R392, 15_squall_snapshot.md R396) -/
def Obligations.SnapshotAndLogCommands : Prop :=
  ∀ (s : State) (src : Src) (p : Packet) (w : WaitCmd) (e : Dev),
  (s.start.begins 0x90 src p = some (w, e) →
    (e.frozenHere = none →
      ((e.freeBuf = none ∨ e.snp.tick = none) → ∃ f : Dev, Answers (.snpTrigger src p) s (f.goesOn w) ∧ f.isOn Reg.SNP_FLAG_LOST_F = true ∧
        Counted e f Reg.SNP_CNT_LOST_CNT ∧ f.snp.bufs = e.snp.bufs ∧ RegsBut e f [Reg.SNP_FLAG, Reg.SNP_CNT] ∧
        ∃ a : SnapAsk, f.snp.asked = e.snp.asked ++ [a] ∧ a.clk = e.clocks ∧ a.src = src ∧ a.pkt = withOp p 0x90 ∧ a.buf = none) ∧
      (∀ k img, e.freeBuf = some k → e.snp.tick = some img → ∃ (f : Dev) (sn : Snap), Answers (.snpTrigger src p) s (f.goesOn w) ∧
        f.snapBuf k = some sn ∧ sn.img = img ∧ sn.mask = 16 ∧ sn.trigStamp = e.stamp 0 ∧ sn.detail = pTag p ∧ sn.lost = e.snp.lostSince ∧
        f.frozen k = true ∧ (∀ j, j ≠ k → f.snapBuf j = e.snapBuf j) ∧ f.get Reg.SNP_STAT_LASTSRC = 4 ∧ Counted e f Reg.SNP_CNT_TRIGS ∧
        ∃ a : SnapAsk, f.snp.asked.getLast? = some a ∧ a.clk = e.clocks ∧ a.src = src ∧ a.pkt = withOp p 0x90 ∧ a.buf = some k))) ∧
  (∀ (d : Dev) (x : SnapAsk), d.snp.asked = [x] → (x.clk = d.clocks → d.snapReplies = d) ∧ (x.clk ≠ d.clocks →
    d.snapReplies = ({ d with snp := { d.snp with asked := [] } } : Dev).complete (some (x.src, x.pkt,
      match x.buf with | some k => { status := sOK, result := [BitVec.ofNat 8 k] } | none => { status := sBUSY })))) ∧
  (s.start.begins 0x91 src p = some (w, e) → ∀ k first, k = pB p 16 → first = pN p 20 4 →
    (3 < k → CompletesWith (.snpRead src p) s w e { status := sBAD_PARAM, detail := 16 }) ∧
    (k ≤ 3 → e.snapBuf k = none → e.addrOk src (pN p 24 8) 0 = false → CompletesWith (.snpRead src p) s w e { status := sBAD_PARAM, detail := 24 }) ∧
    (k ≤ 3 → e.snapBuf k = none → e.addrOk src (pN p 24 8) 0 = true → CompletesWith (.snpRead src p) s w e { status := sNOT_READY }) ∧
    (∀ sn, k ≤ 3 → e.snapBuf k = some sn → (snapBytes k sn).length ≤ first → CompletesWith (.snpRead src p) s w e { status := sBAD_PARAM, detail := 20 }) ∧
    (∀ sn d, k ≤ 3 → e.snapBuf k = some sn → first < (snapBytes k sn).length →
      d = (if pN p 32 4 = 0 then (snapBytes k sn).drop first else ((snapBytes k sn).drop first).take (pN p 32 4)) →
      e.stores src (pN p 24 8) d.length = true →
      (pB p 17 % 2 = 0 → CompletesWith (.snpRead src p) s w (e.readOut src p d) { status := sOK, result := toLe d.length 4 }) ∧
      (∀ t, pB p 17 % 2 = 1 → t = e.readOut src p d → t.frozen k = true → t.frozenHere = none → t.lostHere = [] → ∃ f : Dev,
        CompletesWith (.snpRead src p) s w f { status := sOK, result := toLe d.length 4 } ∧
        f.frozen k = false ∧ f.snapBuf k = none ∧ (∀ j, j ≠ k → f.snapBuf j = t.snapBuf j) ∧ f.hostMem = t.hostMem ∧
        f.host.bulkWin = t.host.bulkWin ∧ RegsBut t f [Reg.SNP_STAT]))) ∧
  (s.start.begins 0x92 src p = some (w, e) → ∀ n first, n = pN p 20 2 → first = pN p 16 4 →
    ((n = 0 ∨ 1024 < n) → CompletesWith (.logRead src p) s w e { status := sBAD_PARAM, detail := 20 }) ∧
    (n ≠ 0 → n ≤ 1024 → e.logFrom first = none → e.addrOk src (pN p 24 8) 0 = false → CompletesWith (.logRead src p) s w e { status := sBAD_PARAM, detail := 24 }) ∧
    (n ≠ 0 → n ≤ 1024 → e.logFrom first = none → e.addrOk src (pN p 24 8) 0 = true → CompletesWith (.logRead src p) s w e { status := sNOT_READY }) ∧
    (∀ l b, n ≠ 0 → n ≤ 1024 → e.logFrom first = some l → b = toLe (l.take n).length 4 ++ toLe ((e.log.map (·.seq)).head?.getD 0) 4 → e.stores src (pN p 24 8) (((l.take n).map LogRec.bytes).flatten).length = true →
      CompletesWith (.logRead src p) s w (e.readOut src p ((l.take n).map LogRec.bytes).flatten) { status := sOK, result := b }) ∧
    (first = 0 → e.logFrom first = some e.log) ∧
    (∀ l, first ≠ 0 → e.logFrom first = some l → (∃ a, a ++ l = e.log) ∧ (∀ r t, l = r :: t → r.seq = first ∨ l = e.log)) ∧
    (e.logFrom first = none → ∀ r ∈ e.log, r.seq ≠ first))

/-- Loading, enabling, removing, reading and setting control contexts. The order and reach of the checks of an image are log entry 25
(DEDUCED), which of two writes of one stamp and one queue acts log entry 62 (DESIGN CHOICE), and a load that the cell sweep pins log entry
67 (DEDUCED). Completion is concluded of: ceCtxLoad, ceCtxEnable, ceCtxRemove, ceCtxRead, ceSpSet, ceParamSet, ceStateReset. A bulk address
that is not 4-byte aligned is taken too: R341 makes the alignment a duty of the host (log entry 43). (01_station_architecture.md R16,
05_cirrus_control_engine.md R114, 05_cirrus_control_engine.md R126, 05_cirrus_control_engine.md R130, 05_cirrus_control_engine.md R131,
05_cirrus_control_engine.md R136, 05_cirrus_control_engine.md R137, 05_cirrus_control_engine.md R139, 05_cirrus_control_engine.md R140,
02_time_and_frame.md R57, 07_espalier_edge_modulator.md R172) -/
def Obligations.ContextCommands : Prop :=
  ∀ (s : State) (src : Src) (p : Packet) (w : WaitCmd) (e : Dev) (c : Nat), c = pB p 16 →
  (s.start.begins 0x10 src p = some (w, e) → ∀ t b, e.loads src (pN p 24 8) 384 = true → t = e.loading src 384 → b = t.bulkRead src (pN p 24 8) 384 →
    (∀ o, t.badImage c b = some o → CompletesWith (.ceCtxLoad src p) s w t { status := sBAD_PARAM, detail := o }) ∧
    (t.badImage c b = none → t.pinned c false = true → (imgLaw b ≠ 0x07 ∨ imgEn b = false) →
      CompletesWith (.ceCtxLoad src p) s w t { status := sSTATE_CONFLICT, detail := 4 }) ∧
    (∀ u, t.badImage c b = none → (t.pinned c false = true → imgLaw b = 0x07 ∧ imgEn b = true) → u = t.setCtx c { t.ctx c with
        newImg := some (b, pB p 17 % 2 == 1, t.stamp 0, srcRank src), enNew := none, parNew := [] } →
      (∀ o, (t.ctx c).newImg = some o → o.2.2.1 < t.stamp 0 ∨ (o.2.2.1 = t.stamp 0 ∧ srcRank src ≤ o.2.2.2)) →
      (Admitted t u → ∃ f : Dev, CompletesWith (.ceCtxLoad src p) s w f { status := sOK, result := toLe (u.ctxCost b) 4 } ∧
        f.ctx c = u.ctx c ∧ (∀ k, k ≠ c → f.ctx k = t.ctx k) ∧ f.isOn (Reg.CE_CSTATc_LOADED c) = true ∧ f.isOn (Reg.CE_CSTATc_EN c) = imgEn b ∧
        (imgEn b = true → f.ce.cap = t.ce.cap) ∧ (imgEn b = false → t.ce.cap.rctx = c → f.ce.cap.armed = false) ∧
        RegsBut t f [Reg.CE_CSTATc c, Reg.CE_CAP_STAT, Reg.CE_FLAG]) ∧
      (∀ d, t.itemRefused u = some d → CompletesWith (.ceCtxLoad src p) s w (t.raise Reg.FRM_FLAG_ADMREJ_F) { status := sBUSY, detail := d })) ∧
    (∀ o, t.badImage c b = none → (t.pinned c false = true → imgLaw b = 0x07 ∧ imgEn b = true) → (t.ctx c).newImg = some o → o.1 ≠ b →
      (t.stamp 0 < o.2.2.1 ∨ (t.stamp 0 = o.2.2.1 ∧ o.2.2.2 < srcRank src)) → ∃ f : Dev,
      CompletesWith (.ceCtxLoad src p) s w f { status := sOK, result := toLe (t.ctxCost b) 4 } ∧ f.ce = t.ce ∧ RegsBut t f [Reg.CE_CSTATc c])) ∧
  (s.start.begins 0x11 src p = some (w, e) →
    (pB p 17 % 2 = 1 ∨ e.st = stCONFIG ∨ imgLaw (e.ctx c).latest ≠ 0x07) ∧
    ∃ f : Dev, CompletesWith (.ceCtxEnable src p) s w f { status := sOK } ∧
      f.ctx c = { e.ctx c with enNew := some (pB p 17 % 2 == 1) } ∧ (∀ k, k ≠ c → f.ctx k = e.ctx k) ∧
      f.isOn (Reg.CE_CSTATc_EN c) = (pB p 17 % 2 == 1) ∧ RegsBut e f [Reg.CE_CSTATc c, Reg.CE_CAP_STAT, Reg.CE_FLAG] ∧
      (pB p 17 % 2 = 1 → f.ce.cap = e.ce.cap) ∧ (pB p 17 % 2 = 0 → e.ce.cap.rctx = c → f.ce.cap.armed = false)) ∧
  (s.start.begins 0x12 src p = some (w, e) → e.pinned c true = false ∧ ∃ f : Dev, CompletesWith (.ceCtxRemove src p) s w f { status := sOK } ∧ f.ctx c = {} ∧
      (∀ k, k ≠ c → f.ctx k = e.ctx k) ∧ f.reg (Reg.CE_CSTATc c) = 0 ∧ (∀ g, g < 2 → (e.inj g).ctx = c → (f.inj g).active = false) ∧
      (e.ce.cap.rctx = c → f.ce.cap.armed = false) ∧
      (∀ g, ((2, g) ∈ imgTargets e.mmc (e.ctx c).latest ∨ (2, g) ∈ imgTargets e.mmc (e.ctx c).img) → sget (fun _ => 0) f.esp.group g = 0) ∧
      (∀ g, (2, g) ∉ imgTargets e.mmc (e.ctx c).latest → (2, g) ∉ imgTargets e.mmc (e.ctx c).img → sget (fun _ => 0) f.esp.group g = sget (fun _ => 0) e.esp.group g)) ∧
  (s.start.begins 0x13 src p = some (w, e) → e.stores src (pN p 24 8) (e.ctx c).latest.length = true →
    CompletesWith (.ceCtxRead src p) s w (e.readOut src p (e.ctx c).latest) { status := sOK }) ∧
  (s.start.begins 0x14 src p = some (w, e) →
    ((c = 0 ∨ 8 < c) → CompletesWith (.ceSpSet src p) s w e { status := sBAD_PARAM, detail := 16 }) ∧
    (∀ i, 1 ≤ c → c ≤ 8 → i < c → imgSpSrc (e.ctx (pB p (24 + i))).latest ≠ 1 → (∀ j, j < i → imgSpSrc (e.ctx (pB p (24 + j))).latest = 1) →
      CompletesWith (.ceSpSet src p) s w e { status := sBAD_PARAM, detail := 24 + i }) ∧
    (∀ i, 1 ≤ c → c ≤ 8 → (∀ j, j < c → imgSpSrc (e.ctx (pB p (24 + j))).latest = 1) → i < c → fFinite (pW p (32 + 4 * i)) = false →
      (∀ j, j < i → fFinite (pW p (32 + 4 * j)) = true) → CompletesWith (.ceSpSet src p) s w e { status := sBAD_PARAM, detail := 32 + 4 * i }) ∧
    (1 ≤ c → c ≤ 8 → (∀ j, j < c → imgSpSrc (e.ctx (pB p (24 + j))).latest = 1 ∧ fFinite (pW p (32 + 4 * j)) = true) →
      ∃ f : Dev, CompletesWith (.ceSpSet src p) s w f { status := sOK } ∧ f.regs = e.regs ∧
        (∀ k, (∀ j, j < c → pB p (24 + j) ≠ k) → f.ctx k = e.ctx k) ∧
        (∀ i, i < c → (∀ j, j < c → j ≠ i → pB p (24 + j) ≠ pB p (24 + i)) → ∀ k, k = pB p (24 + i) →
          (∀ o, (e.ctx k).spNew = some o → (e.stamp 0 < o.2.1 ∨ (e.stamp 0 = o.2.1 ∧ o.2.2 < srcRank src)) → f.ctx k = e.ctx k) ∧
          ((∀ o, (e.ctx k).spNew = some o → o.2.1 < e.stamp 0 ∨ (o.2.1 = e.stamp 0 ∧ srcRank src ≤ o.2.2)) →
            f.ctx k = { e.ctx k with spNew := some (pW p (32 + 4 * i), e.stamp 0, srcRank src) })))) ∧
  (s.start.begins 0x15 src p = some (w, e) → ∀ first n, first = pB p 17 → n = pB p 18 →
    (63 < first → CompletesWith (.ceParamSet src p) s w e { status := sBAD_PARAM, detail := 17 }) ∧
    (first ≤ 63 → (n = 0 ∨ 8 < n ∨ 64 < first + n) → CompletesWith (.ceParamSet src p) s w e { status := sBAD_PARAM, detail := 18 }) ∧
    (∀ b, first ≤ 63 → 1 ≤ n → n ≤ 8 → first + n ≤ 64 →
      b = (List.range n).foldl (fun b i => setPar b (first + i) (pW p (32 + 4 * i)))
        ((e.ctx c).parNew.foldl (fun b q => setPar b q.1 q.2.1) (e.ctx c).latest) →
      (∀ i, i < n → fFinite (pW p (32 + 4 * i)) = true ∧ ∀ j ∈ (first + i) :: parBounds b (first + i), (badPars b).contains j = false) →
      ∃ f : Dev, CompletesWith (.ceParamSet src p) s w f { status := sOK } ∧ f.regs = e.regs ∧ (∀ k, k ≠ c → f.ctx k = e.ctx k) ∧
        f.ctx c = { e.ctx c with parNew := (f.ctx c).parNew } ∧
        ((e.ctx c).parNew = [] → ∀ i, i < n → (first + i, pW p (32 + 4 * i), e.stamp 0, srcRank src) ∈ (f.ctx c).parNew))) ∧
  (s.start.begins 0x16 src p = some (w, e) → ∃ f : Dev, CompletesWith (.ceStateReset src p) s w f { status := sOK } ∧ f.regs = e.regs ∧
    (∀ k, k ≠ c → f.ctx k = e.ctx k) ∧ f.ctx c = { e.ctx c with i := 0, dPrev := 0, yPrev := 0, fPrev := 0, theta := 0, xs := List.replicate 8 (0, 0) } ∧
    (imgLaw (e.ctx c).latest = 0x07 → ∀ x ∈ f.cells.cells, x.2.integ = 0))

/-- Cost queries, tables, injection generators and captures. What a query counts and what a capture checks is log entry 25 (DEDUCED), and
what a prepared command has reserved log entry 21 (DEDUCED). Completion is concluded of: ceCostQuery, ceTblLoad, ceTblRead, ceInjStart,
ceInjStop, ceCapArm, ceCapRead, ceCapAbort. A bulk address that is not 4-byte aligned is taken too: R341 makes the alignment a duty of the
host (log entry 43). (05_cirrus_control_engine.md R117, 05_cirrus_control_engine.md R128, 05_cirrus_control_engine.md R129,
05_cirrus_control_engine.md R134, 05_cirrus_control_engine.md R135, 05_cirrus_control_engine.md R136, 05_cirrus_control_engine.md R137,
05_cirrus_control_engine.md R138, 05_cirrus_control_engine.md R140, 02_time_and_frame.md R56, 02_time_and_frame.md R57) -/
def Obligations.TableGeneratorAndCaptureCommands : Prop :=
  ∀ (s : State) (src : Src) (p : Packet) (w : WaitCmd) (e : Dev) (a n : Nat), a = pN p 24 8 → n = pB p 16 →
  (s.start.begins 0x17 src p = some (w, e) → ∀ t b l, e.loads src a 384 = true → t = e.loading src 384 → b = t.bulkRead src a 384 →
    l = badImageOwn t.mmc t.chbStorage (!t.cells.recs.isEmpty) b →
    (∀ o, lowestOf l = some o → CompletesWith (.ceCostQuery src p) s w t { status := sBAD_PARAM, detail := o }) ∧
    (∀ x, l = [] → x = t.ctrlSum + t.prepCost + t.ctxCost b →
      (t.controlClk < x → CompletesWith (.ceCostQuery src p) s w t { status := sOK, result := toLe (t.ctxCost b) 4 ++ toLe (x - t.controlClk) 4 }) ∧
      (x ≤ t.controlClk → CompletesWith (.ceCostQuery src p) s w t
        { status := sOK, result := toLe (t.ctxCost b) 4 ++ toLe (x + t.shedSum - t.computeClk) 4 }))) ∧
  (s.start.begins 0x18 src p = some (w, e) →
    (15 < n → CompletesWith (.ceTblLoad src p) s w e { status := sBAD_PARAM, detail := 16 }) ∧
    (n ≤ 15 → (e.ce.spare.isSome || e.soleTaken (withOp p 0x18)) = true → e.addrOk src (pN p 24 8) 4096 = false → CompletesWith (.ceTblLoad src p) s w e { status := sBAD_PARAM, detail := 24 }) ∧
    (n ≤ 15 → (e.ce.spare.isSome || e.soleTaken (withOp p 0x18)) = true → e.addrOk src (pN p 24 8) 4096 = true → CompletesWith (.ceTblLoad src p) s w e { status := sBUSY }) ∧
    (∀ t, n ≤ 15 → e.ce.spare = none → e.soleTaken (withOp p 0x18) = false → e.loads src a 4096 = true → t = e.loading src 4096 → ∃ f : Dev,
      CompletesWith (.ceTblLoad src p) s w f { status := sOK, result := toLe t.frm.tickNo 4 } ∧
      f.ce.spare = some (n, t.bulkRead src a 4096) ∧ f.ce.tables = t.ce.tables ∧ f.isOn Reg.CE_TBLSTAT_PEND = true ∧ f.get Reg.CE_TBLSTAT_PTBL = n ∧
      f.get Reg.CE_TBLSTAT_VALID = t.get Reg.CE_TBLSTAT_VALID ∧ RegsBut t f [Reg.CE_TBLSTAT])) ∧
  (s.start.begins 0x19 src p = some (w, e) → ∀ d, d = ((List.range 1024).map (fun i => wordBytes (e.tableAt n i))).flatten →
    (15 < n → CompletesWith (.ceTblRead src p) s w e { status := sBAD_PARAM, detail := 16 }) ∧
    (n ≤ 15 → e.stores src a d.length = true → CompletesWith (.ceTblRead src p) s w (e.readOut src p d) { status := sOK })) ∧
  (s.start.begins 0x1A src p = some (w, e) → ∀ c t b, c = pB p 17 → t = e.loading src 160 → b = t.bulkRead src a 160 →
    (1 < n → CompletesWith (.ceInjStart src p) s w e { status := sBAD_PARAM, detail := 16 }) ∧
    (∀ o, n ≤ 1 → e.loads src a 160 = true → lowestOf (badInj (t.ctxTU (t.ctx c).latest) (imgNout (t.ctx c).latest) b) = some o →
      CompletesWith (.ceInjStart src p) s w t { status := sBAD_PARAM, detail := o }) ∧
    (∀ x u, n ≤ 1 → e.loads src a 160 = true → badInj (t.ctxTU (t.ctx c).latest) (imgNout (t.ctx c).latest) b = [] →
      x = ({ block := b, ctx := c, active := true, startAt := pExecAt p, lfsr := 2 ^ igPord b - 1 } : InjSt) →
      u = t.setCe { t.ce with inj := sset (fun _ => {}) t.ce.inj n x } →
      (∀ d, t.itemRefused u = some d → CompletesWith (.ceInjStart src p) s w (t.raise Reg.FRM_FLAG_ADMREJ_F)
        { status := sBUSY, detail := d }) ∧
      (Admitted t u → ((t.inj n).active = true ∨ ((t.inj (1 - n)).active = true ∧ (t.inj (1 - n)).ctx = c) ∨
        t.soleTaken (withOp p 0x1A) = true) →
        CompletesWith (.ceInjStart src p) s w t { status := sBUSY }) ∧
      (Admitted t u → (t.inj n).active = false → ((t.inj (1 - n)).active = false ∨ (t.inj (1 - n)).ctx ≠ c) → t.soleTaken (withOp p 0x1A) = false →
        ∃ f : Dev, CompletesWith (.ceInjStart src p) s w f { status := sOK } ∧ f.inj n = x ∧ f.inj (1 - n) = t.inj (1 - n) ∧
          f.isOn (Reg.CE_INJg_STAT_ACTIVE n) = true ∧ f.get (Reg.CE_INJg_STAT_RUNS n) = 0 ∧ RegsBut t f [Reg.CE_INJg_STAT n]))) ∧
  (s.start.begins 0x1B src p = some (w, e) →
    (1 < n → CompletesWith (.ceInjStop src p) s w e { status := sBAD_PARAM, detail := 16 }) ∧
    (n ≤ 1 → ∃ f : Dev, CompletesWith (.ceInjStop src p) s w f { status := sOK } ∧ f.inj n = { e.inj n with active := false } ∧
      f.inj (1 - n) = e.inj (1 - n) ∧ f.isOn (Reg.CE_INJg_STAT_ACTIVE n) = false ∧ RegsBut e f [Reg.CE_INJg_STAT n])) ∧
  (s.start.begins 0x1C src p = some (w, e) → ∀ cap u, cap = ({ armed := true, chans := (List.range n).map (fun i => pW p (32 + 4 * i)), rctx := pB p 17, trig := pB p 18, gen := pB p 19, records := pN p 20 4, pre := pN p 24 4 } : CapSt) →
    u = ({ e with ce := { e.ce with cap := cap }, snp := { e.snp with capTrig := none } } : Dev) →
    ((n = 0 ∨ 8 < n) → CompletesWith (.ceCapArm src p) s w e { status := sBAD_PARAM, detail := 16 }) ∧
    (1 ≤ n → n ≤ 8 → 2 < pB p 18 → CompletesWith (.ceCapArm src p) s w e { status := sBAD_PARAM, detail := 18 }) ∧
    (1 ≤ n → n ≤ 8 → pB p 18 ≤ 2 → 1 < pB p 19 → CompletesWith (.ceCapArm src p) s w e { status := sBAD_PARAM, detail := 19 }) ∧
    (1 ≤ n → n ≤ 8 → pB p 18 ≤ 2 → pB p 19 ≤ 1 → (pN p 20 4 = 0 ∨ 65536 < n * pN p 20 4) →
      CompletesWith (.ceCapArm src p) s w e { status := sBAD_PARAM, detail := 20 }) ∧
    (1 ≤ n → n ≤ 8 → pB p 18 ≤ 2 → pB p 19 ≤ 1 → pN p 20 4 ≠ 0 → n * pN p 20 4 ≤ 65536 → (pB p 18 = 2 → pN p 24 4 ≤ pN p 20 4) →
      (∀ i, i < n → chanOk (pW p (32 + 4 * i)) = true) →
      (∀ d, e.itemRefused u = some d → CompletesWith (.ceCapArm src p) s w (e.raise Reg.FRM_FLAG_ADMREJ_F)
        { status := sBUSY, detail := d }) ∧
      (Admitted e u → (e.ce.cap.armed = true ∨ e.soleTaken (withOp p 0x1C) = true) → CompletesWith (.ceCapArm src p) s w e { status := sBUSY }) ∧
      (Admitted e u → e.ce.cap.armed = false → e.soleTaken (withOp p 0x1C) = false → ∃ f : Dev, CompletesWith (.ceCapArm src p) s w f { status := sOK } ∧ f.ce.cap = cap ∧
        f.isOn Reg.CE_CAP_STAT_ARMED = true ∧ f.isOn Reg.CE_CAP_STAT_DONE = false ∧ f.isOn Reg.CE_CAP_STAT_ABORT = false ∧
        f.get Reg.CE_CAP_STAT_RECS = 0 ∧ RegsBut e f [Reg.CE_CAP_STAT]))) ∧
  (s.start.begins 0x1D src p = some (w, e) → ∀ first count m, first = pN p 16 4 → count = pN p 20 4 → m = e.ce.cap.mem →
    (e.isOn Reg.CE_CAP_STAT_DONE = false → e.addrOk src (pN p 24 8) 0 = false → CompletesWith (.ceCapRead src p) s w e { status := sBAD_PARAM, detail := 24 }) ∧
    (e.isOn Reg.CE_CAP_STAT_DONE = false → e.addrOk src (pN p 24 8) 0 = true → CompletesWith (.ceCapRead src p) s w e { status := sNOT_READY }) ∧
    (e.isOn Reg.CE_CAP_STAT_DONE = true → m.length < first → CompletesWith (.ceCapRead src p) s w e { status := sBAD_PARAM, detail := 16 }) ∧
    (e.isOn Reg.CE_CAP_STAT_DONE = true → first ≤ m.length → m.length < first + count →
      CompletesWith (.ceCapRead src p) s w e { status := sBAD_PARAM, detail := 20 }) ∧
    (∀ d, e.isOn Reg.CE_CAP_STAT_DONE = true → first + count ≤ m.length →
      d = e.capHeader ++ ((((m.drop first).take count).flatten).map wordBytes).flatten → e.stores src a d.length = true →
      CompletesWith (.ceCapRead src p) s w (e.readOut src p d) { status := sOK })) ∧
  (s.start.begins 0x1E src p = some (w, e) →
    (e.ce.cap.armed = false → CompletesWith (.ceCapAbort src p) s w e { status := sOK }) ∧
    (e.ce.cap.armed = true → ∃ f : Dev, CompletesWith (.ceCapAbort src p) s w f { status := sOK } ∧ f.ce.cap = { e.ce.cap with armed := false } ∧
      f.isOn Reg.CE_CAP_STAT_ABORT = true ∧ f.isOn Reg.CE_CAP_STAT_ARMED = false ∧ f.isOn Reg.CE_FLAG_CAPABT_F = true ∧
      RegsBut e f [Reg.CE_CAP_STAT, Reg.CE_FLAG]))

/-- The cell opcodes. What a map never loaded reads as is log entry 19, and the points of a sweep whose node sent data log entry 20 (free
values); which of two writes of one stamp and one queue acts is log entry 62 (DESIGN CHOICE). Completion is concluded of: cellMapLoad,
cellMapRead, cellStatusRead, cellBypass, cellRestore, cellIvSweep, cellIvRead, cellVrefSet, cellSocSet, cellRotate. A bulk address that is
not 4-byte aligned is taken too: R341 makes the alignment a duty of the host (log entry 43). (06_cells_and_mppt.md R142,
06_cells_and_mppt.md R154, 06_cells_and_mppt.md R157, 06_cells_and_mppt.md R158, 06_cells_and_mppt.md R161, 06_cells_and_mppt.md R164,
06_cells_and_mppt.md R168, 06_cells_and_mppt.md R169, 01_station_architecture.md R20, 01_station_architecture.md R21) -/
def Obligations.CellCommands : Prop :=
  ∀ (s : State) (src : Src) (p : Packet) (w : WaitCmd) (e : Dev) (a x : Nat), a = pN p 24 8 → x = pN p 16 4 →
  (s.start.begins 0x30 src p = some (w, e) → ∀ m t, e.loads src a 16448 = true → t = e.loading src 16448 → m = t.bulkRead src a 16448 →
    (∀ o, badMap m t.servedPos = some o → CompletesWith (.cellMapLoad src p) s w t { status := sBAD_PARAM, detail := o }) ∧
    (∀ u, badMap m t.servedPos = none → u = t.setCells { map := m, recs := mapRecs m, tel := t.cells.tel } →
      (Admitted t u → ∃ f : Dev, CompletesWith (.cellMapLoad src p) s w f { status := sOK } ∧ f.cells = u.cells ∧ f.ce = t.ce ∧
        RegsBut t f ((List.range 64).map Reg.CE_CSTATc)) ∧
      (∀ d, t.itemRefused u = some d → CompletesWith (.cellMapLoad src p) s w (t.raise Reg.FRM_FLAG_ADMREJ_F) { status := sBUSY, detail := d }))) ∧
  (s.start.begins 0x31 src p = some (w, e) →
    (∀ m, e.cells.map = m → m ≠ [] → e.stores src a m.length = true → CompletesWith (.cellMapRead src p) s w (e.readOut src p m) { status := sOK }) ∧
    (∀ m, e.cells.map = [] → m = zeros 64 ++ (List.replicate 1024 (0xFF#8 :: zeros 15)).flatten → e.stores src a m.length = true →
      CompletesWith (.cellMapRead src p) s w (e.readOut src p m) { status := sOK })) ∧
  (∀ i ∈ [(0x32, Instr.cellStatusRead src p, [1, 2, 3]), (0x33, .cellBypass src p, [1]), (0x34, .cellRestore src p, [1]), (0x35, .cellIvSweep src p, [1, 2, 3]),
      (0x36, .cellIvRead src p, [1]), (0x37, .cellVrefSet src p, [1, 2, 3]), (0x38, .cellSocSet src p, [1, 2, 3])],
    s.start.begins i.1 src p = some (w, e) → ∀ d, e.badAddress p x i.2.2 = some d → CompletesWith i.2.1 s w e { status := sBAD_PARAM, detail := d }) ∧
  (s.start.begins 0x32 src p = some (w, e) → e.badAddress p x [1, 2, 3] = none → ∀ rs d, rs = e.cells.recs.filter (fun r => (e.scopePos x).contains r.pos) →
    d = toLe e.cells.runStamp 8 ++ toLe e.cells.runFrame 4 ++ toLe rs.length 2 ++ toLe e.cells.skipped 2 ++ zeros 16 ++ (rs.map e.cellStatus).flatten →
    e.stores src a d.length = true → CompletesWith (.cellStatusRead src p) s w (e.readOut src p d) { status := sOK }) ∧
  (s.start.begins 0x33 src p = some (w, e) → e.badAddress p x [1] = none →
    CompletesWith (.cellBypass src p) s w { e with cells := { e.cells with hostByp := e.cells.hostByp ++ e.scopePos x } } { status := sOK }) ∧
  (s.start.begins 0x34 src p = some (w, e) → e.badAddress p x [1] = none → ∃ f : Dev, CompletesWith (.cellRestore src p) s w f { status := sOK } ∧
    f = { e with cells := { e.cells with cells := f.cells.cells } } ∧
    ∀ q, f.cell q = if q ∈ e.scopePos x ∧ (e.cell q).state = 5 then { e.cell q with state := 1, since := e.stamp 0 } else e.cell q) ∧
  (s.start.begins 0x35 src p = some (w, e) → e.badAddress p x [1, 2, 3] = none → ∀ ps b,
    ps = (e.scopePos x).filter (fun q => e.cells.recs.any (fun r => r.pos == q && r.source == 1)) →
    ((ps = [] ∨ 64 < ps.length ∨ ∃ q ∈ e.scopePos x, (e.cell q).state ≠ 2) →
      CompletesWith (.cellIvSweep src p) s w e { status := sBAD_PARAM, detail := 16 }) ∧
    (ps ≠ [] → ps.length ≤ 64 → (∀ q ∈ e.scopePos x, (e.cell q).state = 2) →
      (e.cells.iv.running || e.soleTaken (withOp p 0x35)) = true →
      CompletesWith (.cellIvSweep src p) s w e { status := sBUSY }) ∧
    (e.cells.iv.running = false → e.soleTaken (withOp p 0x35) = false → ps ≠ [] → ps.length ≤ 64 → (∀ q ∈ e.scopePos x, (e.cell q).state = 2) → e.sweepImg = some b →
      ∃ f : Dev, CompletesWith (.cellIvSweep src p) s w f { status := sOK } ∧ f = { e with cells := f.cells } ∧ f.cells.iv.running = true ∧
        f.cells.iv.commanded = true ∧ f.cells.iv.later = [] ∧ f.cells.iv.cells.map (·.pos) = ps ∧ f.cells.ivRes = [] ∧
        (∀ q ∈ ps, (f.cell q).state = 4 ∧ (f.cell q).since = e.tickStamp) ∧ (∀ q, q ∉ ps → f.cell q = e.cell q))) ∧
  (s.start.begins 0x36 src p = some (w, e) → e.badAddress p x [1] = none →
    ((e.scopePos x).findSome? (fun q => sget (fun _ => none) e.cells.ivRes q) = none → e.addrOk src (pN p 24 8) 0 = false → CompletesWith (.cellIvRead src p) s w e { status := sBAD_PARAM, detail := 24 }) ∧
    ((e.scopePos x).findSome? (fun q => sget (fun _ => none) e.cells.ivRes q) = none → e.addrOk src (pN p 24 8) 0 = true → CompletesWith (.cellIvRead src p) s w e { status := sNOT_READY }) ∧
    (∀ y t b d, (e.scopePos x).findSome? (fun q => sget (fun _ => none) e.cells.ivRes q) = some y → (b, t) = e.ivPoints y →
      (y.data = [] → b = (y.points.map (fun q => wordBytes q.1 ++ wordBytes q.2)).flatten ∧ t = e) ∧
      (d = toLe x 4 ++ [BitVec.ofNat 8 y.points.length, BitVec.ofNat 8 y.best, 0, 0] ++ toLe y.stamp 8 ++ b →
        t.stores src a d.length = true → CompletesWith (.cellIvRead src p) s w (t.readOut src p d) { status := sOK }))) ∧
  (s.start.begins 0x37 src p = some (w, e) → e.badAddress p x [1, 2, 3] = none → ∀ rs, rs = e.cells.recs.filter (fun r => (e.scopePos x).contains r.pos) →
    ((∃ r ∈ rs, r.source ≠ 1) → CompletesWith (.cellVrefSet src p) s w e { status := sBAD_PARAM, detail := 16 }) ∧
    ((∀ r ∈ rs, r.source = 1) → pB p 20 % 2 = 1 → fFinite (pW p 32) = false →
      CompletesWith (.cellVrefSet src p) s w e { status := sBAD_PARAM, detail := 32 }) ∧
    ((∀ r ∈ rs, r.source = 1) → (pB p 20 % 2 = 1 → fFinite (pW p 32) = true) → (e.cells.recs.map (·.pos)).Nodup →
      ∃ f : Dev, CompletesWith (.cellVrefSet src p) s w f { status := sOK } ∧ f = { e with cells := { e.cells with cells := f.cells.cells } } ∧
        (∀ q, (∀ r ∈ rs, r.pos ≠ q) → f.cell q = e.cell q) ∧
        (∀ r ∈ rs, (∀ o, (e.cell r.pos).vrefNew = some o → newer (e.stamp 0) (srcRank src) o.2.2.1 o.2.2.2 = true) →
          f.cell r.pos = { e.cell r.pos with vrefNew := some (pB p 20 % 2 == 1, pW p 32, e.stamp 0, srcRank src) }) ∧
        (∀ r ∈ rs, ∀ o, (e.cell r.pos).vrefNew = some o → newer (e.stamp 0) (srcRank src) o.2.2.1 o.2.2.2 = false → f.cell r.pos = e.cell r.pos) ∧
        (∀ g : Dev, ∀ r ∈ rs, g = e.vrefTake r → ∀ o, (e.cell r.pos).vrefNew = some o →
          (o.1 = false → g.cell r.pos = { e.cell r.pos with fixed := false, vrefNew := none }) ∧
          (∀ v, o.1 = true → v = (match e.sweepImg with | some b => vrefLimit b r o.2.1 | none => o.2.1) →
            g.cell r.pos = { e.cell r.pos with fixed := true, due := false, vref := v, vrefNew := none })))) ∧
  (s.start.begins 0x38 src p = some (w, e) → e.badAddress p x [1, 2, 3] = none → ∀ rs, rs = e.cells.recs.filter (fun r => (e.scopePos x).contains r.pos) →
    ((∃ r ∈ rs, r.source ≠ 2) → CompletesWith (.cellSocSet src p) s w e { status := sBAD_PARAM, detail := 16 }) ∧
    ((∀ r ∈ rs, r.source = 2) → (fLe fZero (pW p 32) && fLe (pW p 32) fOne) = false →
      CompletesWith (.cellSocSet src p) s w e { status := sBAD_PARAM, detail := 32 }) ∧
    ((∀ r ∈ rs, r.source = 2) → (fLe fZero (pW p 32) && fLe (pW p 32) fOne) = true → ∃ f : Dev, CompletesWith (.cellSocSet src p) s w f { status := sOK } ∧
      f = { e with cells := { e.cells with cells := f.cells.cells } } ∧ (∀ q, (∀ r ∈ rs, r.pos ≠ q) → f.cell q = e.cell q) ∧
      (∀ r ∈ rs, f.cell r.pos = { e.cell r.pos with soc := pW p 32, socUnk := false }))) ∧
  (s.start.begins 0x39 src p = some (w, e) → ∀ g, g = pB p 16 →
    (6 ≤ g → g ≠ 0xFF → CompletesWith (.cellRotate src p) s w e { status := sBAD_PARAM, detail := 16 }) ∧
    (g < 6 → CompletesWith (.cellRotate src p) s w { e with cells := { e.cells with rotDue := e.cells.rotDue ||| 2 ^ g } } { status := sOK }) ∧
    (g = 0xFF → CompletesWith (.cellRotate src p) s w { e with cells := { e.cells with rotDue := 63 } } { status := sOK }))

/-- The modulator opcodes. A second profile load while one waits, one test record at a time, and the first boundary of a commit without an
execute-at are log entry 22 (DEDUCED); a gone ring’s nodes count as missing by R202. Completion is concluded of: modSlotLoad, modCellCommit,
modProfLoad, modProfRead, modFltClear, modEdgeTest, modBsRead, modSlotRead. A bulk address that is not 4-byte aligned is taken too: R341
makes the alignment a duty of the host (log entry 43). (07_espalier_edge_modulator.md R180, 07_espalier_edge_modulator.md R186,
07_espalier_edge_modulator.md R188, 07_espalier_edge_modulator.md R189, 07_espalier_edge_modulator.md R199, 07_espalier_edge_modulator.md
R202, 09_thicket_cell_rings.md R249) -/
def Obligations.ModulatorCommands : Prop :=
  ∀ (s : State) (src : Src) (p : Packet) (w : WaitCmd) (e : Dev) (a : Nat), a = pN p 24 8 →
  (s.start.begins 0x40 src p = some (w, e) → e.loads src a 2048 = true → ∀ t d, t = e.loading src 2048 → d = t.bulkRead src a 2048 →
    ∃ f : Dev, CompletesWith (.modSlotLoad src p) s w f { status := sOK } ∧ f = { t with esp := { t.esp with shadow := f.esp.shadow } } ∧
      (∀ i, i < 1024 → sget (fun _ => 0) f.esp.shadow i = leAt d (2 * i) 2)) ∧
  (s.start.begins 0x41 src p = some (w, e) →
    ((∃ r ∈ e.cells.recs, e.nslot r.group ≤ sget (fun _ => 0) e.esp.shadow r.pos) →
      CompletesWith (.modCellCommit src p) s w e { status := sBAD_PARAM }) ∧
    ((∀ r ∈ e.cells.recs, sget (fun _ => 0) e.esp.shadow r.pos < e.nslot r.group) → ∃ f : Dev, CompletesWith (.modCellCommit src p) s w f { status := sOK } ∧
      f = { e with esp := { e.esp with commits := f.esp.commits } } ∧ f.esp.commits.map (·.group) = List.range 6 ∧
      (∀ c ∈ f.esp.commits, c.execAt = pExecAt p ∧ c.afterN = e.frm.tickNo))) ∧
  (s.start.begins 0x42 src p = some (w, e) → e.loads src a 128 = true → ∀ d t, t = e.loading src 128 → d = t.bulkRead src a 128 →
    (∀ o, badProf d = some o → CompletesWith (.modProfLoad src p) s w t { status := sBAD_PARAM, detail := o }) ∧
    (badProf d = none → t.esp.profCmd.isSome = true → CompletesWith (.modProfLoad src p) s w t { status := sBUSY }) ∧
    (badProf d = none → t.esp.profCmd = none → ∃ f : Dev, f.esp.prof = d ∧ RegsBut t f [] ∧
      (∀ r, r < 16 → t.ringEn r = true → t.ringSt r ≠ rsFAILED → ∀ b, b = recordBlock 127 2 (sget (fun _ => 0) f.esp.gen r) ((List.range 32).map (fun i => wordAt d (4 * i))) →
        sget (fun _ => 0) f.esp.gen r = (sget (fun _ => 0) t.esp.gen r + 1) % 16 ∧
        OutMsg.thk (2 * r) b ((List.range 32).map (fun i => wordAt d (4 * i))) ∈ f.out ∧
        (t.folded r = true → OutMsg.thk (2 * r + 1) b ((List.range 32).map (fun i => wordAt d (4 * i))) ∈ f.out)) ∧
      (∀ r, r < 16 → (t.ringEn r = false ∨ t.ringSt r = rsFAILED) → sget (fun _ => 0) f.esp.gen r = sget (fun _ => 0) t.esp.gen r) ∧
      (∀ r, r ∈ f.esp.profSent ↔ r < 16 ∧ t.ringEn r = true ∧ t.ringSt r ≠ rsFAILED) ∧
      (∀ x, f.profHeld x = true → x / 64 ∈ f.esp.profSent) ∧
      (t.cells.recs = [] → CompletesWith (.modProfLoad src p) s w f { status := sOK, result := toLe 0 2 }) ∧
      (t.cells.recs ≠ [] → Answers (.modProfLoad src p) s (f.goesOn w) ∧ f.esp.profCmd = some (src, withOp p 0x42, t.curN)))) ∧
  (s.start.begins 0x43 src p = some (w, e) → ∀ d, d = (if e.esp.prof = [] then zeros 128 else e.esp.prof) → e.stores src a d.length = true →
    CompletesWith (.modProfRead src p) s w (e.readOut src p d) { status := sOK }) ∧
  (s.start.begins 0x44 src p = some (w, e) → ∀ m l bad, m = pN p 16 2 % 4096 → l = (List.range 12).filter (fun n => m / 2 ^ n % 2 == 1) →
    bad = (if pB p 18 % 2 = 1 then l.filter (fun n => e.isOn (Reg.MOD_HBn_STAT_FLTLAT n) && e.hbActive n) else []) →
    ∃ f : Dev, CompletesWith (.modFltClear src p) s w f
        { status := (if bad = [] then sOK else sTRIP_ACTIVE), detail := bad.foldl (fun x n => x + 2 ^ n) 0 } ∧
      RegsBut e f (Reg.MOD_FLAG :: (List.range 12).map Reg.MOD_HBn_STAT) ∧ f = { e with regs := f.regs, evt := f.evt, hb := f.hb } ∧
      (bad ≠ [] → f.isOn Reg.MOD_FLAG_CLRREJ_F = true) ∧ (bad = [] → f.reg Reg.MOD_FLAG = e.reg Reg.MOD_FLAG) ∧
      (∀ n, n < 12 → f.isOn (Reg.MOD_HBn_STAT_XCMD n) = (e.isOn (Reg.MOD_HBn_STAT_XCMD n) && !(l.contains n && pB p 18 / 2 % 2 == 1)) ∧
        f.isOn (Reg.MOD_HBn_STAT_FLTLAT n) = (e.isOn (Reg.MOD_HBn_STAT_FLTLAT n) && !(l.contains n && pB p 18 % 2 == 1 && !bad.contains n)))) ∧
  (s.start.begins 0x45 src p = some (w, e) → ∀ x n, x = pN p 16 4 → n = pB p 20 →
    (∀ d, e.badAddress p x [1] = some d → CompletesWith (.modEdgeTest src p) s w e { status := sBAD_PARAM, detail := d }) ∧
    (e.badAddress p x [1] = none → (n = 0 ∨ 8 < n) → CompletesWith (.modEdgeTest src p) s w e { status := sBAD_PARAM, detail := 20 }) ∧
    (e.badAddress p x [1] = none → 1 ≤ n → n ≤ 8 → ∀ t, t = (awRing x * 64 + awCell x, (List.range n).map (fun i => pW p (32 + 4 * i))) →
      CompletesWith (.modEdgeTest src p) s w { e with esp := { e.esp with test := some t } } { status := sOK })) ∧
  (s.start.begins 0x46 src p = some (w, e) → ∀ x, x = pN p 16 4 →
    (∀ d, e.badAddress p x [1, 2, 3] = some d → CompletesWith (.modBsRead src p) s w e { status := sBAD_PARAM, detail := d }) ∧
    (e.badAddress p x [1, 2, 3] = none → ∀ d, d = ((e.scopePos x).map (fun q => toLe (e.cellWord q) 4 ++ toLe (e.bsFraction (e.legsOf q).a) 2 ++
        toLe (e.bsFraction (e.legsOf q).b) 2)).flatten → e.stores src a d.length = true →
      CompletesWith (.modBsRead src p) s w (e.readOut src p d) { status := sOK })) ∧
  (s.start.begins 0x47 src p = some (w, e) →
    (∀ y ∈ [(0, e.esp.active), (1, e.esp.shadow), (2, e.esp.effective)], pB p 16 % 4 = y.1 → e.stores src a (slotBytes y.2).length = true →
      CompletesWith (.modSlotRead src p) s w (e.readOut src p (slotBytes y.2)) { status := sOK }) ∧
    (pB p 16 % 4 = 3 → CompletesWith (.modSlotRead src p) s w e { status := sBAD_PARAM, detail := 16 }))

/-- The grid opcodes. That a profile load ends a mismatch found with the old profile is log entry 26 (DESIGN CHOICE). Completion is
concluded of: gridProfileLoad, gridProfileRead, gridStatusRead, gridIslArm, gridZrefReset, gridTripTest. A bulk address that is not 4-byte
aligned is taken too: R341 makes the alignment a duty of the host (log entry 43). (08_grid_behaviour.md R209, 08_grid_behaviour.md R230,
08_grid_behaviour.md R232, 08_grid_behaviour.md R233, 11_protection_and_safety.md R288, 11_protection_and_safety.md R289) -/
def Obligations.GridCommands : Prop :=
  ∀ (s : State) (src : Src) (p : Packet) (w : WaitCmd) (e : Dev) (a : Nat), a = pN p 24 8 →
  (s.start.begins 0x50 src p = some (w, e) → e.loads src a 320 = true → ∀ d t, t = e.loading src 320 → d = t.bulkRead src a 320 →
    (∀ o, lowestOf (badProfile d) = some o → CompletesWith (.gridProfileLoad src p) s w t { status := sBAD_PARAM, detail := o }) ∧
    (badProfile d = [] → CompletesWith (.gridProfileLoad src p) s w
      { t with grid := { t.grid with profile := d, crc := crc32 d, mismatch := false } }
      { status := sOK, result := toLe (crc32 d) 4 })) ∧
  (s.start.begins 0x51 src p = some (w, e) → ∀ d, d = (if e.grid.profile = [] then zeros 320 else e.grid.profile) → e.stores src a d.length = true →
    CompletesWith (.gridProfileRead src p) s w (e.readOut src p d) { status := sOK }) ∧
  (s.start.begins 0x52 src p = some (w, e) → e.gridStatus.length = 96 ∧ (e.stores src a 96 = true →
    CompletesWith (.gridStatusRead src p) s w (e.readOut src p e.gridStatus) { status := sOK })) ∧
  (s.start.begins 0x53 src p = some (w, e) →
    CompletesWith (.gridIslArm src p) s w { e with grid := { e.grid with armed := pB p 16 % 2 == 1 } } { status := sOK }) ∧
  (s.start.begins 0x54 src p = some (w, e) → CompletesWith (.gridZrefReset src p) s w { e with isl := { e.isl with count := 0 } } { status := sOK }) ∧
  (s.start.begins 0x55 src p = some (w, e) → ∀ c k, c = pB p 16 → k = (if c = 14 then 0x29 else 0x28) →
    ((c = 0 ∨ 15 < c) → CompletesWith (.gridTripTest src p) s w e { status := sBAD_PARAM, detail := 16 }) ∧
    (1 ≤ c → c ≤ 15 → ∃ f : Dev, CompletesWith (.gridTripTest src p) s w f { status := sOK } ∧ f.grid.lastCause = c ∧ f.grid.tripStamp = e.stamp 0 ∧
      (e.effective k = true → f.isOn (latF k) = true) ∧ (e.effective k = true → e.anyLatch = false → FirstLatch e f k (e.stamp 0)) ∧
      (e.effective k = false → f.isOn (latF k) = e.isOn (latF k) ∧ f.st = e.st ∧ RegsBut e f logRegs)))

/-- The station opcodes. A second join that waits, what STN_LEAVE keeps, and that a join of a chip in the station answers OK rest on log
entry 21 (DEDUCED), the bytes of its messages too (DESIGN CHOICE); which of two slot writes of one stamp and one queue acts is log entry 62
(DESIGN CHOICE). Completion is concluded of: stnTableLoad, stnTableRead, stnJoin, stnLeave, stnStatusRead, stnSlotSet, stnResarea,
stnSquallAt. A bulk address that is not 4-byte aligned is taken too: R341 makes the alignment a duty of the host (log entry 43).
(10_krekai_station_fabric.md R260, 10_krekai_station_fabric.md R265, 10_krekai_station_fabric.md R266, 10_krekai_station_fabric.md R267,
10_krekai_station_fabric.md R268, 10_krekai_station_fabric.md R278, 10_krekai_station_fabric.md R282, 10_krekai_station_fabric.md R283,
10_krekai_station_fabric.md R284, 15_squall_snapshot.md R389) -/
def Obligations.StationCommands : Prop :=
  ∀ (s : State) (src : Src) (p : Packet) (w : WaitCmd) (e : Dev) (a : Nat), a = pN p 24 8 →
  (s.start.begins 0x60 src p = some (w, e) → e.loads src a 1088 = true → ∀ d t, t = e.loading src 1088 → d = t.bulkRead src a 1088 →
    (∀ o, lowestOf (tableOwn d ++ t.tableOthers d) = some o → CompletesWith (.stnTableLoad src p) s w t { status := sBAD_PARAM, detail := o }) ∧
    (tableOwn d ++ t.tableOthers d = [] → ∃ f : Dev, CompletesWith (.stnTableLoad src p) s w f { status := sOK, result := toLe (crc32 d) 4 } ∧
      f.krk = { t.krk with table := d } ∧ f.reg Reg.KRK_TBLCRC = BitVec.ofNat 32 (crc32 d) ∧ f.get Reg.KRK_VOTES_VTOTAL = stVotes d % 2 ^ 13 ∧
      RegsBut t f [Reg.KRK_TBLCRC, Reg.KRK_VOTES])) ∧
  (s.start.begins 0x61 src p = some (w, e) → ∀ d, d = (if e.krk.table = [] then zeros 1088 else e.krk.table) → e.stores src a d.length = true →
    CompletesWith (.stnTableRead src p) s w (e.readOut src p d) { status := sOK }) ∧
  (s.start.begins 0x62 src p = some (w, e) →
    (e.krk.table = [] → CompletesWith (.stnJoin src p) s w e { status := sNOT_READY }) ∧
    (e.krk.table ≠ [] → e.krk.joined = true → CompletesWith (.stnJoin src p) s w e { status := sOK, result := [BitVec.ofNat 8 e.mst] }) ∧
    (e.krk.table ≠ [] → e.krk.joined = false → e.krk.joinCmd.isSome = true → CompletesWith (.stnJoin src p) s w e { status := sBUSY }) ∧
    (∀ z : Dev, e.krk.table ≠ [] → e.krk.joined = false → e.krk.joinCmd = none → z = { e with krk := { e.krk with fibre := 0 } } →
      (∀ c, z.joinOwn = some c → ∃ f : Dev, CompletesWith (.stnJoin src p) s w f { status := sBAD_PARAM, detail := c.1 + 256 * c.2 } ∧
        f.isOn Reg.KRK_FLAG_JOINERR_F = true ∧ f.krk.joined = false ∧ (∀ q, q < 4 → f.get (Reg.KRK_PORTp_STAT_LINK q) = 0) ∧
        RegsBut e f (Reg.KRK_FLAG :: (List.range 4).map Reg.KRK_PORTp_STAT)) ∧
      (z.joinOwn = none → (∀ q, q < 4 → portChip e.krk.table e.ownIndex q = none) → ∃ f : Dev,
        CompletesWith (.stnJoin src p) s w f { status := sOK, result := [BitVec.ofNat 8 mJOINING] } ∧ f.krk.joined = true ∧ f.mst = mJOINING ∧
        f.lsFrames = z.latencies.1 ∧ f.laFrames = z.latencies.2 ∧ f.reach f.ownIndex = true ∧
        f.grid.role = (if e.grid.fixed then e.grid.role else e.gridRole)) ∧
      (z.joinOwn = none → (∃ q, q < 4 ∧ (portChip e.krk.table e.ownIndex q).isSome = true) → ∃ f : Dev, Answers (.stnJoin src p) s (f.goesOn w) ∧
        f.krk = { z.krk with joinCmd := some (src, withOp p 0x62) } ∧ RegsBut e f ((List.range 4).map Reg.KRK_PORTp_STAT) ∧
        (∀ q, q < 4 → (portChip e.krk.table e.ownIndex q).isSome = true →
          f.get (Reg.KRK_PORTp_STAT_LINK q) = (if e.get (Reg.KRK_PORTp_STAT_LINK q) = 2 then 2 else 1) ∧
          (e.linkUp q = true → OutMsg.krk q 8 512 (e.ownIdentity 0) ∈ f.out)) ∧
        (∀ q, q < 4 → portChip e.krk.table e.ownIndex q = none → f.reg (Reg.KRK_PORTp_STAT q) = e.reg (Reg.KRK_PORTp_STAT q))))) ∧
  (s.start.begins 0x63 src p = some (w, e) → ∃ f : Dev, CompletesWith (.stnLeave src p) s w f { status := sOK } ∧ f.krk.joined = false ∧ f.mst = mNONE ∧
    f.krk.table = e.krk.table ∧ f.krk.txns = e.krk.txns ∧ f.krk.peers = [] ∧ f.krk.flight = [] ∧ f.grid.issuing = false ∧
    (∀ i, i < 512 → f.reach i = false) ∧ (∀ q, q < 4 → f.reg (Reg.KRK_PORTp_STAT q) = 0) ∧ f.get Reg.KRK_VOTES_VREACH = 0 ∧
    f.get Reg.KRK_VOTES_VTOTAL = e.get Reg.KRK_VOTES_VTOTAL ∧
    RegsBut e f ([Reg.KRK_STAT, Reg.KRK_VOTES, Reg.HIF_EVT, Reg.CLK_STAT] ++ (List.range 16).map Reg.KRK_REACHk ++ (List.range 4).map Reg.KRK_PORTp_STAT)) ∧
  (s.start.begins 0x64 src p = some (w, e) → ∀ d, d = e.stnStatus → d.length = 128 ∧ leAt d 0 8 = e.tickStamp % 2 ^ 64 ∧ leAt d 8 4 = e.frame ∧
    byteAt d 12 = e.mst ∧ leAt d 24 4 = e.get Reg.KRK_VIEW_VIEWNUM ∧ (∀ i, i < 512 → byteAt d (64 + i / 8) / 2 ^ (i % 8) % 2 = b2n (e.reach i)) ∧
    (e.stores src a 128 = true → CompletesWith (.stnStatusRead src p) s w (e.readOut src p d) { status := sOK })) ∧
  (s.start.begins 0x65 src p = some (w, e) → ∀ n, n = pB p 16 →
    ((n = 0 ∨ 8 < n) → CompletesWith (.stnSlotSet src p) s w e { status := sBAD_PARAM, detail := 16 }) ∧
    (∀ i, 1 ≤ n → n ≤ 8 → i < n → stKind e.krk.table (pB p (24 + i)) ≠ 4 → (∀ j, j < i → stKind e.krk.table (pB p (24 + j)) = 4) →
      CompletesWith (.stnSlotSet src p) s w e { status := sBAD_PARAM, detail := 24 + i }) ∧
    (1 ≤ n → n ≤ 8 → (∀ i, i < n → stKind e.krk.table (pB p (24 + i)) = 4) → ∃ f : Dev, CompletesWith (.stnSlotSet src p) s w f { status := sOK } ∧
      f.regs = e.regs ∧ (e.krk.joined = false → f = e) ∧
      (e.krk.joined = true → ∀ i v, i < n → 
          v = SlotVal.mk (pB p (24 + i)) e.ownIndex (e.curN + e.slotDelay (pB p (24 + i))) (pW p (32 + 4 * i)).toNat (e.stamp 0) (srcRank src) →
        v ∈ f.krk.flight ∧ ∀ q, q < 4 → e.linkUp q = true → OutMsg.krk q 2 512 (updateBytes v e.frame) ∈ f.out))) ∧
  (s.start.begins 0x66 src p = some (w, e) → ∀ q, q = pN p 16 2 →
    (63 < q → CompletesWith (.stnResarea src p) s w e { status := sBAD_PARAM, detail := 16 }) ∧
    (q ≤ 63 → ∃ f : Dev, CompletesWith (.stnResarea src p) s w f { status := sOK } ∧ f = { e with krk := { e.krk with area := f.krk.area } } ∧
      ∀ k, sget (fun _ => 0) f.krk.area k = if k = q then a else sget (fun _ => 0) e.krk.area k)) ∧
  (s.start.begins 0x67 src p = some (w, e) →
    (pB p 16 % 2 = 1 → ∃ f : Dev, CompletesWith (.stnSquallAt src p) s w f { status := sOK } ∧ f.isOn Reg.SNP_STAT_SCHED = false ∧ f.snp.schedBuf = none ∧
      RegsBut e f [Reg.SNP_STAT] ∧ (∀ k, k < 4 → e.snp.schedBuf = some k → f.snapResv k = false)) ∧
    (pB p 16 % 2 = 0 → e.snp.schedBuf = none → e.freeBuf = none → CompletesWith (.stnSquallAt src p) s w e { status := sBUSY }) ∧
    (∀ k, pB p 16 % 2 = 0 → k < 4 → e.snp.schedBuf.or e.freeBuf = some k → ∃ f : Dev, CompletesWith (.stnSquallAt src p) s w f { status := sOK } ∧
      f.isOn Reg.SNP_STAT_SCHED = true ∧ f.snp.schedBuf = some k ∧ f.snapResv k = true ∧ f.snp.schedTag = pTag p ∧
      f.pair Reg.SNP_SCHED_LO Reg.SNP_SCHED_HI = pExecAt p ∧ RegsBut e f [Reg.SNP_STAT, Reg.SNP_SCHED_LO, Reg.SNP_SCHED_HI]))

/-- PRT_TRIP_CLEAR, PRT_TRIP_FORCE and PRT_PATH_TEST. That the clear waits for a tick with an execute-at of 0 is DEDUCED (log entry 37).
Completion is concluded of: prtTripClear, heldCommandDue, prtTripForce, prtPathTest. (11_protection_and_safety.md R286,
11_protection_and_safety.md R288, 11_protection_and_safety.md R289, 11_protection_and_safety.md R292, 11_protection_and_safety.md R293,
11_protection_and_safety.md R296, 11_protection_and_safety.md R313, 14_states_and_startup.md R368) -/
def Obligations.TripCommands : Prop :=
  ∀ (s : State) (src : Src) (p : Packet) (w : WaitCmd) (e : Dev),
  (s.start.awaitsTick 0x70 src p = some (w, e) → Answers (.prtTripClear src p) s e ∧ w ∈ e.host.waits ∧ w.kind = .atTick s.dev.frm.tickNo) ∧
  (s.live → s.start.dueAtTick 0x70 = some (w, e) → pB w.pkt 16 % 2 = 1 → e.prt.blanking.isSome = true →
    CompletesWith .heldCommandDue s w e { status := sBUSY }) ∧
  (s.live → s.start.dueAtTick 0x70 = some (w, e) → e.OutOk → (pB w.pkt 16 % 2 = 1 → e.prt.blanking = none) → ∃ f : Dev,
    (∀ c ∈ sourceCodes, c ≠ 0x1C → c ≠ 0x1D → f.isOn (latF c) = (e.isOn (latF c) && (e.mayNotClear c || e.latchedNow c))) ∧
    (∀ c ∈ [0x1C, 0x1D], f.isOn (latF c) = e.isOn (latF c)) ∧ f.OutOk ∧
    f.get Reg.PRT_CNT_CLRREJ_CNT = satAdd (2 ^ (Reg.PRT_CNT_CLRREJ_CNT.hi + 1 - Reg.PRT_CNT_CLRREJ_CNT.lo) - 1) (e.get Reg.PRT_CNT_CLRREJ_CNT)
      ((sourceCodes.filter (fun c => c != 0x1C && c != 0x1D && e.isOn (latF c) && e.mayNotClear c)).length) ∧
    (pB w.pkt 16 % 2 = 1 → Answers .heldCommandDue s (f.goesOn w) ∧ f.loopLatch 0 = false ∧ f.loopLatch 1 = false ∧ f.isOn Reg.PRT_STAT_BLANK = true ∧
      f.prt.blanking = some (w.src, w.pkt) ∧ f.st = e.st) ∧
    (pB w.pkt 16 % 2 = 0 →
      (∀ n, n < 12 → f.isOn (Reg.MOD_HBn_STAT_FLTLAT n) = (e.isOn (Reg.MOD_HBn_STAT_FLTLAT n) &&
        (pB w.pkt 16 / 2 % 2 == 0 || f.anyLatch || (e.get (Reg.MOD_HBn_CFG_FLTSEL n) &&& e.prt.fltPin) != 0))) ∧
      (f.anyLatch = false → CompletesWith .heldCommandDue s w f { status := sOK } ∧ f.reg Reg.PRT_FIRST = 0 ∧
        f.st = if e.st = stTRIPPED then stBLOCKED else e.st) ∧
      (f.anyLatch = true → f.st = e.st ∧ f.isOn Reg.PRT_FLAG_CLRREJ_F = true ∧ CompletesWith .heldCommandDue s w f
        { status := (if f.isOn (latF 0x2A) || f.isOn (latF 0x2B) then sSAFETY_LOCK else sTRIP_ACTIVE), detail := f.latched.headD 0 }))) ∧
  (s.start.begins 0x71 src p = some (w, e) → ∃ f : Dev, CompletesWith (.prtTripForce src p) s w f { status := sOK } ∧ f.isOn (latF 0x2D) = true ∧
    (e.isOn (latF 0x2D) = true → f = e) ∧ (e.anyLatch = false → FirstLatch e f 0x2D (e.stamp 0))) ∧
  (s.start.begins 0x72 src p = some (w, e) → ∃ f : Dev, f.isOn (latF 0x2E) = true ∧ (e.anyLatch = false → FirstLatch e f 0x2E (e.stamp 0)) ∧
    (pB p 16 % 2 = 0 → CompletesWith (.prtPathTest src p) s w f { status := sOK, result := toLe 0xFFFFFFFF 4 ++ toLe 0xFFFFFFFF 4 }) ∧
    (∀ n, n < 12 → f.pinsUnsafe n = true → f.isOn Reg.PRT_FLAG_TESTFAIL_F = true) ∧
    (pB p 16 % 2 = 1 → Answers (.prtPathTest src p) s (f.goesOn w) ∧ f.prt.path = some (src, withOp p 0x72, e.time, [none, none])))

/-- The safety opcodes. What Hedgerow sees and what ends a contactor command rest on log entry 27 (DEDUCED). Completion is concluded of:
safConfigLoad, safConfigConfirm, safConfigRead, safCtoSet, safAccess. A bulk address that is not 4-byte aligned is taken too: R341 makes the
alignment a duty of the host (log entry 43). (11_protection_and_safety.md R303, 11_protection_and_safety.md R304,
11_protection_and_safety.md R306, 11_protection_and_safety.md R307, 11_protection_and_safety.md R308, 11_protection_and_safety.md R309,
11_protection_and_safety.md R313) -/
def Obligations.SafetyCommands : Prop :=
  ∀ (s : State) (src : Src) (p : Packet) (w : WaitCmd) (e : Dev) (a : Nat), a = pN p 24 8 →
  (s.start.begins 0x73 src p = some (w, e) → e.loads src a 64 = true → ∀ b t, t = e.loading src 64 → b = t.bulkRead src a 64 →
    (∀ o, lowestOf (safBad b) = some o → CompletesWith (.safConfigLoad src p) s w t { status := sBAD_PARAM, detail := o }) ∧
    (safBad b = [] → ∃ f : Dev, CompletesWith (.safConfigLoad src p) s w f { status := sOK, result := toLe (leAt b 60 4) 4 } ∧
      f.saf = { t.saf with loaded := b } ∧ f.reg Reg.SAF_PEND = BitVec.ofNat 32 (leAt b 60 4) ∧ RegsBut t f [Reg.SAF_PEND])) ∧
  (s.start.begins 0x74 src p = some (w, e) →
    ((e.saf.loaded = [] ∨ leAt e.saf.loaded 60 4 ≠ pN p 16 4) → ∃ f : Dev, CompletesWith (.safConfigConfirm src p) s w f { status := sBAD_PARAM, detail := 16 } ∧
      f.isOn Reg.SAF_FLAG_CFGERR_F = true ∧ SameBut e f [Reg.SAF_FLAG]) ∧
    (e.saf.loaded ≠ [] → leAt e.saf.loaded 60 4 = pN p 16 4 → ∃ f : Dev, CompletesWith (.safConfigConfirm src p) s w f { status := sOK } ∧
      f.saf.confirmed = e.saf.loaded ∧ f.saf.hedge = e.saf.loaded ∧ f.saf.loaded = [] ∧ f.isOn Reg.SAF_STAT_CFGVALID = true ∧
      f.reg Reg.SAF_CRC = BitVec.ofNat 32 (pN p 16 4) ∧ f.reg Reg.SAF_PEND = 0 ∧
      (∀ i, i < 2 → e.pairReads e.saf.loaded i ≠ 0 → f.get Reg.SAF_HEDGE_DEM / 2 ^ i % 2 = 1) ∧
      ((∀ i, i < 2 → e.pairReads e.saf.loaded i = 0) → f.reg Reg.SAF_HEDGE = e.reg Reg.SAF_HEDGE) ∧
      RegsBut e f [Reg.SAF_STAT, Reg.SAF_CRC, Reg.SAF_PEND, Reg.SAF_HEDGE])) ∧
  (s.start.begins 0x75 src p = some (w, e) →
    (e.saf.loaded = [] → e.saf.confirmed = [] → e.addrOk src (pN p 24 8) 64 = false → CompletesWith (.safConfigRead src p) s w e { status := sBAD_PARAM, detail := 24 }) ∧
    (e.saf.loaded = [] → e.saf.confirmed = [] → e.addrOk src (pN p 24 8) 64 = true → CompletesWith (.safConfigRead src p) s w e { status := sNOT_READY }) ∧
    (e.saf.loaded ≠ [] → e.stores src a e.saf.loaded.length = true →
      CompletesWith (.safConfigRead src p) s w (e.readOut src p e.saf.loaded) { status := sOK, result := [1] }) ∧
    (e.saf.loaded = [] → e.saf.confirmed ≠ [] → e.stores src a e.saf.confirmed.length = true →
      CompletesWith (.safConfigRead src p) s w (e.readOut src p e.saf.confirmed) { status := sOK, result := [0] })) ∧
  (s.start.begins 0x76 src p = some (w, e) → ∀ names on cmd off, names = (fun k => pB p 16 / 2 ^ k % 2 == 1) → on = (fun k => pB p 17 / 2 ^ k % 2 == 1) →
    cmd = (fun k => e.isOn ⟨0x4400, 20 + k, 20 + k⟩) → off = (fun k => cmd k && !(names k && !on k)) →
    (∀ k, k < 4 → names k = true → on k = true → cmd k = false → e.ctoRefused k = true →
      (∀ j, j < k → names j = true → on j = true → cmd j = false → e.ctoRefused j = false) →
      ∃ f : Dev, CompletesWith (.safCtoSet src p) s w f { status := sSAFETY_LOCK, detail := k } ∧ SameBut e f [Reg.SAF_STAT] ∧
        (∀ j, j < 4 → f.isOn ⟨0x4400, 20 + j, 20 + j⟩ = off j) ∧ f.get Reg.SAF_STAT_DEMAND = e.get Reg.SAF_STAT_DEMAND) ∧
    ((∀ j, j < 4 → names j = true → on j = true → cmd j = false → e.ctoRefused j = false) →
      ∃ f : Dev, CompletesWith (.safCtoSet src p) s w f { status := sOK } ∧ SameBut e f [Reg.SAF_STAT] ∧
        (∀ j, j < 4 → f.isOn ⟨0x4400, 20 + j, 20 + j⟩ = (off j || (names j && on j))) ∧ f.get Reg.SAF_STAT_DEMAND = e.get Reg.SAF_STAT_DEMAND)) ∧
  (s.start.begins 0x77 src p = some (w, e) → ∀ k, k = scLock e.saf.confirmed →
    (pB p 16 % 2 = 0 → ∃ f : Dev, CompletesWith (.safAccess src p) s w f { status := sOK } ∧ SameBut e f [Reg.SAF_STAT] ∧ f.isOn Reg.SAF_STAT_ACCESS = false ∧
      (e.isOn Reg.SAF_STAT_ACCESS = true → k < 4 → f.isOn ⟨0x4400, 20 + k, 20 + k⟩ = false) ∧ (e.isOn Reg.SAF_STAT_ACCESS = false → f = e)) ∧
    (pB p 16 % 2 = 1 → e.accessFails ≠ 0 → CompletesWith (.safAccess src p) s w e { status := sSAFETY_LOCK, detail := e.accessFails }) ∧
    (pB p 16 % 2 = 1 → e.accessFails = 0 → ∃ f : Dev, CompletesWith (.safAccess src p) s w f { status := sOK } ∧ SameBut e f [Reg.SAF_STAT] ∧
      f.isOn Reg.SAF_STAT_ACCESS = true ∧ (k < 4 → f.isOn ⟨0x4400, 20 + k, 20 + k⟩ = true)))

/-- The metering opcodes. That a sequence asked for by a command stays a request of its own rests on log entry 28 (DESIGN CHOICE).
Completion is concluded of: mtrCfgLoad, mtrCfgRead, mtrAccRead, mtrIntvRead, mtrEvtRead, mtrHarmRead, mtrUnsavedRead, mtrSaveNow,
mtrAccPreset. A bulk address that is not 4-byte aligned is taken too: R341 makes the alignment a duty of the host (log entry 43).
(12_nimbus_metering.md R332, 12_nimbus_metering.md R335, 12_nimbus_metering.md R336, 12_nimbus_metering.md R338, 12_nimbus_metering.md R339,
02_time_and_frame.md R57, 17_power_and_vault.md R434) -/
def Obligations.MeterCommands : Prop :=
  ∀ (s : State) (src : Src) (p : Packet) (w : WaitCmd) (e : Dev) (a : Nat), a = pN p 24 8 →
  (s.start.begins 0x80 src p = some (w, e) → e.loads src a 128 = true → ∀ c t, t = e.loading src 128 → c = t.bulkRead src a 128 →
    (∀ o, lowestOf (badMtr c) = some o → CompletesWith (.mtrCfgLoad src p) s w t { status := sBAD_PARAM, detail := o }) ∧
    (badMtr c = [] → Admitted t (t.mtrUse c) → ∃ f : Dev, Answers (.mtrCfgLoad src p) s (f.goesOn w) ∧ f = { t with fram := { t.fram with reqs := f.fram.reqs } } ∧
      f.fram.reqs.getLast? = some { bursts := t.cfgBursts c, kind := 2, cmds := [(src, withOp p 0x80)], auto := false, together := true }) ∧
    (∀ d, badMtr c = [] → t.itemRefused (t.mtrUse c) = some d → CompletesWith (.mtrCfgLoad src p) s w (t.raise Reg.FRM_FLAG_ADMREJ_F)
      { status := sBUSY, detail := d })) ∧
  (s.start.begins 0x81 src p = some (w, e) → ∀ d, d = (if e.mtr.cfg = [] then zeros 128 else e.mtr.cfg) → e.stores src a d.length = true →
    CompletesWith (.mtrCfgRead src p) s w (e.readOut src p d) { status := sOK }) ∧
  (s.start.begins 0x82 src p = some (w, e) → ∀ d, d = toLe e.mtr.last 8 ++ ((List.range 18).map (fun k => accBytes (e.mtr.acc.getD k 0))).flatten →
    e.stores src a d.length = true → CompletesWith (.mtrAccRead src p) s w (e.readOut src p d) { status := sOK }) ∧
  (∀ x ∈ [(0x83, Instr.mtrIntvRead src p, 96, e.mtr.intvs), (0x84, .mtrEvtRead src p, 128, e.mtr.evts)], s.start.begins x.1 src p = some (w, e) →
    (x.2.2.1 ≤ pB p 16 → CompletesWith x.2.1 s w e { status := sBAD_PARAM, detail := 16 }) ∧
    (pB p 16 < x.2.2.1 → (pB p 17 = 0 ∨ x.2.2.1 < pB p 17) → CompletesWith x.2.1 s w e { status := sBAD_PARAM, detail := 17 }) ∧
    (pB p 16 < x.2.2.1 → 1 ≤ pB p 17 → pB p 17 ≤ x.2.2.1 → ∀ r, r = (x.2.2.2.drop (pB p 16)).take (pB p 17) →
      (x.2.2.2 = [] → e.addrOk src a 0 = false → CompletesWith x.2.1 s w e { status := sBAD_PARAM, detail := 24 }) ∧
      (x.2.2.2 = [] → e.addrOk src a 0 = true → CompletesWith x.2.1 s w e { status := sNOT_READY }) ∧
      (x.2.2.2 ≠ [] → e.stores src a r.flatten.length = true →
        CompletesWith x.2.1 s w (e.readOut src p r.flatten) { status := sOK, result := toLe r.length 4 }))) ∧
  (∀ x ∈ [(0x85, Instr.mtrHarmRead src p, e.mtr.harm, 1824), (0x86, .mtrUnsavedRead src p, e.mtr.unsaved, 64)], s.start.begins x.1 src p = some (w, e) →
    (x.2.2.1 = [] → e.addrOk src a x.2.2.2 = false → CompletesWith x.2.1 s w e { status := sBAD_PARAM, detail := 24 }) ∧
    (x.2.2.1 = [] → e.addrOk src a x.2.2.2 = true → CompletesWith x.2.1 s w e { status := sNOT_READY }) ∧
    (x.2.2.1 ≠ [] → e.stores src a x.2.2.1.length = true → CompletesWith x.2.1 s w (e.readOut src p x.2.2.1) { status := sOK })) ∧
  (s.start.begins 0x87 src p = some (w, e) → ∀ n, n = e.nextSave → ∃ (f : Dev) (r : FramReq), Answers (.mtrSaveNow src p) s (f.goesOn w) ∧
    f = { e with fram := { e.fram with reqs := f.fram.reqs } } ∧ f.fram.reqs.getLast? = some r ∧
    r.bursts = [(saveSlot n, saveRecord e.mtr.last n (e.reg Reg.MTR_CFGCRC).toNat e.mtr.acc)] ∧ r.kind = 1 ∧ r.started = false ∧
    (src, withOp p 0x87) ∈ r.cmds ∧ (∀ x ∈ f.fram.reqs, x.kind = 1 → x.started = false → x = r) ∧
    (∀ x ∈ e.fram.reqs, (x.kind ≠ 1 ∨ x.started = true) → x ∈ f.fram.reqs) ∧
    (∀ x ∈ e.fram.reqs, x.kind = 1 → x.started = false → (∀ y ∈ x.cmds, y ∈ r.cmds) ∧ (x.auto = true → r.auto = true)) ∧
    ((∀ x ∈ e.fram.reqs, x.kind ≠ 1) → n = e.get Reg.MTR_SAVESEQ_SEQ + 1)) ∧
  (s.start.begins 0x88 src p = some (w, e) → e.loads src a 216 = true → ∀ n acc t, t = e.loading src 216 → n = t.nextSave →
    acc = presetAcc (t.bulkRead src a 216) → ∀ r : Nat → Nat × List Byte,
    (∀ k, r k = (saveSlot (n + k), saveRecord t.mtr.last (n + k) (t.reg Reg.MTR_CFGCRC).toNat acc)) → ∃ f : Dev, Answers (.mtrAccPreset src p) s (f.goesOn w) ∧
    f = { t with fram := { t.fram with reqs := f.fram.reqs } } ∧
    f.fram.reqs.getLast? = some { bursts := [r 0, r 1], kind := 2, cmds := [(src, withOp p 0x88)], auto := false, together := true })

/-- The firmware image opcodes. The size of the state block and the clocks a handover takes are free values, and a wait for the tick with an
execute-at of 0 is DEDUCED (log entries 29, 37). Completion is concluded of: imgBegin, imgBlock, imgVerify, imgAbort, imgStatus,
imgHandover, heldCommandDue. A bulk address that is not 4-byte aligned is taken too: R341 makes the alignment a duty of the host (log entry
43). (16_firmware_handover.md R398, 16_firmware_handover.md R399, 16_firmware_handover.md R401, 16_firmware_handover.md R402,
16_firmware_handover.md R403, 16_firmware_handover.md R404, 16_firmware_handover.md R406, 16_firmware_handover.md R407,
16_firmware_handover.md R414, 14_states_and_startup.md R379) -/
def Obligations.ImageCommands : Prop :=
  ∀ (s : State) (src : Src) (p : Packet) (w : WaitCmd) (e : Dev) (a : Nat), a = pN p 24 8 →
  (s.start.begins 0xA0 src p = some (w, e) → ∀ m, m = pB p 16 % 8 →
    ((m = 0 ∨ m = 6 ∨ m = 7) → CompletesWith (.imgBegin src p) s w e { status := sBAD_PARAM, detail := 16 }) ∧
    (1 ≤ m → m ≤ 5 → e.addrOk src a 256 = true → e.session = true → CompletesWith (.imgBegin src p) s w e { status := sBUSY }) ∧
    (1 ≤ m → m ≤ 5 → e.session = false → e.loads src a 256 = true → ∀ h t, t = e.loading src 256 → h = t.bulkRead src a 256 →
      (∀ o, lowestOf (badImgHeader h) = some o → CompletesWith (.imgBegin src p) s w t { status := sBAD_PARAM, detail := o }) ∧
      (∀ c, badImgHeader h = [] → t.versionRefused h = some c → CompletesWith (.imgBegin src p) s w (t.raise Reg.IMG_FLAG_VREJ_F)
        { status := sVERSION_REJECT, detail := c }) ∧
      (badImgHeader h = [] → t.versionRefused h = none → Config.imageSignatureOk h = false →
        CompletesWith (.imgBegin src p) s w (t.raise Reg.IMG_FLAG_AUTH_F) { status := sAUTH_FAIL }) ∧
      (badImgHeader h = [] → t.versionRefused h = none → Config.imageSignatureOk h = true → ∃ f : Dev, CompletesWith (.imgBegin src p) s w f { status := sOK } ∧
        f.session = true ∧ f.isOn Reg.IMG_STAT_VERIFIED = false ∧ f.get Reg.IMG_STAT_TGT = m ∧ f.reg Reg.IMG_SVER = wordAt h 8 ∧
        f.get Reg.IMG_RCVD_NEED = ihLen h / 256 ∧ f.get Reg.IMG_RCVD_RCVD = 0 ∧ f.img.head = h ∧ f.img.got = [] ∧ f.img.run = t.img.run ∧
        (∀ k, (k = 0 ∧ m / 2 % 2 = 1) ∨ (k = 1 ∧ m / 4 % 2 = 1) → ∀ i, i < 0x200000 → sget qErased f.img.qspi (slotAt k + i) = qErased (slotAt k + i)) ∧
        (m = 1 → f.img.qspi = t.img.qspi) ∧ RegsBut t f [Reg.IMG_STAT, Reg.IMG_SVER, Reg.IMG_RCVD, Reg.IMG_KPROTO]))) ∧
  (s.start.begins 0xA1 src p = some (w, e) → ∀ off n len, off = pN p 16 4 → n = pN p 20 4 → len = ihLen e.img.head →
    (off % 256 ≠ 0 → CompletesWith (.imgBlock src p) s w e { status := sBAD_PARAM, detail := 16 }) ∧
    (off % 256 = 0 → (n % 256 ≠ 0 ∨ n = 0 ∨ 65536 < n) → CompletesWith (.imgBlock src p) s w e { status := sBAD_PARAM, detail := 20 }) ∧
    (off % 256 = 0 → n % 256 = 0 → 1 ≤ n → n ≤ 65536 → e.addrOk src a n = true →
      (e.session = false → CompletesWith (.imgBlock src p) s w e { status := sNOT_READY }) ∧
      (e.session = true → len ≤ off → CompletesWith (.imgBlock src p) s w e { status := sBAD_PARAM, detail := 16 }) ∧
      (e.session = true → off < len → len < off + n → CompletesWith (.imgBlock src p) s w e { status := sBAD_PARAM, detail := 20 }) ∧
      (e.session = true → off + n ≤ len → e.loads src a n = true → ∀ d t, t = e.loading src n → d = t.bulkRead src a n →
        (t.blockDiffers off d = true → CompletesWith (.imgBlock src p) s w t { status := sBAD_PARAM, detail := 16 }) ∧
        (t.blockDiffers off d = false → ∃ f : Dev, CompletesWith (.imgBlock src p) s w f { status := sOK } ∧
          (∀ u, u ∈ f.img.got ↔ u ∈ t.img.got ∨ (off ≤ 256 * u ∧ 256 * u < off + n)) ∧ f.img.head = t.img.head ∧
          f.get Reg.IMG_RCVD_RCVD = f.img.got.length % 2 ^ 13 ∧
          (t.get Reg.IMG_STAT_TGT % 2 = 1 → readBytes f.img.standby off n = d) ∧
          (∀ k, t.qTarget = some k → qRead f.img.qspi (slotAt k + 256 + off) n = d) ∧ (t.qTarget = none → f.img.qspi = t.img.qspi) ∧
          RegsBut t f [Reg.IMG_RCVD])))) ∧
  (s.start.begins 0xA2 src p = some (w, e) → ∀ miss, miss = e.get Reg.IMG_RCVD_NEED - e.img.got.length →
    (e.session = false → CompletesWith (.imgVerify src p) s w e { status := sNOT_READY }) ∧
    (e.session = true → miss ≠ 0 → CompletesWith (.imgVerify src p) s w e { status := sNOT_READY, detail := miss }) ∧
    (e.session = true → miss = 0 → e.hashFails ≠ 0 → ∃ f : Dev, CompletesWith (.imgVerify src p) s w f { status := sAUTH_FAIL, detail := e.hashFails } ∧
      f.session = false ∧ f.isOn Reg.IMG_FLAG_AUTH_F = true ∧ f.img.got = [] ∧ f.img.run = e.img.run) ∧
    (e.session = true → miss = 0 → e.hashFails = 0 → ∃ f : Dev, CompletesWith (.imgVerify src p) s w f { status := sOK } ∧
      f.isOn Reg.IMG_STAT_VERIFIED = true ∧ f.img.standby = e.img.standby ∧ RegsBut e f [Reg.IMG_STAT] ∧
      (∀ k, e.qTarget = some k → e.img.head.length = 256 → f.slotHead k = e.img.head) ∧ (e.qTarget = none → f.img = e.img))) ∧
  (s.start.begins 0xA4 src p = some (w, e) →
    (e.session = false → CompletesWith (.imgAbort src p) s w e { status := sNOT_READY }) ∧
    (e.session = true → ∃ f : Dev, CompletesWith (.imgAbort src p) s w f { status := sOK } ∧ f.session = false ∧ f.get Reg.IMG_STAT_TGT = 0 ∧
      f.isOn Reg.IMG_STAT_VERIFIED = false ∧ f.img.head = [] ∧ f.img.standby = [] ∧ f.img.run = e.img.run ∧
      (∀ a gone, gone = (e.isOn Reg.IMG_STAT_VERIFIED && e.qTarget.any (fun k => decide (slotAt k ≤ a) && decide (a < slotAt k + 65536))) →
        sget qErased f.img.qspi a = if gone then qErased a else sget qErased e.img.qspi a) ∧
      RegsBut e f [Reg.IMG_STAT, Reg.IMG_SVER, Reg.IMG_RCVD, Reg.IMG_KPROTO])) ∧
  (s.start.begins 0xA5 src p = some (w, e) → ∀ b, b = wordBytes (e.reg Reg.IMG_STAT) ++ wordBytes (e.reg Reg.IMG_RCVD) ++ wordBytes (e.reg Reg.IMG_SVER) ++
    toLe (e.get Reg.IMG_KPROTO_SESSKP) 2 → CompletesWith (.imgStatus src p) s w e { status := sOK, result := b }) ∧
  (s.start.awaitsTick 0xA3 src p = some (w, e) → Answers (.imgHandover src p) s e ∧ w ∈ e.host.waits ∧ w.kind = .atTick s.dev.frm.tickNo) ∧
  (s.live → s.start.dueAtTick 0xA3 = some (w, e) → ∀ d : Int, d = (e.get Reg.FRM_PHASE_CMP_END : Int) - 500 →
    ((e.session = false ∨ e.isOn Reg.IMG_STAT_VERIFIED = false ∨ e.get Reg.IMG_STAT_TGT % 2 = 0) →
      CompletesWith .heldCommandDue s w e { status := sNOT_READY }) ∧
    (e.session = true → e.isOn Reg.IMG_STAT_VERIFIED = true → e.get Reg.IMG_STAT_TGT % 2 = 1 →
      (e.recovery = true → ∃ (f : Dev) (k : Nat), CompletesWith .heldCommandDue s w f { status := sOK, result := toLe k 4 } ∧ f.st = stCONFIG ∧
        f.session = false ∧ f.img.run = e.img.head ∧ f.reg Reg.HIF_FWVER = wordAt e.img.head 8 ∧ f.isOn Reg.IMG_FLAG_HOVER_F = true) ∧
      (e.recovery = false → ∃ n : Nat, n % 2 = 0 ∧
        (d < ((e.sinceTick + 520 + n : Nat) : Int) → ∃ f : Dev, CompletesWith .heldCommandDue s w f
          { status := sBUSY, detail := min 0xFFFFF (((e.sinceTick + 520 + n : Nat) : Int) - d).toNat } ∧ f.regs = e.regs ∧ f.img = e.img) ∧
        (((e.sinceTick + 520 + n : Nat) : Int) ≤ d → ∃ (f : Dev) (h : HoSt), Answers .heldCommandDue s (f.goesOn w) ∧ f.isOn Reg.IMG_STAT_HOWIN = true ∧
          f.img.ho = some h ∧ h.src = w.src ∧ h.pkt = w.pkt ∧ e.sinceTick + 20 + n ≤ h.clocks ∧ h.clocks ≤ e.sinceTick + 520 + n ∧
          h.resume = e.clocks + (h.clocks - e.sinceTick) ∧ f.frm.handover = true ∧ RegsBut e f [Reg.IMG_STAT]))))

/-- PWR_STATUS_READ, VLT_STATUS_READ and VLT_FRAM_READ. When the keeper counts rests on log entry 28 (DESIGN CHOICE). Completion is
concluded of: pwrStatusRead, vltStatusRead, vltFramRead. A bulk address that is not 4-byte aligned is taken too: R341 makes the alignment a
duty of the host (log entry 43). (17_power_and_vault.md R432, 17_power_and_vault.md R437, 01_station_architecture.md R29) -/
def Obligations.PowerAndVaultCommands : Prop :=
  ∀ (s : State) (src : Src) (p : Packet) (w : WaitCmd) (e : Dev) (a : Nat), a = pN p 24 8 →
  (∀ d, RegsBut (e.granules src (storeNeeds d.length)) (e.readOut src p d) []) ∧
  (s.start.begins 0xB0 src p = some (w, e) → e.stores src a e.powerRecord.length = true →
    CompletesWith (.pwrStatusRead src p) s w (e.readOut src p e.powerRecord) { status := sOK }) ∧
  (e.pwr.costs.length = 6 → e.pwr.reqs.length = 5 → e.powerRecord.length = 64 ∧ leAt e.powerRecord 0 8 = e.pwr.stamp % 2 ^ 64 ∧
    leAt e.powerRecord 12 2 = e.pwr.limit % 2 ^ 16 ∧ leAt e.powerRecord 28 2 = e.pwr.fixed % 2 ^ 16 ∧ byteAt e.powerRecord 40 = e.pwr.deferred % 256) ∧
  (s.start.begins 0xB1 src p = some (w, e) → e.vltRecord.length = 64 ∧ leAt e.vltRecord 0 8 = e.keeperCount.keeperTU % 2 ^ 64 ∧
    leAt e.vltRecord 8 8 = e.pair Reg.VLT_FAIL_LO Reg.VLT_FAIL_HI ∧ leAt e.vltRecord 28 4 = (e.reg Reg.VLT_CNT).toNat ∧ (e.stores src a 64 = true →
    CompletesWith (.vltStatusRead src p) s w (e.readOut src p e.vltRecord) { status := sOK })) ∧
  (s.start.begins 0xB2 src p = some (w, e) → ∀ x n, x = pN p 16 2 → n = pN p 18 2 →
    (x % 4 ≠ 0 → CompletesWith (.vltFramRead src p) s w e { status := sBAD_PARAM, detail := 16 }) ∧
    (x % 4 = 0 → (n % 4 ≠ 0 ∨ n = 0 ∨ 8192 < x + n) → CompletesWith (.vltFramRead src p) s w e { status := sBAD_PARAM, detail := 18 }) ∧
    (x % 4 = 0 → n % 4 = 0 → 1 ≤ n → x + n ≤ 8192 → e.fram.reqs.any (fun r => r.started) = true → e.addrOk src a n = true →
      Answers (.vltFramRead src p) s (e.goesOn w)) ∧
    (x % 4 = 0 → n % 4 = 0 → 1 ≤ n → x + n ≤ 8192 → e.fram.reqs.any (fun r => r.started) = false → e.stores src a n = true →
      CompletesWith (.vltFramRead src p) s w (e.readOut src p (readBytes e.fram.mem x n)) { status := sOK }))
end

