-- ==== Sys2Proof/Laws/Sparse.lean ====
section
/-! SUPPORT. Laws of bit fields and of the sparse lists that hold registers and memories: read after write, and the canonical form. -/

namespace Sys2Proof.Machine

/-! ### Bit fields -/

theorem testBit_bits (w : Word) (hi lo i : Nat) : (bits w hi lo).testBit i = (decide (i < hi + 1 - lo) && w.getLsbD (lo + i)) := by
  simp [bits, Nat.testBit_mod_two_pow, Nat.testBit_div_two_pow, BitVec.getLsbD, Nat.add_comm]

theorem getLsbD_maskOf (hi lo i : Nat) (hh : hi < 32) (hl : lo ≤ hi) : (maskOf hi lo).getLsbD i = (decide (lo ≤ i) && decide (i ≤ hi)) := by
  have h : ((2 ^ (hi + 1 - lo) - 1) * 2 ^ lo).testBit i = (decide (lo ≤ i) && decide (i ≤ hi)) := by
    rw [Nat.testBit_mul_two_pow, Nat.testBit_two_pow_sub_one]
    by_cases h1 : lo ≤ i <;> by_cases h2 : i ≤ hi <;> simp [h1, h2] <;> omega
  unfold maskOf
  rw [BitVec.getLsbD_ofNat, h]
  by_cases h2 : i ≤ hi
  · simp [show i < 32 by omega]
  · simp [h2]

theorem getLsbD_setBits (w : Word) (hi lo v i : Nat) (hh : hi < 32) (hl : lo ≤ hi) :
    (setBits w hi lo v).getLsbD i = if lo ≤ i ∧ i ≤ hi then v.testBit (i - lo) else w.getLsbD i := by
  unfold setBits
  rw [BitVec.getLsbD_or, BitVec.getLsbD_and, BitVec.getLsbD_not, getLsbD_maskOf _ _ _ hh hl, BitVec.getLsbD_ofNat,
    Nat.testBit_mul_two_pow, Nat.testBit_mod_two_pow]
  by_cases h1 : lo ≤ i <;> by_cases h2 : i ≤ hi
  · simp [h1, h2, show i < 32 by omega, show i - lo < hi + 1 - lo by omega]
  · simp [h1, h2, show ¬ (i - lo < hi + 1 - lo) by omega]
    intro h
    by_contra hc
    have := BitVec.getLsbD_of_ge w i (by omega)
    simp_all
  · simp [h1, h2]
    intro h
    exact BitVec.lt_of_getLsbD h
  · simp [h1, h2]
    intro h
    exact BitVec.lt_of_getLsbD h

/-- A field reads as its last write, cut to its width. -/
theorem bits_setBits_same (w : Word) (hi lo v : Nat) (hh : hi < 32) (hl : lo ≤ hi) :
    bits (setBits w hi lo v) hi lo = v % 2 ^ (hi + 1 - lo) := by
  apply Nat.eq_of_testBit_eq
  intro i
  rw [testBit_bits, getLsbD_setBits _ _ _ _ _ hh hl, Nat.testBit_mod_two_pow]
  by_cases h : i < hi + 1 - lo
  · simp [h, show lo + i ≤ hi by omega]
  · simp [h]

/-- A write to a field leaves every field apart from it. -/
theorem bits_setBits_disjoint (w : Word) (hi lo v hi' lo' : Nat) (hh : hi < 32) (hl : lo ≤ hi) (hd : hi' < lo ∨ hi < lo') :
    bits (setBits w hi lo v) hi' lo' = bits w hi' lo' := by
  apply Nat.eq_of_testBit_eq
  intro i
  rw [testBit_bits, testBit_bits, getLsbD_setBits _ _ _ _ _ hh hl]
  by_cases h : i < hi' + 1 - lo'
  · rw [if_neg (by omega)]
  · simp [h]

theorem bits_lt (w : Word) (hi lo : Nat) : bits w hi lo < 2 ^ (hi + 1 - lo) := Nat.mod_lt _ (by positivity)

/-! ### Sparse lists -/

theorem sget_sremove_same {α : Type} (d : Nat → α) (l : List (Nat × α)) (k : Nat) : sget d (sremove l k) k = d k := by
  induction l with
  | nil => rfl
  | cons p t ih =>
    obtain ⟨a, v⟩ := p
    by_cases h : a = k
    · simpa [sremove, h] using ih
    · simpa [sremove, h, sget] using ih

theorem sget_sremove_ne {α : Type} (d : Nat → α) (l : List (Nat × α)) (k j : Nat) (h : j ≠ k) : sget d (sremove l k) j = sget d l j := by
  induction l with
  | nil => rfl
  | cons p t ih =>
    obtain ⟨a, v⟩ := p
    by_cases ha : a = k
    · subst ha
      have : ¬ a = j := fun e => h e.symm
      simpa [sremove, sget, this] using ih
    · by_cases hj : a = j
      · subst hj
        simp [sremove, ha, sget]
      · simpa [sremove, ha, sget, hj] using ih

theorem sget_sinsert_same {α : Type} (d : Nat → α) (l : List (Nat × α)) (k : Nat) (v : α) (h : ∀ p ∈ l, p.1 ≠ k) :
    sget d (sinsert k v l) k = v := by
  induction l with
  | nil => simp [sinsert, sget]
  | cons p t ih =>
    obtain ⟨a, w⟩ := p
    by_cases ha : k < a
    · simp [sinsert, ha, sget]
    · have : a ≠ k := h (a, w) (by simp)
      simp only [sinsert, ha, if_false, sget, this]
      exact ih (fun q hq => h q (by simp [hq]))

theorem sget_sinsert_ne {α : Type} (d : Nat → α) (l : List (Nat × α)) (k j : Nat) (v : α) (h : j ≠ k) :
    sget d (sinsert k v l) j = sget d l j := by
  have hk : ¬ k = j := fun e => h e.symm
  induction l with
  | nil => simp [sinsert, sget, hk]
  | cons p t ih =>
    obtain ⟨a, w⟩ := p
    by_cases ha : k < a
    · simp [sinsert, ha, sget, hk]
    · simp only [sinsert, ha, if_false, sget, ih]

theorem sremove_ne {α : Type} (l : List (Nat × α)) (k : Nat) : ∀ p ∈ sremove l k, p.1 ≠ k := by
  intro p hp
  simpa using (List.mem_filter.mp hp).2

/-- Reading what was written. -/
@[simp] theorem sget_sset_same {α : Type} [DecidableEq α] (d : Nat → α) (l : List (Nat × α)) (k : Nat) (v : α) :
    sget d (sset d l k v) k = v := by
  unfold sset
  split
  · rw [sget_sremove_same]; symm; assumption
  · exact sget_sinsert_same d _ k v (sremove_ne l k)

/-- A write leaves every other key. -/
theorem sget_sset_ne {α : Type} [DecidableEq α] (d : Nat → α) (l : List (Nat × α)) (k j : Nat) (v : α) (h : j ≠ k) :
    sget d (sset d l k v) j = sget d l j := by
  unfold sset
  split
  · exact sget_sremove_ne d l k j h
  · rw [sget_sinsert_ne d _ k j v h, sget_sremove_ne d l k j h]

/-- The canonical form as a property of the whole list: keys strictly rising, no entry equal to its default. -/
theorem swf_iff {α : Type} [DecidableEq α] (d : Nat → α) (l : List (Nat × α)) :
    swf d l = true ↔ l.Pairwise (fun p q => p.1 < q.1) ∧ ∀ p ∈ l, p.2 ≠ d p.1 := by
  induction l with
  | nil => simp [swf]
  | cons p t ih =>
    obtain ⟨a, v⟩ := p
    cases t with
    | nil => simp [swf]
    | cons q r =>
      obtain ⟨b, w⟩ := q
      simp only [swf, Bool.and_eq_true, bne_iff_ne, decide_eq_true_eq, ih, List.pairwise_cons, List.mem_cons]
      constructor
      · rintro ⟨⟨hv, hab⟩, ⟨hb, hr⟩, hd⟩
        refine ⟨⟨?_, hb, hr⟩, ?_⟩
        · rintro x (rfl | hx)
          · exact hab
          · exact lt_trans hab (hb x hx)
        · rintro x (rfl | rfl | hx)
          · exact hv
          · exact hd _ (Or.inl rfl)
          · exact hd _ (Or.inr hx)
      · rintro ⟨⟨h1, h2, h3⟩, h4⟩
        exact ⟨⟨h4 _ (Or.inl rfl), h1 _ (Or.inl rfl)⟩, ⟨h2, h3⟩, fun x hx => h4 x (Or.inr hx)⟩

theorem mem_sinsert {α : Type} (k : Nat) (v : α) (l : List (Nat × α)) (p : Nat × α) : p ∈ sinsert k v l ↔ p = (k, v) ∨ p ∈ l := by
  induction l with
  | nil => simp [sinsert]
  | cons q t ih =>
    obtain ⟨a, w⟩ := q
    by_cases ha : k < a
    · simp [sinsert, ha]
    · simp only [sinsert, ha, if_false, List.mem_cons, ih]
      tauto

theorem sinsert_sorted {α : Type} (k : Nat) (v : α) (l : List (Nat × α)) (hs : l.Pairwise (fun p q => p.1 < q.1)) (hk : ∀ p ∈ l, p.1 ≠ k) :
    (sinsert k v l).Pairwise (fun p q => p.1 < q.1) := by
  induction l with
  | nil => simp [sinsert]
  | cons q t ih =>
    obtain ⟨a, w⟩ := q
    obtain ⟨h1, h2⟩ := List.pairwise_cons.mp hs
    by_cases ha : k < a
    · simp only [sinsert, ha, if_true, List.pairwise_cons]
      refine ⟨?_, h1, h2⟩
      rintro x hx
      rcases List.mem_cons.mp hx with rfl | hx
      · exact ha
      · exact lt_trans ha (h1 x hx)
    · simp only [sinsert, ha, if_false, List.pairwise_cons]
      have hne : a ≠ k := hk (a, w) (by simp)
      refine ⟨?_, ih h2 (fun p hp => hk p (by simp [hp]))⟩
      intro x hx
      rcases (mem_sinsert k v t x).mp hx with rfl | hx
      · show a < k
        omega
      · exact h1 x hx

/-- A write keeps the canonical form. -/
theorem sset_swf {α : Type} [DecidableEq α] (d : Nat → α) (l : List (Nat × α)) (k : Nat) (v : α) (h : swf d l = true) :
    swf d (sset d l k v) = true := by
  obtain ⟨h1, h2⟩ := (swf_iff d l).mp h
  have h3 : (sremove l k).Pairwise (fun p q => p.1 < q.1) := h1.filter _
  have h4 : ∀ p ∈ sremove l k, p.2 ≠ d p.1 := fun p hp => h2 p (List.mem_filter.mp hp).1
  rw [swf_iff]
  unfold sset
  split
  · exact ⟨h3, h4⟩
  · rename_i hv
    refine ⟨sinsert_sorted k v _ h3 (sremove_ne l k), ?_⟩
    intro p hp
    rcases (mem_sinsert k v _ p).mp hp with rfl | hp
    · exact hv
    · exact h4 p hp

/-! ### Bytes -/

/-- Writing bytes keeps the canonical form of a memory. -/
theorem writeBytes_wf (m : List (Nat × Byte)) (a : Nat) (b : List Byte) (h : swf (fun _ => 0) m = true) :
    swf (fun _ => 0) (writeBytes m a b) = true := by
  induction b generalizing m a with
  | nil => exact h
  | cons x t ih => exact ih _ _ (sset_swf _ _ _ _ h)

/-- Writing bytes leaves every byte outside them. -/
theorem sget_writeBytes_ne (m : List (Nat × Byte)) (a : Nat) (b : List Byte) (k : Nat) (h : k < a ∨ a + b.length ≤ k) :
    sget (fun _ => 0) (writeBytes m a b) k = sget (fun _ => 0) m k := by
  induction b generalizing m a with
  | nil => rfl
  | cons x t ih =>
    have hl : (x :: t).length = t.length + 1 := rfl
    rw [writeBytes, ih _ _ (by omega), sget_sset_ne _ _ _ _ _ (by omega)]

/-- A byte that was written. -/
theorem sget_writeBytes (m : List (Nat × Byte)) (a : Nat) (b : List Byte) (i : Nat) (h : i < b.length) :
    sget (fun _ => 0) (writeBytes m a b) (a + i) = b.getD i 0 := by
  induction b generalizing m a i with
  | nil => simp at h
  | cons x t ih =>
    cases i with
    | zero => rw [writeBytes, sget_writeBytes_ne _ _ _ _ (by omega)]; simp
    | succ j =>
      have hl : (x :: t).length = t.length + 1 := rfl
      have := ih (sset (fun _ => 0) m a x) (a + 1) j (by omega)
      rw [writeBytes, show a + (j + 1) = a + 1 + j by omega, this]
      simp

/-- Bytes read back as they were written. -/
theorem readBytes_writeBytes (m : List (Nat × Byte)) (a : Nat) (b : List Byte) : readBytes (writeBytes m a b) a b.length = b := by
  have key : ∀ (n k : Nat), k + n = b.length → readBytes (writeBytes m a b) (a + k) n = b.drop k := by
    intro n
    induction n with
    | zero => intro k hk; simp [readBytes, List.drop_of_length_le (by omega : b.length ≤ k)]
    | succ n ih =>
      intro k hk
      have hk' : k < b.length := by omega
      rw [readBytes, sget_writeBytes _ _ _ _ hk', show a + k + 1 = a + (k + 1) by omega, ih (k + 1) (by omega),
        List.drop_eq_getElem_cons hk']
      simp [List.getD_eq_getElem?_getD, hk']
  have := key b.length 0 (by omega)
  simpa using this

end Sys2Proof.Machine
end

