-- ==== Sys2Proof/Laws/State.lean ====
section
/-! SUPPORT. What each update of the device leaves: one law per field per update, so that no later proof unfolds a record update. -/

namespace Sys2Proof.Machine

variable (s : Dev)

/-! ### setReg -/

@[simp] theorem Dev.setReg_hiLatch (o : Nat) (w : Word) : (s.setReg o w).hiLatch = s.hiLatch := rfl
@[simp] theorem Dev.setReg_time (o : Nat) (w : Word) : (s.setReg o w).time = s.time := rfl
@[simp] theorem Dev.setReg_clocks (o : Nat) (w : Word) : (s.setReg o w).clocks = s.clocks := rfl
@[simp] theorem Dev.setReg_evt (o : Nat) (w : Word) : (s.setReg o w).evt = s.evt := rfl
@[simp] theorem Dev.setReg_clkRegs (o : Nat) (w : Word) : (s.setReg o w).clkRegs = s.clkRegs := rfl
@[simp] theorem Dev.setReg_freeUsed (o : Nat) (w : Word) : (s.setReg o w).freeUsed = s.freeUsed := rfl
@[simp] theorem Dev.setReg_inReset (o : Nat) (w : Word) : (s.setReg o w).inReset = s.inReset := rfl
@[simp] theorem Dev.setReg_straps (o : Nat) (w : Word) : (s.setReg o w).straps = s.straps := rfl
@[simp] theorem Dev.setReg_out (o : Nat) (w : Word) : (s.setReg o w).out = s.out := rfl
@[simp] theorem Dev.setReg_hostMem (o : Nat) (w : Word) : (s.setReg o w).hostMem = s.hostMem := rfl
@[simp] theorem Dev.setReg_hostBad (o : Nat) (w : Word) : (s.setReg o w).hostBad = s.hostBad := rfl
@[simp] theorem Dev.setReg_pins (o : Nat) (w : Word) : (s.setReg o w).pins = s.pins := rfl
@[simp] theorem Dev.setReg_log (o : Nat) (w : Word) : (s.setReg o w).log = s.log := rfl
@[simp] theorem Dev.setReg_fram (o : Nat) (w : Word) : (s.setReg o w).fram = s.fram := rfl
@[simp] theorem Dev.setReg_pool (o : Nat) (w : Word) : (s.setReg o w).pool = s.pool := rfl
@[simp] theorem Dev.setReg_host (o : Nat) (w : Word) : (s.setReg o w).host = s.host := rfl
@[simp] theorem Dev.setReg_clk (o : Nat) (w : Word) : (s.setReg o w).clk = s.clk := rfl
@[simp] theorem Dev.setReg_frm (o : Nat) (w : Word) : (s.setReg o w).frm = s.frm := rfl
@[simp] theorem Dev.setReg_adc (o : Nat) (w : Word) : (s.setReg o w).adc = s.adc := rfl
@[simp] theorem Dev.setReg_cmp (o : Nat) (w : Word) : (s.setReg o w).cmp = s.cmp := rfl
@[simp] theorem Dev.setReg_ang (o : Nat) (w : Word) : (s.setReg o w).ang = s.ang := rfl
@[simp] theorem Dev.setReg_ce (o : Nat) (w : Word) : (s.setReg o w).ce = s.ce := rfl
@[simp] theorem Dev.setReg_cells (o : Nat) (w : Word) : (s.setReg o w).cells = s.cells := rfl
@[simp] theorem Dev.setReg_esp (o : Nat) (w : Word) : (s.setReg o w).esp = s.esp := rfl
@[simp] theorem Dev.setReg_grid (o : Nat) (w : Word) : (s.setReg o w).grid = s.grid := rfl
@[simp] theorem Dev.setReg_isl (o : Nat) (w : Word) : (s.setReg o w).isl = s.isl := rfl
@[simp] theorem Dev.setReg_mtr (o : Nat) (w : Word) : (s.setReg o w).mtr = s.mtr := rfl
@[simp] theorem Dev.setReg_vlt (o : Nat) (w : Word) : (s.setReg o w).vlt = s.vlt := rfl
@[simp] theorem Dev.setReg_pwr (o : Nat) (w : Word) : (s.setReg o w).pwr = s.pwr := rfl
@[simp] theorem Dev.setReg_img (o : Nat) (w : Word) : (s.setReg o w).img = s.img := rfl
@[simp] theorem Dev.setReg_thk (o : Nat) (w : Word) : (s.setReg o w).thk = s.thk := rfl
@[simp] theorem Dev.setReg_krk (o : Nat) (w : Word) : (s.setReg o w).krk = s.krk := rfl
@[simp] theorem Dev.setReg_hb (o : Nat) (w : Word) : (s.setReg o w).hb = s.hb := rfl
@[simp] theorem Dev.setReg_snp (o : Nat) (w : Word) : (s.setReg o w).snp = s.snp := rfl
@[simp] theorem Dev.setReg_prt (o : Nat) (w : Word) : (s.setReg o w).prt = s.prt := rfl
@[simp] theorem Dev.setReg_saf (o : Nat) (w : Word) : (s.setReg o w).saf = s.saf := rfl

/-! ### set -/

@[simp] theorem Dev.set_hiLatch (f : Fld) (v : Nat) : (s.set f v).hiLatch = s.hiLatch := rfl
@[simp] theorem Dev.set_time (f : Fld) (v : Nat) : (s.set f v).time = s.time := rfl
@[simp] theorem Dev.set_clocks (f : Fld) (v : Nat) : (s.set f v).clocks = s.clocks := rfl
@[simp] theorem Dev.set_evt (f : Fld) (v : Nat) : (s.set f v).evt = s.evt := rfl
@[simp] theorem Dev.set_clkRegs (f : Fld) (v : Nat) : (s.set f v).clkRegs = s.clkRegs := rfl
@[simp] theorem Dev.set_freeUsed (f : Fld) (v : Nat) : (s.set f v).freeUsed = s.freeUsed := rfl
@[simp] theorem Dev.set_inReset (f : Fld) (v : Nat) : (s.set f v).inReset = s.inReset := rfl
@[simp] theorem Dev.set_straps (f : Fld) (v : Nat) : (s.set f v).straps = s.straps := rfl
@[simp] theorem Dev.set_out (f : Fld) (v : Nat) : (s.set f v).out = s.out := rfl
@[simp] theorem Dev.set_hostMem (f : Fld) (v : Nat) : (s.set f v).hostMem = s.hostMem := rfl
@[simp] theorem Dev.set_hostBad (f : Fld) (v : Nat) : (s.set f v).hostBad = s.hostBad := rfl
@[simp] theorem Dev.set_pins (f : Fld) (v : Nat) : (s.set f v).pins = s.pins := rfl
@[simp] theorem Dev.set_log (f : Fld) (v : Nat) : (s.set f v).log = s.log := rfl
@[simp] theorem Dev.set_fram (f : Fld) (v : Nat) : (s.set f v).fram = s.fram := rfl
@[simp] theorem Dev.set_pool (f : Fld) (v : Nat) : (s.set f v).pool = s.pool := rfl
@[simp] theorem Dev.set_host (f : Fld) (v : Nat) : (s.set f v).host = s.host := rfl
@[simp] theorem Dev.set_clk (f : Fld) (v : Nat) : (s.set f v).clk = s.clk := rfl
@[simp] theorem Dev.set_frm (f : Fld) (v : Nat) : (s.set f v).frm = s.frm := rfl
@[simp] theorem Dev.set_adc (f : Fld) (v : Nat) : (s.set f v).adc = s.adc := rfl
@[simp] theorem Dev.set_cmp (f : Fld) (v : Nat) : (s.set f v).cmp = s.cmp := rfl
@[simp] theorem Dev.set_ang (f : Fld) (v : Nat) : (s.set f v).ang = s.ang := rfl
@[simp] theorem Dev.set_ce (f : Fld) (v : Nat) : (s.set f v).ce = s.ce := rfl
@[simp] theorem Dev.set_cells (f : Fld) (v : Nat) : (s.set f v).cells = s.cells := rfl
@[simp] theorem Dev.set_esp (f : Fld) (v : Nat) : (s.set f v).esp = s.esp := rfl
@[simp] theorem Dev.set_grid (f : Fld) (v : Nat) : (s.set f v).grid = s.grid := rfl
@[simp] theorem Dev.set_isl (f : Fld) (v : Nat) : (s.set f v).isl = s.isl := rfl
@[simp] theorem Dev.set_mtr (f : Fld) (v : Nat) : (s.set f v).mtr = s.mtr := rfl
@[simp] theorem Dev.set_vlt (f : Fld) (v : Nat) : (s.set f v).vlt = s.vlt := rfl
@[simp] theorem Dev.set_pwr (f : Fld) (v : Nat) : (s.set f v).pwr = s.pwr := rfl
@[simp] theorem Dev.set_img (f : Fld) (v : Nat) : (s.set f v).img = s.img := rfl
@[simp] theorem Dev.set_thk (f : Fld) (v : Nat) : (s.set f v).thk = s.thk := rfl
@[simp] theorem Dev.set_krk (f : Fld) (v : Nat) : (s.set f v).krk = s.krk := rfl
@[simp] theorem Dev.set_hb (f : Fld) (v : Nat) : (s.set f v).hb = s.hb := rfl
@[simp] theorem Dev.set_snp (f : Fld) (v : Nat) : (s.set f v).snp = s.snp := rfl
@[simp] theorem Dev.set_prt (f : Fld) (v : Nat) : (s.set f v).prt = s.prt := rfl
@[simp] theorem Dev.set_saf (f : Fld) (v : Nat) : (s.set f v).saf = s.saf := rfl

/-! ### setB -/

@[simp] theorem Dev.setB_hiLatch (f : Fld) (b : Bool) : (s.setB f b).hiLatch = s.hiLatch := rfl
@[simp] theorem Dev.setB_time (f : Fld) (b : Bool) : (s.setB f b).time = s.time := rfl
@[simp] theorem Dev.setB_clocks (f : Fld) (b : Bool) : (s.setB f b).clocks = s.clocks := rfl
@[simp] theorem Dev.setB_evt (f : Fld) (b : Bool) : (s.setB f b).evt = s.evt := rfl
@[simp] theorem Dev.setB_clkRegs (f : Fld) (b : Bool) : (s.setB f b).clkRegs = s.clkRegs := rfl
@[simp] theorem Dev.setB_freeUsed (f : Fld) (b : Bool) : (s.setB f b).freeUsed = s.freeUsed := rfl
@[simp] theorem Dev.setB_inReset (f : Fld) (b : Bool) : (s.setB f b).inReset = s.inReset := rfl
@[simp] theorem Dev.setB_straps (f : Fld) (b : Bool) : (s.setB f b).straps = s.straps := rfl
@[simp] theorem Dev.setB_out (f : Fld) (b : Bool) : (s.setB f b).out = s.out := rfl
@[simp] theorem Dev.setB_hostMem (f : Fld) (b : Bool) : (s.setB f b).hostMem = s.hostMem := rfl
@[simp] theorem Dev.setB_hostBad (f : Fld) (b : Bool) : (s.setB f b).hostBad = s.hostBad := rfl
@[simp] theorem Dev.setB_pins (f : Fld) (b : Bool) : (s.setB f b).pins = s.pins := rfl
@[simp] theorem Dev.setB_log (f : Fld) (b : Bool) : (s.setB f b).log = s.log := rfl
@[simp] theorem Dev.setB_fram (f : Fld) (b : Bool) : (s.setB f b).fram = s.fram := rfl
@[simp] theorem Dev.setB_pool (f : Fld) (b : Bool) : (s.setB f b).pool = s.pool := rfl
@[simp] theorem Dev.setB_host (f : Fld) (b : Bool) : (s.setB f b).host = s.host := rfl
@[simp] theorem Dev.setB_clk (f : Fld) (b : Bool) : (s.setB f b).clk = s.clk := rfl
@[simp] theorem Dev.setB_frm (f : Fld) (b : Bool) : (s.setB f b).frm = s.frm := rfl
@[simp] theorem Dev.setB_adc (f : Fld) (b : Bool) : (s.setB f b).adc = s.adc := rfl
@[simp] theorem Dev.setB_cmp (f : Fld) (b : Bool) : (s.setB f b).cmp = s.cmp := rfl
@[simp] theorem Dev.setB_ang (f : Fld) (b : Bool) : (s.setB f b).ang = s.ang := rfl
@[simp] theorem Dev.setB_ce (f : Fld) (b : Bool) : (s.setB f b).ce = s.ce := rfl
@[simp] theorem Dev.setB_cells (f : Fld) (b : Bool) : (s.setB f b).cells = s.cells := rfl
@[simp] theorem Dev.setB_esp (f : Fld) (b : Bool) : (s.setB f b).esp = s.esp := rfl
@[simp] theorem Dev.setB_grid (f : Fld) (b : Bool) : (s.setB f b).grid = s.grid := rfl
@[simp] theorem Dev.setB_isl (f : Fld) (b : Bool) : (s.setB f b).isl = s.isl := rfl
@[simp] theorem Dev.setB_mtr (f : Fld) (b : Bool) : (s.setB f b).mtr = s.mtr := rfl
@[simp] theorem Dev.setB_vlt (f : Fld) (b : Bool) : (s.setB f b).vlt = s.vlt := rfl
@[simp] theorem Dev.setB_pwr (f : Fld) (b : Bool) : (s.setB f b).pwr = s.pwr := rfl
@[simp] theorem Dev.setB_img (f : Fld) (b : Bool) : (s.setB f b).img = s.img := rfl
@[simp] theorem Dev.setB_thk (f : Fld) (b : Bool) : (s.setB f b).thk = s.thk := rfl
@[simp] theorem Dev.setB_krk (f : Fld) (b : Bool) : (s.setB f b).krk = s.krk := rfl
@[simp] theorem Dev.setB_hb (f : Fld) (b : Bool) : (s.setB f b).hb = s.hb := rfl
@[simp] theorem Dev.setB_snp (f : Fld) (b : Bool) : (s.setB f b).snp = s.snp := rfl
@[simp] theorem Dev.setB_prt (f : Fld) (b : Bool) : (s.setB f b).prt = s.prt := rfl
@[simp] theorem Dev.setB_saf (f : Fld) (b : Bool) : (s.setB f b).saf = s.saf := rfl

/-! ### noted -/

@[simp] theorem Dev.noted_regs (f : Fld) (n : Nat) : (s.noted f n).regs = s.regs := rfl
@[simp] theorem Dev.noted_hiLatch (f : Fld) (n : Nat) : (s.noted f n).hiLatch = s.hiLatch := rfl
@[simp] theorem Dev.noted_time (f : Fld) (n : Nat) : (s.noted f n).time = s.time := rfl
@[simp] theorem Dev.noted_clocks (f : Fld) (n : Nat) : (s.noted f n).clocks = s.clocks := rfl
@[simp] theorem Dev.noted_clkRegs (f : Fld) (n : Nat) : (s.noted f n).clkRegs = s.clkRegs := rfl
@[simp] theorem Dev.noted_freeUsed (f : Fld) (n : Nat) : (s.noted f n).freeUsed = s.freeUsed := rfl
@[simp] theorem Dev.noted_inReset (f : Fld) (n : Nat) : (s.noted f n).inReset = s.inReset := rfl
@[simp] theorem Dev.noted_straps (f : Fld) (n : Nat) : (s.noted f n).straps = s.straps := rfl
@[simp] theorem Dev.noted_out (f : Fld) (n : Nat) : (s.noted f n).out = s.out := rfl
@[simp] theorem Dev.noted_hostMem (f : Fld) (n : Nat) : (s.noted f n).hostMem = s.hostMem := rfl
@[simp] theorem Dev.noted_hostBad (f : Fld) (n : Nat) : (s.noted f n).hostBad = s.hostBad := rfl
@[simp] theorem Dev.noted_pins (f : Fld) (n : Nat) : (s.noted f n).pins = s.pins := rfl
@[simp] theorem Dev.noted_log (f : Fld) (n : Nat) : (s.noted f n).log = s.log := rfl
@[simp] theorem Dev.noted_fram (f : Fld) (n : Nat) : (s.noted f n).fram = s.fram := rfl
@[simp] theorem Dev.noted_pool (f : Fld) (n : Nat) : (s.noted f n).pool = s.pool := rfl
@[simp] theorem Dev.noted_host (f : Fld) (n : Nat) : (s.noted f n).host = s.host := rfl
@[simp] theorem Dev.noted_clk (f : Fld) (n : Nat) : (s.noted f n).clk = s.clk := rfl
@[simp] theorem Dev.noted_frm (f : Fld) (n : Nat) : (s.noted f n).frm = s.frm := rfl
@[simp] theorem Dev.noted_adc (f : Fld) (n : Nat) : (s.noted f n).adc = s.adc := rfl
@[simp] theorem Dev.noted_cmp (f : Fld) (n : Nat) : (s.noted f n).cmp = s.cmp := rfl
@[simp] theorem Dev.noted_ang (f : Fld) (n : Nat) : (s.noted f n).ang = s.ang := rfl
@[simp] theorem Dev.noted_ce (f : Fld) (n : Nat) : (s.noted f n).ce = s.ce := rfl
@[simp] theorem Dev.noted_cells (f : Fld) (n : Nat) : (s.noted f n).cells = s.cells := rfl
@[simp] theorem Dev.noted_esp (f : Fld) (n : Nat) : (s.noted f n).esp = s.esp := rfl
@[simp] theorem Dev.noted_grid (f : Fld) (n : Nat) : (s.noted f n).grid = s.grid := rfl
@[simp] theorem Dev.noted_isl (f : Fld) (n : Nat) : (s.noted f n).isl = s.isl := rfl
@[simp] theorem Dev.noted_mtr (f : Fld) (n : Nat) : (s.noted f n).mtr = s.mtr := rfl
@[simp] theorem Dev.noted_vlt (f : Fld) (n : Nat) : (s.noted f n).vlt = s.vlt := rfl
@[simp] theorem Dev.noted_pwr (f : Fld) (n : Nat) : (s.noted f n).pwr = s.pwr := rfl
@[simp] theorem Dev.noted_img (f : Fld) (n : Nat) : (s.noted f n).img = s.img := rfl
@[simp] theorem Dev.noted_thk (f : Fld) (n : Nat) : (s.noted f n).thk = s.thk := rfl
@[simp] theorem Dev.noted_krk (f : Fld) (n : Nat) : (s.noted f n).krk = s.krk := rfl
@[simp] theorem Dev.noted_hb (f : Fld) (n : Nat) : (s.noted f n).hb = s.hb := rfl
@[simp] theorem Dev.noted_snp (f : Fld) (n : Nat) : (s.noted f n).snp = s.snp := rfl
@[simp] theorem Dev.noted_prt (f : Fld) (n : Nat) : (s.noted f n).prt = s.prt := rfl
@[simp] theorem Dev.noted_saf (f : Fld) (n : Nat) : (s.noted f n).saf = s.saf := rfl

/-! ### raise -/

@[simp] theorem Dev.raise_hiLatch (f : Fld) : (s.raise f).hiLatch = s.hiLatch := rfl
@[simp] theorem Dev.raise_time (f : Fld) : (s.raise f).time = s.time := rfl
@[simp] theorem Dev.raise_clocks (f : Fld) : (s.raise f).clocks = s.clocks := rfl
@[simp] theorem Dev.raise_clkRegs (f : Fld) : (s.raise f).clkRegs = s.clkRegs := rfl
@[simp] theorem Dev.raise_freeUsed (f : Fld) : (s.raise f).freeUsed = s.freeUsed := rfl
@[simp] theorem Dev.raise_inReset (f : Fld) : (s.raise f).inReset = s.inReset := rfl
@[simp] theorem Dev.raise_straps (f : Fld) : (s.raise f).straps = s.straps := rfl
@[simp] theorem Dev.raise_out (f : Fld) : (s.raise f).out = s.out := rfl
@[simp] theorem Dev.raise_hostMem (f : Fld) : (s.raise f).hostMem = s.hostMem := rfl
@[simp] theorem Dev.raise_hostBad (f : Fld) : (s.raise f).hostBad = s.hostBad := rfl
@[simp] theorem Dev.raise_pins (f : Fld) : (s.raise f).pins = s.pins := rfl
@[simp] theorem Dev.raise_log (f : Fld) : (s.raise f).log = s.log := rfl
@[simp] theorem Dev.raise_fram (f : Fld) : (s.raise f).fram = s.fram := rfl
@[simp] theorem Dev.raise_pool (f : Fld) : (s.raise f).pool = s.pool := rfl
@[simp] theorem Dev.raise_host (f : Fld) : (s.raise f).host = s.host := rfl
@[simp] theorem Dev.raise_clk (f : Fld) : (s.raise f).clk = s.clk := rfl
@[simp] theorem Dev.raise_frm (f : Fld) : (s.raise f).frm = s.frm := rfl
@[simp] theorem Dev.raise_adc (f : Fld) : (s.raise f).adc = s.adc := rfl
@[simp] theorem Dev.raise_cmp (f : Fld) : (s.raise f).cmp = s.cmp := rfl
@[simp] theorem Dev.raise_ang (f : Fld) : (s.raise f).ang = s.ang := rfl
@[simp] theorem Dev.raise_ce (f : Fld) : (s.raise f).ce = s.ce := rfl
@[simp] theorem Dev.raise_cells (f : Fld) : (s.raise f).cells = s.cells := rfl
@[simp] theorem Dev.raise_esp (f : Fld) : (s.raise f).esp = s.esp := rfl
@[simp] theorem Dev.raise_grid (f : Fld) : (s.raise f).grid = s.grid := rfl
@[simp] theorem Dev.raise_isl (f : Fld) : (s.raise f).isl = s.isl := rfl
@[simp] theorem Dev.raise_mtr (f : Fld) : (s.raise f).mtr = s.mtr := rfl
@[simp] theorem Dev.raise_vlt (f : Fld) : (s.raise f).vlt = s.vlt := rfl
@[simp] theorem Dev.raise_pwr (f : Fld) : (s.raise f).pwr = s.pwr := rfl
@[simp] theorem Dev.raise_img (f : Fld) : (s.raise f).img = s.img := rfl
@[simp] theorem Dev.raise_thk (f : Fld) : (s.raise f).thk = s.thk := rfl
@[simp] theorem Dev.raise_krk (f : Fld) : (s.raise f).krk = s.krk := rfl
@[simp] theorem Dev.raise_hb (f : Fld) : (s.raise f).hb = s.hb := rfl
@[simp] theorem Dev.raise_snp (f : Fld) : (s.raise f).snp = s.snp := rfl
@[simp] theorem Dev.raise_prt (f : Fld) : (s.raise f).prt = s.prt := rfl
@[simp] theorem Dev.raise_saf (f : Fld) : (s.raise f).saf = s.saf := rfl

/-! ### count -/

@[simp] theorem Dev.count_hiLatch (f : Fld) (n : Nat) : (s.count f n).hiLatch = s.hiLatch := rfl
@[simp] theorem Dev.count_time (f : Fld) (n : Nat) : (s.count f n).time = s.time := rfl
@[simp] theorem Dev.count_clocks (f : Fld) (n : Nat) : (s.count f n).clocks = s.clocks := rfl
@[simp] theorem Dev.count_clkRegs (f : Fld) (n : Nat) : (s.count f n).clkRegs = s.clkRegs := rfl
@[simp] theorem Dev.count_freeUsed (f : Fld) (n : Nat) : (s.count f n).freeUsed = s.freeUsed := rfl
@[simp] theorem Dev.count_inReset (f : Fld) (n : Nat) : (s.count f n).inReset = s.inReset := rfl
@[simp] theorem Dev.count_straps (f : Fld) (n : Nat) : (s.count f n).straps = s.straps := rfl
@[simp] theorem Dev.count_out (f : Fld) (n : Nat) : (s.count f n).out = s.out := rfl
@[simp] theorem Dev.count_hostMem (f : Fld) (n : Nat) : (s.count f n).hostMem = s.hostMem := rfl
@[simp] theorem Dev.count_hostBad (f : Fld) (n : Nat) : (s.count f n).hostBad = s.hostBad := rfl
@[simp] theorem Dev.count_pins (f : Fld) (n : Nat) : (s.count f n).pins = s.pins := rfl
@[simp] theorem Dev.count_log (f : Fld) (n : Nat) : (s.count f n).log = s.log := rfl
@[simp] theorem Dev.count_fram (f : Fld) (n : Nat) : (s.count f n).fram = s.fram := rfl
@[simp] theorem Dev.count_pool (f : Fld) (n : Nat) : (s.count f n).pool = s.pool := rfl
@[simp] theorem Dev.count_host (f : Fld) (n : Nat) : (s.count f n).host = s.host := rfl
@[simp] theorem Dev.count_clk (f : Fld) (n : Nat) : (s.count f n).clk = s.clk := rfl
@[simp] theorem Dev.count_frm (f : Fld) (n : Nat) : (s.count f n).frm = s.frm := rfl
@[simp] theorem Dev.count_adc (f : Fld) (n : Nat) : (s.count f n).adc = s.adc := rfl
@[simp] theorem Dev.count_cmp (f : Fld) (n : Nat) : (s.count f n).cmp = s.cmp := rfl
@[simp] theorem Dev.count_ang (f : Fld) (n : Nat) : (s.count f n).ang = s.ang := rfl
@[simp] theorem Dev.count_ce (f : Fld) (n : Nat) : (s.count f n).ce = s.ce := rfl
@[simp] theorem Dev.count_cells (f : Fld) (n : Nat) : (s.count f n).cells = s.cells := rfl
@[simp] theorem Dev.count_esp (f : Fld) (n : Nat) : (s.count f n).esp = s.esp := rfl
@[simp] theorem Dev.count_grid (f : Fld) (n : Nat) : (s.count f n).grid = s.grid := rfl
@[simp] theorem Dev.count_isl (f : Fld) (n : Nat) : (s.count f n).isl = s.isl := rfl
@[simp] theorem Dev.count_mtr (f : Fld) (n : Nat) : (s.count f n).mtr = s.mtr := rfl
@[simp] theorem Dev.count_vlt (f : Fld) (n : Nat) : (s.count f n).vlt = s.vlt := rfl
@[simp] theorem Dev.count_pwr (f : Fld) (n : Nat) : (s.count f n).pwr = s.pwr := rfl
@[simp] theorem Dev.count_img (f : Fld) (n : Nat) : (s.count f n).img = s.img := rfl
@[simp] theorem Dev.count_thk (f : Fld) (n : Nat) : (s.count f n).thk = s.thk := rfl
@[simp] theorem Dev.count_krk (f : Fld) (n : Nat) : (s.count f n).krk = s.krk := rfl
@[simp] theorem Dev.count_hb (f : Fld) (n : Nat) : (s.count f n).hb = s.hb := rfl
@[simp] theorem Dev.count_snp (f : Fld) (n : Nat) : (s.count f n).snp = s.snp := rfl
@[simp] theorem Dev.count_prt (f : Fld) (n : Nat) : (s.count f n).prt = s.prt := rfl
@[simp] theorem Dev.count_saf (f : Fld) (n : Nat) : (s.count f n).saf = s.saf := rfl

/-! ### raiseBit -/

@[simp] theorem Dev.raiseBit_hiLatch (o n : Nat) : (s.raiseBit o n).hiLatch = s.hiLatch := rfl
@[simp] theorem Dev.raiseBit_time (o n : Nat) : (s.raiseBit o n).time = s.time := rfl
@[simp] theorem Dev.raiseBit_clocks (o n : Nat) : (s.raiseBit o n).clocks = s.clocks := rfl
@[simp] theorem Dev.raiseBit_clkRegs (o n : Nat) : (s.raiseBit o n).clkRegs = s.clkRegs := rfl
@[simp] theorem Dev.raiseBit_freeUsed (o n : Nat) : (s.raiseBit o n).freeUsed = s.freeUsed := rfl
@[simp] theorem Dev.raiseBit_inReset (o n : Nat) : (s.raiseBit o n).inReset = s.inReset := rfl
@[simp] theorem Dev.raiseBit_straps (o n : Nat) : (s.raiseBit o n).straps = s.straps := rfl
@[simp] theorem Dev.raiseBit_out (o n : Nat) : (s.raiseBit o n).out = s.out := rfl
@[simp] theorem Dev.raiseBit_hostMem (o n : Nat) : (s.raiseBit o n).hostMem = s.hostMem := rfl
@[simp] theorem Dev.raiseBit_hostBad (o n : Nat) : (s.raiseBit o n).hostBad = s.hostBad := rfl
@[simp] theorem Dev.raiseBit_pins (o n : Nat) : (s.raiseBit o n).pins = s.pins := rfl
@[simp] theorem Dev.raiseBit_log (o n : Nat) : (s.raiseBit o n).log = s.log := rfl
@[simp] theorem Dev.raiseBit_fram (o n : Nat) : (s.raiseBit o n).fram = s.fram := rfl
@[simp] theorem Dev.raiseBit_pool (o n : Nat) : (s.raiseBit o n).pool = s.pool := rfl
@[simp] theorem Dev.raiseBit_host (o n : Nat) : (s.raiseBit o n).host = s.host := rfl
@[simp] theorem Dev.raiseBit_clk (o n : Nat) : (s.raiseBit o n).clk = s.clk := rfl
@[simp] theorem Dev.raiseBit_frm (o n : Nat) : (s.raiseBit o n).frm = s.frm := rfl
@[simp] theorem Dev.raiseBit_adc (o n : Nat) : (s.raiseBit o n).adc = s.adc := rfl
@[simp] theorem Dev.raiseBit_cmp (o n : Nat) : (s.raiseBit o n).cmp = s.cmp := rfl
@[simp] theorem Dev.raiseBit_ang (o n : Nat) : (s.raiseBit o n).ang = s.ang := rfl
@[simp] theorem Dev.raiseBit_ce (o n : Nat) : (s.raiseBit o n).ce = s.ce := rfl
@[simp] theorem Dev.raiseBit_cells (o n : Nat) : (s.raiseBit o n).cells = s.cells := rfl
@[simp] theorem Dev.raiseBit_esp (o n : Nat) : (s.raiseBit o n).esp = s.esp := rfl
@[simp] theorem Dev.raiseBit_grid (o n : Nat) : (s.raiseBit o n).grid = s.grid := rfl
@[simp] theorem Dev.raiseBit_isl (o n : Nat) : (s.raiseBit o n).isl = s.isl := rfl
@[simp] theorem Dev.raiseBit_mtr (o n : Nat) : (s.raiseBit o n).mtr = s.mtr := rfl
@[simp] theorem Dev.raiseBit_vlt (o n : Nat) : (s.raiseBit o n).vlt = s.vlt := rfl
@[simp] theorem Dev.raiseBit_pwr (o n : Nat) : (s.raiseBit o n).pwr = s.pwr := rfl
@[simp] theorem Dev.raiseBit_img (o n : Nat) : (s.raiseBit o n).img = s.img := rfl
@[simp] theorem Dev.raiseBit_thk (o n : Nat) : (s.raiseBit o n).thk = s.thk := rfl
@[simp] theorem Dev.raiseBit_krk (o n : Nat) : (s.raiseBit o n).krk = s.krk := rfl
@[simp] theorem Dev.raiseBit_hb (o n : Nat) : (s.raiseBit o n).hb = s.hb := rfl
@[simp] theorem Dev.raiseBit_snp (o n : Nat) : (s.raiseBit o n).snp = s.snp := rfl
@[simp] theorem Dev.raiseBit_prt (o n : Nat) : (s.raiseBit o n).prt = s.prt := rfl
@[simp] theorem Dev.raiseBit_saf (o n : Nat) : (s.raiseBit o n).saf = s.saf := rfl

/-! ### setPair -/

@[simp] theorem Dev.setPair_hiLatch (lo hi v : Nat) : (s.setPair lo hi v).hiLatch = s.hiLatch := rfl
@[simp] theorem Dev.setPair_time (lo hi v : Nat) : (s.setPair lo hi v).time = s.time := rfl
@[simp] theorem Dev.setPair_clocks (lo hi v : Nat) : (s.setPair lo hi v).clocks = s.clocks := rfl
@[simp] theorem Dev.setPair_evt (lo hi v : Nat) : (s.setPair lo hi v).evt = s.evt := rfl
@[simp] theorem Dev.setPair_clkRegs (lo hi v : Nat) : (s.setPair lo hi v).clkRegs = s.clkRegs := rfl
@[simp] theorem Dev.setPair_freeUsed (lo hi v : Nat) : (s.setPair lo hi v).freeUsed = s.freeUsed := rfl
@[simp] theorem Dev.setPair_inReset (lo hi v : Nat) : (s.setPair lo hi v).inReset = s.inReset := rfl
@[simp] theorem Dev.setPair_straps (lo hi v : Nat) : (s.setPair lo hi v).straps = s.straps := rfl
@[simp] theorem Dev.setPair_out (lo hi v : Nat) : (s.setPair lo hi v).out = s.out := rfl
@[simp] theorem Dev.setPair_hostMem (lo hi v : Nat) : (s.setPair lo hi v).hostMem = s.hostMem := rfl
@[simp] theorem Dev.setPair_hostBad (lo hi v : Nat) : (s.setPair lo hi v).hostBad = s.hostBad := rfl
@[simp] theorem Dev.setPair_pins (lo hi v : Nat) : (s.setPair lo hi v).pins = s.pins := rfl
@[simp] theorem Dev.setPair_log (lo hi v : Nat) : (s.setPair lo hi v).log = s.log := rfl
@[simp] theorem Dev.setPair_fram (lo hi v : Nat) : (s.setPair lo hi v).fram = s.fram := rfl
@[simp] theorem Dev.setPair_pool (lo hi v : Nat) : (s.setPair lo hi v).pool = s.pool := rfl
@[simp] theorem Dev.setPair_host (lo hi v : Nat) : (s.setPair lo hi v).host = s.host := rfl
@[simp] theorem Dev.setPair_clk (lo hi v : Nat) : (s.setPair lo hi v).clk = s.clk := rfl
@[simp] theorem Dev.setPair_frm (lo hi v : Nat) : (s.setPair lo hi v).frm = s.frm := rfl
@[simp] theorem Dev.setPair_adc (lo hi v : Nat) : (s.setPair lo hi v).adc = s.adc := rfl
@[simp] theorem Dev.setPair_cmp (lo hi v : Nat) : (s.setPair lo hi v).cmp = s.cmp := rfl
@[simp] theorem Dev.setPair_ang (lo hi v : Nat) : (s.setPair lo hi v).ang = s.ang := rfl
@[simp] theorem Dev.setPair_ce (lo hi v : Nat) : (s.setPair lo hi v).ce = s.ce := rfl
@[simp] theorem Dev.setPair_cells (lo hi v : Nat) : (s.setPair lo hi v).cells = s.cells := rfl
@[simp] theorem Dev.setPair_esp (lo hi v : Nat) : (s.setPair lo hi v).esp = s.esp := rfl
@[simp] theorem Dev.setPair_grid (lo hi v : Nat) : (s.setPair lo hi v).grid = s.grid := rfl
@[simp] theorem Dev.setPair_isl (lo hi v : Nat) : (s.setPair lo hi v).isl = s.isl := rfl
@[simp] theorem Dev.setPair_mtr (lo hi v : Nat) : (s.setPair lo hi v).mtr = s.mtr := rfl
@[simp] theorem Dev.setPair_vlt (lo hi v : Nat) : (s.setPair lo hi v).vlt = s.vlt := rfl
@[simp] theorem Dev.setPair_pwr (lo hi v : Nat) : (s.setPair lo hi v).pwr = s.pwr := rfl
@[simp] theorem Dev.setPair_img (lo hi v : Nat) : (s.setPair lo hi v).img = s.img := rfl
@[simp] theorem Dev.setPair_thk (lo hi v : Nat) : (s.setPair lo hi v).thk = s.thk := rfl
@[simp] theorem Dev.setPair_krk (lo hi v : Nat) : (s.setPair lo hi v).krk = s.krk := rfl
@[simp] theorem Dev.setPair_hb (lo hi v : Nat) : (s.setPair lo hi v).hb = s.hb := rfl
@[simp] theorem Dev.setPair_snp (lo hi v : Nat) : (s.setPair lo hi v).snp = s.snp := rfl
@[simp] theorem Dev.setPair_prt (lo hi v : Nat) : (s.setPair lo hi v).prt = s.prt := rfl
@[simp] theorem Dev.setPair_saf (lo hi v : Nat) : (s.setPair lo hi v).saf = s.saf := rfl

/-! ### free -/

@[simp] theorem Dev.free_regs : s.free.2.regs = s.regs := rfl
@[simp] theorem Dev.free_hiLatch : s.free.2.hiLatch = s.hiLatch := rfl
@[simp] theorem Dev.free_time : s.free.2.time = s.time := rfl
@[simp] theorem Dev.free_clocks : s.free.2.clocks = s.clocks := rfl
@[simp] theorem Dev.free_evt : s.free.2.evt = s.evt := rfl
@[simp] theorem Dev.free_clkRegs : s.free.2.clkRegs = s.clkRegs := rfl
@[simp] theorem Dev.free_inReset : s.free.2.inReset = s.inReset := rfl
@[simp] theorem Dev.free_straps : s.free.2.straps = s.straps := rfl
@[simp] theorem Dev.free_out : s.free.2.out = s.out := rfl
@[simp] theorem Dev.free_hostMem : s.free.2.hostMem = s.hostMem := rfl
@[simp] theorem Dev.free_hostBad : s.free.2.hostBad = s.hostBad := rfl
@[simp] theorem Dev.free_pins : s.free.2.pins = s.pins := rfl
@[simp] theorem Dev.free_log : s.free.2.log = s.log := rfl
@[simp] theorem Dev.free_fram : s.free.2.fram = s.fram := rfl
@[simp] theorem Dev.free_pool : s.free.2.pool = s.pool := rfl
@[simp] theorem Dev.free_host : s.free.2.host = s.host := rfl
@[simp] theorem Dev.free_clk : s.free.2.clk = s.clk := rfl
@[simp] theorem Dev.free_frm : s.free.2.frm = s.frm := rfl
@[simp] theorem Dev.free_adc : s.free.2.adc = s.adc := rfl
@[simp] theorem Dev.free_cmp : s.free.2.cmp = s.cmp := rfl
@[simp] theorem Dev.free_ang : s.free.2.ang = s.ang := rfl
@[simp] theorem Dev.free_ce : s.free.2.ce = s.ce := rfl
@[simp] theorem Dev.free_cells : s.free.2.cells = s.cells := rfl
@[simp] theorem Dev.free_esp : s.free.2.esp = s.esp := rfl
@[simp] theorem Dev.free_grid : s.free.2.grid = s.grid := rfl
@[simp] theorem Dev.free_isl : s.free.2.isl = s.isl := rfl
@[simp] theorem Dev.free_mtr : s.free.2.mtr = s.mtr := rfl
@[simp] theorem Dev.free_vlt : s.free.2.vlt = s.vlt := rfl
@[simp] theorem Dev.free_pwr : s.free.2.pwr = s.pwr := rfl
@[simp] theorem Dev.free_img : s.free.2.img = s.img := rfl
@[simp] theorem Dev.free_thk : s.free.2.thk = s.thk := rfl
@[simp] theorem Dev.free_krk : s.free.2.krk = s.krk := rfl
@[simp] theorem Dev.free_hb : s.free.2.hb = s.hb := rfl
@[simp] theorem Dev.free_snp : s.free.2.snp = s.snp := rfl
@[simp] theorem Dev.free_prt : s.free.2.prt = s.prt := rfl
@[simp] theorem Dev.free_saf : s.free.2.saf = s.saf := rfl

/-! ### send -/

@[simp] theorem Dev.send_regs (m : OutMsg) : (s.send m).regs = s.regs := rfl
@[simp] theorem Dev.send_hiLatch (m : OutMsg) : (s.send m).hiLatch = s.hiLatch := rfl
@[simp] theorem Dev.send_time (m : OutMsg) : (s.send m).time = s.time := rfl
@[simp] theorem Dev.send_clocks (m : OutMsg) : (s.send m).clocks = s.clocks := rfl
@[simp] theorem Dev.send_evt (m : OutMsg) : (s.send m).evt = s.evt := rfl
@[simp] theorem Dev.send_clkRegs (m : OutMsg) : (s.send m).clkRegs = s.clkRegs := rfl
@[simp] theorem Dev.send_freeUsed (m : OutMsg) : (s.send m).freeUsed = s.freeUsed := rfl
@[simp] theorem Dev.send_inReset (m : OutMsg) : (s.send m).inReset = s.inReset := rfl
@[simp] theorem Dev.send_straps (m : OutMsg) : (s.send m).straps = s.straps := rfl
@[simp] theorem Dev.send_hostMem (m : OutMsg) : (s.send m).hostMem = s.hostMem := rfl
@[simp] theorem Dev.send_hostBad (m : OutMsg) : (s.send m).hostBad = s.hostBad := rfl
@[simp] theorem Dev.send_pins (m : OutMsg) : (s.send m).pins = s.pins := rfl
@[simp] theorem Dev.send_log (m : OutMsg) : (s.send m).log = s.log := rfl
@[simp] theorem Dev.send_fram (m : OutMsg) : (s.send m).fram = s.fram := rfl
@[simp] theorem Dev.send_pool (m : OutMsg) : (s.send m).pool = s.pool := rfl
@[simp] theorem Dev.send_host (m : OutMsg) : (s.send m).host = s.host := rfl
@[simp] theorem Dev.send_clk (m : OutMsg) : (s.send m).clk = s.clk := rfl
@[simp] theorem Dev.send_frm (m : OutMsg) : (s.send m).frm = s.frm := rfl
@[simp] theorem Dev.send_adc (m : OutMsg) : (s.send m).adc = s.adc := rfl
@[simp] theorem Dev.send_cmp (m : OutMsg) : (s.send m).cmp = s.cmp := rfl
@[simp] theorem Dev.send_ang (m : OutMsg) : (s.send m).ang = s.ang := rfl
@[simp] theorem Dev.send_ce (m : OutMsg) : (s.send m).ce = s.ce := rfl
@[simp] theorem Dev.send_cells (m : OutMsg) : (s.send m).cells = s.cells := rfl
@[simp] theorem Dev.send_esp (m : OutMsg) : (s.send m).esp = s.esp := rfl
@[simp] theorem Dev.send_grid (m : OutMsg) : (s.send m).grid = s.grid := rfl
@[simp] theorem Dev.send_isl (m : OutMsg) : (s.send m).isl = s.isl := rfl
@[simp] theorem Dev.send_mtr (m : OutMsg) : (s.send m).mtr = s.mtr := rfl
@[simp] theorem Dev.send_vlt (m : OutMsg) : (s.send m).vlt = s.vlt := rfl
@[simp] theorem Dev.send_pwr (m : OutMsg) : (s.send m).pwr = s.pwr := rfl
@[simp] theorem Dev.send_img (m : OutMsg) : (s.send m).img = s.img := rfl
@[simp] theorem Dev.send_thk (m : OutMsg) : (s.send m).thk = s.thk := rfl
@[simp] theorem Dev.send_krk (m : OutMsg) : (s.send m).krk = s.krk := rfl
@[simp] theorem Dev.send_hb (m : OutMsg) : (s.send m).hb = s.hb := rfl
@[simp] theorem Dev.send_snp (m : OutMsg) : (s.send m).snp = s.snp := rfl
@[simp] theorem Dev.send_prt (m : OutMsg) : (s.send m).prt = s.prt := rfl
@[simp] theorem Dev.send_saf (m : OutMsg) : (s.send m).saf = s.saf := rfl

/-! ### hostWrite -/

@[simp] theorem Dev.hostWrite_regs (a : Nat) (b : List Byte) : (s.hostWrite a b).regs = s.regs := rfl
@[simp] theorem Dev.hostWrite_hiLatch (a : Nat) (b : List Byte) : (s.hostWrite a b).hiLatch = s.hiLatch := rfl
@[simp] theorem Dev.hostWrite_time (a : Nat) (b : List Byte) : (s.hostWrite a b).time = s.time := rfl
@[simp] theorem Dev.hostWrite_clocks (a : Nat) (b : List Byte) : (s.hostWrite a b).clocks = s.clocks := rfl
@[simp] theorem Dev.hostWrite_evt (a : Nat) (b : List Byte) : (s.hostWrite a b).evt = s.evt := rfl
@[simp] theorem Dev.hostWrite_clkRegs (a : Nat) (b : List Byte) : (s.hostWrite a b).clkRegs = s.clkRegs := rfl
@[simp] theorem Dev.hostWrite_freeUsed (a : Nat) (b : List Byte) : (s.hostWrite a b).freeUsed = s.freeUsed := rfl
@[simp] theorem Dev.hostWrite_inReset (a : Nat) (b : List Byte) : (s.hostWrite a b).inReset = s.inReset := rfl
@[simp] theorem Dev.hostWrite_straps (a : Nat) (b : List Byte) : (s.hostWrite a b).straps = s.straps := rfl
@[simp] theorem Dev.hostWrite_out (a : Nat) (b : List Byte) : (s.hostWrite a b).out = s.out := rfl
@[simp] theorem Dev.hostWrite_hostBad (a : Nat) (b : List Byte) : (s.hostWrite a b).hostBad = s.hostBad := rfl
@[simp] theorem Dev.hostWrite_pins (a : Nat) (b : List Byte) : (s.hostWrite a b).pins = s.pins := rfl
@[simp] theorem Dev.hostWrite_log (a : Nat) (b : List Byte) : (s.hostWrite a b).log = s.log := rfl
@[simp] theorem Dev.hostWrite_fram (a : Nat) (b : List Byte) : (s.hostWrite a b).fram = s.fram := rfl
@[simp] theorem Dev.hostWrite_pool (a : Nat) (b : List Byte) : (s.hostWrite a b).pool = s.pool := rfl
@[simp] theorem Dev.hostWrite_host (a : Nat) (b : List Byte) : (s.hostWrite a b).host = s.host := rfl
@[simp] theorem Dev.hostWrite_clk (a : Nat) (b : List Byte) : (s.hostWrite a b).clk = s.clk := rfl
@[simp] theorem Dev.hostWrite_frm (a : Nat) (b : List Byte) : (s.hostWrite a b).frm = s.frm := rfl
@[simp] theorem Dev.hostWrite_adc (a : Nat) (b : List Byte) : (s.hostWrite a b).adc = s.adc := rfl
@[simp] theorem Dev.hostWrite_cmp (a : Nat) (b : List Byte) : (s.hostWrite a b).cmp = s.cmp := rfl
@[simp] theorem Dev.hostWrite_ang (a : Nat) (b : List Byte) : (s.hostWrite a b).ang = s.ang := rfl
@[simp] theorem Dev.hostWrite_ce (a : Nat) (b : List Byte) : (s.hostWrite a b).ce = s.ce := rfl
@[simp] theorem Dev.hostWrite_cells (a : Nat) (b : List Byte) : (s.hostWrite a b).cells = s.cells := rfl
@[simp] theorem Dev.hostWrite_esp (a : Nat) (b : List Byte) : (s.hostWrite a b).esp = s.esp := rfl
@[simp] theorem Dev.hostWrite_grid (a : Nat) (b : List Byte) : (s.hostWrite a b).grid = s.grid := rfl
@[simp] theorem Dev.hostWrite_isl (a : Nat) (b : List Byte) : (s.hostWrite a b).isl = s.isl := rfl
@[simp] theorem Dev.hostWrite_mtr (a : Nat) (b : List Byte) : (s.hostWrite a b).mtr = s.mtr := rfl
@[simp] theorem Dev.hostWrite_vlt (a : Nat) (b : List Byte) : (s.hostWrite a b).vlt = s.vlt := rfl
@[simp] theorem Dev.hostWrite_pwr (a : Nat) (b : List Byte) : (s.hostWrite a b).pwr = s.pwr := rfl
@[simp] theorem Dev.hostWrite_img (a : Nat) (b : List Byte) : (s.hostWrite a b).img = s.img := rfl
@[simp] theorem Dev.hostWrite_thk (a : Nat) (b : List Byte) : (s.hostWrite a b).thk = s.thk := rfl
@[simp] theorem Dev.hostWrite_krk (a : Nat) (b : List Byte) : (s.hostWrite a b).krk = s.krk := rfl
@[simp] theorem Dev.hostWrite_hb (a : Nat) (b : List Byte) : (s.hostWrite a b).hb = s.hb := rfl
@[simp] theorem Dev.hostWrite_snp (a : Nat) (b : List Byte) : (s.hostWrite a b).snp = s.snp := rfl
@[simp] theorem Dev.hostWrite_prt (a : Nat) (b : List Byte) : (s.hostWrite a b).prt = s.prt := rfl
@[simp] theorem Dev.hostWrite_saf (a : Nat) (b : List Byte) : (s.hostWrite a b).saf = s.saf := rfl

/-! ### setUser -/

@[simp] theorem Dev.setUser_regs (u : Nat) (p : PoolUser) : (s.setUser u p).regs = s.regs := rfl
@[simp] theorem Dev.setUser_hiLatch (u : Nat) (p : PoolUser) : (s.setUser u p).hiLatch = s.hiLatch := rfl
@[simp] theorem Dev.setUser_time (u : Nat) (p : PoolUser) : (s.setUser u p).time = s.time := rfl
@[simp] theorem Dev.setUser_clocks (u : Nat) (p : PoolUser) : (s.setUser u p).clocks = s.clocks := rfl
@[simp] theorem Dev.setUser_evt (u : Nat) (p : PoolUser) : (s.setUser u p).evt = s.evt := rfl
@[simp] theorem Dev.setUser_clkRegs (u : Nat) (p : PoolUser) : (s.setUser u p).clkRegs = s.clkRegs := rfl
@[simp] theorem Dev.setUser_freeUsed (u : Nat) (p : PoolUser) : (s.setUser u p).freeUsed = s.freeUsed := rfl
@[simp] theorem Dev.setUser_inReset (u : Nat) (p : PoolUser) : (s.setUser u p).inReset = s.inReset := rfl
@[simp] theorem Dev.setUser_straps (u : Nat) (p : PoolUser) : (s.setUser u p).straps = s.straps := rfl
@[simp] theorem Dev.setUser_out (u : Nat) (p : PoolUser) : (s.setUser u p).out = s.out := rfl
@[simp] theorem Dev.setUser_hostMem (u : Nat) (p : PoolUser) : (s.setUser u p).hostMem = s.hostMem := rfl
@[simp] theorem Dev.setUser_hostBad (u : Nat) (p : PoolUser) : (s.setUser u p).hostBad = s.hostBad := rfl
@[simp] theorem Dev.setUser_pins (u : Nat) (p : PoolUser) : (s.setUser u p).pins = s.pins := rfl
@[simp] theorem Dev.setUser_log (u : Nat) (p : PoolUser) : (s.setUser u p).log = s.log := rfl
@[simp] theorem Dev.setUser_fram (u : Nat) (p : PoolUser) : (s.setUser u p).fram = s.fram := rfl
@[simp] theorem Dev.setUser_host (u : Nat) (p : PoolUser) : (s.setUser u p).host = s.host := rfl
@[simp] theorem Dev.setUser_clk (u : Nat) (p : PoolUser) : (s.setUser u p).clk = s.clk := rfl
@[simp] theorem Dev.setUser_frm (u : Nat) (p : PoolUser) : (s.setUser u p).frm = s.frm := rfl
@[simp] theorem Dev.setUser_adc (u : Nat) (p : PoolUser) : (s.setUser u p).adc = s.adc := rfl
@[simp] theorem Dev.setUser_cmp (u : Nat) (p : PoolUser) : (s.setUser u p).cmp = s.cmp := rfl
@[simp] theorem Dev.setUser_ang (u : Nat) (p : PoolUser) : (s.setUser u p).ang = s.ang := rfl
@[simp] theorem Dev.setUser_ce (u : Nat) (p : PoolUser) : (s.setUser u p).ce = s.ce := rfl
@[simp] theorem Dev.setUser_cells (u : Nat) (p : PoolUser) : (s.setUser u p).cells = s.cells := rfl
@[simp] theorem Dev.setUser_esp (u : Nat) (p : PoolUser) : (s.setUser u p).esp = s.esp := rfl
@[simp] theorem Dev.setUser_grid (u : Nat) (p : PoolUser) : (s.setUser u p).grid = s.grid := rfl
@[simp] theorem Dev.setUser_isl (u : Nat) (p : PoolUser) : (s.setUser u p).isl = s.isl := rfl
@[simp] theorem Dev.setUser_mtr (u : Nat) (p : PoolUser) : (s.setUser u p).mtr = s.mtr := rfl
@[simp] theorem Dev.setUser_vlt (u : Nat) (p : PoolUser) : (s.setUser u p).vlt = s.vlt := rfl
@[simp] theorem Dev.setUser_pwr (u : Nat) (p : PoolUser) : (s.setUser u p).pwr = s.pwr := rfl
@[simp] theorem Dev.setUser_img (u : Nat) (p : PoolUser) : (s.setUser u p).img = s.img := rfl
@[simp] theorem Dev.setUser_thk (u : Nat) (p : PoolUser) : (s.setUser u p).thk = s.thk := rfl
@[simp] theorem Dev.setUser_krk (u : Nat) (p : PoolUser) : (s.setUser u p).krk = s.krk := rfl
@[simp] theorem Dev.setUser_hb (u : Nat) (p : PoolUser) : (s.setUser u p).hb = s.hb := rfl
@[simp] theorem Dev.setUser_snp (u : Nat) (p : PoolUser) : (s.setUser u p).snp = s.snp := rfl
@[simp] theorem Dev.setUser_prt (u : Nat) (p : PoolUser) : (s.setUser u p).prt = s.prt := rfl
@[simp] theorem Dev.setUser_saf (u : Nat) (p : PoolUser) : (s.setUser u p).saf = s.saf := rfl

/-! ### setQueue -/

@[simp] theorem Dev.setQueue_regs (q : Nat) (x : QueueSt) : (s.setQueue q x).regs = s.regs := rfl
@[simp] theorem Dev.setQueue_hiLatch (q : Nat) (x : QueueSt) : (s.setQueue q x).hiLatch = s.hiLatch := rfl
@[simp] theorem Dev.setQueue_time (q : Nat) (x : QueueSt) : (s.setQueue q x).time = s.time := rfl
@[simp] theorem Dev.setQueue_clocks (q : Nat) (x : QueueSt) : (s.setQueue q x).clocks = s.clocks := rfl
@[simp] theorem Dev.setQueue_evt (q : Nat) (x : QueueSt) : (s.setQueue q x).evt = s.evt := rfl
@[simp] theorem Dev.setQueue_clkRegs (q : Nat) (x : QueueSt) : (s.setQueue q x).clkRegs = s.clkRegs := rfl
@[simp] theorem Dev.setQueue_freeUsed (q : Nat) (x : QueueSt) : (s.setQueue q x).freeUsed = s.freeUsed := rfl
@[simp] theorem Dev.setQueue_inReset (q : Nat) (x : QueueSt) : (s.setQueue q x).inReset = s.inReset := rfl
@[simp] theorem Dev.setQueue_straps (q : Nat) (x : QueueSt) : (s.setQueue q x).straps = s.straps := rfl
@[simp] theorem Dev.setQueue_out (q : Nat) (x : QueueSt) : (s.setQueue q x).out = s.out := rfl
@[simp] theorem Dev.setQueue_hostMem (q : Nat) (x : QueueSt) : (s.setQueue q x).hostMem = s.hostMem := rfl
@[simp] theorem Dev.setQueue_hostBad (q : Nat) (x : QueueSt) : (s.setQueue q x).hostBad = s.hostBad := rfl
@[simp] theorem Dev.setQueue_pins (q : Nat) (x : QueueSt) : (s.setQueue q x).pins = s.pins := rfl
@[simp] theorem Dev.setQueue_log (q : Nat) (x : QueueSt) : (s.setQueue q x).log = s.log := rfl
@[simp] theorem Dev.setQueue_fram (q : Nat) (x : QueueSt) : (s.setQueue q x).fram = s.fram := rfl
@[simp] theorem Dev.setQueue_pool (q : Nat) (x : QueueSt) : (s.setQueue q x).pool = s.pool := rfl
@[simp] theorem Dev.setQueue_clk (q : Nat) (x : QueueSt) : (s.setQueue q x).clk = s.clk := rfl
@[simp] theorem Dev.setQueue_frm (q : Nat) (x : QueueSt) : (s.setQueue q x).frm = s.frm := rfl
@[simp] theorem Dev.setQueue_adc (q : Nat) (x : QueueSt) : (s.setQueue q x).adc = s.adc := rfl
@[simp] theorem Dev.setQueue_cmp (q : Nat) (x : QueueSt) : (s.setQueue q x).cmp = s.cmp := rfl
@[simp] theorem Dev.setQueue_ang (q : Nat) (x : QueueSt) : (s.setQueue q x).ang = s.ang := rfl
@[simp] theorem Dev.setQueue_ce (q : Nat) (x : QueueSt) : (s.setQueue q x).ce = s.ce := rfl
@[simp] theorem Dev.setQueue_cells (q : Nat) (x : QueueSt) : (s.setQueue q x).cells = s.cells := rfl
@[simp] theorem Dev.setQueue_esp (q : Nat) (x : QueueSt) : (s.setQueue q x).esp = s.esp := rfl
@[simp] theorem Dev.setQueue_grid (q : Nat) (x : QueueSt) : (s.setQueue q x).grid = s.grid := rfl
@[simp] theorem Dev.setQueue_isl (q : Nat) (x : QueueSt) : (s.setQueue q x).isl = s.isl := rfl
@[simp] theorem Dev.setQueue_mtr (q : Nat) (x : QueueSt) : (s.setQueue q x).mtr = s.mtr := rfl
@[simp] theorem Dev.setQueue_vlt (q : Nat) (x : QueueSt) : (s.setQueue q x).vlt = s.vlt := rfl
@[simp] theorem Dev.setQueue_pwr (q : Nat) (x : QueueSt) : (s.setQueue q x).pwr = s.pwr := rfl
@[simp] theorem Dev.setQueue_img (q : Nat) (x : QueueSt) : (s.setQueue q x).img = s.img := rfl
@[simp] theorem Dev.setQueue_thk (q : Nat) (x : QueueSt) : (s.setQueue q x).thk = s.thk := rfl
@[simp] theorem Dev.setQueue_krk (q : Nat) (x : QueueSt) : (s.setQueue q x).krk = s.krk := rfl
@[simp] theorem Dev.setQueue_hb (q : Nat) (x : QueueSt) : (s.setQueue q x).hb = s.hb := rfl
@[simp] theorem Dev.setQueue_snp (q : Nat) (x : QueueSt) : (s.setQueue q x).snp = s.snp := rfl
@[simp] theorem Dev.setQueue_prt (q : Nat) (x : QueueSt) : (s.setQueue q x).prt = s.prt := rfl
@[simp] theorem Dev.setQueue_saf (q : Nat) (x : QueueSt) : (s.setQueue q x).saf = s.saf := rfl

/-! ### The state and its queue -/

@[simp] theorem State.withDev_pending (t : State) (d : Dev) : { t with dev := d }.pending = t.pending := rfl
@[simp] theorem State.withDev_dev (t : State) (d : Dev) : { t with dev := d }.dev = d := rfl
@[simp] theorem State.withPending_dev (t : State) (l : List Instr) : { t with pending := l }.dev = t.dev := rfl
@[simp] theorem State.withPending_pending (t : State) (l : List Instr) : { t with pending := l }.pending = l := rfl

end Sys2Proof.Machine
end

