-- ==== Sys2Proof/Laws/Ops.lean ====
section
/-! SUPPORT. Laws of the shared operations: registers and fields read as they were written, and what a meaning is. -/

namespace Sys2Proof.Machine

/-! ### Registers -/

@[simp] theorem Dev.reg_setReg_same (s : Dev) (o : Nat) (w : Word) : (s.setReg o w).reg o = w := by
  simp [Dev.reg, Dev.setReg]

theorem Dev.reg_setReg_ne (s : Dev) (o o' : Nat) (w : Word) (h : o' ≠ o) : (s.setReg o w).reg o' = s.reg o' := by
  simp [Dev.reg, Dev.setReg, sget_sset_ne _ _ _ _ _ h]

/-- A register is untouched by a write to a field of another. -/
theorem Dev.reg_set_ne (s : Dev) (f : Fld) (v o : Nat) (h : o ≠ f.off) : (s.set f v).reg o = s.reg o :=
  s.reg_setReg_ne _ _ _ h

/-- A field reads as it was written, cut to its width. -/
theorem Dev.get_set_same (s : Dev) (f : Fld) (v : Nat) (hh : f.hi < 32) (hl : f.lo ≤ f.hi) :
    (s.set f v).get f = v % 2 ^ (f.hi + 1 - f.lo) := by
  simp only [Dev.get, Dev.set, Dev.reg_setReg_same]
  exact bits_setBits_same _ _ _ _ hh hl

/-- A field of another register. -/
theorem Dev.get_set_off (s : Dev) (f g : Fld) (v : Nat) (h : g.off ≠ f.off) : (s.set f v).get g = s.get g := by
  simp only [Dev.get, Dev.set, s.reg_setReg_ne _ _ _ h]

/-- A field apart from it in the same register. -/
theorem Dev.get_set_apart (s : Dev) (f g : Fld) (v : Nat) (hh : f.hi < 32) (hl : f.lo ≤ f.hi) (hd : g.hi < f.lo ∨ f.hi < g.lo) :
    (s.set f v).get g = s.get g := by
  by_cases ho : g.off = f.off
  · simp only [Dev.get, Dev.set, ho, Dev.reg_setReg_same]
    exact bits_setBits_disjoint _ _ _ _ _ _ hh hl hd
  · exact s.get_set_off f g v ho

theorem Dev.isOn_raise_same (s : Dev) (f : Fld) (hh : f.hi < 32) (hl : f.lo = f.hi) : (s.raise f).isOn f = true := by
  have := (s.noted f 1).get_set_same f 1 hh (by omega)
  simp [Dev.isOn, Dev.raise, this, hl]

/-- The register file keeps its canonical form. -/
theorem Dev.setReg_swf (s : Dev) (o : Nat) (w : Word) (h : swf resetWord s.regs = true) : swf resetWord (s.setReg o w).regs = true :=
  sset_swf _ _ _ _ h

theorem Dev.set_swf (s : Dev) (f : Fld) (v : Nat) (h : swf resetWord s.regs = true) : swf resetWord (s.set f v).regs = true :=
  s.setReg_swf _ _ h

/-! ### Memory of the host -/

theorem Dev.hostRead_hostWrite (s : Dev) (a : Nat) (b : List Byte) : (s.hostWrite a b).hostRead a b.length = b :=
  readBytes_writeBytes _ _ _

/-! ### Conditional and repeated effects -/

@[simp] theorem onlyIf_true (f : Dev → Dev) (s : Dev) : onlyIf true f s = f s := rfl
@[simp] theorem onlyIf_false (f : Dev → Dev) (s : Dev) : onlyIf false f s = s := rfl
@[simp] theorem forEach_nil {α : Type} (f : α → Dev → Dev) (s : Dev) : forEach [] f s = s := rfl
@[simp] theorem forEach_cons {α : Type} (a : α) (l : List α) (f : α → Dev → Dev) (s : Dev) : forEach (a :: l) f s = forEach l f (f a s) := rfl

/-- What every round keeps, the whole keeps. -/
theorem forEach_keeps {α : Type} (P : Dev → Prop) (l : List α) (f : α → Dev → Dev) (s : Dev) (h : P s)
    (hf : ∀ a t, P t → P (f a t)) : P (forEach l f s) := by
  induction l generalizing s with
  | nil => exact h
  | cons a t ih => exact ih _ (hf a s h)

theorem onlyIf_keeps (P : Dev → Prop) (c : Bool) (f : Dev → Dev) (s : Dev) (h : P s) (hf : ∀ t, P t → P (f t)) : P (onlyIf c f s) := by
  cases c
  · exact h
  · exact hf s h

/-! ### The form of a meaning -/

/-- A meaning answers a next state, with the settled device and the queue as it was. -/
theorem onDev_eq (f : Dev → Dev) (s : State) : onDev f s = .next { s with dev := (f { s.dev with out := [] }).settle } := rfl

/-- A command of the main die outside reset. -/
theorem onLive_eq (f : Dev → Dev) (s : State) (h : s.dev.inReset = false) :
    onLive f s = .next { s with dev := (f { s.dev with out := [] }).settle } := by
  simp [onLive, onDev, h]

/-- In reset a command of the main die does nothing. -/
theorem onLive_inReset (f : Dev → Dev) (s : State) (h : s.dev.inReset = true) :
    onLive f s = .next { s with dev := ({ s.dev with out := [] } : Dev).settle } := by
  simp [onLive, onDev, h]

end Sys2Proof.Machine
end

