-- ==== Sys2Proof/Laws/Frames.lean ====
section
/-! SUPPORT. Which registers the shared operations leave: each operation once, so that the frame of a command is read off its composition. -/

namespace Sys2Proof.Machine

theorem RegsBut.refl (d : Dev) (l : List Nat) : RegsBut d d l := fun _ _ => rfl

theorem RegsBut.trans {d e f : Dev} {l : List Nat} (h : RegsBut d e l) (g : RegsBut e f l) : RegsBut d f l :=
  fun o ho => (g o ho).trans (h o ho)

theorem RegsBut.mono {d e : Dev} {l m : List Nat} (h : RegsBut d e l) (hs : ∀ o ∈ l, o ∈ m) : RegsBut d e m :=
  fun o ho => h o (fun hl => ho (hs o hl))

/-- A device with the same register file. -/
theorem RegsBut.same {d e f : Dev} {l : List Nat} (h : RegsBut d e l) (hr : f.regs = e.regs) : RegsBut d f l :=
  fun o ho => by rw [← h o ho]; simp only [Dev.reg, hr]

theorem RegsBut.setReg {d e : Dev} {l : List Nat} (h : RegsBut d e l) (o : Nat) (w : Word) (hm : o ∈ l) : RegsBut d (e.setReg o w) l :=
  fun o' ho => (e.reg_setReg_ne o o' w (fun he => ho (by rw [he]; exact hm))).trans (h o' ho)

theorem RegsBut.set {d e : Dev} {l : List Nat} (h : RegsBut d e l) (f : Fld) (v : Nat) (hm : f.off ∈ l) : RegsBut d (e.set f v) l :=
  h.setReg _ _ hm

theorem RegsBut.setB {d e : Dev} {l : List Nat} (h : RegsBut d e l) (f : Fld) (b : Bool) (hm : f.off ∈ l) : RegsBut d (e.setB f b) l :=
  h.set _ _ hm

theorem RegsBut.raise {d e : Dev} {l : List Nat} (h : RegsBut d e l) (f : Fld) (hm : f.off ∈ l) : RegsBut d (e.raise f) l :=
  (h.same rfl).set _ _ hm

theorem RegsBut.count {d e : Dev} {l : List Nat} (h : RegsBut d e l) (f : Fld) (n : Nat) (hm : f.off ∈ l) : RegsBut d (e.count f n) l :=
  (h.same rfl).set _ _ hm

theorem RegsBut.setPair {d e : Dev} {l : List Nat} (h : RegsBut d e l) (lo hi v : Nat) (hl : lo ∈ l) (hh : hi ∈ l) :
    RegsBut d (e.setPair lo hi v) l := (h.setReg _ _ hl).setReg _ _ hh

theorem RegsBut.onlyIf {d e : Dev} {l : List Nat} (h : RegsBut d e l) (c : Bool) (f : Dev → Dev) (hf : ∀ t, RegsBut d t l → RegsBut d (f t) l) :
    RegsBut d (onlyIf c f e) l := onlyIf_keeps (fun t => RegsBut d t l) c f e h hf

theorem RegsBut.forEach {α : Type} {d e : Dev} {l : List Nat} (h : RegsBut d e l) (k : List α) (f : α → Dev → Dev)
    (hf : ∀ a t, RegsBut d t l → RegsBut d (f a t) l) : RegsBut d (forEach k f e) l :=
  forEach_keeps (fun t => RegsBut d t l) k f e h hf

/-- An MSI-X message changes no register. -/
theorem Dev.msix_regs (s : Dev) (v : Nat) : (s.msix v).regs = s.regs := by
  unfold Dev.msix; split
  · rfl
  · split <;> rfl

/-- An event changes its own register alone. -/
theorem RegsBut.event {d e : Dev} {l : List Nat} (h : RegsBut d e l) (f : Fld) (hm : f.off ∈ l) : RegsBut d (e.event f) l := by
  unfold Dev.event
  exact (h.raise f hm).onlyIf _ _ (fun t ht => ht.same (t.msix_regs 64))

theorem RegsBut.hifFlag {d e : Dev} {l : List Nat} (h : RegsBut d e l) (f : Fld) (hm : f.off ∈ l) (hv : Reg.HIF_EVT ∈ l) :
    RegsBut d (e.hifFlag f) l := (h.raise f hm).event _ hv

theorem Dev.logRing_regs (s : Dev) (a b c e f : Nat) : RegsBut s (s.logRing a b c e f).2 [Reg.SNP_LOGSEQ] := by
  unfold Dev.logRing
  refine RegsBut.set (RegsBut.same (RegsBut.refl _ _) rfl) _ _ (by decide)

theorem Dev.framLog_regs (s : Dev) (r : LogRec) : RegsBut s (s.framLog r) logRegs := by
  unfold Dev.framLog Dev.framAsk
  refine RegsBut.same (RegsBut.same (RegsBut.onlyIf (RegsBut.same (RegsBut.refl _ _) ?_) _ _ ?_) rfl) rfl
  · split <;> rfl
  · intro t ht
    exact (ht.raise _ (by decide)).count _ _ (by decide)

/-- A FRAM copy, with the record of a dropped entry. -/
theorem RegsBut.framLogged {d e : Dev} {l : List Nat} (h : RegsBut d e l) (r : LogRec) (next : Dev → LogRec × Dev)
    (hn : ∀ t, RegsBut t (next t).2 l) (hm : ∀ o ∈ logRegs, o ∈ l) : RegsBut d (e.framLogged r next) l := by
  have h1 := h.trans ((e.framLog_regs r).mono hm)
  unfold Dev.framLogged
  simp only
  split
  · exact (h1.trans (hn _)).trans ((Dev.framLog_regs _ _).mono hm)
  · exact h1

/-- A log record leaves every register but those. -/
theorem Dev.logAt_regs (s : Dev) (a b c e f : Nat) (g : Bool) : RegsBut s (s.logAt a b c e f g) logRegs := by
  have h1 : RegsBut s (s.logRing a b c e f).2 logRegs := (s.logRing_regs a b c e f).mono (by decide)
  unfold Dev.logAt
  simp only
  split
  · exact h1.framLogged _ _ (fun t => (t.logRing_regs _ _ _ _ _).mono (by decide)) (fun _ h => h)
  · exact h1

theorem RegsBut.logAt {d e : Dev} {l : List Nat} (h : RegsBut d e l) (a b c x y : Nat) (g : Bool) (hm : ∀ o ∈ logRegs, o ∈ l) :
    RegsBut d (e.logAt a b c x y g) l := h.trans ((e.logAt_regs a b c x y g).mono hm)

theorem RegsBut.logNow {d e : Dev} {l : List Nat} (h : RegsBut d e l) (a b c : Nat) (hm : ∀ o ∈ logRegs, o ∈ l) :
    RegsBut d (e.logNow a b c) l := h.logAt _ _ _ _ _ _ hm

/-- The keeper’s record changes no register. -/
theorem Dev.keeperRec_regs (s : Dev) (a b : Nat) : (s.keeperRec a b).2.regs = s.regs := rfl

theorem RegsBut.vaultLog {d e : Dev} {l : List Nat} (h : RegsBut d e l) (a b : Nat) (hm : ∀ o ∈ logRegs, o ∈ l) :
    RegsBut d (e.vaultLog a b) l := by
  unfold Dev.vaultLog
  split
  · exact RegsBut.framLogged (h.same (e.keeperRec_regs a b)) _ _ (fun t => (RegsBut.refl t l).same (t.keeperRec_regs 9 t.vbat)) hm
  · exact h.logNow _ _ _ hm

/-- A change of state touches the state field, the events, and the log’s registers. -/
theorem RegsBut.enter {d e : Dev} {l : List Nat} (h : RegsBut d e l) (n c : Nat) (h1 : Reg.HIF_STAT ∈ l) (h2 : Reg.HIF_EVT ∈ l)
    (hm : ∀ o ∈ logRegs, o ∈ l) : RegsBut d (e.enter n c) l := by
  unfold Dev.enter
  simp only
  split
  · exact h
  · exact ((h.set _ _ h1).event _ h2).logNow _ _ _ hm

end Sys2Proof.Machine
end

