-- ==== Sys2Proof/Laws/Memory.lean ====
section
/-! SUPPORT. Laws of the memories: every operation that writes one keeps its canonical form, reads back what it wrote, and leaves the other
bytes. Host memory, the ring and bulk windows, the FRAM and the standby image read 0 where nothing is listed; the QSPI flash reads 0xFF. -/

namespace Sys2Proof.Machine

theorem State.reset_memWf : State.reset.dev.memWf := ⟨rfl, rfl, rfl, rfl, rfl, rfl⟩

theorem Memory.wf_writeBytes (m : List (Nat × Byte)) (a : Nat) (b : List Byte) (h : Memory.wf m = true) : Memory.wf (writeBytes m a b) = true :=
  writeBytes_wf m a b h

/-! ### Host memory and the windows -/

theorem Dev.hostWrite_memWf (s : Dev) (a : Nat) (b : List Byte) (h : s.memWf) : (s.hostWrite a b).memWf :=
  ⟨Memory.wf_writeBytes _ _ _ h.1, h.2⟩

theorem Dev.ringWrite_memWf (s : Dev) (win : Bool) (a : Nat) (b : List Byte) (h : s.memWf) : (s.ringWrite win a b).memWf := by
  cases win
  · exact s.hostWrite_memWf a b h
  · exact ⟨h.1, Memory.wf_writeBytes _ _ _ h.2.1, h.2.2⟩

/-- What is sent leaves the memories. -/
theorem Dev.portSend_memWf (s : Dev) (p k c : Nat) (d : List Byte) (h : s.memWf) : (s.portSend p k c d).memWf := by
  unfold Dev.portSend
  split <;> exact h

theorem Dev.bulkWrite_memWf (s : Dev) (src : Src) (a : Nat) (b : List Byte) (h : s.memWf) : (s.bulkWrite src a b).memWf := by
  have key : (if s.windowed src then ({ s with host := { s.host with bulkWin := writeBytes s.host.bulkWin a b } } : Dev) else s.hostWrite a b).memWf := by
    by_cases hw : s.windowed src = true
    · rw [if_pos hw]; exact ⟨h.1, h.2.1, Memory.wf_writeBytes _ _ _ h.2.2.1, h.2.2.2⟩
    · rw [if_neg hw]; exact s.hostWrite_memWf a b h
  cases src with
  | station c p => exact s.portSend_memWf _ _ _ _ h
  | queue k => exact key
  | mailbox => exact key

/-- A host write changes host memory and nothing else, and there only the bytes written. -/
theorem Dev.hostWrite_frame (s : Dev) (a : Nat) (b : List Byte) :
    s.hostWrite a b = { s with hostMem := (s.hostWrite a b).hostMem } ∧
    ∀ k, k < a ∨ a + b.length ≤ k → sget (fun _ => 0) (s.hostWrite a b).hostMem k = sget (fun _ => 0) s.hostMem k :=
  ⟨rfl, fun _ hk => sget_writeBytes_ne _ _ _ _ hk⟩

/-! ### The QSPI flash -/

theorem qWrite_wf (m : List (Nat × Byte)) (a : Nat) (b : List Byte) (h : swf qErased m = true) : swf qErased (qWrite m a b) = true := by
  induction b generalizing m a with
  | nil => exact h
  | cons x t ih => exact ih _ _ (sset_swf _ _ _ _ h)

theorem qErase_wf (m : List (Nat × Byte)) (a n : Nat) (h : swf qErased m = true) : swf qErased (qErase m a n) = true := by
  rw [swf_iff] at h ⊢
  exact ⟨h.1.sublist List.filter_sublist, fun p hp => h.2 p (List.mem_of_mem_filter hp)⟩

theorem sget_qWrite_ne (m : List (Nat × Byte)) (a : Nat) (b : List Byte) (k : Nat) (h : k < a ∨ a + b.length ≤ k) :
    sget qErased (qWrite m a b) k = sget qErased m k := by
  induction b generalizing m a with
  | nil => rfl
  | cons x t ih =>
    have hl : (x :: t).length = t.length + 1 := rfl
    rw [qWrite, ih _ _ (by omega), sget_sset_ne _ _ _ _ _ (by omega)]

theorem sget_qWrite (m : List (Nat × Byte)) (a : Nat) (b : List Byte) (i : Nat) (h : i < b.length) :
    sget qErased (qWrite m a b) (a + i) = b.getD i 0 := by
  induction b generalizing m a i with
  | nil => simp at h
  | cons x t ih =>
    cases i with
    | zero => rw [qWrite, sget_qWrite_ne _ _ _ _ (by omega)]; simp
    | succ j =>
      have hl : (x :: t).length = t.length + 1 := rfl
      rw [qWrite, show a + (j + 1) = a + 1 + j by omega, ih _ _ _ (by omega)]
      simp

theorem Dev.qspiSend_memWf (s : Dev) (l : List (Nat × Nat × Nat × List Byte)) (h : s.memWf) : (s.qspiSend l).memWf :=
  forEach_keeps (fun t : Dev => t.memWf) l _ s h (fun _ _ ht => ht)

/-- A program and an erase of the flash keep every memory’s form. -/
theorem Dev.qspiProgram_memWf (s : Dev) (a : Nat) (d : List Byte) (h : s.memWf) : (s.qspiProgram a d).memWf := by
  unfold Dev.qspiProgram
  have k := forEach_keeps (fun t : Dev => t.memWf) (List.range (cdiv d.length 256)) (fun i t =>
    t.qspiSend [(0x06, 0, 0, []), (0x32, a + 256 * i, 0, (d.drop (256 * i)).take 256), (0x05, 0, 1, [])]) s h (fun _ _ ht => qspiSend_memWf _ _ ht)
  exact ⟨k.1, k.2.1, k.2.2.1, k.2.2.2.1, k.2.2.2.2.1, qWrite_wf _ _ _ k.2.2.2.2.2⟩

theorem Dev.qspiErase_memWf (s : Dev) (a n : Nat) (h : s.memWf) : (s.qspiErase a n).memWf := by
  unfold Dev.qspiErase
  have k := forEach_keeps (fun t : Dev => t.memWf) (List.range n) (fun i t =>
    t.qspiSend [(0x06, 0, 0, []), (0xD8, a + 65536 * i, 0, []), (0x05, 0, 1, [])]) s h (fun _ _ ht => qspiSend_memWf _ _ ht)
  exact ⟨k.1, k.2.1, k.2.2.1, k.2.2.2.1, k.2.2.2.2.1, qErase_wf _ _ _ k.2.2.2.2.2⟩

/-- The block of an image session keeps every memory’s form. -/
theorem Dev.blockWrite_memWf (s : Dev) (off : Nat) (d : List Byte) (h : s.memWf) : (s.blockWrite off d).memWf := by
  have key : ∀ t : Dev, t.memWf → ∀ got : List Nat,
      ((t.setImg { t.img with got := got, standby := (if s.get Reg.IMG_STAT_TGT % 2 = 1 then writeBytes s.img.standby off d else s.img.standby) }).set
        Reg.IMG_RCVD_RCVD got.length).memWf := by
    intro t ht got
    refine ⟨ht.1, ht.2.1, ht.2.2.1, ht.2.2.2.1, ?_, ht.2.2.2.2.2⟩
    show Memory.wf (if s.get Reg.IMG_STAT_TGT % 2 = 1 then writeBytes s.img.standby off d else s.img.standby) = true
    split
    · exact Memory.wf_writeBytes _ _ _ h.2.2.2.2.1
    · exact h.2.2.2.2.1
  unfold Dev.blockWrite
  cases s.qTarget with
  | none => exact key s h _
  | some k => exact key _ (s.qspiProgram_memWf _ _ h) _

/-- A word that an SPI frame writes into a window. -/
theorem Dev.spiPut_memWf (s : Dev) (sp a : Nat) (w : Word) (hs : sp ≠ 0) (h : s.memWf) : (s.spiPut sp a w).memWf := by
  match sp, hs with
  | 1, _ => exact ⟨h.1, Memory.wf_writeBytes _ _ _ h.2.1, h.2.2⟩
  | n + 2, _ => exact ⟨h.1, h.2.1, Memory.wf_writeBytes _ _ _ h.2.2.1, h.2.2.2⟩

/-- A burst written to the FRAM. -/
theorem Dev.framBytes_memWf (s : Dev) (a : Nat) (b : List Byte) (h : s.memWf) :
    ({ s with fram := { s.fram with mem := writeBytes s.fram.mem a b } } : Dev).memWf :=
  ⟨h.1, h.2.1, h.2.2.1, Memory.wf_writeBytes _ _ _ h.2.2.2.1, h.2.2.2.2⟩

end Sys2Proof.Machine
end

