-- ==== Sys2Proof/Laws/PerInstr.lean ====
section
/-! SUPPORT. Per command: what the syntax of a packet command says of it. One law per constructor. -/

namespace Sys2Proof.Laws.PacketForm
open Sys2Proof Sys2Proof.Machine

/-- A command of the master table is well formed exactly when its source and its 64-byte packet are (R353), and no command submitted as a
packet acts while the main die is held in reset (R382). -/
def Statement (i : Instr) : Prop :=
  ∀ op src p, opInstr op src p = some i → i.wf = (src.wf && packetWf p) ∧ actsInReset i = false

/-- The statement holds of every command: the master table names only rows that take a source and a packet. -/
theorem every (i : Instr) : Statement i := by
  intro op src p h
  unfold opInstr at h
  split at h <;> first | (cases h; exact ⟨rfl, rfl⟩) | (cases h)

theorem resetNRelease (xstraps : Nat) (xperiods : Nat) (xrails : Bool) : Statement (.resetNRelease xstraps xperiods xrails) := every _
theorem resetNAssert : Statement (.resetNAssert) := every _
theorem mainSupplyFail (xperiods : Nat) : Statement (.mainSupplyFail xperiods) := every _
theorem vaultSupplySwitch (xtoMain : Bool) : Statement (.vaultSupplySwitch xtoMain) := every _
theorem bandSearchComplete (xband : Nat) : Statement (.bandSearchComplete xband) := every _
theorem pllLock (xphErr : Int) : Statement (.pllLock xphErr) := every _
theorem lockTimeout (xphErr : Int) (xrun : Nat) : Statement (.lockTimeout xphErr xrun) := every _
theorem lossOfLock (xphErr : Int) : Statement (.lossOfLock xphErr) := every _
theorem referenceLoss : Statement (.referenceLoss) := every _
theorem referenceReturn : Statement (.referenceReturn) := every _
theorem offsetMeasurement (xport : Nat) (xtoNeigh : Int) (xfromNeigh : Int) : Statement (.offsetMeasurement xport xtoNeigh xfromNeigh) := every _
theorem frameTick (xdispatchDone : Bool) : Statement (.frameTick xdispatchDone) := every _
theorem computePhaseStart (xsampleDone : Bool) (xctl : Nat) (xruns : List Nat) : Statement (.computePhaseStart xsampleDone xctl xruns) := every _
theorem dispatchPhaseStart : Statement (.dispatchPhaseStart) := every _
theorem conversionEnd (xconv : Nat) (xcode : Nat) (xoor : Nat) : Statement (.conversionEnd xconv xcode xoor) := every _
theorem clampSense (xinput : Nat) : Statement (.clampSense xinput) := every _
theorem jsoftTrigger (xpairs : Nat) : Statement (.jsoftTrigger xpairs) := every _
theorem bgcalStepComplete (xslice : Nat) (xphase : Nat) (xz : Nat) (xf : Nat) : Statement (.bgcalStepComplete xslice xphase xz xf) := every _
theorem calChWrite (xch : Nat) : Statement (.calChWrite xch) := every _
theorem calZero : Statement (.calZero) := every _
theorem calFull : Statement (.calFull) := every _
theorem calCompute : Statement (.calCompute) := every _
theorem calStepComplete (xcodes : List Nat) (xfirstB : Bool) (xoor : Bool) : Statement (.calStepComplete xcodes xfirstB xoor) := every _
theorem comparatorTransition (xi : Nat) (xv : Int) (xtdc : Nat) : Statement (.comparatorTransition xi xv xtdc) := every _
theorem comparatorPowerupEval (xi : Nat) (xv : Int) (xtdc : Nat) : Statement (.comparatorPowerupEval xi xv xtdc) := every _
theorem comparatorSettle (xi : Nat) (xv : Int) (xtdc : Nat) : Statement (.comparatorSettle xi xv xtdc) := every _
theorem quadratureEdge (xa : Bool) (xb : Bool) : Statement (.quadratureEdge xa xb) := every _
theorem indexPulse : Statement (.indexPulse) := every _
theorem freqWindowEnd : Statement (.freqWindowEnd) := every _
theorem standstillTimeout : Statement (.standstillTimeout) := every _
theorem angRearm : Statement (.angRearm) := every _
theorem spPulseEdge : Statement (.spPulseEdge) := every _
theorem sppLossTimeout : Statement (.sppLossTimeout) := every _
theorem sppHoldExpiry : Statement (.sppHoldExpiry) := every _
theorem ivSweepScheduled : Statement (.ivSweepScheduled) := every _
theorem ivSweepPointEnd : Statement (.ivSweepPointEnd) := every _
theorem rotationDue : Statement (.rotationDue) := every _
theorem carrierPeriodBoundary (xg : Nat) : Statement (.carrierPeriodBoundary xg) := every _
theorem hbPeriodBoundary (xn : Nat) (xtdc : Nat) : Statement (.hbPeriodBoundary xn xtdc) := every _
theorem hbDutyEdge (xn : Nat) (xtdc : Nat) : Statement (.hbDutyEdge xn xtdc) := every _
theorem hbDeadtimeEnd (xn : Nat) (xtdc : Nat) : Statement (.hbDeadtimeEnd xn xtdc) := every _
theorem localCompareFire (xn : Nat) (xk : Nat) : Statement (.localCompareFire xn xk) := every _
theorem groupCompareFire (xg : Nat) (xj : Nat) : Statement (.groupCompareFire xg xj) := every _
theorem groupCommit (xmask : Nat) : Statement (.groupCommit xmask) := every _
theorem fltclrFclr (xmask : Nat) : Statement (.fltclrFclr xmask) := every _
theorem fltclrXclr (xmask : Nat) : Statement (.fltclrXclr xmask) := every _
theorem fltInput (xn : Nat) (xhigh : Bool) (xtdc : Nat) : Statement (.fltInput xn xhigh xtdc) := every _
theorem debugHalt (xstop : Bool) : Statement (.debugHalt xstop) := every _
theorem debugHaltEnd : Statement (.debugHaltEnd) := every _
theorem gridRecord (xport : Nat) (xok : Bool) (xwords : List (BitVec 32)) : Statement (.gridRecord xport xok xwords) := every _
theorem gridTripDue (xi : Nat) : Statement (.gridTripDue xi) := every _
theorem rocofHoldExpiry : Statement (.rocofHoldExpiry) := every _
theorem rtExitHoldExpiry : Statement (.rtExitHoldExpiry) := every _
theorem islcodeWindowEnd : Statement (.islcodeWindowEnd) := every _
theorem collectSend : Statement (.collectSend) := every _
theorem telemReceived (xring : Nat) (xrecs : List TelemRec) : Statement (.telemReceived xring xrecs) := every _
theorem discReturn (xring : Nat) (xwest : Bool) (xpayload : Nat) (xarr : Nat) : Statement (.discReturn xring xwest xpayload xarr) := every _
theorem alarmReceived (xring : Nat) (xpayload : Nat) : Statement (.alarmReceived xring xpayload) := every _
theorem loopNotice (xring : Nat) (xpayload : Nat) : Statement (.loopNotice xring xpayload) := every _
theorem thkHeal (xring : Nat) : Statement (.thkHeal xring) := every _
theorem thkRediscover (xring : Nat) : Statement (.thkRediscover xring) := every _
theorem multiHealEnd (xring : Nat) : Statement (.multiHealEnd xring) := every _
theorem profLoadTimeout : Statement (.profLoadTimeout) := every _
theorem krkLinkDown (xport : Nat) : Statement (.krkLinkDown xport) := every _
theorem krkLinkUp (xport : Nat) (xrdly : Nat) : Statement (.krkLinkUp xport xrdly) := every _
theorem heartbeat (xport : Nat) (xchip : Nat) (xframe : Nat) (xstate : Nat) (xkproto : Nat) (xok : Bool) : Statement (.heartbeat xport xchip xframe xstate xkproto xok) := every _
theorem viewCommit : Statement (.viewCommit) := every _
theorem orphanGraceEnd : Statement (.orphanGraceEnd) := every _
theorem orphanRampEnd : Statement (.orphanRampEnd) := every _
theorem heldContributionExpiry : Statement (.heldContributionExpiry) := every _
theorem slotUpdate (xport : Nat) (xslot : Nat) (xchip : Nat) (xframe : Nat) (xvalue : Int) (xstamp : Nat) (xrank : Nat) (xok : Bool) : Statement (.slotUpdate xport xslot xchip xframe xvalue xstamp xrank xok) := every _
theorem stationPacket (xport : Nat) (xdest : Nat) (xorigin : Nat) (xtxn : Nat) (xok : Bool) (xp : Packet) (xdata : List (BitVec 8)) : Statement (.stationPacket xport xdest xorigin xtxn xok xp xdata) := every _
theorem prepare (xport : Nat) (xdest : Nat) (xorigin : Nat) (xtxn : Nat) (xok : Bool) (xp : Packet) (xcommitN : Nat) (xdata : List (BitVec 8)) : Statement (.prepare xport xdest xorigin xtxn xok xp xcommitN xdata) := every _
theorem coherentDecision : Statement (.coherentDecision) := every _
theorem go (xport : Nat) (xdest : Nat) (xorigin : Nat) (xtxn : Nat) (xok : Bool) : Statement (.go xport xdest xorigin xtxn xok) := every _
theorem abort (xport : Nat) (xdest : Nat) (xorigin : Nat) (xtxn : Nat) (xok : Bool) : Statement (.abort xport xdest xorigin xtxn xok) := every _
theorem prepareExpiry : Statement (.prepareExpiry) := every _
theorem stationReply (xport : Nat) (xdest : Nat) (xtxn : Nat) (xok : Bool) (xchip : Nat) (xstatus : Nat) (xdetail : Nat) (xresult : List (BitVec 8)) (xbulk : List (BitVec 8)) : Statement (.stationReply xport xdest xtxn xok xchip xstatus xdetail xresult xbulk) := every _
theorem stationTimeout : Statement (.stationTimeout) := every _
theorem squallAtFire : Statement (.squallAtFire) := every _
theorem tripInEdge (xk : Nat) (xlevel : Bool) (xtdc : Nat) : Statement (.tripInEdge xk xlevel xtdc) := every _
theorem prtLatClear (xhi : Bool) (xw : BitVec 32) : Statement (.prtLatClear xhi xw) := every _
theorem loopBlankEnd : Statement (.loopBlankEnd) := every _
theorem loopDiscrepancy : Statement (.loopDiscrepancy) := every _
theorem safetyInputChange (xi : Nat) (xb : Bool) (xlevel : Bool) : Statement (.safetyInputChange xi xb xlevel) := every _
theorem safetyEvaluation (xctf : Nat) (xsreset : Bool) : Statement (.safetyEvaluation xctf xsreset) := every _
theorem discrepancyTimeout (xi : Nat) : Statement (.discrepancyTimeout xi) := every _
theorem contactorFault (xk : Nat) : Statement (.contactorFault xk) := every _
theorem sresetRelease (xheld : Nat) (xhedge : Bool) : Statement (.sresetRelease xheld xhedge) := every _
theorem sresetStuck : Statement (.sresetStuck) := every _
theorem hedgerowHeartbeatLoss : Statement (.hedgerowHeartbeatLoss) := every _
theorem hedgerowOscFault : Statement (.hedgerowOscFault) := every _
theorem safetyDiagnostic (xcode : Nat) (xfailed : Bool) : Statement (.safetyDiagnostic xcode xfailed) := every _
theorem watchdogExpiry : Statement (.watchdogExpiry) := every _
theorem overtempTrip : Statement (.overtempTrip) := every _
theorem meterSample : Statement (.meterSample) := every _
theorem pulseEdge (xk : Nat) : Statement (.pulseEdge xk) := every _
theorem pulseEnd (xk : Nat) : Statement (.pulseEnd xk) := every _
theorem harmonicWindowEnd : Statement (.harmonicWindowEnd) := every _
theorem freqTimeout : Statement (.freqTimeout) := every _
theorem meterSaveDue : Statement (.meterSaveDue) := every _
theorem saveRetry : Statement (.saveRetry) := every _
theorem lkpRefresh : Statement (.lkpRefresh) := every _
theorem sqtDoorbell (xq : Nat) (xv : Nat) : Statement (.sqtDoorbell xq xv) := every _
theorem cqhDoorbell (xq : Nat) (xv : Nat) : Statement (.cqhDoorbell xq xv) := every _
theorem entryFetch : Statement (.entryFetch) := every _
theorem heldCommandDue : Statement (.heldCommandDue) := every _
theorem deferredCommandRun : Statement (.deferredCommandRun) := every _
theorem deferralTimeout : Statement (.deferralTimeout) := every _
theorem spiWriteFrame (xframe : List (BitVec 8)) : Statement (.spiWriteFrame xframe) := every _
theorem spiReadFrame (xframe : List (BitVec 8)) (xclocked : Nat) : Statement (.spiReadFrame xframe xclocked) := every _
theorem mbxGo : Statement (.mbxGo) := every _
theorem mbxStatRead : Statement (.mbxStatRead) := every _
theorem mbxAck (xseq : Nat) : Statement (.mbxAck xseq) := every _
theorem aqEnable (xcfg : BitVec 32) : Statement (.aqEnable xcfg) := every _
theorem aqDisable : Statement (.aqDisable) := every _
theorem mgtFrameRx (xdata : List (BitVec 8)) (xtdc : Nat) : Statement (.mgtFrameRx xdata xtdc) := every _
theorem ptpMessageDue (xannounce : Bool) : Statement (.ptpMessageDue xannounce) := every _
theorem pcieLinkUp (xspeed : Nat) (xwidth : Nat) : Statement (.pcieLinkUp xspeed xwidth) := every _
theorem poolLowRearm : Statement (.poolLowRearm) := every _
theorem frmPeakRearm : Statement (.frmPeakRearm) := every _
theorem pwrPeakRearm : Statement (.pwrPeakRearm) := every _
theorem snpRel (xmask : Nat) : Statement (.snpRel xmask) := every _
theorem w1cWrite (xaddr : Nat) (xvalue : BitVec 32) : Statement (.w1cWrite xaddr xvalue) := every _
theorem rcRead (xaddr : Nat) (xwidth : Nat) : Statement (.rcRead xaddr xwidth) := every _
theorem lowWordRead (xaddr : Nat) (xwidth : Nat) : Statement (.lowWordRead xaddr xwidth) := every _
theorem registerWrite (xaddr : Nat) (xwidth : Nat) (xvalue : BitVec 32) : Statement (.registerWrite xaddr xwidth xvalue) := every _
theorem bootImageCheck : Statement (.bootImageCheck) := every _
theorem bootQspiTimeout : Statement (.bootQspiTimeout) := every _
theorem firmwareStart : Statement (.firmwareStart) := every _
theorem imgSessionTimeout : Statement (.imgSessionTimeout) := every _
theorem epochFuseDone : Statement (.epochFuseDone) := every _
theorem tjSensorUpdate (xtj : Int) : Statement (.tjSensorUpdate xtj) := every _
theorem keeperLoad : Statement (.keeperLoad) := every _
theorem keeperCrystalLoss : Statement (.keeperCrystalLoss) := every _
theorem vaultTick (xvbat : Nat) (xtamp : Int) (xntc : Int) (xteg : Int) (xperiods : Nat) : Statement (.vaultTick xvbat xtamp xntc xteg xperiods) := every _
theorem harvesterStart : Statement (.harvesterStart) := every _
theorem harvesterStop : Statement (.harvesterStop) := every _
theorem harvesterVocSample (xvoc : Nat) : Statement (.harvesterVocSample xvoc) := every _
theorem coldStartHandoff (xperiods : Nat) : Statement (.coldStartHandoff xperiods) := every _
theorem cellChargeCut : Statement (.cellChargeCut) := every _
theorem cellDischargeCut (xperiods : Nat) : Statement (.cellDischargeCut xperiods) := every _
theorem cellOvercurrent (xperiods : Nat) : Statement (.cellOvercurrent xperiods) := every _
theorem cellOcRelease (xperiods : Nat) : Statement (.cellOcRelease xperiods) := every _
theorem framWriteRequest (xvstart : Nat) (xdv : Nat) : Statement (.framWriteRequest xvstart xdv) := every _
theorem framBurstDone (xperiods : Nat) : Statement (.framBurstDone xperiods) := every _
theorem nop (xsrc : Src) (xp : Packet) : Statement (.nop xsrc xp) := every _
theorem identify (xsrc : Src) (xp : Packet) : Statement (.identify xsrc xp) := every _
theorem qCreate (xsrc : Src) (xp : Packet) : Statement (.qCreate xsrc xp) := every _
theorem qDelete (xsrc : Src) (xp : Packet) : Statement (.qDelete xsrc xp) := every _
theorem stateGoto (xsrc : Src) (xp : Packet) : Statement (.stateGoto xsrc xp) := every _
theorem devReset (xsrc : Src) (xp : Packet) : Statement (.devReset xsrc xp) := every _
theorem mgtSend (xsrc : Src) (xp : Packet) : Statement (.mgtSend xsrc xp) := every _
theorem mgtRecv (xsrc : Src) (xp : Packet) : Statement (.mgtRecv xsrc xp) := every _
theorem ceCtxLoad (xsrc : Src) (xp : Packet) : Statement (.ceCtxLoad xsrc xp) := every _
theorem ceCtxEnable (xsrc : Src) (xp : Packet) : Statement (.ceCtxEnable xsrc xp) := every _
theorem ceCtxRemove (xsrc : Src) (xp : Packet) : Statement (.ceCtxRemove xsrc xp) := every _
theorem ceCtxRead (xsrc : Src) (xp : Packet) : Statement (.ceCtxRead xsrc xp) := every _
theorem ceSpSet (xsrc : Src) (xp : Packet) : Statement (.ceSpSet xsrc xp) := every _
theorem ceParamSet (xsrc : Src) (xp : Packet) : Statement (.ceParamSet xsrc xp) := every _
theorem ceStateReset (xsrc : Src) (xp : Packet) : Statement (.ceStateReset xsrc xp) := every _
theorem ceCostQuery (xsrc : Src) (xp : Packet) : Statement (.ceCostQuery xsrc xp) := every _
theorem ceTblLoad (xsrc : Src) (xp : Packet) : Statement (.ceTblLoad xsrc xp) := every _
theorem ceTblRead (xsrc : Src) (xp : Packet) : Statement (.ceTblRead xsrc xp) := every _
theorem ceInjStart (xsrc : Src) (xp : Packet) : Statement (.ceInjStart xsrc xp) := every _
theorem ceInjStop (xsrc : Src) (xp : Packet) : Statement (.ceInjStop xsrc xp) := every _
theorem ceCapArm (xsrc : Src) (xp : Packet) : Statement (.ceCapArm xsrc xp) := every _
theorem ceCapRead (xsrc : Src) (xp : Packet) : Statement (.ceCapRead xsrc xp) := every _
theorem ceCapAbort (xsrc : Src) (xp : Packet) : Statement (.ceCapAbort xsrc xp) := every _
theorem cellMapLoad (xsrc : Src) (xp : Packet) : Statement (.cellMapLoad xsrc xp) := every _
theorem cellMapRead (xsrc : Src) (xp : Packet) : Statement (.cellMapRead xsrc xp) := every _
theorem cellStatusRead (xsrc : Src) (xp : Packet) : Statement (.cellStatusRead xsrc xp) := every _
theorem cellBypass (xsrc : Src) (xp : Packet) : Statement (.cellBypass xsrc xp) := every _
theorem cellRestore (xsrc : Src) (xp : Packet) : Statement (.cellRestore xsrc xp) := every _
theorem cellIvSweep (xsrc : Src) (xp : Packet) : Statement (.cellIvSweep xsrc xp) := every _
theorem cellIvRead (xsrc : Src) (xp : Packet) : Statement (.cellIvRead xsrc xp) := every _
theorem cellVrefSet (xsrc : Src) (xp : Packet) : Statement (.cellVrefSet xsrc xp) := every _
theorem cellSocSet (xsrc : Src) (xp : Packet) : Statement (.cellSocSet xsrc xp) := every _
theorem cellRotate (xsrc : Src) (xp : Packet) : Statement (.cellRotate xsrc xp) := every _
theorem modSlotLoad (xsrc : Src) (xp : Packet) : Statement (.modSlotLoad xsrc xp) := every _
theorem modCellCommit (xsrc : Src) (xp : Packet) : Statement (.modCellCommit xsrc xp) := every _
theorem modProfLoad (xsrc : Src) (xp : Packet) : Statement (.modProfLoad xsrc xp) := every _
theorem modProfRead (xsrc : Src) (xp : Packet) : Statement (.modProfRead xsrc xp) := every _
theorem modFltClear (xsrc : Src) (xp : Packet) : Statement (.modFltClear xsrc xp) := every _
theorem modEdgeTest (xsrc : Src) (xp : Packet) : Statement (.modEdgeTest xsrc xp) := every _
theorem modBsRead (xsrc : Src) (xp : Packet) : Statement (.modBsRead xsrc xp) := every _
theorem modSlotRead (xsrc : Src) (xp : Packet) : Statement (.modSlotRead xsrc xp) := every _
theorem gridProfileLoad (xsrc : Src) (xp : Packet) : Statement (.gridProfileLoad xsrc xp) := every _
theorem gridProfileRead (xsrc : Src) (xp : Packet) : Statement (.gridProfileRead xsrc xp) := every _
theorem gridStatusRead (xsrc : Src) (xp : Packet) : Statement (.gridStatusRead xsrc xp) := every _
theorem gridIslArm (xsrc : Src) (xp : Packet) : Statement (.gridIslArm xsrc xp) := every _
theorem gridZrefReset (xsrc : Src) (xp : Packet) : Statement (.gridZrefReset xsrc xp) := every _
theorem gridTripTest (xsrc : Src) (xp : Packet) : Statement (.gridTripTest xsrc xp) := every _
theorem stnTableLoad (xsrc : Src) (xp : Packet) : Statement (.stnTableLoad xsrc xp) := every _
theorem stnTableRead (xsrc : Src) (xp : Packet) : Statement (.stnTableRead xsrc xp) := every _
theorem stnJoin (xsrc : Src) (xp : Packet) : Statement (.stnJoin xsrc xp) := every _
theorem stnLeave (xsrc : Src) (xp : Packet) : Statement (.stnLeave xsrc xp) := every _
theorem stnStatusRead (xsrc : Src) (xp : Packet) : Statement (.stnStatusRead xsrc xp) := every _
theorem stnSlotSet (xsrc : Src) (xp : Packet) : Statement (.stnSlotSet xsrc xp) := every _
theorem stnResarea (xsrc : Src) (xp : Packet) : Statement (.stnResarea xsrc xp) := every _
theorem stnSquallAt (xsrc : Src) (xp : Packet) : Statement (.stnSquallAt xsrc xp) := every _
theorem prtTripClear (xsrc : Src) (xp : Packet) : Statement (.prtTripClear xsrc xp) := every _
theorem prtTripForce (xsrc : Src) (xp : Packet) : Statement (.prtTripForce xsrc xp) := every _
theorem prtPathTest (xsrc : Src) (xp : Packet) : Statement (.prtPathTest xsrc xp) := every _
theorem safConfigLoad (xsrc : Src) (xp : Packet) : Statement (.safConfigLoad xsrc xp) := every _
theorem safConfigConfirm (xsrc : Src) (xp : Packet) : Statement (.safConfigConfirm xsrc xp) := every _
theorem safConfigRead (xsrc : Src) (xp : Packet) : Statement (.safConfigRead xsrc xp) := every _
theorem safCtoSet (xsrc : Src) (xp : Packet) : Statement (.safCtoSet xsrc xp) := every _
theorem safAccess (xsrc : Src) (xp : Packet) : Statement (.safAccess xsrc xp) := every _
theorem mtrCfgLoad (xsrc : Src) (xp : Packet) : Statement (.mtrCfgLoad xsrc xp) := every _
theorem mtrCfgRead (xsrc : Src) (xp : Packet) : Statement (.mtrCfgRead xsrc xp) := every _
theorem mtrAccRead (xsrc : Src) (xp : Packet) : Statement (.mtrAccRead xsrc xp) := every _
theorem mtrIntvRead (xsrc : Src) (xp : Packet) : Statement (.mtrIntvRead xsrc xp) := every _
theorem mtrEvtRead (xsrc : Src) (xp : Packet) : Statement (.mtrEvtRead xsrc xp) := every _
theorem mtrHarmRead (xsrc : Src) (xp : Packet) : Statement (.mtrHarmRead xsrc xp) := every _
theorem mtrUnsavedRead (xsrc : Src) (xp : Packet) : Statement (.mtrUnsavedRead xsrc xp) := every _
theorem mtrSaveNow (xsrc : Src) (xp : Packet) : Statement (.mtrSaveNow xsrc xp) := every _
theorem mtrAccPreset (xsrc : Src) (xp : Packet) : Statement (.mtrAccPreset xsrc xp) := every _
theorem snpTrigger (xsrc : Src) (xp : Packet) : Statement (.snpTrigger xsrc xp) := every _
theorem snpRead (xsrc : Src) (xp : Packet) : Statement (.snpRead xsrc xp) := every _
theorem logRead (xsrc : Src) (xp : Packet) : Statement (.logRead xsrc xp) := every _
theorem imgBegin (xsrc : Src) (xp : Packet) : Statement (.imgBegin xsrc xp) := every _
theorem imgBlock (xsrc : Src) (xp : Packet) : Statement (.imgBlock xsrc xp) := every _
theorem imgVerify (xsrc : Src) (xp : Packet) : Statement (.imgVerify xsrc xp) := every _
theorem imgHandover (xsrc : Src) (xp : Packet) : Statement (.imgHandover xsrc xp) := every _
theorem imgAbort (xsrc : Src) (xp : Packet) : Statement (.imgAbort xsrc xp) := every _
theorem imgStatus (xsrc : Src) (xp : Packet) : Statement (.imgStatus xsrc xp) := every _
theorem pwrStatusRead (xsrc : Src) (xp : Packet) : Statement (.pwrStatusRead xsrc xp) := every _
theorem vltStatusRead (xsrc : Src) (xp : Packet) : Statement (.vltStatusRead xsrc xp) := every _
theorem vltFramRead (xsrc : Src) (xp : Packet) : Statement (.vltFramRead xsrc xp) := every _
theorem clampSenseRelease (xinput : Nat) : Statement (.clampSenseRelease xinput) := every _
theorem mgtLinkUp : Statement (.mgtLinkUp) := every _
theorem mgtLinkDown : Statement (.mgtLinkDown) := every _
theorem identityExchange (xport : Nat) (xdest : Nat) (xok : Bool) (xpeer : Option Ident) (xlast : Bool) : Statement (.identityExchange xport xdest xok xpeer xlast) := every _
theorem vaultPowerUp (xonMain : Bool) : Statement (.vaultPowerUp xonMain) := every _
theorem vaultDark : Statement (.vaultDark) := every _
theorem dischargeCutRelease (xperiods : Nat) : Statement (.dischargeCutRelease xperiods) := every _
theorem chargeCutRelease : Statement (.chargeCutRelease) := every _
theorem coldStartOscillator : Statement (.coldStartOscillator) := every _
theorem jtagExtest (xon : Bool) (xcells : Boundary) : Statement (.jtagExtest xon xcells) := every _

end Sys2Proof.Laws.PacketForm
end

