-- ==== Sys2Proof/Laws/Pool.lean ====
section
/-! SUPPORT. Laws of the buffer pool: what replacing a user's holding, an allocation and a free can do. -/

namespace Sys2Proof.Machine

/-! ### A user's holding -/

@[simp] theorem Dev.user_setUser_same (s : Dev) (u : Nat) (p : PoolUser) : (s.setUser u p).user u = p := by
  simp [Dev.user, Dev.setUser]

theorem Dev.user_setUser_ne (s : Dev) (u v : Nat) (p : PoolUser) (h : v ≠ u) : (s.setUser u p).user v = s.user v := by
  simp [Dev.user, Dev.setUser, sget_sset_ne _ _ _ _ _ h]

/-- The registers that follow a user's holding (R31). -/
def poolRegs : List Nat := [Reg.HIF_POOL_FREE_RES_FREE.off, Reg.HIF_POOL_LOW_SH_LOW.off, Reg.HIF_POOL_STAT_SHEXH_F.off]

/-- Replacing a holding touches the pool's own registers alone. -/
theorem Dev.poolPut_regs (s : Dev) (u : Nat) (p : PoolUser) : RegsBut s (s.poolPut u p) poolRegs := by
  unfold Dev.poolPut
  refine RegsBut.onlyIf (RegsBut.onlyIf ?_ _ _ ?_) _ _ ?_
  · exact (RegsBut.set (RegsBut.set (RegsBut.refl s _) _ _ (by decide)) _ _ (by decide))
  · exact fun t h => h.set _ _ (by decide)
  · exact fun t h => h.raise _ (by decide)

@[simp] theorem Dev.user_set (s : Dev) (f : Fld) (n v : Nat) : (s.set f n).user v = s.user v := rfl

/-- The flag of an exhausted pool holds nobody's granules. -/
theorem Dev.user_raise (s : Dev) (f : Fld) (v : Nat) : (s.raise f).user v = s.user v := rfl

theorem Dev.poolPut_user (s : Dev) (u v : Nat) (p : PoolUser) : (s.poolPut u p).user v = if v = u then p else s.user v := by
  have h : (s.poolPut u p).user v = (s.setUser u p).user v := by
    unfold Dev.poolPut
    simp only [onlyIf]
    split <;> split <;> simp [Dev.user_raise]
  rw [h]
  split
  · next e => rw [e]; simp
  · next e => exact s.user_setUser_ne u v p e

/-! ### Allocations and frees (R24, R26) -/

/-- What an allocation can do: the user could allocate, its own reservation gives first, and no other user's holding changes. -/
theorem Dev.allocN_some {s : Dev} {u n : Nat} {h : Hold} {t : Dev} (e : s.allocN u n = some (h, t)) :
    n ≤ s.couldAlloc u ∧ h.user = u ∧ h.res = min n (resSize u - (s.user u).resUsed u) ∧ h.sh = n - h.res ∧
    RegsBut s t poolRegs ∧ ∀ v, t.user v = if v = u then { s.user u with res := (s.user u).res + h.res, sh := (s.user u).sh + h.sh } else s.user v := by
  unfold Dev.allocN at e
  split at e
  · cases e
  · next c =>
    cases e
    exact ⟨Nat.le_of_not_lt c, rfl, rfl, rfl, s.poolPut_regs _ _, fun v => s.poolPut_user _ _ _⟩

/-- A free touches its own user alone. -/
theorem Dev.giveBack_user (s : Dev) (h : Hold) (v : Nat) : (s.giveBack h).user v =
    if v = h.user then ({ s.user h.user with res := (s.user h.user).res - h.res, sh := (s.user h.user).sh - h.sh } : PoolUser).halfRule h.user
    else s.user v := s.poolPut_user _ _ _

theorem Dev.giveBack_regs (s : Dev) (h : Hold) : RegsBut s (s.giveBack h) poolRegs := s.poolPut_regs _ _

/-! ### The round robin (R28) -/

/-- Whoever is served, the turn passes on and the count of the clock rises by one. -/
theorem Dev.servedOne_pool (s : Dev) (u : Nat) : (s.servedOne u).pool = { s.pool with ptr := u, served := s.pool.served + 1 } := rfl

@[simp] theorem Dev.servedOne_regs (s : Dev) (u : Nat) : (s.servedOne u).regs = s.regs := rfl

@[simp] theorem Dev.servedOne_user (s : Dev) (u v : Nat) : (s.servedOne u).user v = s.user v := rfl

end Sys2Proof.Machine
end

