-- ==== Sys2Proof/Tests/Slice0.lean ====
section
/-! SUPPORT. The model's own tests: an ill-formed term for each check of WellFormed, small results by the rules, and for every statement with
hypotheses concrete states and operands that meet them, clause by clause. -/

set_option Elab.async false

namespace Sys2Proof.Tests
open Sys2Proof Sys2Proof.Machine

/-! ### Small states -/

/-- A state around a device. -/
def st (d : Dev) : State := { dev := d, pending := [] }

/-- A device with the fields given. -/
def dv (l : List (Fld × Nat)) (d : Dev := {}) : Dev := l.foldl (fun t x => t.set x.1 x.2) d

/-- A device in a state, ready for commands. -/
def inSt (n : Nat) (l : List (Fld × Nat) := []) (d : Dev := {}) : Dev := dv ([(Reg.HIF_STAT_STATE, n), (Reg.HIF_STAT_CMDRDY, 1)] ++ l) d

/-- CONFIG, ready for commands. -/
def base : Dev := inSt stCONFIG

/-- A packet of an opcode with tag 7, LEN 48 and these bytes from byte 16 on. -/
def pk (op : Nat) (l : List Byte := []) : Packet :=
  [BitVec.ofNat 8 op, 0, 7, 0] ++ zeros 2 ++ [48, 0] ++ zeros 8 ++ l ++ zeros (48 - l.length)

/-- A packet with bytes placed at offsets. -/
def pkAt (op : Nat) (l : List (Nat × List Byte)) : Packet := l.foldl (fun p x => patch p x.1 x.2) (pk op)

/-- The device after a command. -/
def run (i : Instr) (d : Dev) : Dev :=
  match exec i (st d) with
  | .next t => t.dev
  | _ => d

/-- The device and command record as the body of an opcode begins, from the mailbox. -/
def beg (op : Nat) (p : Packet) (d : Dev := base) : Option (WaitCmd × Dev) := (st d).start.begins op .mailbox p

/-- The body of the opcode begins and the condition holds there. -/
def at_ (op : Nat) (p : Packet) (d : Dev) (f : Dev → Bool) : Bool := (beg op p d).any (fun x => f x.2)

/-- The mailbox reply after a command: status and detail code. -/
def rep (i : Instr) (d : Dev) : Nat × Nat :=
  let r := (run i d).host.mbx.live
  (byteAt r 2, leAt r 5 3)


/-- A device whose main die is held in reset. -/
def held : Dev := { base with inReset := true }

/-- The PLL in a state, after the first lock. -/
def pll (n : Nat) (d : Dev := base) : Dev := { dv [(Reg.CLK_STAT_PLLST, n)] d with clk := { d.clk with locked1 := true } }

/-! ### Ill-formed commands are refused -/

theorem test_wf_source : (Instr.nop (.queue 64) (pk 0)).wf = false ∧ (Instr.nop (.queue 63) (pk 0)).wf = true ∧
    (Instr.nop (.station 512 0) (pk 0)).wf = false ∧ (Instr.nop (.station 0 4) (pk 0)).wf = false ∧ (Instr.nop .mailbox (pk 0)).wf = true := by decide +kernel

theorem test_wf_packet : (Instr.nop .mailbox (zeros 63)).wf = false ∧ (Instr.stnJoin .mailbox (zeros 65)).wf = false := by decide +kernel

theorem test_wf_records : (Instr.telemReceived 16 []).wf = false ∧ (Instr.telemReceived 0 [⟨0x2D, 2 ^ 56, []⟩]).wf = false ∧
    (Instr.telemReceived 15 [⟨255, 2 ^ 56 - 1, []⟩]).wf = true ∧ (Instr.telemReceived 0 [⟨256, 0, []⟩]).wf = false ∧
    (Instr.gridRecord 0 true (List.replicate 10 0)).wf = false ∧ (Instr.gridRecord 4 true (List.replicate 11 0)).wf = false ∧
    (Instr.identityExchange 0 0 true (some ⟨512, 0, 0, 0, 0, 0, true, 0⟩) false).wf = false ∧ (Instr.identityExchange 4 0 true none false).wf = false ∧
    (Instr.heartbeat 0 0 0 16 0 true).wf = false ∧ (Instr.slotUpdate 0 64 0 0 0 0 0 true).wf = false := by decide +kernel

theorem test_wf_operands : (Instr.resetNRelease 8 0 true).wf = false ∧ (Instr.bandSearchComplete 256).wf = false ∧
    (Instr.conversionEnd 16 0 0).wf = false ∧ (Instr.conversionEnd 0 4096 0).wf = false ∧ (Instr.conversionEnd 0 0 3).wf = false ∧
    (Instr.clampSense 48).wf = false ∧ (Instr.clampSenseRelease 48).wf = false ∧ (Instr.comparatorTransition 24 0 0).wf = false ∧
    (Instr.comparatorSettle 0 0 16).wf = false ∧ (Instr.hbPeriodBoundary 12 0).wf = false ∧ (Instr.carrierPeriodBoundary 6).wf = false ∧
    (Instr.groupCompareFire 0 8).wf = false ∧ (Instr.krkLinkDown 4).wf = false ∧ (Instr.tripInEdge 2 true 0).wf = false ∧
    (Instr.sqtDoorbell 64 0).wf = false ∧ (Instr.cqhDoorbell 0 4096).wf = false ∧ (Instr.registerWrite 0 9 0).wf = false ∧
    (Instr.rcRead 0 9).wf = false ∧ (Instr.jtagExtest true ⟨4, 0, 0, 0, 0, 0, 0, false, false, 0, 0⟩).wf = false := by decide +kernel

/-- The opcode table gives no row any bits. -/
theorem test_decode_none : decodeTableWord 32 0 = none := by decide

/-! ### The core statements -/

/-- The PLL in lock with an offset to be slewed, on the core clock before a slewing clock. -/
def slewing (o : Int) : Dev :=
  let d := pll pLOCK
  { d with time := 100, clocks := d.slewGap - 1, clk := { locked1 := true, slew := o } }

theorem test_clock_states : (st base).live ∧ (st base).pending = [] ∧ (pll pIDLE).pllst = pIDLE ∧
    (st base).dev.clk.locked1 = false ∧ ((pll pLOCK).clk.locked1 = true ∧ (pll pLOCK).slewIn 1 = 0) ∧
    ((slewing 5).slewIn 1 ≠ 0 ∧ 0 < (slewing 5).clk.slew) ∧ ((slewing (-5)).slewIn 1 ≠ 0 ∧ (slewing (-5)).clk.slew < 0) := by
  refine ⟨rfl, rfl, ?_⟩; decide +kernel

theorem test_clock_slews : (run .firmwareStart base).time = 0 ∧
    (match step (st { pll pLOCK with time := 100 }) with | .next t => t.dev.time | _ => 0) = 116 ∧
    (match step (st (slewing 5)) with | .next t => t.dev.time | _ => 0) = 115 ∧
    (match step (st (slewing (-5))) with | .next t => t.dev.time | _ => 0) = 117 := by
  decide +kernel

theorem test_in_reset : actsInReset (.nop .mailbox (pk 0)) = false ∧ held.inReset = true ∧ (∀ i : Instr, i = .mbxGo → actsInReset i = false) := by
  refine ⟨rfl, rfl, ?_⟩; rintro _ rfl; rfl

theorem test_step_answers_reset : ∃ t, step State.reset = .next t := ⟨_, rfl⟩

/-- A state of which nothing waits to settle. -/
theorem test_quiet_device : (List.all sourceCodes fun c => !(base.prt.evaluated && base.sourceActive c && base.effective c) || base.isOn (latF c)) = true ∧
    base.mtrRuns = base.mtr.running ∧ (base.stIn [stREADY, stSYNC, stRUN] = true ∨ ∀ x ∈ base.ce.inj, x.2.active = false) ∧
    base.prt.tripped = [] ∧ base.prt.path = none ∧ base.img.ho = none ∧ base.clk.ref = base.reference ∧ base.host.waits = [] ∧
    base.host.queues = [] ∧ base.krk.txns = [] := by decide +kernel

theorem test_reset_states : (st base).live ∧ (st held).dev.inReset = true := ⟨rfl, rfl⟩

theorem test_halt_states : base.prt.halted = false ∧ base.isOn (latF 0x24) = false ∧ base.stIn tripHeldStates = true ∧
    (inSt stRUN).stIn tripHeldStates = false ∧ ({ base with prt := { halted := true } } : Dev).prt.halted = true := by decide +kernel

theorem test_halt_trips : (run (.debugHalt false) (inSt stRUN)).st = stTRIPPED ∧ (run (.debugHalt false) base).st = stCONFIG := by decide +kernel

/-- A machine in BOOT with no image in a slot: the check of slot A fails, then recovery. -/
theorem test_boot_states : State.reset.live ∧ base.bootLooks = false ∧ State.reset.dev.st = stBOOT ∧
    (let d := State.reset.dev; d.bootLooks = true ∧ (st d).start.readHeads.nextSlotTry = none) ∧
    (let d := { State.reset.dev with img := { headsRead := true } }; d.bootLooks = true ∧ (st d).start.readHeads.nextSlotTry = some 0) ∧ base.st ≠ stBOOT ∧
    (let d := dv [(Reg.IMG_BOOT_STARTED, 1)] State.reset.dev; d.st = stBOOT ∧ d.get Reg.IMG_BOOT_STARTED ≠ 0 ∧ d.isOn Reg.HIF_STAT_CMDRDY = false) := by
  refine ⟨rfl, ?_⟩; decide +kernel

/-! ### Clock, time counter and frame -/

theorem test_pll_states : (pll pBAND).pllst = pBAND ∧ (pll pACQ).pllst = pACQ ∧ (pll pACQ).clk.locked1 = true ∧ (pll pLOST).pllst = pLOST ∧
    (let d := dv [(Reg.CLK_STAT_PLLST, pACQ)] { State.reset.dev with straps := 4 }; d.pllst = pACQ ∧ d.clk.locked1 = false ∧ d.straps / 4 % 2 = 1 ∧ d.st = stBOOT) := by
  decide +kernel

theorem test_pll_results : (run (.pllLock 70000) (pll pACQ)).clk.phErr = 32767 ∧ (run (.pllLock 0) (pll pACQ)).pllst = pLOCK ∧
    (run (.bandSearchComplete 70) (pll pBAND)).get Reg.CLK_STAT_BAND = 6 ∧ (run (.lockTimeout 0 300) (pll pACQ)).pllst = pBAND := by
  decide +kernel

theorem test_loss_states : (pll pLOCK).pllst = pLOCK ∧
    (let d := dv [(Reg.CLK_CFG_LOSSACT, 1)] (pll pLOCK (inSt stRUN)); d.pllst = pLOCK ∧ d.get Reg.CLK_CFG_LOSSACT = 1 ∧ d.stIn [stSYNC, stRUN, stRIDETHROUGH] = true) ∧
    (let d := dv [(Reg.CLK_CFG_LOSSACT, 2)] (pll pLOCK (inSt stRUN)); 2 ≤ d.get Reg.CLK_CFG_LOSSACT ∧ d.effective 0x21 = true) ∧
    (pll pLOCK).stIn [stSYNC, stRUN, stRIDETHROUGH] = false := by decide +kernel

theorem test_loss_trips : (let d := dv [(Reg.CLK_CFG_LOSSACT, 2)] (pll pLOCK (inSt stRUN)); (run (.lossOfLock 0) d).st = stTRIPPED) ∧
    (let d := dv [(Reg.CLK_CFG_LOSSACT, 1)] (pll pLOCK (inSt stRUN)); (run (.lossOfLock 0) d).st = stRUN) := by decide +kernel

/-- A member whose parent is behind port 1, where a link is up. -/
def member : Dev := dv [(Reg.KRK_PORTp_STAT_LINK 1, 2), (Reg.KRK_STAT_MST, mMEMBER), (Reg.KRK_STAT_PARPORT, 1)] (pll pLOCK)

theorem test_offset_states : base.linkUp 0 = false ∧ member.linkUp 1 = true ∧ member.mst = mMEMBER ∧ member.isOn Reg.KRK_STAT_TSRC = false ∧
    member.get Reg.KRK_STAT_PARPORT = 1 ∧ (dv [(Reg.KRK_STAT_PARPORT, 2)] member).get Reg.KRK_STAT_PARPORT ≠ 1 ∧
    member.stIn stepStates = true ∧ member.slewMax < ((5000000 - 0 : Int) / 2).natAbs ∧ ((4 - 2 : Int) / 2).natAbs ≤ member.slewMax ∧
    (inSt stRUN).stIn stepStates = false ∧ member.unsync = (dv [] member).unsync ∧ (dv [(Reg.CLK_STAT_UNSYNC, 1)] member).unsync = true ∧
    (dv [(Reg.CLK_STAT_UNSYNC, 0)] member).unsync = false := by decide +kernel

theorem test_offset_results : (run (.offsetMeasurement 1 2 4) member).clk.slew = 1 ∧
    (run (.offsetMeasurement 1 0 5000000) member).clk.step = some 2500000 := by decide +kernel

/-- A frame that has begun. -/
def inFrame (d : Dev := base) : Dev := { pll pLOCK d with frm := { tickNo := 5, ticked := true } }

theorem test_frame_states : (inFrame).clk.locked1 = true ∧ inFrame.clk.step = none ∧ inFrame.frm.ticked = true ∧ base.frm.ticked = false ∧ base.clk.locked1 = false ∧
    inFrame.frm.overrun = false ∧ (inFrame (inSt stRUN)).stIn [stPOWEROFF, stBOOT, stCONFIG] = false ∧
    ({ inFrame with frm := { ticked := true, late := true } } : Dev).frm.late = true := by decide +kernel

theorem test_frame_results : (run (.frameTick true) inFrame).get Reg.FRM_NUM_FRAME = 5 ∧ (run (.frameTick true) inFrame).frm.tickNo = 6 ∧
    (run (.frameTick false) inFrame).isOn (latF 0x20) = true ∧ (run (.computePhaseStart true 100 [0, 0, 0]) inFrame).get Reg.FRM_STAT_PHASE = 1 ∧
    (run .dispatchPhaseStart { inFrame with frm := { tickNo := 5, ticked := true, late := true } }).isOn Reg.FRM_FLAG_OVR_F = true := by decide +kernel

/-! ### Converters, comparators, calibration -/

/-- A conversion of input 3 of pair 1 runs in converter 2, of a kind. -/
def converting (kind : Nat) : Dev := (dv [(Reg.ADC_CTL_EN, 1)] (pll pLOCK)).setRun 2 (some { kind := kind, idx := 3, start := 100, begun := true, clamped := kind == 1 })

theorem test_conversion_states : base.convRun 3 = none ∧ ((converting 0).convRun 2).any (fun r => r.idx < 6 && r.kind != 1) = true ∧
    ((converting 1).convRun 2).any (fun r => r.kind == 1 && r.clamped) = true := by decide +kernel

theorem test_conversion_results : (run (.conversionEnd 2 0x7FF 0) (converting 0)).reg (Reg.ADC_RESn 9) % 4096 = 0x7FF ∧
    (run (.conversionEnd 2 0x7FF 2) (converting 0)).reg (Reg.ADC_RESn 9) % 4096 = 0xFFF ∧
    (run (.conversionEnd 2 5 0) (converting 1)).pair (Reg.ADC_JSTAMPp_LO 1) (Reg.ADC_JSTAMPp_HI 1) = 2400 := by decide +kernel

/-- Pair 2 takes software triggers on input index 1; its slots run. -/
def injecting : Dev := (dv [(Reg.ADC_CTL_EN, 1), (Reg.ADC_PAIRp_CFG_JTRIG 2, 1), (Reg.ADC_PAIRp_CFG_JCH 2, 1)] (pll pLOCK)).setPair_ 2 { started := true }

theorem test_injection_states : injecting.get (Reg.ADC_PAIRp_CFG_JTRIG 2) = 1 ∧ injecting.isOn Reg.ADC_CTL_EN = true ∧ injecting.injRunning 2 = false ∧
    injecting.calPair 2 = false ∧ injecting.pairMode 2 ≠ 1 ∧ (injecting.pair_ 2).started = true ∧ base.isOn Reg.ADC_CTL_EN = false := by decide +kernel

theorem test_injection_results : (run (.jsoftTrigger 4) injecting).injRunning 2 = true ∧ (run (.jsoftTrigger 4) base).isOn Reg.ADC_FLAG_JLOST_F = false ∧
    (run (.jsoftTrigger 4) (dv [(Reg.ADC_CTL_EN, 0)] injecting)).isOn Reg.ADC_FLAG_JLOST_F = true := by decide +kernel

theorem test_clamp_states : (run (.clampSense 13) base).pair_ 2 = { clamp := 2 } ∧ ((run (.clampSense 13) base).pair_ (13 / 6)).clamp / 2 ^ (13 % 6) % 2 = 1 ∧
    ((run (.clampSenseRelease 13) (run (.clampSense 13) base)).pair_ 2).clampEnd = some 0 := by decide +kernel

theorem test_trim : newTrim 100 (100 + 983040) ≠ none ∧ newTrim 100 100 = none ∧ newTrim 16385 (16385 + 983040) = none ∧ newTrim 16384 (16384 + 983040) ≠ none ∧
    base.isOn Reg.ADC_CTL_BGEN = true ∧ (dv [(Reg.ADC_CTL_BGEN, 0)]).isOn Reg.ADC_CTL_BGEN = false := by decide +kernel

/-- A calibration step runs on input 20. -/
def calibrating (step : Nat) : Dev := { dv [(Reg.ADC_CTL_EN, 1), (Reg.ADC_CALCTL_CH, 20), (Reg.ADC_CALSTAT_BUSY, 1)] base with
  adc := { cal := some { step := step, active := true } } }

theorem test_calibration_states : min 47 (0 % 64) = base.get Reg.ADC_CALCTL_CH ∧ min 47 (50 % 64) ≠ base.get Reg.ADC_CALCTL_CH ∧
    (inSt stRUN).stIn [stCONFIG, stREADY] = false ∧ base.isOn Reg.ADC_CTL_EN = false ∧ (calibrating 1).isOn Reg.ADC_CALSTAT_BUSY = true ∧
    (let d := dv [(Reg.ADC_CTL_EN, 1)] base; d.stIn [stCONFIG, stREADY] = true ∧ d.isOn Reg.ADC_CTL_EN = true ∧ d.isOn Reg.ADC_CALSTAT_BUSY = false) ∧
    base.adc.cal = none ∧ (calibrating 2).adc.cal = some { step := 2, active := true } := by decide +kernel

theorem test_calibration_results : (run (.calChWrite 50) base).get Reg.ADC_CALCTL_CH = 47 ∧ (run .calZero base).isOn Reg.ADC_FLAG_CALREJ_F = true ∧
    (run (.calStepComplete [8, 8] false false) (calibrating 1)).isOn Reg.ADC_CALSTAT_ZEROOK = true ∧
    (run .calCompute (dv [(Reg.ADC_CTL_EN, 1)] base)).get Reg.ADC_CALSTAT_RESULT = 3 := by decide +kernel

/-- Comparator 4 evaluates its input; comparator 5 waits after power-up, comparator 6 after a change. -/
def comparing : Dev := { dv [(Reg.CMP_CFGi_EN 4, 1), (Reg.CMP_CFGi_EN 5, 1), (Reg.CMP_CFGi_EN 6, 1), (Reg.CMP_ROUTEi_TRIP 4, 1), (Reg.CMP_ROUTEi_IRQ 4, 1),
  (Reg.CMP_ROUTEi_CAPT 4, 1), (⟨0x18C0, 4, 4⟩, 0)] (pll pLOCK (inSt stRUN)) with cmp := { powering := 32, settling := 64 } }

theorem test_comparator_states : comparing.cmpLive 4 = true ∧ comparing.cmpLive 5 = false ∧
    (comparing.isOn (Reg.CMP_CFGi_EN 5) = true ∧ comparing.cmp.powering / 2 ^ 5 % 2 = 1 ∧ comparing.cmp.settling / 2 ^ 5 % 2 = 0) ∧
    (comparing.isOn (Reg.CMP_CFGi_EN 6) = true ∧ comparing.cmp.settling / 2 ^ 6 % 2 = 1 ∧ comparing.cmp.powering / 2 ^ 6 % 2 = 0) ∧
    comparing.cmp.powering / 2 ^ 4 % 2 = 0 ∧ comparing.cmp.settling / 2 ^ 4 % 2 = 0 ∧ (comparing.cmpEntry 4 100000 || comparing.cmpEntry 4 (-100000)) = true ∧
    comparing.cmpTripped 4 = false ∧ comparing.isOn (Reg.CMP_ROUTEi_TRIP 4) = true ∧ comparing.get (Reg.CMP_ROUTEi_EDGE 4) ≠ 1 := by decide +kernel

/-! ### Grid angle and pulse input -/

/-- The angle reference is enabled, with 1,024 edges a turn. -/
def angle (net : Int) (misses : Nat) : Dev := { dv [(Reg.ANG_CFG_EN, 1), (Reg.ANG_CPC_CPC, 1023), (Reg.ANG_CPC_IDXTOL, 2), (Reg.ANG_STAT_XST, xVALID)] (pll pLOCK) with
  ang := { net := net, misses := misses } }

theorem test_quadrature_states : (angle 0 0).isOn Reg.ANG_CFG_EN = true ∧ base.isOn Reg.ANG_CFG_EN = false ∧
    (quadIndex true false + 4 - quadIndex (angle 0 0).ang.a (angle 0 0).ang.b) % 4 = 1 ∧
    (quadIndex false true + 4 - quadIndex (angle 0 0).ang.a (angle 0 0).ang.b) % 4 = 3 ∧
    (quadIndex true true + 4 - quadIndex (angle 0 0).ang.a (angle 0 0).ang.b) % 4 = 2 := by decide +kernel

theorem test_index_miss_boundary : ((angle 1025 1).ang.net + 1).natAbs ≤ (angle 1025 1).cpc + (angle 1025 1).get Reg.ANG_CPC_IDXTOL ∧
    (run (.quadratureEdge true false) (angle 1025 1)).ang.net = 1026 ∧ (run (.quadratureEdge true false) (angle 1026 1)).ang.misses = 2 ∧
    (run (.quadratureEdge true false) (angle 1026 1)).xst = xINVALID ∧ (run (.quadratureEdge false true) (angle (-1026) 0)).xst = xVALID := by decide +kernel

theorem test_index_states : ((angle 0 0).xst ≠ xWAIT ∧ (dv [(Reg.ANG_STAT_POS, 100)] (angle 0 0)).get Reg.ANG_CPC_IDXTOL < (dv [(Reg.ANG_STAT_POS, 100)] (angle 0 0)).posError.natAbs) ∧
    (angle 0 0).xst = xVALID ∧ (dv [(Reg.ANG_STAT_XST, xINVALID)]).xst = xINVALID ∧ (angle 0 0).ang.cond = false ∧
    ({ dv [(Reg.ANG_STAT_XST, xINVALID)] with ang := { cond := true } } : Dev).ang.cond = true := by decide +kernel

theorem test_index_results : (run .indexPulse (dv [(Reg.ANG_STAT_POS, 100)] (angle 0 0))).isOn Reg.ANG_FLAG_IDXERR_F = true ∧
    (run .indexPulse (angle 5 1)).ang.net = 0 ∧ (run .standstillTimeout (angle 0 0)).xst = xLOST ∧
    (run .angRearm (dv [(Reg.ANG_STAT_XST, xINVALID)])).ang.rearm = true := by decide +kernel

/-! ### Boot with a slot tried -/

theorem test_boot_timeout : (run .bootQspiTimeout { State.reset.dev with img := { headsRead := true } }).get Reg.IMG_BOOT_OUTA = 6 ∧
    (run .bootImageCheck State.reset.dev).isOn Reg.IMG_BOOT_RECOV = true ∧ (run .bootImageCheck State.reset.dev).isOn Reg.HIF_STAT_CMDRDY = true := by
  decide +kernel

theorem test_comparator_trips : (run (.comparatorTransition 4 65520 3) comparing).isOn (latF 4) = true ∧
    (run (.comparatorTransition 4 65520 3) comparing).st = stTRIPPED := by decide +kernel

theorem test_window_states : (let d := angle 0 0; d.stIn [stRUN, stRIDETHROUGH] = false ∧ d.isOn Reg.ANG_STAT_METH = false) ∧
    (let d := { dv [(Reg.ANG_STAT_METH, 1)] (angle 0 0) with ang := { winRev := true } }; d.isOn Reg.ANG_STAT_METH = true ∧ d.ang.winRev = true) ∧
    (dv [(Reg.HIF_STAT_STATE, stRUN)] (angle 0 0)).stIn [stRUN, stRIDETHROUGH] = true ∧ base.isOn Reg.CE_SPP_CFG_EN = false ∧
    (dv [(Reg.CE_SPP_CFG_EN, 1)] base).isOn Reg.CE_SPP_CFG_EN = true ∧ (dv [(Reg.CE_SPP_STAT_ST, spTRACK)] base).spst = spTRACK ∧
    (dv [(Reg.CE_SPP_STAT_ST, spHOLD)] base).spst = spHOLD ∧ base.spst ≠ spTRACK ∧ base.spst ≠ spHOLD := by decide +kernel

theorem test_pulse_input_results : (run .sppLossTimeout (dv [(Reg.CE_SPP_STAT_ST, spTRACK)] base)).isOn Reg.CE_FLAG_PLOSS_F = true ∧
    (run .sppHoldExpiry (dv [(Reg.CE_SPP_STAT_ST, spHOLD)] base)).spst = spRAMP ∧ (run .freqWindowEnd (angle 0 0)).isOn Reg.ANG_FLAG_STILL_F = false := by
  decide +kernel

/-! ### Local channels and cells -/

/-- Channel 3 runs a period with these edges due. -/
def channel (out : Nat) (edges : List Nat) : Dev :=
  let d := dv [(Reg.MOD_HBn_CFG_EN 3, 1), (Reg.MOD_HBn_STAT_OUT 3, out), (Reg.MOD_HBn_STAT_FLTLAT 3, 0), (Reg.PRT_STAT_OUT, 0)] (pll pLOCK (inSt stRUN))
  { d with hb := [(3, { started := true, running := true, edges := edges, active := { period := 8000, cmp := 0x8A000064#32 :: List.replicate 7 0 } })] }

theorem test_channel_states : ((channel 1 [500]).isOn (Reg.MOD_HBn_CFG_EN 3) = true ∧ ((channel 1 [500]).ch 3).started = true ∧
    (channel 1 [500]).hbHeld 3 = false ∧ ((channel 1 [500]).ch 3).edges ≠ []) ∧ ((channel 1 []).ch 3).edges = [] ∧
    (dv [(Reg.MOD_HBn_STAT_FLTLAT 3, 1)] (channel 1 [500])).hbHeld 3 = true ∧ (channel 3 []).get (Reg.MOD_HBn_STAT_OUT 3) = 3 ∧
    (channel 1 []).get (Reg.MOD_HBn_STAT_OUT 3) ≠ 3 ∧ (base.isOn (Reg.MOD_HBn_CFG_EN 3) && (base.ch 3).started) = false := by decide +kernel

theorem test_channel_results : (run (.hbDutyEdge 3 0) (channel 1 [500])).get (Reg.MOD_HBn_STAT_OUT 3) = 3 ∧
    ((run (.hbDutyEdge 3 0) (channel 1 [500])).ch 3).high = true ∧ (run (.hbDeadtimeEnd 3 0) (channel 3 [])).get (Reg.MOD_HBn_STAT_OUT 3) = 1 ∧
    (run (.hbDutyEdge 3 0) (dv [(Reg.MOD_HBn_STAT_FLTLAT 3, 1)] (channel 1 [500]))).get (Reg.MOD_HBn_STAT_OUT 3) = 1 ∧
    ((run (.hbPeriodBoundary 3 5) (channel 1 [500])).ch 3).start = 5 := by decide +kernel

theorem test_commit_states : inMask 8 3 = true ∧ inMask 8 2 = false ∧ (channel 1 []).isOn (Reg.MOD_HBn_CFG_UPD 3) = false ∧
    (dv [(Reg.MOD_HBn_CFG_UPD 3, 1)] (channel 1 [])).isOn (Reg.MOD_HBn_CFG_UPD 3) = true ∧ base.isOn (Reg.MOD_HBn_CFG_EN 3) = false ∧
    (let d := dv [(Reg.MOD_HBn_STAT_FLTLAT 3, 1)] (channel 1 []); d.isOn (Reg.MOD_HBn_STAT_FLTLAT 3) = true ∧ d.hbActive 3 = false) ∧
    (let d := dv [(Reg.MOD_HBn_STAT_FLTLAT 3, 1), (Reg.PRT_STAT_OUT, 1)] (channel 1 []); d.isOn (Reg.MOD_HBn_STAT_FLTLAT 3) = true ∧ d.hbActive 3 = true) ∧
    (((channel 1 []).ch 3).running && bit (((channel 1 []).ch 3).active.cmp.getD 0 0) 31 &&
      decide (bits (((channel 1 []).ch 3).active.cmp.getD 0 0) 19 0 < ((channel 1 []).ch 3).active.period)) = true ∧
    bit (((channel 1 []).ch 3).active.cmp.getD 1 0) 31 = false ∧ bit ((channel 1 []).reg (Reg.MOD_GCMPg_j 9)) 31 = false ∧
    bit ((base.setReg (Reg.MOD_GCMPg_j 9) 0x80000000#32).reg (Reg.MOD_GCMPg_j 9)) 31 = true ∧
    ({ inFrame with esp := { commits := [⟨2, 0, 0⟩] } } : Dev).esp.commits.any (fun c => c.group == 2 && c.dueAt inFrame.curN inFrame.tickStamp) = true ∧
    base.esp.commits.any (fun c => c.group == 2 && c.dueAt base.curN base.tickStamp) = false := by decide +kernel

theorem test_commit_results : ((run (.groupCommit 8) (channel 1 [])).ch 3).pend ≠ [] ∧ ((run (.groupCommit 4) (channel 1 [])).ch 3).pend = [] ∧
    ((run (.fltclrFclr 8) (dv [(Reg.MOD_HBn_STAT_FLTLAT 3, 1)] (channel 1 []))).ch 3).rearm = 1 ∧
    OutMsg.adcTrig 10 ∈ (run (.localCompareFire 3 0) (channel 1 [])).out ∧
    (run (.carrierPeriodBoundary 2) { inFrame with esp := { commits := [⟨2, 0, 0⟩] } }).esp.commits = [] := by decide +kernel

/-- A PV cell at position 5 of group 1, normal. -/
def pvRec : CellRec := ⟨5, 1, false, 1, true, false, true, 0x43000000#32, 0x43000000#32, 0⟩

/-- A map whose scheduled sweeps and rotations are on, with 4 points a sweep and batches of one. -/
def cellMap : List Byte := patch (patch (zeros 64) 16 (toLe 9 4)) 20 (toLe 60 4 ++ [4, 1, 1, 0])

/-- A context of law 0x07, CELLSWEEP. -/
def sweepCtx : CtxSt := { img := patch (zeros 384) 0 [7] }

/-- The cell of `pvRec` in a state, with a sweep. -/
def sweeping (state : Nat) (iv : IvSt) : Dev :=
  let d := inFrame (inSt stRUN)
  { d with cells := { map := cellMap, recs := [pvRec], cells := [(5, { state := state })], iv := iv }, ce := { ctxs := [(0, sweepCtx)] } }

theorem test_sweep_states : leAt base.cells.map 20 4 = 0 ∧ leAt (sweeping 2 {}).cells.map 20 4 ≠ 0 ∧ leAt (sweeping 2 {}).cells.map 16 4 ≠ 0 ∧
    (sweeping 2 {}).sweepImg.isSome = true ∧ (sweeping 2 {}).ivBatches = [[5]] ∧ (sweeping 2 {}).st = stRUN ∧ (sweeping 2 {}).cells.iv.running = false ∧
    ((sweeping 2 {}).cell 5).state = 2 ∧ (sweeping 4 { running := true, cells := [{ pos := 5, saved := 0 }] }).cells.iv.running = true ∧
    (0 : Nat) + 1 < byteAt cellMap 24 ∧ byteAt cellMap 24 ≤ 3 + 1 ∧ base.cells.iv.running = false ∧ ((sweeping 2 {}).cellRec 5).isSome = true ∧
    base.esp.profCmd = none ∧ leAt base.cells.map 16 4 = 0 := by decide +kernel

theorem test_sweep_results : ((run .ivSweepScheduled (sweeping 2 {})).cell 5).state = 4 ∧
    (run .ivSweepScheduled (sweeping 4 { running := true })).cells.skipped = 1 ∧
    (run .ivSweepPointEnd (sweeping 4 { running := true, cells := [{ pos := 5, saved := 0 }] })).cells.iv.point = 1 ∧
    (run .rotationDue (sweeping 2 {})).cells.rotDue = 63 := by decide +kernel

theorem test_profile_timeout : (run .profLoadTimeout { base with esp := { profCmd := some (.mailbox, pk 0x42, 0) } }).esp.profCmd = none := by decide +kernel

/-! ### Grid -/

/-- A grid profile with GDLY 2, its first trip condition with a clearing time of 1 ms, and ROCT 1 ms. -/
def gridProf : List Byte := patch (zeros 512) 4 [2]

/-- The chip issues records in RUN, with all timers at 1,000 frames. -/
def issuing (n : Nat) : Dev :=
  let d := inFrame (inSt n)
  { d with grid := { profile := gridProf, issuing := true, timers := List.replicate 8 1000, rocRun := 1000 } }

/-- A record of frame 4 and one long past. -/
def recOf (n : Nat) : List Word := BitVec.ofNat 32 (n * 2 ^ 17) :: List.replicate 10 0

theorem test_grid_states : (recOf 4).length = 11 ∧
    2 ^ 14 ≤ ((issuing stRUN).curN + 2 ^ 15 - (recFrame (recOf 4) + gfGDLY (issuing stRUN).grid.profile) % 2 ^ 15) % 2 ^ 15 ∧
    ((issuing stRUN).curN + 2 ^ 15 - (recFrame (recOf 1) + gfGDLY (issuing stRUN).grid.profile) % 2 ^ 15) % 2 ^ 15 < 2 ^ 14 ∧
    (issuing stRUN).clearFrames (gfROCT (issuing stRUN).grid.profile) ≤ (issuing stRUN).grid.rocRun ∧
    fIsZero (gfTrip (issuing stRUN).grid.profile 0).1 = true ∧
    (let p := patch gridProf 80 (zeros 0); fIsZero (gfTrip p 0).1 = true) ∧ gridActive (issuing stRUN).st = true ∧ gridActive base.st = false ∧
    (issuing stRUN).effective 0x28 = true ∧ base.grid.issuing = false ∧ base.grid.exitN = none ∧
    (let d := { inFrame with grid := { rts := 1, exitN := some 0 } }; d.grid.rts ≠ 0 ∧
      0 * d.frameTU + msTU (gfTEXIT d.grid.profile) ≤ d.curN * d.frameTU) ∧
    (let d := { inFrame with grid := { rts := 1, exitN := some 100 } }; d.curN * d.frameTU < 100 * d.frameTU + msTU (gfTEXIT d.grid.profile)) ∧
    base.lawImg 0x11 = none ∧ (({ base with ce := { ctxs := [(1, { img := patch (zeros 384) 0 [0x11] })] } } : Dev).lawImg 0x11).isSome = true := by
  decide +kernel

theorem test_grid_results : (run .rocofHoldExpiry (issuing stRUN)).st = stTRIPPED ∧
    (run .rocofHoldExpiry (issuing stCONFIG)).grid.lastCause = 11 := by decide +kernel

/-! ### Thicket and Krekai -/

/-- Ring 6 with 10 cells, in a state. -/
def ringOf (st8 : Nat) (x : RingSt) : Dev :=
  (dv [(Reg.THK_RINGr_CFG_EN 6, 1), (Reg.THK_RINGr_CFG_NCELL 6, 10), (Reg.THK_RINGr_STAT_ST 6, st8)] inFrame).setRing 6 x

/-- A control payload with its check code. -/
def crced (p : Nat) : Nat := p * 256 + crc8 (crcBytes (p * 256))

/-- A TELEM record of four words with its check code. -/
def telem : TelemRec := ⟨0x2D, 4 * 2 ^ 40 + crcWords [1, 2, 3, 4], [1, 2, 3, 4]⟩

theorem test_ring_states : (ringOf rsUP {}).ringEn 6 = true ∧ base.ringEn 6 = false ∧ ((ringOf rsUP {}).ring 6).disc ≠ 1 ∧
    ((ringOf rsDISCOVER { disc := 1 }).ring 6).disc = 1 ∧ 9 ≠ (ringOf rsDISCOVER {}).ncell 6 ∧ ((ringOf rsDISCOVER { disc := 2 }).ring 6).disc = 2 ∧
    (telem.payload / 2 ^ 48 % 4 = 0 ∧ telem.payload / 2 ^ 40 % 256 = 4 ∧ telem.payload % 2 ^ 16 = crcWords telem.words) ∧
    telem.payload + 1 - 2 ^ 40 * 4 ≠ crcWords telem.words ∧ crc8Ok (crced 5) = true ∧ crc8Ok (crced 5 + 1) = false ∧
    (inSt stRUN).stIn stillStates = false ∧ base.stIn stillStates = true ∧ base.effective 0x25 = true := by decide +kernel

theorem test_ring_results : (run (.discReturn 6 false (crced (9 * 2 ^ 41)) 100) (ringOf rsDISCOVER { disc := 1 })).ringSt 6 = rsFAILED ∧
    (run (.telemReceived 6 [telem]) (ringOf rsUP {})).cells.telNew ≠ [] ∧
    (run (.alarmReceived 6 (crced 5)) (ringOf rsUP {})).isOn (latF 0x25) = true ∧
    (run (.alarmReceived 6 (crced 5 + 1)) (ringOf rsUP {})).get (Reg.THK_RINGr_ERR_CRCERR 6) = 1 ∧
    (run (.thkRediscover 6) (ringOf rsUP {})).ringSt 6 = rsDISCOVER := by decide +kernel

/-- LOOP notices of the cells 7 (its east lane input lost) and 3 (its west lane input lost). -/
def notes (ready : Bool) : List LoopNote := [⟨7, 0, ready, 0⟩, ⟨3, 1, ready, 0⟩]

theorem test_fold_states : (let l := noteSet ((ringOf rsUP {}).ring 6).notes ⟨3, 1, true, 4⟩; segments 10 l = none) ∧
    (∃ e w, segments 10 (noteSet [⟨3, 1, true, 0⟩] ⟨7, 0, true, 4⟩) = some (e, w) ∧ e ≤ 64 ∧ w ≤ 64) ∧ (ringOf rsUP {}).ringSt 6 = rsUP ∧
    (ringOf rsMULTI {}).ringSt 6 = rsMULTI ∧ bothReady (notes true) = true ∧ bothReady (notes false) = false ∧ (ringOf rsUP {}).ringSt 6 ≠ rsMULTI ∧
    (ringOf rsUP {}).ringSt 6 ≠ rsFOLDED ∧ (∀ n ∈ notes true, n.frame + 1 < (ringOf rsMULTI {}).curN) := by
  refine ⟨?_, ⟨4, 3, ?_⟩, ?_⟩ <;> decide +kernel

theorem test_fold_results : (run (.thkHeal 6) (ringOf rsFOLDED { notes := notes true })).out ≠ [] ∧
    (run (.thkHeal 6) (ringOf rsFOLDED { notes := notes false })).isOn Reg.THK_FLAG_CMDREJ_F = true ∧
    ((run (.thkHeal 6) (ringOf rsMULTI {})).ring 6).unloop = 7 ∧ (run (.multiHealEnd 6) (ringOf rsMULTI { multiHeal := true, notes := notes true })).ringSt 6 = rsUP := by
  decide +kernel

/-- A station table of the chips 0 and 17. -/
def table : List Byte := patch (patch (zeros 82) 64 [0x30]) 81 [0x30]

/-- Chip 0, joined, member, with a loss of chip 17 detected at tick `n`. -/
def joined (losses : List (Nat × Nat)) : Dev := { member with frm := { tickNo := 5, ticked := true }, krk := { table := table, joined := true, losses := losses } }

theorem test_link_states : base.get (Reg.KRK_PORTp_STAT_LINK 0) ≠ 2 ∧ member.get (Reg.KRK_PORTp_STAT_LINK 1) = 2 ∧
    (dv [(Reg.KRK_PORTp_STAT_LINK 0, 0)] base).get (Reg.KRK_PORTp_STAT_LINK 0) = 0 ∧ member.get (Reg.KRK_PORTp_STAT_LINK 1) ≠ 0 ∧
    ((joined []).krk.joined = true ∧ stPresent (joined []).krk.table 17 = true ∧ 17 ≠ (joined []).ownIndex) ∧ base.krk.joined = false ∧
    (∃ x ∈ (joined [(2, 17)]).krk.losses, x.1 + 2 ≤ (joined [(2, 17)]).curN) ∧ (∀ x ∈ (joined [(3, 17)]).krk.losses, (joined [(3, 17)]).curN < x.1 + 2) ∧
    (joined []).mst = mMEMBER ∧ base.mst ≠ mMEMBER := by
  refine ⟨?_, ?_, ?_, ?_, ?_, ?_, ⟨(2, 17), ?_⟩, ?_⟩ <;> decide +kernel

theorem test_link_results : (run (.krkLinkDown 1) member).isOn Reg.KRK_FLAG_LINKDN_F = true ∧ (run (.heartbeat 1 17 4 6 1 true) (joined [])).reach 17 = true ∧
    (run .viewCommit (joined [(2, 17)])).get Reg.KRK_VIEW_VIEWNUM = ((joined []).get Reg.KRK_VIEW_VIEWNUM + 1) % 2 ^ 32 ∧
    (run .viewCommit (joined [(2, 17)])).krk.losses = [] := by decide +kernel

/-- In the station, with the grid profile. -/
def heard : Dev := { joined [] with grid := { profile := gridProf } }

theorem test_grid_record : base.krk.joined = false ∧ heard.linkUp 0 = false ∧ heard.krk.joined = true ∧ heard.linkUp 1 = true ∧
    (run (.gridRecord 1 true (recOf 4)) heard).grid.inbox = [(4, recOf 4)] ∧ (run (.gridRecord 1 true (recOf 1)) heard).grid.inbox = [] ∧
    (run (.gridRecord 0 true (recOf 4)) heard).grid.inbox = [] := by decide +kernel

/-! ### Station: orphans, slots, packets -/

/-- Slot 2 is written by chip 17 alone, slot 3 is summed. -/
def slotTable : List Byte := patch (patch (table ++ zeros 514) (576 + 4) (toLe (2 ^ 13 + 17) 2)) (576 + 6) (toLe (2 ^ 14) 2)

/-- Chip 0, joined with this slot table; a schedule in buffer 1 when asked. -/
def slotted (sched : Option Nat) (d : Dev := joined []) : Dev :=
  { d with krk := { d.krk with table := slotTable }, snp := { tick := some ⟨80, 4, false, false, 2, 0, 0, [], []⟩, schedBuf := sched, schedTag := 7 } }

theorem test_orphan_states : base.st ≠ stORPHAN ∧ (inSt stORPHAN).st = stORPHAN ∧ stKind (slotted none).krk.table 2 = 1 ∧ stOwner (slotted none).krk.table 2 = 17 ∧
    stKind (slotted none).krk.table 3 = 2 ∧ stKind (slotted none).krk.table 4 = 0 ∧ (slotted none).krk.joined = true ∧
    (0 + (slotted none).slotDelay 2 ≤ (slotted none).curN ∧ 17 ≠ (slotted none).ownIndex) ∧ (slotted none).curN < 4 + (slotted none).slotDelay 2 + 1 ∧
    (slotted none).curN < 5 + (slotted none).slotDelay 2 ∧ (slotted none).snp.schedBuf = none ∧ (slotted (some 1)).snp.schedBuf = some 1 ∧
    (slotted (some 1)).snp.last = none := by decide +kernel

theorem test_orphan_results : ((run .orphanRampEnd { inSt stORPHAN with cells := { recs := [pvRec], cells := [(5, { state := 2 })] } }).cell 5).state = 5 ∧
    (run (.slotUpdate 1 2 17 5 9 0 0 true) (slotted none)).krk.flight.length = 1 ∧ (run (.slotUpdate 1 2 16 5 9 0 0 true) (slotted none)).krk.flight = [] ∧
    (run .squallAtFire (slotted (some 1))).get Reg.SNP_STAT_LASTSRC = 5 ∧ (run .squallAtFire (slotted (some 1))).frozen 1 = true := by decide +kernel

/-- Chip 0, joined, port 1 open with `c` credits granted. -/
def ported (c : Nat) (d : Dev := joined []) : Dev := d.setUser 33 { fifo := List.replicate c true, cred := c }

theorem test_port_states : base.linkUp 1 = false ∧ (ported 1).linkUp 1 = true ∧ (ported 1).fetching = true ∧ (ported 1).krk.inbox = [] ∧ (ported 1).ownIndex = 0 ∧
    ((ported 0).user 33).cred < 1 + (([] : List Byte).length + 255) / 256 ∧ 1 + (([] : List Byte).length + 255) / 256 ≤ ((ported 1).user 33).cred ∧
    ((ported 1).user 33).cred < 1 + ((zeros 1).length + 255) / 256 ∧ 1 + ((zeros 256).length + 255) / 256 ≤ ((ported 2).user 33).cred := by decide +kernel

/-- A forwarded NOP begins at its target, a PREPARE of NOP passes its checks, and one of an unknown opcode is answered. -/
theorem test_forwarded_states : ∀ h t, (st (ported 1)).start.portData 33 1 = (some h, t) →
    (t.starts { src := .station 17 1, pkt := pk 0, kind := .executing, order := 0, route := some (17, 9), data := [], link := some h }).isSome = true ∧
    opRow 0xFF = none ∧ 17 ≠ (ported 1).ownIndex ∧
    (∀ row, opRow 0 = some row → (t.prepCheck (.station 17 1) (pk 0) row []).2.1.status = sOK ∧
      ((t.prepCheck (.station 17 1) (pk 0) row []).1.prepReserve (pk 0)).isSome = true) := by
  intro h t e
  obtain ⟨rfl, rfl⟩ : h = { user := 33, res := 1, sh := 0 } ∧ t = ((st (ported 1)).start.portData 33 1).2 := by
    rw [e]; exact ⟨(Option.some.inj (congrArg Prod.fst e)).symm.trans (by decide +kernel), rfl⟩
  refine ⟨?_, ?_, ?_, ?_⟩
  · decide +kernel
  · decide +kernel
  · decide +kernel
  · intro row h; cases h; decide +kernel

/-- A transaction of chip 0 to chip 17. -/
def txn (coherent : Bool) (phase : Nat) (answers : List TxnAns) : Txn :=
  { id := 9, src := .mailbox, pkt := pk 0, coherent := coherent, targets := [17], answers := answers, phase := phase, commitN := 5, deadline := 4 }

def coordinating (x : Txn) : Dev := let d := ported 1; { d with krk := { d.krk with txns := [x] } }

theorem test_reply_states : (coordinating (txn true 0 [])).krk.txns.find? (fun x => x.id == 9) = some (txn true 0 []) ∧
    (coordinating (txn true 0 [])).krk.txns.find? (fun x => x.id == 8) = none ∧ 17 ∈ (txn true 0 []).targets ∧ (txn true 0 []).phase = 0 ∧
    (txn true 0 []).answers.any (fun b => b.chip == 17) = false := by decide +kernel

theorem test_reply_results : ((run (.stationReply 1 0 9 true 17 0 0 [] []) (coordinating { txn true 0 [] with commitN := 8 })).krk.txns.map (·.answers)) = [[⟨17, 0, 0, []⟩]] ∧
    (run (.prepare 1 0 17 9 true (pk 0) 8 []) (ported 1)).krk.preps.length = 1 ∧
    (run (.stationPacket 1 0 17 9 true (pk 0) []) (ported 0)).get (Reg.KRK_PORTp_ERR_CREDERR 1) = 1 := by decide +kernel

/-- STN_JOIN waits for identities at a chip whose image speaks protocol 5. -/
def joining : Dev :=
  let d := dv [(Reg.IMG_KPROTO_RUNKP, 5), (Reg.KRK_PORTp_STAT_LINK 0, 2)] base
  { d with krk := { table := table, joinCmd := some (.mailbox, pk 0x62) } }

/-- What chip 17 says of itself. -/
def ident (kp : Nat) (rate : Nat := joining.get Reg.FRM_CFG_RATE) : Ident := ⟨17, (joining.reg Reg.KRK_TBLCRC).toNat, rate, 0, kp, 10, false, 0⟩

theorem test_join_states : joining.krk.joinCmd = some (.mailbox, pk 0x62) ∧ base.krk.joinCmd = none ∧
    (ident 3).kproto + 1 < joining.get Reg.IMG_KPROTO_RUNKP ∧ joining.get Reg.IMG_KPROTO_RUNKP + 1 < (ident 7).kproto ∧
    ((ident 6).kproto ≤ joining.get Reg.IMG_KPROTO_RUNKP + 1 ∧ joining.get Reg.IMG_KPROTO_RUNKP ≤ (ident 4).kproto + 1) ∧
    (∀ t, t = (st joining).start.setKrk { joining.krk with fibre := max joining.krk.fibre (ident 6).fibre } →
      t.joinCheck 0 (ident 6) = none ∧ t.joinCheck 0 (ident 6 (joining.get Reg.FRM_CFG_RATE + 1)) = some (2, 17)) := by
  refine ⟨?_, ?_, ?_, ?_, ?_, ?_⟩
  · decide +kernel
  · decide +kernel
  · decide +kernel
  · decide +kernel
  · decide +kernel
  · rintro t rfl; decide +kernel

theorem test_join_results : (run (.identityExchange 0 joining.ownIndex true (some (ident 3)) true) joining).isOn Reg.KRK_FLAG_JOINERR_F = true := by decide +kernel

/-- A prepared command of chip 17. -/
def prepared (n : Nat) : Dev := let d := ported 1; { d with krk := { d.krk with preps := [{ origin := 17, id := 9, src := .station 17 1, pkt := pk 0, commitN := n }] } }

theorem test_coherent_states : (prepared 8).krk.preps.find? (fun x => x.origin == 17 && x.id == 9) ≠ none ∧
    (prepared 8).krk.preps.find? (fun x => x.origin == 17 && x.id == 8) = none ∧ (∀ x ∈ (prepared 8).krk.preps, (prepared 8).curN < x.commitN) ∧
    (let x := txn true 0 [⟨17, 0, 0, []⟩]; let d := coordinating x; d.krk.txns = [x] ∧ x.commitN ≤ d.curN + 1 ∧ d.viewLost x = decide (d.viewLost x = true) ∧
      x.failing x.answers = []) ∧ (txn true 0 []).failing (txn true 0 []).answers ≠ [] ∧
    (let x := txn true 1 []; ¬ (x.coherent = true ∧ x.phase = 0)) ∧
    (let x := txn false 0 []; let d := coordinating x; x.deadline ≤ d.curN ∧ x.failing x.answers ≠ [] ∧ sget (fun _ => 0) d.krk.area (srcQueue x.src) = 0) ∧
    (∀ x ∈ base.krk.txns, ¬ (x.deadline ≤ base.curN ∧ (x.coherent = false ∨ x.phase = 1))) := by decide +kernel

/-- The view stands in the one, and has changed in the other. -/
theorem test_coherent_views : (let x := { txn true 0 [⟨17, 0, 0, []⟩] with view := (ported 1).get Reg.KRK_VIEW_VIEWNUM }; (coordinating x).viewLost x = false) ∧
    (let x := { txn true 0 [⟨17, 0, 0, []⟩] with view := (ported 1).get Reg.KRK_VIEW_VIEWNUM + 1 }; (coordinating x).viewLost x = true) := by decide +kernel

theorem test_timeout_wait : (let w : WaitCmd := { src := .mailbox, pkt := pk 0, kind := .routed 9, order := 1 }
    let d := coordinating (txn false 0 [])
    ({ d with host := { d.host with waits := [w] } } : Dev).host.waits.find? (fun w => w.kind == .routed 9) = some w) := by decide +kernel

theorem test_coherent_results : (run (.go 1 0 17 9 true) (prepared 8)).krk.preps = [] ∧ (run (.abort 1 0 17 9 true) (prepared 8)).krk.preps = [] ∧
    (run .prepareExpiry (prepared 4)).krk.preps = [] ∧
    (let x := { txn true 0 [⟨17, 0, 0, []⟩] with view := (ported 1).get Reg.KRK_VIEW_VIEWNUM }
     (run .coherentDecision (coordinating x)).krk.txns.map (·.phase) = [1]) := by decide +kernel

/-! ### Protection and safety -/

/-- Out of reset with the latch of R290 cleared: nothing is latched. -/
def clear (n : Nat := stRUN) : Dev := { dv [(latF 0x2C, 0), (Reg.PRT_FIRST_VALID, 0), (Reg.PRT_STAT_OUT, 0), (Reg.SAF_STAT_DEMAND, 0), (Reg.SAF_HEDGE_DEM, 0),
  (prtBit Reg.PRT_EN_LO 0x18, 1)] (pll pLOCK (inSt n)) with prt := { evaluated := true } }

/-- Both loops are monitored, with these levels accepted. -/
def looped (l0 l1 : Nat) : Dev := dv [(⟨0x4000, 0, 0⟩, 1), (⟨0x4000, 1, 1⟩, 1), (⟨0x4024, 0, 0⟩, l0), (⟨0x4024, 1, 1⟩, l1)] (clear)

theorem test_trip_states : clear.anyLatch = false ∧ clear.effective 0x18 = true ∧ clear.effective 0x1C = true ∧
    (dv [(Reg.MOD_HBn_CFG_FLTSEL 3, 4)] clear).get (Reg.MOD_HBn_CFG_FLTSEL 3) / 2 ^ 2 % 2 = 1 ∧
    (looped 0 0).loopOn 1 = true ∧ (dv [(⟨0x4000, 0, 0⟩, 0)] clear).loopOn 0 = false ∧ (dv [(Reg.PRT_STAT_BLANK, 1)] clear).isOn Reg.PRT_STAT_BLANK = true ∧
    (looped 0 0).isOn Reg.PRT_STAT_BLANK = false ∧ ((looped 0 1).loopOn 0 && (looped 0 1).loopOn 1 && (looped 0 1).tin 0 != (looped 0 1).tin 1) = true ∧
    ((looped 0 0).loopOn 0 && (looped 0 0).loopOn 1 && (looped 0 0).tin 0 != (looped 0 0).tin 1) = false ∧ base.isOn (latF 0x2C) = true ∧
    clear.isOn (latF 0x2C) = false ∧ clear.prt.blanking = none := by decide +kernel

/-- A latch that a clear names and whose source is gone, one whose source is active, and one that needs the command. -/
theorem test_clear_states : bit 0x01000001#32 24 = true ∧ (0x18 : Nat) ∈ sourceCodes ∧
    (let d := { dv [(latF 0x18, 1)] clear with prt := { fltPin := 1 } }; d.sourceActive 0x18 = true) ∧
    (dv [(latF 0x18, 1)] clear).sourceActive 0x18 = false := by decide +kernel

/-- A clear waits for the end of blanking, loop 0 returned low, loop 1 still high. -/
def blanking (pins : Nat) : Dev :=
  { dv [(Reg.PRT_STAT_BLANK, 1), (latF 0x1C, 1), (latF 0x1D, 1), (Reg.PRT_FIRST_VALID, 1), (Reg.HIF_STAT_STATE, stTRIPPED)] (looped 1 1) with
    prt := { evaluated := true, blanking := some (.mailbox, pk 0x70), pinIn := pins } }

theorem test_blank_states : ((blanking 2).loopOn 1 && (blanking 2).prt.pinIn / 2 ^ 1 % 2 == 1) = true ∧
    ((blanking 2).loopOn 0 && (blanking 2).prt.pinIn / 2 ^ 0 % 2 == 1) = false ∧ (blanking 2).isOn (latF 0x1D) = true ∧ (blanking 0).st = stTRIPPED := by
  decide +kernel

theorem test_trip_results : (run (.fltInput 0 true 3) clear).st = stTRIPPED ∧ (run (.fltInput 0 true 3) clear).get Reg.PRT_FIRST_CODE = 0x18 ∧
    (run (.fltInput 0 true 3) clear).pins.tripOut = [true, true] ∧ (run (.tripInEdge 1 true 0) (looped 0 0)).isOn (latF 0x1D) = true ∧
    (run (.prtLatClear false 0x01000000#32) (dv [(latF 0x18, 1)] clear)).isOn (latF 0x18) = false ∧
    (run .loopBlankEnd (blanking 0)).st = stBLOCKED ∧ (run .loopBlankEnd (blanking 2)).st = stTRIPPED ∧
    (run .loopDiscrepancy (looped 0 1)).isOn Reg.PRT_FLAG_LOOPDIS_F = true ∧ (run .watchdogExpiry clear).get Reg.PRT_FIRST_CODE = 0x2C := by
  decide +kernel

/-- A confirmed safety block: functions 0 and 3 enabled, function 3 opens contactor 1; discrepancy times of 500 ms. -/
def safBlock : List Byte := patch (patch (zeros 64) 0 [1, 0, 0, 1]) 8 (toLe 500 2 ++ toLe 500 2 ++ toLe 500 2 ++ toLe 500 2) |> (patch · 27 [2])

/-- The safety channels run by it, with input levels. -/
def safe (sin : Nat) (x : SafSt := {}) (d : Dev := clear) : Dev :=
  { (dv [(Reg.SAF_STAT_CFGVALID, 1)] d).setReg Reg.SAF_SIN (BitVec.ofNat 32 sin) with
    saf := { x with confirmed := safBlock, loaded := safBlock, hedge := safBlock } }

theorem test_safety_states : (safe 0xC3).safOn 3 = true ∧ (safe 0xC3).safOn 1 = false ∧ (safe 0xC3).saf.hedge ≠ [] ∧ (safe 0xC3).halfOf 3 = none ∧
    (run (.safetyInputChange 3 false false) (safe 0xC3)).pairReads safBlock 3 = 2 ∧ (run (.safetyInputChange 0 false false) (safe 0xC3)).pairReads safBlock 0 ≠ 0 ∧
    (safe 0x03).inDemand 3 = true ∧ (safe 0x03).get Reg.SAF_STAT_DEMAND / 2 ^ 3 % 2 = 0 ∧ scMask (safe 0).saf.confirmed 3 / 2 ^ 1 % 2 = 1 ∧
    ((safe 0x43 { half := [(3, 0, false)] }).halfOf 3).isSome = true ∧ (safe 0x43 { half := [(3, 0, false)] }).saf.discRaised.contains 3 = false ∧
    (safe 0x43 { half := [(3, 0, false)], discRaised := [3] }).saf.discRaised.contains 3 = true ∧ (dv [(Reg.SAF_STAT_CTF, 0)] (safe 0xC3)).ctfAgrees 1 = false ∧
    (safe 0xC3).ctfAgrees 1 = true ∧ (safe 0xC3 { ctfRaised := 2 }).saf.ctfRaised / 2 ^ 1 % 2 = 1 ∧
    (safe 0xC3).saf.ctfRaised / 2 ^ 1 % 2 = 0 ∧ (safe 0xC3 { bad := 16 }).saf.bad / 2 ^ 4 % 2 = 1 ∧ (safe 0xC3).saf.bad / 2 ^ 4 % 2 = 0 := by decide +kernel

theorem test_safety_results : (run (.safetyEvaluation 0 false) (safe 0x03)).get Reg.SAF_STAT_DEMAND / 8 % 2 = 1 ∧
    (run (.safetyEvaluation 0 false) (safe 0x03)).isOn (latF 0x2A) = true ∧
    (run (.discrepancyTimeout 3) (safe 0x43 { half := [(3, 0, false)] })).get Reg.SAF_FAULT_CODE = 1 ∧
    (run (.contactorFault 1) (dv [(Reg.SAF_STAT_CTF, 0)] (safe 0xC3))).get Reg.SAF_FAULT_CODE = 2 ∧ (run .sresetStuck (safe 0xC3)).isOn Reg.SAF_FLAG_SRSTUCK_F = true := by
  decide +kernel

/-! ### Vault -/

theorem test_vault_states : base.vlt.dark = false ∧ (dv [(Reg.VLT_CFG_HEN, 1)] base).isOn Reg.VLT_CFG_HEN = true ∧ (dv [(Reg.VLT_CFG_HEN, 0)] base).isOn Reg.VLT_CFG_HEN = false ∧
    ({ base with vlt := { boost := true } } : Dev).vlt.boost = true ∧ base.vlt.boost = false ∧ base.vlt.cut = false ∧
    (let d := { dv [(Reg.VLT_STAT_CHG, 1)] base with vlt := { cut := true } }; d.vlt.cut = true ∧ d.isOn Reg.VLT_STAT_CHG = true) ∧ base.vlt.oc = false ∧
    ({ base with vlt := { oc := true, cut := true } } : Dev).vlt.oc = true ∧
    (let d := { dv [(Reg.VLT_STAT_CSTART, 1)] held with vlt := { dark := true } }; d.inReset = true ∧ d.vlt.dark = true ∧ d.isOn Reg.VLT_STAT_CSTART = true) := by
  decide +kernel

theorem test_vault_results : (run (.harvesterVocSample 1000) { base with vlt := { boost := true } }).get Reg.VLT_TEG_VOC = 1000 ∧
    (run (.cellDischargeCut 0) base).isOn Reg.VLT_FLAG_CUT_F = true ∧ (run (.cellOvercurrent 0) base).isOn Reg.VLT_FLAG_OC_F = true ∧
    (run .vaultDark { held with vlt := {} }).vlt.dark = true ∧
    (run .coldStartOscillator { held with vlt := { dark := true } }).isOn Reg.VLT_STAT_CSTART = true := by decide +kernel

/-- A log entry waits for the energy gate, or its burst is being written. -/
def gated (started : Bool) (kind : Nat := 3) (n : Nat := 1) : Dev :=
  { clear with fram := { reqs := [{ bursts := List.replicate n (0x800, zeros 48), kind := kind, started := started }] } }

theorem test_gate_states : (gated false).fram.reqs.any (fun r => r.started) = false ∧ (gatePick (gated false).fram.reqs).isSome = true ∧
    gatePick base.fram.reqs = none ∧ ((gatePick (gated false).fram.reqs).any (fun r => (gated false).gatePasses 10000000 0 (r.tb false))) = true ∧
    ((gatePick (gated false).fram.reqs).any (fun r => !(gated false).gatePasses 0 0 (r.tb false) && r.cmds.isEmpty)) = true ∧
    base.fram.reqs.find? (fun r => r.started) = none ∧ ((gated true).fram.reqs.find? (fun r => r.started)).isSome = true ∧
    ((gated true 3 2).fram.reqs.find? (fun r => r.started)).any (fun r => decide (r.done + 1 < r.bursts.length)) = true ∧
    ((gated true).fram.reqs.find? (fun r => r.started)).any (fun r => decide (r.bursts.length ≤ r.done + 1) && r.cmds.isEmpty) = true ∧
    base.tj ≤ 130 * 16 ∧ 130 * 16 < (dv [(Reg.PWR_TJ_TJ, 2081)] clear).tj ∧ (dv [(Reg.PWR_TJ_TJ, 2080)] clear).tj ≤ 130 * 16 ∧
    (base.unsync || base.freerun) = true ∧
    ((dv [(Reg.CLK_STAT_UNSYNC, 0), (Reg.CLK_STAT_FREERUN, 0)] base).unsync || (dv [(Reg.CLK_STAT_UNSYNC, 0), (Reg.CLK_STAT_FREERUN, 0)] base).freerun) = false := by
  decide +kernel

theorem test_gate_results : (run (.framWriteRequest 10000000 0) (gated false)).fram.reqs.map (·.started) = [true] ∧
    (run (.framWriteRequest 0 0) (gated false)).isOn Reg.VLT_FLAG_GATEDEF_F = true ∧ (run (.framBurstDone 0) (gated true)).fram.reqs = [] ∧
    (run (.framBurstDone 0) (gated true 0)).pair Reg.VLT_FAIL_LO Reg.VLT_FAIL_HI = 0 ∧
    (run .overtempTrip (dv [(Reg.PWR_TJ_TJ, 2081)] clear)).st = stTRIPPED ∧ (run .overtempTrip (dv [(Reg.PWR_TJ_TJ, 2080)] clear)).st = stRUN ∧
    (run (.vaultTick 3600 0 0 0 0) base).get Reg.VLT_STAT_VBAT = 3600 := by decide +kernel

/-! ### Nimbus events -/

/-- Nimbus runs with one pulse output that has last pulsed at `last`. -/
def metering (due : List Nat) (back : Nat) (last : Option Nat) (x : MtrSt := {}) : Dev :=
  let d := dv [(Reg.MTR_PSTATk_BACKLOG 0, back), (Reg.MTR_CTL_EN, 1), (Reg.MTR_STAT_CFGVALID, 1), (Reg.ADC_CTL_EN, 1)] (pll pLOCK (inSt stREADY))
  { d with time := 1000, mtr := { x with running := true, cfg := patch (zeros 256) 0 [1], pulses := [⟨0, due, last⟩] } }

theorem test_meter_states : base.mtr.running = false ∧ (metering [] 0 none).mtr.running = true ∧ (metering [7] 0 none).mtr.pulses.length = 1 ∧
    (match (metering [7] 0 (some 1000)).mtr.pulses.getD 0 {} with | p => p.last) = some 1000 ∧
    decide (1000 + 2 * msTU (mcPW (zeros 256) 0) ≤ 999) = false ∧ (metering [] 65535 none).get (Reg.MTR_PSTATk_BACKLOG 0) = 65535 ∧
    (dv [(Reg.MTR_CTL_HEN, 1)] base).isOn Reg.MTR_CTL_HEN = true ∧ (dv [(Reg.MTR_CTL_HEN, 0)] base).isOn Reg.MTR_CTL_HEN = false ∧ base.mtr.winStart = none ∧
    (metering [] 0 none { winStart := some 5 }).mtr.winStart = some 5 ∧ base.mtr.win = none ∧ base.mtr.retry = false ∧
    (metering [] 0 none { retry := true }).mtr.retry = true ∧ base.mtr.num = 0 ∧ (metering [] 0 none { num := 3 }).mtr.num ≠ 0 := by decide +kernel

theorem test_meter_results : (run (.pulseEdge 0) (metering [7] 0 none)).pins.pulseOut = 1 ∧ (run (.pulseEdge 0) (metering [] 2 none)).get (Reg.MTR_PSTATk_BACKLOG 0) = 1 ∧
    (run .freqTimeout (metering [] 0 none)).isOn Reg.MTR_STAT_FREQINV = true ∧ (run .meterSaveDue (metering [] 0 none)).fram.reqs.length = 1 ∧
    (run .lkpRefresh (metering [] 0 none { num := 3 })).mtr.num = 0 := by decide +kernel

/-! ### Queues, mailbox, registers -/

/-- Queue 3 with 16 entries each way, and what it holds. -/
def queued (x : QueueSt) (d : Dev := base) : Dev := d.setQueue 3 { x with exists_ := true, sqLog := 4, cqLog := 4 }

theorem test_doorbell_states : (State.reset.dev).isOn Reg.HIF_STAT_CMDRDY = false ∧ base.isOn Reg.HIF_STAT_CMDRDY = true ∧ ((queued {}).queue 3).exists_ = true ∧
    ((queued {}).queue 3).closing = false ∧ 15 % 4096 < 2 ^ ((queued {}).queue 3).sqLog ∧ 2 ^ ((queued {}).queue 3).sqLog ≤ 16 % 4096 ∧
    (base.queue 3).exists_ = false ∧ (2 % 4096 + 2 ^ 4 - ((queued { unreleased := 2 }).queue 3).cqHead) % 2 ^ 4 ≤ ((queued { unreleased := 2 }).queue 3).unreleased ∧
    ((queued { unreleased := 2 }).queue 3).unreleased < (3 % 4096 + 2 ^ 4 - 0) % 2 ^ 4 ∧ base.isOn Reg.HIF_AQ_CFG_EN = false ∧
    (dv [(Reg.HIF_AQ_CFG_EN, 1)] base).isOn Reg.HIF_AQ_CFG_EN = true ∧ (base.queue 0).closing = false ∧
    ((st base).start.setReg Reg.HIF_AQ_CFG (0x40000000#32 &&& 0x603F0F0F#32)).isOn Reg.HIF_AQ_CFG_WIN = true := by decide +kernel

theorem test_doorbell_results : ((run (.sqtDoorbell 3 15) (queued {})).queue 3).sqTail = 15 ∧ ((run (.sqtDoorbell 3 16) (queued {})).queue 3).err = true ∧
    ((run (.cqhDoorbell 3 2) (queued { unreleased := 2 })).queue 3).unreleased = 0 ∧
    (run (.cqhDoorbell 3 3) (queued { unreleased := 2 })).isOn Reg.HIF_FLAG_DBERR_F = true ∧
    ((run (.sqtDoorbell 3 5) State.reset.dev).queue 3).kept = [(false, 5)] := by decide +kernel

/-- The admin queue set up with both logs 4 is good, with both 0 and no window it is not. -/
theorem test_admin_queue_states : (∀ t, t = (st base).start.setReg Reg.HIF_AQ_CFG (0x00000404#32 &&& 0x603F0F0F#32) →
      (t.isOn Reg.HIF_AQ_CFG_WIN || (sizeOk (t.get Reg.HIF_AQ_CFG_SQLOG) && sizeOk (t.get Reg.HIF_AQ_CFG_CQLOG) &&
        t.pair Reg.HIF_AQ_SQB_LO Reg.HIF_AQ_SQB_HI % 64 == 0 && t.pair Reg.HIF_AQ_CQB_LO Reg.HIF_AQ_CQB_HI % 64 == 0)) = true) ∧
    (∀ t, t = (st base).start.setReg Reg.HIF_AQ_CFG (0#32 &&& 0x603F0F0F#32) → (t.isOn Reg.HIF_AQ_CFG_WIN || sizeOk (t.get Reg.HIF_AQ_CFG_SQLOG)) = false) ∧
    (let d := (dv [(Reg.HIF_AQ_CFG_EN, 1)] base).setQueue 0 { exists_ := true }; (d.queue 0).exists_ = true ∧ d.busyQueue 0 = false) := by
  refine ⟨?_, ?_, ?_⟩
  · rintro t rfl; decide +kernel
  · rintro t rfl; decide +kernel
  · decide +kernel

theorem test_admin_queue_results : (run (.aqEnable 0x00000404#32) base).isOn Reg.HIF_AQ_CFG_EN = true ∧ (run (.aqEnable 0#32) base).isOn Reg.HIF_FLAG_AQERR_F = true := by
  decide +kernel

/-- The mailbox shows reply 5. -/
def replied (q : Option (List Byte)) : Dev := { dv [(Reg.HIF_MBX_STAT_VALID, 1), (Reg.HIF_MBX_STAT_SEQ, 5)] base with host := { mbx := { queued := q } } }

/-- A NOP copied at GO, with its granule granted. -/
def goes (p : Packet := pk 0) : Dev := let d := dv [(Reg.HIF_MBX_STAT_BUSY, 1)] base; { d with host := { d.host with mbxPkt := some p } }

theorem test_mailbox_states : (base.isOn Reg.HIF_MBX_STAT_BUSY || base.isOn Reg.HIF_MBX_STAT_VALID) = false ∧
    ((replied none).isOn Reg.HIF_MBX_STAT_BUSY || (replied none).isOn Reg.HIF_MBX_STAT_VALID) = true ∧
    ((replied none).isOn Reg.HIF_MBX_STAT_VALID && (replied none).get Reg.HIF_MBX_STAT_SEQ == 5 % 256) = true ∧
    ((replied none).isOn Reg.HIF_MBX_STAT_VALID && (replied none).get Reg.HIF_MBX_STAT_SEQ == 4 % 256) = false ∧ (replied none).host.mbx.queued = none ∧
    (replied (some (zeros 32))).host.mbx.queued = some (zeros 32) ∧
    (∀ t, t = (st goes).start.grantEntries → t.mbxMayFetch = true ∧ (t.queue 0).granted = some true ∧
      (({ t.setGrant 0 none with host := { (t.setGrant 0 none).host with mbxPkt := none } } : Dev).starts
        { src := .mailbox, pkt := pk 0, kind := .executing, order := 0, gran := true }).any (fun x =>
          (opRow 0).any (fun row => (row.body .mailbox (pk 0) x.2).2.isSome)) = true) := by
  refine ⟨?_, ?_, ?_, ?_, ?_, ?_, ?_⟩
  · decide +kernel
  · decide +kernel
  · decide +kernel
  · decide +kernel
  · decide +kernel
  · decide +kernel
  · rintro t rfl; decide +kernel

theorem test_mailbox_results : (run (.mbxAck 5) (replied (some (zeros 32)))).isOn Reg.HIF_MBX_STAT_VALID = true ∧ (run (.mbxAck 5) (replied none)).isOn Reg.HIF_MBX_STAT_VALID = false ∧
    (run (.mbxAck 4) (replied none)).isOn Reg.HIF_FLAG_MBXERR_F = true ∧ rep .entryFetch goes = (0, 0) ∧
    ((run .entryFetch goes).host.mbx.live.take 3) = [7, 0, 0] := by decide +kernel

/-- Queue 3 holds a NOP in host memory at 0x1000; the other has its memory answer with an error. -/
def fetching (bad : List (Nat × Nat)) : Dev :=
  { queued { sqBase := 0x1000, cqBase := 0x2000, sqTail := 1 } with hostMem := [(0x1002, 7), (0x1006, 48)], hostBad := bad }

theorem test_fetch_states : ∀ t, t = (st (fetching [])).start.grantEntries → t.mbxMayFetch = false ∧
    t.fetchOrder.find? (fun q => t.mayFetch q && (t.queue q).granted.isSome) = some 3 ∧ (t.queue 3).granted = some true ∧
    t.hostRead ((t.queue 3).sqAt 3 (t.queue 3).sqHead) 64 = pk 0 := by
  rintro t rfl; decide +kernel

theorem test_fetch_results : (run .entryFetch (fetching [])).hostRead 0x2000 4 = [7, 0, 0x10, 0x19] ∧ ((run .entryFetch (fetching [])).queue 3).cqTail = 1 ∧
    ((run .entryFetch (fetching [(0x1010, 4)])).queue 3).err = true ∧ (run .entryFetch (fetching [(0x1010, 4)])).isOn Reg.HIF_FLAG_DMAERR_F = true := by decide +kernel

/-- A command waits: held from a tick that has been, or deferred with a limit that has been. -/
def waiting (k : WaitKind) (op : Nat := 0) (n : Nat := stCONFIG) : Dev :=
  let d := inFrame (inSt n)
  { d with time := 800000, host := { d.host with waits := [{ src := .mailbox, pkt := pk op, kind := k, order := 1 }], nextOrder := 2 } }

theorem test_waiting_states : (waiting (.held 100)).nextDue.isSome = true ∧ (waiting (.held 100)).fwRuns = true ∧ base.nextDue = none ∧
    (waiting (.deferred 0)).nextDue.any (fun w => w.isDeferred) = true ∧ (waiting (.held 100)).nextDue.any (fun w => !w.isDeferred && !badTarget w.pkt) = true ∧
    (waiting (.held 100) 0x10 stRUN).nextDue.any (fun w => (opRow 0x50).any (fun row => !(waiting (.held 100) 0x50 stRUN).accepts w.pkt row)) = true ∧
    (waiting (.held 100)).nextDue.any (fun w => (opRow 0).any (fun row => (waiting (.held 100)).accepts w.pkt row &&
      (row.body w.src w.pkt (((st (waiting (.held 100))).start.turnOf w).setWait { w with kind := runKind w.pkt })).2.isSome)) = true ∧
    firstWait ((waiting (.deferred 100)).host.waits.filter (fun w => match w.kind with | .deferred lim => lim != 0 && decide (lim ≤ (waiting (.deferred 100)).time) | _ => false)) ≠ none := by
  decide +kernel

theorem test_waiting_results : rep .heldCommandDue (waiting (.held 100)) = (0, 0) ∧ (rep .deferralTimeout (waiting (.deferred 100))).1 = sSTATE_CONFLICT ∧
    (run .deferredCommandRun (waiting (.deferred 0))).host.waits = [] ∧ (run .deferralTimeout (waiting (.deferred 900000))).host.waits.length = 1 := by decide +kernel

theorem test_register_classes : ((0x1002 : Nat) % 4 ≠ 0) ∧ findReg 0x7F00 = none ∧ (findReg (Reg.ADC_GAINn 0)).isSome = true ∧ actsOnWrite (Reg.ADC_GAINn 0) = false ∧
    isVault (Reg.ADC_GAINn 0) = false ∧ (findReg Reg.ADC_FLAG).any (fun k => k.fields.any (fun f => f.acc == .w1c)) = true ∧ actsOnWrite Reg.ADC_FLAG = false ∧
    (findReg (Reg.ADC_PAIRp_CFG 0)).any (fun k => k.fields.any (fun f => f.acc == .rw && f.cfg)) = true ∧
    (findReg (Reg.ADC_PAIRp_CFG 0)).any (fun k => k.cfgDiffers ((inSt stRUN).reg (Reg.ADC_PAIRp_CFG 0)) 0xFFFFFFFF#32) = true ∧
    (findReg (Reg.ADC_PAIRp_CFG 0)).any (fun k => k.cfgDiffers (base.reg (Reg.ADC_PAIRp_CFG 0)) (base.reg (Reg.ADC_PAIRp_CFG 0))) = false := by decide +kernel

theorem test_register_results : (run (.registerWrite (Reg.ADC_GAINn 0) 4 5) base).reg (Reg.ADC_GAINn 0) = 5 ∧
    (run (.registerWrite (Reg.ADC_PAIRp_CFG 0) 4 0xFFFFFFFF) (inSt stRUN)).isOn Reg.HIF_FLAG_HIF_WERR_F = true ∧
    (run (.registerWrite 0x1002 4 5) base).out = [.abort] ∧ (run (.w1cWrite Reg.ADC_FLAG 0xFFFFFFFF) (dv [(Reg.ADC_FLAG_CALREJ_F, 1)] base)).isOn Reg.ADC_FLAG_CALREJ_F = false ∧
    (run (.rcRead (Reg.ADC_GAINn 0) 4) (base.setReg (Reg.ADC_GAINn 0) 9)).out = [.readData 9] := by decide +kernel

/-- The device on SPI. -/
def onSpi : Dev := dv [(Reg.HIF_STAT_SPIMODE, 1)] base

/-- A write frame of one word to the ring window at offset 8, with its check code, and a read frame of one word there. -/
def spiW (bad : Byte) : List Byte := let f : List Byte := [0x20, 0, 0, 8, 0xAA, 0xBB, 0xCC, 0xDD]; f ++ [BitVec.ofNat 8 (crc8 f) ^^^ bad]
def spiR : List Byte := [0xA0, 0, 0, 8, 0]

theorem test_spi_states : base.spiOn = false ∧ onSpi.spiOn = true ∧ byteAt (spiW 0) 0 < 128 ∧ 128 ≤ byteAt spiR 0 ∧ spiSpace (spiW 0) = 1 ∧ ((spiW 0).length - 5) / 4 = 1 ∧
    spiErr (spiW 0) 1 ((spiW 0).length != 5 + 4 * 1 || 1 == 0 || decide (256 < 1)) (crc8 ((spiW 0).take ((spiW 0).length - 1)) != byteAt (spiW 0) ((spiW 0).length - 1)) = 0 ∧
    spiErr (spiW 1) 1 ((spiW 1).length != 5 + 4 * 1 || 1 == 0 || decide (256 < 1)) (crc8 ((spiW 1).take ((spiW 1).length - 1)) != byteAt (spiW 1) ((spiW 1).length - 1)) = 1 ∧
    spiErr spiR (byteAt spiR 4 + 1) (decide (10 ≠ 6 + 4 * (byteAt spiR 4 + 1))) false = 0 ∧
    spiErr spiR (byteAt spiR 4 + 1) (decide (11 ≠ 6 + 4 * (byteAt spiR 4 + 1))) false = 4 := by decide +kernel

theorem test_spi_results : readBytes (run (.spiWriteFrame (spiW 0)) onSpi).host.ringWin 8 4 = [0xAA, 0xBB, 0xCC, 0xDD] ∧
    (run (.spiWriteFrame (spiW 1)) onSpi).host.ringWin = [] ∧ (run (.spiWriteFrame (spiW 1)) onSpi).isOn Reg.HIF_FLAG_SPIERR_F = true ∧
    (run (.spiReadFrame spiR 10) onSpi).host.spiPrev = 0 ∧ (run (.spiReadFrame spiR 11) onSpi).host.spiPrev = 4 := by decide +kernel

/-- The management port is up, domain 0. -/
def managed (recvs : List (Src × Packet)) : Dev :=
  let d := dv [(Reg.HIF_MGT_CFG_EN, 1), (Reg.HIF_MGT_CFG_LINK, 1)] base
  { d with host := { mgt := { recvs := recvs } } }

/-- A broadcast frame, of PTP Delay_Req or of another kind. -/
def frameOf (et : List Byte) (t : Byte) : List Byte := List.replicate 6 0xFF ++ zeros 6 ++ et ++ [t] ++ zeros 45

/-- MGT_RECV into host memory at 0x3000, 64 bytes. -/
def recvPkt : Packet := pkAt 0x07 [(16, [64]), (24, [0, 0x30])]

theorem test_port_frames : (managed []).mgtAccepts (frameOf [8, 6] 0) = true ∧ base.mgtAccepts (frameOf [8, 6] 0) = false ∧ (managed []).ptpAt (frameOf [8, 6] 0) = none ∧
    (managed []).ptpAt (frameOf [0x88, 0xF7] 1) = some 14 ∧
    (byteAt (frameOf [0x88, 0xF7] 1) 14 % 16 = 1 ∧ byteAt (frameOf [0x88, 0xF7] 1) 18 = (managed []).get Reg.HIF_MGT_CFG_DOMAIN) ∧
    ¬ (byteAt (frameOf [0x88, 0xF7] 0) 14 % 16 = 1) ∧ (managed []).host.mgt.recvs = [] ∧
    (let d := managed [(.mailbox, recvPkt)]; d.addrOk .mailbox (pN recvPkt 24 8) 60 = true ∧ d.memOk .mailbox (pN recvPkt 24 8) 60 = true ∧
      min (cdiv 60 256) 8 ≤ d.couldAlloc (srcUser .mailbox)) ∧ base.isOn Reg.HIF_MGT_CFG_EN = false ∧ (managed []).isOn Reg.HIF_MGT_CFG_EN = true ∧
    (managed []).isOn Reg.HIF_MGT_CFG_LINK = true ∧ (dv [(Reg.HIF_MGT_CFG_LINK, 0)] (managed [])).isOn Reg.HIF_MGT_CFG_LINK = false ∧ base.session = false ∧
    (dv [(Reg.IMG_STAT_SESSION, 1)] base).session = true ∧ base.img.fuseTo = none ∧ ({ base with img := { fuseTo := some 3 } } : Dev).img.fuseTo = some 3 := by
  decide +kernel

theorem test_port_results : (run (.mgtFrameRx (frameOf [8, 6] 0) 0) (managed [])).isOn Reg.HIF_FLAG_MGTDROP_F = true ∧
    (run (.mgtFrameRx (frameOf [0x88, 0xF7] 1) 0) (managed [])).out.length = 1 ∧
    rep (.mgtFrameRx (frameOf [8, 6] 9) 0) (managed [(.mailbox, recvPkt)]) = (0, 0) ∧
    (run (.mgtFrameRx (frameOf [8, 6] 9) 0) (managed [(.mailbox, recvPkt)])).hostRead 0x300E 1 = [9] ∧
    (run .imgSessionTimeout (dv [(Reg.IMG_STAT_SESSION, 1)] base)).session = false ∧ (run .epochFuseDone { base with img := { fuseTo := some 3 } }).img.fuses = 3 := by
  decide +kernel

/-! ### Packets -/

theorem test_packet_states : ((st base).start.take .mailbox).isSome = true ∧ (st (dv [(Reg.HIF_STAT_CMDRDY, 0)] base)).start.take .mailbox = none ∧
    opInstr 0x50 .mailbox (pk 0x50) = some (.gridProfileLoad .mailbox (pk 0x50)) ∧ (opRow 0x50).isSome = true ∧
    stationScope (pk 0x50) = false ∧ coherent (pk 0x50) = false ∧ badTarget (pkAt 4 [(16, [200])]) = true ∧ badTarget (pkAt 4 [(16, [2])]) = false ∧
    (beg 0 (pk 0)).isSome = true ∧ (opRow 0).any (fun row => !base.accepts (pk 0) row) = false ∧
    (opRow 0x50).any (fun row => (inSt stRUN).accepts (pk 0x50) row) = false := by decide +kernel

/-- The checks in order: an admin opcode off the admin queue, a reserved byte, a state conflict, a bad target. -/
theorem test_packet_results : rep (.nop .mailbox (pkAt 0 [(40, [1])])) base = (sBAD_PARAM, 40) ∧ rep (.nop .mailbox (pk 0)) base = (0, 0) ∧
    (rep (.gridProfileLoad .mailbox (pk 0x50)) (inSt stRUN)).1 = sSTATE_CONFLICT ∧ rep (.stateGoto .mailbox (pkAt 4 [(16, [200])])) base = (sBAD_PARAM, 16) ∧
    (run (.nop (.queue 3) (pk 0)) (queued { cqBase := 0x2000 })).hostRead 0x2002 1 = [0x10] := by decide +kernel

theorem test_held_states : pExecAt (pkAt 0x14 [(8, [9])]) ≠ 0 ∧ tickOp (pk 5) = true ∧ tickOp (pk 0x14) = false ∧ pDeferOk (pkAt 0x50 [(1, [2])]) = true ∧
    base.handoverUnready (pk 0xA3) = true ∧ base.handoverUnready (pk 4) = false := by decide +kernel

theorem test_held_results : (run (.ceSpSet .mailbox (pkAt 0x14 [(8, [9])])) inFrame).host.waits.map (·.kind) = [.held (inFrame.tickStamp + 1)] ∧
    (run (.gridProfileLoad .mailbox (pkAt 0x50 [(1, [2])])) (inSt stRUN)).host.waits.length = 1 ∧
    (rep (.gridProfileLoad .mailbox (pkAt 0x50 [(1, [2])])) (inSt stRUN)).1 = sDEFERRED ∧
    (run (.stateGoto .mailbox (pkAt 4 [(16, [2])])) inFrame).host.waits.map (·.kind) = [.atTick 5] ∧
    (rep (.imgHandover .mailbox (pk 0xA3)) inFrame).1 = sNOT_READY := by decide +kernel

/-! ### The opcodes -/

/-- A device with a block in host memory at 0x4000. -/
def holding (b : List Byte) (d : Dev := base) : Dev := { d with hostMem := writeBytes [] 0x4000 b }

/-- A packet whose buffer is at 0x4000, with these bytes from byte 16 on. -/
def bulk (op : Nat) (l : List Byte := []) : Packet := pkAt op [(16, l), (24, [0, 0x40])]

/-- A reply for the command of the mailbox, and for one of queue 3 with a flag. -/
def asked (src : Src) (flags : Byte := 0) : WaitCmd := { src := src, pkt := pkAt 0 [(1, [flags])], kind := .executing, order := 1 }

theorem test_reply_written : (asked .mailbox).route = none ∧ pNoReply (asked .mailbox 8).pkt = true ∧ pNoReply (asked .mailbox).pkt = false ∧
    base.isOn Reg.HIF_MBX_STAT_VALID = false ∧ (dv [(Reg.HIF_MBX_STAT_VALID, 1)] base).isOn Reg.HIF_MBX_STAT_VALID = true ∧
    (base.finish (asked .mailbox) { status := 3, detail := 4 }).get Reg.HIF_MBX_STAT_SEQ = 1 ∧
    (dv [(Reg.HIF_MBX_STAT_SEQ, 255)] base |>.finish (asked .mailbox) { status := 3 }).get Reg.HIF_MBX_STAT_SEQ = 1 ∧
    ((queued { cqBase := 0x2000, cqTail := 15, cqRes := 1 }).finish (asked (.queue 3)) { status := 0 } |>.queue 3).phase = (!(queued {} |>.queue 3).phase) ∧
    ((queued { cqBase := 0x2000, cqRes := 1 }).finish (asked (.queue 3) 8) { status := 0 } |>.queue 3).cqTail = 0 := by decide +kernel

/-- The packet passes the first checks and goes to the station; the condition holds as its targets are taken. -/
def routes (op : Nat) (q : Packet) (d : Dev) (f : Dev → Bool) : Bool :=
  match opRow op, (st d).start.take .mailbox with
  | some row, some (g, t) =>
    let u := (t.addWait { src := .mailbox, pkt := q, kind := .executing, order := 0, gran := g, route := none }).2
    stationScope q && (lowestOf (u.badStep2 .mailbox q row)).isNone && f u
  | _, _ => false

theorem test_route_states : addrAt (pkAt 0x14 [(1, [4])]) = none ∧ member.mst = mMEMBER ∧ base.mst ≠ mMEMBER ∧ addrAt (pk 0x34) = some 16 ∧
    routes 0x14 (pkAt 0x14 [(1, [4])]) base (fun u => u.mst != mMEMBER) = true ∧
    routes 0xA3 (pkAt 0xA3 [(1, [5])]) (joined []) (fun _ => pCoherent (pkAt 0xA3 [(1, [5])])) = true ∧
    routes 0x34 (pkAt 0x34 [(1, [4]), (16, [0, 0, 0x80])]) (joined []) (fun u => !awFormOk (pN (pkAt 0x34 [(16, [0, 0, 0x80])]) 16 4) && u.krk.joined) = true ∧
    badScope (pk 0x34) (5 * 2 ^ 24) = true ∧ (joined []).namedChips (2 * 2 ^ 14) = [] ∧ (joined []).namedChips (3 * 2 ^ 24 + 17 * 2 ^ 14) = [17] ∧
    badScope (pk 0x34) (3 * 2 ^ 24 + 17 * 2 ^ 14) = false ∧ awFormOk (3 * 2 ^ 24 + 17 * 2 ^ 14) = true ∧
    routes 0x34 (pkAt 0x34 [(1, [4]), (16, toLe (3 * 2 ^ 24 + 17 * 2 ^ 14) 4)]) { base with krk := { table := table } } (fun u =>
      u.mst != mMEMBER && (u.namedChips (3 * 2 ^ 24 + 17 * 2 ^ 14)).any (· != u.chipIndex)) = true := by decide +kernel

theorem test_route_data : (let q := pkAt 0x67 [(1, [5]), (8, [1])]; routes 0x67 q (ported 1) (fun u => (u.routeTargets q).isRight && coherent q && u.tooSoon q) = true) ∧
    (let q := pkAt 0x42 [(1, [4]), (24, [0, 0, 1])]; routes 0x42 q (dv [(Reg.HIF_CFG_MBXWIN, 1)] (ported 1)) (fun u =>
      (u.routeTargets q).isRight && !coherent q && (bulkIn q).any (fun x => x.2 ≤ 65536 && !u.addrOk .mailbox x.1 x.2)) = true) ∧
    (let q := pkAt 0x42 [(1, [4]), (24, [0, 0x40])]; routes 0x42 q { ported 1 with hostBad := [(0x407F, 1)] } (fun u =>
      (u.routeTargets q).isRight && (bulkIn q).any (fun x => u.addrOk .mailbox x.1 x.2 && !u.memOk .mailbox x.1 x.2)) = true) ∧
    (let q := pkAt 0x14 [(1, [4])]; routes 0x14 q (ported 1) (fun u => (u.forwardData .mailbox q).isRight && (u.routeTargets q).isRight &&
      decide (1 ≤ u.couldAlloc (srcUser .mailbox)))) = true := by decide +kernel

theorem test_route_results : rep (.ceSpSet .mailbox (pkAt 0x14 [(1, [4])])) base = (sABORTED, 0) ∧
    rep (.imgHandover .mailbox (pkAt 0xA3 [(1, [5])])) (joined []) = (sBAD_PARAM, 1) ∧
    (run (.cellRestore .mailbox (pkAt 0x34 [(1, [4]), (16, toLe (3 * 2 ^ 24 + 17 * 2 ^ 14) 4)])) (joined [])).krk.txns.map (·.targets) = [[17]] := by decide +kernel

/-- A queue on host memory, and one on the window, by QCREATE. -/
def qPkt (k size : Byte) (flags : Byte := 0) : Packet := pkAt 0x02 [(16, [k, size, size, flags]), (24, [0, 0x10]), (32, [0, 0x20])]

theorem test_queue_command_states : badQCreate (qPkt 3 4) = [] ∧ lowestOf (badQCreate (qPkt 64 4)) = some 16 ∧ lowestOf (badQCreate (qPkt 0 4)) = some 16 ∧
    badQCreate (qPkt 63 4) = [] ∧ at_ 2 (qPkt 3 4) base (fun e => !(e.queue 3).exists_) = true ∧ at_ 2 (qPkt 3 4) (queued {}) (fun e => (e.queue 3).exists_) = true ∧
    at_ 3 (pkAt 3 [(16, [64])]) base (fun _ => true) = true ∧ at_ 3 (pkAt 3 [(16, [3])]) base (fun e => !(e.queue 3).exists_) = true ∧
    at_ 3 (pkAt 3 [(16, [3])]) (queued { closing := true }) (fun e => (e.queue 3).closing) = true ∧
    at_ 3 (pkAt 3 [(16, [3])]) (queued {}) (fun e => (e.queue 3).exists_ && !(e.queue 3).closing && !e.busyQueue 3) = true ∧
    (let d := queued {}; let d := { d with host := { d.host with waits := [{ src := .queue 3, pkt := pk 0x42, kind := .executing, order := 9 }] } };
      at_ 3 (pkAt 3 [(16, [3])]) d (fun e => e.busyQueue 3) = true) := by decide +kernel

theorem test_queue_command_results : rep (.qCreate .mailbox (qPkt 3 4)) base = (0, 0) ∧ ((run (.qCreate .mailbox (qPkt 3 4)) base).queue 3).exists_ = true ∧
    rep (.qCreate .mailbox (qPkt 3 4)) (queued {}) = (sBUSY, 0) ∧ rep (.qDelete .mailbox (pkAt 3 [(16, [3])])) (queued {}) = (0, 0) ∧
    rep (.identify .mailbox (pk 1)) base = (0, 0) ∧ (beg 1 (pk 1)).isSome = true := by decide +kernel

theorem test_frame_command_states : at_ 6 (pkAt 6 [(16, [59])]) base (fun _ => true) = true ∧ at_ 6 (bulk 6 [60]) base (fun e => e.loads .mailbox 0x4000 60) = true ∧
    at_ 6 (bulk 6 (toLe 1514 2)) (managed []) (fun e => e.loads .mailbox 0x4000 1514 && e.mgtUp) = true ∧
    at_ 7 (bulk 7 (toLe 1515 2)) base (fun _ => true) = true ∧ at_ 7 (bulk 7 [64]) base (fun e => e.addrOk .mailbox 0x4000 64) = true ∧
    at_ 7 (bulk 7 [64]) (managed (List.replicate 8 (.mailbox, recvPkt))) (fun e => 8 ≤ e.host.mgt.recvs.length) = true := by decide +kernel

theorem test_frame_command_results : (run (.mgtSend .mailbox (bulk 6 [60])) (managed [])).out = [.mgtFrame (zeros 60)] ∧
    (run (.mgtSend .mailbox (bulk 6 [60])) base).get Reg.HIF_MGT_CNT_TXERR = 1 ∧ rep (.mgtSend .mailbox (bulk 6 [59])) base = (sBAD_PARAM, 16) ∧
    (run (.mgtRecv .mailbox (bulk 7 [64])) (managed [])).host.mgt.recvs.length = 1 := by decide +kernel

/-- A command of a packet that waits for the tick after tick 4, in a device. -/
def ticking (q : Packet) (d : Dev := clear stCONFIG) : Dev :=
  let d := inFrame d
  { d with time := 800000, host := { d.host with waits := [{ src := .mailbox, pkt := q, kind := .atTick 4, order := 1 }], nextOrder := 2 } }

/-- It comes due with a condition. -/
def due (op : Nat) (d : Dev) (f : Dev → Bool) : Bool := ((st d).start.dueAtTick op).any (fun x => f x.2)

theorem test_goto_states : ((st base).start.awaitsTick 4 .mailbox (pkAt 4 [(16, [2])])).isSome = true ∧ ((st base).start.awaitsTick 5 .mailbox (pk 5)).isSome = true ∧
    due 4 (ticking (pkAt 4 [(16, [2])])) (fun e => e.st == 2) = true ∧ due 5 (ticking (pk 5)) (fun _ => true) = true ∧
    due 4 (ticking (pkAt 4 [(16, [2])]) (clear stREADY)) (fun e => (e.gotoRefusal 2).isNone) = true ∧
    due 4 (ticking (pkAt 4 [(16, [3])])) (fun e => (e.gotoRefusal 3).isSome) = true ∧
    due 4 (ticking (pkAt 4 [(16, [10])]) (dv [(latF 0x18, 1)] (clear stTRIPPED))) (fun e => (e.gotoRefusal 10).isSome) = true := by decide +kernel

theorem test_goto_results : (run .heldCommandDue (ticking (pkAt 4 [(16, [2])]) (clear stREADY))).st = stCONFIG ∧
    rep .heldCommandDue (ticking (pkAt 4 [(16, [2])])) = (0, 0) ∧
    (rep .heldCommandDue (ticking (pkAt 4 [(16, [10])]) (dv [(latF 0x18, 1)] (clear stTRIPPED)))).1 = sTRIP_ACTIVE := by decide +kernel

/-! ### Snapshots, log, contexts, tables, captures -/

/-- An image of a tick. -/
def tickImg : TickImg := ⟨80, 4, false, false, 2, 0, 0, [], []⟩

/-- A snapshot frozen in buffer 1. -/
def frozen : Dev := { dv [(⟨Reg.SNP_STAT, 1, 1⟩, 1)] base with snp := { tick := some tickImg, bufs := [(1, some ⟨tickImg, 16, 0, 7, 0⟩)] } }

theorem test_snapshot_states : at_ 0x90 (pk 0x90) base (fun e => e.snp.tick.isNone && e.frozenHere.isNone) = true ∧
    at_ 0x90 (pk 0x90) { base with snp := { tick := some tickImg } } (fun e => e.freeBuf.isSome && e.snp.tick.isSome) = true ∧
    at_ 0x91 (pkAt 0x91 [(16, [4])]) base (fun _ => true) = true ∧ at_ 0x91 (pkAt 0x91 [(16, [3])]) base (fun e => (e.snapBuf 3).isNone) = true ∧
    at_ 0x91 (pkAt 0x91 [(16, [1]), (20, [255, 255])]) frozen (fun e => (e.snapBuf 1).any (fun n => (snapBytes 1 n).length ≤ 65535)) = true ∧
    at_ 0x91 (pkAt 0x91 [(16, [1, 0]), (32, [4])]) frozen (fun e => (e.snapBuf 1).any (fun n => 0 < (snapBytes 1 n).length) && e.stores .mailbox 0 4) = true ∧
    at_ 0x91 (pkAt 0x91 [(16, [1, 1]), (32, [4])]) frozen (fun e => e.frozen 1 && e.stores .mailbox 0 4) = true ∧
    at_ 0x92 (pkAt 0x92 [(20, toLe 1025 2)]) base (fun _ => true) = true ∧ at_ 0x92 (pkAt 0x92 [(20, [1]), (16, [9])]) base (fun e => (e.logFrom 9).isNone) = true ∧
    at_ 0x92 (bulk 0x92 [0, 0, 0, 0, 0, 4]) base (fun e => (e.logFrom 0).any (fun l => e.stores .mailbox 0x4000 (((l.take 1024).map LogRec.bytes).flatten).length)) = true := by
  decide +kernel

theorem test_snapshot_results : (run (.snpTrigger .mailbox (pk 0x90)) base).isOn Reg.SNP_FLAG_LOST_F = true ∧
    ((run (.snpTrigger .mailbox (pk 0x90)) { base with snp := { tick := some tickImg } }).snp.asked.map (·.buf)) = [some 0] ∧
    rep (.logRead .mailbox (pkAt 0x92 [(20, [0])])) base = (sBAD_PARAM, 20) ∧
    rep (.snpRead .mailbox (pkAt 0x91 [(16, [3])])) base = (sNOT_READY, 0) := by decide +kernel

/-- A descriptor of law 0x01, PI: one input, one output, enabled, with the set-point of the host. -/
def descr : List Byte := patch (zeros 384) 0 [1, 1, 0, 0, 1, 1, 0, 1]

/-- A device with it in context 5. -/
def loaded (x : CtxSt := { img := descr }) (d : Dev := base) : Dev :=
  { dv [(Reg.CE_CSTATc_LOADED 5, 1), (Reg.CE_CSTATc_EN 5, 1)] d with ce := { ctxs := [(5, x)] } }

/-- So little time in a frame that nothing more is admitted. -/
def crowded (d : Dev) : Dev := dv [(Reg.FRM_PHASE_CMP_END, 0)] d

theorem test_context_states : at_ 0x10 (bulk 0x10 [5]) (holding descr) (fun e => e.loads .mailbox 0x4000 384 && ((e.granules .mailbox 2).badImage 5 descr).isNone &&
      e.bulkRead .mailbox 0x4000 384 == descr) = true ∧
    at_ 0x10 (bulk 0x10 [5]) (holding [2, 16]) (fun e => ((e.granules .mailbox 2).badImage 5 (e.bulkRead .mailbox 0x4000 384)).isSome) = true ∧
    at_ 0x11 (pkAt 0x11 [(16, [5])]) (loaded) (fun _ => true) = true ∧ at_ 0x12 (pkAt 0x12 [(16, [5])]) (loaded) (fun _ => true) = true ∧
    at_ 0x13 (pkAt 0x13 [(16, [5]), (24, [0, 0x40])]) (loaded) (fun e => e.stores .mailbox 0x4000 (e.ctx 5).latest.length) = true ∧
    at_ 0x16 (pkAt 0x16 [(16, [5])]) (loaded) (fun e => imgLaw (e.ctx 5).latest != 7) = true := by decide +kernel

theorem test_context_results : (rep (.ceCtxLoad .mailbox (bulk 0x10 [5])) (holding descr)).1 = sOK ∧ (rep (.ceCtxLoad .mailbox (bulk 0x10 [5])) (crowded (holding descr))).1 = sBUSY ∧
    (rep (.ceCtxLoad .mailbox (bulk 0x10 [5])) (holding [2, 16])).1 = sBAD_PARAM ∧
    (run (.ceCtxEnable .mailbox (pkAt 0x11 [(16, [5])])) (loaded)).isOn (Reg.CE_CSTATc_EN 5) = false ∧
    (run (.ceCtxRemove .mailbox (pkAt 0x12 [(16, [5])])) (loaded)).ctx 5 = {} ∧
    (run (.ceStateReset .mailbox (pkAt 0x16 [(16, [5])])) (loaded { img := descr, i := 9 })).ctx 5 = { img := descr } := by decide +kernel

/-- CE_SP_SET of one context, value 1.0, arriving after an older write and before a newer one. -/
def spPkt (n c : Byte) (v : List Byte := [0, 0, 0x80, 0x3F]) : Packet := pkAt 0x14 [(16, [n]), (24, [c]), (32, v)]

theorem test_setpoint_states : at_ 0x14 (spPkt 0 5) (loaded) (fun _ => true) = true ∧ at_ 0x14 (pkAt 0x14 [(16, [9]), (24, List.replicate 8 5)]) (loaded) (fun _ => true) = true ∧
    at_ 0x14 (spPkt 1 5) (loaded { img := patch descr 7 [0] }) (fun e => imgSpSrc (e.ctx 5).latest != 1) = true ∧
    at_ 0x14 (spPkt 1 5 [0, 0, 0x80, 0x7F]) (loaded) (fun e => imgSpSrc (e.ctx 5).latest == 1 && !fFinite 0x7F800000) = true ∧
    at_ 0x14 (spPkt 1 5) (loaded) (fun e => imgSpSrc (e.ctx 5).latest == 1 && fFinite 0x3F800000 && (e.ctx 5).spNew.isNone) = true ∧
    at_ 0x14 (spPkt 1 5) (loaded { img := descr, spNew := some (0, 10, 0) }) (fun e => decide (e.stamp 0 < 10)) = true ∧
    at_ 0x15 (pkAt 0x15 [(16, [5, 64, 1])]) (loaded) (fun _ => true) = true ∧ at_ 0x15 (pkAt 0x15 [(16, [5, 63, 2])]) (loaded) (fun _ => true) = true ∧
    at_ 0x15 (pkAt 0x15 [(16, [5, 63, 1])]) (loaded) (fun e => (e.ctx 5).parNew.isEmpty && fFinite 0 && !(badPars (setPar (e.ctx 5).latest 63 0)).contains 63) = true := by
  decide +kernel

theorem test_setpoint_results : ((run (.ceSpSet .mailbox (spPkt 1 5)) (loaded)).ctx 5).spNew = some (0x3F800000, 0, 0) ∧
    ((run (.ceSpSet .mailbox (spPkt 1 5)) (loaded { img := descr, spNew := some (0, 10, 0) })).ctx 5).spNew = some (0, 10, 0) ∧
    rep (.ceSpSet .mailbox (spPkt 1 5 [0, 0, 0x80, 0x7F])) (loaded) = (sBAD_PARAM, 32) ∧
    rep (.ceParamSet .mailbox (pkAt 0x15 [(16, [5, 63, 2])])) (loaded) = (sBAD_PARAM, 18) := by decide +kernel

/-- An injection block of a sine at a context's output. -/
def sineBlock : List Byte := [1, 1, 0, 0]

theorem test_engine_states : at_ 0x17 (bulk 0x17) (holding descr) (fun e => e.loads .mailbox 0x4000 384 && (badImageOwn e.mmc e.chbStorage (!e.cells.recs.isEmpty) descr).isEmpty &&
      e.ctrlSum + e.ctxCost descr ≤ e.controlClk) = true ∧
    at_ 0x17 (bulk 0x17) (crowded (holding descr)) (fun e => e.controlClk < e.ctrlSum + e.ctxCost descr) = true ∧
    at_ 0x17 (bulk 0x17) (holding [2, 16]) (fun e => (lowestOf (badImageOwn e.mmc e.chbStorage (!e.cells.recs.isEmpty) (e.bulkRead .mailbox 0x4000 384))).isSome) = true ∧
    at_ 0x18 (bulk 0x18 [16]) base (fun _ => true) = true ∧ at_ 0x18 (bulk 0x18 [15]) base (fun e => e.ce.spare.isNone && e.loads .mailbox 0x4000 4096) = true ∧
    at_ 0x18 (bulk 0x18 [15]) { base with ce := { spare := some (1, []) } } (fun e => e.ce.spare.isSome) = true ∧
    at_ 0x19 (bulk 0x19 [16]) base (fun _ => true) = true ∧ at_ 0x19 (bulk 0x19 [15]) base (fun e => e.stores .mailbox 0x4000 4096) = true ∧
    at_ 0x1A (bulk 0x1A [2, 5]) (loaded (d := inSt stREADY)) (fun _ => true) = true ∧ at_ 0x1A (bulk 0x1A [1, 5]) (loaded (d := inSt stREADY)) (fun e => e.loads .mailbox 0x4000 160 &&
      (lowestOf (badInj (e.ctxTU (e.ctx 5).latest) 1 (e.bulkRead .mailbox 0x4000 160))).isSome) = true ∧
    at_ 0x1A (bulk 0x1A [1, 5]) (loaded (d := holding sineBlock (inSt stREADY))) (fun e =>
      (badInj (e.ctxTU (e.ctx 5).latest) (imgNout (e.ctx 5).latest) (e.bulkRead .mailbox 0x4000 160)).isEmpty && !(e.inj 0).active && !(e.inj 1).active) = true ∧
    at_ 0x1B (pkAt 0x1B [(16, [2])]) base (fun _ => true) = true ∧ at_ 0x1B (pkAt 0x1B [(16, [1])]) base (fun _ => true) = true := by decide +kernel

theorem test_engine_results : (run (.ceTblLoad .mailbox (bulk 0x18 [15])) base).ce.spare.any (fun x => x.1 == 15) = true ∧
    rep (.ceCostQuery .mailbox (bulk 0x17)) (holding descr) = (0, 0) ∧ ((run (.ceInjStart .mailbox (bulk 0x1A [1, 5])) (loaded (d := holding sineBlock (inSt stREADY)))).inj 1).active = true ∧
    (let d := loaded (d := holding sineBlock (inSt stREADY)); let d := { d with ce := { d.ce with inj := [(0, { ctx := 5, active := true })] } };
      rep (.ceInjStart .mailbox (bulk 0x1A [1, 5])) d = (sBUSY, 0) ∧ (rep (.ceInjStart .mailbox (bulk 0x1A [1, 5])) (crowded d)).1 = sBUSY) ∧
    ((run (.ceInjStop .mailbox (pkAt 0x1B [(16, [1])])) base).inj 1).active = false := by decide +kernel

/-- CE_CAP_ARM of `n` channels, each an input, with triggers and counts. -/
def capPkt (n trig gen : Byte) (recs : List Byte) (pre : List Byte := []) : Packet :=
  pkAt 0x1C [(16, [n, 5, trig, gen]), (20, recs), (24, pre), (32, (List.replicate 8 ([0, 0, 0, 0x60] : List Byte)).flatten.take (4 * n.toNat))]

theorem test_capture_states : at_ 0x1C (pkAt 0x1C [(16, [9, 5]), (32, [0, 0, 0, 0x60])]) (loaded (d := inSt stREADY)) (fun _ => true) = true ∧ at_ 0x1C (capPkt 8 3 0 [1]) (loaded (d := inSt stREADY)) (fun _ => true) = true ∧
    at_ 0x1C (capPkt 8 2 2 [1]) (loaded (d := inSt stREADY)) (fun _ => true) = true ∧ at_ 0x1C (capPkt 8 2 1 (toLe 8193 4)) (loaded (d := inSt stREADY)) (fun _ => true) = true ∧
    at_ 0x1C (capPkt 8 2 1 (toLe 8192 4) (toLe 8192 4)) (loaded (d := inSt stREADY)) (fun e => chanOk 0x60000000 && !e.ce.cap.armed) = true ∧
    at_ 0x1C (capPkt 1 0 0 [1]) (loaded (d := inSt stREADY) |> fun d => { d with ce := { d.ce with cap := { armed := true } } }) (fun e => e.ce.cap.armed) = true ∧
    at_ 0x1D (pk 0x1D) base (fun e => !e.isOn Reg.CE_CAP_STAT_DONE) = true ∧
    (let d := { dv [(Reg.CE_CAP_STAT_DONE, 1)] base with ce := { cap := { chans := [0x60000000], mem := [[1], [2]] } } };
      at_ 0x1D (pkAt 0x1D [(16, [3])]) d (fun e => decide (e.ce.cap.mem.length < 3)) = true ∧ at_ 0x1D (pkAt 0x1D [(16, [2]), (20, [1])]) d (fun _ => true) = true ∧
      at_ 0x1D (pkAt 0x1D [(16, [1]), (20, [1]), (24, [0, 0x40])]) d (fun e => e.stores .mailbox 0x4000 (e.capHeader.length + 4)) = true) ∧
    at_ 0x1E (pk 0x1E) base (fun e => !e.ce.cap.armed) = true ∧ at_ 0x1E (pk 0x1E) { base with ce := { cap := { armed := true } } } (fun e => e.ce.cap.armed) = true := by
  decide +kernel

theorem test_capture_results : rep (.ceCapArm .mailbox (capPkt 8 2 1 (toLe 8192 4))) (loaded (d := inSt stREADY)) = (0, 0) ∧ rep (.ceCapArm .mailbox (capPkt 8 3 0 [1])) (loaded (d := inSt stREADY)) = (sBAD_PARAM, 18) ∧
    (rep (.ceCapArm .mailbox (capPkt 8 2 1 (toLe 8192 4))) (crowded (loaded (d := inSt stREADY)))).1 = sBUSY ∧
    (run (.ceCapAbort .mailbox (pk 0x1E)) { base with ce := { cap := { armed := true } } }).isOn Reg.CE_FLAG_CAPABT_F = true := by decide +kernel

/-! ### Cells, modulator, grid, station -/

/-- A block of `n` bytes, zero but for the bytes placed. -/
def sparse (n : Nat) (l : List (Nat × List Byte)) : List Byte := l.foldl (fun b x => patch b x.1 x.2) (zeros n)

theorem byteAt_zeros (n i : Nat) : byteAt (zeros n) i = 0 := by
  unfold byteAt zeros
  by_cases h : i < n <;> simp [List.getD, h]

/-- A cell map of no records, with the byte 24 given: 8 is its least value. -/
def mapByte (v : Byte) (i : Nat) : Byte := if i = 24 then v else if i = 25 then 2 else if i = 26 then 1 else if 64 ≤ i ∧ i % 16 = 0 then 0xFF else 0
def mapBlock (v : Byte) : List Byte := (List.range 16448).map (mapByte v)

theorem byteAt_mapBlock (v : Byte) (i : Nat) : byteAt (mapBlock v) i = if i < 16448 then (mapByte v i).toNat else 0 := by
  unfold byteAt mapBlock
  by_cases h : i < 16448 <;> simp [List.getD, h]

theorem mapRecs_mapBlock : mapRecs (mapBlock 8) = [] ∧ mapRecs (mapBlock 7) = [] := by
  simp only [mapRecs, mapRec, byteAt_mapBlock, wordAt, leAt]; decide +kernel

theorem test_map_ok : badMap (mapBlock 8) (fun _ => false) = none ∧ badMap (mapBlock 7) (fun _ => false) = some 24 := by
  simp only [badMap, mapRecs_mapBlock, badHeader, badRecord, badGroup, mapRec, byteAt_mapBlock, wordAt, leAt]; decide +kernel

/-- The maps, read from host memory. -/
theorem test_map_memory (v : Byte) : readBytes (holding (mapBlock v)).hostMem 0x4000 16448 = mapBlock v := by
  have h := readBytes_writeBytes [] 0x4000 (mapBlock v)
  simpa [mapBlock, holding] using h

theorem test_map_states : at_ 0x30 (bulk 0x30) (holding (mapBlock 8)) (fun e => e.loads .mailbox 0x4000 16448) = true ∧
    at_ 0x30 (bulk 0x30) (holding (mapBlock 7)) (fun e => e.loads .mailbox 0x4000 16448) = true := by decide +kernel

/-- The mapped cell in a state, of a source kind. -/
def celled (state : Nat := 2) (kind : Nat := 1) (n : Nat := stRUN) : Dev :=
  let d := sweeping state {}
  { dv [(Reg.HIF_STAT_STATE, n)] d with cells := { d.cells with recs := [{ pvRec with source := kind }] } }

/-- A cell opcode naming that cell. -/
def cellPkt (op : Nat) (l : List (Nat × List Byte) := []) : Packet :=
  pkAt op ([(16, [0x50, 0, 0, 1])] ++ (if op = 0x32 ∨ op = 0x36 ∨ op = 0x46 then [(24, [0, 0x40])] else []) ++ l)

theorem test_cell_states : at_ 0x31 (bulk 0x31) base (fun e => e.cells.map.isEmpty && e.stores .mailbox 0x4000 16448) = true ∧
    at_ 0x31 (bulk 0x31) (celled) (fun e => !e.cells.map.isEmpty && e.stores .mailbox 0x4000 64) = true ∧
    at_ 0x33 (pkAt 0x33 [(16, [0x60, 0, 0, 1])]) (celled) (fun e => (e.badAddress (pk 0x33) 0x01000060 [1]).isSome) = true ∧
    at_ 0x32 (cellPkt 0x32) (celled) (fun e => (e.badAddress (cellPkt 0x32) 0x01000050 [1, 2, 3]).isNone && e.stores .mailbox 0x4000 (32 + 64)) = true ∧
    at_ 0x33 (cellPkt 0x33) (celled) (fun e => (e.badAddress (cellPkt 0x33) 0x01000050 [1]).isNone) = true ∧
    at_ 0x34 (cellPkt 0x34) (celled 5 1 stREADY) (fun e => e.scopePos 0x01000050 == [5] && (e.cell 5).state == 5) = true ∧
    at_ 0x35 (cellPkt 0x35) (celled) (fun e => !e.cells.iv.running && (e.cell 5).state == 2 && e.sweepImg.isSome) = true ∧
    at_ 0x35 (cellPkt 0x35) (celled 1) (fun e => !e.cells.iv.running && (e.cell 5).state != 2) = true ∧
    at_ 0x35 (cellPkt 0x35) (sweeping 2 { running := true }) (fun e => e.cells.iv.running) = true ∧
    at_ 0x36 (cellPkt 0x36) (celled) (fun e => (sget (fun _ => none) e.cells.ivRes 5).isNone) = true ∧
    (let d := celled; at_ 0x36 (cellPkt 0x36) { d with cells := { d.cells with ivRes := [(5, some { stamp := 9, best := 0, points := [(1, 2)] })] } } (fun e =>
      (sget (fun _ => none) e.cells.ivRes 5).isSome && e.stores .mailbox 0x4000 24) = true) := by decide +kernel

theorem test_cell_value_states : at_ 0x37 (cellPkt 0x37) (celled 2 2) (fun e => e.cells.recs.any (fun r => r.source != 1)) = true ∧
    at_ 0x37 (cellPkt 0x37 [(20, [1]), (32, [0, 0, 0x80, 0x7F])]) (celled) (fun _ => !fFinite 0x7F800000) = true ∧
    at_ 0x37 (cellPkt 0x37 [(20, [1]), (32, [0, 0, 0x80, 0x3F])]) (celled) (fun e => fFinite 0x3F800000 && e.cells.recs.all (fun r => r.source == 1)) = true ∧
    at_ 0x37 (cellPkt 0x37) (celled) (fun e => (e.cells.recs.map (·.pos)).length == 1) = true ∧
    at_ 0x38 (cellPkt 0x38) (celled) (fun e => e.cells.recs.any (fun r => r.source != 2)) = true ∧
    at_ 0x38 (cellPkt 0x38 [(32, [1, 0, 0x80, 0x3F])]) (celled 2 2) (fun _ => !(fLe fZero 0x3F800001 && fLe 0x3F800001 fOne)) = true ∧
    at_ 0x38 (cellPkt 0x38 [(32, [0, 0, 0x80, 0x3F])]) (celled 2 2) (fun _ => fLe fZero fOne && fLe fOne fOne) = true ∧
    at_ 0x39 (pkAt 0x39 [(16, [6])]) (celled) (fun _ => true) = true ∧ at_ 0x39 (pkAt 0x39 [(16, [5])]) (celled) (fun _ => true) = true ∧
    at_ 0x39 (pkAt 0x39 [(16, [255])]) (celled) (fun _ => true) = true := by decide +kernel

theorem test_cell_results : (run (.cellBypass .mailbox (cellPkt 0x33)) (celled)).cells.hostByp = [5] ∧ ((run (.cellRestore .mailbox (cellPkt 0x34)) (celled 5 1 stREADY)).cell 5).state = 1 ∧
    (run (.cellIvSweep .mailbox (cellPkt 0x35)) (celled)).cells.iv.running = true ∧ rep (.cellIvRead .mailbox (cellPkt 0x36)) (celled) = (sNOT_READY, 0) ∧
    ((run (.cellSocSet .mailbox (cellPkt 0x38 [(32, [0, 0, 0x80, 0x3F])])) (celled 2 2)).cell 5).soc = 0x3F800000 ∧
    rep (.cellVrefSet .mailbox (cellPkt 0x37)) (celled 2 2) = (sBAD_PARAM, 16) ∧ (run (.cellRotate .mailbox (pkAt 0x39 [(16, [5])])) (celled)).cells.rotDue = 32 := by decide +kernel

/-- A modulator table whose first entry is 1, for the cell at position 0 of a group of three slots. -/
def modded (slots : Nat) : Dev :=
  let d := celled
  { dv [(Reg.MOD_GRPg_CAR_NSLOT 0, slots)] d with cells := { d.cells with recs := [{ pvRec with group := 0 }] }, esp := { shadow := [(5, 1)] } }

theorem test_modulator_states : at_ 0x40 (bulk 0x40) base (fun e => e.loads .mailbox 0x4000 2048) = true ∧
    at_ 0x41 (pk 0x41) (modded 1) (fun e => e.cells.recs.any (fun r => decide (e.nslot r.group ≤ sget (fun _ => 0) e.esp.shadow r.pos))) = true ∧
    at_ 0x41 (pk 0x41) (modded 2) (fun e => e.cells.recs.all (fun r => decide (sget (fun _ => 0) e.esp.shadow r.pos < e.nslot r.group))) = true ∧
    at_ 0x42 (bulk 0x42) (holding [0, 0, 0, 0, 1]) (fun e => badProf (e.bulkRead .mailbox 0x4000 128) == some 4) = true ∧
    at_ 0x42 (bulk 0x42) base (fun e => (badProf (e.bulkRead .mailbox 0x4000 128)).isNone && e.esp.profCmd.isNone && e.cells.recs.isEmpty) = true ∧
    at_ 0x42 (bulk 0x42) { base with esp := { profCmd := some (.mailbox, pk 0x42, 1) } } (fun e => e.esp.profCmd.isSome) = true ∧
    at_ 0x43 (bulk 0x43) base (fun e => e.stores .mailbox 0x4000 128) = true ∧ at_ 0x44 (pkAt 0x44 [(16, [0xFF, 0x0F, 3])]) base (fun _ => true) = true ∧
    at_ 0x45 (cellPkt 0x45 [(20, [0])]) (celled 2 1 stREADY) (fun e => (e.badAddress (cellPkt 0x45) 0x01000050 [1]).isNone) = true ∧
    at_ 0x45 (pkAt 0x45 [(16, [0x60, 0, 0, 1, 1])]) (celled 2 1 stREADY) (fun e => (e.badAddress (pk 0x45) 0x01000060 [1]).isSome) = true ∧
    at_ 0x45 (pkAt 0x45 [(16, [0x50, 0, 0, 1, 8])]) (celled 2 1 stREADY) (fun _ => true) = true ∧
    at_ 0x46 (cellPkt 0x46) (celled) (fun e => (e.badAddress (cellPkt 0x46) 0x01000050 [1, 2, 3]).isNone && e.stores .mailbox 0x4000 8) = true ∧
    at_ 0x47 (bulk 0x47 [2]) base (fun e => e.stores .mailbox 0x4000 2048) = true ∧ at_ 0x47 (bulk 0x47 [3]) base (fun _ => true) = true := by decide +kernel

theorem test_modulator_results : rep (.modCellCommit .mailbox (pk 0x41)) (modded 1) = (sBAD_PARAM, 0) ∧ rep (.modCellCommit .mailbox (pk 0x41)) (modded 2) = (0, 0) ∧
    rep (.modSlotRead .mailbox (bulk 0x47 [3])) base = (sBAD_PARAM, 16) ∧ rep (.modFltClear .mailbox (pkAt 0x44 [(16, [0xFF, 0x0F, 3])])) base = (0, 0) ∧
    rep (.modEdgeTest .mailbox (cellPkt 0x45 [(20, [0])])) (celled 2 1 stREADY) = (sBAD_PARAM, 20) := by decide +kernel

/-- A grid profile of IMAX, KRT and their ranges, with empty curves. -/
def gridBlock : List Byte := sparse 320 [(2, [255, 255, 2, 0, 1, 1, 0, 0, 128, 63, 0, 0, 128, 63, 0, 0, 128, 63, 0, 0, 128, 63]),
  (39, [63, 0, 0, 128, 63, 0, 0, 160, 63, 0, 0, 128, 63]), (70, [128, 63]), (78, [128, 63, 0, 0, 128, 63]), (90, [1, 0, 1]), (168, [255, 255]), (232, [255, 255])]

theorem test_grid_command_states : at_ 0x50 (bulk 0x50) (holding gridBlock) (fun e => e.loads .mailbox 0x4000 320 && (badProfile (e.bulkRead .mailbox 0x4000 320)).isEmpty) = true ∧
    at_ 0x50 (bulk 0x50) base (fun e => (lowestOf (badProfile (e.bulkRead .mailbox 0x4000 320))).isSome) = true ∧
    at_ 0x51 (bulk 0x51) base (fun e => e.stores .mailbox 0x4000 320) = true ∧ at_ 0x52 (bulk 0x52) (inSt stRUN) (fun e => e.stores .mailbox 0x4000 96) = true ∧
    at_ 0x53 (pkAt 0x53 [(16, [1])]) (inSt stRUN) (fun _ => true) = true ∧ at_ 0x54 (pk 0x54) (inSt stRUN) (fun _ => true) = true ∧
    at_ 0x55 (pkAt 0x55 [(16, [16])]) (clear stREADY) (fun _ => true) = true ∧
    at_ 0x55 (pkAt 0x55 [(16, [15])]) (clear stREADY) (fun e => e.effective 0x28 && !e.anyLatch) = true ∧
    at_ 0x55 (pkAt 0x55 [(16, [14])]) (dv [(prtBit Reg.PRT_EN_LO 0x29, 0)] (clear stREADY)) (fun e => !e.effective 0x29) = true := by decide +kernel

theorem test_grid_command_results : (run (.gridIslArm .mailbox (pkAt 0x53 [(16, [1])])) (inSt stRUN)).grid.armed = true ∧
    (run (.gridTripTest .mailbox (pkAt 0x55 [(16, [15])])) (clear stREADY)).st = stTRIPPED ∧ (run (.gridTripTest .mailbox (pkAt 0x55 [(16, [15])])) (clear stREADY)).grid.lastCause = 15 := by
  decide +kernel

/-- A station table of chip 0, keystone with a vote, and chip 17; slot 0 is of kind 4. -/
def stnByte (i : Nat) : Byte := if i = 4 then 1 else if i = 5 then 2 else if i = 6 then 4 else if i = 64 then 0x31 else if i = 81 then 0x30 else if i = 577 then 0x80 else 0
def stnBlock : List Byte := (List.range 1088).map stnByte

theorem byteAt_stnBlock (i : Nat) : byteAt stnBlock i = if i < 1088 then (stnByte i).toNat else 0 := by
  unfold byteAt stnBlock
  by_cases h : i < 1088 <;> simp [List.getD, h]

theorem stChips_stnBlock : stChips stnBlock = [0, 17] := by
  show (List.range 512).filter (fun i => stPresent stnBlock i) = _
  simp only [stPresent, byteAt_stnBlock]; decide +kernel

theorem stChips_zeros (n : Nat) : stChips (zeros n) = [] := by
  show (List.range 512).filter (fun i => stPresent (zeros n) i) = _
  simp [stPresent, byteAt_zeros]

/-- A table that is accepted, and one of zeros that is not. -/
theorem test_tables : tableOwn stnBlock = [] ∧ lowestOf (tableOwn (zeros 1088)) = some 0 := by
  constructor
  · simp only [tableOwn, bayChips, stChips_stnBlock, stKeystone, stPresent, stHead, stVote, stKind, stOwner, stRate, stMode, stGrace, stMissf, stTout, leAt,
      byteAt_stnBlock]
    decide +kernel
  · simp only [tableOwn, bayChips, stChips_zeros, stKeystone, stPresent, stHead, stVote, stKind, stOwner, stRate, stMode, stGrace, stMissf, stTout, leAt,
      byteAt_zeros]
    decide +kernel

theorem test_table_states : at_ 0x60 (bulk 0x60) (dv [(Reg.FRM_CFG_RATE, 0)] (holding stnBlock)) (fun e => e.loads .mailbox 0x4000 1088 &&
      e.bulkRead .mailbox 0x4000 1088 == stnBlock && (e.tableOthers stnBlock).isEmpty) = true ∧
    at_ 0x60 (bulk 0x60) base (fun e => e.loads .mailbox 0x4000 1088 && e.bulkRead .mailbox 0x4000 1088 == zeros 1088) = true ∧
    at_ 0x61 (bulk 0x61) base (fun e => e.stores .mailbox 0x4000 1088) = true := by decide +kernel

/-- Ready, with a table, not joined. -/
def unjoined (t : List Byte) : Dev := let d := inSt stREADY; { d with krk := { table := t } }

/-- Ready and joined, with a table whose slot 0 is a station slot. -/
def inStation (t : List Byte := table) : Dev := let d := inSt stREADY [] (joined []); { d with krk := { d.krk with table := t } }

/-- A table of chip 0 only. -/
def alone : List Byte := patch (zeros 82) 64 [0x31]

theorem test_join_command_states : at_ 0x62 (pk 0x62) (unjoined []) (fun e => e.krk.table.isEmpty) = true ∧ at_ 0x62 (pk 0x62) (inStation) (fun e => e.krk.joined) = true ∧
    at_ 0x62 (pk 0x62) (inSt stREADY [] joining) (fun e => e.krk.joinCmd.isSome && !e.krk.joined) = true ∧
    at_ 0x62 (pk 0x62) (unjoined (patch table 64 [0])) (fun e => e.joinOwn.isSome && e.krk.joinCmd.isNone) = true ∧
    at_ 0x62 (pk 0x62) (unjoined alone) (fun e => e.joinOwn.isNone && (List.range 4).all (fun q => (portChip e.krk.table e.ownIndex q).isNone)) = true ∧
    at_ 0x62 (pk 0x62) (unjoined table) (fun e => e.joinOwn.isNone && (List.range 4).any (fun q => (portChip e.krk.table e.ownIndex q).isSome)) = true := by decide +kernel

theorem test_station_command_states : at_ 0x63 (pk 0x63) (inStation) (fun _ => true) = true ∧ at_ 0x64 (bulk 0x64) (inStation) (fun e => e.stores .mailbox 0x4000 128) = true ∧
    at_ 0x65 (pkAt 0x65 [(16, [9])]) (inStation) (fun _ => true) = true ∧ at_ 0x65 (pkAt 0x65 [(16, [1]), (24, [1])]) (inStation) (fun e => stKind e.krk.table 1 != 4) = true ∧
    at_ 0x65 (pkAt 0x65 [(16, [1]), (24, [0])]) (inStation (table ++ zeros 495 ++ [0x80])) (fun e => stKind e.krk.table 0 == 4 && e.krk.joined) = true ∧
    at_ 0x66 (pkAt 0x66 [(16, [64])]) base (fun _ => true) = true ∧ at_ 0x66 (pkAt 0x66 [(16, [63])]) base (fun _ => true) = true ∧
    at_ 0x67 (pkAt 0x67 [(16, [1])]) base (fun _ => true) = false := by decide +kernel

/-- STN_SQUALL_AT as its chip begins it: from a station's prepared packet. -/
def atChip (op : Nat) (p : Packet) (d : Dev) (f : Dev → Bool) : Bool := ((st d).start.begins op (.station 17 1) p).any (fun x => f x.2)

theorem test_squall_at_states : atChip 0x67 (pkAt 0x67 [(1, [5]), (16, [1])]) (inStation) (fun _ => true) = true ∧
    atChip 0x67 (pkAt 0x67 [(1, [5])]) (inStation) (fun e => e.snp.schedBuf.isNone && e.freeBuf == some 0) = true := by decide +kernel

theorem test_station_command_results : rep (.stnJoin .mailbox (pk 0x62)) (unjoined []) = (sNOT_READY, 0) ∧
    rep (.stnJoin .mailbox (pk 0x62)) (inSt stREADY [] joining) = (sBUSY, 0) ∧
    (run (.stnLeave .mailbox (pk 0x63)) (inStation)).mst = mNONE ∧ rep (.stnResarea .mailbox (pkAt 0x66 [(16, [64])])) base = (sBAD_PARAM, 16) := by decide +kernel

/-! ### Protection, safety, metering, images, power -/

theorem test_clear_command_states : ((st base).start.awaitsTick 0x70 .mailbox (pk 0x70)).isSome = true ∧
    (let d := ticking (pkAt 0x70 [(16, [1])]) (blanking 0); due 0x70 d (fun e => e.prt.blanking.isSome) = true) ∧
    (let d := ticking (pk 0x70) (clear stTRIPPED); due 0x70 d (fun e => e.prt.blanking.isNone && !e.anyLatch) = true) ∧
    at_ 0x71 (pk 0x71) (clear) (fun e => !e.anyLatch) = true ∧ at_ 0x72 (pk 0x72) (clear stBLOCKED) (fun e => !e.anyLatch) = true ∧
    at_ 0x72 (pkAt 0x72 [(16, [1])]) (clear stBLOCKED) (fun e => !e.anyLatch) = true := by decide +kernel

theorem test_clear_out_ok : due 0x70 (ticking (pk 0x70) (clear stTRIPPED)) (fun e => e.isOn Reg.PRT_STAT_OUT == e.anyLatch) = true ∧
    due 0x70 (ticking (pk 0x70) (dv [(latF 0x18, 1), (latF 0x2C, 1), (Reg.PRT_STAT_OUT, 1)] (clear stTRIPPED))) (fun e => e.isOn Reg.PRT_STAT_OUT == e.anyLatch) = true := by
  decide +kernel

theorem test_clear_command_results : (run .heldCommandDue (ticking (pk 0x70) (dv [(latF 0x18, 1)] (clear stTRIPPED)))).st = stBLOCKED ∧
    (rep .heldCommandDue (ticking (pk 0x70) (dv [(latF 0x18, 1), (latF 0x2C, 1)] (clear stTRIPPED)))).1 = 0 ∧
    (run (.prtTripForce .mailbox (pk 0x71)) (clear)).st = stTRIPPED ∧ (run (.prtTripForce .mailbox (pk 0x71)) (clear)).get Reg.PRT_FIRST_CODE = 0x2D ∧
    (run (.prtPathTest .mailbox (pk 0x72)) (clear stBLOCKED)).isOn (latF 0x2E) = true ∧
    (run .heldCommandDue (ticking (pkAt 0x70 [(16, [1])]) (looped 1 1))).prt.blanking.isSome = true := by decide +kernel

/-- A safety configuration block, with its check code. -/
def safetyBlock : List Byte := sparse 64 [(0, [1, 1, 0, 1]), (8, [244, 1, 244, 1, 244, 1, 244, 1, 244, 1, 244, 1, 244, 1, 244, 1, 3, 3, 0, 2]),
  (32, [1, 1, 1, 1, 1, 0, 255]), (60, [181, 171, 144, 103])]

/-- The safety configuration is valid and confirmed; CTO feedback as given. -/
def armedSafety (ctf : Nat) (x : SafSt := {}) : Dev := dv [(Reg.SAF_STAT_CFGVALID, 1), (Reg.SAF_STAT_CTF, ctf)] (safe 0xC3 x (clear stREADY))

theorem test_safety_command_states : at_ 0x73 (bulk 0x73) (holding safetyBlock) (fun e => e.loads .mailbox 0x4000 64 && (safBad (e.bulkRead .mailbox 0x4000 64)).isEmpty) = true ∧
    at_ 0x73 (bulk 0x73) base (fun e => (lowestOf (safBad (e.bulkRead .mailbox 0x4000 64))).isSome) = true ∧
    at_ 0x74 (pk 0x74) base (fun e => e.saf.loaded.isEmpty) = true ∧
    at_ 0x74 (pkAt 0x74 [(16, [181, 171, 144, 103])]) { base with saf := { loaded := safetyBlock } } (fun e => leAt e.saf.loaded 60 4 == 0x6790ABB5) = true ∧
    at_ 0x75 (bulk 0x75) base (fun e => e.saf.loaded.isEmpty && e.saf.confirmed.isEmpty) = true ∧
    at_ 0x75 (bulk 0x75) { base with saf := { loaded := safetyBlock } } (fun e => e.stores .mailbox 0x4000 64) = true ∧
    at_ 0x75 (bulk 0x75) { base with saf := { confirmed := safetyBlock } } (fun e => e.saf.loaded.isEmpty && e.stores .mailbox 0x4000 64) = true ∧
    at_ 0x76 (pkAt 0x76 [(16, [8, 8])]) (armedSafety 0) (fun e => e.ctoRefused 3 && !e.isOn ⟨0x4400, 23, 23⟩) = true ∧
    at_ 0x76 (pkAt 0x76 [(16, [15, 0])]) (armedSafety 0) (fun _ => true) = true ∧
    at_ 0x77 (pk 0x77) (armedSafety 0) (fun _ => true) = true ∧ at_ 0x77 (pkAt 0x77 [(16, [1])]) (armedSafety 0) (fun e => e.accessFails != 0) = true := by decide +kernel

theorem test_safety_command_results : (run (.safConfigConfirm .mailbox (pkAt 0x74 [(16, [181, 171, 144, 103])])) { base with saf := { loaded := safetyBlock } }).saf.confirmed = safetyBlock ∧
    (rep (.safConfigRead .mailbox (bulk 0x75)) base).1 = sNOT_READY ∧ rep (.safCtoSet .mailbox (pkAt 0x76 [(16, [8, 8])])) (armedSafety 0) = (sSAFETY_LOCK, 3) ∧
    rep (.safConfigLoad .mailbox (bulk 0x73)) base = (sBAD_PARAM, 0) := by decide +kernel

/-- A metering configuration: pairs 0 to 6, every range at its middle, with its check code. -/
def meterBlock : List Byte := sparse 128 [(3, [1, 2, 3, 4, 5, 6, 1, 1]),
  (14, [128, 63, 0, 0, 128, 63, 0, 0, 128, 63, 0, 0, 128, 63, 0, 0, 128, 63, 0, 0, 128, 63, 0, 0, 128, 63]), (78, [128, 62, 0, 1, 0, 0, 1]),
  (89, [1, 0, 0, 1]), (97, [1, 0, 0, 1]), (105, [1, 0, 0, 1]), (124, [71, 170, 124, 225])]

/-- A device whose metering holds records. -/
def recorded (x : MtrSt) : Dev := { base with mtr := x }

theorem test_meter_command_states : at_ 0x80 (bulk 0x80) (holding meterBlock) (fun e => e.loads .mailbox 0x4000 128 && (badMtr (e.bulkRead .mailbox 0x4000 128)).isEmpty) = true ∧
    at_ 0x80 (bulk 0x80) base (fun e => (lowestOf (badMtr (e.bulkRead .mailbox 0x4000 128))).isSome) = true ∧
    at_ 0x81 (bulk 0x81) base (fun e => e.stores .mailbox 0x4000 128) = true ∧ at_ 0x82 (bulk 0x82) base (fun e => e.stores .mailbox 0x4000 224) = true ∧
    at_ 0x83 (bulk 0x83 [96, 1]) base (fun _ => true) = true ∧ at_ 0x83 (bulk 0x83 [95, 97]) base (fun _ => true) = true ∧
    at_ 0x83 (bulk 0x83 [95, 96]) base (fun e => (e.mtr.intvs.drop 95).isEmpty) = true ∧ at_ 0x83 (bulk 0x83 [0, 96]) (recorded { intvs := [zeros 64] }) (fun e =>
      !e.mtr.intvs.isEmpty && e.stores .mailbox 0x4000 64) = true ∧
    at_ 0x84 (bulk 0x84 [128, 1]) base (fun _ => true) = true ∧ at_ 0x84 (bulk 0x84 [127, 129]) base (fun _ => true) = true ∧
    at_ 0x84 (bulk 0x84 [127, 128]) base (fun e => (e.mtr.evts.drop 127).isEmpty) = true ∧ at_ 0x84 (bulk 0x84 [0, 128]) (recorded { evts := [zeros 32] }) (fun e =>
      !e.mtr.evts.isEmpty && e.stores .mailbox 0x4000 32) = true ∧
    at_ 0x85 (bulk 0x85) (inSt stREADY) (fun e => e.mtr.harm.isEmpty) = true ∧ at_ 0x85 (bulk 0x85) { inSt stREADY with mtr := { harm := zeros 64 } } (fun e => e.stores .mailbox 0x4000 64) = true ∧
    at_ 0x86 (bulk 0x86) base (fun e => e.mtr.unsaved.isEmpty) = true ∧ at_ 0x86 (bulk 0x86) (recorded { unsaved := zeros 64 }) (fun e => e.stores .mailbox 0x4000 64) = true ∧
    at_ 0x87 (pk 0x87) (inSt stREADY) (fun _ => true) = true ∧ at_ 0x88 (bulk 0x88) base (fun e => e.loads .mailbox 0x4000 216) = true := by decide +kernel

theorem test_meter_command_results : rep (.mtrIntvRead .mailbox (bulk 0x83 [96, 1])) base = (sBAD_PARAM, 16) ∧ (rep (.mtrHarmRead .mailbox (bulk 0x85)) (inSt stREADY)).1 = sNOT_READY ∧
    rep (.mtrEvtRead .mailbox (bulk 0x84 [0, 128])) (recorded { evts := [zeros 32] }) = (0, 0) ∧ (run (.mtrSaveNow .mailbox (pk 0x87)) (inSt stREADY)).fram.reqs.length = 1 := by decide +kernel

/-- An image header of 256 bytes, at format 0. -/
def headBlock : List Byte := sparse 256 [(0, [81, 77, 70, 87, 1, 0, 36, 16]), (21, [1])]

/-- A session is open on it, for the RAM of the standby image. -/
def session (got : List Nat := []) : Dev :=
  { dv [(Reg.IMG_STAT_SESSION, 1), (Reg.IMG_STAT_TGT, 1), (Reg.IMG_RCVD_NEED, 1)] base with img := { head := headBlock, got := got, standby := [(0, 7)] } }

theorem test_image_command_states : at_ 0xA0 (bulk 0xA0 [6]) base (fun _ => true) = true ∧ at_ 0xA0 (bulk 0xA0 [5]) (session) (fun e => e.session) = true ∧
    at_ 0xA0 (bulk 0xA0 [5]) base (fun e => e.loads .mailbox 0x4000 256 && (lowestOf (badImgHeader (e.bulkRead .mailbox 0x4000 256))).isSome) = true ∧
    at_ 0xA0 (bulk 0xA0 [1]) (holding headBlock) (fun e => (badImgHeader (e.bulkRead .mailbox 0x4000 256)).isEmpty && (e.versionRefused headBlock).isNone) = true ∧
    at_ 0xA0 (bulk 0xA0 [1]) (holding headBlock { base with img := { fuses := 1 } }) (fun e => e.versionRefused headBlock == some 1) = true ∧
    at_ 0xA1 (bulk 0xA1) base (fun e => !e.session) = true ∧ at_ 0xA1 (bulk 0xA1 [0, 1]) (session) (fun e => e.session && ihLen e.img.head == 256) = true ∧
    at_ 0xA1 (bulk 0xA1 [0, 0, 0, 0, 0, 2]) (session) (fun e => e.session) = true ∧
    at_ 0xA1 (bulk 0xA1 [0, 0, 0, 0, 0, 1]) (session) (fun e => e.loads .mailbox 0x4000 256 && !e.blockDiffers 0 (e.bulkRead .mailbox 0x4000 256)) = true ∧
    at_ 0xA1 (bulk 0xA1 [0, 0, 0, 0, 0, 1]) (dv [(Reg.IMG_STAT_TGT, 2)] (session [0])) (fun e => e.blockDiffers 0 (e.bulkRead .mailbox 0x4000 256)) = true ∧
    at_ 0xA2 (pk 0xA2) base (fun e => !e.session) = true ∧ at_ 0xA2 (pk 0xA2) (session) (fun e => e.get Reg.IMG_RCVD_NEED != e.img.got.length) = true ∧
    at_ 0xA2 (pk 0xA2) (session [0]) (fun e => e.get Reg.IMG_RCVD_NEED == e.img.got.length) = true ∧ at_ 0xA4 (pk 0xA4) (session) (fun e => e.session) = true ∧
    at_ 0xA5 (pk 0xA5) base (fun _ => true) = true := by decide +kernel

theorem test_handover_states : ((st (dv [(Reg.IMG_STAT_SESSION, 1), (Reg.IMG_STAT_VERIFIED, 1), (Reg.IMG_STAT_TGT, 1)] base)).start.awaitsTick 0xA3 .mailbox (pk 0xA3)).isSome = true ∧
    due 0xA3 (ticking (pk 0xA3)) (fun e => !e.session) = true ∧
    due 0xA3 (ticking (pk 0xA3) (dv [(Reg.IMG_STAT_SESSION, 1), (Reg.IMG_STAT_VERIFIED, 1), (Reg.IMG_STAT_TGT, 1)] base)) (fun e => e.session && !e.recovery) = true := by decide +kernel

theorem test_image_results : rep (.imgBegin .mailbox (bulk 0xA0 [6])) base = (sBAD_PARAM, 16) ∧ (rep (.imgVerify .mailbox (pk 0xA2)) (session)) = (sNOT_READY, 1) ∧
    (run (.imgBlock .mailbox (bulk 0xA1 [0, 0, 0, 0, 0, 1])) (session)).img.got = [0] ∧ (run (.imgAbort .mailbox (pk 0xA4)) (session)).session = false ∧
    (rep .heldCommandDue (ticking (pk 0xA3))).1 = sNOT_READY := by decide +kernel

theorem test_power_states : at_ 0xB0 (bulk 0xB0) base (fun e => e.stores .mailbox 0x4000 64 && decide (e.pwr.costs.length ≤ 6)) = true ∧
    at_ 0xB1 (bulk 0xB1) base (fun e => e.stores .mailbox 0x4000 64) = true ∧ at_ 0xB2 (bulk 0xB2 [2]) base (fun _ => true) = true ∧
    at_ 0xB2 (bulk 0xB2 [0xFC, 0x1F, 8]) base (fun _ => true) = true ∧ at_ 0xB2 (bulk 0xB2 [0xFC, 0x1F, 4]) base (fun e => e.stores .mailbox 0x4000 4) = true ∧
    (let w : PwrSt := { costs := List.replicate 6 0, reqs := List.replicate 5 0 }; w.costs.length = 6 ∧ w.reqs.length = 5) := by decide +kernel

theorem test_power_results : rep (.vltFramRead .mailbox (bulk 0xB2 [2])) base = (sBAD_PARAM, 16) ∧ rep (.vltFramRead .mailbox (bulk 0xB2 [0xFC, 0x1F, 8])) base = (sBAD_PARAM, 18) ∧
    (run (.vltFramRead .mailbox (bulk 0xB2 [0xFC, 0x1F, 4])) { base with fram := { mem := [(0x1FFD, 9)] } }).hostRead 0x4000 2 = [0, 9] := by decide +kernel

/-! ### Further clauses of the statements -/

/-- An injected conversion that has not begun, and one whose hold instant has passed. -/
theorem test_injected_clauses : (let d := (pll pLOCK).setRun 2 (some { kind := 1, idx := 3, start := 30 });
      (d.convRun 2).any (fun r => !r.begun && r.kind == 1 && decide (d.clocks < r.start + 200)) = true ∧ (run (.conversionEnd 2 5 0) d).clocks = 230) ∧
    (let d := (pll pLOCK).setRun 2 (some { kind := 1, idx := 3, start := 0, begun := true, hold := some 77 });
      (run (.conversionEnd 2 5 0) d).pair (Reg.ADC_JSTAMPp_LO 1) (Reg.ADC_JSTAMPp_HI 1) = 77) ∧
    (base.convRun 5 = none ∧ (converting 0).convRun 2 ≠ none) := by decide +kernel

/-- A calibration step that waits for its first slot, and one that is under way to its end. -/
theorem test_calibration_clauses : (let d := { calibrating 1 with adc := { cal := some { step := 1, active := false } } };
      d.adc.cal = some { step := 1, active := false } ∧ (run (.calStepComplete [8] false false) d).adc.cal = some { step := 1, active := false }) ∧
    ((st (calibrating 1)).start.pass (0 + 25700 - (calibrating 1).clocks)).adc.cal.isSome = true ∧
    (run (.calStepComplete [8, 8] false false) (calibrating 1)).clocks = 25700 := by decide +kernel

/-- An index has come on the core clock of the edge, and an index has been seen in WAIT. -/
def indexed : Dev := run .indexPulse (dv [(Reg.ANG_STAT_POS, 100), (Reg.ANG_STAT_XST, xWAIT)] (angle 0 0))

theorem test_angle_clauses : indexed.ang.undo.any (fun u => u.clk == indexed.clocks) = true ∧ (angle 0 0).ang.undo = none ∧ indexed.ang.idxSeen = true ∧
    (quadIndex true false + 4 - quadIndex indexed.ang.a indexed.ang.b) % 4 = 1 ∧ (run (.quadratureEdge true false) indexed).get Reg.ANG_STAT_POS = 0 ∧
    (let d := { dv [(Reg.ANG_STAT_METH, 1)] (angle 0 0) with ang := { winRef := some 5, winN := 3, since := 2 } };
      d.isOn Reg.ANG_STAT_METH = true ∧ d.ang.winRev = false ∧ d.ang.winRef = some 5 ∧ d.ang.winN ≠ 0 ∧ 2 ≤ d.ang.since) := by decide +kernel

/-- A channel both off, whose low side went off at `t`. -/
def bothOff (t : Nat) (trip : Nat := 0) : Dev :=
  let d := dv [(Reg.MOD_CTL_XCMDTRIP, trip), (prtBit Reg.PRT_EN_LO 0x23, 1)] (channel 0 [500])
  { d with time := 1000, hb := d.hb.map (fun x => (x.1, { x.2 with lastOn := 1, offAt := t })) }

theorem test_interlock_clauses : (bothOff 999).hbHeld 3 = false ∧ (bothOff 999).get (Reg.MOD_HBn_STAT_OUT 3) = 0 ∧
    (bothOff 999).hbTooSoon 3 ((bothOff 999).stamp 0) 2 = true ∧ (bothOff 0).hbTooSoon 3 ((bothOff 0).stamp 0) 2 = false ∧
    (run (.hbDutyEdge 3 0) (bothOff 999)).isOn (Reg.MOD_HBn_STAT_XCMD 3) = true ∧ (run (.hbDutyEdge 3 0) (bothOff 999)).get (Reg.MOD_HBn_STAT_OUT 3) = 0 ∧
    (bothOff 999 1).effective 0x23 = true ∧ (run (.hbDutyEdge 3 0) (bothOff 999 1)).isOn (latF 0x23) = true := by decide +kernel

theorem test_islanding_clauses : ({ base with isl := { n := 5 } } : Dev).isl.n ≠ islWindow base.grid.profile ∧ ({ base with isl := { valid := false } } : Dev).isl.valid = false := by
  decide +kernel

/-- A record of a type, and a base record of five words. -/
def blockOf (t : Nat) : TelemRec := ⟨t, 0, []⟩
def longRec : TelemRec := ⟨0x2D, 5 * 2 ^ 40 + crcWords [1, 2, 3, 4, 5], [1, 2, 3, 4, 5]⟩

/-- Every reserved granule of the ring's west lane is in use. -/
def fullLane : Dev := (ringOf rsUP {}).setUser 13 { crit := 64 }

theorem test_telemetry_clauses : blockTypes.contains 0x1E = true ∧ blockTypes.contains 0x11 = false ∧
    (telemKind longRec = 0 ∧ longRec.payload / 2 ^ 40 % 256 ≠ 4) ∧ telemKind ⟨0x2D, 2 ^ 48 + 1, []⟩ ≠ 0 ∧
    ((ringOf rsUP {}).user 13).resFull < 64 ∧ 64 ≤ (fullLane.user 13).resFull ∧ fullLane.pool.frees = [] ∧
    (ringOf rsUP {}).telLane 6 0 = 1 ∧ (run (.telemReceived 6 [telem]) fullLane).isOn Reg.FRM_FLAG_OVR_F = true ∧
    (run (.telemReceived 6 [blockOf 0x11]) (ringOf rsUP {})).isOn Reg.THK_FLAG_CRCERR_F = true ∧ (run (.telemReceived 6 [blockOf 0x1E]) (ringOf rsUP {})).isOn Reg.THK_FLAG_CRCERR_F = false ∧
    (run (.discReturn 6 false (crced (10 * 2 ^ 41)) 100) (ringOf rsDISCOVER { disc := 1 })).get (Reg.THK_RINGr_CFG_NFOUND 6) = 10 := by decide +kernel

/-- A ring folded at a break between the cells 5 and 6. -/
def foldedRing (heal : Bool) : Dev :=
  dv [(Reg.THK_RINGr_STAT_SEG_E 6, 6), (Reg.THK_RINGr_STAT_SEG_W 6, 4)] (ringOf rsFOLDED { notes := [⟨5, 1, true, 4⟩, ⟨6, 0, true, 4⟩], multiHeal := heal })

theorem test_fold_clauses : (foldedRing false).folded 6 = true ∧ (foldedRing false).ringEn 6 = true ∧
    (run (.loopNotice 6 (crced (3 * 2 ^ 42 + 2 ^ 41))) (foldedRing false)).ringSt 6 = rsMULTI ∧
    (run (.loopNotice 6 (crced (5 * 2 ^ 42 + 2 ^ 41))) (foldedRing false)).ringSt 6 = rsFOLDED ∧
    (run (.loopNotice 6 (crced (3 * 2 ^ 42 + 2 ^ 41))) (foldedRing true)).ringSt 6 = rsMULTI ∧
    (let d := ringOf rsMULTI { multiHeal := true, notes := [⟨5, 1, true, 4⟩, ⟨6, 0, true, 4⟩] };
      ((d.ring 6).notes.filter (fun n => decide (d.curN ≤ n.frame + 1)) ≠ [] ∧ (d.ring 6).unloop = 0) ∧ (run (.multiHealEnd 6) d).ringSt 6 = rsFOLDED) := by
  decide +kernel

theorem test_heartbeat_clauses : (joined []).linkUp 1 = true ∧ (joined []).linkUp 0 = false ∧ stPresent (joined []).krk.table 16 = false ∧
    (sget (fun _ => {}) (joined []).krk.peers 17 : Peer).viaNow = 0 ∧
    (run (.heartbeat 1 17 4 6 1 false) (joined [])).get (Reg.KRK_PORTp_ERR_CRCERR 1) = 1 := by decide +kernel

/-- What a member hears of its neighbour, and a joining chip of the neighbour's own check. -/
theorem test_identity_clauses : (joined []).krk.joinCmd = none ∧ (run (.identityExchange 1 0 true (some { ident 6 with neighbour := true }) false) (joined [])).get (Reg.KRK_PORTp_STAT_NEIGH 1) = 17 ∧
    (run (.identityExchange 1 512 true (some (ident 6)) false) (joined [])).out.length = 1 ∧ ({ ident 6 with code := 3 } : Ident).code ≠ 0 ∧
    (let t := ((st joining).start.neighbourShown 0 (ident 6)).setKrk { joining.krk with fibre := max joining.krk.fibre (ident 6).fibre };
      t.joinCheck 0 (ident 6) = none ∧ t.joinCheck 0 (ident 6 (joining.get Reg.FRM_CFG_RATE + 1)) = some (2, 17)) ∧
    (run (.identityExchange 0 512 true (some { ident 6 with code := 3 }) true) joining).isOn Reg.KRK_FLAG_JOINERR_F = true ∧
    (run (.identityExchange 0 joining.ownIndex true (some (ident 6)) true) joining).mst = mJOINING := by decide +kernel

theorem test_go_clauses : (ported 1).goneTo 17 9 = none ∧ (run (.go 1 0 17 9 true) (prepared 8)).goneTo 17 9 ≠ none ∧ (run (.go 1 0 17 9 true) (prepared 8)).krk.preps = [] ∧
    (run (.abort 1 0 17 9 true) (run (.go 1 0 17 9 true) (prepared 8))).host.waits = [] ∧ (prepared 4).krk.preps.all (fun x => decide (x.commitN ≤ (prepared 4).curN)) = true ∧
    (run (.go 1 0 17 9 true) (prepared 4)).krk.preps.length = 1 ∧ (let d := dv [(Reg.KRK_PORTp_STAT_LINK 2, 2)] (coordinating (txn true 0 []));
      d.linkUp (d.portTo 17) = true ∧ 17 ≠ d.ownIndex) := by decide +kernel

/-- A request with a command waits, or its last burst is being written. -/
def asking (started : Bool) (op kind : Nat) : Dev :=
  { clear with
    host := { clear.host with waits := [{ src := .mailbox, pkt := pk op, kind := .executing, order := 1 }] }
    fram := { reqs := [{ bursts := [(0x800, zeros 48)], kind := kind, started := started, cmds := [(.mailbox, pk op)], auto := false }] } }

theorem test_request_clauses : (gatePick (asking false 0x87 1).fram.reqs).any (fun r => !r.cmds.isEmpty && !(asking false 0x87 1).gatePasses 0 0 (r.tb false)) = true ∧
    ((asking true 0x87 1).fram.reqs.find? (fun r => r.started)).any (fun r => r.cmds == [(.mailbox, pk 0x87)]) = true ∧ pOp (pk 0x87) = 0x87 ∧
    rep (.framWriteRequest 0 0) (asking false 0x87 1) = (sBUSY, 1) ∧ rep (.framBurstDone 0) (asking true 0x87 1) = (0, 0) ∧
    (run (.framBurstDone 0) (gated true 0)).pair Reg.VLT_FAIL_LO Reg.VLT_FAIL_HI = 0 ∧ (run (.framBurstDone 0) (gated true 1)).mtr.retry = false := by decide +kernel

/-- Nimbus has `n` output samples and the next value of every channel in use. -/
def sampling (n : Nat) : Dev :=
  let d := metering [] 0 none
  { d with mtr := { d.mtr with cfg := patch (List.replicate 256 0xFF) 0 [1], marks := [⟨5, false, false, 0⟩], outs := List.replicate n ⟨⟨0, false, false, 0⟩, List.replicate 7 0, none, false⟩ } }

theorem test_sample_clauses : (metering [] 0 none).mtr.marks = [] ∧ (sampling 0).mtr.marks.length = 1 ∧
    (∀ k, k < 7 → mcPAIR (sampling 0).mtr.cfg k ≠ 0xFF → ((sampling 0).mtr.chans.getD k {}).out ≠ []) ∧ (sampling 1022).mtr.outs.length = 1022 ∧
    (run .meterSample (sampling 0)).mtr.outs.length = 1 := by
  refine ⟨?_, ?_, ?_, ?_, ?_⟩
  · decide +kernel
  · decide +kernel
  · decide +kernel
  · decide +kernel
  · decide +kernel

/-- A pulse output of 1 ms that has just pulsed. -/
def slow (due : List Nat) (back : Nat) : Dev :=
  let d := metering due back (some 0)
  { d with mtr := { d.mtr with cfg := patch d.mtr.cfg 81 [1] } }

theorem test_pulse_clauses : (metering [7] 0 none).pulseFree 0 = true ∧ (slow [7] 0).pulseFree 0 = false ∧ 0 < (metering [7] 0 none).mtr.pulses.length ∧
    ((metering [7] 0 none).mtr.pulses.getD 0 {}).due.takeWhile (fun t => decide (t ≤ (metering [7] 0 none).time)) = [7] ∧
    ((metering [2000] 0 none).mtr.pulses.getD 0 {}).due.takeWhile (fun t => decide (t ≤ (metering [2000] 0 none).time)) = [] ∧
    (run (.pulseEdge 0) (slow [7] 65535)).isOn Reg.MTR_FLAG_PBKLOG_F = true ∧ (metering [] 0 none).mtr.ended = [] := by decide +kernel

/-- A harmonic window has ended. -/
def windowed (w : Option HarmWin) : Dev := dv [(Reg.MTR_CTL_HEN, 1)] (metering [] 0 none { ended := [(0, 16, {}, false)], win := w })

theorem test_window_clauses : (windowed none).isOn Reg.MTR_CTL_HEN = true ∧ (windowed none).mtr.ended = [(0, 16, {}, false)] ∧ (windowed none).mtr.win = none ∧
    (windowed (some ⟨0, 1, {}, false, [], 0⟩)).mtr.win ≠ none ∧ (windowed none).mtr.running = true := by decide +kernel

/-- Queue 0 is still being deleted, and one whose command executes. -/
def closing0 : Dev := base.setQueue 0 { exists_ := true, closing := true }
def busy0 : Dev :=
  let d := (dv [(Reg.HIF_AQ_CFG_EN, 1)] base).setQueue 0 { exists_ := true, sqLog := 4, cqLog := 4 }
  { d with host := { d.host with waits := [{ src := .queue 0, pkt := pk 0x42, kind := .executing, order := 9 }] } }

theorem test_admin_clauses : closing0.isOn Reg.HIF_AQ_CFG_EN = false ∧ (closing0.queue 0).closing = true ∧ (busy0.queue 0).exists_ = true ∧ busy0.busyQueue 0 = true ∧
    (run (.aqEnable 0x00000404#32) closing0).isOn Reg.HIF_FLAG_AQERR_F = true ∧ ((run .aqDisable busy0).queue 0).closing = true := by decide +kernel

theorem test_due_clauses : (waiting (.held 100)).nextDue.any (fun w => (opRow 0).any (fun row =>
      (row.body w.src w.pkt (((st (waiting (.held 100))).start.turnOf w).bodyState w)).2.isSome)) = true ∧
    (waiting (.deferred 0)).nextDue.any (fun w => (opRow 0).any (fun row =>
      (row.body w.src w.pkt (((st (waiting (.deferred 0))).start.turnOf w).bodyState w)).2.isSome)) = true ∧
    (waiting (.held 100) 0x10 stRUN).nextDue.any (fun w => (opRow 0x10).any (fun row => !(waiting (.held 100) 0x10 stRUN).accepts w.pkt row &&
      !(pDeferOk w.pkt && !coherent w.pkt))) = false ∧
    (waiting (.held 100) 0x50 stRUN).nextDue.any (fun w => (opRow 0x50).any (fun row => !(waiting (.held 100) 0x50 stRUN).accepts w.pkt row &&
      !(pDeferOk w.pkt && !coherent w.pkt))) = true := by decide +kernel

theorem test_release_clauses : frozen.lostHere = [] ∧ frozen.frozen 1 = true ∧ frozen.frozenHere = none ∧
    at_ 0x91 (pkAt 0x91 [(16, [1, 1]), (32, [4])]) frozen (fun e => (e.snapBuf 1).any (fun n =>
      let t := e.readOut .mailbox (pkAt 0x91 [(16, [1, 1]), (32, [4])]) ((snapBytes 1 n).take 4)
      e.stores .mailbox 0 4 && t.frozen 1 && t.frozenHere.isNone && t.lostHere.isEmpty)) = true ∧
    (run (.snpRel 2) frozen).frozen 1 = false := by decide +kernel

/-- A CELLSWEEP context stands at context 5, outside CONFIG. -/
def swept : Dev := loaded { img := patch (zeros 384) 0 [7] } (inSt stREADY)

theorem test_pinned_clauses : swept.pinned 5 false = true ∧ imgLaw descr ≠ 7 ∧ (swept.pinned 5 true = true) ∧ (loaded).pinned 5 false = false ∧
    (rep (.ceCtxLoad .mailbox (bulk 0x10 [5])) { swept with hostMem := (holding descr).hostMem }).1 = sSTATE_CONFLICT := by decide +kernel

/-- A packet routed to chip 17, with and without granules left. -/
theorem test_ask_clauses : (let q := pkAt 0x14 [(1, [4])]
    routes 0x14 q (ported 1) (fun u => (u.ask (srcUser .mailbox) 1).1.isSome && (u.routeTargets q).isRight && decide ((u.ask (srcUser .mailbox) 1).2.linkUp 1)) = true ∧
    routes 0x14 q (((ported 1).set Reg.HIF_POOL_FREE_SH_FREE 0).setUser 36 { res := 7 }) (fun u => (u.ask (srcUser .mailbox) 1).1.isNone && (u.routeTargets q).isRight) = true) := by
  decide +kernel

/-- A cell with a fixed reference on its way. -/
def vrefed (stamp : Nat) : Dev :=
  let d := celled
  { d with cells := { d.cells with cells := [(5, { state := 2, vrefNew := some (true, 0x3F800000, stamp, 0) })] } }

theorem test_cell_clauses : at_ 0x35 (cellPkt 0x35) (sweeping 2 { running := true }) (fun e => e.cells.iv.running && (e.scopePos 0x01000050).all (fun q => (e.cell q).state == 2) &&
      (e.badAddress (cellPkt 0x35) 0x01000050 [1, 2, 3]).isNone) = true ∧
    rep (.cellIvSweep .mailbox (cellPkt 0x35)) (sweeping 2 { running := true }) = (sBUSY, 0) ∧
    at_ 0x37 (cellPkt 0x37) (vrefed 9) (fun e => ((e.cell 5).vrefNew).any (fun o => !newer (e.stamp 0) 0 o.2.2.1 o.2.2.2)) = true ∧
    at_ 0x37 (cellPkt 0x37) (vrefed 0) (fun e => ((e.cell 5).vrefNew).any (fun o => newer (e.stamp 0) 0 o.2.2.1 o.2.2.2)) = true := by decide +kernel

/-- A ring that has FAILED, and one that is folded, with a table of zeros to be loaded. -/
theorem test_profile_clauses : at_ 0x42 (bulk 0x42) (ringOf rsFAILED {}) (fun e => e.ringSt 6 == rsFAILED && (badProf (e.bulkRead .mailbox 0x4000 128)).isNone) = true ∧
    (run (.modProfLoad .mailbox (bulk 0x42)) (ringOf rsFAILED {})).out.length = 0 ∧ (run (.modProfLoad .mailbox (bulk 0x42)) (ringOf rsUP {})).out.length = 1 ∧
    (run (.modProfLoad .mailbox (bulk 0x42)) (ringOf rsFOLDED {})).out.length = 2 ∧
    at_ 0x42 (bulk 0x42) (celled 2 1 stREADY) (fun e => !e.cells.recs.isEmpty && e.esp.profCmd.isNone) = true := by decide +kernel

/-- READY, function 2 in demand, LOCKCTO contactor 1 off with its feedback, and Hedgerow's permit. -/
theorem test_access_clauses : ∃ d : Dev, d = dv [(Reg.SAF_HEDGE_LOCKPERM, 1), (Reg.SAF_STAT_CTF, 15), (Reg.SAF_STAT_CTOCMD, 0)] (safe 0 {} (clear stREADY)) ∧
    ({ d with saf := { d.saf with confirmed := patch safBlock 2 [1] } } : Dev).accessFails = 0 := ⟨_, rfl, by decide +kernel⟩

theorem test_pins_clauses : at_ 0x72 (pk 0x72) (dv [(Reg.MOD_HBn_CFG_EN 3, 1), (Reg.MOD_HBn_STAT_OUT 3, 2)] (clear stBLOCKED)) (fun e => e.pinsUnsafe 3) = true := by decide +kernel

/-- The open session's unit as it hashes. -/
def hashed (good : Bool) : Dev :=
  let d := session [0]
  if good then { d with img := { d.img with head := patch headBlock 32 (sha256 (readBytes d.img.standby 0 256)) } } else d

theorem test_image_clauses : (hashed true).hashFails = 0 ∧ (hashed false).hashFails ≠ 0 ∧ (hashed true).get Reg.IMG_RCVD_NEED - (hashed true).img.got.length = 0 := by decide +kernel

theorem test_block_clauses : at_ 0xA1 (bulk 0xA1 [0, 0, 0, 0, 0, 1]) base (fun e => !e.session && e.addrOk .mailbox 0x4000 256) = true ∧
    rep (.imgBlock .mailbox (bulk 0xA1 [0, 0, 0, 0, 0, 1])) base = (sNOT_READY, 0) ∧
    due 0xA3 (ticking (pk 0xA3) (dv [(Reg.IMG_STAT_SESSION, 1), (Reg.IMG_STAT_VERIFIED, 1), (Reg.IMG_STAT_TGT, 1), (Reg.IMG_BOOT_RECOV, 1), (Reg.HIF_STAT_STATE, stBOOT)] base))
      (fun e => e.session && e.recovery) = true ∧
    at_ 0xB2 (bulk 0xB2 [0xFC, 0x1F, 4]) (gated true) (fun e => e.fram.reqs.any (fun r => r.started) && e.addrOk .mailbox 0x4000 4) = true := by decide +kernel

theorem test_saving_clauses : (run (.mtrCfgLoad .mailbox (bulk 0x80)) (holding meterBlock)).fram.reqs.length = 1 ∧ (rep (.mtrCfgLoad .mailbox (bulk 0x80)) base).1 = sBAD_PARAM ∧
    (run (.mtrAccPreset .mailbox (bulk 0x88)) base).fram.reqs.length = 1 := by decide +kernel

/-- The slot tried after a failed one, and none after both. -/
theorem test_boot_clauses : (let d := { State.reset.dev with img := { headsRead := true } };
    (((st d).start.readHeads.slotTried 0 6).nextSlotTry = some 1 ∨ ((st d).start.readHeads.slotTried 0 6).nextSlotTry = none) ∧
    (((st d).start.readHeads.slotTried 0 6).slotTried 1 6).nextSlotTry = none) := by decide +kernel

/-- A mailbox whose bulk addresses lie in its window of 64 KiB, and an address past it. -/
def inWindow (d : Dev := base) : Dev := dv [(Reg.HIF_CFG_MBXWIN, 1)] d
def past (op : Nat) (l : List Byte := []) : Packet := pkAt op [(16, l), (24, [0, 0, 1])]

theorem test_past_window_states : at_ 0x91 (past 0x91 [3]) (inWindow) (fun e => (e.snapBuf 3).isNone && !e.addrOk .mailbox 65536 0) = true ∧
    at_ 0x92 (past 0x92 [9, 0, 0, 0, 1]) (inWindow) (fun e => (e.logFrom 9).isNone && !e.addrOk .mailbox 65536 0) = true ∧
    at_ 0x18 (past 0x18 [15]) (inWindow { base with ce := { spare := some (1, []) } }) (fun e => e.ce.spare.isSome && !e.addrOk .mailbox 65536 4096) = true ∧
    at_ 0x1D (past 0x1D) (inWindow) (fun e => !e.isOn Reg.CE_CAP_STAT_DONE && !e.addrOk .mailbox 65536 0) = true ∧
    at_ 0x36 (past 0x36 [0x50, 0, 0, 1]) (inWindow celled) (fun e => (sget (fun _ => none) e.cells.ivRes 5).isNone && !e.addrOk .mailbox 65536 0) = true ∧
    at_ 0x75 (past 0x75) (inWindow) (fun e => e.saf.loaded.isEmpty && e.saf.confirmed.isEmpty && !e.addrOk .mailbox 65536 64) = true ∧
    at_ 0x83 (past 0x83 [95, 96]) (inWindow) (fun e => (e.mtr.intvs.drop 95).isEmpty && !e.addrOk .mailbox 65536 0) = true ∧
    at_ 0x85 (past 0x85) (inWindow (inSt stREADY)) (fun e => e.mtr.harm.isEmpty && !e.addrOk .mailbox 65536 1824) = true := by decide +kernel

theorem test_past_window_results : rep (.snpRead .mailbox (past 0x91 [3])) (inWindow) = (sBAD_PARAM, 24) ∧
    rep (.safConfigRead .mailbox (past 0x75)) (inWindow) = (sBAD_PARAM, 24) ∧
    rep (.imgHandover .mailbox (pkAt 0xA3 [(8, [9])])) inFrame = (sNOT_READY, 0) := by decide +kernel

/-! ### Witnesses for the clauses of the statements, in their order -/

theorem test_memory_invariant : base.memWf ∧ base.granulesOk := by
  refine ⟨⟨by decide +kernel, by decide +kernel, by decide +kernel, by decide +kernel, by decide +kernel, by decide +kernel⟩,
    by decide +kernel, ?_, by decide +kernel, by decide +kernel⟩
  intro u _; rfl

/-- Nothing of the device waits to settle. -/
theorem test_quiet_witness : base.quiet := by
  refine ⟨by decide +kernel, by decide +kernel, by decide +kernel, .inr ?_, rfl, rfl, rfl, ?_, ?_, rfl, rfl, ?_⟩
  all_goals intro x h; cases h

/-- Ring 6 enabled with the image of a tick; nothing frozen. -/
def ready6 (l : List (Fld × Nat) := []) : Dev := { dv l (ringOf rsUP {}) with snp := { tick := some tickImg } }

theorem test_halt_clauses : (ready6).ringEn 6 = true ∧ (ready6).snp.tick = some tickImg ∧ (ready6).frozenHere = none ∧ (ready6).freeBuf = some 0 ∧
    (ready6 [(latF 0x24, 1)]).isOn (latF 0x24) = true ∧ (run (.debugHalt true) (ready6)).frozen 0 = true := by decide +kernel

/-- Slot A holds an image header of version 1; its hash does or does not hold for the empty body. -/
def flashed (good : Bool) : Dev :=
  let h := patch (zeros 256) 32 (if good then sha256 [] else [])
  { dv [(Reg.IMG_BOOT_OUTB, 2)] State.reset.dev with img := { headsRead := true, qspi := h.zipIdx.filterMap (fun x => if x.1 == 0xFF then none else some (x.2, x.1)) } }

theorem test_slot_outcomes : (flashed false).slotOutcome 0 = 4 ∧ (flashed true).bootLooks = true ∧
    (st (flashed true)).start.readHeads.nextSlotTry = some 0 ∧ (run .bootImageCheck (flashed false)).isOn Reg.IMG_FLAG_AUTH_F = true := by decide +kernel

/-- The signature check is Config’s: the image starts where it passes, and fails with code 5 where it does not. -/
theorem test_slot_signature (h : Config.imageSignatureOk ((flashed true).slotHead 0) = true) : (flashed true).slotOutcome 0 = 1 := by
  have k : sha256 ((flashed true).slotBody 0 (ihLen ((flashed true).slotHead 0))) = ihHash ((flashed true).slotHead 0) := by decide +kernel
  simp [Dev.slotOutcome, k, h]

/-- Firmware is due; FRAM holds a save of number 9 in slot 0, and the record of a power failure later than it, each with its check code. -/
def saved : Dev := { dv [(Reg.IMG_BOOT_STARTED, 1)] State.reset.dev with
  fram := { mem := [(0x148, 9), (0x23C, 108), (0x23D, 58), (0x23E, 64), (0x23F, 100), (0x340, 5), (0x37C, 57), (0x37D, 49), (0x37E, 109), (0x37F, 83)] } }

/-- A configuration of zeros stands in FRAM with its check code. -/
def configured : Dev := { saved with fram := { mem := [(0xBC, 12), (0xBD, 14), (0xBE, 215), (0xBF, 21)] } }

theorem test_firmware_copies : (configured.framCopy 0x40 128).isSome = true ∧ saved.framCopy 0x40 128 = none ∧
    (saved.framCopy 0x340 64).any (fun pf => byteAt pf 24 % 2 == 0 || decide (0 < leAt pf 0 8)) = true := by decide +kernel

/-- The 252 bytes of the save and its check code, in two halves. -/
theorem save_code : crc32 (readBytes saved.bootCfg.fram.mem 0x140 252) = 1681930860 := by
  have h : readBytes saved.bootCfg.fram.mem 0x140 252 = patch (zeros 126) 8 [9] ++ zeros 126 := by decide +kernel
  have a : (patch (zeros 126) 8 [9]).foldl (fun c (b : Byte) => crc32Shift 8 (c ^^^ b.toNat)) 0xFFFFFFFF = 2409218052 := by decide +kernel
  have b : (zeros 126).foldl (fun c (b : Byte) => crc32Shift 8 (c ^^^ b.toNat)) 2409218052 ^^^ 0xFFFFFFFF = 1681930860 := by decide +kernel
  rw [h, crc32, List.foldl_append, a, b]

theorem test_picked_save (b : Option (Nat × Nat × List Nat)) : (pickSave (saved.bootCfg.slotRead 0) b).2.isSome = true := by
  have h : (readBytes saved.bootCfg.fram.mem (0x140 + 256 * 0) 256).take 252 = readBytes saved.bootCfg.fram.mem 0x140 252 := by decide +kernel
  have k : leAt (readBytes saved.bootCfg.fram.mem (0x140 + 256 * 0) 256) 252 4 = 1681930860 ∧
    leAt (readBytes saved.bootCfg.fram.mem (0x140 + 256 * 0) 256) 12 4 = (saved.bootCfg.reg Reg.MTR_CFGCRC).toNat := by decide +kernel
  simp only [Dev.slotRead, h, save_code, k, and_self, if_true]
  cases b <;> rfl

/-- No save was made under the configuration in force. -/
theorem test_no_save : (pickSave (configured.bootCfg.slotRead 0) (configured.bootCfg.slotRead 1)).2 = none := by
  have k : ∀ n ∈ [0, 1], leAt (readBytes configured.bootCfg.fram.mem (0x140 + 256 * n) 256) 12 4 ≠ (configured.bootCfg.reg Reg.MTR_CFGCRC).toNat := by decide +kernel
  simp only [Dev.slotRead, k 0 (by simp), k 1 (by simp), and_false, if_false]
  rfl

/-! The tick and its parts. -/

/-- The device as the tick begins, and with the inputs sampled. -/
def tickB (d : Dev) (done : Bool := true) : Dev := (st d).start.tickBegin done
def tickA (d : Dev) : Dev := (tickB d).tickSample

/-- The heartbeats judged; membership decided. -/
def tickQ (d : Dev) : Dev :=
  let a := tickA d
  forEach ((stChips a.krk.table).filter (fun x => x != a.ownIndex && a.gridTick.krkTrip.reach x)) (fun x t => t.judge x) a.gridTick.krkTrip
def tickC (d : Dev) : Dev := (tickA d).gridTick.krkTrip.krkTick

/-- A record of frame 3 with these control bits, and a chip that applies it at tick 5. -/
def recWith (ctl : Nat) : GridRec := BitVec.ofNat 32 (3 * 2 ^ 17 + ctl) :: List.replicate 10 0
def gridded (r : GridRec) : Dev :=
  let d := issuing stRUN
  { d with prt := clear.prt, ce := { ctxs := [(1, { img := patch (zeros 384) 0 [0x10] })] }, grid := { d.grid with issuing := false, inbox := [(3, r)] } }

theorem test_tick_steps : (let d := { inFrame with clk := { inFrame.clk with step := some 5 } }; d.stIn stepStates = true ∧ (run (.frameTick true) d).isOn Reg.CLK_FLAG_TSTEP_F = true) ∧
    (let d := { inFrame (inSt stRUN) with clk := { inFrame.clk with step := some 5 } }; d.stIn stepStates = false ∧ (tickB d).clk.slew = 5) ∧
    inFrame.get Reg.FRM_OVR_CAUSE = 0 ∧ (tickB inFrame false).get Reg.FRM_OVR_CAUSE = 3 ∧ (dv [(Reg.FRM_OVR_CAUSE, 1)] inFrame).get Reg.FRM_OVR_CAUSE ≠ 0 := by decide +kernel

theorem test_tick_record : (let r := recWith 8; let a := tickA (gridded r)
    (a.lawImg 0x10).isSome = true ∧ a.stIn [stPOWEROFF, stBOOT, stCONFIG] = false ∧
    a.grid.inbox.filter (fun x => x.1 == (a.curN + 2 ^ 15 - gfGDLY a.grid.profile) % 2 ^ 15) = [(recFrame r, r)] ∧ (recIssuer r || !a.grid.shadowSeen) = true ∧
    (r.getD 10 0).toNat = a.grid.crc ∧ recTripReq r = true ∧ a.grid.own.contains r = false ∧ a.loopLatched = false ∧ recCause r ≠ 14 ∧
    a.effective 0x28 = true) ∧ (run (.frameTick true) (gridded (recWith 8))).isOn (latF 0x28) = true := by decide +kernel

theorem test_tick_ride : (let e := (tickC (gridded (recWith 0))).holdNow.pllTick.angTick
    (e.lawImg 0x10).isSome = true ∧ e.grid.applied = some (recWith 0) ∧ e.grid.extrap = false ∧ e.st = stRUN) ∧
    (let e := (tickC (dv [(Reg.HIF_STAT_STATE, stRIDETHROUGH)] (gridded (recWith 0)))).holdNow.pllTick.angTick; e.st = stRIDETHROUGH) := by decide +kernel

/-- Joined, with a vote of its own or with the chip that decides out of reach. -/
def votes (n : Nat) (own : Bool) : Dev := let d := inSt n [(⟨0x3900, 0, 0⟩, if own then 1 else 0)] (joined []); { d with krk := { d.krk with table := if own then patch table 64 [0x31] else patch table 0 [17] } }

theorem test_tick_membership : (tickA (votes stORPHAN true)).gridTick.krkTrip.krk.joined = true ∧ (tickQ (votes stORPHAN true)).governs = true ∧
    (tickQ (votes stORPHAN true)).st = stORPHAN ∧ (tickC (votes stORPHAN true)).st = stBLOCKED ∧ (tickQ (votes stCONFIG false)).governs = false ∧
    (tickQ (votes stCONFIG false)).stIn joiningStates = true ∧ (tickQ (votes stRUN false)).governs = false ∧ (tickQ (votes stRUN false)).stIn joiningStates = false ∧
    (tickA base).gridTick.krkTrip.krk.joined = false := by decide +kernel

theorem test_tick_hold : (let d := { inFrame (clear) with clk := { inFrame.clk with holdDue := true } }; d.clk.holdDue = true ∧
      (tickC d).stIn [stSYNC, stRUN, stRIDETHROUGH] = true ∧ (run (.frameTick true) d).st = stHOLD) ∧
    ((tickA (ringOf rsUP {})).user 12).resFull < 64 ∧ (dv [(Reg.PRT_STAT_OUT, 1)] (ringOf rsUP {})).isOn Reg.PRT_STAT_OUT = true ∧
    (List.range 16).all (fun r => !inFrame.ringEn r) = true := by decide +kernel

/-- Compute ended late in the one, with an overrun that FRM_OVR shows already in the other. -/
theorem test_phase_clauses : (run (.computePhaseStart false 0 []) inFrame).get Reg.FRM_OVR_CAUSE = 1 ∧
    (run (.computePhaseStart false 0 []) (dv [(Reg.FRM_OVR_CAUSE, 3)] inFrame)).get Reg.FRM_OVR_CAUSE = 3 ∧
    (let d := { inFrame with frm := { inFrame.frm with late := true } }; d.frm.late = true ∧ (run .dispatchPhaseStart d).get Reg.FRM_OVR_CAUSE = 2) ∧
    (run (.computePhaseStart true 9 []) (inFrame (inSt stRUN))).get Reg.FRM_PEAK_PEAK = inFrame.get Reg.FRM_PHASE_SW_END + 9 := by decide +kernel

/-- A context of a law, enabled and due at every tick, its output limits 0 and 1. -/
def lawed (law : Byte) (n : Nat := stRUN) : Dev :=
  { inFrame (inSt n) with ce := { ctxs := [(5, { img := patch descr 0 [law] })] } }

theorem test_context_due : (∀ law ∈ [(1 : Byte), 2, 3, 4, 5, 7], (let d := lawed law; let b := (d.ctx 5).img
      d.ctxDue b = true ∧ imgLaw b = law.toNat ∧ fLt (imgOMax b) (imgOMin b) = false ∧ fLt (imgIMax b) (imgIMin b) = false ∧ 0 < imgNout b)) ∧
    (lawed 1).ctxDue ((lawed 1).ctx 3).img = false ∧ (lawed 1 stCONFIG).stIn [stPOWEROFF, stBOOT, stCONFIG] = true := by decide +kernel

/-- The cell of `pvRec` runs with telemetry that says a fault. -/
def failing (state : Nat) : Dev :=
  let d := lawed 7
  { d with cells := { map := cellMap, recs := [pvRec], cells := [(5, { state := state })], tel := [(5, { ep7 := 1 })], first := false } }

theorem test_failing_cell : (failing 2).cells.first = false ∧ (failing 2).cells.iv.running = false ∧ ((failing 2).cells.recs.map (·.pos)).Nodup ∧
    ((failing 2).sweepCells.map (fun y => (y.c.state, failCause ((failing 2).ctx 5).img y.t ((failing 2).cells.hostByp.contains y.r.pos)))) = [(2, 2)] := by decide +kernel

/-- In the dispatch phase of each kind of state, with a bypassed and with an active cell, and no edge test. -/
theorem test_dispatch_states : (failing 5).stIn modStates = true ∧ (failing 5).esp.test = none ∧ (failing 5).frm.late = false ∧
    (dv [(Reg.HIF_STAT_STATE, stBLOCKED)] (failing 5)).stIn blkStates = true ∧ base.stIn (modStates ++ blkStates) = false ∧
    ((failing 5).sweepCells.map (·.c.state)) = [5] ∧ (run .dispatchPhaseStart (failing 5)).esp.recs.map (·.pos) = [5] := by decide +kernel

/-- Telemetry aggregation that costs something is shed in a handover frame, the classes of lower cost with it. -/
theorem test_shed (h : (Config.aggCost 1).1 + (Config.aggCost 1).2 ≠ 0) : (failing 2).shedCost 2 ≠ 0 := by
  have k : (failing 2).shedItems.find? (fun x => x.1 == 2) = some (2, (Config.aggCost 1).1, (Config.aggCost 1).1 + (Config.aggCost 1).2) := by
    simp [Dev.shedItems, failing]
  simpa [Dev.shedCost, k] using h

/-! Calibration. -/

theorem test_background_clauses : base.calPair 0 = false ∧ base.convRun 0 = none ∧ base.calPair 4 = false ∧ base.convRun 8 = none ∧
    (base.setRun 8 (some { kind := 0, idx := 0, start := 0 })).convRun 8 ≠ none ∧ (base.setRun 8 (some { kind := 0, idx := 0, start := 0 })).calPair 4 = false ∧
    (run (.bgcalStepComplete 0 0 100 983140) base).isOn Reg.ADC_BGSTAT_S0ACT = true ∧
    (run (.bgcalStepComplete 1 0 100 983140) (base.setRun 8 (some { kind := 0, idx := 0, start := 0 }))).adc.bgSwap = [(1, true)] ∧
    (run (.bgcalStepComplete 1 1 100 100) base).get Reg.ADC_BGSTAT_FAILCONV = 8 := by decide +kernel

/-- Both means of input 20 stand, with the means and the true values given. -/
def measured (oks : Nat) (nz nf : Int) (ovr : Bool × Bool) (ez ef : Word) : Dev :=
  let d := dv [(Reg.ADC_CTL_EN, 1), (Reg.ADC_CALCTL_CH, 20), (Reg.ADC_CALSTAT_ZEROOK, oks), (Reg.ADC_CALSTAT_FULLOK, oks)] base
  { (d.setReg Reg.ADC_CALEZ ez).setReg Reg.ADC_CALEF ef with adc := { calNz := nz, calNf := nf, calOver := ovr } }

theorem test_result_codes :
    ((run .calCompute (measured 1 0 16384 (false, false) 0 0x3F800000)).get Reg.ADC_CALSTAT_RESULT = 0 ∧
      (run .calCompute (measured 1 0 16384 (false, false) 0 0x3F800000)).isOn ⟨0x1028, 20, 20⟩ = true) ∧
    (run .calCompute (measured 1 0 16384 (false, true) 0 0x3F800000)).get Reg.ADC_CALSTAT_RESULT = 1 ∧
    (run .calCompute (measured 1 0 16383 (false, false) 0 0x3F800000)).get Reg.ADC_CALSTAT_RESULT = 2 ∧
    (run .calCompute (measured 0 0 16384 (false, false) 0 0x3F800000)).get Reg.ADC_CALSTAT_RESULT = 3 ∧
    (run .calCompute (measured 1 0 16384 (false, false) 0x3F800000 0x3F800000)).get Reg.ADC_CALSTAT_RESULT = 4 := by decide +kernel

/-! Cells, grid, rings. -/

/-- A sweep at its last point, with another batch to follow or none. -/
theorem test_sweep_clauses : (let d := sweeping 4 { running := true, point := 3, cells := [{ pos := 5, saved := 0 }], later := [[5]] };
      byteAt d.cells.map 24 ≤ d.cells.iv.point + 1 ∧ d.sweepImg.isSome = true ∧ (run .ivSweepPointEnd d).cells.iv.later = []) ∧
    (let d := sweeping 4 { running := true, point := 3, cells := [{ pos := 5, saved := 0 }] };
      byteAt d.cells.map 24 ≤ d.cells.iv.point + 1 ∧ (d.cellRec 5).isSome = true ∧ (run .ivSweepPointEnd d).cells.iv = {}) := by decide +kernel

theorem test_grid_clauses : heard.grid.profile.isEmpty = false ∧ (joined []).grid.profile.isEmpty = true ∧ heard.grid.inbox = [] ∧
    (let d := { heard with krk := {} }; d.krk.joined = false ∧ d.linkUp 1 = true ∧ (run (.gridRecord 1 true (recOf 4)) d).grid.inbox = []) ∧
    (run (.gridRecord 1 false (recOf 4)) heard).get (Reg.KRK_PORTp_ERR_CRCERR 1) = 1 ∧
    (run (.gridRecord 1 true (recOf 4)) { heard with grid := { heard.grid with inbox := [(4, recOf 4)] } }).grid.inbox = [(4, recOf 4)] := by decide +kernel

/-- A record of sweep data, whole and cut short, and blocks that a ring returns. -/
def sweepRec (n : Nat) : TelemRec := ⟨0x2D, 2 ^ 48 + 4 * 2 ^ 40 + crcWords [1, 2, 3, 4], [1, 2, 3, 4].take n⟩

theorem test_return_clauses : telemKind (sweepRec 4) = 1 ∧ (sweepRec 3).words.length < (sweepRec 3).payload / 2 ^ 40 % 256 ∧
    (sweepRec 3).payload % 2 ^ 16 ≠ crcWords ((sweepRec 3).words.take 4) ∧ returnOk (blockOf 0x1E) = true ∧
    (run (.telemReceived 6 [sweepRec 3]) (ringOf rsUP {})).get (Reg.THK_RINGr_ERR_CRCERR 6) = 1 ∧ blockTypes.contains 0xAA = true ∧
    returnOk ⟨0xAA, 1, []⟩ = false ∧ returnOk ⟨0xAA, crced 5, []⟩ = true ∧ (ringOf rsFOLDED {}).folded 6 = true ∧
    OutMsg.thk 12 (ctlBlock 0xAA ((ringOf rsFOLDED {}).frame * 2 ^ 24)) [] ∈ (run .collectSend (ringOf rsFOLDED {})).out := by decide +kernel

/-- What a station slot has got already, and what flies. -/
theorem test_slot_clauses : (let d := slotted none; let v : SlotVal := ⟨2, 17, 9 + d.slotDelay 2, 9, 0, 0⟩
      d.curN < v.due ∧ v ∉ d.krk.got ∧ v ∉ d.krk.flight ∧ (run (.slotUpdate 1 2 17 9 9 0 0 true) d).krk.flight = [v] ∧
      (run (.slotUpdate 1 2 17 9 9 0 0 true) { d with krk := { d.krk with got := [v] } }).krk.flight = [] ∧
      (run (.slotUpdate 1 2 17 9 9 0 0 true) (run (.slotUpdate 1 2 17 9 9 0 0 true) d)).krk.flight = [v]) ∧
    (let d := slotted none; 0 + d.slotDelay 2 ≤ d.curN ∧ (run (.slotUpdate 1 2 17 0 9 0 0 true) d).isOn Reg.KRK_FLAG_SLOTERR_F = true) ∧
    (run (.slotUpdate 1 2 17 9 9 0 0 false) (slotted none)).get (Reg.KRK_PORTp_ERR_CRCERR 1) = 1 := by decide +kernel

/-- The four ways a message can go: to another chip, to this one while it cannot run, to a chip outside the station, and to this one. -/
theorem test_message_clauses : (5 : Nat) ≠ (ported 1).ownIndex ∧ 1 + (([] : List Byte).length + 255) / 256 ≤ ((ported 1).user 33).cred ∧
    (let d := { ported 1 with prt := { halted := true } }; d.fetching = false ∧ d.krk.joined = true ∧
      (run (.stationPacket 1 0 17 9 true (pk 0) []) d).krk.inbox.length = 1) ∧
    (let d := ported 1 (member); d.krk.joined = false ∧ (run (.stationPacket 1 d.ownIndex 17 9 true (pk 0) []) d).krk.inbox = []) ∧
    (let d := dv [(Reg.KRK_PORTp_STAT_LINK 2, 2)] (ported 1); d.linkUp (d.portTo 5) = true ∧ (run (.stationPacket 1 5 17 9 true (pk 0) []) d).out ≠ []) ∧
    (run (.stationPacket 1 0 17 9 false (pk 0) []) (ported 1)).get (Reg.KRK_PORTp_ERR_CRCERR 1) = 1 := by decide +kernel

theorem test_decision_clauses : (5 : Nat) ≠ (ported 1).ownIndex ∧
    (let d := dv [(Reg.KRK_PORTp_STAT_LINK 2, 2)] (ported 1); OutMsg.krk (d.portTo 5) 5 5 (goBytes 17 9 true) ∈ (run (.go 1 5 17 9 true) d).out) ∧
    (let d := { prepared 8 with prt := { halted := true } }; d.fetching = false ∧ (run (.go 1 0 17 9 true) d).krk.inbox.length = 1) ∧
    (run (.abort 1 0 17 9 true) (prepared 8)).krk.preps = [] ∧ (run (.abort 1 0 17 9 false) (prepared 8)).krk.preps.length = 1 := by decide +kernel

/-- Nothing is latched, but for a source that still acts, one that needs the command, and the one of a recovery. -/
theorem test_lat_clear_clauses : (let d := { dv [(latF 0x18, 1)] clear with prt := { fltPin := 1 } }; d.mayNotClear 0x18 = true ∧ d.isOn (latF 0x18) = true ∧
      (run (.prtLatClear false 0x01000000#32) d).get Reg.PRT_CNT_CLRREJ_CNT = 1) ∧
    (dv [(latF 0x1C, 1)] clear).isOn (latF 0x1C) = true ∧ (run (.prtLatClear false 0x10000000#32) (dv [(latF 0x1C, 1)] clear)).isOn (latF 0x1C) = true ∧
    (dv [(latF 0x2C, 1), (Reg.IMG_BOOT_RECOV, 1)] (clear stBOOT)).mayNotClear 0x2C = true ∧
    (run (.prtLatClear true 0x00001000#32) (dv [(latF 0x2C, 1), (Reg.IMG_BOOT_RECOV, 1)] (clear stBOOT))).isOn (latF 0x2C) = true ∧
    (run .watchdogExpiry clear).latchedNow 0x2C = true := by decide +kernel

/-! Vault, metering, registers. -/

theorem test_vault_clauses : ({ base with vlt := { dark := true } } : Dev).vlt.dark = true ∧ ({ base with vlt := { cut := true } } : Dev).isOn Reg.VLT_STAT_CHG = false ∧
    ({ base with vlt := { oc := true } } : Dev).vlt.cut = false ∧ (run (.cellOcRelease 0) { base with vlt := { oc := true } }).isOn Reg.VLT_STAT_CELLON = true ∧
    (run (.cellDischargeCut 2) held).vlt.keeper = held.vlt.keeper + 2 * 390625 ∧ (run (.vaultPowerUp true) { held with vlt := { dark := true } }).isOn (Reg.VLT_SCk_EN 0) = true := by
  decide +kernel

/-- A request that the vault made of its own waits; the last burst of a command of these opcodes is written. -/
theorem test_gate_clauses : (let d := { asking false 0x87 1 with fram := { reqs := (asking false 0x87 1).fram.reqs.map (fun r => { r with auto := true }) } };
      (gatePick d.fram.reqs).any (fun r => r.auto && !d.gatePasses 0 0 (r.tb false)) = true ∧ (run (.framWriteRequest 0 0) d).fram.reqs.map (fun r => (r.deferred, r.hold)) = [(true, true)]) ∧
    (gatePick (asking false 0x87 1).fram.reqs).any (fun r => !r.auto) = true ∧ (run (.framWriteRequest 0 0) (asking false 0x87 1)).fram.reqs = [] ∧
    (asking true 0x80 2).fram.reqs.map (·.cmds) = [[(.mailbox, pk 0x80)]] ∧ (run (.framBurstDone 0) (asking true 0x80 2)).isOn Reg.MTR_STAT_CFGVALID = true ∧
    (asking true 0x88 2).fram.reqs.map (·.cmds) = [[(.mailbox, pk 0x88)]] ∧ rep (.framBurstDone 0) (asking true 0x88 2) = (0, 0) ∧
    (run (.framWriteRequest 0 0) (gated false 1)).mtr.retry = true := by decide +kernel

/-- A sample that is the last the filters need. -/
theorem test_meter_clauses : (∃ o : MtrOut, 1023 ≤ ((o :: (sampling 1022).mtr.outs).take 5200).length) ∧ ((sampling 0).mtr.marks.map (·.stamp)) ≠ [] ∧
    (run .meterSaveDue (metering [] 0 none { retry := true })).fram.reqs.map (fun r => (r.kind, r.auto, r.started)) = [(1, true, false)] ∧
    (run .saveRetry (metering [] 0 none { retry := true })).fram.reqs.length = 1 ∧ (run (.pulseEnd 0) (metering [] 0 none)).pins.pulseOut = 0 ∧
    ((metering [7, 8] 0 none).mtr.pulses.getD 0 {}).due.takeWhile (fun t => decide (t ≤ (metering [7, 8] 0 none).time)) = [7, 8] := by
  refine ⟨⟨⟨⟨0, false, false, 0⟩, [], none, false⟩, ?_⟩, ?_⟩ <;> decide +kernel

/-- Two events shown, with their enables. -/
def evented (en : Nat) : Dev := (base.setReg Reg.HIF_EVT 3#32).setReg Reg.HIF_EVTEN (BitVec.ofNat 32 en)

theorem test_interrupt_writes : (findReg Reg.HIF_EVT).any (fun k => (evented 3).reg Reg.HIF_EVT &&& (evented 3).afterEvents k Reg.HIF_EVT 1#32 != 0#32) = true ∧
    (run (.registerWrite Reg.HIF_EVT 4 1) (evented 3)).evtMasked ≠ 0 ∧ (run (.registerWrite Reg.HIF_EVT 4 3) (evented 3)).evtMasked = 0 ∧
    (evented 0).evtMasked = 0 ∧ (run (.registerWrite Reg.HIF_EVTEN 4 2) (evented 0)).evtMasked ≠ 0 ∧
    (evented 0).evtMasked = 0 ∧ (dv [(Reg.HIF_EVT_TRIP, 0)] (evented 255)).evtMasked ≠ 0 := by decide +kernel

/-- MSI-X on, one vector pending and one queue that uses vector 5 armed. -/
def msix (x : QueueSt) : Dev :=
  let d := queued { x with ien := true, vec := 5 }
  { d with host := { d.host with msixEnable := true, pba := [5], msixTable := [(23, 0#32)] } }

theorem test_msix_clauses : (msix {}).host.msixEnable = true ∧ 5 ∈ (msix {}).host.pba ∧ (msix {}).msixMasked 5 = false ∧
    OutMsg.msix 5 ∈ (run (.registerWrite 0x20000 4 0x8000) (msix {})).out ∧ (run (.registerWrite 0x1005C 4 1) (msix {})).host.pba = [5] ∧
    (let d := msix { unreleased := 2 }; (d.queue 3).ien = true ∧ (run (.cqhDoorbell 3 1) d).host.disarmed = [5] ∧ (run (.cqhDoorbell 3 2) d).host.disarmed = []) ∧
    (msix {}).host.disarmed.contains 5 = false := by decide +kernel

/-- A write of a word to a register. -/
def wr (a : Nat) (w : Word) (d : Dev := base) : Dev := run (.registerWrite a 4 w) d

/-- Writes that set off more than their fields: each changes what its clause names. -/
theorem test_acting_writes : bits ((wr Reg.CLK_CFG 5 (pll pLOCK)).reg Reg.CLK_CFG) 3 0 ≠ bits ((pll pLOCK).reg Reg.CLK_CFG) 3 0 ∧
    (wr Reg.CLK_CFG 5 (pll pLOCK)).pllst = pBAND ∧ bits ((wr Reg.FRM_CFG 1).reg Reg.FRM_CFG) 2 0 ≠ bits (base.reg Reg.FRM_CFG) 2 0 ∧
    (wr Reg.FRM_CFG 7).isOn Reg.HIF_FLAG_HIF_WERR_F = true ∧ (wr Reg.FRM_FLAG 1 (dv [(Reg.FRM_FLAG_OVR_F, 1), (Reg.FRM_OVR_CAUSE, 3)] base)).reg Reg.FRM_OVR = 0 ∧
    (calibrating 1).isOn Reg.ADC_CTL_EN = true ∧ (wr Reg.ADC_CTL 0 (calibrating 1)).adc.cal = none ∧ (wr Reg.ADC_CTL 1).isOn Reg.ADC_CTL_EN = true ∧
    (wr Reg.ANG_CFG 1).xst = xWAIT ∧ (wr Reg.ANG_CFG 0 (angle 0 0)).xst = xOFF ∧
    (wr Reg.CE_SPP_CFG 0 (dv [(Reg.CE_SPP_CFG_EN, 1), (Reg.CE_SPP_STAT_ST, spTRACK)] base)).spst = spOFF ∧ base.spst = spOFF ∧ (wr Reg.CE_SPP_CFG 1).spst = spFALLBACK := by
  decide +kernel

theorem test_acting_writes_2 : (let d := { looped 0 0 with prt := { evaluated := true, pinIn := 3 } }; let d := dv [(⟨0x4000, 0, 0⟩, 0), (Reg.HIF_STAT_STATE, stCONFIG)] d;
      d.loopOn 0 = false ∧ (wr Reg.PRT_CFG 3 d).loopLatch 0 = true) ∧ (wr (Reg.CMP_CFGi 4) 0x80000000).isOn (Reg.CMP_CFGi_EN 4) = true ∧
    base.isOn (Reg.CMP_CFGi_EN 4) = false ∧ (wr (Reg.THK_RINGr_CFG 6) 0 (inSt stCONFIG [] (ringOf rsUP {}))).ringSt 6 = rsOFF ∧
    (let d := inSt stCONFIG [] (channel 1 []); d.isOn (Reg.MOD_HBn_CFG_EN 3) = true ∧ (wr (Reg.MOD_HBn_CFG 3) 0 d).get (Reg.MOD_HBn_STAT_OUT 3) = 0) ∧
    (wr Reg.HIF_PTPOFS_HI 9 (wr Reg.HIF_PTPOFS_LO 5)).reg Reg.HIF_PTPOFS_LO = 5 ∧ (wr Reg.HIF_AQ_CFG 0x404).reg Reg.HIF_AQ_CFG = 0x404 ∧
    wr Reg.HIF_AQ_CFG 0x80000000 (dv [(Reg.HIF_AQ_CFG_EN, 1)] base) = (st (dv [(Reg.HIF_AQ_CFG_EN, 1)] base)).start.settle ∧
    (wr Reg.ADC_CALCTL 50).get Reg.ADC_CALCTL_CH = 47 := by decide +kernel

theorem test_ring_writes : (wr Reg.THK_CMD 0x80000006 (inSt stRUN [] (ringOf rsUP {}))).isOn Reg.THK_FLAG_CMDREJ_F = true ∧ (wr Reg.THK_CMD 0x80000006 (ringOf rsUP {})).ringSt 6 = rsDISCOVER ∧
    (wr Reg.THK_CMD 0x40000006 (ringOf rsUP {})).isOn Reg.THK_FLAG_CMDREJ_F = true ∧ (wr Reg.THK_CMD 6 (ringOf rsUP {})).isOn Reg.THK_FLAG_CMDREJ_F = false := by decide +kernel

theorem test_vault_writes : isVault Reg.VLT_CFG = true ∧ (findReg Reg.VLT_CFG).isSome = true ∧ base.vlt.dark = false ∧
    (findReg Reg.VLT_CFG).any (fun k => (inSt stRUN).vlt.mirror.isEmpty && k.cfgDiffers (sget resetWord (inSt stRUN).vlt.mirror Reg.VLT_CFG) 0xFFFFFFFF#32) = true ∧
    (wr Reg.VLT_CFG 0xFFFFFFFF (inSt stRUN)).isOn Reg.HIF_FLAG_HIF_WERR_F = true ∧ base.hiLatch = [] ∧
    (run (.rcRead Reg.VLT_CNT 4) (dv [(Reg.VLT_CNT_DEFCNT, 3)] base)).out.length = 1 ∧ (run (.rcRead Reg.VLT_STAT 4) base).out.length = 1 ∧
    (run (.lowWordRead 0x1005C 4) (msix {})).out = [.readData 0#32] := by decide +kernel

/-- A snapshot taken on the clock of the release, beside one that was there. -/
theorem test_release_of_the_clock : (let d := run (.snpTrigger .mailbox (pk 0x90)) { frozen with snp := { frozen.snp with bufs := [(1, some ⟨tickImg, 16, 0, 7, 0⟩)] } };
      d.frozenHere.isSome = true ∧ d.lostHere = [] ∧ d.frozen 0 = true ∧ d.frozen 1 = true ∧ (run (.snpRel 2) d).frozen 1 = false) ∧
    (run (.snpRel 15) (run (.snpTrigger .mailbox (pk 0x90)) frozen)).frozen 0 = true := by decide +kernel

/-- An SPI frame for a register, one for two words of the ring window, and a read of two words. -/
def spiReg : List Byte := let f : List Byte := [0x00, 0, 0x14, 0, 0xAA, 0xBB, 0xCC, 0xDD]; f ++ [BitVec.ofNat 8 (crc8 f)]
def spiW2 : List Byte := let f : List Byte := [0x20, 0, 0, 8, 1, 2, 3, 4, 5, 6, 7, 8]; f ++ [BitVec.ofNat 8 (crc8 f)]

theorem test_spi_clauses : spiSpace spiReg = 0 ∧ (run (.spiWriteFrame spiReg) onSpi).host.spiPrev = 0 ∧ (spiW2.length - 5) / 4 = 2 ∧
    readBytes (run (.spiWriteFrame spiW2) onSpi).host.ringWin 8 8 = [1, 2, 3, 4, 5, 6, 7, 8] ∧ (run (.spiReadFrame [0xA0, 0, 0, 8, 1] 14) onSpi).host.spiPrev = 0 ∧
    (run (.spiReadFrame [0x80, 0, 0, 0, 0] 10) onSpi).host.spiPrev = 0 := by decide +kernel

/-! The pool. -/

/-- User 33 with these numbers, the shared part as given. -/
def pooled (x : PoolUser) (sh : Nat := 5120) : Dev := (dv [(Reg.HIF_POOL_FREE_SH_FREE, sh)] base).setUser 33 x

/-- Its 128 reserved granules are all in use. -/
def usedUp : PoolUser := { res := 128 }

theorem test_pool_clauses : (pooled usedUp 0).allocN 33 1 = none ∧ (pooled {} 0).allocN 33 1 ≠ none ∧ (pooled {}).grantOne 33 ≠ none ∧
    resSize 33 ≤ usedUp.resUsed 33 ∧ ((pooled { usedUp with com := 3 }).grantOne 33).any (fun e => (e.user 33).com == 2) = true ∧
    ((pooled usedUp).grantOne 33).any (fun e => (e.user 33).com == 7) = true ∧ (pooled { usedUp with cred := 1 }).grantOne 33 = none ∧
    (pooled usedUp 7).grantOne 33 = none ∧ usedUp.shUsed + 8 ≤ base.shCap 33 := by decide +kernel

theorem test_free_clauses : (let h : Hold := { user := 33, res := 70, sh := 0 }; ((pooled { usedUp with com := 3 }).giveBack h).user 33 = { res := 58 }) ∧
    (let h : Hold := { user := 33, res := 1, sh := 0 }; ((pooled { usedUp with com := 3 }).giveBack h).user 33 = { res := 127, com := 3 }) ∧
    base.poolClk.pool.frees = [] ∧ base.poolClk.pool.freed < 4 ∧
    (let d := { base with pool := { base.pool with frees := List.replicate 5 { user := 33, res := 1, sh := 0 } } };
      d.poolClk.pool.frees ≠ [] ∧ (d.freesServed 1).pool.frees.length = 1 ∧ ∀ h ∈ d.pool.frees.take 4, h.user ≠ 34) := by decide +kernel

theorem test_turn_clauses : base.standingUsers = [] ∧ base.poolClk.pool.served < 4 ∧ base.poolClk.allocN 36 1 ≠ none ∧
    (let d := dv [(Reg.KRK_PORTp_STAT_LINK 1, 2)] base; d.standingUsers = [33] ∧ d.standing 33 ≠ none ∧
      (List.range 100).all (fun k => (d.pool.ptr + 1 + k) % 100 == 33 || !d.standingUsers.contains ((d.pool.ptr + 1 + k) % 100)) = true) := by decide +kernel

/-- Two packets with a credit, one reserved granule behind it. -/
theorem test_credit_clauses : (let d := pooled { fifo := [true, false], cred := 2 }; ((d.portData 33 2).1.map (fun h => (h.res, h.sh))) = some (1, 1) ∧
      (d.portData 33 3).1 = none ∧ (d.linkData 33 3).1 = 1 ∧ (d.portData 33 3).2.isOn Reg.HIF_POOL_STAT_CREDERR_F = true) := by decide +kernel

/-! Packets. -/

/-- The packet is taken and passes the first checks; the condition holds then. -/
def taken (op : Nat) (src : Src) (q : Packet) (d : Dev) (f : Dev → Dev → OpRow → Bool) : Bool :=
  match opRow op, (st d).start.take src with
  | some row, some (g, t) => f t (t.addWait { src := src, pkt := q, kind := .executing, order := 0, gran := g, route := none }).2 row
  | _, _ => false

theorem test_check_clauses : taken 0 .mailbox (pk 0) base (fun t _ row => (lowestOf (t.badStep2 .mailbox (pk 0) row)).isNone) = true ∧
    taken 0x11 .mailbox (pkAt 0x11 [(16, [64])]) base (fun t u row => (lowestOf (t.badStep2 .mailbox (pkAt 0x11 [(16, [64])]) row)).isNone &&
      (u.badContext .mailbox (pkAt 0x11 [(16, [64])])).isSome) = true ∧
    (let q := pkAt 0x11 [(4, [3]), (16, [5])]; taken 0x11 (.queue 3) q (queued {}) (fun t u row => (lowestOf (t.badStep2 (.queue 3) q row)).isNone &&
      (u.badContext (.queue 3) q).isSome) = true) ∧
    taken 0x50 .mailbox (pk 0x50) (inSt stRUN) (fun _ u row => !u.accepts (pk 0x50) row && (u.badContext .mailbox (pk 0x50)).isNone) = true := by decide +kernel

/-- The body of a command that is not done answers none. -/
theorem test_goes_on_clauses : (beg 7 (bulk 7 [64])).any (fun x => (opRow 7).any (fun row => (row.body .mailbox (bulk 7 [64]) x.2).2.isNone)) = true ∧
    (beg 0 (pk 0)).any (fun x => (opRow 0).any (fun row => (row.body .mailbox (pk 0) x.2).2.isSome)) = true := by decide +kernel

theorem test_hold_clauses : (let q := pkAt 0x14 [(8, [9])]; pExecAt q ≠ 0 ∧ coherent q = false ∧ taken 0x14 .mailbox q inFrame (fun _ u _ => !u.handoverUnready q) = true) ∧
    (let q := pkAt 0xA3 [(8, [9])]; taken 0xA3 .mailbox q inFrame (fun t u row => u.handoverUnready q && (u.badContext .mailbox q).isNone &&
      (lowestOf (t.badStep2 .mailbox q row)).isNone) = true) ∧
    (let q := pkAt 0x50 [(1, [2]), (4, [3])]; taken 0x50 (.queue 3) q (queued { cqBase := 0x2000 } (inSt stRUN)) (fun _ u row => !u.accepts q row && pDeferOk q && !coherent q) = true) := by decide +kernel

theorem test_scope_clauses : unbound (.queue 3) 5 = true ∧ (ctxNames (pkAt 0x11 [(1, [4]), (16, [5])])).find? (fun c => unbound (.queue 3) c || c == 0 || decide (63 < c)) = some 5 ∧
    (let q := pkAt 0x11 [(1, [4]), (4, [3]), (16, [5])]; taken 0x11 (.queue 3) q (queued {} (joined [])) (fun t _ row => (lowestOf (t.badStep2 (.queue 3) q row)).isNone && stationScope q) = true) ∧
    (let q := pkAt 0x43 [(1, [4]), (24, [0, 0, 1])]; routes 0x43 q (dv [(Reg.HIF_CFG_MBXWIN, 1)] (ported 1)) (fun u =>
      (u.routeTargets q).isRight && (bulkIn q).isNone && (bulkOut q).any (fun x => !u.addrOk .mailbox x.1 x.2)) = true) ∧
    (let q := pkAt 0xA3 [(1, [4]), (32, [0, 0, 0, 1])]; routes 0xA3 q (joined []) (fun _ => awScope (pN q 32 4) != 3) = true) := by decide +kernel

/-! Commands. -/

/-- CONFIG is left: the angle's PLL context is loaded, and a command to READY waits. -/
def leaving (l : List (Fld × Nat) := []) : Dev :=
  dv ((Reg.ANG_CFG_PLLCTX, 5) :: l) (loaded { img := patch descr 0 [6] } (ticking (pkAt 4 [(16, [3])])))

theorem test_leave_config : due 4 (leaving) (fun e => (e.gotoRefusal 3).isNone && decide (e.st ≠ 3)) = true ∧ (run .heldCommandDue (leaving)).st = stREADY ∧
    (run .heldCommandDue (leaving [(latF 0x18, 1)])).st = stTRIPPED ∧ due 4 (leaving [(Reg.FRM_PHASE_CMP_END, 0)]) (fun e => (e.gotoRefusal 3).isSome) = true := by
  decide +kernel

/-- A trigger asked for on an earlier core clock, answered or lost. -/
theorem test_snap_replies : (let d := { base with clocks := 5, snp := { asked := [⟨4, .mailbox, pk 0x90, some 2⟩] } }; d.snapReplies.snp.asked = []) ∧
    (let d := { base with clocks := 4, snp := { asked := [⟨4, .mailbox, pk 0x90, none⟩] } }; d.snp.asked.all (fun x => x.clk == d.clocks)) = true := by decide +kernel

/-- An image on its way that an older load does not displace, and one that a newer load does. -/
def reloading (stamp rank : Nat) : Dev :=
  let d := loaded { img := descr, newImg := some (patch descr 7 [0], true, stamp, rank) }
  { d with hostMem := (holding descr).hostMem }

theorem test_load_clauses : at_ 0x10 (bulk 0x10 [5]) (reloading 9 0) (fun e => ((e.ctx 5).newImg).any (fun o => decide (e.stamp 0 < o.2.2.1) && o.1 != descr)) = true ∧
    ((run (.ceCtxLoad .mailbox (bulk 0x10 [5])) (reloading 9 0)).ctx 5).newImg = (reloading 9 0 |>.ctx 5).newImg ∧
    at_ 0x10 (bulk 0x10 [5]) (reloading 0 0) (fun e => ((e.ctx 5).newImg).any (fun o => e.stamp 0 == o.2.2.1 && decide (srcRank .mailbox ≤ o.2.2.2))) = true := by decide +kernel

/-- A prepared command of an opcode has its reservation. -/
def reserving (op : Nat) (l : List Byte := []) (d : Dev := base) : Dev :=
  { d with krk := { d.krk with preps := [{ origin := 17, id := 9, src := .station 17 1, pkt := bulk op l, commitN := 8 }] } }

theorem test_reserved_clauses : (reserving 0x18).soleTaken (pk 0x18) = true ∧ base.soleTaken (pk 0x18) = false ∧
    rep (.ceTblLoad .mailbox (bulk 0x18 [15])) (reserving 0x18 [15]) = (sBUSY, 0) ∧ (reserving 0x1C).soleTaken (pk 0x1C) = true ∧
    (reserving 0x1A [1, 5]).soleTaken (bulk 0x1A [1, 6]) = true ∧ (reserving 0x1A [1, 5]).soleTaken (bulk 0x1A [0, 5]) = true ∧ (reserving 0x1A [1, 5]).soleTaken (bulk 0x1A [0, 6]) = false := by
  decide +kernel

/-- A verified session for slot A of QSPI, whose header has been programmed. -/
def verified : Dev :=
  { dv [(Reg.IMG_STAT_VERIFIED, 1), (Reg.IMG_STAT_TGT, 2)] (session [0]) with img := { (session [0]).img with qspi := [(0, 81), (65535, 7), (65536, 9)] } }

theorem test_abort_clauses : verified.qTarget = some 0 ∧ verified.isOn Reg.IMG_STAT_VERIFIED = true ∧ (run (.imgAbort .mailbox (pk 0xA4)) verified).img.qspi = [(65536, 9)] ∧
    (run .imgSessionTimeout verified).img.qspi = [(65536, 9)] := by decide +kernel

theorem test_save_now_clauses : (run (.mtrSaveNow .mailbox (pk 0x87)) { metering [] 0 none with fram := { reqs := [{ bursts := [(0x140, [])], kind := 1, cmds := [(.queue 3, pk 0x87)] }] } }).fram.reqs.map
      (fun r => (r.kind, r.started, r.cmds.length)) = [(1, false, 2)] ∧
    (run (.mtrSaveNow .mailbox (pk 0x87)) { metering [] 0 none with fram := { reqs := [{ bursts := [(0x140, [])], kind := 1, started := true }] } }).fram.reqs.length = 2 := by decide +kernel

/-- A handover at its tick, in time, and with CMP_END so low that D is negative. -/
theorem test_handover_clauses : due 0xA3 (ticking (pk 0xA3) (dv [(Reg.IMG_STAT_SESSION, 1), (Reg.IMG_STAT_VERIFIED, 1), (Reg.IMG_STAT_TGT, 1), (Reg.FRM_PHASE_CMP_END, 100)] base))
      (fun e => e.session && e.isOn Reg.IMG_STAT_VERIFIED && !e.recovery && decide ((e.get Reg.FRM_PHASE_CMP_END : Int) - 500 < 0)) = true ∧
    due 0xA3 (ticking (pk 0xA3) (dv [(Reg.IMG_STAT_SESSION, 1), (Reg.IMG_STAT_VERIFIED, 1), (Reg.IMG_STAT_TGT, 1), (Reg.FRM_PHASE_CMP_END, 9000)] base))
      (fun e => decide (((e.sinceTick + 520 : Nat) : Int) ≤ (e.get Reg.FRM_PHASE_CMP_END : Int) - 500)) = true := by decide +kernel

theorem test_schedule_clauses : atChip 0x67 (pkAt 0x67 [(1, [5])]) (slotted (some 1) (inStation)) (fun e => e.snp.schedBuf == some 1) = true ∧
    atChip 0x67 (pkAt 0x67 [(1, [5])]) { dv [(⟨Reg.SNP_STAT, 3, 0⟩, 15)] (inStation) with snp := { bufs := (List.range 4).map (fun k => (k, some ⟨tickImg, 16, 0, 7, 0⟩)) } }
      (fun e => e.snp.schedBuf.isNone && e.freeBuf.isNone) = true ∧
    (let d := { inStation (table ++ zeros 495 ++ [0x80]) with grid := {} }; at_ 0x65 (pkAt 0x65 [(16, [1]), (24, [0]), (32, [9])]) d (fun e => e.krk.joined && stKind e.krk.table 0 == 4) = true ∧
      (run (.stnSlotSet .mailbox (pkAt 0x65 [(16, [1]), (24, [0]), (32, [9])])) d).krk.flight.map (·.value) = [9]) ∧
    (let d := celled; let d := { d with cells := { d.cells with cells := [(5, { state := 2, vrefNew := some (true, 0x3F800000, 0, 0) })] } }; (d.cell 5).vrefNew.any (·.1) = true ∧
      d.sweepImg.isSome = true) ∧ (reserving 0x35 [] celled).soleTaken (pk 0x35) = true := by decide +kernel

end Sys2Proof.Tests
end

section
/-! PROOFS. What settling does (O7): the statement fails on a state that the device never reaches. -/

namespace Sys2Proof.Machine

/-- A device in BOOT whose list of generators holds an active one numbered 2039, beside bit 31 of PRT_LAT_LO, a W1C bit. The device has generators 0
and 1 only; nothing in the type of a state says so. -/
def strayGenerator : Dev :=
  { ce := { inj := [(2039, { active := true })] }, regs := [(Reg.PRT_LAT_LO, 0x80000000#32)] }

/-- Where the array of CE_INJg_STAT would hold generator 2039's ACTIVE bit, PRT_LAT_LO has bit 31. -/
theorem injStat_2039_is_latLo : Reg.CE_INJg_STAT_ACTIVE 2039 = ⟨Reg.PRT_LAT_LO, 31, 31⟩ := rfl

theorem flagBits_latLo : flagBits Reg.PRT_LAT_LO = 0xFFFFFFFF#32 := by decide

/-- Settling stops the generator outside READY, SYNC and RUN (R136), which clears that bit. -/
theorem strayGenerator_settle_latLo : strayGenerator.settle.reg Reg.PRT_LAT_LO = 0#32 := by decide +kernel

/-- Refutes O7: a state whose list of generators names number 2039 loses a bit of PRT_LAT_LO when the injections follow the device state, since the
ACTIVE bit of that generator would lie there. -/
theorem not_quietSettleFrame : ¬ Obligations.QuietSettleFrame := by
  unfold Obligations.QuietSettleFrame
  intro h
  obtain ⟨-, hflags⟩ := h strayGenerator
  have hkept := (hflags rfl).1 Reg.PRT_LAT_LO
  rw [strayGenerator_settle_latLo, flagBits_latLo] at hkept
  exact absurd hkept (by decide)

end Sys2Proof.Machine
end

section
/-! PROOFS. What a write makes of a register’s content (R7, R8, R12): bit by bit, and field by field. -/

namespace Sys2Proof.Machine

/-! ### Bits of a word -/

theorem bit_eq_getLsbD (w : Word) (n : Nat) : bit w n = w.getLsbD n := by
  have ht := testBit_bits w n n 0
  have hl := bits_lt w n n
  simp only [Nat.add_sub_cancel_left, Nat.zero_lt_one, decide_true, Bool.true_and, Nat.add_zero, pow_one] at ht hl
  rw [← ht, bit]
  have : bits w n n = 0 ∨ bits w n n = 1 := by omega
  rcases this with h | h <;> simp [h]

/-- A field reads the same in two words that agree on its bits. -/
theorem bits_congr {w v : Word} {hi lo : Nat} (h : ∀ i, lo ≤ i → i ≤ hi → w.getLsbD i = v.getLsbD i) : bits w hi lo = bits v hi lo := by
  apply Nat.eq_of_testBit_eq
  intro i
  rw [testBit_bits, testBit_bits]
  by_cases hi' : i < hi + 1 - lo
  · rw [h (lo + i) (by omega) (by omega)]
  · simp [hi']

/-! ### The registers’ fields -/

/-- The kinds of register of every block (R32). -/
def regBlocks : List (List RegKind) :=
  [regsHIF, regsCLK, regsFRM, regsADC, regsCMP, regsANG, regsCE, regsMOD, regsTHK, regsKRK, regsPRT, regsSAF, regsMTR, regsPWR, regsVLT, regsSNP, regsIMG, []]

/-- Two fields share no bit. -/
def RegField.Apart (f g : RegField) : Prop := f.hi < g.lo ∨ g.hi < f.lo

/-- The fields of a register lie within its 32 bits and share none. -/
def RegKind.Wf (k : RegKind) : Prop := (∀ f ∈ k.fields, f.lo ≤ f.hi ∧ f.hi < 32) ∧ k.fields.Pairwise RegField.Apart

theorem ite_mem {α : Type} {l : List α} {c : Prop} [Decidable c] {a b : α} (ha : a ∈ l) (hb : b ∈ l) : (if c then a else b) ∈ l := by
  split
  · exact ha
  · exact hb

theorem regsOf_mem (a : Nat) : regsOf a ∈ regBlocks := by
  unfold regsOf
  repeat' refine ite_mem (by unfold regBlocks; simp only [List.mem_cons, true_or, or_true]) ?_
  simp only [regBlocks, List.mem_cons, true_or, or_true]

theorem regBlocks_wf : ∀ b ∈ regBlocks, ∀ k ∈ b, k.Wf := by
  unfold RegKind.Wf RegField.Apart
  decide +kernel

theorem findReg_wf {a : Nat} {k : RegKind} (h : findReg a = some k) : k.Wf :=
  regBlocks_wf _ (regsOf_mem a) k (List.mem_of_find?_eq_some h)

/-- The register map ends at 0x6800 (R32). -/
theorem findReg_lt {a : Nat} {k : RegKind} (h : findReg a = some k) : a < 0x6800 := by
  by_contra hge
  have : regsOf a = [] := by
    unfold regsOf
    repeat' rw [if_neg (by omega)]
  simp [findReg, this] at h

/-! ### One field of a write -/

/-- The bit that a write of `w` leaves in a field, from the bit `b` of the old content and the bit `x` written. -/
def RegField.bitWritten (f : RegField) (config b x : Bool) : Bool :=
  match f.acc with
  | .rw => if f.cfg && !config then b else x
  | .w1c => b && !x
  | _ => b

theorem RegField.write_outside (f : RegField) (c : Bool) (w a : Word) (i : Nat) (hf : f.lo ≤ f.hi ∧ f.hi < 32) (hi : ¬ (f.lo ≤ i ∧ i ≤ f.hi)) :
    (f.write c w a).getLsbD i = a.getLsbD i := by
  unfold RegField.write
  split
  · split
    · rfl
    · rw [getLsbD_setBits _ _ _ _ _ hf.2 hf.1, if_neg hi]
  · rw [BitVec.getLsbD_and, BitVec.getLsbD_not, BitVec.getLsbD_and, getLsbD_maskOf _ _ _ hf.2 hf.1]
    by_cases hb : i < 32
    · have : (decide (f.lo ≤ i) && decide (i ≤ f.hi)) = false := by simpa using hi
      simp [hb, this]
    · simp [BitVec.getLsbD_of_ge a i (by omega)]
  · rfl

theorem RegField.write_inside (f : RegField) (c : Bool) (w a : Word) (i : Nat) (hf : f.lo ≤ f.hi ∧ f.hi < 32) (hi : f.lo ≤ i ∧ i ≤ f.hi) :
    (f.write c w a).getLsbD i = f.bitWritten c (a.getLsbD i) (w.getLsbD i) := by
  cases hacc : f.acc
  case rw =>
    simp only [RegField.write, RegField.bitWritten, hacc]
    split
    · rfl
    · rw [getLsbD_setBits _ _ _ _ _ hf.2 hf.1, if_pos hi, testBit_bits]
      simp [show i - f.lo < f.hi + 1 - f.lo by omega, show f.lo + (i - f.lo) = i by omega]
  case w1c =>
    simp only [RegField.write, RegField.bitWritten, hacc]
    rw [BitVec.getLsbD_and, BitVec.getLsbD_not, BitVec.getLsbD_and, getLsbD_maskOf _ _ _ hf.2 hf.1]
    simp [hi.1, hi.2, show i < 32 by omega]
  all_goals simp only [RegField.write, RegField.bitWritten, hacc]

/-! ### All the fields of a write -/

theorem foldl_write_outside (l : List RegField) (c : Bool) (w a : Word) (i : Nat) (hl : ∀ f ∈ l, f.lo ≤ f.hi ∧ f.hi < 32)
    (hi : ∀ f ∈ l, ¬ (f.lo ≤ i ∧ i ≤ f.hi)) : (l.foldl (RegField.write c w) a).getLsbD i = a.getLsbD i := by
  induction l generalizing a with
  | nil => rfl
  | cons g t ih =>
    rw [List.foldl_cons, ih _ (fun f hf => hl f (by simp [hf])) (fun f hf => hi f (by simp [hf])),
      g.write_outside c w a i (hl g (by simp)) (hi g (by simp))]

theorem foldl_write_inside (l : List RegField) (c : Bool) (w a : Word) (i : Nat) (hl : ∀ f ∈ l, f.lo ≤ f.hi ∧ f.hi < 32)
    (hp : l.Pairwise RegField.Apart) (f : RegField) (hf : f ∈ l) (hi : f.lo ≤ i ∧ i ≤ f.hi) :
    (l.foldl (RegField.write c w) a).getLsbD i = f.bitWritten c (a.getLsbD i) (w.getLsbD i) := by
  induction l generalizing a with
  | nil => simp at hf
  | cons g t ih =>
    obtain ⟨hg, ht⟩ := List.pairwise_cons.mp hp
    have hlt : ∀ f ∈ t, f.lo ≤ f.hi ∧ f.hi < 32 := fun f hf => hl f (by simp [hf])
    rw [List.foldl_cons]
    rcases List.mem_cons.mp hf with rfl | hf
    · rw [foldl_write_outside t c w _ i hlt, f.write_inside c w a i (hl f (by simp)) hi]
      intro h hh hin
      rcases hg h hh with h' | h' <;> omega
    · rw [ih _ hlt ht hf, g.write_outside c w a i (hl g (by simp))]
      intro hin
      rcases hg f hf with h' | h' <;> omega

/-- A write’s effect on a bit of a field. -/
theorem RegKind.write_bit {k : RegKind} (hk : k.Wf) (c : Bool) (old w : Word) {f : RegField} (hf : f ∈ k.fields) {i : Nat} (hi : f.lo ≤ i ∧ i ≤ f.hi) :
    (k.write c old w).getLsbD i = f.bitWritten c (old.getLsbD i) (w.getLsbD i) :=
  foldl_write_inside k.fields c w old i hk.1 hk.2 f hf hi

/-- An RW field takes what is written, a configuration field in CONFIG only (R7, R12). -/
theorem RegKind.write_rw {k : RegKind} (hk : k.Wf) (c : Bool) (old w : Word) {f : RegField} (hf : f ∈ k.fields) (ha : f.acc = .rw)
    (hc : f.cfg = false ∨ c = true) : bits (k.write c old w) f.hi f.lo = bits w f.hi f.lo := by
  refine bits_congr fun i h1 h2 => ?_
  rw [RegKind.write_bit hk c old w hf ⟨h1, h2⟩]
  rcases hc with hc | hc <;> simp [RegField.bitWritten, ha, hc]

/-- A bit of a W1C field is cleared by a 1 (R7). -/
theorem RegKind.write_w1c {k : RegKind} (hk : k.Wf) (c : Bool) (old w : Word) {f : RegField} (hf : f ∈ k.fields) (ha : f.acc = .w1c) {i : Nat}
    (hi : f.lo ≤ i ∧ i ≤ f.hi) : (k.write c old w).getLsbD i = (old.getLsbD i && !w.getLsbD i) := by
  rw [RegKind.write_bit hk c old w hf hi]
  simp [RegField.bitWritten, ha]

/-- Every other field keeps its content, a configuration field outside CONFIG too (R7, R12). -/
theorem RegKind.write_kept {k : RegKind} (hk : k.Wf) (c : Bool) (old w : Word) {f : RegField} (hf : f ∈ k.fields) (hn : f.acc ≠ .w1c)
    (ha : f.acc ≠ .rw ∨ (f.cfg = true ∧ c = false)) : bits (k.write c old w) f.hi f.lo = bits old f.hi f.lo := by
  refine bits_congr fun i h1 h2 => ?_
  rw [RegKind.write_bit hk c old w hf ⟨h1, h2⟩]
  unfold RegField.bitWritten
  split
  · next h =>
    rcases ha with ha | ⟨ha, hc⟩
    · exact absurd h ha
    · simp [ha, hc]
  · next h => exact absurd h hn
  · rfl

/-- A register without a field that a write reaches keeps its content. -/
theorem RegKind.write_none (k : RegKind) (c : Bool) (old w : Word) (h : ∀ f ∈ k.fields, f.acc ≠ .rw ∧ f.acc ≠ .w1c) : k.write c old w = old := by
  unfold RegKind.write
  generalize k.fields = l at h
  induction l generalizing old with
  | nil => rfl
  | cons g t ih =>
    have hg : g.write c w old = old := by
      unfold RegField.write
      obtain ⟨h1, h2⟩ := h g (by simp)
      split
      · next e => exact absurd e h1
      · next e => exact absurd e h2
      · rfl
    rw [List.foldl_cons, hg, ih _ (fun f hf => h f (by simp [hf]))]

/-! ### Events of the same core clock (R8) -/

/-- A register without a W1C field takes the word as it is written. -/
theorem RegKind.lessEvents_self (k : RegKind) (set w : Word) (h : ∀ f ∈ k.fields, f.acc ≠ .w1c) : k.lessEvents set w = w := by
  unfold RegKind.lessEvents
  generalize k.fields = l at h
  induction l with
  | nil => rfl
  | cons g t ih => rw [List.foldl_cons, if_neg (h g (by simp)), ih (fun f hf => h f (by simp [hf]))]

/-- What an event’s bits take from the word written, as a write to W1C fields. -/
theorem RegKind.lessEvents_eq (k : RegKind) (set w : Word) :
    k.lessEvents set w = (k.fields.filter (fun f => f.acc = .w1c)).foldl (RegField.write true set) w := by
  unfold RegKind.lessEvents
  generalize k.fields = l
  induction l generalizing w with
  | nil => rfl
  | cons g t ih =>
    by_cases hg : g.acc = .w1c
    · rw [List.foldl_cons, if_pos hg, ih, List.filter_cons_of_pos (by simpa using hg), List.foldl_cons, RegField.write, hg]
    · rw [List.foldl_cons, if_neg hg, ih, List.filter_cons_of_neg (by simpa using hg)]

theorem RegKind.lessEvents_w1c {k : RegKind} (hk : k.Wf) (set w : Word) {f : RegField} (hf : f ∈ k.fields) (ha : f.acc = .w1c) {i : Nat}
    (hi : f.lo ≤ i ∧ i ≤ f.hi) : (k.lessEvents set w).getLsbD i = (w.getLsbD i && !set.getLsbD i) := by
  rw [k.lessEvents_eq, foldl_write_inside _ true set w i (fun g hg => hk.1 g (List.mem_filter.mp hg).1) (hk.2.filter _) f
    (List.mem_filter.mpr ⟨hf, by simpa using ha⟩) hi]
  simp [RegField.bitWritten, ha]

end Sys2Proof.Machine
end

section
/-! PROOFS. A write over PCIe (R6–R8, R10, R12): which function of the device it is, and what the register itself takes. -/

namespace Sys2Proof.Machine

/-! ### A command of the main die -/

/-- A command whose meaning is `f` on a running die answers what `f` makes of the device. -/
theorem answers_of_onLive {i : Instr} {s : State} {f : Dev → Dev} (hs : s.live) (hi : exec i s = onLive f s) : Answers i s (f s.start) := by
  rw [Answers, hi, onLive_eq f s hs]
  rfl

theorem answers_registerWrite {s : State} (hs : s.live) (a n : Nat) (w : Word) : Answers (.registerWrite a n w) s (s.start.hostWriteAt a n w) :=
  answers_of_onLive (f := fun d => d.hostWriteAt a n w) hs rfl

theorem answers_w1cWrite {s : State} (hs : s.live) (a : Nat) (w : Word) : Answers (.w1cWrite a w) s (s.start.hostWriteAt a 4 w) :=
  answers_of_onLive (f := fun d => d.hostWriteAt a 4 w) hs rfl

/-- Another width or alignment is aborted (R6). -/
theorem Dev.hostWriteAt_abort {s : Dev} (hs : s.inReset = false) {a n : Nat} (w : Word) (h : n ≠ 4 ∨ a % 4 ≠ 0) : s.hostWriteAt a n w = s.send .abort := by
  simp [Dev.hostWriteAt, hs, h]

theorem Dev.hostWriteAt_bar0 {s : Dev} (hs : s.inReset = false) {a : Nat} (w : Word) (h4 : a % 4 = 0) (ha : a < 0x10000) :
    s.hostWriteAt a 4 w = s.writeReg a w := by
  simp [Dev.hostWriteAt, hs, h4, ha]

theorem Dev.hostWriteAt_bar2 {s : Dev} (hs : s.inReset = false) {j : Nat} (w : Word) (hj : j < 1024) :
    s.hostWriteAt (0x10000 + 4 * j) 4 w = s.msixWrite (4 * j) w := by
  have h4 : (0x10000 + 4 * j) % 4 = 0 := by omega
  have hlo : ¬ 0x10000 + 4 * j < 0x10000 := by omega
  have hhi : 0x10000 + 4 * j < 0x11000 := by omega
  simp only [Dev.hostWriteAt, hs, h4, hlo, hhi, ne_eq, not_true_eq_false, or_self, if_false, if_true, Bool.false_eq_true, Nat.add_sub_cancel_left]

theorem Dev.hostWriteAt_control {s : Dev} (hs : s.inReset = false) (w : Word) : s.hostWriteAt 0x20000 4 w = s.msixControl w := by
  simp [Dev.hostWriteAt, hs]

/-- Nothing is at an unassigned address (R10). -/
theorem Dev.writeReg_none (s : Dev) {a : Nat} (w : Word) (h : findReg a = none) (hd : ¬ (0x8000 ≤ a ∧ a < 0x8400)) : s.writeReg a w = s := by
  simp [Dev.writeReg, hd, h]

/-- Nor beside the two words of a doorbell. -/
theorem Dev.writeReg_besideDoorbell (s : Dev) {a : Nat} (w : Word) (hd : 0x8000 ≤ a ∧ a < 0x8400) (ha : 8 ≤ a % 16) : s.writeReg a w = s := by
  have h0 : a % 16 ≠ 0 := by omega
  have h4 : a % 16 ≠ 4 := by omega
  simp [Dev.writeReg, hd, h0, h4]

theorem Dev.writeReg_some (s : Dev) {a : Nat} {k : RegKind} (w : Word) (h : findReg a = some k) :
    s.writeReg a w = if a = Reg.HIF_AQ_CFG then s.aqWrite w else if isVault a then s.vaultWrite k a w
      else let t := (s.configError k (s.reg a) w).beforeWritten k a w
        (t.setReg a (k.write (t.st == stCONFIG) (s.reg a) (t.takenAs a (t.afterEvents k a w)))).wrote a (s.reg a) (t.afterEvents k a w) s.evtMasked := by
  have := findReg_lt h
  have hd : ¬ (0x8000 ≤ a ∧ a < 0x8400) := by omega
  simp only [Dev.writeReg, hd, if_false, h]

/-! ### The note of the clock’s events (R8) -/

@[simp] theorem Dev.clkEvents_setReg (s : Dev) (o a : Nat) (w : Word) : (s.setReg o w).clkEvents a = s.clkEvents a := rfl

theorem Dev.clkEvents_setClkEvents_same (s : Dev) (a : Nat) (e : Word × Word) : (s.setClkEvents a e).clkEvents a = some e := by
  simp only [Dev.clkEvents, Dev.setClkEvents, if_true, List.find?_append]
  have hnone : (if s.evt.clk = s.clocks then s.evt.regs.filter (fun x => x.1 != a) else []).find? (fun x => x.1 == a) = none := by
    rw [List.find?_eq_none]
    intro x hx
    split at hx
    · simpa using (List.mem_filter.mp hx).2
    · simp at hx
  simp [hnone]

theorem find?_filter_ne {β : Type} (l : List (Nat × β)) {o a : Nat} (h : o ≠ a) :
    (l.filter (fun x => x.1 != a)).find? (fun x => x.1 == o) = l.find? (fun x => x.1 == o) := by
  rw [List.find?_filter]
  congr 1
  funext x
  by_cases hx : x.1 = o <;> simp [hx, h]

theorem Dev.clkEvents_setClkEvents_ne (s : Dev) {a o : Nat} (e : Word × Word) (h : o ≠ a) : (s.setClkEvents a e).clkEvents o = s.clkEvents o := by
  have ha : (a == o) = false := by simpa using Ne.symm h
  simp only [Dev.clkEvents, Dev.setClkEvents, if_true]
  split
  · simp [List.find?_append, find?_filter_ne _ h, ha]
  · simp [ha]

theorem Dev.clkEvents_raise_ne (s : Dev) (f : Fld) {o : Nat} (h : o ≠ f.off) : (s.raise f).clkEvents o = s.clkEvents o :=
  s.clkEvents_setClkEvents_ne _ h

/-! ### A message, an event, a flag of HIF_FLAG -/

/-- An MSI-X message is sent, or its pending bit set. -/
theorem Dev.msix_frame (s : Dev) (v : Nat) : s.msix v = { s with host := { s.host with pba := (s.msix v).host.pba }, out := (s.msix v).out } := by
  unfold Dev.msix
  split
  · rfl
  · split <;> rfl

theorem Dev.event_frame (s : Dev) (f : Fld) : s.event f =
    { s with regs := (s.event f).regs, evt := (s.event f).evt, host := { s.host with pba := (s.event f).host.pba }, out := (s.event f).out } := by
  unfold Dev.event
  simp only [onlyIf]
  split
  · rw [Dev.msix_frame]
    rfl
  · rfl

theorem Dev.hifFlag_frame (s : Dev) (f : Fld) : s.hifFlag f =
    { s with regs := (s.hifFlag f).regs, evt := (s.hifFlag f).evt, host := { s.host with pba := (s.hifFlag f).host.pba }, out := (s.hifFlag f).out } := by
  unfold Dev.hifFlag
  rw [Dev.event_frame]
  rfl

@[simp] theorem Dev.msix_clkEvents (s : Dev) (v o : Nat) : (s.msix v).clkEvents o = s.clkEvents o := by rw [Dev.msix_frame]; rfl

theorem Dev.event_clkEvents_ne (s : Dev) (f : Fld) {o : Nat} (h : o ≠ f.off) : (s.event f).clkEvents o = s.clkEvents o := by
  unfold Dev.event
  simp only [onlyIf]
  split
  · rw [Dev.msix_clkEvents, s.clkEvents_raise_ne f h]
  · rw [s.clkEvents_raise_ne f h]

theorem Dev.hifFlag_clkEvents_ne (s : Dev) (f : Fld) {o : Nat} (h : o ≠ f.off) (he : o ≠ Reg.HIF_EVT) : (s.hifFlag f).clkEvents o = s.clkEvents o := by
  rw [Dev.hifFlag, Dev.event_clkEvents_ne _ _ he, s.clkEvents_raise_ne f h]

theorem Dev.hifFlag_regs (s : Dev) (f : Fld) (hf : f.off = Reg.HIF_FLAG) : RegsBut s (s.hifFlag f) [Reg.HIF_FLAG, Reg.HIF_EVT] :=
  (RegsBut.refl s _).hifFlag f (by simp [hf]) (by simp)

theorem Dev.isOn_event_ne (s : Dev) (f g : Fld) (h : g.off ≠ f.off) : (s.event f).isOn g = s.isOn g := by
  have := ((RegsBut.refl s [f.off]).event f (by simp)) g.off (by simpa using h)
  simp only [Dev.isOn, Dev.get, this]

/-- The flag is set. -/
theorem Dev.isOn_hifFlag (s : Dev) (f : Fld) (hh : f.hi < 32) (hl : f.lo = f.hi) (hv : f.off ≠ Reg.HIF_EVT) : (s.hifFlag f).isOn f = true := by
  rw [Dev.hifFlag, Dev.isOn_event_ne _ _ _ hv, Dev.isOn_raise_same _ _ hh hl]

end Sys2Proof.Machine
end

section
/-! PROOFS. What a register takes of a write, before anything the write sets off (R7, R8, R12). -/

namespace Sys2Proof.Machine

/-! ### A refused configuration field -/

@[simp] theorem RegKind.cfgDiffers_of_none {k : RegKind} (h : k.fields.all (fun f => !f.cfg) = true) (old w : Word) : k.cfgDiffers old w = false := by
  rw [RegKind.cfgDiffers, List.any_eq_false]
  intro f hf
  have := List.all_eq_true.mp h f hf
  simp_all

theorem findReg_flag_noCfg {k : RegKind} (h : findReg Reg.HIF_FLAG = some k) : k.fields.all (fun f => !f.cfg) = true := by
  have : ∀ k ∈ findReg Reg.HIF_FLAG, k.fields.all (fun f => !f.cfg) = true := by decide
  exact this k h

theorem findReg_evt_noCfg {k : RegKind} (h : findReg Reg.HIF_EVT = some k) : k.fields.all (fun f => !f.cfg) = true := by
  have : ∀ k ∈ findReg Reg.HIF_EVT, k.fields.all (fun f => !f.cfg) = true := by decide
  exact this k h

/-- A register that refuses a field is neither HIF_FLAG nor HIF_EVT: those have no configuration field. -/
theorem ne_flag_of_cfgDiffers {a : Nat} {k : RegKind} {old w : Word} (h : findReg a = some k) (hc : k.cfgDiffers old w = true) :
    a ≠ Reg.HIF_FLAG ∧ a ≠ Reg.HIF_EVT := by
  refine ⟨?_, ?_⟩
  · rintro rfl
    simp [RegKind.cfgDiffers_of_none (findReg_flag_noCfg h)] at hc
  · rintro rfl
    simp [RegKind.cfgDiffers_of_none (findReg_evt_noCfg h)] at hc

/-- A refused write sets HIF_WERR_F; no other does anything. -/
theorem Dev.configError_cases (s : Dev) (k : RegKind) (old w : Word) :
    (s.st ≠ stCONFIG ∧ k.cfgDiffers old w = true ∧ s.configError k old w = s.hifFlag Reg.HIF_FLAG_HIF_WERR_F) ∨
    ((s.st = stCONFIG ∨ k.cfgDiffers old w = false) ∧ s.configError k old w = s) := by
  unfold Dev.configError
  by_cases hs : s.st = stCONFIG
  · simp [hs]
  · cases hc : k.cfgDiffers old w <;> simp [onlyIf, hs]

theorem Dev.configError_regs (s : Dev) (k : RegKind) (old w : Word) : RegsBut s (s.configError k old w) [Reg.HIF_FLAG, Reg.HIF_EVT] := by
  rcases s.configError_cases k old w with ⟨-, -, h⟩ | ⟨-, h⟩ <;> rw [h]
  · exact s.hifFlag_regs _ rfl
  · exact RegsBut.refl s _

theorem Dev.configError_frame (s : Dev) (k : RegKind) (old w : Word) : s.configError k old w =
    { s with regs := (s.configError k old w).regs, evt := (s.configError k old w).evt,
             host := { s.host with pba := (s.configError k old w).host.pba }, out := (s.configError k old w).out } := by
  rcases s.configError_cases k old w with ⟨-, -, h⟩ | ⟨-, h⟩ <;> rw [h]
  rw [Dev.hifFlag_frame]

theorem Dev.configError_clkEvents {s : Dev} {a : Nat} {k : RegKind} (h : findReg a = some k) (old w : Word) :
    (s.configError k old w).clkEvents a = s.clkEvents a := by
  rcases s.configError_cases k old w with ⟨-, hc, he⟩ | ⟨-, he⟩ <;> rw [he]
  obtain ⟨h1, h2⟩ := ne_flag_of_cfgDiffers h hc
  exact s.hifFlag_clkEvents_ne _ h1 h2

theorem Dev.configError_werr {s : Dev} {k : RegKind} {old w : Word} (hs : s.st ≠ stCONFIG) (hc : k.cfgDiffers old w = true) :
    (s.configError k old w).isOn Reg.HIF_FLAG_HIF_WERR_F = true := by
  rcases s.configError_cases k old w with ⟨-, -, he⟩ | ⟨h, -⟩
  · rw [he]
    exact s.isOn_hifFlag _ (by decide) (by decide) (by decide)
  · rcases h with h | h
    · exact absurd h hs
    · rw [hc] at h
      exact absurd h (by decide)

/-! ### The note of the clock’s events takes the write too -/

@[simp] theorem Dev.beforeWritten_regs (s : Dev) (k : RegKind) (a : Nat) (w : Word) : (s.beforeWritten k a w).regs = s.regs := by
  unfold Dev.beforeWritten
  split <;> rfl

theorem Dev.beforeWritten_frame (s : Dev) (k : RegKind) (a : Nat) (w : Word) :
    s.beforeWritten k a w = { s with evt := (s.beforeWritten k a w).evt } := by
  unfold Dev.beforeWritten
  split <;> rfl

theorem Dev.afterEvents_beforeWritten (s : Dev) (k : RegKind) (a : Nat) (w : Word) : (s.beforeWritten k a w).afterEvents k a w = s.afterEvents k a w := by
  unfold Dev.beforeWritten Dev.afterEvents
  cases he : s.clkEvents a with
  | none => simp [he]
  | some e => simp [Dev.clkEvents_setClkEvents_same]

theorem Dev.afterEvents_configError {s : Dev} {a : Nat} {k : RegKind} (h : findReg a = some k) (k' : RegKind) (old v w : Word) :
    (s.configError k old v).afterEvents k' a w = s.afterEvents k' a w := by
  simp only [Dev.afterEvents, Dev.configError_clkEvents h]

/-! ### The register given its value -/

/-- A register after a write, before what the write sets off. -/
def Dev.putReg (s : Dev) (k : RegKind) (a : Nat) (w : Word) : Dev :=
  ((s.configError k (s.reg a) w).beforeWritten k a w).setReg a
    (k.write (s.st == stCONFIG) (s.reg a) (s.takenAs a (s.afterEvents k a w)))

theorem Dev.reg_of_regs {s t : Dev} (h : t.regs = s.regs) (o : Nat) : t.reg o = s.reg o := by rw [Dev.reg, Dev.reg, h]

theorem Dev.get_of_reg {s t : Dev} {f : Fld} (h : t.reg f.off = s.reg f.off) : t.get f = s.get f := by rw [Dev.get, Dev.get, h]

theorem Dev.isOn_of_reg {s t : Dev} {f : Fld} (h : t.reg f.off = s.reg f.off) : t.isOn f = s.isOn f := by rw [Dev.isOn, Dev.isOn, Dev.get_of_reg h]

theorem Dev.writtenTo_regs (s : Dev) (k : RegKind) (a : Nat) (w : Word) :
    RegsBut s ((s.configError k (s.reg a) w).beforeWritten k a w) [Reg.HIF_FLAG, Reg.HIF_EVT] :=
  (s.configError_regs k (s.reg a) w).same (Dev.beforeWritten_regs _ _ _ _)

/-- The register’s own write, then what it sets off. -/
theorem Dev.writeReg_putReg (s : Dev) {a : Nat} {k : RegKind} (w : Word) (h : findReg a = some k) (haq : a ≠ Reg.HIF_AQ_CFG) (hv : isVault a = false) :
    s.writeReg a w = (s.putReg k a w).wrote a (s.reg a) (s.afterEvents k a w) s.evtMasked := by
  have ht := s.writtenTo_regs k a w
  have hst : ((s.configError k (s.reg a) w).beforeWritten k a w).st = s.st := Dev.get_of_reg (ht _ (by decide))
  have hrate : ((s.configError k (s.reg a) w).beforeWritten k a w).get Reg.FRM_CFG_RATE = s.get Reg.FRM_CFG_RATE := Dev.get_of_reg (ht _ (by decide))
  rw [s.writeReg_some w h, if_neg haq, if_neg (by simp [hv])]
  simp only [Dev.putReg, Dev.takenAs, Dev.afterEvents_beforeWritten, Dev.afterEvents_configError h, hst, hrate]

section
variable (s : Dev) (k : RegKind) (a : Nat) (w : Word)

/-- Beside registers the write touches the note of events and what HIF_WERR_F raises. -/
theorem Dev.putReg_frame : s.putReg k a w =
    { s with regs := (s.putReg k a w).regs, evt := (s.putReg k a w).evt, host := { s.host with pba := (s.putReg k a w).host.pba },
             out := (s.putReg k a w).out } := by
  unfold Dev.putReg
  rw [Dev.beforeWritten_frame, Dev.configError_frame]
  rfl

@[simp] theorem Dev.putReg_reg : (s.putReg k a w).reg a = k.write (s.st == stCONFIG) (s.reg a) (s.takenAs a (s.afterEvents k a w)) :=
  Dev.reg_setReg_same _ _ _

theorem Dev.putReg_regs : RegsBut s (s.putReg k a w) [a, Reg.HIF_FLAG, Reg.HIF_EVT] :=
  (RegsBut.mono (s.writtenTo_regs k a w) (by simp)).setReg _ _ (by simp)

theorem Dev.putReg_regs_accepted (h : s.st = stCONFIG ∨ k.cfgDiffers (s.reg a) w = false) : RegsBut s (s.putReg k a w) [a] := by
  have he : s.configError k (s.reg a) w = s := by
    rcases s.configError_cases k (s.reg a) w with ⟨h1, h2, -⟩ | ⟨-, he⟩
    · simp_all
    · exact he
  unfold Dev.putReg
  rw [he]
  exact RegsBut.setReg (RegsBut.same (RegsBut.refl s _) (Dev.beforeWritten_regs _ _ _ _)) _ _ (by simp)

theorem Dev.putReg_werr (hk : findReg a = some k) (hs : s.st ≠ stCONFIG) (hc : k.cfgDiffers (s.reg a) w = true) :
    (s.putReg k a w).isOn Reg.HIF_FLAG_HIF_WERR_F = true := by
  have hne : Reg.HIF_FLAG ≠ a := (ne_flag_of_cfgDiffers hk hc).1.symm
  rw [← s.configError_werr hs hc]
  apply Dev.isOn_of_reg
  exact (Dev.reg_setReg_ne _ _ _ _ hne).trans (Dev.reg_of_regs (Dev.beforeWritten_regs _ _ _ _) _)

end

/-! ### Its W1C bits and its fields -/

/-- Registers whose value is cut to a range have no W1C field. -/
theorem Dev.takenAs_of_w1c {s : Dev} {a : Nat} {k : RegKind} (h : findReg a = some k) (ha : actsOnWrite a = false) {f : RegField} (hf : f ∈ k.fields)
    (hw : f.acc = .w1c) (v : Word) : s.takenAs a v = v := by
  have sel : ∀ o ∈ [Reg.HIF_POOL_SEL, Reg.ADC_STSEL, Reg.CMP_STSEL, Reg.MTR_ASEL], ∀ k ∈ findReg o, ∀ f ∈ k.fields, f.acc ≠ .w1c := by decide
  have hsel : a ∉ [Reg.HIF_POOL_SEL, Reg.ADC_STSEL, Reg.CMP_STSEL, Reg.MTR_ASEL] := fun hm => sel a hm k h f hf hw
  simp only [List.mem_cons, List.not_mem_nil, or_false, not_or] at hsel
  obtain ⟨h1, h2, h3, h4⟩ := hsel
  have hfrm : a ≠ Reg.FRM_CFG := by rintro rfl; exact absurd ha (by decide)
  have hclk : a ≠ Reg.CLK_CFG := by rintro rfl; exact absurd ha (by decide)
  have hhb : ¬ (0x2A00 ≤ a ∧ a < 0x2D00 ∧ a % 64 = 4) := by
    rintro ⟨x, y, -⟩
    simp [actsOnWrite, x, y] at ha
  have hring : ¬ (0x3100 ≤ a ∧ a < 0x3200 ∧ a % 16 = 0) := by
    rintro ⟨x, y, -⟩
    simp [actsOnWrite, x, y] at ha
  simp [Dev.takenAs, h1, h2, h3, h4, hfrm, hclk, hhb, hring]

/-- A W1C bit of the word that acts: written as 1, and no event of the clock has set it (R8). -/
theorem Dev.bit_afterEvents {s : Dev} {a : Nat} {k : RegKind} (hk : k.Wf) {f : RegField} (hf : f ∈ k.fields) (hw : f.acc = .w1c) (w : Word) {b : Nat}
    (hb : f.lo ≤ b ∧ b ≤ f.hi) : bit (s.afterEvents k a w) b = (bit w b && !((s.clkEvents a).elim false (fun e => bit e.2 b))) := by
  unfold Dev.afterEvents
  cases s.clkEvents a with
  | none => simp
  | some e => simp only [Option.elim, bit_eq_getLsbD, RegKind.lessEvents_w1c hk _ _ hf hw hb]

/-- Without a W1C field the word acts as it is written. -/
theorem Dev.afterEvents_self (s : Dev) {k : RegKind} (a : Nat) (w : Word) (h : ∀ f ∈ k.fields, f.acc ≠ .w1c) : s.afterEvents k a w = w := by
  unfold Dev.afterEvents
  split
  · exact k.lessEvents_self _ _ h
  · rfl

/-! ### A write that sets nothing off -/

section
variable (s : Dev) {a : Nat} (old w : Word)

theorem Dev.wroteHif_idle (before : Nat)
    (h : a ∉ [Reg.HIF_EVT, Reg.HIF_EVTEN, Reg.HIF_MBX_CTL, Reg.HIF_MBX_ACK, Reg.HIF_POOL_LOW, Reg.HIF_PTPOFS_LO, Reg.HIF_PTPOFS_HI]) :
    s.wroteHif a old w before = s := by
  simp only [List.mem_cons, List.not_mem_nil, or_false, not_or] at h
  obtain ⟨h1, h2, h3, h4, h5, h6, h7⟩ := h
  rw [Dev.wroteHif, if_neg h1, if_neg h2, if_neg h3, if_neg h4, if_neg h5, if_neg h6, if_neg h7]

theorem Dev.wroteFrame_idle (h : a ∉ [Reg.CLK_CFG, Reg.FRM_CFG, Reg.FRM_FLAG, Reg.FRM_PEAK]) : s.wroteFrame a old w = s := by
  simp only [List.mem_cons, List.not_mem_nil, or_false, not_or] at h
  obtain ⟨h1, h2, h3, h4⟩ := h
  rw [Dev.wroteFrame, if_neg h1, if_neg h2, if_neg h3, if_neg h4]

theorem Dev.wroteFront_idle (h : a ∉ [Reg.ADC_CTL, Reg.ADC_CALCTL, Reg.ADC_JSOFT, Reg.ANG_CFG, Reg.ANG_CTL, Reg.CE_SPP_CFG])
    (hc : ¬ (0x1800 ≤ a ∧ a < 0x18C0)) : s.wroteFront a old w = s := by
  simp only [List.mem_cons, List.not_mem_nil, or_false, not_or] at h
  obtain ⟨h1, h2, h3, h4, h5, h6⟩ := h
  rw [Dev.wroteFront, if_neg h1, if_neg h2, if_neg h3, if_neg (fun hx => hc ⟨hx.1, hx.2.1⟩), if_neg h4, if_neg h5, if_neg h6]

theorem Dev.wroteMod_idle (h : a ∉ [Reg.MOD_COMMIT, Reg.MOD_FLTCLR, Reg.THK_CMD]) (hb : ¬ (0x2A00 ≤ a ∧ a < 0x2D00))
    (hr : ¬ (0x3100 ≤ a ∧ a < 0x3200)) : s.wroteMod a old w = s := by
  simp only [List.mem_cons, List.not_mem_nil, or_false, not_or] at h
  obtain ⟨h1, h2, h3⟩ := h
  rw [Dev.wroteMod, if_neg h1, if_neg h2, if_neg hb, if_neg (fun hx => hr ⟨hx.1, hx.2.1⟩), if_neg h3]

theorem Dev.wroteSafe_idle (h : a ∉ [Reg.PRT_LAT_LO, Reg.PRT_LAT_HI, Reg.PRT_CFG, Reg.PWR_PEAK, Reg.SNP_REL]) : s.wroteSafe a old w = s := by
  simp only [List.mem_cons, List.not_mem_nil, or_false, not_or] at h
  obtain ⟨h1, h2, h3, h4, h5⟩ := h
  rw [Dev.wroteSafe, if_neg (not_or.mpr ⟨h1, h2⟩), if_neg h3, if_neg h4, if_neg h5]

/-- The registers outside the arrays whose write sets something off. -/
def actList : List Nat :=
  [Reg.HIF_EVT, Reg.HIF_EVTEN, Reg.HIF_MBX_CTL, Reg.HIF_MBX_ACK, Reg.HIF_POOL_LOW, Reg.HIF_PTPOFS_LO, Reg.HIF_PTPOFS_HI, Reg.HIF_AQ_CFG,
   Reg.CLK_CFG, Reg.FRM_CFG, Reg.FRM_FLAG, Reg.FRM_PEAK, Reg.ADC_CTL, Reg.ADC_CALCTL, Reg.ADC_JSOFT, Reg.ANG_CFG, Reg.ANG_CTL,
   Reg.CE_SPP_CFG, Reg.MOD_COMMIT, Reg.MOD_FLTCLR, Reg.THK_CMD, Reg.PRT_LAT_LO, Reg.PRT_LAT_HI, Reg.PRT_CFG, Reg.PWR_PEAK, Reg.SNP_REL]

theorem Dev.wrote_idle (ha : actsOnWrite a = false) (before : Nat) : s.wrote a old w before = s := by
  simp only [actsOnWrite, Bool.or_eq_false_iff, List.contains_eq_mem, decide_eq_false_iff_not, Bool.and_eq_false_iff] at ha
  obtain ⟨⟨⟨⟨⟨hl, -⟩, hcmp⟩, hhb⟩, hring⟩, -⟩ := ha
  have sub : ∀ m : List Nat, (∀ x ∈ m, x ∈ actList) → a ∉ m := fun m hm hx => hl (hm a hx)
  unfold Dev.wrote
  split
  · exact s.wroteHif_idle old w before (sub _ (by decide))
  · split
    · exact s.wroteFrame_idle old w (sub _ (by decide))
    · split
      · exact s.wroteFront_idle old w (sub _ (by decide)) (by omega)
      · split
        · exact s.wroteMod_idle old w (sub _ (by decide)) (by omega) (by omega)
        · exact s.wroteSafe_idle old w (sub _ (by decide))

end

end Sys2Proof.Machine
end

section
/-! PROOFS. O40, the writes that set nothing off: aborted, unassigned, and the registers without an action (R6–R8, R10, R12). -/

namespace Sys2Proof.Machine

/-- A write of another width or alignment is aborted (R6). -/
theorem write_abort {s : State} (hs : s.live) (a n : Nat) (w : Word) (h : n ≠ 4 ∨ a % 4 ≠ 0) :
    ∃ d, Answers (.registerWrite a n w) s d ∧ d = { s.dev with out := [.abort] } := by
  refine ⟨_, answers_registerWrite hs a n w, ?_⟩
  rw [Dev.hostWriteAt_abort (s := s.start) hs w h]
  rfl

/-- Both commands of a register write answer what the write makes of the device. -/
theorem answers_write {s : State} (hs : s.live) {a : Nat} (w : Word) (h4 : a % 4 = 0) (ha : a < 0x10000) {i : Instr}
    (hi : i ∈ [Instr.registerWrite a 4 w, .w1cWrite a w]) : Answers i s (s.start.writeReg a w) := by
  rw [← Dev.hostWriteAt_bar0 (s := s.start) hs w h4 ha]
  simp only [List.mem_cons, List.not_mem_nil, or_false] at hi
  rcases hi with rfl | rfl
  · exact answers_registerWrite hs a 4 w
  · exact answers_w1cWrite hs a w

/-- The same for a register of the map. -/
theorem answers_writeReg {s : State} (hs : s.live) {a : Nat} {k : RegKind} (w : Word) (h4 : a % 4 = 0) (hk : findReg a = some k) :
    Answers (.registerWrite a 4 w) s (s.start.writeReg a w) :=
  answers_write hs w h4 (Nat.lt_trans (findReg_lt hk) (by decide)) (List.mem_cons_self ..)

/-- A write to an unassigned offset does nothing (R10). -/
theorem write_unassigned {s : State} (hs : s.live) (a : Nat) (w : Word) (h4 : a % 4 = 0)
    (h : (findReg a = none ∧ (a < 0x8000 ∨ 0x8400 ≤ a ∧ a < 0x10000)) ∨ (0x8000 ≤ a ∧ a < 0x8400 ∧ 8 ≤ a % 16)) :
    ∀ i ∈ [Instr.registerWrite a 4 w, .w1cWrite a w], Answers i s s.start := by
  intro i hi
  have hans := answers_write hs w h4 (by omega) hi
  have hid : s.start.writeReg a w = s.start := by
    rcases h with ⟨hk, hr⟩ | ⟨hlo, hhi, h8⟩
    · exact s.start.writeReg_none w hk (by omega)
    · exact s.start.writeReg_besideDoorbell w ⟨hlo, hhi⟩ h8
  rwa [hid] at hans

/-- A write to a register without an action is its own write alone. -/
theorem Dev.writeReg_idle (s : Dev) {a : Nat} {k : RegKind} (w : Word) (hk : findReg a = some k) (ha : actsOnWrite a = false) :
    s.writeReg a w = s.putReg k a w := by
  have haq : a ≠ Reg.HIF_AQ_CFG := by rintro rfl; exact absurd ha (by decide)
  have hv : isVault a = false := by
    simp only [actsOnWrite, Bool.or_eq_false_iff] at ha
    exact ha.1.1.1.1.2
  rw [s.writeReg_putReg w hk haq hv, Dev.wrote_idle _ _ _ ha]

/-- A register without an action: its RW fields take what is written, configuration fields in CONFIG only, its W1C bits are cleared less those that
events of the clock set, the rest stays, and a refused change sets HIF_WERR_F (R7, R8, R12). -/
theorem write_plain {s : State} (hs : s.live) (a : Nat) (w : Word) (k : RegKind) (h4 : a % 4 = 0) (hk : findReg a = some k) (ha : actsOnWrite a = false) :
    ∀ i ∈ [Instr.registerWrite a 4 w, .w1cWrite a w], ∃ d, Answers i s d ∧
    d.reg a = k.write (s.dev.st == stCONFIG) (s.dev.reg a) (s.dev.takenAs a (s.dev.afterEvents k a w)) ∧ RegsBut s.dev d [a, Reg.HIF_FLAG, Reg.HIF_EVT] ∧
    (∀ f ∈ k.fields, f.acc = .w1c → ∀ b, f.lo ≤ b → b ≤ f.hi →
      bit (d.reg a) b = (bit (s.dev.reg a) b && !(bit w b && !((s.dev.clkEvents a).elim false (fun e => bit e.2 b))))) ∧
    (∀ f ∈ k.fields, f.acc = .rw → (f.cfg = false ∨ s.dev.st = stCONFIG) →
      bits (d.reg a) f.hi f.lo = bits (s.dev.takenAs a (s.dev.afterEvents k a w)) f.hi f.lo) ∧
    (∀ f ∈ k.fields, f.acc ≠ .w1c → (f.acc ≠ .rw ∨ (f.cfg = true ∧ s.dev.st ≠ stCONFIG)) →
      bits (d.reg a) f.hi f.lo = bits (s.dev.reg a) f.hi f.lo) ∧
    ((s.dev.st ≠ stCONFIG ∧ k.cfgDiffers (s.dev.reg a) w = true) → d.isOn Reg.HIF_FLAG_HIF_WERR_F = true) ∧
    ((s.dev.st = stCONFIG ∨ k.cfgDiffers (s.dev.reg a) w = false) → RegsBut s.dev d [a]) := by
  intro i hi
  have hwf := findReg_wf hk
  have hreg : (s.start.putReg k a w).reg a = k.write (s.dev.st == stCONFIG) (s.dev.reg a) (s.dev.takenAs a (s.dev.afterEvents k a w)) :=
    s.start.putReg_reg k a w
  have hans := answers_write hs w h4 (Nat.lt_trans (findReg_lt hk) (by decide)) hi
  rw [s.start.writeReg_idle w hk ha] at hans
  refine ⟨_, hans, hreg, s.start.putReg_regs k a w, ?_, ?_, ?_, fun h => s.start.putReg_werr k a w hk h.1 h.2, s.start.putReg_regs_accepted k a w⟩
  · intro f hf hw b h1 h2
    rw [hreg, s.dev.takenAs_of_w1c hk ha hf hw, ← s.dev.bit_afterEvents hwf hf hw w ⟨h1, h2⟩]
    simp only [bit_eq_getLsbD, RegKind.write_w1c hwf _ _ _ hf hw ⟨h1, h2⟩]
  · intro f hf hw hc
    rw [hreg, RegKind.write_rw hwf _ _ _ hf hw (hc.imp_right (by simp))]
  · intro f hf hw hc
    rw [hreg, RegKind.write_kept hwf _ _ _ hf hw (hc.imp_right (by simp))]

end Sys2Proof.Machine
end

section
/-! PROOFS. Which registers the actions of a write touch, block by block. -/

namespace Sys2Proof.Machine

theorem Dev.toBypass_regs (s : Dev) : RegsBut s s.toBypass [Reg.CLK_STAT, Reg.CLK_FLAG] := by
  unfold Dev.toBypass
  exact RegsBut.same (((((RegsBut.refl s _).set _ _ (by decide)).set _ _ (by decide)).set _ _ (by decide)).raise Reg.CLK_FLAG_BYP_F (by decide)) rfl

theorem Dev.bandSearch_regs (s : Dev) : RegsBut s s.bandSearch [Reg.CLK_STAT, Reg.CLK_FLAG] := by
  unfold Dev.bandSearch
  exact RegsBut.same (RegsBut.set ((RegsBut.refl s _).onlyIf _ _ (fun t ht => ht.trans t.toBypass_regs)) Reg.CLK_STAT_PLLST pBAND (by decide)) rfl

theorem Dev.rateChanged_regs (s : Dev) : RegsBut s s.rateChanged [Reg.FRM_PHASE] := by
  have h : RegsBut s (s.setReg Reg.FRM_PHASE (BitVec.ofNat 32 (defaultPhase (s.get Reg.FRM_CFG_RATE)))) [Reg.FRM_PHASE] :=
    (RegsBut.refl s _).setReg _ _ (by decide)
  unfold Dev.rateChanged
  simp only
  split
  · exact h.same rfl
  · exact h

theorem Dev.ovrFlag_regs (s : Dev) (n : Nat) : RegsBut s (s.ovrFlag n) [0x1020, 0x1024] := by
  unfold Dev.ovrFlag Dev.raiseBit
  refine (RegsBut.refl s _).raise _ ?_
  show (if n < 32 then 0x1020 else 0x1024) ∈ [0x1020, 0x1024]
  split <;> simp

theorem Dev.adcStop_regs (s : Dev) : RegsBut s s.adcStop [0x1020, 0x1024, Reg.ADC_CALSTAT] := by
  unfold Dev.adcStop
  exact RegsBut.setB (RegsBut.same ((RegsBut.refl s _).onlyIf _ _ (fun t ht => ht.trans ((t.ovrFlag_regs _).mono (by simp)))) rfl) _ _ (by decide)

@[simp] theorem Dev.adcStart_regs (s : Dev) : s.adcStart.regs = s.regs := rfl

theorem Dev.xWait_regs (s : Dev) : RegsBut s s.xWait [Reg.ANG_STAT] := by
  unfold Dev.xWait
  exact RegsBut.same (((RegsBut.refl s _).set _ _ (by decide)).set Reg.ANG_STAT_INDEXED 0 (by decide)) rfl

theorem Dev.angWritten_regs (s : Dev) (was : Bool) : RegsBut s (s.angWritten was) [Reg.ANG_STAT] := by
  unfold Dev.angWritten
  simp only
  split
  · exact RegsBut.trans (RegsBut.setB (RegsBut.same (RegsBut.refl s _) rfl) _ _ (by decide)) (Dev.xWait_regs _)
  · split
    · exact (RegsBut.refl s _).set _ _ (by decide)
    · exact RegsBut.refl s _

theorem Dev.sppEnable_regs (s : Dev) : RegsBut s s.sppEnable [Reg.CE_SPP_STAT] := by
  unfold Dev.sppEnable
  split
  · split
    · exact RegsBut.set (RegsBut.same (RegsBut.refl s _) rfl) _ _ (by decide)
    · exact RegsBut.refl s _
  · exact (RegsBut.refl s _).set _ _ (by decide)

theorem Dev.cmpWritten_regs (s : Dev) (i : Nat) (old : Word) : RegsBut s (s.cmpWritten i old) [0x18C0, 0x18C4] := by
  unfold Dev.cmpWritten
  simp only
  split
  · split
    · exact RegsBut.same (RegsBut.refl s _) rfl
    · exact RegsBut.refl s _
  · exact RegsBut.same (((RegsBut.refl s _).setB ⟨0x18C0, i, i⟩ _ (by simp)).setB ⟨0x18C4, i, i⟩ false (by simp)) rfl

/-! ### A local channel -/

/-- The registers a write to a local channel’s registers touches beside the one written. -/
def hbRegs (n : Nat) : List Nat := [Reg.MOD_HBn_STAT n, Reg.MOD_HBn_APER n, Reg.MOD_FLAG]

theorem Dev.hbShowQ_regs (s : Dev) (n : Nat) : RegsBut s (s.hbShowQ n) (hbRegs n) :=
  (RegsBut.refl s _).set _ _ (by simp [hbRegs, Reg.MOD_HBn_STAT, Reg.MOD_HBn_STAT_BSQ])

theorem RegsBut.setCh {d e : Dev} {l : List Nat} (h : RegsBut d e l) (n : Nat) (c : HbCh) : RegsBut d (e.setCh n c) l := h.same rfl

theorem Dev.hbModel_regs (s : Dev) (n stamp : Nat) (ends : Bool) : RegsBut s (s.hbModel n stamp ends) (hbRegs n) := by
  unfold Dev.hbModel
  exact ((RegsBut.refl s _).setCh n _).trans (Dev.hbShowQ_regs _ n)

theorem Dev.hbOut_regs (s : Dev) (n stamp out : Nat) : RegsBut s (s.hbOut n stamp out) (hbRegs n) := by
  unfold Dev.hbOut
  simp only
  split
  · exact RegsBut.refl s _
  · exact ((s.hbModel_regs n stamp true).setCh n _).set _ _ (by simp [hbRegs, Reg.MOD_HBn_STAT, Reg.MOD_HBn_STAT_OUT])

theorem Dev.hbDisable_regs (s : Dev) (n : Nat) : RegsBut s (s.hbDisable n) (hbRegs n) := by
  unfold Dev.hbDisable
  exact (s.hbOut_regs n _ 0).setCh n _

theorem Dev.hbSafe_regs (s : Dev) (n stamp : Nat) : RegsBut s (s.hbSafe n stamp) (hbRegs n) := by
  unfold Dev.hbSafe
  simp only
  split
  · exact s.hbOut_regs n stamp 0
  · split
    · exact (RegsBut.refl s _).setCh n _
    · exact (s.hbOut_regs n stamp 3).setCh n _

theorem Dev.hbTransfer_regs (s : Dev) (n clk : Nat) : RegsBut s (s.hbTransfer n clk) (hbRegs n) := by
  have haper : (Reg.MOD_HBn_APER_APERIOD n).off ∈ hbRegs n := by simp [hbRegs, Reg.MOD_HBn_APER, Reg.MOD_HBn_APER_APERIOD]
  have hstat : (Reg.MOD_HBn_STAT_PEND n).off ∈ hbRegs n := by simp [hbRegs, Reg.MOD_HBn_STAT, Reg.MOD_HBn_STAT_PEND]
  have hflag : Reg.MOD_FLAG_SPLITUPD_F.off ∈ hbRegs n := by simp [hbRegs, Reg.MOD_FLAG, Reg.MOD_FLAG_SPLITUPD_F]
  unfold Dev.hbTransfer
  simp only
  split
  · exact (((RegsBut.refl s _).setCh n _).set _ _ haper).onlyIf _ _ (fun t ht => ht.raise Reg.MOD_FLAG_SPLITUPD_F hflag)
  · split
    · exact RegsBut.refl s _
    · exact (((RegsBut.refl s _).setCh n _).setB _ _ hstat).set _ _ haper

theorem Dev.wroteHb_regs (s : Dev) (n r : Nat) (old : Word) : RegsBut s (s.wroteHb n r old) (hbRegs n) := by
  unfold Dev.wroteHb
  simp only
  split
  · split
    · exact RegsBut.onlyIf (s.hbDisable_regs n) _ _ (fun t ht => ht.trans (t.hbTransfer_regs n _))
    · exact (RegsBut.refl s _).onlyIf _ _ (fun t ht => ht.trans (t.hbSafe_regs n _))
  · split
    · exact s.hbShowQ_regs n
    · split
      · exact RegsBut.refl s _
      · (repeat' split) <;> exact (RegsBut.refl s _).setCh n _

/-! ### Discovery -/

theorem Dev.discStart_regs (s : Dev) (r : Nat) : RegsBut s (s.discStart r) [Reg.THK_RINGr_STAT r] := by
  have hst : (Reg.THK_RINGr_STAT_ST r).off ∈ [Reg.THK_RINGr_STAT r] := by simp [Reg.THK_RINGr_STAT, Reg.THK_RINGr_STAT_ST]
  unfold Dev.discStart
  split
  · exact (RegsBut.refl s _).set _ _ hst
  · exact RegsBut.same (((RegsBut.refl s _).setReg _ _ (by simp)).set (Reg.THK_RINGr_STAT_ST r) rsDISCOVER hst) rfl

end Sys2Proof.Machine
end

section
/-! PROOFS. What an operation leaves beside registers: what has been sent, the protection’s own state, and the interface. -/

namespace Sys2Proof.Machine

/-! ### Events of registers -/

section
variable (s : Dev) (f : Fld) (n : Nat)

@[simp] theorem Dev.setCh_out (c : HbCh) : (s.setCh n c).out = s.out := rfl
@[simp] theorem Dev.setCh_prt (c : HbCh) : (s.setCh n c).prt = s.prt := rfl
@[simp] theorem Dev.setCh_host (c : HbCh) : (s.setCh n c).host = s.host := rfl
@[simp] theorem Dev.msix_prt : (s.msix n).prt = s.prt := (congrArg Dev.prt (s.msix_frame n)).trans rfl
@[simp] theorem Dev.event_prt : (s.event f).prt = s.prt := (congrArg Dev.prt (s.event_frame f)).trans rfl
@[simp] theorem Dev.hifFlag_prt : (s.hifFlag f).prt = s.prt := (congrArg Dev.prt (s.hifFlag_frame f)).trans rfl

end

/-! ### What is neither registers nor a block’s own state -/

/-- What has been sent, the protection’s state and the interface’s. -/
def Dev.aside (s : Dev) : List OutMsg × PrtSt × HostSt := (s.out, s.prt, s.host)

theorem out_of_aside {s t : Dev} (h : t.aside = s.aside) : t.out = s.out := congrArg (fun x => x.1) h
theorem prt_of_aside {s t : Dev} (h : t.aside = s.aside) : t.prt = s.prt := congrArg (fun x => x.2.1) h
theorem host_of_aside {s t : Dev} (h : t.aside = s.aside) : t.host = s.host := congrArg (fun x => x.2.2) h

@[simp] theorem Dev.set_aside (s : Dev) (f : Fld) (v : Nat) : (s.set f v).aside = s.aside := rfl
@[simp] theorem Dev.setB_aside (s : Dev) (f : Fld) (b : Bool) : (s.setB f b).aside = s.aside := rfl
@[simp] theorem Dev.raise_aside (s : Dev) (f : Fld) : (s.raise f).aside = s.aside := rfl
@[simp] theorem Dev.count_aside (s : Dev) (f : Fld) (n : Nat) : (s.count f n).aside = s.aside := rfl
@[simp] theorem Dev.setCh_aside (s : Dev) (n : Nat) (c : HbCh) : (s.setCh n c).aside = s.aside := rfl
@[simp] theorem Dev.withLog_aside (s : Dev) (l : List LogRec) : ({ s with log := l } : Dev).aside = s.aside := rfl
@[simp] theorem Dev.withSnp_aside (s : Dev) (x : SnpSt) : ({ s with snp := x } : Dev).aside = s.aside := rfl
@[simp] theorem Dev.withFram_aside (s : Dev) (x : FramSt) : ({ s with fram := x } : Dev).aside = s.aside := rfl

theorem onlyIf_aside (c : Bool) (f : Dev → Dev) (s : Dev) (h : (f s).aside = s.aside) : (onlyIf c f s).aside = s.aside := by
  cases c
  · rfl
  · exact h

theorem forEach_aside {α : Type} (l : List α) (f : α → Dev → Dev) (t : Dev) (h : ∀ a t, (f a t).aside = t.aside) : (forEach l f t).aside = t.aside :=
  forEach_keeps (fun u => u.aside = t.aside) l f t rfl (fun a u hu => (h a u).trans hu)

/-! ### The log -/

theorem Dev.framLog_aside (s : Dev) (r : LogRec) : (s.framLog r).aside = s.aside := by
  unfold Dev.framLog
  cases s.framLogFull <;> rfl

theorem Dev.framLogged_aside (s : Dev) (r : LogRec) (next : Dev → LogRec × Dev) (hn : ∀ t, (next t).2.aside = t.aside) :
    (s.framLogged r next).aside = s.aside := by
  unfold Dev.framLogged
  simp only
  split
  · rw [Dev.framLog_aside, hn, Dev.framLog_aside]
  · rw [Dev.framLog_aside]

@[simp] theorem Dev.logAt_aside (s : Dev) (a b c e f : Nat) (g : Bool) : (s.logAt a b c e f g).aside = s.aside := by
  unfold Dev.logAt
  simp only
  split
  · rw [Dev.framLogged_aside _ _ _ (fun _ => rfl)]
    rfl
  · rfl

@[simp] theorem Dev.logNow_aside (s : Dev) (a b c : Nat) : (s.logNow a b c).aside = s.aside := s.logAt_aside _ _ _ _ _ _

theorem Dev.enter_prt (s : Dev) (n c : Nat) : (s.enter n c).prt = s.prt := by
  unfold Dev.enter
  simp only
  split
  · rfl
  · rw [prt_of_aside (Dev.logNow_aside _ _ _ _), Dev.event_prt]
    rfl

/-! ### Local channels -/

section
variable (s : Dev) (n stamp out : Nat)

@[simp] theorem Dev.hbShowQ_aside : (s.hbShowQ n).aside = s.aside := Dev.set_aside _ _ _

@[simp] theorem Dev.hbModel_aside (ends : Bool) : (s.hbModel n stamp ends).aside = s.aside := by simp only [Dev.hbModel, Dev.hbShowQ_aside, Dev.setCh_aside]

@[simp] theorem Dev.hbOut_aside : (s.hbOut n stamp out).aside = s.aside := by
  unfold Dev.hbOut
  simp only
  split
  · rfl
  · rw [Dev.set_aside, Dev.setCh_aside, Dev.hbModel_aside]

@[simp] theorem Dev.hbSafe_aside : (s.hbSafe n stamp).aside = s.aside := by
  unfold Dev.hbSafe
  simp only
  split
  · exact s.hbOut_aside n stamp 0
  · split
    · rfl
    · rw [Dev.setCh_aside, Dev.hbOut_aside]

@[simp] theorem Dev.hbFault_aside : (s.hbFault stamp n).aside = s.aside := by
  unfold Dev.hbFault
  simp only
  split
  · rfl
  · rw [Dev.hbSafe_aside, Dev.setCh_aside, Dev.raise_aside]

theorem Dev.hbTripAll_aside : (s.hbTripAll stamp).aside = s.aside := forEach_aside _ _ _ (fun n t => t.hbFault_aside n stamp)

end

/-- Every channel’s status, and the modulator’s flags. -/
def hbStatRegs : List Nat := (List.range 12).map Reg.MOD_HBn_STAT ++ (List.range 12).map Reg.MOD_HBn_APER ++ [Reg.MOD_FLAG]

theorem hbRegs_subset {n : Nat} (hn : n < 12) : ∀ o ∈ hbRegs n, o ∈ hbStatRegs := by
  intro o ho
  simp only [hbRegs, List.mem_cons, List.not_mem_nil, or_false] at ho
  simp only [hbStatRegs, List.mem_append, List.mem_map, List.mem_range, List.mem_singleton]
  rcases ho with rfl | rfl | rfl
  · exact .inl (.inl ⟨n, hn, rfl⟩)
  · exact .inl (.inr ⟨n, hn, rfl⟩)
  · exact .inr rfl

theorem Dev.hbFault_regs (s : Dev) (stamp n : Nat) : RegsBut s (s.hbFault stamp n) (hbRegs n) := by
  have hlat : (Reg.MOD_HBn_STAT_FLTLAT n).off ∈ hbRegs n := by simp [hbRegs, Reg.MOD_HBn_STAT, Reg.MOD_HBn_STAT_FLTLAT]
  unfold Dev.hbFault
  simp only
  split
  · exact RegsBut.refl s _
  · exact (((RegsBut.refl s _).raise _ hlat).setCh n _).trans (Dev.hbSafe_regs _ n stamp)

/-- What every round keeps, the rounds of a list’s members keep. -/
theorem forEach_keeps_mem {α : Type} (P : Dev → Prop) (l : List α) (f : α → Dev → Dev) (s : Dev) (h : P s)
    (hf : ∀ a ∈ l, ∀ t, P t → P (f a t)) : P (forEach l f s) := by
  induction l generalizing s with
  | nil => exact h
  | cons a t ih => exact ih _ (hf a (by simp) s h) (fun b hb => hf b (by simp [hb]))

theorem Dev.hbTripAll_regs (s : Dev) (stamp : Nat) : RegsBut s (s.hbTripAll stamp) hbStatRegs :=
  forEach_keeps_mem (fun t => RegsBut s t hbStatRegs) _ _ s (RegsBut.refl s _)
    (fun n hn t ht => ht.trans ((t.hbFault_regs stamp n).mono (hbRegs_subset (List.mem_range.mp hn))))

/-! ### Snapshots -/

theorem Dev.snapLost_regs (s : Dev) (src stamp detail : Nat) : RegsBut s (s.snapLost src stamp detail) [Reg.SNP_FLAG, Reg.SNP_CNT] := by
  unfold Dev.snapLost
  exact RegsBut.same (((RegsBut.refl s _).raise Reg.SNP_FLAG_LOST_F (by decide)).count Reg.SNP_CNT_LOST_CNT 1 (by decide)) rfl

theorem RegsBut.withSnp {d e : Dev} {l : List Nat} (h : RegsBut d e l) (x : SnpSt) : RegsBut d { e with snp := x } l := h

theorem RegsBut.askedBuf {d e : Dev} {l : List Nat} (h : RegsBut d e l) (k : Nat) : RegsBut d (e.askedBuf k) l := h

/-- The registers a trigger touches. -/
def snapRegs : List Nat := [Reg.SNP_STAT, Reg.SNP_FLAG, Reg.SNP_CNT] ++ logRegs

theorem Dev.freeze_regs (s : Dev) (k src stamp detail : Nat) (img : TickImg) (r : Bool) : RegsBut s (s.freeze k src stamp detail img r) snapRegs := by
  have h : RegsBut s ((((s.set ⟨0x5804, k, k⟩ 1).set Reg.SNP_STAT_LASTSRC src).count Reg.SNP_CNT_TRIGS).logAt stamp 15 1 0 (k + 256 * 2 ^ src)) snapRegs :=
    ((((RegsBut.refl s _).set ⟨0x5804, k, k⟩ 1 (by simp [snapRegs, Reg.SNP_STAT])).set _ _ (by decide)).count _ 1 (by decide)).logAt _ _ _ _ _ _
      (by decide)
  exact (h.askedBuf k).withSnp _

theorem Dev.mergeTrig_regs (s : Dev) (k seq src detail : Nat) : RegsBut s (s.mergeTrig k seq src detail) snapRegs := by
  unfold Dev.mergeTrig
  split
  · exact RegsBut.refl s _
  · next sn _ => exact RegsBut.same ((RegsBut.refl s _).set Reg.SNP_STAT_LASTSRC (lowestBit (sn.mask ||| 2 ^ src)) (by decide)) rfl

theorem Dev.snapTrigger_regs (s : Dev) (src stamp detail : Nat) : RegsBut s (s.snapTrigger src stamp detail).2 snapRegs := by
  unfold Dev.snapTrigger Dev.snapInto
  split
  · exact (s.snapLost_regs src stamp detail).mono (by decide)
  · split
    · exact s.mergeTrig_regs _ _ _ _
    · split
      · exact (s.snapLost_regs src stamp detail).mono (by decide)
      · exact s.freeze_regs _ _ _ _ _ _

/-- A freeze, its log record apart. -/
theorem Dev.freeze_aside (s : Dev) (k src stamp detail : Nat) (img : TickImg) (r : Bool) : (s.freeze k src stamp detail img r).aside = s.aside := by
  simp only [Dev.freeze, Dev.askedBuf, Dev.withSnp_aside, Dev.logAt_aside, Dev.count_aside, Dev.set_aside]

theorem Dev.mergeTrig_aside (s : Dev) (k seq src detail : Nat) : (s.mergeTrig k seq src detail).aside = s.aside := by
  unfold Dev.mergeTrig
  split <;> rfl

theorem Dev.snapTrigger_aside (s : Dev) (src stamp detail : Nat) : (s.snapTrigger src stamp detail).2.aside = s.aside := by
  unfold Dev.snapTrigger Dev.snapInto
  split
  · rfl
  · split
    · exact s.mergeTrig_aside _ _ _ _
    · split
      · rfl
      · exact s.freeze_aside _ _ _ _ _ _

end Sys2Proof.Machine
end

section
/-! PROOFS. What a trip latch leaves: the loops’ levels and latches, and the configuration (R286–R295). -/

namespace Sys2Proof.Machine

/-- The loop pins, PRT_CFG, HIF_FLAG, and PRT_STAT but for OUT are as they were. -/
def Spares (d e : Dev) : Prop :=
  e.prt.pinIn = d.prt.pinIn ∧ e.reg Reg.PRT_CFG = d.reg Reg.PRT_CFG ∧ e.reg Reg.HIF_FLAG = d.reg Reg.HIF_FLAG ∧
  ∀ g : Fld, g.off = Reg.PRT_STAT → g.hi < 31 → e.get g = d.get g

/-- The registers it speaks of. -/
def sparedRegs : List Nat := [Reg.PRT_CFG, Reg.HIF_FLAG, Reg.PRT_STAT]

section
variable {d e f : Dev}

theorem Spares.refl (d : Dev) : Spares d d := ⟨rfl, rfl, rfl, fun _ _ _ => rfl⟩

theorem Spares.trans (h : Spares d e) (g : Spares e f) : Spares d f := by
  obtain ⟨h1, h2, h3, h4⟩ := h
  obtain ⟨g1, g2, g3, g4⟩ := g
  exact ⟨g1.trans h1, g2.trans h2, g3.trans h3, fun x hx hb => (g4 x hx hb).trans (h4 x hx hb)⟩

/-- What changes none of those registers, nor the pins. -/
theorem spares_of_regs {l : List Nat} (h : RegsBut d e l) (hl : ∀ o ∈ sparedRegs, o ∉ l) (hp : e.prt.pinIn = d.prt.pinIn) : Spares d e := by
  refine ⟨hp, h _ (hl _ (by decide)), h _ (hl _ (by decide)), fun g hg _ => ?_⟩
  rw [Dev.get, Dev.get, h _ (by rw [hg]; exact hl _ (by decide))]

theorem Spares.regs (h : Spares d e) {l : List Nat} (g : RegsBut e f l) (hl : ∀ o ∈ sparedRegs, o ∉ l) (hp : f.prt = e.prt) : Spares d f :=
  h.trans (spares_of_regs g hl (by rw [hp]))

theorem Spares.onlyIf (h : Spares d e) (c : Bool) (f : Dev → Dev) (hf : ∀ t, Spares d t → Spares d (f t)) : Spares d (onlyIf c f e) :=
  onlyIf_keeps (fun t => Spares d t) c f e h hf

end

/-! ### The parts of a latch -/

section
variable {d s : Dev} (h : Spares d s)
include h

theorem Spares.raiseOut : Spares d (s.raise Reg.PRT_STAT_OUT) := by
  refine h.trans ⟨rfl, ?_, ?_, fun g hg hb => ?_⟩
  · exact ((RegsBut.refl s [Reg.PRT_STAT]).raise Reg.PRT_STAT_OUT (by decide)) _ (by decide)
  · exact ((RegsBut.refl s [Reg.PRT_STAT]).raise Reg.PRT_STAT_OUT (by decide)) _ (by decide)
  · exact (s.noted Reg.PRT_STAT_OUT 1).get_set_apart Reg.PRT_STAT_OUT g 1 (by decide) (by decide) (.inl hb)

theorem Spares.firstIs (low stamp : Nat) : Spares d (s.firstIs low stamp) := by
  refine h.regs (l := [Reg.PRT_FIRST, Reg.PRT_FSTAMP_LO, Reg.PRT_FSTAMP_HI]) ?_ (by decide) rfl
  exact ((RegsBut.refl s _).set Reg.PRT_FIRST_CODE low (by decide)).setPair _ _ _ (by decide) (by decide)

theorem Spares.snapDetail (c : Nat) : Spares d (s.snapDetail c) := by
  unfold Dev.snapDetail
  (repeat' split) <;> exact h

theorem Spares.firstNote (e : Bool) (low stamp : Nat) : Spares d (s.firstNote e low stamp) := by
  unfold Dev.firstNote
  split
  · have hv : Spares d (s.setB Reg.PRT_FIRST_VALID true) :=
      h.regs ((RegsBut.refl s [Reg.PRT_FIRST]).setB Reg.PRT_FIRST_VALID true (by decide)) (by decide) rfl
    exact hv.firstIs low stamp
  · split
    · exact (h.firstIs low stamp).snapDetail low
    · exact h

theorem Spares.tripEvent : Spares d s.tripEvent := by
  unfold Dev.tripEvent
  split
  · exact h
  · exact h.regs ((RegsBut.refl s [Reg.HIF_EVT]).event Reg.HIF_EVT_TRIP (by decide)) (by decide) (s.event_prt _)

omit h in
theorem Dev.thkAll_regs (s : Dev) (b : Nat) : (s.thkAll b).regs = s.regs :=
  forEach_keeps (fun t => t.regs = s.regs) _ _ s rfl (fun a t ht => by split <;> exact ht)

omit h in
theorem Dev.thkAll_prt (s : Dev) (b : Nat) : (s.thkAll b).prt = s.prt :=
  forEach_keeps (fun t => t.prt = s.prt) _ _ s rfl (fun a t ht => by split <;> exact ht)

theorem Spares.thkAll (b : Nat) : Spares d (s.thkAll b) :=
  h.regs (l := []) (fun o _ => Dev.reg_of_regs (s.thkAll_regs b) o) (by simp) (s.thkAll_prt b)

theorem Spares.tripLog (stamp c : Nat) (first : Bool) : Spares d (s.tripLog stamp c first) := by
  unfold Dev.tripLog
  split
  · exact h
  · exact h.regs (s.logAt_regs stamp 10 1 0 c first) (by decide) (prt_of_aside (s.logAt_aside _ _ _ _ _ _))

theorem Spares.latchOne (stamp c : Nat) (first stop : Bool) : Spares d (s.latchOne stamp c first stop) := by
  have hl : Spares d (s.raise (latF c)) := by
    refine h.regs (l := [Reg.PRT_LAT_LO, Reg.PRT_LAT_HI]) ((RegsBut.refl s _).raise _ ?_) (by decide) rfl
    simp only [latF, prtBit]
    split <;> decide
  unfold Dev.latchOne
  exact (hl.thkAll _).tripLog stamp c first

theorem Spares.hbTripAll (stamp : Nat) : Spares d (s.hbTripAll stamp) :=
  h.regs (s.hbTripAll_regs stamp) (by decide) (prt_of_aside (s.hbTripAll_aside stamp))

theorem Spares.snapTrigger (src stamp detail : Nat) : Spares d (s.snapTrigger src stamp detail).2 :=
  h.regs (s.snapTrigger_regs src stamp detail) (by decide) (prt_of_aside (s.snapTrigger_aside src stamp detail))

theorem Spares.tripMove (low : Nat) : Spares d (s.tripMove low) := by
  unfold Dev.tripMove
  split
  · exact h
  · have he : Spares d (s.enter stTRIPPED low) :=
      h.regs (l := [Reg.HIF_STAT, Reg.HIF_EVT] ++ logRegs)
        ((RegsBut.refl s _).enter stTRIPPED low (by decide) (by decide) (by decide)) (by decide) (s.enter_prt _ _)
    exact he

theorem Spares.tripEnter (low : Nat) : Spares d (s.tripEnter low) := by
  unfold Dev.tripEnter
  split
  · split
    · split <;> exact h
    · exact h.tripMove low
  · exact h.tripMove low

theorem Spares.latch (stamp : Nat) (codes : List Nat) (stop : Bool) : Spares d (s.latch stamp codes stop) := by
  unfold Dev.latch
  extract_lets new wasEmpty
  clear_value new
  cases new with
  | nil => exact h
  | cons low rest =>
    have hflag : Spares d (s.raise Reg.PRT_FLAG_TRIP_F) :=
      h.regs ((RegsBut.refl s [Reg.PRT_FLAG]).raise Reg.PRT_FLAG_TRIP_F (by decide)) (by decide) rfl
    have hout : ∀ t, Spares d t → Spares d (((t.count Reg.PRT_CNT_TRIPS).raise Reg.PRT_STAT_OUT).tripEvent) := fun t ht =>
      (ht.regs ((RegsBut.refl t [Reg.PRT_CNT]).count Reg.PRT_CNT_TRIPS 1 (by decide)) (by decide) rfl).raiseOut.tripEvent
    have hone := (hflag.firstNote wasEmpty low stamp).onlyIf wasEmpty _ hout
    have hall := forEach_keeps (fun t => Spares d t) (low :: rest) (fun c t => t.latchOne stamp c (wasEmpty && c == low) stop) _ hone
      (fun c t ht => ht.latchOne stamp c _ stop)
    refine Spares.onlyIf (Spares.onlyIf ?_ _ _ (fun t ht => ht.snapTrigger 1 stamp low)) _ _ (fun t ht => ht.tripEnter low)
    exact hall.hbTripAll stamp

end

end Sys2Proof.Machine
end

section
/-! PROOFS. A loop put into use accepts the level its pin has (R295). -/

namespace Sys2Proof.Machine

/-- The level a loop’s pin has. -/
def Dev.pinLevel (s : Dev) (k : Nat) : Bool := s.prt.pinIn / 2 ^ k % 2 == 1

/-- A path test in progress notes a loop’s first high level (R295). -/
def Dev.notePath (t : Dev) (k : Nat) (level : Bool) : Dev :=
  match t.prt.path with
  | some (src, p, t0, l) =>
    if level && l.getD k none == none then
      { t with prt := { t.prt with path := some (src, p, t0, l.set k (some (t.stamp 0 - t0))) } } else t
  | none => t

/-- What a loop in use takes from its pin: the level shown, a path test’s answer noted, and at a high level the loop’s latch and its trip. -/
def Dev.loopTaken (s : Dev) (k : Nat) (level : Bool) : Dev :=
  let t := (s.setB ⟨0x4024, k, k⟩ level).notePath k level
  if level then (t.setLoop k true).latch (t.stamp 0) [0x1C + k] else t

/-- The pin of a loop at a level. -/
def Dev.withPin (s : Dev) (k : Nat) (level : Bool) : Dev :=
  { s with prt := { s.prt with pinIn := s.prt.pinIn + b2n level * 2 ^ k - s.prt.pinIn / 2 ^ k % 2 * 2 ^ k } }

theorem Dev.tripIn_eq (s : Dev) (k : Nat) (level : Bool) :
    s.tripIn k level 0 = if !(s.withPin k level).loopOn k || (s.withPin k level).isOn Reg.PRT_STAT_BLANK then s.withPin k level
      else (s.withPin k level).loopTaken k level := by
  rfl

theorem Dev.withPin_pinLevel (s : Dev) (k : Nat) : s.withPin k (s.pinLevel k) = s := by
  have hbit : b2n (s.pinLevel k) = s.prt.pinIn / 2 ^ k % 2 := by
    unfold Dev.pinLevel b2n
    have : s.prt.pinIn / 2 ^ k % 2 < 2 := Nat.mod_lt _ (by decide)
    split <;> simp_all
  unfold Dev.withPin
  rw [hbit, Nat.add_sub_cancel]

/-- The pin’s own level taken again leaves the pin. -/
theorem Dev.tripIn_pinLevel (s : Dev) (k : Nat) :
    s.tripIn k (s.pinLevel k) 0 = if !s.loopOn k || s.isOn Reg.PRT_STAT_BLANK then s else s.loopTaken k (s.pinLevel k) := by
  rw [s.tripIn_eq, s.withPin_pinLevel]

/-- What a loop’s step leaves: the pins, PRT_CFG, HIF_FLAG, the blanking, and the other loop’s level and latch. -/
def LoopStep (k : Nat) (d e : Dev) : Prop :=
  e.prt.pinIn = d.prt.pinIn ∧ e.reg Reg.PRT_CFG = d.reg Reg.PRT_CFG ∧ e.reg Reg.HIF_FLAG = d.reg Reg.HIF_FLAG ∧
  ∀ g : Fld, g.off = Reg.PRT_STAT → g.hi < 31 → (g.hi < k ∨ k < g.lo) → (g.hi < 2 + k ∨ 2 + k < g.lo) → e.get g = d.get g

theorem LoopStep.refl (k : Nat) (d : Dev) : LoopStep k d d := ⟨rfl, rfl, rfl, fun _ _ _ _ _ => rfl⟩

theorem LoopStep.spares {k : Nat} {d e f : Dev} (h : LoopStep k d e) (g : Spares e f) : LoopStep k d f := by
  obtain ⟨h1, h2, h3, h4⟩ := h
  obtain ⟨g1, g2, g3, g4⟩ := g
  exact ⟨g1.trans h1, g2.trans h2, g3.trans h3, fun x hx hb ha hc => (g4 x hx hb).trans (h4 x hx hb ha hc)⟩

theorem LoopStep.setBit {k : Nat} {d e : Dev} (h : LoopStep k d e) (hk : k < 2) (b : Bool) {i : Nat} (hi : i = k ∨ i = 2 + k) :
    LoopStep k d (e.setB ⟨0x4024, i, i⟩ b) := by
  obtain ⟨h1, h2, h3, h4⟩ := h
  refine ⟨h1, ?_, ?_, fun g hg hb ha hc => ?_⟩
  · exact (e.reg_set_ne ⟨0x4024, i, i⟩ _ _ (by simp [Reg.PRT_CFG])).trans h2
  · exact (e.reg_set_ne ⟨0x4024, i, i⟩ _ _ (by simp [Reg.HIF_FLAG])).trans h3
  · refine (e.get_set_apart ⟨0x4024, i, i⟩ g _ (by simp only; omega) (Nat.le_refl _) ?_).trans (h4 g hg hb ha hc)
    rcases hi with rfl | rfl
    · exact ha
    · exact hc

/-- A path test’s note is no register, and no pin. -/
theorem Dev.notePath_spares (t : Dev) (k : Nat) (level : Bool) : Spares t (t.notePath k level) := by
  unfold Dev.notePath
  (repeat' split) <;> exact Spares.refl t

theorem Dev.isOn_setB_same (s : Dev) (o i : Nat) (b : Bool) (hi : i < 32) : (s.setB ⟨o, i, i⟩ b).isOn ⟨o, i, i⟩ = b := by
  have h := s.get_set_same ⟨o, i, i⟩ (b2n b) hi (Nat.le_refl _)
  simp only [Nat.add_sub_cancel_left] at h
  rw [Dev.isOn, Dev.setB, h]
  cases b <;> rfl

theorem Dev.isOn_setB_apart (s : Dev) (o i j : Nat) (b : Bool) (hi : i < 32) (h : j ≠ i) : (s.setB ⟨o, i, i⟩ b).isOn ⟨o, j, j⟩ = s.isOn ⟨o, j, j⟩ := by
  rw [Dev.isOn, Dev.isOn, Dev.setB, s.get_set_apart ⟨o, i, i⟩ ⟨o, j, j⟩ _ hi (Nat.le_refl _) (by simp only; omega)]

theorem Spares.isOn {d e : Dev} (h : Spares d e) {i : Nat} (hi : i < 31) : e.isOn ⟨0x4024, i, i⟩ = d.isOn ⟨0x4024, i, i⟩ := by
  obtain ⟨-, -, -, h4⟩ := h
  rw [Dev.isOn, Dev.isOn, h4 ⟨0x4024, i, i⟩ rfl hi]

theorem Dev.loopTaken_spec (s : Dev) {k : Nat} (hk : k < 2) (level : Bool) :
    LoopStep k s (s.loopTaken k level) ∧ (s.loopTaken k level).tin k = level ∧ (level = true → (s.loopTaken k level).loopLatch k = true) := by
  have hnote := (s.setB ⟨0x4024, k, k⟩ level).notePath_spares k level
  have hs : LoopStep k s ((s.setB ⟨0x4024, k, k⟩ level).notePath k level) := ((LoopStep.refl k s).setBit hk level (.inl rfl)).spares hnote
  have ht : ((s.setB ⟨0x4024, k, k⟩ level).notePath k level).tin k = level := (hnote.isOn (by omega)).trans (s.isOn_setB_same 0x4024 k level (by omega))
  unfold Dev.loopTaken
  generalize (s.setB ⟨0x4024, k, k⟩ level).notePath k level = u at hs ht
  cases level with
  | false => exact ⟨hs, ht, fun h => absurd h (by decide)⟩
  | true =>
    have hlat := (Spares.refl (u.setLoop k true)).latch (u.stamp 0) [0x1C + k] false
    refine ⟨(hs.setBit hk true (.inr rfl)).spares hlat, ?_, fun _ => ?_⟩
    · exact (hlat.isOn (by omega)).trans ((u.isOn_setB_apart 0x4024 (2 + k) k true (by omega) (by omega)).trans ht)
    · exact (hlat.isOn (by omega)).trans (u.isOn_setB_same 0x4024 (2 + k) true (by omega))

/-- A loop that a write of PRT_CFG puts into use. -/
def Dev.joinLoop (old : Word) (k : Nat) (t : Dev) : Dev :=
  onlyIf (!bit old k && t.loopOn k) (fun u => u.tripIn k (u.pinLevel k) 0) t

theorem Dev.joinLoop_step (old : Word) (t : Dev) {k : Nat} (hk : k < 2) : LoopStep k t (t.joinLoop old k) := by
  unfold Dev.joinLoop onlyIf
  split
  · show LoopStep k t (t.tripIn k (t.pinLevel k) 0)
    rw [t.tripIn_pinLevel k]
    split
    · exact LoopStep.refl k t
    · exact (t.loopTaken_spec hk _).1
  · exact LoopStep.refl k t

theorem Dev.joinLoop_taken (old : Word) (t : Dev) {k : Nat} (hk : k < 2) (ho : bit old k = false) (hon : t.loopOn k = true)
    (hb : t.isOn Reg.PRT_STAT_BLANK = false) : (t.joinLoop old k).tin k = t.pinLevel k ∧
      (t.pinLevel k = true → (t.joinLoop old k).loopLatch k = true) := by
  have h : t.joinLoop old k = t.loopTaken k (t.pinLevel k) := by
    unfold Dev.joinLoop
    rw [ho, hon]
    simp only [Bool.not_false, Bool.and_self, onlyIf_true]
    rw [t.tripIn_pinLevel k, hon, hb]
    rfl
  rw [h]
  exact (t.loopTaken_spec hk _).2

/-- A write of PRT_CFG, loop by loop. -/
theorem Dev.wrote_prtCfg (s : Dev) (old w : Word) (b : Nat) : s.wrote Reg.PRT_CFG old w b = (s.joinLoop old 0).joinLoop old 1 := rfl

theorem Dev.wrote_prtCfg_keeps (s : Dev) (old w : Word) (b : Nat) :
    (s.wrote Reg.PRT_CFG old w b).reg Reg.PRT_CFG = s.reg Reg.PRT_CFG ∧ (s.wrote Reg.PRT_CFG old w b).reg Reg.HIF_FLAG = s.reg Reg.HIF_FLAG := by
  obtain ⟨-, h1, h2, -⟩ := Dev.joinLoop_step old s (k := 0) (by decide)
  obtain ⟨-, g1, g2, -⟩ := Dev.joinLoop_step old (s.joinLoop old 0) (k := 1) (by decide)
  rw [s.wrote_prtCfg]
  exact ⟨g1.trans h1, g2.trans h2⟩

/-- Each loop put into use outside the blanking shows its pin, and a high pin latches it. -/
theorem Dev.wrote_prtCfg_loop (s : Dev) (old w : Word) (b : Nat) {r : Nat} (hr : r < 2) (ho : bit old r = false) (hon : s.loopOn r = true)
    (hb : s.isOn Reg.PRT_STAT_BLANK = false) : (s.wrote Reg.PRT_CFG old w b).tin r = s.pinLevel r ∧
      (s.pinLevel r = true → (s.wrote Reg.PRT_CFG old w b).loopLatch r = true) := by
  obtain ⟨h1, h2, -, h4⟩ := Dev.joinLoop_step old s (k := 0) (by decide)
  rw [s.wrote_prtCfg]
  obtain rfl | rfl : r = 0 ∨ r = 1 := by omega
  · obtain ⟨-, -, -, g4⟩ := Dev.joinLoop_step old (s.joinLoop old 0) (k := 1) (by decide)
    obtain ⟨ht, hl⟩ := Dev.joinLoop_taken old s (by decide) ho hon hb
    have e1 : ((s.joinLoop old 0).joinLoop old 1).tin 0 = (s.joinLoop old 0).tin 0 :=
      congrArg (· == 1) (g4 ⟨0x4024, 0, 0⟩ rfl (by decide) (by decide) (by decide))
    have e2 : ((s.joinLoop old 0).joinLoop old 1).loopLatch 0 = (s.joinLoop old 0).loopLatch 0 :=
      congrArg (· == 1) (g4 ⟨0x4024, 2, 2⟩ rfl (by decide) (by decide) (by decide))
    rw [e1, e2]
    exact ⟨ht, hl⟩
  · have hon' : (s.joinLoop old 0).loopOn 1 = true := (Dev.isOn_of_reg (f := ⟨0x4000, 1, 1⟩) h2).trans hon
    have hb' : (s.joinLoop old 0).isOn Reg.PRT_STAT_BLANK = false :=
      (congrArg (· == 1) (h4 Reg.PRT_STAT_BLANK rfl (by decide) (by decide) (by decide))).trans hb
    have hp : (s.joinLoop old 0).pinLevel 1 = s.pinLevel 1 := by rw [Dev.pinLevel, Dev.pinLevel, h1]
    rw [← hp]
    exact Dev.joinLoop_taken old (s.joinLoop old 0) (by decide) ho hon' hb'

end Sys2Proof.Machine
end

section
/-! PROOFS. What a write to an acting register sets off, register by register; none of it touches the register written, nor takes HIF_WERR_F back. -/

namespace Sys2Proof.Machine

section
variable (s : Dev) (old w : Word) (b : Nat)

theorem Dev.wrote_evt : s.wrote Reg.HIF_EVT old w b = onlyIf ((old &&& w) != 0#32 && s.evtMasked != 0) (·.msix 64) s := rfl
theorem Dev.wrote_evten : s.wrote Reg.HIF_EVTEN old w b = onlyIf (b == 0 && s.evtMasked != 0) (·.msix 64) s := rfl
theorem Dev.wrote_clkCfg : s.wrote Reg.CLK_CFG old w b = onlyIf (bits (s.reg Reg.CLK_CFG) 3 0 != bits old 3 0) (·.bandSearch) s := rfl
theorem Dev.wrote_frmFlag : s.wrote Reg.FRM_FLAG old w b = onlyIf (bit w 0) (fun t => t.setReg Reg.FRM_OVR 0#32) s := rfl
theorem Dev.wrote_angCfg : s.wrote Reg.ANG_CFG old w b = s.angWritten (bit old 0) := rfl
theorem Dev.wrote_sppCfg : s.wrote Reg.CE_SPP_CFG old w b = onlyIf (bit old 0 != s.isOn Reg.CE_SPP_CFG_EN) (·.sppEnable) s := rfl

/-- RATE 7 written in CONFIG (R51). -/
def Dev.rateRefused (s : Dev) (w : Word) : Dev := onlyIf (bits w 2 0 == 7 && s.st == stCONFIG) (·.hifFlag Reg.HIF_FLAG_HIF_WERR_F) s

theorem Dev.wrote_frmCfg : s.wrote Reg.FRM_CFG old w b =
    onlyIf (bits ((s.rateRefused w).reg Reg.FRM_CFG) 2 0 != bits old 2 0) (·.rateChanged) (s.rateRefused w) := rfl

theorem Dev.wrote_adcCtl : s.wrote Reg.ADC_CTL old w b =
    if bit old 0 && !s.isOn Reg.ADC_CTL_EN then s.adcStop else if !bit old 0 && s.isOn Reg.ADC_CTL_EN then s.adcStart else s := rfl

theorem Dev.wrote_cmp {a : Nat} (h1 : 0x1800 ≤ a) (h2 : a < 0x18C0) :
    s.wrote a old w b = if a % 8 = 0 then s.cmpWritten ((a - 0x1800) / 8) old else s := by
  have ne : ∀ o ∈ [Reg.ADC_CTL, Reg.ADC_CALCTL, Reg.ADC_JSOFT, Reg.ANG_CFG, Reg.ANG_CTL, Reg.CE_SPP_CFG], a ≠ o := by
    intro o ho
    have : ∀ o ∈ [Reg.ADC_CTL, Reg.ADC_CALCTL, Reg.ADC_JSOFT, Reg.ANG_CFG, Reg.ANG_CTL, Reg.CE_SPP_CFG], o < 0x1800 ∨ 0x18C0 ≤ o := by decide
    have := this o ho
    omega
  unfold Dev.wrote
  rw [if_neg (by omega), if_neg (by omega), if_pos (by omega), Dev.wroteFront, if_neg (ne _ (by simp)), if_neg (ne _ (by simp)), if_neg (ne _ (by simp))]
  split
  · next h => rw [if_pos h.2.2]
  · next h =>
    rw [if_neg (ne _ (by simp)), if_neg (ne _ (by simp)), if_neg (ne _ (by simp)), if_neg (fun h8 => h ⟨h1, h2, h8⟩)]

theorem Dev.wrote_hb {a : Nat} (h1 : 0x2A00 ≤ a) (h2 : a < 0x2D00) : s.wrote a old w b = s.wroteHb ((a - 0x2A00) / 64) (a % 64) old := by
  have hc : a ≠ Reg.MOD_COMMIT := by have : Reg.MOD_COMMIT = 0x2808 := rfl; omega
  have hf : a ≠ Reg.MOD_FLTCLR := by have : Reg.MOD_FLTCLR = 0x280C := rfl; omega
  unfold Dev.wrote
  rw [if_neg (by omega), if_neg (by omega), if_neg (by omega), if_pos (by omega), Dev.wroteMod, if_neg hc, if_neg hf, if_pos ⟨h1, h2⟩]

theorem Dev.wrote_ring {a : Nat} (h1 : 0x3100 ≤ a) (h2 : a < 0x3200) :
    s.wrote a old w b = if a % 16 = 0 then onlyIf (!s.ringEn ((a - 0x3100) / 16)) (·.discStart ((a - 0x3100) / 16)) s else s := by
  have hc : a ≠ Reg.MOD_COMMIT := by have : Reg.MOD_COMMIT = 0x2808 := rfl; omega
  have hf : a ≠ Reg.MOD_FLTCLR := by have : Reg.MOD_FLTCLR = 0x280C := rfl; omega
  have ht : a ≠ Reg.THK_CMD := by have : Reg.THK_CMD = 0x3008 := rfl; omega
  unfold Dev.wrote
  rw [if_neg (by omega), if_neg (by omega), if_neg (by omega), if_pos (by omega), Dev.wroteMod, if_neg hc, if_neg hf, if_neg (by omega)]
  by_cases h : a % 16 = 0
  · rw [if_pos ⟨h1, h2, h⟩, if_pos h]
  · rw [if_neg (fun hx => h hx.2.2), if_neg ht, if_neg h]

end

/-! ### The register written, and HIF_WERR_F -/

/-- The register at `a` is as it was, and HIF_WERR_F stays where it is set. -/
def KeepsWrite (a : Nat) (d e : Dev) : Prop :=
  e.reg a = d.reg a ∧ (d.isOn Reg.HIF_FLAG_HIF_WERR_F = true → e.isOn Reg.HIF_FLAG_HIF_WERR_F = true)

theorem KeepsWrite.refl (a : Nat) (d : Dev) : KeepsWrite a d d := ⟨rfl, fun h => h⟩

theorem KeepsWrite.trans {a : Nat} {d e f : Dev} (h : KeepsWrite a d e) (g : KeepsWrite a e f) : KeepsWrite a d f :=
  ⟨g.1.trans h.1, fun hw => g.2 (h.2 hw)⟩

theorem RegsBut.keepsWrite {a : Nat} {d e : Dev} {l : List Nat} (h : RegsBut d e l) (ha : a ∉ l) (hf : Reg.HIF_FLAG ∉ l) : KeepsWrite a d e :=
  ⟨h a ha, fun hw => (Dev.isOn_of_reg (f := Reg.HIF_FLAG_HIF_WERR_F) (h _ hf)).trans hw⟩

theorem KeepsWrite.onlyIf {a : Nat} (d : Dev) (c : Bool) (f : Dev → Dev) (h : KeepsWrite a d (f d)) : KeepsWrite a d (onlyIf c f d) := by
  cases c
  · exact KeepsWrite.refl a d
  · exact h

theorem Dev.rateRefused_keeps (s : Dev) (w : Word) : KeepsWrite Reg.FRM_CFG s (s.rateRefused w) :=
  KeepsWrite.onlyIf _ _ _ ⟨s.hifFlag_regs _ rfl _ (by decide), fun _ => s.isOn_hifFlag _ (by decide) (by decide) (by decide)⟩

/-- The acting registers whose own value a write gives them. -/
def ownsValue (a : Nat) : Prop :=
  a ∈ [Reg.HIF_EVT, Reg.HIF_EVTEN, Reg.CLK_CFG, Reg.FRM_CFG, Reg.FRM_FLAG, Reg.ADC_CTL, Reg.ANG_CFG, Reg.CE_SPP_CFG, Reg.PRT_CFG] ∨
  (0x1800 ≤ a ∧ a < 0x18C0) ∨ (0x2A00 ≤ a ∧ a < 0x2D00) ∨ (0x3100 ≤ a ∧ a < 0x3200)

theorem ownsValue_plain {a : Nat} (h : ownsValue a) : a ≠ Reg.HIF_AQ_CFG ∧ isVault a = false := by
  have hl : ∀ a ∈ [Reg.HIF_EVT, Reg.HIF_EVTEN, Reg.CLK_CFG, Reg.FRM_CFG, Reg.FRM_FLAG, Reg.ADC_CTL, Reg.ANG_CFG, Reg.CE_SPP_CFG, Reg.PRT_CFG],
    a ≠ Reg.HIF_AQ_CFG ∧ isVault a = false := by decide
  rcases h with h | h
  · exact hl a h
  · have hq : Reg.HIF_AQ_CFG < 0x1800 := by decide
    refine ⟨by omega, ?_⟩
    simp only [isVault, Bool.and_eq_false_iff, decide_eq_false_iff_not]
    omega

section
variable (s : Dev) (old w : Word) (b : Nat)

theorem Dev.wrote_keeps_clkCfg : KeepsWrite Reg.CLK_CFG s (s.wrote Reg.CLK_CFG old w b) := by
  rw [s.wrote_clkCfg]
  exact KeepsWrite.onlyIf _ _ _ (s.bandSearch_regs.keepsWrite (by decide) (by decide))

theorem Dev.wrote_keeps_frmCfg : KeepsWrite Reg.FRM_CFG s (s.wrote Reg.FRM_CFG old w b) := by
  rw [s.wrote_frmCfg]
  exact (s.rateRefused_keeps w).trans (KeepsWrite.onlyIf _ _ _ ((Dev.rateChanged_regs _).keepsWrite (by decide) (by decide)))

theorem Dev.wrote_keeps_frmFlag : KeepsWrite Reg.FRM_FLAG s (s.wrote Reg.FRM_FLAG old w b) := by
  rw [s.wrote_frmFlag]
  exact KeepsWrite.onlyIf _ _ _ (((RegsBut.refl s [Reg.FRM_OVR]).setReg _ _ (by decide)).keepsWrite (by decide) (by decide))

theorem Dev.wrote_keeps_adcCtl : KeepsWrite Reg.ADC_CTL s (s.wrote Reg.ADC_CTL old w b) := by
  rw [s.wrote_adcCtl]
  split
  · exact s.adcStop_regs.keepsWrite (by decide) (by decide)
  · split
    · exact KeepsWrite.refl _ s
    · exact KeepsWrite.refl _ s

theorem Dev.wrote_keeps_sppCfg : KeepsWrite Reg.CE_SPP_CFG s (s.wrote Reg.CE_SPP_CFG old w b) := by
  rw [s.wrote_sppCfg]
  exact KeepsWrite.onlyIf _ _ _ (s.sppEnable_regs.keepsWrite (by decide) (by decide))

theorem Dev.wrote_keeps_prtCfg : KeepsWrite Reg.PRT_CFG s (s.wrote Reg.PRT_CFG old w b) := by
  obtain ⟨h1, h2⟩ := s.wrote_prtCfg_keeps old w b
  exact ⟨h1, fun hw => (Dev.isOn_of_reg (f := Reg.HIF_FLAG_HIF_WERR_F) h2).trans hw⟩

theorem Dev.wrote_keeps_cmp {a : Nat} (h1 : 0x1800 ≤ a) (h2 : a < 0x18C0) : KeepsWrite a s (s.wrote a old w b) := by
  rw [s.wrote_cmp old w b h1 h2]
  split
  · exact (s.cmpWritten_regs _ old).keepsWrite (by simp; omega) (by decide)
  · exact KeepsWrite.refl a s

omit w b in
/-- Of a channel’s registers only CFG and BS have an action that shows in a register. -/
theorem Dev.wroteHb_sameRegs (n : Nat) {r : Nat} (h0 : r ≠ 0) (h10 : r ≠ 0x10) : (s.wroteHb n r old).regs = s.regs := by
  unfold Dev.wroteHb
  simp only
  rw [if_neg h0, if_neg h10]
  (repeat' split) <;> rfl

theorem Dev.wrote_keeps_hb {a : Nat} (h1 : 0x2A00 ≤ a) (h2 : a < 0x2D00) : KeepsWrite a s (s.wrote a old w b) := by
  rw [s.wrote_hb old w b h1 h2]
  have hflag : Reg.MOD_FLAG = 0x2804 := rfl
  have hif : Reg.HIF_FLAG = 0x10 := rfl
  by_cases hr : a % 64 = 0 ∨ a % 64 = 0x10
  · refine (s.wroteHb_regs _ _ old).keepsWrite ?_ ?_ <;>
      simp only [hbRegs, Reg.MOD_HBn_STAT, Reg.MOD_HBn_APER, List.mem_cons, List.not_mem_nil, or_false] <;> omega
  · exact RegsBut.keepsWrite (l := []) (fun o _ => Dev.reg_of_regs (s.wroteHb_sameRegs old _ (by omega) (by omega)) o) (by simp) (by simp)

theorem Dev.wrote_keeps_ring {a : Nat} (h1 : 0x3100 ≤ a) (h2 : a < 0x3200) : KeepsWrite a s (s.wrote a old w b) := by
  rw [s.wrote_ring old w b h1 h2]
  have hif : Reg.HIF_FLAG = 0x10 := rfl
  split
  · refine KeepsWrite.onlyIf _ _ _ ((s.discStart_regs _).keepsWrite ?_ ?_) <;> simp only [Reg.THK_RINGr_STAT, List.mem_singleton] <;> omega
  · exact KeepsWrite.refl a s

theorem Dev.wrote_keeps {a : Nat} (h : ownsValue a) : KeepsWrite a s (s.wrote a old w b) := by
  have hmsix : ∀ a c, KeepsWrite a s (onlyIf c (·.msix 64) s) := fun a c =>
    KeepsWrite.onlyIf _ _ _ (RegsBut.keepsWrite (l := []) (fun o _ => Dev.reg_of_regs (s.msix_regs 64) o) (by simp) (by simp))
  rcases h with h | ⟨h1, h2⟩ | ⟨h1, h2⟩ | ⟨h1, h2⟩
  · simp only [List.mem_cons, List.not_mem_nil, or_false] at h
    rcases h with rfl | rfl | rfl | rfl | rfl | rfl | rfl | rfl | rfl
    · exact hmsix _ _
    · exact hmsix _ _
    · exact s.wrote_keeps_clkCfg old w b
    · exact s.wrote_keeps_frmCfg old w b
    · exact s.wrote_keeps_frmFlag old w b
    · exact s.wrote_keeps_adcCtl old w b
    · exact (s.angWritten_regs _).keepsWrite (by decide) (by decide)
    · exact s.wrote_keeps_sppCfg old w b
    · exact s.wrote_keeps_prtCfg old w b
  · exact s.wrote_keeps_cmp old w b h1 h2
  · exact s.wrote_keeps_hb old w b h1 h2
  · exact s.wrote_keeps_ring old w b h1 h2

end

end Sys2Proof.Machine
end

section
/-! PROOFS. O40, the effects of the acting registers: each what its chapter lets the write do. -/

namespace Sys2Proof.Machine

/-! ### Fields just set -/

/-- A field just given a value that fits in it. -/
theorem Dev.get_set_fits (s : Dev) (f : Fld) {v : Nat} (hh : f.hi < 32) (hl : f.lo ≤ f.hi) (hv : v < 2 ^ (f.hi + 1 - f.lo)) : (s.set f v).get f = v := by
  rw [s.get_set_same f v hh hl, Nat.mod_eq_of_lt hv]

/-! ### Interrupts -/

/-- The host’s MSI-X state: the pending bits, the table, and Message Control. -/
def Dev.msixView (s : Dev) : List Nat × List (Nat × Word) × Bool × Bool :=
  (s.host.pba, s.host.msixTable, s.host.msixEnable, s.host.msixFnMask)

theorem msixView_of_host {s t : Dev} (h : t.host = s.host) : t.msixView = s.msixView := by rw [Dev.msixView, Dev.msixView, h]

theorem msixMasked_of_view {s t : Dev} (h : t.msixView = s.msixView) (v : Nat) : t.msixMasked v = s.msixMasked v := by
  have h2 : t.host.msixTable = s.host.msixTable := congrArg (fun x => x.2.1) h
  have h4 : t.host.msixFnMask = s.host.msixFnMask := congrArg (fun x => x.2.2.2) h
  rw [Dev.msixMasked, Dev.msixMasked, h2, h4]

/-- A message of vector `v` raises it, on a device with the host’s MSI-X state as it was. -/
theorem vectorRaised_msix {d e : Dev} (h : e.msixView = d.msixView) (v : Nat) : VectorRaised d (e.msix v) v := by
  have hm := msixMasked_of_view h v
  have hp : e.host.pba = d.host.pba := congrArg (fun x => x.1) h
  have hen : e.host.msixEnable = d.host.msixEnable := congrArg (fun x => x.2.2.1) h
  refine ⟨fun hon hmask => ?_, fun hon hmask => ?_, fun hoff => ?_⟩
  · rw [Dev.msix, hen, hon, hm, hmask]
    simp [Dev.send]
  · rw [Dev.msix, hen, hon, hm, hmask]
    simp only [Bool.not_true, Bool.false_eq_true, if_false, if_true]
    split
    · next hc => simpa using hc
    · simp
  · rw [Dev.msix, hen, hoff]
    exact hp

theorem Dev.evtMasked_of_regs {s t : Dev} (h : t.regs = s.regs) : t.evtMasked = s.evtMasked := by
  rw [Dev.evtMasked, Dev.evtMasked, Dev.reg_of_regs h, Dev.reg_of_regs h]

section
variable (d s : Dev) (old w : Word) (b : Nat)

/-- HIF_EVT: a bit cleared while a masked one stays raises vector 64 (R352). -/
theorem Dev.wrote_evt_raises (h : s.host = d.host) (hw : (old &&& w) ≠ 0#32) (hm : (s.wrote Reg.HIF_EVT old w b).evtMasked ≠ 0) :
    VectorRaised d (s.wrote Reg.HIF_EVT old w b) 64 := by
  rw [s.wrote_evt] at hm ⊢
  have hm' : s.evtMasked ≠ 0 := by
    rwa [Dev.evtMasked_of_regs (onlyIf_keeps (fun t => t.regs = s.regs) _ _ s rfl (fun t ht => (t.msix_regs 64).trans ht))] at hm
  simp only [bne_iff_ne.mpr hw, bne_iff_ne.mpr hm', Bool.and_self, onlyIf_true]
  exact vectorRaised_msix (msixView_of_host h) 64

theorem Dev.wrote_evt_quiet (hw : (old &&& w) = 0#32 ∨ (s.wrote Reg.HIF_EVT old w b).evtMasked = 0) : s.wrote Reg.HIF_EVT old w b = s := by
  rw [s.wrote_evt] at hw ⊢
  rw [Dev.evtMasked_of_regs (onlyIf_keeps (fun t => t.regs = s.regs) _ _ s rfl (fun t ht => (t.msix_regs 64).trans ht))] at hw
  rcases hw with hw | hw <;> simp [hw]

/-- HIF_EVTEN: the masked value that becomes non-zero raises vector 64 (R352). -/
theorem Dev.wrote_evten_raises (h : s.host = d.host) (hm : (s.wrote Reg.HIF_EVTEN old w 0).evtMasked ≠ 0) :
    VectorRaised d (s.wrote Reg.HIF_EVTEN old w 0) 64 := by
  rw [s.wrote_evten] at hm ⊢
  have hm' : s.evtMasked ≠ 0 := by
    rwa [Dev.evtMasked_of_regs (onlyIf_keeps (fun t => t.regs = s.regs) _ _ s rfl (fun t ht => (t.msix_regs 64).trans ht))] at hm
  simp only [bne_iff_ne.mpr hm', beq_self_eq_true, Bool.and_self, onlyIf_true]
  exact vectorRaised_msix (msixView_of_host h) 64

end

/-! ### Clock and frame -/

section
variable (s : Dev) (old w : Word) (b : Nat)

/-- A new reference band is searched for (R36). -/
theorem Dev.wrote_clkCfg_searches (h : bits (s.reg Reg.CLK_CFG) 3 0 ≠ bits old 3 0) : (s.wrote Reg.CLK_CFG old w b).pllst = pBAND := by
  rw [s.wrote_clkCfg, bne_iff_ne.mpr h, onlyIf_true]
  exact Dev.get_set_fits _ Reg.CLK_STAT_PLLST (by decide) (by decide) (by decide)

/-- A new RATE loads the default boundaries (R51). -/
theorem Dev.rateChanged_phase : s.rateChanged.reg Reg.FRM_PHASE = BitVec.ofNat 32 (defaultPhase (s.rateChanged.get Reg.FRM_CFG_RATE)) := by
  rw [Dev.get_of_reg (s.rateChanged_regs Reg.FRM_CFG_RATE.off (by decide))]
  unfold Dev.rateChanged
  simp only
  split <;> exact Dev.reg_setReg_same _ _ _

theorem Dev.wrote_frmCfg_phase (h : bits ((s.wrote Reg.FRM_CFG old w b).reg Reg.FRM_CFG) 2 0 ≠ bits old 2 0) :
    (s.wrote Reg.FRM_CFG old w b).reg Reg.FRM_PHASE = BitVec.ofNat 32 (defaultPhase ((s.wrote Reg.FRM_CFG old w b).get Reg.FRM_CFG_RATE)) := by
  obtain ⟨hreg, -⟩ := s.wrote_keeps_frmCfg old w b
  obtain ⟨href, -⟩ := s.rateRefused_keeps w
  rw [hreg, ← href] at h
  rw [s.wrote_frmCfg, bne_iff_ne.mpr h, onlyIf_true]
  exact Dev.rateChanged_phase _

/-- RATE 7 is refused in CONFIG with HIF_WERR_F (R51). -/
theorem Dev.wrote_frmCfg_refused (h7 : bits w 2 0 = 7) (hs : s.st = stCONFIG) :
    (s.wrote Reg.FRM_CFG old w b).isOn Reg.HIF_FLAG_HIF_WERR_F = true := by
  have hr : (s.rateRefused w).isOn Reg.HIF_FLAG_HIF_WERR_F = true := by
    rw [Dev.rateRefused, h7, hs]
    exact s.isOn_hifFlag _ (by decide) (by decide) (by decide)
  have hk : KeepsWrite Reg.FRM_CFG (s.rateRefused w) (s.wrote Reg.FRM_CFG old w b) := by
    rw [s.wrote_frmCfg]
    exact KeepsWrite.onlyIf _ _ _ ((Dev.rateChanged_regs _).keepsWrite (by decide) (by decide))
  exact hk.2 hr

/-- OVR_F cleared clears FRM_OVR (R64). -/
theorem Dev.wrote_frmFlag_ovr (h : bit w 0 = true) : (s.wrote Reg.FRM_FLAG old w b).reg Reg.FRM_OVR = 0#32 := by
  rw [s.wrote_frmFlag, h, onlyIf_true]
  exact Dev.reg_setReg_same _ _ _

/-! ### Converters, angle, pulse input, comparators -/

/-- EN cleared stops the converters and what they calibrate. -/
theorem Dev.wrote_adcCtl_stops (h : bit old 0 = true) (hn : s.isOn Reg.ADC_CTL_EN = false) : (s.wrote Reg.ADC_CTL old w b).adc.cal = none ∧
    (s.wrote Reg.ADC_CTL old w b).isOn Reg.ADC_CALSTAT_BUSY = false ∧ ∀ c, (s.wrote Reg.ADC_CTL old w b).convRun c = none := by
  rw [s.wrote_adcCtl, h, hn]
  exact ⟨rfl, Dev.isOn_setB_same _ _ _ _ (by decide), fun _ => rfl⟩

/-- EN set starts them without results. -/
theorem Dev.wrote_adcCtl_starts (h : bit old 0 = false) (hn : s.isOn Reg.ADC_CTL_EN = true) (n : Nat) :
    (s.wrote Reg.ADC_CTL old w b).ainRes n = none ∧ (s.wrote Reg.ADC_CTL old w b).injRes n = none := by
  rw [s.wrote_adcCtl, h, hn]
  exact ⟨rfl, rfl⟩

/-- The angle begins to wait for its input, with frequency 0 (R107). -/
theorem Dev.wrote_angCfg_waits (h : bit old 0 = false) (hn : s.isOn Reg.ANG_CFG_EN = true) :
    (s.wrote Reg.ANG_CFG old w b).xst = xWAIT ∧ (s.wrote Reg.ANG_CFG old w b).ang.fx = fZero := by
  rw [s.wrote_angCfg, Dev.angWritten, h, hn]
  refine ⟨?_, rfl⟩
  refine (Dev.get_set_apart _ Reg.ANG_STAT_INDEXED Reg.ANG_STAT_XST 0 (by decide) (by decide) (.inl (by decide))).trans ?_
  exact Dev.get_set_fits _ Reg.ANG_STAT_XST (by decide) (by decide) (by decide)

theorem Dev.wrote_angCfg_off (hn : s.isOn Reg.ANG_CFG_EN = false) : (s.wrote Reg.ANG_CFG old w b).xst = xOFF := by
  rw [s.wrote_angCfg, Dev.angWritten, hn]
  exact Dev.get_set_fits _ Reg.ANG_STAT_XST (by decide) (by decide) (by decide)

theorem Dev.wrote_sppCfg_off (h : bit old 0 = true) (hn : s.isOn Reg.CE_SPP_CFG_EN = false) : (s.wrote Reg.CE_SPP_CFG old w b).spst = spOFF := by
  rw [s.wrote_sppCfg, h, hn]
  show s.sppEnable.spst = spOFF
  rw [Dev.sppEnable, hn, if_neg Bool.false_ne_true]
  exact Dev.get_set_fits _ Reg.CE_SPP_STAT_ST (by decide) (by decide) (by decide)

theorem Dev.wrote_sppCfg_on (h : bit old 0 = false) (hn : s.isOn Reg.CE_SPP_CFG_EN = true) (ho : s.spst = spOFF) :
    (s.wrote Reg.CE_SPP_CFG old w b).spst = spFALLBACK := by
  rw [s.wrote_sppCfg, h, hn]
  show s.sppEnable.spst = spFALLBACK
  rw [Dev.sppEnable, hn, if_pos rfl, if_pos ho]
  exact Dev.get_set_fits _ Reg.CE_SPP_STAT_ST (by decide) (by decide) (by decide)

theorem bit_setBit (m i : Nat) : setBit m i / 2 ^ i % 2 = 1 := by
  unfold setBit
  split
  · assumption
  · rw [Nat.add_div_right _ (Nat.two_pow_pos i)]
    omega

/-- A comparator put into use powers up, and takes the level its configuration gives it. -/
theorem Dev.wrote_cmp_on {i : Nat} (hi : i < 24) (h : bit old 31 = false) (hn : bit (s.reg (Reg.CMP_CFGi i)) 31 = true) :
    (s.wrote (Reg.CMP_CFGi i) old w b).cmp.powering / 2 ^ i % 2 = 1 ∧
    (s.wrote (Reg.CMP_CFGi i) old w b).cmpTripped i = bit (s.reg (Reg.CMP_CFGi i)) 30 := by
  have ha : Reg.CMP_CFGi i = 0x1800 + 8 * i := rfl
  rw [s.wrote_cmp old w b (by omega) (by omega), if_pos (by omega), show (Reg.CMP_CFGi i - 0x1800) / 8 = i by omega, Dev.cmpWritten, h, hn]
  refine ⟨bit_setBit _ _, ?_⟩
  show ((s.setB ⟨0x18C0, i, i⟩ (bit (s.reg (Reg.CMP_CFGi i)) 30)).setB ⟨0x18C4, i, i⟩ false).isOn ⟨0x18C0, i, i⟩ = _
  rw [Dev.isOn, Dev.setB, Dev.get_set_off _ _ _ _ (by simp)]
  exact s.isOn_setB_same 0x18C0 i _ (by omega)

/-! ### Rings and local channels -/

/-- A ring taken out of use is off. -/
theorem Dev.wrote_ring_off {r : Nat} (hr : r < 16) (hn : s.ringEn r = false) : (s.wrote (Reg.THK_RINGr_CFG r) old w b).ringSt r = rsOFF := by
  have ha : Reg.THK_RINGr_CFG r = 0x3100 + 16 * r := rfl
  rw [s.wrote_ring old w b (by omega) (by omega), if_pos (by omega), show (Reg.THK_RINGr_CFG r - 0x3100) / 16 = r by omega, hn]
  show (s.discStart r).ringSt r = rsOFF
  rw [Dev.discStart, hn, Bool.not_false, if_pos rfl]
  exact Dev.get_set_fits _ (Reg.THK_RINGr_STAT_ST r) (show 31 < 32 by decide) (show 29 ≤ 31 by decide) (show 0 < 2 ^ 3 by decide)

theorem Dev.hbOut_out_field (n stamp : Nat) : (s.hbOut n stamp 0).get (Reg.MOD_HBn_STAT_OUT n) = 0 := by
  unfold Dev.hbOut
  simp only
  split
  · assumption
  · exact Dev.get_set_fits _ (Reg.MOD_HBn_STAT_OUT n) (show 1 < 32 by decide) (show 0 ≤ 1 by decide) (show 0 < 2 ^ 2 by decide)

/-- A transfer leaves the outputs. -/
theorem Dev.hbTransfer_out (n clk : Nat) : (s.hbTransfer n clk).get (Reg.MOD_HBn_STAT_OUT n) = s.get (Reg.MOD_HBn_STAT_OUT n) := by
  have haper : ∀ (t : Dev) v, (t.set (Reg.MOD_HBn_APER_APERIOD n) v).get (Reg.MOD_HBn_STAT_OUT n) = t.get (Reg.MOD_HBn_STAT_OUT n) := fun t v =>
    t.get_set_off _ _ v (by simp [Reg.MOD_HBn_STAT_OUT, Reg.MOD_HBn_APER_APERIOD])
  unfold Dev.hbTransfer
  simp only
  split
  · refine onlyIf_keeps (fun t => t.get (Reg.MOD_HBn_STAT_OUT n) = s.get (Reg.MOD_HBn_STAT_OUT n)) _ _ _ (haper _ _) (fun t ht => ?_)
    exact ((t.noted Reg.MOD_FLAG_SPLITUPD_F 1).get_set_off Reg.MOD_FLAG_SPLITUPD_F _ 1 (by
      simp only [Reg.MOD_HBn_STAT_OUT, Reg.MOD_FLAG_SPLITUPD_F]; omega)).trans ht
  · split
    · rfl
    · exact (haper _ _).trans (Dev.get_set_apart _ (Reg.MOD_HBn_STAT_PEND n) (Reg.MOD_HBn_STAT_OUT n) _ (by simp [Reg.MOD_HBn_STAT_PEND])
        (Nat.le_refl _) (.inl (by simp [Reg.MOD_HBn_STAT_OUT, Reg.MOD_HBn_STAT_PEND])))

/-- A local channel taken out of use has its outputs off (R190). -/
theorem Dev.wrote_hb_off {n : Nat} (hn : n < 12) (h : bit old 31 = true) (he : s.isOn (Reg.MOD_HBn_CFG_EN n) = false) :
    (s.wrote (Reg.MOD_HBn_CFG n) old w b).get (Reg.MOD_HBn_STAT_OUT n) = 0 := by
  have ha : Reg.MOD_HBn_CFG n = 0x2A00 + 64 * n := rfl
  have hdis : (s.hbDisable n).get (Reg.MOD_HBn_STAT_OUT n) = 0 := s.hbOut_out_field n (s.stamp 0)
  rw [s.wrote_hb old w b (by omega) (by omega), show (Reg.MOD_HBn_CFG n - 0x2A00) / 64 = n by omega, show Reg.MOD_HBn_CFG n % 64 = 0 by omega,
    Dev.wroteHb, if_pos rfl, h, he]
  exact onlyIf_keeps (fun t => t.get (Reg.MOD_HBn_STAT_OUT n) = 0) _ _ _ hdis (fun t ht => (t.hbTransfer_out n _).trans ht)

end

end Sys2Proof.Machine
end

section
/-! PROOFS. O40, the acting registers that take their value as any other does. -/

namespace Sys2Proof.Machine

theorem findReg_evten_noCfg {k : RegKind} (h : findReg Reg.HIF_EVTEN = some k) : k.fields.all (fun f => !f.cfg) = true := by
  have : ∀ k ∈ findReg Reg.HIF_EVTEN, k.fields.all (fun f => !f.cfg) = true := by decide
  exact this k h

theorem findReg_frmCfg_noW1c {k : RegKind} (h : findReg Reg.FRM_CFG = some k) : ∀ f ∈ k.fields, f.acc ≠ .w1c := by
  have : ∀ k ∈ findReg Reg.FRM_CFG, ∀ f ∈ k.fields, f.acc ≠ .w1c := by decide
  exact this k h

theorem findReg_frmCfg_rate {k : RegKind} (h : findReg Reg.FRM_CFG = some k) : ∃ f ∈ k.fields, f.acc = .rw ∧ f.hi = 2 ∧ f.lo = 0 := by
  have : ∀ k ∈ findReg Reg.FRM_CFG, ∃ f ∈ k.fields, f.acc = .rw ∧ f.hi = 2 ∧ f.lo = 0 := by decide
  exact this k h

section
variable (s : Dev) (k : RegKind) (a : Nat) (w : Word)

/-- A register without configuration fields refuses nothing: the write leaves the interface and what has been sent. -/
theorem Dev.putReg_noCfg (h : k.fields.all (fun f => !f.cfg) = true) : (s.putReg k a w).host = s.host ∧ (s.putReg k a w).out = s.out := by
  have he : s.configError k (s.reg a) w = s := by
    rcases s.configError_cases k (s.reg a) w with ⟨-, hc, -⟩ | ⟨-, he⟩
    · rw [RegKind.cfgDiffers_of_none h] at hc
      exact absurd hc (by decide)
    · exact he
  unfold Dev.putReg
  rw [he, Dev.beforeWritten_frame]
  exact ⟨rfl, rfl⟩

theorem Dev.putReg_prt : (s.putReg k a w).prt = s.prt := (congrArg Dev.prt (s.putReg_frame k a w)).trans rfl

theorem Dev.putReg_st (ha : a ≠ Reg.HIF_STAT) : (s.putReg k a w).st = s.st := by
  have hne : Reg.HIF_STAT ∉ [a, Reg.HIF_FLAG, Reg.HIF_EVT] :=
    List.not_mem_cons_of_ne_of_not_mem (Ne.symm ha) (by decide)
  exact Dev.get_of_reg (f := Reg.HIF_STAT_STATE) (s.putReg_regs k a w _ hne)

end

/-- RATE 7 written leaves RATE (R51). -/
theorem Dev.putReg_rate (s : Dev) {k : RegKind} (w : Word) (hk : findReg Reg.FRM_CFG = some k) (h7 : bits w 2 0 = 7) (hs : s.st = stCONFIG) :
    (s.putReg k Reg.FRM_CFG w).get Reg.FRM_CFG_RATE = s.get Reg.FRM_CFG_RATE := by
  obtain ⟨f, hf, hacc, hhi, hlo⟩ := findReg_frmCfg_rate hk
  have hw := RegKind.write_rw (findReg_wf hk) (s.st == stCONFIG) (s.reg Reg.FRM_CFG) (s.takenAs Reg.FRM_CFG (s.afterEvents k Reg.FRM_CFG w)) hf hacc
    (.inr (by simp [hs]))
  rw [hhi, hlo, s.afterEvents_self Reg.FRM_CFG w (findReg_frmCfg_noW1c hk)] at hw
  have ht : s.takenAs Reg.FRM_CFG w = setBits w 2 0 (s.get Reg.FRM_CFG_RATE) := by simp [Dev.takenAs, h7]
  have hlt : s.get Reg.FRM_CFG_RATE < 2 ^ (2 + 1 - 0) := bits_lt _ _ _
  have hreg : (s.putReg k Reg.FRM_CFG w).get Reg.FRM_CFG_RATE = bits ((s.putReg k Reg.FRM_CFG w).reg Reg.FRM_CFG) 2 0 := rfl
  rw [hreg, Dev.putReg_reg, s.afterEvents_self Reg.FRM_CFG w (findReg_frmCfg_noW1c hk), hw, ht, bits_setBits_same _ _ _ _ (by decide) (by decide),
    Nat.mod_eq_of_lt hlt]

/-- The acting registers: the value is taken as by any other register, and each sets off what its chapter says (R36, R51, R64, R107, R190, R295, R352). -/
theorem write_acting {s : State} (hs : s.live) (a : Nat) (w : Word) (k : RegKind) (v : Word) (h4 : a % 4 = 0) (hk : findReg a = some k)
    (ha : ownsValue a) (hv : v = s.dev.afterEvents k a w) :
    ∃ d, Answers (.registerWrite a 4 w) s d ∧ d.reg a = k.write (s.dev.st == stCONFIG) (s.dev.reg a) (s.dev.takenAs a v) ∧
    (s.dev.st ≠ stCONFIG → k.cfgDiffers (s.dev.reg a) w = true → d.isOn Reg.HIF_FLAG_HIF_WERR_F = true) ∧
    (a = Reg.HIF_EVT → (s.dev.reg a &&& v) ≠ 0#32 → d.evtMasked ≠ 0 → VectorRaised s.dev d 64) ∧
    (a = Reg.HIF_EVT → ((s.dev.reg a &&& v) = 0#32 ∨ d.evtMasked = 0) → d.out = [] ∧ d.host.pba = s.dev.host.pba) ∧
    (a = Reg.HIF_EVTEN → s.dev.evtMasked = 0 → d.evtMasked ≠ 0 → VectorRaised s.dev d 64) ∧
    (a = Reg.CLK_CFG → bits (d.reg a) 3 0 ≠ bits (s.dev.reg a) 3 0 → d.pllst = pBAND) ∧
    (a = Reg.FRM_CFG → bits (d.reg a) 2 0 ≠ bits (s.dev.reg a) 2 0 → d.reg Reg.FRM_PHASE = BitVec.ofNat 32 (defaultPhase (d.get Reg.FRM_CFG_RATE))) ∧
    (a = Reg.FRM_CFG → bits w 2 0 = 7 → s.dev.st = stCONFIG → d.isOn Reg.HIF_FLAG_HIF_WERR_F = true ∧ d.get Reg.FRM_CFG_RATE = s.dev.get Reg.FRM_CFG_RATE) ∧
    (a = Reg.FRM_FLAG → bit v 0 = true → d.reg Reg.FRM_OVR = 0#32) ∧
    (a = Reg.ADC_CTL → s.dev.isOn Reg.ADC_CTL_EN = true → d.isOn Reg.ADC_CTL_EN = false → d.adc.cal = none ∧ d.isOn Reg.ADC_CALSTAT_BUSY = false ∧
      ∀ c, d.convRun c = none) ∧
    (a = Reg.ADC_CTL → s.dev.isOn Reg.ADC_CTL_EN = false → d.isOn Reg.ADC_CTL_EN = true → ∀ n, d.ainRes n = none ∧ d.injRes n = none) ∧
    (a = Reg.ANG_CFG → s.dev.isOn Reg.ANG_CFG_EN = false → d.isOn Reg.ANG_CFG_EN = true → d.xst = xWAIT ∧ d.ang.fx = fZero) ∧
    (a = Reg.ANG_CFG → d.isOn Reg.ANG_CFG_EN = false → d.xst = xOFF) ∧
    (a = Reg.CE_SPP_CFG → s.dev.isOn Reg.CE_SPP_CFG_EN = true → d.isOn Reg.CE_SPP_CFG_EN = false → d.spst = spOFF) ∧
    (a = Reg.CE_SPP_CFG → s.dev.isOn Reg.CE_SPP_CFG_EN = false → d.isOn Reg.CE_SPP_CFG_EN = true → s.dev.spst = spOFF → d.spst = spFALLBACK) ∧
    (∀ r, r < 2 → a = Reg.PRT_CFG → s.dev.loopOn r = false → d.loopOn r = true → s.dev.isOn Reg.PRT_STAT_BLANK = false →
      d.tin r = (s.dev.prt.pinIn / 2 ^ r % 2 == 1) ∧ (s.dev.prt.pinIn / 2 ^ r % 2 = 1 → d.loopLatch r = true)) ∧
    (∀ i, i < 24 → a = Reg.CMP_CFGi i → s.dev.isOn (Reg.CMP_CFGi_EN i) = false → d.isOn (Reg.CMP_CFGi_EN i) = true →
      d.cmp.powering / 2 ^ i % 2 = 1 ∧ d.cmpTripped i = bit (d.reg a) 30) ∧
    (∀ r, r < 16 → a = Reg.THK_RINGr_CFG r → d.ringEn r = false → d.ringSt r = rsOFF) ∧
    (∀ n, n < 12 → a = Reg.MOD_HBn_CFG n → s.dev.isOn (Reg.MOD_HBn_CFG_EN n) = true → d.isOn (Reg.MOD_HBn_CFG_EN n) = false →
      d.get (Reg.MOD_HBn_STAT_OUT n) = 0) := by
  obtain ⟨haq, hvlt⟩ := ownsValue_plain ha
  have hans := answers_writeReg hs w h4 hk
  rw [s.start.writeReg_putReg w hk haq hvlt, show s.start.afterEvents k a w = v from hv.symm] at hans
  have hp : (s.start.putReg k a w).reg a = k.write (s.dev.st == stCONFIG) (s.dev.reg a) (s.dev.takenAs a v) := by
    rw [hv]
    exact s.start.putReg_reg k a w
  have hbefore : s.start.evtMasked = s.dev.evtMasked := rfl
  have hold : s.start.reg a = s.dev.reg a := rfl
  obtain ⟨hreg, hwerr⟩ := (s.start.putReg k a w).wrote_keeps (s.dev.reg a) v s.dev.evtMasked ha
  have hon : ∀ f : Fld, f.off = a → ((s.start.putReg k a w).wrote a (s.dev.reg a) v s.dev.evtMasked).isOn f = (s.start.putReg k a w).isOn f :=
    fun f hf => Dev.isOn_of_reg (by rw [hf]; exact hreg)
  rw [hold, hbefore] at hans
  refine ⟨_, hans, hreg.trans hp, fun h1 h2 => hwerr (s.start.putReg_werr k a w hk h1 h2), ?_, ?_, ?_, ?_, ?_, ?_, ?_, ?_, ?_, ?_, ?_, ?_, ?_, ?_, ?_, ?_, ?_⟩
  case refine_1 =>
    rintro rfl h1 h2
    exact Dev.wrote_evt_raises s.dev _ _ _ _ ((s.start.putReg_noCfg k _ w (findReg_evt_noCfg hk)).1) h1 h2
  case refine_2 =>
    rintro rfl h1
    obtain ⟨hh, ho⟩ := s.start.putReg_noCfg k _ w (findReg_evt_noCfg hk)
    rw [Dev.wrote_evt_quiet _ _ _ _ h1, hh, ho]
    exact ⟨rfl, rfl⟩
  case refine_3 =>
    rintro rfl h1 h2
    rw [h1] at h2 ⊢
    exact Dev.wrote_evten_raises s.dev _ _ _ ((s.start.putReg_noCfg k _ w (findReg_evten_noCfg hk)).1) h2
  case refine_4 =>
    rintro rfl h1
    rw [hreg] at h1
    exact Dev.wrote_clkCfg_searches _ _ _ _ h1
  case refine_5 =>
    rintro rfl h1
    exact Dev.wrote_frmCfg_phase _ _ _ _ h1
  case refine_6 =>
    rintro rfl h7 hst
    have hvw : v = w := hv.trans (s.dev.afterEvents_self _ w (findReg_frmCfg_noW1c hk))
    subst hvw
    refine ⟨Dev.wrote_frmCfg_refused _ _ _ _ h7 ((s.start.putReg_st k _ v (by decide)).trans hst), ?_⟩
    rw [Dev.get_of_reg (f := Reg.FRM_CFG_RATE) hreg]
    exact s.start.putReg_rate v hk h7 hst
  case refine_7 =>
    rintro rfl h1
    exact Dev.wrote_frmFlag_ovr _ _ _ _ h1
  case refine_8 =>
    rintro rfl h1 h2
    rw [hon Reg.ADC_CTL_EN rfl] at h2
    exact Dev.wrote_adcCtl_stops _ _ _ _ h1 h2
  case refine_9 =>
    rintro rfl h1 h2
    rw [hon Reg.ADC_CTL_EN rfl] at h2
    exact Dev.wrote_adcCtl_starts _ _ _ _ h1 h2
  case refine_10 =>
    rintro rfl h1 h2
    rw [hon Reg.ANG_CFG_EN rfl] at h2
    exact Dev.wrote_angCfg_waits _ _ _ _ h1 h2
  case refine_11 =>
    rintro rfl h1
    rw [hon Reg.ANG_CFG_EN rfl] at h1
    exact Dev.wrote_angCfg_off _ _ _ _ h1
  case refine_12 =>
    rintro rfl h1 h2
    rw [hon Reg.CE_SPP_CFG_EN rfl] at h2
    exact Dev.wrote_sppCfg_off _ _ _ _ h1 h2
  case refine_13 =>
    rintro rfl h1 h2 h3
    rw [hon Reg.CE_SPP_CFG_EN rfl] at h2
    refine Dev.wrote_sppCfg_on _ _ _ _ h1 h2 ?_
    exact (Dev.get_of_reg (f := Reg.CE_SPP_STAT_ST) (s.start.putReg_regs k _ w _ (by decide))).trans h3
  case refine_14 =>
    rintro r hr rfl h1 h2 h3
    have hon' : (s.start.putReg k Reg.PRT_CFG w).loopOn r = true := (hon ⟨0x4000, r, r⟩ rfl).symm.trans h2
    have hbl : (s.start.putReg k Reg.PRT_CFG w).isOn Reg.PRT_STAT_BLANK = false :=
      (Dev.isOn_of_reg (f := Reg.PRT_STAT_BLANK) (s.start.putReg_regs k _ w _ (by decide))).trans h3
    obtain ⟨ht, hl⟩ := Dev.wrote_prtCfg_loop _ _ v s.dev.evtMasked hr h1 hon' hbl
    have hpin : (s.start.putReg k Reg.PRT_CFG w).pinLevel r = (s.dev.prt.pinIn / 2 ^ r % 2 == 1) := by
      rw [Dev.pinLevel, Dev.putReg_prt]
      rfl
    rw [hpin] at ht hl
    exact ⟨ht, fun h => hl (by simp [h])⟩
  case refine_15 =>
    rintro i hi rfl h1 h2
    rw [hon (Reg.CMP_CFGi_EN i) rfl] at h2
    rw [hreg]
    exact Dev.wrote_cmp_on _ _ _ _ hi h1 h2
  case refine_16 =>
    rintro r hr rfl h1
    exact Dev.wrote_ring_off _ _ _ _ hr ((hon (Reg.THK_RINGr_CFG_EN r) rfl).symm.trans h1)
  case refine_17 =>
    rintro n hn rfl h1 h2
    rw [hon (Reg.MOD_HBn_CFG_EN n) rfl] at h2
    exact Dev.wrote_hb_off _ _ _ _ hn h1 h2

end Sys2Proof.Machine
end

section
/-! PROOFS. O40, the rearm bits, PTPOFS, HIF_AQ_CFG, the vault’s registers, and the commands that are register writes. -/

namespace Sys2Proof.Machine

/-! ### A register written twice -/

theorem sremove_self {α : Type} (l : List (Nat × α)) (k : Nat) (h : ∀ p ∈ l, p.1 ≠ k) : sremove l k = l := by
  rw [sremove, List.filter_eq_self]
  intro p hp
  simpa using h p hp

theorem sremove_sinsert {α : Type} (l : List (Nat × α)) (k : Nat) (v : α) (h : ∀ p ∈ l, p.1 ≠ k) : sremove (sinsert k v l) k = l := by
  induction l with
  | nil => simp [sinsert, sremove]
  | cons x t ih =>
    have hx : x.1 ≠ k := h x (by simp)
    have ht : ∀ p ∈ t, p.1 ≠ k := fun p hp => h p (by simp [hp])
    rw [sinsert]
    split
    · have hself := sremove_self (x :: t) k h
      rw [sremove] at hself ⊢
      rw [List.filter_cons_of_neg (by simp), hself]
    · have hih := ih ht
      rw [sremove] at hih ⊢
      rw [List.filter_cons_of_pos (by simpa using hx), hih]

theorem sset_sset {α : Type} [DecidableEq α] (d : Nat → α) (l : List (Nat × α)) (k : Nat) (u v : α) : sset d (sset d l k u) k v = sset d l k v := by
  have h : sremove (sset d l k u) k = sremove l k := by
    unfold sset
    split
    · exact sremove_self _ _ (sremove_ne l k)
    · exact sremove_sinsert _ _ _ (sremove_ne l k)
  show (if v = d k then sremove (sset d l k u) k else sinsert k v (sremove (sset d l k u) k)) = sset d l k v
  rw [h]
  rfl

theorem Dev.setReg_setReg_regs (s : Dev) (o : Nat) (u v : Word) : ((s.setReg o u).setReg o v).regs = (s.setReg o v).regs :=
  sset_sset _ _ _ _ _

/-! ### Registers without configuration and W1C fields -/

/-- A register that refuses nothing and clears nothing. -/
def RegKind.simple (k : RegKind) : Bool := k.fields.all (fun f => !f.cfg && f.acc != .w1c)

theorem RegKind.simple_noCfg {k : RegKind} (h : k.simple = true) : k.fields.all (fun f => !f.cfg) = true := by
  rw [RegKind.simple, List.all_eq_true] at h
  rw [List.all_eq_true]
  intro f hf
  exact (Bool.and_eq_true_iff.mp (h f hf)).1

theorem RegKind.simple_noW1c {k : RegKind} (h : k.simple = true) : ∀ f ∈ k.fields, f.acc ≠ .w1c := by
  rw [RegKind.simple, List.all_eq_true] at h
  intro f hf
  simpa using (Bool.and_eq_true_iff.mp (h f hf)).2

/-- The acting registers of that sort. -/
def simpleActing : List Nat :=
  [Reg.HIF_MBX_CTL, Reg.HIF_POOL_LOW, Reg.FRM_PEAK, Reg.PWR_PEAK, Reg.ANG_CTL, Reg.HIF_PTPOFS_LO, Reg.HIF_PTPOFS_HI, Reg.ADC_CALCTL, Reg.THK_CMD,
   Reg.SNP_REL]

theorem simpleActing_kind : ∀ a ∈ simpleActing, ∃ k, findReg a = some k ∧ k.simple = true ∧ a % 4 = 0 ∧ a ≠ Reg.HIF_AQ_CFG ∧ isVault a = false := by
  have h : ∀ a ∈ simpleActing, (findReg a).any RegKind.simple = true ∧ a % 4 = 0 ∧ a ≠ Reg.HIF_AQ_CFG ∧ isVault a = false := by decide
  intro a ha
  obtain ⟨hk, hrest⟩ := h a ha
  cases hf : findReg a with
  | none => simp [hf] at hk
  | some k =>
    rw [hf] at hk
    exact ⟨k, rfl, hk, hrest⟩

section
variable (s : Dev) (k : RegKind) (a : Nat) (w : Word)

/-- Its own write changes the register and the note of the clock’s events. -/
theorem Dev.putReg_simple (h : k.simple = true) : s.putReg k a w =
    { s with regs := (s.setReg a (k.write (s.st == stCONFIG) (s.reg a) (s.takenAs a w))).regs, evt := (s.putReg k a w).evt } := by
  have he : s.configError k (s.reg a) w = s := by
    rcases s.configError_cases k (s.reg a) w with ⟨-, hc, -⟩ | ⟨-, he⟩
    · rw [RegKind.cfgDiffers_of_none (RegKind.simple_noCfg h)] at hc
      exact absurd hc (by decide)
    · exact he
  unfold Dev.putReg
  rw [he, s.afterEvents_self a w (RegKind.simple_noW1c h), Dev.beforeWritten_frame]
  rfl

theorem Dev.putReg_simple_regs (h : k.simple = true) : RegsBut s (s.putReg k a w) [a] :=
  s.putReg_regs_accepted k a w (.inr (RegKind.cfgDiffers_of_none (RegKind.simple_noCfg h) _ _))

end

/-- Such a register’s write, and what it sets off. -/
theorem answers_simple {s : State} (hs : s.live) {a : Nat} (ha : a ∈ simpleActing) (w : Word) : ∃ k, findReg a = some k ∧ k.simple = true ∧
    Answers (.registerWrite a 4 w) s ((s.start.putReg k a w).wrote a (s.dev.reg a) w s.dev.evtMasked) := by
  obtain ⟨k, hk, hsim, h4, haq, hv⟩ := simpleActing_kind a ha
  have hans := answers_writeReg hs w h4 hk
  rw [s.start.writeReg_putReg w hk haq hv, s.start.afterEvents_self a w (RegKind.simple_noW1c hsim)] at hans
  exact ⟨k, hk, hsim, hans⟩

/-! ### The rearm bits -/

theorem Dev.wrote_bitClear (s : Dev) (old w : Word) (b : Nat) {x : Nat × Nat}
    (hx : x ∈ [(Reg.HIF_MBX_CTL, 0), (Reg.HIF_POOL_LOW, 31), (Reg.FRM_PEAK, 31), (Reg.PWR_PEAK, 31), (Reg.ANG_CTL, 0)]) (hw : bit w x.2 = false) :
    s.wrote x.1 old w b = s := by
  simp only [List.mem_cons, List.not_mem_nil, or_false] at hx
  rcases hx with rfl | rfl | rfl | rfl | rfl
  · exact congrArg (fun c => onlyIf c (·.mbxGo) s) hw
  · exact congrArg (fun c => onlyIf c (·.poolRearm) s) hw
  · exact congrArg (fun c => onlyIf c (fun t => t.set Reg.FRM_PEAK_PEAK 0) s) hw
  · exact congrArg (fun c => onlyIf c (fun t => t.set Reg.PWR_PEAK_PEAK 0) s) hw
  · exact congrArg (fun c => onlyIf c (·.angRearm) s) hw

/-- With its bit 0 the write sets nothing off. -/
theorem write_rearmClear {s : State} (hs : s.live) :
    ∀ x ∈ [(Reg.HIF_MBX_CTL, 0), (Reg.HIF_POOL_LOW, 31), (Reg.FRM_PEAK, 31), (Reg.PWR_PEAK, 31), (Reg.ANG_CTL, 0)], ∀ w, bit w x.2 = false →
    ∃ d, Answers (.registerWrite x.1 4 w) s d ∧ RegsBut s.dev d [x.1] := by
  intro x hx w hw
  have hsub : ∀ y ∈ [(Reg.HIF_MBX_CTL, 0), (Reg.HIF_POOL_LOW, 31), (Reg.FRM_PEAK, 31), (Reg.PWR_PEAK, 31), (Reg.ANG_CTL, 0)], y.1 ∈ simpleActing := by
    decide
  obtain ⟨k, -, hsim, hans⟩ := answers_simple hs (hsub x hx) w
  rw [Dev.wrote_bitClear _ _ _ _ hx hw] at hans
  exact ⟨_, hans, s.start.putReg_simple_regs k x.1 w hsim⟩

/-! ### PTPOFS (R365) -/

/-- The low word waits for the high word. -/
theorem write_ptpofsLo {s : State} (hs : s.live) (w : Word) : ∃ d, Answers (.registerWrite Reg.HIF_PTPOFS_LO 4 w) s d ∧
    d.regs = (s.dev.setReg Reg.HIF_PTPOFS_LO (s.dev.reg Reg.HIF_PTPOFS_LO)).regs ∧ d.host.mgt.ofsLow = some w := by
  obtain ⟨k, -, hsim, hans⟩ := answers_simple hs (show Reg.HIF_PTPOFS_LO ∈ simpleActing by decide) w
  refine ⟨_, hans, ?_, rfl⟩
  rw [s.start.putReg_simple k _ w hsim]
  exact Dev.setReg_setReg_regs _ _ _ _

theorem findReg_ptpofsHi {k : RegKind} (h : findReg Reg.HIF_PTPOFS_HI = some k) : ∃ f ∈ k.fields, f.acc = .rw ∧ f.cfg = false ∧ f.hi = 31 ∧ f.lo = 0 := by
  have : ∀ k ∈ findReg Reg.HIF_PTPOFS_HI, ∃ f ∈ k.fields, f.acc = .rw ∧ f.cfg = false ∧ f.hi = 31 ∧ f.lo = 0 := by decide
  exact this k h

theorem word_eq_of_bits {v w : Word} (h : bits v 31 0 = bits w 31 0) : v = w := by
  have hb : ∀ x : Word, bits x 31 0 = x.toNat := fun x => by
    have := x.isLt
    simp only [bits]
    omega
  exact BitVec.eq_of_toNat_eq ((hb v).symm.trans (h.trans (hb w)))

theorem write_ptpofsHi {s : State} (hs : s.live) (w : Word) : ∃ d, Answers (.registerWrite Reg.HIF_PTPOFS_HI 4 w) s d ∧
    d.reg Reg.HIF_PTPOFS_HI = w ∧ d.host.mgt.ofsLow = none ∧ d.reg Reg.HIF_PTPOFS_LO = s.dev.host.mgt.ofsLow.getD (s.dev.reg Reg.HIF_PTPOFS_LO) ∧
    RegsBut s.dev d [Reg.HIF_PTPOFS_LO, Reg.HIF_PTPOFS_HI] := by
  obtain ⟨k, hk, hsim, hans⟩ := answers_simple hs (show Reg.HIF_PTPOFS_HI ∈ simpleActing by decide) w
  obtain ⟨f, hf, hacc, hcfg, hhi, hlo⟩ := findReg_ptpofsHi hk
  have hreg : (s.start.putReg k Reg.HIF_PTPOFS_HI w).reg Reg.HIF_PTPOFS_HI = w := by
    apply word_eq_of_bits
    have hw := RegKind.write_rw (findReg_wf hk) (s.start.st == stCONFIG) (s.start.reg Reg.HIF_PTPOFS_HI)
      (s.start.takenAs Reg.HIF_PTPOFS_HI (s.start.afterEvents k Reg.HIF_PTPOFS_HI w)) hf hacc (.inl hcfg)
    rw [Dev.putReg_reg, ← hhi, ← hlo, hw, s.start.afterEvents_self _ w (RegKind.simple_noW1c hsim)]
    rfl
  have hregs : RegsBut s.dev (s.start.putReg k Reg.HIF_PTPOFS_HI w) [Reg.HIF_PTPOFS_LO, Reg.HIF_PTPOFS_HI] :=
    (s.start.putReg_simple_regs k _ w hsim).mono (by simp)
  have hlow : (s.start.putReg k Reg.HIF_PTPOFS_HI w).host.mgt.ofsLow = s.dev.host.mgt.ofsLow := by rw [s.start.putReg_simple k _ w hsim]; rfl
  have hw : (s.start.putReg k Reg.HIF_PTPOFS_HI w).wrote Reg.HIF_PTPOFS_HI (s.dev.reg Reg.HIF_PTPOFS_HI) w s.dev.evtMasked =
      (match (s.start.putReg k Reg.HIF_PTPOFS_HI w).host.mgt.ofsLow with
      | some lo => { ((s.start.putReg k Reg.HIF_PTPOFS_HI w).setReg Reg.HIF_PTPOFS_LO lo) with
          host := { (s.start.putReg k Reg.HIF_PTPOFS_HI w).host with
            mgt := { (s.start.putReg k Reg.HIF_PTPOFS_HI w).host.mgt with ofsLow := none } } }
      | none => s.start.putReg k Reg.HIF_PTPOFS_HI w) := rfl
  refine ⟨_, hans, ?_⟩
  rw [hw]
  cases hofs : s.dev.host.mgt.ofsLow with
  | none =>
    rw [hofs] at hlow
    rw [hlow]
    exact ⟨hreg, hlow, s.start.putReg_simple_regs k _ w hsim _ (by decide), hregs⟩
  | some lo =>
    rw [hofs] at hlow
    rw [hlow]
    exact ⟨(Dev.reg_setReg_ne _ _ _ _ (by decide)).trans hreg, rfl, Dev.reg_setReg_same _ _ _, hregs.setReg _ _ (by simp)⟩

/-! ### HIF_AQ_CFG (R365) -/

theorem answers_aqWrite {s : State} (hs : s.live) (w : Word) : Answers (.registerWrite Reg.HIF_AQ_CFG 4 w) s (s.start.aqWrite w) := by
  rw [← show s.start.writeReg Reg.HIF_AQ_CFG w = s.start.aqWrite w from rfl]
  exact answers_write hs w (by decide) (by decide) (List.mem_cons_self ..)

theorem write_aqCfg_off {s : State} (hs : s.live) (w : Word) (he : s.dev.isOn Reg.HIF_AQ_CFG_EN = false) (hw : bit w 31 = false) :
    ∃ d, Answers (.registerWrite Reg.HIF_AQ_CFG 4 w) s d ∧ d.reg Reg.HIF_AQ_CFG = w &&& 0x603F0F0F#32 ∧ RegsBut s.dev d [Reg.HIF_AQ_CFG] := by
  refine ⟨_, answers_aqWrite hs w, ?_⟩
  rw [Dev.aqWrite, show s.start.isOn Reg.HIF_AQ_CFG_EN = false from he, hw]
  exact ⟨Dev.reg_setReg_same _ _ _, (RegsBut.refl s.dev _).setReg _ _ (by simp)⟩

theorem write_aqCfg_on {s : State} (hs : s.live) (w : Word) (he : s.dev.isOn Reg.HIF_AQ_CFG_EN = true) (hw : bit w 31 = true) :
    Answers (.registerWrite Reg.HIF_AQ_CFG 4 w) s s.start := by
  have h : s.start.aqWrite w = s.start := by
    rw [Dev.aqWrite, show s.start.isOn Reg.HIF_AQ_CFG_EN = true from he, hw]
    rfl
  rw [← h]
  exact answers_aqWrite hs w

/-! ### The vault’s registers (R425, R439) -/

theorem Dev.writeReg_vault (s : Dev) {a : Nat} {k : RegKind} (w : Word) (hv : isVault a = true) (hk : findReg a = some k) :
    s.writeReg a w = s.vaultWrite k a w := by
  have haq : a ≠ Reg.HIF_AQ_CFG := by
    rintro rfl
    exact absurd hv (by decide)
  rw [s.writeReg_some w hk, if_neg haq, if_pos hv]

theorem isVault_ne {a : Nat} (hv : isVault a = true) : a ≠ Reg.HIF_FLAG ∧ a ≠ Reg.HIF_EVT := by
  refine ⟨?_, ?_⟩
  · rintro rfl
    exact absurd hv (by decide)
  · rintro rfl
    exact absurd hv (by decide)

/-- A dark vault takes no write; another takes it as a register does, what the mirror shows being what a refused change is told by. -/
theorem write_vault {s : State} (hs : s.live) (a : Nat) (w : Word) (k : RegKind) (h4 : a % 4 = 0) (hv : isVault a = true) (hk : findReg a = some k) :
    (s.dev.vlt.dark = true → Answers (.registerWrite a 4 w) s s.start) ∧
    (s.dev.vlt.dark = false → ∃ d, Answers (.registerWrite a 4 w) s d ∧ d.reg a = k.write (s.dev.st == stCONFIG) (s.dev.reg a) (s.dev.afterEvents k a w) ∧
      RegsBut s.dev d [a, Reg.HIF_FLAG, Reg.HIF_EVT] ∧
      (s.dev.st ≠ stCONFIG → k.cfgDiffers (sget resetWord s.dev.vlt.mirror a) w = true → d.isOn Reg.HIF_FLAG_HIF_WERR_F = true)) := by
  have hans := answers_writeReg hs w h4 hk
  rw [s.start.writeReg_vault w hv hk, Dev.vaultWrite] at hans
  refine ⟨fun hd => ?_, fun hd => ?_⟩
  · rwa [if_pos (show s.start.vlt.dark = true from hd)] at hans
  · rw [if_neg (show ¬ s.start.vlt.dark = true by simp [show s.start.vlt.dark = false from hd])] at hans
    obtain ⟨hflag, hevt⟩ := isVault_ne hv
    have hregs := s.start.configError_regs k (sget resetWord s.start.vlt.mirror a) w
    have hreg : (s.start.configError k (sget resetWord s.start.vlt.mirror a) w).reg a = s.dev.reg a := hregs a (by simp [hflag, hevt])
    have hst : (s.start.configError k (sget resetWord s.start.vlt.mirror a) w).st = s.dev.st := Dev.get_of_reg (hregs Reg.HIF_STAT (by decide))
    have haft := s.start.afterEvents_configError hk k (sget resetWord s.start.vlt.mirror a) w w
    refine ⟨_, hans, ?_, (hregs.mono (by simp)).setReg _ _ (by simp), fun h1 h2 => ?_⟩
    · rw [Dev.reg_setReg_same, hreg, hst, haft]
      rfl
    · rw [Dev.isOn_of_reg (f := Reg.HIF_FLAG_HIF_WERR_F) (Dev.reg_setReg_ne _ _ _ _ hflag.symm)]
      exact s.start.configError_werr h1 h2

/-! ### Commands that are register writes -/

theorem write_isCommand (s : State) (n : Nat) :
    ∀ x ∈ [(Reg.HIF_MBX_CTL, 1#32, Instr.mbxGo), (Reg.HIF_MBX_ACK, BitVec.ofNat 32 (n % 256), .mbxAck n),
      (Reg.HIF_POOL_LOW, 0x80000000#32, .poolLowRearm), (Reg.FRM_PEAK, 0x80000000#32, .frmPeakRearm), (Reg.PWR_PEAK, 0x80000000#32, .pwrPeakRearm),
      (Reg.ADC_JSOFT, BitVec.ofNat 32 (n % 256), .jsoftTrigger n), (Reg.ANG_CTL, 1#32, .angRearm), (Reg.SNP_REL, BitVec.ofNat 32 (n % 16), .snpRel n)],
    exec (.registerWrite x.1 4 x.2.1) s = exec x.2.2 s := by
  intro x hx
  simp only [List.mem_cons, List.not_mem_nil, or_false] at hx
  rcases hx with rfl | rfl | rfl | rfl | rfl | rfl | rfl | rfl <;> rfl

theorem write_isClearOrEnable (s : State) (w : Word) :
    exec (.registerWrite Reg.HIF_AQ_CFG 4 (w ||| 0x80000000#32)) s = exec (.aqEnable w) s ∧
    exec (.registerWrite Reg.PRT_LAT_LO 4 w) s = exec (.prtLatClear false w) s ∧
    exec (.registerWrite Reg.PRT_LAT_HI 4 w) s = exec (.prtLatClear true w) s := ⟨rfl, rfl, rfl⟩

theorem write_isDoorbell (s : State) (q v : Nat) (hq : q < 64) :
    exec (.registerWrite (0x8000 + 16 * q) 4 (BitVec.ofNat 32 v)) s = exec (.sqtDoorbell q v) s ∧
    exec (.registerWrite (0x8004 + 16 * q) 4 (BitVec.ofNat 32 v)) s = exec (.cqhDoorbell q v) s := by
  have hl : ∀ f : Dev → Dev, onLive (fun d => onlyIf (decide (q < 64)) f d) s = onLive f s := fun f => by rw [decide_eq_true hq]; rfl
  exact ⟨(hl (fun d => d.hostWriteAt (0x8000 + 16 * q) 4 (BitVec.ofNat 32 v))).symm,
    (hl (fun d => d.hostWriteAt (0x8004 + 16 * q) 4 (BitVec.ofNat 32 v))).symm⟩

end Sys2Proof.Machine
end

section
/-! PROOFS. O40, interrupts (R352): the MSI-X table and Message Control, the CQH doorbell, an event, and a completion entry. -/

namespace Sys2Proof.Machine

/-! ### The MSI-X table and Message Control -/

theorem Dev.sendAll_host (l : List Nat) (s : Dev) : (forEach l (fun v t => t.send (.msix v)) s).host = s.host :=
  forEach_keeps (fun t => t.host = s.host) l _ s rfl (fun _ _ h => h)

theorem Dev.sendAll_regs (l : List Nat) (s : Dev) : (forEach l (fun v t => t.send (.msix v)) s).regs = s.regs :=
  forEach_keeps (fun t => t.regs = s.regs) l _ s rfl (fun _ _ h => h)

theorem Dev.sendAll_out (l : List Nat) (s : Dev) : (forEach l (fun v t => t.send (.msix v)) s).out = s.out ++ l.map .msix := by
  induction l generalizing s with
  | nil => simp
  | cons a t ih => rw [forEach_cons, ih]; simp [Dev.send]

theorem Dev.msixRelease_regs (s : Dev) : s.msixRelease.regs = s.regs := by
  unfold Dev.msixRelease
  split
  · rfl
  · exact Dev.sendAll_regs _ _

theorem Dev.msixRelease_host (s : Dev) : s.msixRelease.host = { s.host with pba := s.msixRelease.host.pba } := by
  unfold Dev.msixRelease
  split
  · rfl
  · simp only [Dev.sendAll_host]

theorem Dev.msixRelease_masked (s : Dev) (v : Nat) : s.msixRelease.msixMasked v = s.msixMasked v := by
  rw [Dev.msixMasked, s.msixRelease_host]
  rfl

/-- While MSI-X is enabled what is not masked is sent, and what is stays pending. -/
theorem Dev.msixRelease_spec (s : Dev) (hen : s.host.msixEnable = true) : ∀ v ∈ s.host.pba,
    (s.msixRelease.msixMasked v = false → .msix v ∈ s.msixRelease.out ∧ v ∉ s.msixRelease.host.pba) ∧
    (s.msixRelease.msixMasked v = true → v ∈ s.msixRelease.host.pba) := by
  intro v hv
  have hpba : s.msixRelease.host.pba = s.host.pba.filter s.msixMasked := by
    rw [Dev.msixRelease, hen]
    exact congrArg HostSt.pba (Dev.sendAll_host _ _)
  have hout : s.msixRelease.out = s.out ++ (s.host.pba.filter (fun v => !s.msixMasked v)).map .msix := by
    rw [Dev.msixRelease, hen]
    exact Dev.sendAll_out _ _
  rw [s.msixRelease_masked, hpba, hout]
  refine ⟨fun hm => ⟨?_, ?_⟩, fun hm => ?_⟩
  · exact List.mem_append_right _ (List.mem_map_of_mem (List.mem_filter.mpr ⟨hv, by simp [hm]⟩))
  · simp [hm]
  · exact List.mem_filter.mpr ⟨hv, hm⟩

/-- A word of the MSI-X table, before what it unmasks is sent. -/
def Dev.putTable (s : Dev) (j : Nat) (w : Word) : Dev :=
  { s with host := { s.host with msixTable := sset (fun i => if i % 4 = 3 then 1#32 else 0#32) s.host.msixTable j w } }

theorem Dev.msixWrite_eq (s : Dev) {j : Nat} (w : Word) (hj : j < 260) : s.msixWrite (4 * j) w = (s.putTable j w).msixRelease := by
  rw [Dev.msixWrite, if_pos (by omega), show 4 * j / 4 = j by omega]
  rfl

/-- Message Control, before what it unmasks is sent. -/
def Dev.putControl (s : Dev) (w : Word) : Dev := { s with host := { s.host with msixEnable := bit w 15, msixFnMask := bit w 14 } }

theorem Dev.bar2_table (s : Dev) {k : Nat} (hk : k < 260) :
    s.bar2 (4 * k) = sget (fun i => if i % 4 = 3 then 1#32 else 0#32) s.host.msixTable k := by
  rw [Dev.bar2, if_pos (by omega), show 4 * k / 4 = k by omega]

/-- A word of BAR2 written. -/
theorem write_bar2 {s : State} (hs : s.live) (j : Nat) (w : Word) (hj : j < 260) :
    ∃ d, Answers (.registerWrite (0x10000 + 4 * j) 4 w) s d ∧ d.regs = s.dev.regs ∧ d.bar2 (4 * j) = w ∧
    (∀ k, k < 260 → k ≠ j → d.bar2 (4 * k) = s.dev.bar2 (4 * k)) ∧
    (s.dev.host.msixEnable = true → ∀ v ∈ s.dev.host.pba, (d.msixMasked v = false → .msix v ∈ d.out ∧ v ∉ d.host.pba) ∧
      (d.msixMasked v = true → v ∈ d.host.pba)) := by
  have hans := answers_registerWrite hs (0x10000 + 4 * j) 4 w
  rw [Dev.hostWriteAt_bar2 (s := s.start) hs w (by omega), Dev.msixWrite_eq _ w hj] at hans
  refine ⟨_, hans, Dev.msixRelease_regs _, ?_, fun k hk hne => ?_, fun hen => (s.start.putTable j w).msixRelease_spec hen⟩
  · rw [Dev.bar2_table _ hj, Dev.msixRelease_host]
    exact sget_sset_same _ _ _ _
  · rw [Dev.bar2_table _ hk, Dev.bar2_table _ hk, Dev.msixRelease_host]
    exact sget_sset_ne _ _ _ _ _ hne

/-- Message Control written. -/
theorem write_msgControl {s : State} (hs : s.live) (w : Word) : ∃ d, Answers (.registerWrite 0x20000 4 w) s d ∧ d.regs = s.dev.regs ∧
    d.host.msixEnable = bit w 15 ∧ d.host.msixFnMask = bit w 14 ∧
    (bit w 15 = true → ∀ v ∈ s.dev.host.pba, (d.msixMasked v = false → .msix v ∈ d.out ∧ v ∉ d.host.pba) ∧
      (d.msixMasked v = true → v ∈ d.host.pba)) := by
  have hans := answers_registerWrite hs 0x20000 4 w
  rw [Dev.hostWriteAt_control (s := s.start) hs w, show s.start.msixControl w = (s.start.putControl w).msixRelease from rfl] at hans
  refine ⟨_, hans, Dev.msixRelease_regs _, ?_, ?_, fun hen => (s.start.putControl w).msixRelease_spec hen⟩
  · rw [Dev.msixRelease_host]
    rfl
  · rw [Dev.msixRelease_host]
    rfl

/-! ### An event -/

theorem Dev.event_raises (d : Dev) (f : Fld) (h0 : d.evtMasked = 0) (h : (d.event f).evtMasked ≠ 0) : VectorRaised d (d.event f) 64 := by
  unfold Dev.event at h ⊢
  simp only at h ⊢
  have hm : (d.raise f).evtMasked ≠ 0 := by
    rwa [Dev.evtMasked_of_regs (onlyIf_keeps (fun t => t.regs = (d.raise f).regs) _ _ _ rfl (fun t ht => (t.msix_regs 64).trans ht))] at h
  rw [h0, bne_iff_ne.mpr hm]
  exact vectorRaised_msix (msixView_of_host (s := d) (t := d.raise f) rfl) 64

theorem Dev.event_quiet (d : Dev) (f : Fld) (h : d.evtMasked ≠ 0 ∨ (d.event f).evtMasked = 0) : (d.event f).out = d.out := by
  unfold Dev.event at h ⊢
  simp only at h ⊢
  rw [Dev.evtMasked_of_regs (onlyIf_keeps (fun t => t.regs = (d.raise f).regs) _ _ _ rfl (fun t ht => (t.msix_regs 64).trans ht))] at h
  rcases h with h | h
  · rw [beq_false_of_ne h]
    rfl
  · rw [h, bne_self_eq_false, Bool.and_false]
    rfl

/-! ### A vector fired -/

theorem VectorRaised.aside {d e f : Dev} {v : Nat} (h : VectorRaised d e v) (ha : f.aside = e.aside) : VectorRaised d f v := by
  unfold VectorRaised
  rw [out_of_aside ha, host_of_aside ha]
  exact h

/-- A vector disarmed; armed again. -/
def Dev.disarm (s : Dev) (v : Nat) : Dev := { s with host := { s.host with disarmed := s.host.disarmed ++ [v] } }
def Dev.rearm (s : Dev) (v : Nat) : Dev := { s with host := { s.host with disarmed := s.host.disarmed.filter (· != v) } }

/-- An armed vector sends its message and is disarmed. -/
theorem Dev.vecFire_armed {d e : Dev} (h : e.msixView = d.msixView) {v : Nat} (hv : v ∉ e.host.disarmed) :
    v ∈ (e.vecFire v).host.disarmed ∧ VectorRaised d (e.vecFire v) v := by
  have hf : e.vecFire v = (e.disarm v).msix v := by
    rw [Dev.vecFire, if_neg (by simpa using hv)]
    rfl
  rw [hf]
  refine ⟨?_, vectorRaised_msix (show (e.disarm v).msixView = d.msixView from h) v⟩
  rw [Dev.msix_frame]
  exact List.mem_append_right _ (List.mem_singleton_self v)

theorem Dev.vecFire_disarmed {e : Dev} {v : Nat} (hv : v ∈ e.host.disarmed) : e.vecFire v = e := by
  rw [Dev.vecFire, if_pos (by simpa using hv)]

/-! ### The CQH doorbell (R348) -/

theorem bits_ofNat_low12 (v : Nat) : bits (BitVec.ofNat 32 v) 11 0 = v % 4096 := by
  simp only [bits, BitVec.toNat_ofNat]
  omega

theorem answers_cqhDoorbell {s : State} (hs : s.live) {q : Nat} (v : Nat) (hq : q < 64) : Answers (.cqhDoorbell q v) s (s.start.cqhBell q (v % 4096)) := by
  have hans := answers_registerWrite hs (0x8004 + 16 * q) 4 (BitVec.ofNat 32 v)
  rw [Answers, (write_isDoorbell s q v hq).2, ← Answers, Dev.hostWriteAt_bar0 (s := s.start) hs _ (by omega) (by omega)] at hans
  have hw : s.start.writeReg (0x8004 + 16 * q) (BitVec.ofNat 32 v) = s.start.cqhBell q (v % 4096) := by
    rw [Dev.writeReg, if_pos (by omega), if_neg (by omega), if_pos (by omega), show (0x8004 + 16 * q - 0x8000) / 16 = q by omega, bits_ofNat_low12]
  rwa [hw] at hans

theorem Dev.vecRearm_eq (s : Dev) (v : Nat) : s.vecRearm v = onlyIf ((s.vecQueues v).any (fun x => x.2.unreleased != 0)) (·.vecFire v) (s.rearm v) := rfl

theorem Dev.vecFire_queues (s : Dev) (v : Nat) : (s.vecFire v).host.queues = s.host.queues := by
  unfold Dev.vecFire
  split
  · rfl
  · rw [Dev.msix_frame]

theorem Dev.vecRearm_queues (s : Dev) (v : Nat) : (s.vecRearm v).host.queues = s.host.queues :=
  onlyIf_keeps (fun t => t.host.queues = s.host.queues) _ _ _ rfl (fun t ht => (t.vecFire_queues v).trans ht)

/-- A release of completion entries arms the vector again, or raises it while a queue on it still holds some. -/
theorem write_cqh {s : State} (hs : s.live) (q v : Nat) (x : QueueSt) (n : Nat) (hq : q < 64) (hr : s.dev.isOn Reg.HIF_STAT_CMDRDY = true)
    (hx : x = s.dev.queue q) (hn : n = (v % 4096 + 2 ^ x.cqLog - x.cqHead) % 2 ^ x.cqLog) (he : x.exists_ = true) (hv : v % 4096 < 2 ^ x.cqLog)
    (hu : n ≤ x.unreleased) (hi : x.ien = true) : ∃ d, Answers (.cqhDoorbell q v) s d ∧
    ((d.vecQueues x.vec).any (fun y => y.2.unreleased != 0) = false → x.vec ∉ d.host.disarmed ∧ d.out = []) ∧
    ((d.vecQueues x.vec).any (fun y => y.2.unreleased != 0) = true → x.vec ∈ d.host.disarmed ∧ VectorRaised s.dev d x.vec) := by
  have hbell : s.start.cqhBell q (v % 4096) = (s.start.setQueue q { x with cqHead := v % 4096, unreleased := x.unreleased - n }).vecRearm x.vec := by
    rw [Dev.cqhBell, if_pos (show s.start.isOn Reg.HIF_STAT_CMDRDY = true from hr), Dev.cqhWrite, show s.start.queue q = x from hx.symm]
    simp only [Nat.mod_mod, ← hn, he, hi]
    rw [if_neg (by simp; omega)]
    rfl
  have hans := answers_cqhDoorbell hs v hq
  rw [hbell] at hans
  refine ⟨_, hans, fun h => ?_, fun h => ?_⟩
  · rw [Dev.vecQueues, Dev.vecRearm_queues, ← Dev.vecQueues] at h
    rw [Dev.vecRearm_eq, h]
    exact ⟨by simp [Dev.rearm], rfl⟩
  · rw [Dev.vecQueues, Dev.vecRearm_queues, ← Dev.vecQueues] at h
    rw [Dev.vecRearm_eq, h, onlyIf_true]
    exact Dev.vecFire_armed (d := s.dev) (by rfl) (by simp [Dev.rearm])

/-! ### A completion entry (R347) -/

theorem Dev.poolPut_aside (s : Dev) (u : Nat) (p : PoolUser) : (s.poolPut u p).aside = s.aside := by
  unfold Dev.poolPut
  refine (onlyIf_aside _ _ _ rfl).trans ((onlyIf_aside _ _ _ rfl).trans rfl)

theorem Dev.poolClk_aside (s : Dev) : s.poolClk.aside = s.aside := by
  unfold Dev.poolClk
  split <;> rfl

theorem Dev.freeHold_aside (s : Dev) (h : Hold) : (s.freeHold h).aside = s.aside := by
  unfold Dev.freeHold
  simp only
  split
  · exact s.poolClk_aside
  · split
    · exact (Dev.poolPut_aside _ _ _).trans s.poolClk_aside
    · exact s.poolClk_aside

theorem Dev.free1_aside (s : Dev) (u : Nat) (b : Bool) : (s.free1 u b).aside = s.aside := s.freeHold_aside _

theorem Dev.freeAll_aside (s : Dev) (w : WaitCmd) : (s.freeAll w).aside = s.aside := by
  have hbulk := forEach_aside w.bulk (fun h t => t.freeHold h) s (fun h t => t.freeHold_aside h)
  have hlink : ((forEach w.bulk (fun h t => t.freeHold h) s).linkFree w.link).aside = s.aside := by
    unfold Dev.linkFree
    split
    · exact (Dev.freeHold_aside _ _).trans hbulk
    · exact hbulk
  unfold Dev.freeAll Dev.bufFree
  split
  · rw [Dev.reserveBuf, Dev.setB_aside, hlink]
  · exact hlink

/-- The ring entry, before its interrupt. -/
def Dev.cqEntry (s : Dev) (q : Nat) (b : List Byte) : Dev :=
  let x := s.queue q
  let tail := (x.cqTail + 1) % 2 ^ x.cqLog
  (s.ringWrite x.win (x.cqAt q x.cqTail) (b.set 3 (b.getD 3 0 ||| BitVec.ofNat 8 (b2n x.phase)))).setQueue q
    { x with cqTail := tail, phase := (if tail = 0 then !x.phase else x.phase), unreleased := x.unreleased + 1 }

theorem Dev.cqPost_eq (s : Dev) (q : Nat) (b : List Byte) : s.cqPost q b = onlyIf (s.queue q).ien (·.vecFire (s.queue q).vec) (s.cqEntry q b) := rfl

theorem Dev.ringWrite_irq (s : Dev) (win : Bool) (a : Nat) (b : List Byte) :
    (s.ringWrite win a b).msixView = s.msixView ∧ (s.ringWrite win a b).host.disarmed = s.host.disarmed ∧ (s.ringWrite win a b).out = s.out := by
  cases win <;> exact ⟨rfl, rfl, rfl⟩

/-- It writes a ring and the queue, and sends nothing. -/
theorem Dev.cqEntry_irq (s : Dev) (q : Nat) (b : List Byte) :
    (s.cqEntry q b).msixView = s.msixView ∧ (s.cqEntry q b).host.disarmed = s.host.disarmed ∧ (s.cqEntry q b).out = s.out := by
  unfold Dev.cqEntry
  extract_lets x tail
  exact s.ringWrite_irq x.win (x.cqAt q x.cqTail) (b.set 3 (b.getD 3 0 ||| BitVec.ofNat 8 (b2n x.phase)))

/-- A queue’s command over, but for its completion entry. -/
def Dev.beforeEntry (s : Dev) (w : WaitCmd) (k : Nat) : Dev := ((s.freeAll w).dropWait w).cqReturn k (if w.answered then 1 else 2)

theorem Dev.beforeEntry_irq (s : Dev) (w : WaitCmd) (k : Nat) : (s.beforeEntry w k).msixView = s.msixView ∧
    (s.beforeEntry w k).host.disarmed = s.host.disarmed ∧ (s.beforeEntry w k).out = s.out := by
  have ha := s.freeAll_aside w
  have hview : (s.freeAll w).msixView = s.msixView := msixView_of_host (host_of_aside ha)
  have hdis : (s.freeAll w).host.disarmed = s.host.disarmed := congrArg HostSt.disarmed (host_of_aside ha)
  have hout : (s.freeAll w).out = s.out := out_of_aside ha
  exact ⟨hview, hdis, hout⟩

theorem Dev.beforeEntry_queue (s : Dev) (w : WaitCmd) (k : Nat) :
    ((s.beforeEntry w k).queue k).ien = (s.queue k).ien ∧ ((s.beforeEntry w k).queue k).vec = (s.queue k).vec := by
  have hq : (s.freeAll w).queue k = s.queue k := by rw [Dev.queue, host_of_aside (s.freeAll_aside w), ← Dev.queue]
  have hret : (s.beforeEntry w k).queue k =
      { (s.freeAll w).queue k with cqRes := ((s.freeAll w).queue k).cqRes - (if w.answered then 1 else 2) } := sget_sset_same _ _ _ _
  rw [hret, hq]
  exact ⟨rfl, rfl⟩

/-- A queue’s command that answers ends with its entry, and its granule’s return. -/
theorem Dev.finish_queue (s : Dev) (w : WaitCmd) (r : Reply) {k : Nat} (hr : w.route = none) (hs : w.src = .queue k)
    (hn : pNoReply w.pkt = false ∨ r.status ≠ sOK) :
    (s.finish w r).aside = ((s.beforeEntry w k).cqPost k (((s.freeAll w).dropWait w).replyBytes w.pkt r)).aside := by
  have hskip : (pNoReply w.pkt && r.status == sOK) = false := by
    rcases hn with h | h <;> simp [h]
  rw [Dev.finish, hr]
  show (Dev.finishHost (s.freeAll w) w r).aside = _
  rw [Dev.finishHost, hs]
  simp only [hskip]
  exact Dev.free1_aside _ _ _

/-- A completion entry of a queue with IEN raises its vector while that is armed, and disarms it; another sends nothing. -/
theorem finish_raises (d : Dev) (w : WaitCmd) (k : Nat) (r : Reply) (x : QueueSt) (hr : w.route = none) (hs : w.src = .queue k) (hx : x = d.queue k)
    (hn : pNoReply w.pkt = false ∨ r.status ≠ sOK) :
    (x.ien = true → x.vec ∉ d.host.disarmed → x.vec ∈ (d.finish w r).host.disarmed ∧ VectorRaised d (d.finish w r) x.vec) ∧
    ((x.ien = false ∨ x.vec ∈ d.host.disarmed) → (d.finish w r).out = d.out) := by
  have ha := d.finish_queue w r hr hs hn
  obtain ⟨hview, hdis, hout⟩ := d.beforeEntry_irq w k
  obtain ⟨hien, hvec⟩ := d.beforeEntry_queue w k
  generalize d.beforeEntry w k = t at ha hview hdis hout hien hvec
  generalize ((d.freeAll w).dropWait w).replyBytes w.pkt r = u at ha
  obtain ⟨eview, edis, eout⟩ := t.cqEntry_irq k u
  rw [← hx] at hien hvec
  rw [t.cqPost_eq, hien, hvec] at ha
  refine ⟨fun hi hv => ?_, fun h => ?_⟩
  · rw [hi, onlyIf_true] at ha
    have hf := Dev.vecFire_armed (d := d) (eview.trans hview) (v := x.vec) (by rwa [edis, hdis])
    rw [host_of_aside ha]
    exact ⟨hf.1, hf.2.aside ha⟩
  · rw [out_of_aside ha, ← hout, ← eout]
    rcases h with h | h
    · rw [h]
      rfl
    · cases x.ien
      · rfl
      · rw [onlyIf_true, Dev.vecFire_disarmed (by rwa [edis, hdis])]

end Sys2Proof.Machine
end

section
/-! PROOFS. O40, ADC_CALCTL (R79) and THK_CMD, and the statement assembled. -/

namespace Sys2Proof.Machine

/-! ### A calibration step leaves ADC_CALCTL -/

theorem bgAct_off (k : Nat) : (bgAct k).off = Reg.ADC_BGSTAT := by unfold bgAct; split <;> rfl
theorem bgPos_off (k : Nat) : (bgPos k).off = Reg.ADC_BGSTAT := by unfold bgPos; split <;> rfl

theorem RegsBut.withAdc {d e : Dev} {l : List Nat} (h : RegsBut d e l) (x : AdcSt) : RegsBut d { e with adc := x } l := h

/-- A spare slice that waited for a slot boundary takes over, or hands back (R77). -/
def Dev.bgSwapped (s : Dev) (k pos : Nat) (on : Bool) : Dev :=
  if on then s.setB (bgAct k) true
  else
    onlyIf (k == 0 && pos == 7) (fun t => t.set Reg.ADC_BGSTAT_ROT (t.get Reg.ADC_BGSTAT_ROT + 1)) ((s.setB (bgAct k) false).set (bgPos k) ((pos + 1) % 8))

theorem Dev.bgSwapped_regs (s : Dev) (k pos : Nat) (on : Bool) : RegsBut s (s.bgSwapped k pos on) [Reg.ADC_BGSTAT] := by
  have hact : (bgAct k).off ∈ [Reg.ADC_BGSTAT] := by simp [bgAct_off]
  have hpos : (bgPos k).off ∈ [Reg.ADC_BGSTAT] := by simp [bgPos_off]
  unfold Dev.bgSwapped
  split
  · exact (RegsBut.refl s _).setB _ _ hact
  · exact (((RegsBut.refl s _).setB _ _ hact).set _ _ hpos).onlyIf _ _ (fun t ht => ht.set Reg.ADC_BGSTAT_ROT _ (by decide))

theorem Dev.bgBoundary_regs (s : Dev) (c clk : Nat) : RegsBut s (s.bgBoundary c clk) [Reg.ADC_BGSTAT] := by
  unfold Dev.bgBoundary
  extract_lets k pos
  split
  · next on _ =>
    split
    · exact RegsBut.refl s _
    · exact ((RegsBut.refl s _).withAdc { s.adc with bgSwap := s.adc.bgSwap.filter (fun x => x.1 != k) }).trans (Dev.bgSwapped_regs _ k pos on)
  · exact RegsBut.refl s _

theorem Dev.calBegin_regs (s : Dev) (c clk : Nat) : RegsBut s (s.calBegin c clk) [Reg.ADC_BGSTAT] := by
  have h := s.bgBoundary_regs c clk
  unfold Dev.calBegin
  exact h

theorem Dev.calCompute_calctl (s : Dev) : s.calCompute.reg Reg.ADC_CALCTL = s.reg Reg.ADC_CALCTL := by
  have hg : ∀ n, Reg.ADC_CALCTL ≠ Reg.ADC_GAINn n := fun n => by simp only [Reg.ADC_CALCTL, Reg.ADC_GAINn]; omega
  have ho : ∀ n, Reg.ADC_CALCTL ≠ Reg.ADC_OFFn n := fun n => by simp only [Reg.ADC_CALCTL, Reg.ADC_OFFn]; omega
  have hres : ∀ v, (s.set Reg.ADC_CALSTAT_RESULT v).reg Reg.ADC_CALCTL = s.reg Reg.ADC_CALCTL := fun v => s.reg_set_ne _ v _ (by decide)
  have hraise : ∀ (t : Dev) (f : Fld), Reg.ADC_CALCTL ≠ f.off → (t.raise f).reg Reg.ADC_CALCTL = t.reg Reg.ADC_CALCTL := fun t f hf =>
    (RegsBut.refl t [f.off]).raise f (by simp) _ (by simpa using hf)
  unfold Dev.calCompute
  extract_lets n nz nf ez de r s1
  split
  · rw [Dev.raiseBit, hraise _ _ (by simp only; split <;> decide), Dev.reg_setReg_ne _ _ _ _ (ho n), Dev.reg_setReg_ne _ _ _ _ (hg n)]
    exact hres r
  · rw [hraise _ _ (by decide)]
    exact hres r

theorem Dev.calStep_calctl (s : Dev) (step : Nat) : (s.calStep step).reg Reg.ADC_CALCTL = s.reg Reg.ADC_CALCTL := by
  unfold Dev.calStep
  split
  · rfl
  · split
    · exact (RegsBut.refl s [Reg.ADC_FLAG]).raise Reg.ADC_FLAG_CALREJ_F (by decide) _ (by decide)
    · split
      · exact s.calCompute_calctl
      · have hbusy : RegsBut s (s.setB Reg.ADC_CALSTAT_BUSY true) [Reg.ADC_CALSTAT, Reg.ADC_BGSTAT] := (RegsBut.refl s _).setB _ _ (by decide)
        have hrun := hbusy.withAdc { (s.setB Reg.ADC_CALSTAT_BUSY true).adc with cal := some { step := step, active := false } }
        simp only
        split
        · exact (hrun.trans ((Dev.calBegin_regs _ _ _).mono (by simp))) Reg.ADC_CALCTL (by decide)
        · exact hrun Reg.ADC_CALCTL (by decide)

/-- CH takes a channel up to 47 (R79). -/
theorem Dev.calCh_ch (s : Dev) (ch : Nat) : (s.calCh ch).get Reg.ADC_CALCTL_CH = min 47 (ch % 64) := by
  unfold Dev.calCh
  extract_lets c
  split
  · next h => exact h.symm
  · exact Dev.get_set_fits _ Reg.ADC_CALCTL_CH (by decide) (by decide) (show min 47 (ch % 64) < 2 ^ 6 by omega)

theorem Dev.calCh_same (s : Dev) (ch : Nat) (h : min 47 (ch % 64) = s.get Reg.ADC_CALCTL_CH) : s.calCh ch = s := by
  unfold Dev.calCh
  rw [if_pos h]

theorem write_calctl {s : State} (hs : s.live) (w : Word) : ∃ d, Answers (.registerWrite Reg.ADC_CALCTL 4 w) s d ∧
    d.get Reg.ADC_CALCTL_CH = min 47 (bits w 5 0) ∧
    (bits w 9 8 = 0 → min 47 (bits w 5 0) = s.dev.get Reg.ADC_CALCTL_CH → RegsBut s.dev d [Reg.ADC_CALCTL]) := by
  obtain ⟨k, -, hsim, hans⟩ := answers_simple hs (show Reg.ADC_CALCTL ∈ simpleActing by decide) w
  have hlt : bits w 5 0 < 2 ^ (5 + 1 - 0) := bits_lt _ _ _
  have hmod : bits w 5 0 % 64 = bits w 5 0 := Nat.mod_eq_of_lt hlt
  have hw : (s.start.putReg k Reg.ADC_CALCTL w).wrote Reg.ADC_CALCTL (s.dev.reg Reg.ADC_CALCTL) w s.dev.evtMasked =
      (((s.start.putReg k Reg.ADC_CALCTL w).setReg Reg.ADC_CALCTL (s.dev.reg Reg.ADC_CALCTL)).calCh (bits w 5 0)).calStep (bits w 9 8) := rfl
  rw [hw] at hans
  refine ⟨_, hans, ?_, fun h0 hch => ?_⟩
  · rw [Dev.get_of_reg (f := Reg.ADC_CALCTL_CH) (Dev.calStep_calctl _ _), Dev.calCh_ch, hmod]
  · have hold : ((s.start.putReg k Reg.ADC_CALCTL w).setReg Reg.ADC_CALCTL (s.dev.reg Reg.ADC_CALCTL)).get Reg.ADC_CALCTL_CH =
        s.dev.get Reg.ADC_CALCTL_CH := Dev.get_of_reg (f := Reg.ADC_CALCTL_CH) (Dev.reg_setReg_same _ _ _)
    rw [Dev.calCh_same _ _ (by rw [hmod, hold, hch]), h0, Dev.calStep, if_pos rfl]
    exact RegsBut.setReg (s.start.putReg_simple_regs k _ w hsim) _ _ (by simp)

/-! ### THK_CMD -/

theorem Dev.thkHeal_refused (s : Dev) (r : Nat) (h1 : s.ringSt r ≠ rsMULTI) (h2 : s.ringSt r ≠ rsFOLDED) :
    (s.thkHeal r).isOn Reg.THK_FLAG_CMDREJ_F = true := by
  rw [Dev.thkHeal, if_neg h1, if_neg (by simp [h2])]
  exact s.isOn_raise_same _ (by decide) (by decide)

theorem Dev.thkRediscover_refused (s : Dev) (r : Nat) (h : s.stIn stillStates = false) : (s.thkRediscover r).isOn Reg.THK_FLAG_CMDREJ_F = true := by
  rw [Dev.thkRediscover, h]
  exact s.isOn_raise_same _ (by decide) (by decide)

theorem Dev.thkRediscover_starts (s : Dev) (r : Nat) (h : s.stIn stillStates = true) (he : s.ringEn r = true) :
    (s.thkRediscover r).ringSt r = rsDISCOVER := by
  rw [Dev.thkRediscover, if_pos h, Dev.discStart, he]
  exact Dev.get_set_fits _ (Reg.THK_RINGr_STAT_ST r) (show 31 < 32 by decide) (show 29 ≤ 31 by decide) (show 1 < 2 ^ 3 by decide)

theorem write_thkCmd {s : State} (hs : s.live) (w : Word) : ∃ d, Answers (.registerWrite Reg.THK_CMD 4 w) s d ∧
    (bits w 31 30 = 2 → s.dev.stIn stillStates = false → d.isOn Reg.THK_FLAG_CMDREJ_F = true) ∧
    (bits w 31 30 = 2 → s.dev.stIn stillStates = true → s.dev.ringEn (bits w 3 0) = true → d.ringSt (bits w 3 0) = rsDISCOVER) ∧
    (bits w 31 30 = 1 → s.dev.ringSt (bits w 3 0) ≠ rsMULTI → s.dev.ringSt (bits w 3 0) ≠ rsFOLDED → d.isOn Reg.THK_FLAG_CMDREJ_F = true) ∧
    (bits w 31 30 ≠ 1 → bits w 31 30 ≠ 2 → RegsBut s.dev d [Reg.THK_CMD]) := by
  obtain ⟨k, -, hsim, hans⟩ := answers_simple hs (show Reg.THK_CMD ∈ simpleActing by decide) w
  have hregs := s.start.putReg_simple_regs k Reg.THK_CMD w hsim
  have hw : (s.start.putReg k Reg.THK_CMD w).wrote Reg.THK_CMD (s.dev.reg Reg.THK_CMD) w s.dev.evtMasked =
      if bits w 31 30 = 1 then (s.start.putReg k Reg.THK_CMD w).thkHeal (bits w 3 0)
      else if bits w 31 30 = 2 then (s.start.putReg k Reg.THK_CMD w).thkRediscover (bits w 3 0) else s.start.putReg k Reg.THK_CMD w := rfl
  rw [hw] at hans
  generalize s.start.putReg k Reg.THK_CMD w = p at hans hregs
  have hst : p.stIn stillStates = s.dev.stIn stillStates := by
    rw [Dev.stIn, Dev.stIn, show p.st = s.dev.st from Dev.get_of_reg (hregs Reg.HIF_STAT (by decide))]
  have hcmd : Reg.THK_CMD = 0x3008 := rfl
  have hsts : p.ringSt (bits w 3 0) = s.dev.ringSt (bits w 3 0) :=
    Dev.get_of_reg (f := Reg.THK_RINGr_STAT_ST (bits w 3 0)) (hregs _ (by simp only [Reg.THK_RINGr_STAT_ST, List.mem_singleton]; omega))
  have hen : p.ringEn (bits w 3 0) = s.dev.ringEn (bits w 3 0) :=
    Dev.isOn_of_reg (f := Reg.THK_RINGr_CFG_EN (bits w 3 0)) (hregs _ (by simp only [Reg.THK_RINGr_CFG_EN, List.mem_singleton]; omega))
  refine ⟨_, hans, fun h2 h => ?_, fun h2 h he => ?_, fun h1 hm hf => ?_, fun h1 h2 => ?_⟩
  · rw [if_neg (by omega), if_pos h2]
    exact p.thkRediscover_refused _ (hst.trans h)
  · rw [if_neg (by omega), if_pos h2]
    exact p.thkRediscover_starts _ (hst.trans h) (hen.trans he)
  · rw [if_pos h1]
    exact p.thkHeal_refused _ (by rwa [hsts]) (by rwa [hsts])
  · rw [if_neg h1, if_neg h2]
    exact hregs

/-! ### The statement -/

/-- Settles O40, clause by clause: what a write makes of its register, what it sets off, and the vectors it raises. -/
theorem registerWrites : Obligations.RegisterWrites := by
  unfold Obligations.RegisterWrites
  refine ⟨fun s hs => ⟨?_, ?_, ?_, ?_, ?_, ?_, ?_, ?_, ?_, ?_, ?_, ?_, ?_, ?_, ?_, ?_, ?_, ?_⟩, fun d => ⟨?_, ?_, ?_⟩⟩
  · exact write_abort hs
  · exact write_unassigned hs
  · exact write_plain hs
  · exact fun a w k v h4 hk ha hv => write_acting hs a w k v h4 hk ha hv
  · exact write_rearmClear hs
  · exact write_ptpofsLo hs
  · exact write_ptpofsHi hs
  · exact write_aqCfg_off hs
  · exact write_aqCfg_on hs
  · exact write_calctl hs
  · exact write_thkCmd hs
  · exact write_vault hs
  · exact write_isCommand s
  · exact write_isClearOrEnable s
  · exact write_isDoorbell s
  · exact write_bar2 hs
  · exact write_msgControl hs
  · exact write_cqh hs
  · exact d.event_raises
  · exact d.event_quiet
  · exact fun w k r x => finish_raises d w k r x

end Sys2Proof.Machine
end

section
/-! PROOFS. O41, reads (R6, R7, R8, R11) and the rearm commands (R31, R64, R438). -/

namespace Sys2Proof.Machine

/-! ### A read over PCIe -/

theorem answers_read {s : State} (hs : s.live) (a n : Nat) {i : Instr} (hi : i ∈ [Instr.rcRead a n, .lowWordRead a n]) :
    Answers i s (s.start.hostReadAt a n) := by
  simp only [List.mem_cons, List.not_mem_nil, or_false] at hi
  rcases hi with rfl | rfl
  · exact answers_of_onLive (f := fun d => d.hostReadAt a n) hs rfl
  · exact answers_of_onLive (f := fun d => d.hostReadAt a n) hs rfl

theorem Dev.hostReadAt_abort {s : Dev} (hs : s.inReset = false) {a n : Nat} (h : n ≠ 4 ∨ a % 4 ≠ 0) : s.hostReadAt a n = s.send .abort := by
  simp [Dev.hostReadAt, hs, h]

theorem Dev.hostReadAt_bar0 {s : Dev} (hs : s.inReset = false) {a : Nat} (h4 : a % 4 = 0) (ha : a < 0x10000) :
    s.hostReadAt a 4 = (s.readReg a).2.send (.readData (s.readReg a).1) := by
  simp [Dev.hostReadAt, hs, h4, ha]

theorem Dev.hostReadAt_bar2 {s : Dev} (hs : s.inReset = false) {j : Nat} (hj : j < 1024) :
    s.hostReadAt (0x10000 + 4 * j) 4 = s.send (.readData (s.bar2 (4 * j))) := by
  have h4 : (0x10000 + 4 * j) % 4 = 0 := by omega
  have hlo : ¬ 0x10000 + 4 * j < 0x10000 := by omega
  have hhi : 0x10000 + 4 * j < 0x11000 := by omega
  simp only [Dev.hostReadAt, hs, h4, hlo, hhi, ne_eq, not_true_eq_false, or_self, if_false, if_true, Bool.false_eq_true, Nat.add_sub_cancel_left]

/-- An access of another width or alignment is aborted (R6). -/
theorem access_abort {s : State} (hs : s.live) (a n : Nat) (w : Word) (h : n ≠ 4 ∨ a % 4 ≠ 0) :
    ∀ i ∈ [Instr.registerWrite a n w, .rcRead a n, .lowWordRead a n], ∃ d, Answers i s d ∧ d.out = [.abort] ∧ d = { s.dev with out := [.abort] } := by
  intro i hi
  rcases List.mem_cons.mp hi with rfl | hi
  · obtain ⟨d, ha, rfl⟩ := write_abort hs a n w h
    exact ⟨_, ha, rfl, rfl⟩
  · have hans := answers_read hs a n hi
    rw [Dev.hostReadAt_abort (s := s.start) hs h] at hans
    exact ⟨_, hans, rfl, rfl⟩

/-- A read of the MSI-X table changes nothing. -/
theorem read_bar2 {s : State} (hs : s.live) (j : Nat) (hj : j < 1024) :
    ∀ i ∈ [Instr.rcRead (0x10000 + 4 * j) 4, .lowWordRead (0x10000 + 4 * j) 4],
    Answers i s { s.dev with out := [.readData (s.dev.bar2 (4 * j))] } := by
  intro i hi
  have hans := answers_read hs _ 4 hi
  rw [Dev.hostReadAt_bar2 (s := s.start) hs hj] at hans
  exact hans

/-! ### The words latched with a low word (R11) -/

/-- The word of `o` that a low word’s read has latched. -/
def Dev.latchedWord (s : Dev) (o : Nat) : Option (Nat × Word) := s.hiLatch.find? (fun x => x.1 == o)

/-- A high word latched as it shows. -/
def Dev.latchWord (h : Nat) (t : Dev) : Dev := { t with hiLatch := t.hiLatch.filter (fun x => x.1 != h) ++ [(h, t.view h)] }

/-- A latched word given away. -/
def Dev.unlatch1 (t : Dev) (o : Nat) : Dev := { t with hiLatch := t.hiLatch.filter (fun x => x.1 != o) }

theorem find?_filter_self {β : Type} (l : List (Nat × β)) (a : Nat) : (l.filter (fun x => x.1 != a)).find? (fun x => x.1 == a) = none := by
  rw [List.find?_eq_none]
  intro x hx
  simpa using (List.mem_filter.mp hx).2

theorem Dev.unlatch1_same (s : Dev) (o : Nat) : (s.unlatch1 o).latchedWord o = none := find?_filter_self _ _

theorem Dev.latchWord_same (s : Dev) (h : Nat) : (Dev.latchWord h s).latchedWord h = some (h, s.view h) := by
  rw [Dev.latchedWord, Dev.latchWord, List.find?_append, find?_filter_self]
  simp

theorem Dev.latchWord_ne (s : Dev) {h o : Nat} (hne : o ≠ h) : (Dev.latchWord h s).latchedWord o = s.latchedWord o := by
  have hb : (h == o) = false := by simpa using Ne.symm hne
  simp [Dev.latchedWord, Dev.latchWord, List.find?_append, find?_filter_ne _ hne, hb]

/-- Beside what is latched, latching changes nothing; so what every register shows stays. -/
theorem Dev.latchWord_frame (h : Nat) (t : Dev) : Dev.latchWord h t = { t with hiLatch := (Dev.latchWord h t).hiLatch } := rfl

theorem Dev.latchAll_frame (l : List Nat) (s : Dev) : forEach l Dev.latchWord s = { s with hiLatch := (forEach l Dev.latchWord s).hiLatch } := by
  induction l generalizing s with
  | nil => rfl
  | cons h t ih => rw [forEach_cons, ih, Dev.latchWord_frame]

theorem Dev.latchAll_other (l : List Nat) (s : Dev) {o : Nat} (ho : o ∉ l) : (forEach l Dev.latchWord s).latchedWord o = s.latchedWord o := by
  induction l generalizing s with
  | nil => rfl
  | cons h t ih =>
    rw [forEach_cons, ih _ (fun hm => ho (List.mem_cons_of_mem _ hm)), Dev.latchWord_ne _ (fun he => ho (by rw [he]; exact List.mem_cons_self ..))]

theorem Dev.latchAll_mem (l : List Nat) (s : Dev) (hn : l.Nodup) {h : Nat} (hm : h ∈ l) :
    (forEach l Dev.latchWord s).latchedWord h = some (h, s.view h) := by
  induction l generalizing s with
  | nil => simp at hm
  | cons a t ih =>
    obtain ⟨hat, hnt⟩ := List.nodup_cons.mp hn
    rw [forEach_cons]
    rcases List.mem_cons.mp hm with rfl | hm
    · rw [Dev.latchAll_other t _ hat, Dev.latchWord_same]
    · rw [ih _ hnt hm]
      rfl

theorem highsOf_spec (a : Nat) : (highsOf a).Nodup ∧ a ∉ highsOf a := by
  unfold highsOf
  split
  · next h => subst h; decide
  · split
    · simp
    · simp

/-! ### What a read does -/

/-- The latches of a read. -/
def Dev.readLatches (s : Dev) (a : Nat) : Dev := forEach (highsOf a) Dev.latchWord (s.unlatch1 a)

theorem Dev.readLatches_frame (s : Dev) (a : Nat) : s.readLatches a = { s with hiLatch := (s.readLatches a).hiLatch } := by
  unfold Dev.readLatches
  rw [Dev.latchAll_frame]
  rfl

theorem Dev.readLatches_own (s : Dev) (a : Nat) : (s.readLatches a).latchedWord a = none :=
  (Dev.latchAll_other _ _ (highsOf_spec a).2).trans (s.unlatch1_same a)

theorem Dev.readLatches_high (s : Dev) {a h : Nat} (hm : h ∈ highsOf a) : (s.readLatches a).latchedWord h = some (h, s.view h) :=
  Dev.latchAll_mem _ (s.unlatch1 a) (highsOf_spec a).1 hm

theorem Dev.readEffect_eq (s : Dev) (a : Nat) (v : Word) : s.readEffect a v =
    if a = Reg.HIF_MBX_STAT then (s.readLatches a).mbxLatch
    else match findReg a with
      | none => s.readLatches a
      | some k => if a = Reg.VLT_CNT then (s.readLatches a).vaultRcRead a v else if isVault a then s.readLatches a else (s.readLatches a).rcRead k a := rfl

/-- The word a read answers. -/
def Dev.shown (s : Dev) (a : Nat) : Word :=
  match s.hiLatch.find? (fun x => x.1 == a) with
  | some x => x.2
  | none => s.rcShown a (s.view a)

theorem Dev.readReg_eq (s : Dev) (a : Nat) : s.readReg a = (s.shown a, s.readEffect a (s.shown a)) := rfl

theorem answers_readReg {s : State} (hs : s.live) {a : Nat} (h4 : a % 4 = 0) (ha : a < 0x10000) {i : Instr}
    (hi : i ∈ [Instr.rcRead a 4, .lowWordRead a 4]) : Answers i s ((s.start.readEffect a (s.dev.shown a)).send (.readData (s.dev.shown a))) := by
  have hans := answers_read hs a 4 hi
  rw [Dev.hostReadAt_bar0 (s := s.start) hs h4 ha, Dev.readReg_eq] at hans
  exact hans

/-- A read of RC fields leaves in them what the events of its clock counted (R8). -/
theorem Dev.rcRead_spec (s : Dev) (k : RegKind) (a : Nat) : RegsBut s (s.rcRead k a) [a] ∧
    (s.rcRead k a).reg a = ((s.clkEvents a).elim (k.rcCleared (s.reg a)) (fun e => k.rcFrom e.2 (s.reg a))) ∧
    (s.rcRead k a).hiLatch = s.hiLatch ∧ (s.rcRead k a).out = s.out := by
  unfold Dev.rcRead
  cases s.clkEvents a with
  | none => exact ⟨(RegsBut.refl s _).setReg _ _ (by simp), Dev.reg_setReg_same _ _ _, rfl, rfl⟩
  | some e => exact ⟨RegsBut.same ((RegsBut.refl s _).setReg a (k.rcFrom e.2 (s.reg a)) (by simp)) rfl, Dev.reg_setReg_same _ _ _, rfl, rfl⟩

/-- A register of the main die read: its RC fields as before the clock’s events, its high words latched. -/
theorem read_plain {s : State} (hs : s.live) (a : Nat) (k : RegKind) (h4 : a % 4 = 0) (ha : a < 0x10000) (hm : a ≠ Reg.HIF_MBX_STAT)
    (hv : isVault a = false) (hk : findReg a = some k) :
    ∀ i ∈ [Instr.rcRead a 4, .lowWordRead a 4], ∃ d, Answers i s d ∧ RegsBut s.dev d [a] ∧
      d.reg a = ((s.dev.clkEvents a).elim (k.rcCleared (s.dev.reg a)) (fun e => k.rcFrom e.2 (s.dev.reg a))) ∧
      d.out = [.readData (match s.dev.hiLatch.find? (fun x => x.1 == a) with | some x => x.2 | none => s.dev.rcShown a (s.dev.view a))] ∧
      (∀ h ∈ highsOf a, d.hiLatch.find? (fun x => x.1 == h) = some (h, s.dev.view h)) ∧ d.hiLatch.find? (fun x => x.1 == a) = none := by
  intro i hi
  have hcnt : a ≠ Reg.VLT_CNT := by
    rintro rfl
    exact absurd hv (by decide)
  have he : s.start.readEffect a (s.dev.shown a) = (s.start.readLatches a).rcRead k a := by
    rw [Dev.readEffect_eq, if_neg hm, hk]
    simp only [hv]
    rw [if_neg hcnt, if_neg Bool.false_ne_true]
  have hans := answers_readReg hs h4 ha hi
  rw [he] at hans
  have hl := s.start.readLatches_frame a
  have hown := s.start.readLatches_own a
  have hhigh := fun h hm => s.start.readLatches_high (a := a) (h := h) hm
  obtain ⟨hregs, hreg, hlat, hout⟩ := (s.start.readLatches a).rcRead_spec k a
  generalize s.start.readLatches a = t at hans hl hown hhigh hregs hreg hlat hout
  have htr : t.regs = s.dev.regs := (congrArg Dev.regs hl).trans rfl
  have hte : t.clkEvents a = s.dev.clkEvents a := by rw [hl]; rfl
  have hto : t.out = [] := (congrArg Dev.out hl).trans rfl
  refine ⟨_, hans, ?_, ?_, ?_, fun h hm => ?_, ?_⟩
  · intro o ho
    exact (hregs o ho).trans (Dev.reg_of_regs htr o)
  · rw [← hte, ← Dev.reg_of_regs htr a]
    exact hreg
  · show (t.rcRead k a).out ++ _ = _
    rw [hout, hto]
    rfl
  · show (t.rcRead k a).hiLatch.find? _ = _
    rw [hlat]
    exact hhigh h hm
  · show (t.rcRead k a).hiLatch.find? _ = _
    rw [hlat]
    exact hown

theorem read_mbxStat (s : State) : ∀ i ∈ [Instr.rcRead Reg.HIF_MBX_STAT 4, .lowWordRead Reg.HIF_MBX_STAT 4], exec i s = exec .mbxStatRead s := by
  intro i hi
  simp only [List.mem_cons, List.not_mem_nil, or_false] at hi
  rcases hi with rfl | rfl <;> rfl

theorem isVault_lt {a : Nat} (hv : isVault a = true) : a < 0x10000 ∧ a ≠ Reg.HIF_MBX_STAT := by
  simp only [isVault, Bool.and_eq_true, decide_eq_true_eq] at hv
  have : Reg.HIF_MBX_STAT = 0x164 := rfl
  omega

/-- A vault register answers from the mirror. -/
theorem read_vault {s : State} (hs : s.live) (a : Nat) (h4 : a % 4 = 0) (hv : isVault a = true) (hc : a ≠ Reg.VLT_CNT) :
    ∀ i ∈ [Instr.rcRead a 4, .lowWordRead a 4], ∃ d, Answers i s d ∧ d.regs = s.dev.regs ∧
    d.out = [.readData (match s.dev.hiLatch.find? (fun x => x.1 == a) with | some x => x.2 | none => s.dev.rcShown a (s.dev.view a))] := by
  intro i hi
  obtain ⟨hlt, hm⟩ := isVault_lt hv
  have he : s.start.readEffect a (s.dev.shown a) = s.start.readLatches a := by
    rw [Dev.readEffect_eq, if_neg hm]
    split
    · rfl
    · rw [if_neg hc, if_pos hv]
  have hans := answers_readReg hs h4 hlt hi
  rw [he] at hans
  have hl := s.start.readLatches_frame a
  refine ⟨_, hans, (congrArg Dev.regs hl).trans rfl, ?_⟩
  show (s.start.readLatches a).out ++ _ = _
  rw [hl]
  rfl

/-- What VLT_CNT showed leaves the vault’s counters (R8). -/
theorem Dev.vaultRcRead_spec (s : Dev) (v : Word) : RegsBut s (s.vaultRcRead Reg.VLT_CNT v) [Reg.VLT_CNT] ∧
    bits ((s.vaultRcRead Reg.VLT_CNT v).reg Reg.VLT_CNT) 31 16 = bits (s.reg Reg.VLT_CNT) 31 16 - bits v 31 16 ∧
    bits ((s.vaultRcRead Reg.VLT_CNT v).reg Reg.VLT_CNT) 15 0 = bits (s.reg Reg.VLT_CNT) 15 0 - bits v 15 0 ∧
    sget resetWord (s.vaultRcRead Reg.VLT_CNT v).vlt.mirror Reg.VLT_CNT = 0#32 ∧ (s.vaultRcRead Reg.VLT_CNT v).out = s.out := by
  have hhi : bits (s.reg Reg.VLT_CNT) 31 16 < 2 ^ (31 + 1 - 16) := bits_lt _ _ _
  have hlo : bits (s.reg Reg.VLT_CNT) 15 0 < 2 ^ (15 + 1 - 0) := bits_lt _ _ _
  have hreg : (s.vaultRcRead Reg.VLT_CNT v).reg Reg.VLT_CNT =
      setBits (setBits (s.reg Reg.VLT_CNT) 31 16 (bits (s.reg Reg.VLT_CNT) 31 16 - bits v 31 16)) 15 0
        (bits (s.reg Reg.VLT_CNT) 15 0 - bits v 15 0) := Dev.reg_setReg_same _ _ _
  refine ⟨RegsBut.same ((RegsBut.refl s _).setReg Reg.VLT_CNT _ (by simp)) rfl, ?_, ?_, sget_sset_same resetWord s.vlt.mirror Reg.VLT_CNT 0#32, rfl⟩
  · rw [hreg, bits_setBits_disjoint _ _ _ _ _ _ (by decide) (by decide) (.inr (by decide)), bits_setBits_same _ _ _ _ (by decide) (by decide),
      Nat.mod_eq_of_lt (by omega)]
  · rw [hreg, bits_setBits_same _ _ _ _ (by decide) (by decide), Nat.mod_eq_of_lt (by omega)]

theorem read_vltCnt {s : State} (hs : s.live) (v : Word) (hv : v = s.dev.view Reg.VLT_CNT)
    (hn : s.dev.hiLatch.find? (fun x => x.1 == Reg.VLT_CNT) = none) : ∃ d, Answers (.rcRead Reg.VLT_CNT 4) s d ∧
    d.out = [.readData v] ∧ RegsBut s.dev d [Reg.VLT_CNT] ∧ bits (d.reg Reg.VLT_CNT) 31 16 = bits (s.dev.reg Reg.VLT_CNT) 31 16 - bits v 31 16 ∧
    bits (d.reg Reg.VLT_CNT) 15 0 = bits (s.dev.reg Reg.VLT_CNT) 15 0 - bits v 15 0 ∧ sget resetWord d.vlt.mirror Reg.VLT_CNT = 0#32 := by
  have hshown : s.dev.shown Reg.VLT_CNT = v := by
    rw [Dev.shown, hn, hv]
    show s.dev.rcShown Reg.VLT_CNT (s.dev.view Reg.VLT_CNT) = _
    unfold Dev.rcShown
    split
    · rfl
    · rfl
  have he : s.start.readEffect Reg.VLT_CNT v = (s.start.readLatches Reg.VLT_CNT).vaultRcRead Reg.VLT_CNT v := rfl
  have hans := answers_readReg hs (a := Reg.VLT_CNT) (i := .rcRead Reg.VLT_CNT 4) (by decide) (by decide) (by simp)
  rw [hshown, he] at hans
  have hl := s.start.readLatches_frame Reg.VLT_CNT
  obtain ⟨h1, h2, h3, h4, h5⟩ := (s.start.readLatches Reg.VLT_CNT).vaultRcRead_spec v
  generalize s.start.readLatches Reg.VLT_CNT = t at hans hl h1 h2 h3 h4 h5
  have htr : t.regs = s.dev.regs := (congrArg Dev.regs hl).trans rfl
  have hto : t.out = [] := (congrArg Dev.out hl).trans rfl
  rw [Dev.reg_of_regs htr] at h2 h3
  refine ⟨_, hans, ?_, fun o ho => (h1 o ho).trans (Dev.reg_of_regs htr o), h2, h3, h4⟩
  show (t.vaultRcRead Reg.VLT_CNT v).out ++ _ = _
  rw [h5, hto]
  rfl

/-! ### The rearm commands -/

theorem write_poolRearm {s : State} (hs : s.live) : ∃ d, Answers .poolLowRearm s d ∧
    d.get Reg.HIF_POOL_LOW_SH_LOW = s.dev.get Reg.HIF_POOL_FREE_SH_FREE ∧ RegsBut s.dev d [Reg.HIF_POOL_LOW] := by
  obtain ⟨k, -, hsim, hans⟩ := answers_simple hs (show Reg.HIF_POOL_LOW ∈ simpleActing by decide) 0x80000000#32
  have hregs := s.start.putReg_simple_regs k Reg.HIF_POOL_LOW 0x80000000#32 hsim
  refine ⟨(s.start.putReg k Reg.HIF_POOL_LOW 0x80000000#32).poolRearm, hans, ?_, hregs.set _ _ (by decide)⟩
  have hlt : s.dev.get Reg.HIF_POOL_FREE_SH_FREE < 2 ^ (12 + 1 - 0) := bits_lt _ _ _
  rw [Dev.poolRearm, Dev.shFree, Dev.get_of_reg (f := Reg.HIF_POOL_FREE_SH_FREE) (hregs _ (by decide))]
  exact Dev.get_set_fits _ _ (by decide) (by decide) hlt

theorem write_frmPeakRearm {s : State} (hs : s.live) : ∃ d, Answers .frmPeakRearm s d ∧ d.get Reg.FRM_PEAK_PEAK = 0 ∧ RegsBut s.dev d [Reg.FRM_PEAK] := by
  obtain ⟨k, -, hsim, hans⟩ := answers_simple hs (show Reg.FRM_PEAK ∈ simpleActing by decide) 0x80000000#32
  refine ⟨(s.start.putReg k Reg.FRM_PEAK 0x80000000#32).set Reg.FRM_PEAK_PEAK 0, hans, ?_, ?_⟩
  · exact Dev.get_set_fits _ _ (by decide) (by decide) (by decide)
  · exact RegsBut.set (s.start.putReg_simple_regs k _ _ hsim) _ _ (by decide)

theorem write_pwrPeakRearm {s : State} (hs : s.live) : ∃ d, Answers .pwrPeakRearm s d ∧ d.get Reg.PWR_PEAK_PEAK = 0 ∧ RegsBut s.dev d [Reg.PWR_PEAK] := by
  obtain ⟨k, -, hsim, hans⟩ := answers_simple hs (show Reg.PWR_PEAK ∈ simpleActing by decide) 0x80000000#32
  refine ⟨(s.start.putReg k Reg.PWR_PEAK 0x80000000#32).set Reg.PWR_PEAK_PEAK 0, hans, ?_, ?_⟩
  · exact Dev.get_set_fits _ _ (by decide) (by decide) (by decide)
  · exact RegsBut.set (s.start.putReg_simple_regs k _ _ hsim) _ _ (by decide)

end Sys2Proof.Machine
end

section
/-! PROOFS. O41, the release of snapshot buffers (R388). -/

namespace Sys2Proof.Machine

/-- One buffer released. -/
def Dev.releaseBuf (k : Nat) (s : Dev) : Dev :=
  let t := s.set ⟨0x5804, k, k⟩ 0
  { t with snp := { t.snp with bufs := sset (fun _ => none) t.snp.bufs k none, lostSince := t.lostHere.length } }

theorem Dev.releaseBuf_regs (k : Nat) (s : Dev) : (Dev.releaseBuf k s).regs = (s.set ⟨0x5804, k, k⟩ 0).regs := by
  simp only [Dev.releaseBuf]

theorem Dev.releaseBuf_bufs (k : Nat) (s : Dev) : (Dev.releaseBuf k s).snp.bufs = sset (fun _ => none) s.snp.bufs k none := rfl

theorem Dev.releaseBuf_here (k : Nat) (s : Dev) : (Dev.releaseBuf k s).snp.last = s.snp.last ∧ (Dev.releaseBuf k s).lostHere = s.lostHere ∧
    (Dev.releaseBuf k s).clocks = s.clocks := by
  simp only [Dev.releaseBuf, Dev.lostHere, Dev.set_snp, Dev.set_clocks, and_self]

theorem Dev.isOn_of_regs {s t : Dev} (h : t.regs = s.regs) (f : Fld) : t.isOn f = s.isOn f := Dev.isOn_of_reg (Dev.reg_of_regs h _)

/-- The buffers a release names that are frozen, but for one frozen on this clock. -/
def Dev.releases (s : Dev) (mask : Nat) : List Nat :=
  (List.range 4).filter (fun k => mask / 2 ^ k % 2 == 1 && s.frozen k && (s.frozenHere).map (·.buf) != some k)

theorem Dev.snapRelease_eq (s : Dev) (mask : Nat) : s.snapRelease mask =
    if (s.releases mask).isEmpty then s else (forEach (s.releases mask) Dev.releaseBuf s).snapMoved.retrigger := rfl

/-- With nothing lost on this clock there is nothing to trigger again. -/
theorem Dev.retrigger_none (s : Dev) (h : s.lostHere = []) : s.retrigger = s := by
  unfold Dev.retrigger
  simp [h]

theorem Dev.isOn_set_zero (s : Dev) (o i j : Nat) (hi : i < 32) : (s.set ⟨o, i, i⟩ 0).isOn ⟨o, j, j⟩ = (s.isOn ⟨o, j, j⟩ && !(j == i)) := by
  have h : s.set ⟨o, i, i⟩ 0 = s.setB ⟨o, i, i⟩ false := rfl
  by_cases hj : j = i
  · subst hj
    rw [h, s.isOn_setB_same o j false hi]
    simp
  · rw [h, s.isOn_setB_apart o i j false hi hj]
    simp [hj]

/-- After the buffers of a list are released: which are frozen, reserved and filled, and what else is as it was. -/
theorem Dev.releaseAll_spec (l : List Nat) (s : Dev) (hl : ∀ k ∈ l, k < 4) :
    (∀ j, (forEach l Dev.releaseBuf s).frozen j = (s.frozen j && !l.contains j)) ∧
    (∀ j, (forEach l Dev.releaseBuf s).snapResv j = s.snapResv j) ∧
    (∀ j, (forEach l Dev.releaseBuf s).snapBuf j = if l.contains j then none else s.snapBuf j) ∧
    RegsBut s (forEach l Dev.releaseBuf s) [Reg.SNP_STAT] ∧ (forEach l Dev.releaseBuf s).snp.last = s.snp.last ∧
    (forEach l Dev.releaseBuf s).lostHere = s.lostHere ∧ (forEach l Dev.releaseBuf s).clocks = s.clocks := by
  induction l generalizing s with
  | nil => exact ⟨fun j => by simp, fun _ => rfl, fun _ => rfl, RegsBut.refl s _, rfl, rfl, rfl⟩
  | cons k t ih =>
    have hk : k < 4 := hl k (by simp)
    obtain ⟨h1, h2, h3, h4, h5, h6, h7⟩ := ih (Dev.releaseBuf k s) (fun j hj => hl j (by simp [hj]))
    have f1 : ∀ j, (Dev.releaseBuf k s).frozen j = (s.frozen j && !(j == k)) := fun j =>
      (Dev.isOn_of_regs (Dev.releaseBuf_regs k s) ⟨0x5804, j, j⟩).trans (s.isOn_set_zero 0x5804 k j (by omega))
    have f2 : ∀ j, (Dev.releaseBuf k s).snapResv j = s.snapResv j := fun j =>
      (Dev.isOn_of_regs (Dev.releaseBuf_regs k s) ⟨0x5804, 4 + j, 4 + j⟩).trans
        ((s.isOn_set_zero 0x5804 k (4 + j) (by omega)).trans (by rw [beq_false_of_ne (show 4 + j ≠ k by omega), Bool.not_false, Bool.and_true]; rfl))
    have f3 : ∀ j, (Dev.releaseBuf k s).snapBuf j = if j = k then none else s.snapBuf j := fun j => by
      by_cases hj : j = k
      · subst hj
        rw [if_pos rfl]
        rw [Dev.snapBuf, Dev.releaseBuf_bufs, sget_sset_same]
      · rw [if_neg hj, Dev.snapBuf, Dev.releaseBuf_bufs, sget_sset_ne _ _ _ _ _ hj, ← Dev.snapBuf]
    have f4 : RegsBut s (Dev.releaseBuf k s) [Reg.SNP_STAT] :=
      RegsBut.same ((RegsBut.refl s _).set ⟨0x5804, k, k⟩ 0 (by simp [Reg.SNP_STAT])) (Dev.releaseBuf_regs k s)
    rw [forEach_cons]
    refine ⟨fun j => ?_, fun j => (h2 j).trans (f2 j), fun j => ?_, f4.trans h4, h5.trans (Dev.releaseBuf_here k s).1,
      h6.trans (Dev.releaseBuf_here k s).2.1, h7.trans (Dev.releaseBuf_here k s).2.2⟩
    · rw [h1, f1, List.contains_cons, Bool.not_or, Bool.and_assoc]
    · rw [h3, f3, List.contains_cons]
      by_cases hj : j = k
      · simp [hj]
      · simp [hj, beq_false_of_ne hj]

theorem Dev.releases_lt (s : Dev) (mask : Nat) : ∀ k ∈ s.releases mask, k < 4 := fun _ hk =>
  List.mem_range.mp (List.mem_filter.mp hk).1

/-- The freeze of this clock, whose own buffer a release does not name. -/
theorem Dev.frozenHere_releaseAll (s : Dev) (mask : Nat) :
    (forEach (s.releases mask) Dev.releaseBuf s).frozenHere = s.frozenHere := by
  obtain ⟨h1, -, -, -, h5, -, h7⟩ := Dev.releaseAll_spec (s.releases mask) s (s.releases_lt mask)
  unfold Dev.frozenHere
  rw [h5, h7]
  cases hlast : s.snp.last with
  | none => rfl
  | some x =>
    rw [Option.filter_some, Option.filter_some, h1]
    by_cases hc : (x.clk == s.clocks && s.frozen x.buf) = true
    · have hin : (s.releases mask).contains x.buf = false := by
        have hfr : s.frozenHere = some x := by rw [Dev.frozenHere, hlast, Option.filter_some, if_pos hc]
        simp [Dev.releases, hfr]
      rw [hin, Bool.not_false, Bool.and_true]
    · have hc' : (x.clk == s.clocks && s.frozen x.buf) = false := by simpa using hc
      rw [← Bool.and_assoc, hc', Bool.false_and]

theorem Dev.mem_releases (s : Dev) {mask k : Nat} (hk : k < 4) :
    (s.releases mask).contains k = (s.frozen k && mask / 2 ^ k % 2 == 1 && (s.frozenHere).map (·.buf) != some k) := by
  rw [Bool.eq_iff_iff, List.contains_iff_mem, Dev.releases, List.mem_filter, Bool.and_comm (s.frozen k)]
  exact and_iff_right (List.mem_range.mpr hk)

/-- With no freeze and no loss on this clock the frozen buffers named are released, and nothing else. -/
theorem Dev.snapRelease_plain (s : Dev) (mask : Nat) (hl : s.lostHere = []) (hf : s.frozenHere = none) :
    s.snapRelease mask = forEach (s.releases mask) Dev.releaseBuf s := by
  obtain ⟨-, -, -, -, -, h6, -⟩ := Dev.releaseAll_spec (s.releases mask) s (s.releases_lt mask)
  have hmoved : (forEach (s.releases mask) Dev.releaseBuf s).snapMoved = forEach (s.releases mask) Dev.releaseBuf s := by
    rw [Dev.snapMoved, s.frozenHere_releaseAll, hf]
  rw [s.snapRelease_eq, hmoved, Dev.retrigger_none _ (h6.trans hl)]
  split
  · next he => rw [List.isEmpty_iff.mp he]; rfl
  · rfl

/-- Where the snapshot of this clock goes after a release (R388). -/
def Dev.movedTo (s : Dev) (x : SnapLast) : Nat := if x.resv then x.buf else min x.buf (s.freeBuf.getD x.buf)

/-- The snapshot of this clock moved to a buffer, with its log record. -/
def Dev.moveSnap (s : Dev) (x : SnapLast) (sn : Snap) (j : Nat) : Dev :=
  let t := ((s.set ⟨0x5804, x.buf, x.buf⟩ 0).set ⟨0x5804, j, j⟩ 1).askedBuf j
  ({ t with snp := { t.snp with bufs := sset (fun _ => none) (sset (fun _ => none) s.snp.bufs x.buf none) j (some { sn with lost := 0 }),
                                last := some { x with buf := j } } }).relog x.seq j sn.mask

theorem Dev.moveSnap_regs (s : Dev) (x : SnapLast) (sn : Snap) (j : Nat) :
    (s.moveSnap x sn j).regs = ((s.set ⟨0x5804, x.buf, x.buf⟩ 0).set ⟨0x5804, j, j⟩ 1).regs := by
  simp only [Dev.moveSnap, Dev.relog, Dev.askedBuf]

theorem Dev.moveSnap_bufs (s : Dev) (x : SnapLast) (sn : Snap) (j : Nat) : (s.moveSnap x sn j).snp.bufs =
    sset (fun _ => none) (sset (fun _ => none) s.snp.bufs x.buf none) j (some { sn with lost := 0 }) := rfl

theorem Dev.moveSnap_lostHere (s : Dev) (x : SnapLast) (sn : Snap) (j : Nat) : (s.moveSnap x sn j).lostHere = s.lostHere := by
  simp only [Dev.moveSnap, Dev.relog, Dev.askedBuf, Dev.lostHere, Dev.set_snp, Dev.set_clocks]

theorem Dev.snapMoved_spec (s : Dev) {x : SnapLast} {sn : Snap} (hx : s.frozenHere = some x) (hs : s.snapBuf x.buf = some sn) (hb : x.buf < 4) :
    s.snapMoved.frozen (s.movedTo x) = true ∧ s.snapMoved.snapBuf (s.movedTo x) = some { sn with lost := 0 } ∧ s.snapMoved.lostHere = s.lostHere := by
  have hj : s.movedTo x < 32 := by
    unfold Dev.movedTo
    split <;> omega
  have hm : s.snapMoved = s.moveSnap x sn (s.movedTo x) := by
    unfold Dev.snapMoved
    rw [hx]
    simp only [hs]
    rfl
  rw [hm]
  refine ⟨?_, by rw [Dev.snapBuf, s.moveSnap_bufs, sget_sset_same], s.moveSnap_lostHere x sn _⟩
  exact (Dev.isOn_of_regs (s.moveSnap_regs x sn _) ⟨0x5804, s.movedTo x, s.movedTo x⟩).trans (Dev.isOn_setB_same (s.set ⟨0x5804, x.buf, x.buf⟩ 0) 0x5804 (s.movedTo x) true hj)

/-- A free buffer is no higher than any buffer that is neither frozen nor reserved. -/
theorem Dev.freeBuf_le (s : Dev) {k : Nat} (hk : k < 4) (hf : s.frozen k = false) (hr : s.snapResv k = false) : ∃ m, s.freeBuf = some m ∧ m ≤ k := by
  unfold Dev.freeBuf
  cases h : (List.range 4).find? (fun k => !s.frozen k && !s.snapResv k) with
  | none =>
    have := List.find?_eq_none.mp h k (List.mem_range.mpr hk)
    simp [hf, hr] at this
  | some m =>
    refine ⟨m, rfl, ?_⟩
    rw [List.find?_range_eq_some] at h
    obtain ⟨-, -, hmin⟩ := h
    by_contra hlt
    have := hmin k (by omega)
    simp [hf, hr] at this

/-- A write of SNP_REL. -/
theorem answers_snpRel {s : State} (hs : s.live) (mask : Nat) : ∃ t : Dev, Answers (.snpRel mask) s (t.snapRelease (mask % 16)) ∧
    t.regs = (s.start.setReg Reg.SNP_REL (s.dev.reg Reg.SNP_REL)).regs ∧ t.snp = s.dev.snp ∧ t.clocks = s.dev.clocks := by
  obtain ⟨k, hk, hsim, hans⟩ := answers_simple hs (show Reg.SNP_REL ∈ simpleActing by decide) (BitVec.ofNat 32 (mask % 16))
  have hbits : bits (BitVec.ofNat 32 (mask % 16)) 3 0 = mask % 16 := by
    simp only [bits, BitVec.toNat_ofNat]
    omega
  have hw : (s.start.putReg k Reg.SNP_REL (BitVec.ofNat 32 (mask % 16))).wrote Reg.SNP_REL (s.dev.reg Reg.SNP_REL) (BitVec.ofNat 32 (mask % 16))
      s.dev.evtMasked = (s.start.putReg k Reg.SNP_REL (BitVec.ofNat 32 (mask % 16))).snapRelease (bits (BitVec.ofNat 32 (mask % 16)) 3 0) := rfl
  have hwo : ∀ k ∈ findReg Reg.SNP_REL, ∀ f ∈ k.fields, f.acc ≠ .rw ∧ f.acc ≠ .w1c := by decide
  rw [hw, hbits] at hans
  refine ⟨_, hans, ?_, ?_, ?_⟩
  · rw [Dev.putReg_simple _ _ _ _ hsim, k.write_none _ _ _ (hwo k hk)]
    rfl
  · rw [Dev.putReg_simple _ _ _ _ hsim]
    rfl
  · rw [Dev.putReg_simple _ _ _ _ hsim]
    rfl

theorem Dev.reg_setReg_self (s : Dev) (o a : Nat) : (s.setReg a (s.reg a)).reg o = s.reg o := by
  by_cases h : o = a
  · rw [h, Dev.reg_setReg_same]
  · exact Dev.reg_setReg_ne _ _ _ _ h

theorem mod16_bit (mask : Nat) {k : Nat} (hk : k < 4) : mask % 16 / 2 ^ k % 2 = mask / 2 ^ k % 2 := by
  obtain rfl | rfl | rfl | rfl : k = 0 ∨ k = 1 ∨ k = 2 ∨ k = 3 := by omega
  all_goals omega

theorem write_snpRel {s : State} (hs : s.live) (mask : Nat) : ∃ d, Answers (.snpRel mask) s d ∧
    (s.dev.lostHere = [] → s.dev.frozenHere = none → RegsBut s.dev d [Reg.SNP_STAT] ∧ ∀ k, k < 4 → ∀ go,
      go = (s.dev.frozen k && mask / 2 ^ k % 2 == 1) → d.frozen k = (s.dev.frozen k && !go) ∧
      d.snapResv k = s.dev.snapResv k ∧ d.snapBuf k = if go then none else s.dev.snapBuf k) ∧
    (∀ x sn k, s.dev.frozenHere = some x → s.dev.snapBuf x.buf = some sn → s.dev.lostHere = [] → k < 4 → k ≠ x.buf →
      mask / 2 ^ k % 2 = 1 → s.dev.frozen k = true → s.dev.snapResv k = false → x.buf < 4 → ∃ j, d.frozen j = true ∧
      d.snapBuf j = some { sn with lost := 0 } ∧ (x.resv = true → j = x.buf) ∧ (x.resv = false → j ≤ k ∧ j ≤ x.buf)) := by
  obtain ⟨t, hans, hregs, hsnp, hclk⟩ := answers_snpRel hs mask
  have hreg : ∀ o, t.reg o = s.dev.reg o := fun o => (Dev.reg_of_regs hregs o).trans (s.start.reg_setReg_self o Reg.SNP_REL)
  have hfr : ∀ k, t.frozen k = s.dev.frozen k := fun k => Dev.isOn_of_reg (hreg _)
  have hrs : ∀ k, t.snapResv k = s.dev.snapResv k := fun k => Dev.isOn_of_reg (hreg _)
  have hbuf : ∀ k, t.snapBuf k = s.dev.snapBuf k := fun k => by rw [Dev.snapBuf, Dev.snapBuf, hsnp]
  have hlost : t.lostHere = s.dev.lostHere := by rw [Dev.lostHere, Dev.lostHere, hsnp, hclk]
  have hhere : t.frozenHere = s.dev.frozenHere := by
    rw [Dev.frozenHere, Dev.frozenHere, hsnp, hclk]
    simp only [hfr]
  obtain ⟨h1, h2, h3, h4, -, h6, -⟩ := Dev.releaseAll_spec (t.releases (mask % 16)) t (t.releases_lt _)
  have hmem : ∀ k, k < 4 → (t.releases (mask % 16)).contains k =
      (s.dev.frozen k && mask / 2 ^ k % 2 == 1 && (s.dev.frozenHere).map (·.buf) != some k) := fun k hk => by
    rw [t.mem_releases hk, hfr, hhere, mod16_bit mask hk]
  refine ⟨_, hans, fun hl hf => ?_, fun x sn k hx hsn hl hk hne hm hfk hrk hb => ?_⟩
  · rw [t.snapRelease_plain _ (hlost.trans hl) (hhere.trans hf)]
    refine ⟨fun o ho => (h4 o ho).trans (hreg o), ?_⟩
    rintro k hk go rfl
    have hc : (t.releases (mask % 16)).contains k = (s.dev.frozen k && mask / 2 ^ k % 2 == 1) := by
      rw [hmem k hk, hf]
      simp
    rw [h1, h2, h3, hc, hfr, hrs, hbuf]
    exact ⟨rfl, rfl, rfl⟩
  · have hck : (t.releases (mask % 16)).contains k = true := by
      rw [hmem k hk, hfk, hm, hx]
      simp [Ne.symm hne]
    have hcx : (t.releases (mask % 16)).contains x.buf = false := by
      rw [hmem _ hb, hx]
      simp
    have hnonempty : (t.releases (mask % 16)).isEmpty = false := by
      rw [List.isEmpty_eq_false_iff]
      intro h
      rw [h] at hck
      simp at hck
    have hher := (t.frozenHere_releaseAll (mask % 16)).trans (hhere.trans hx)
    have hsnx : (forEach (t.releases (mask % 16)) Dev.releaseBuf t).snapBuf x.buf = some sn := by
      rw [h3, hcx, hbuf, hsn]
      rfl
    obtain ⟨m1, m2, m3⟩ := Dev.snapMoved_spec _ hher hsnx hb
    rw [t.snapRelease_eq, hnonempty, if_neg Bool.false_ne_true, Dev.retrigger_none _ (m3.trans (h6.trans (hlost.trans hl)))]
    refine ⟨_, m1, m2, fun hr => by rw [Dev.movedTo, if_pos hr], fun hr => ?_⟩
    obtain ⟨m, hfree, hle⟩ := (forEach (t.releases (mask % 16)) Dev.releaseBuf t).freeBuf_le hk (by rw [h1, hck]; simp) (by rw [h2, hrs, hrk])
    rw [Dev.movedTo, hr, if_neg Bool.false_ne_true, hfree]
    exact ⟨le_trans (min_le_right _ _) hle, min_le_left _ _⟩

end Sys2Proof.Machine
end

section
/-! PROOFS. O41, frames of the host SPI slave (R342–R344): errors, windows, and read frames. -/

namespace Sys2Proof.Machine

/-! ### What has been sent stays sent -/

/-- All that `d` has sent `e` has sent too. -/
def Sent (d e : Dev) : Prop := ∀ m ∈ d.out, m ∈ e.out

theorem Sent.refl (d : Dev) : Sent d d := fun _ h => h
theorem Sent.trans {d e f : Dev} (h : Sent d e) (g : Sent e f) : Sent d f := fun m hm => g m (h m hm)
theorem Sent.same {d e f : Dev} (h : Sent d e) (g : f.out = e.out) : Sent d f := fun m hm => by rw [g]; exact h m hm
theorem Sent.aside {d e f : Dev} (h : Sent d e) (g : f.aside = e.aside) : Sent d f := h.same (out_of_aside g)
theorem Sent.send {d e : Dev} (h : Sent d e) (m : OutMsg) : Sent d (e.send m) := fun x hx => List.mem_append_left _ (h x hx)

theorem Sent.onlyIf {d e : Dev} (h : Sent d e) (c : Bool) (f : Dev → Dev) (hf : ∀ t, Sent d t → Sent d (f t)) : Sent d (onlyIf c f e) :=
  onlyIf_keeps (fun t => Sent d t) c f e h hf

theorem Sent.forEach {α : Type} {d e : Dev} (h : Sent d e) (l : List α) (f : α → Dev → Dev) (hf : ∀ a t, Sent d t → Sent d (f a t)) :
    Sent d (forEach l f e) := forEach_keeps (fun t => Sent d t) l f e h hf

theorem Sent.msix {d e : Dev} (h : Sent d e) (v : Nat) : Sent d (e.msix v) := by
  unfold Dev.msix
  split
  · exact h
  · split
    · exact h
    · exact h.send _

theorem Sent.raise {d e : Dev} (h : Sent d e) (f : Fld) : Sent d (e.raise f) := h

theorem Sent.event {d e : Dev} (h : Sent d e) (f : Fld) : Sent d (e.event f) := by
  unfold Dev.event
  exact (h.raise f).onlyIf _ _ (fun t ht => ht.msix 64)

theorem Sent.hifFlag {d e : Dev} (h : Sent d e) (f : Fld) : Sent d (e.hifFlag f) := by
  unfold Dev.hifFlag
  exact (h.raise f).event _

/-! ### The end of a frame (R343) -/

/-- The error counts of a frame. -/
def Dev.spiCounts (s : Dev) (err : Nat) : Dev :=
  let s := onlyIf (err % 2 == 1) (·.count Reg.HIF_SPIERR_CRC) s
  let s := onlyIf (err / 2 % 2 == 1) (·.count Reg.HIF_SPIERR_ALIGN) s
  let s := onlyIf (err / 4 % 2 == 1) (·.count Reg.HIF_SPIERR_LEN) s
  onlyIf (err / 8 % 2 == 1) (·.count Reg.HIF_SPIERR_SPACE) s

theorem Dev.spiDone_eq (s : Dev) (err : Nat) : s.spiDone err =
    { onlyIf (err != 0) (·.hifFlag Reg.HIF_FLAG_SPIERR_F) (s.spiCounts err) with
      host := { (onlyIf (err != 0) (·.hifFlag Reg.HIF_FLAG_SPIERR_F) (s.spiCounts err)).host with spiPrev := err } } := rfl

theorem Dev.spiCounts_regs (s : Dev) (err : Nat) : RegsBut s (s.spiCounts err) [Reg.HIF_SPIERR] := by
  unfold Dev.spiCounts
  refine RegsBut.onlyIf (RegsBut.onlyIf (RegsBut.onlyIf ((RegsBut.refl s _).onlyIf _ _ ?_) _ _ ?_) _ _ ?_) _ _ ?_
  · exact fun t ht => ht.count Reg.HIF_SPIERR_CRC 1 (by decide)
  · exact fun t ht => ht.count Reg.HIF_SPIERR_ALIGN 1 (by decide)
  · exact fun t ht => ht.count Reg.HIF_SPIERR_LEN 1 (by decide)
  · exact fun t ht => ht.count Reg.HIF_SPIERR_SPACE 1 (by decide)

theorem Dev.spiCounts_aside (s : Dev) (err : Nat) : (s.spiCounts err).aside = s.aside := by
  unfold Dev.spiCounts
  rw [onlyIf_aside _ _ _ (Dev.count_aside _ _ _), onlyIf_aside _ _ _ (Dev.count_aside _ _ _), onlyIf_aside _ _ _ (Dev.count_aside _ _ _),
    onlyIf_aside _ _ _ (Dev.count_aside _ _ _)]

theorem Dev.spiDone_zero (s : Dev) : s.spiDone 0 = { s with host := { s.host with spiPrev := 0 } } := rfl

theorem Dev.spiDone_err (s : Dev) {err : Nat} (h : err ≠ 0) : s.spiDone err =
    { (s.spiCounts err).hifFlag Reg.HIF_FLAG_SPIERR_F with host := { ((s.spiCounts err).hifFlag Reg.HIF_FLAG_SPIERR_F).host with spiPrev := err } } := by
  rw [s.spiDone_eq, bne_iff_ne.mpr h]
  rfl

theorem Sent.spiDone {d e : Dev} (h : Sent d e) (err : Nat) : Sent d (e.spiDone err) := by
  rw [e.spiDone_eq]
  exact Sent.same (Sent.onlyIf (h.aside (e.spiCounts_aside err)) _ _ (fun t ht => ht.hifFlag Reg.HIF_FLAG_SPIERR_F)) rfl

/-- A frame with errors is counted and flagged, and the windows stay. -/
theorem Dev.spiDone_spec (s : Dev) {err : Nat} (h : err ≠ 0) : RegsBut s (s.spiDone err) [Reg.HIF_SPIERR, Reg.HIF_FLAG, Reg.HIF_EVT] ∧
    (s.spiDone err).isOn Reg.HIF_FLAG_SPIERR_F = true ∧ (s.spiDone err).host.ringWin = s.host.ringWin ∧
    (s.spiDone err).host.bulkWin = s.host.bulkWin := by
  have hhost : (s.spiCounts err).host = s.host := host_of_aside (s.spiCounts_aside err)
  have hw : ∀ f : Fld, ((s.spiCounts err).hifFlag f).host.ringWin = s.host.ringWin ∧ ((s.spiCounts err).hifFlag f).host.bulkWin = s.host.bulkWin := by
    intro f
    rw [Dev.hifFlag_frame, ← hhost]
    exact ⟨rfl, rfl⟩
  obtain ⟨hring, hbulk⟩ := hw Reg.HIF_FLAG_SPIERR_F
  have hregs := RegsBut.hifFlag ((s.spiCounts_regs err).mono (m := [Reg.HIF_SPIERR, Reg.HIF_FLAG, Reg.HIF_EVT]) (by simp)) Reg.HIF_FLAG_SPIERR_F
    (by decide) (by decide)
  have hon := (s.spiCounts err).isOn_hifFlag Reg.HIF_FLAG_SPIERR_F (by decide) (by decide) (by decide)
  rw [s.spiDone_err h]
  exact ⟨hregs, hon, hring, hbulk⟩

/-! ### Words of a frame -/

theorem writeBytes_append (m : List (Nat × Byte)) (a : Nat) (b c : List Byte) : writeBytes m a (b ++ c) = writeBytes (writeBytes m a b) (a + b.length) c := by
  induction b generalizing m a with
  | nil => rfl
  | cons x t ih =>
    rw [List.cons_append, writeBytes, writeBytes, ih, List.length_cons]
    congr 1
    omega

/-- Bytes read as a number, lowest first, and laid out again are the bytes. -/
theorem toLe_leAt (l : List Byte) (n i : Nat) (h : i + n ≤ l.length) : toLe (leAt l i n) n = (l.drop i).take n := by
  induction n generalizing i with
  | zero => rfl
  | succ n ih =>
    have hi : i < l.length := by omega
    have hlt : byteAt l i < 256 := (l.getD i 0).isLt
    have hdiv : leAt l i (n + 1) / 256 = leAt l (i + 1) n := by rw [leAt]; omega
    have hmod : BitVec.ofNat 8 (leAt l i (n + 1)) = l[i] := by
      apply BitVec.eq_of_toNat_eq
      have hb : byteAt l i = l[i].toNat := by rw [byteAt, List.getD_eq_getElem _ _ hi]
      rw [BitVec.toNat_ofNat, leAt]
      omega
    rw [toLe, hdiv, hmod, ih (i + 1) (by omega), List.drop_eq_getElem_cons hi, List.take_succ_cons]

theorem leAt_lt (l : List Byte) (n i : Nat) : leAt l i n < 256 ^ n := by
  induction n generalizing i with
  | zero => exact Nat.one_pos
  | succ n ih =>
    have hlt : byteAt l i < 256 := (l.getD i 0).isLt
    have := ih (i + 1)
    rw [leAt, Nat.pow_succ]
    omega

/-- A word of a frame is its four bytes. -/
theorem wordBytes_wordAt (l : List Byte) (i : Nat) (h : i + 4 ≤ l.length) : wordBytes (wordAt l i) = (l.drop i).take 4 := by
  have hlt : leAt l i 4 < 2 ^ 32 := leAt_lt l 4 i
  rw [wordBytes, wordAt, BitVec.toNat_ofNat, Nat.mod_eq_of_lt hlt, toLe_leAt l 4 i h]

/-- The bytes of `k` words from `a` on go into a window one after the other. -/
theorem writeBytes_words (win : List (Nat × Byte)) (a : Nat) (f : List Byte) (k : Nat) (h : 4 + 4 * k ≤ f.length) :
    (List.range k).foldl (fun w i => writeBytes w (a + 4 * i) (wordBytes (wordAt f (4 + 4 * i)))) win = writeBytes win a ((f.drop 4).take (4 * k)) := by
  induction k with
  | zero => rfl
  | succ k ih =>
    have hlen : ((f.drop 4).take (4 * k)).length = 4 * k := by rw [List.length_take, List.length_drop]; omega
    have hnext : (f.drop 4).take (4 * (k + 1)) = (f.drop 4).take (4 * k) ++ wordBytes (wordAt f (4 + 4 * k)) := by
      rw [wordBytes_wordAt f _ (by omega), ← List.drop_drop, Nat.mul_succ, List.take_add]
    rw [List.range_succ, List.foldl_append, ih (by omega), hnext, writeBytes_append, hlen]
    rfl

/-- The words of a frame, in their order. -/
def Dev.spiPuts (s : Dev) (f : List Byte) (n : Nat) : Dev :=
  forEach (List.range n) (fun i t => t.spiPut (spiSpace f) (spiAddr f + 4 * i) (wordAt f (4 + 4 * i))) s

theorem Dev.spiPuts_regs (s : Dev) (f : List Byte) (n : Nat) (h : spiSpace f = 0) :
    s.spiPuts f n = forEach (List.range n) (fun i t => t.writeReg (spiAddr f + 4 * i) (wordAt f (4 + 4 * i))) s := by
  rw [Dev.spiPuts, h]
  rfl

/-- The words of the ring window go there alone. -/
theorem Dev.spiPuts_ring (s : Dev) (f : List Byte) (n : Nat) (h : spiSpace f = 1) (hn : 4 + 4 * n ≤ f.length) :
    s.spiPuts f n = { s with host := { s.host with ringWin := writeBytes s.host.ringWin (spiAddr f) ((f.drop 4).take (4 * n)) } } := by
  have hfold : ∀ (l : List Nat) (t : Dev), forEach l (fun i t => t.spiPut 1 (spiAddr f + 4 * i) (wordAt f (4 + 4 * i))) t =
      { t with host := { t.host with ringWin := l.foldl (fun w i => writeBytes w (spiAddr f + 4 * i) (wordBytes (wordAt f (4 + 4 * i)))) t.host.ringWin } } := by
    intro l
    induction l with
    | nil => exact fun t => rfl
    | cons i l ih => exact fun t => ih _
  rw [Dev.spiPuts, h, hfold, writeBytes_words _ _ _ _ hn]

/-- The words of the bulk window go there alone. -/
theorem Dev.spiPuts_bulk (s : Dev) (f : List Byte) (n : Nat) (h : spiSpace f = 2) (hn : 4 + 4 * n ≤ f.length) :
    s.spiPuts f n = { s with host := { s.host with bulkWin := writeBytes s.host.bulkWin (spiAddr f) ((f.drop 4).take (4 * n)) } } := by
  have hfold : ∀ (l : List Nat) (t : Dev), forEach l (fun i t => t.spiPut 2 (spiAddr f + 4 * i) (wordAt f (4 + 4 * i))) t =
      { t with host := { t.host with bulkWin := l.foldl (fun w i => writeBytes w (spiAddr f + 4 * i) (wordBytes (wordAt f (4 + 4 * i)))) t.host.bulkWin } } := by
    intro l
    induction l with
    | nil => exact fun t => rfl
    | cons i l ih => exact fun t => ih _
  rw [Dev.spiPuts, h, hfold, writeBytes_words _ _ _ _ hn]

/-- A frame without errors has the length its words ask for. -/
theorem spiErr_zero_length {f : List Byte} {n : Nat} {crc : Bool} (h : spiErr f n (f.length != 5 + 4 * n || n == 0 || decide (256 < n)) crc = 0) :
    f.length = 5 + 4 * n := by
  by_contra hne
  have hlen : (f.length != 5 + 4 * n || n == 0 || decide (256 < n)) = true := by simp [hne]
  have hbit : b2n true = 1 := rfl
  rw [hlen, spiErr, hbit] at h
  omega

end Sys2Proof.Machine
end

section
/-! PROOFS. What sends nothing: the pool, the converters and the clocks a command may wait for leave the messages of the outside alone. -/

namespace Sys2Proof.Machine

theorem onlyIf_out (c : Bool) (f : Dev → Dev) (s : Dev) (h : (f s).out = s.out) : (onlyIf c f s).out = s.out := by
  cases c
  · rfl
  · exact h

theorem forEach_out {α : Type} (l : List α) (f : α → Dev → Dev) (s : Dev) (h : ∀ a t, (f a t).out = t.out) : (forEach l f s).out = s.out :=
  forEach_keeps (fun t => t.out = s.out) l f s rfl (fun a t ht => (h a t).trans ht)

/-! ### The pool and the round robin (R24–R29) -/

theorem Dev.poolPut_out (s : Dev) (u : Nat) (p : PoolUser) : (s.poolPut u p).out = s.out := out_of_aside (s.poolPut_aside u p)
theorem Dev.poolClk_out (s : Dev) : s.poolClk.out = s.out := out_of_aside s.poolClk_aside
theorem Dev.freeHold_out (s : Dev) (h : Hold) : (s.freeHold h).out = s.out := out_of_aside (s.freeHold_aside h)
theorem Dev.free1_out (s : Dev) (u : Nat) (b : Bool) : (s.free1 u b).out = s.out := out_of_aside (s.free1_aside u b)
theorem Dev.freeAll_out (s : Dev) (w : WaitCmd) : (s.freeAll w).out = s.out := out_of_aside (s.freeAll_aside w)
theorem Dev.giveBack_out (s : Dev) (h : Hold) : (s.giveBack h).out = s.out := s.poolPut_out _ _

theorem Dev.allocN_out {s : Dev} {u n : Nat} {x : Hold × Dev} (h : s.allocN u n = some x) : x.2.out = s.out := by
  unfold Dev.allocN at h
  split at h
  · cases h
  · cases h
    exact s.poolPut_out _ _

theorem Dev.grantOne_out {s t : Dev} {u : Nat} (h : s.grantOne u = some t) : t.out = s.out := by
  unfold Dev.grantOne at h
  simp only at h
  split at h
  · cases h
    exact s.poolPut_out _ _
  · split at h
    · cases h
      exact s.poolPut_out _ _
    · split at h
      · cases h
        exact s.poolPut_out _ _
      · cases h

theorem Dev.standing_out {s t : Dev} {u : Nat} (h : s.standing u = some t) : t.out = s.out := by
  unfold Dev.standing at h
  split at h
  · cases h
  · split at h
    · split at h
      · exact Dev.grantOne_out h
      · cases h
    · split at h
      · obtain ⟨x, hx, rfl⟩ := Option.map_eq_some_iff.mp h
        exact Dev.allocN_out hx
      · cases h

/-- What answers to the requests of a round keeps sends nothing. -/
def QuietRequests {α : Type} (own : List (Request α)) : Prop := ∀ r ∈ own, ∀ (s : Dev) x, r.2 s = some x → x.2.out = s.out

theorem QuietRequests.filter {α : Type} {own : List (Request α)} (h : QuietRequests own) (p : Request α → Bool) : QuietRequests (own.filter p) :=
  fun r hr => h r (List.mem_filter.mp hr).1

theorem Dev.serveNext_out {α : Type} {s : Dev} {own : List (Request α)} (ho : QuietRequests own) {x : Option (Nat × α) × Dev}
    (h : s.serveNext own = some x) : x.2.out = s.out := by
  obtain ⟨u, _, hu⟩ := List.exists_of_findSome?_eq_some h
  split at hu
  next y hy =>
    obtain ⟨r, hr, hy⟩ := Option.bind_eq_some_iff.mp hy
    cases hu
    exact ho r (List.mem_of_find?_eq_some hr) s y hy
  next =>
    obtain ⟨t, ht, rfl⟩ := Option.map_eq_some_iff.mp hu
    have hout := Dev.standing_out ht
    exact hout

theorem Dev.serve_out {α : Type} (n : Nat) (s : Dev) (own : List (Request α)) (ho : QuietRequests own) : (s.serve own n).2.out = s.out := by
  induction n generalizing s own with
  | zero => rfl
  | succ n ih =>
    unfold Dev.serve
    split
    · rfl
    next x t hx => exact (ih t _ (ho.filter _)).trans (Dev.serveNext_out ho hx)

theorem Dev.serveClock_out {α : Type} (s : Dev) (own : List (Request α)) (ho : QuietRequests own) : (s.serveClock own).2.out = s.out :=
  (Dev.serve_out _ _ own ho).trans s.poolClk_out

theorem Dev.freesServed_out (s : Dev) (n : Nat) : (s.freesServed n).out = s.out :=
  (forEach_out _ _ _ (fun h t => t.giveBack_out h)).trans s.poolClk_out

/-! ### The converters (R66–R74) -/

theorem Dev.bgBoundary_out (s : Dev) (c clk : Nat) : (s.bgBoundary c clk).out = s.out := by
  have hturn : ∀ (b : Bool) (t : Dev), (onlyIf b (fun t => t.set Reg.ADC_BGSTAT_ROT (t.get Reg.ADC_BGSTAT_ROT + 1)) t).out = t.out :=
    fun b t => onlyIf_out b _ t rfl
  unfold Dev.bgBoundary
  simp only
  split
  next on _ =>
    split
    · rfl
    · cases on
      · exact hturn _ _
      · rfl
  · rfl

theorem Dev.beginConv_out (s : Dev) (c : Nat) (r : ConvRun) : (s.beginConv c r).out = s.out := s.bgBoundary_out c r.start

theorem Dev.calBegin_out (s : Dev) (c clk : Nat) : (s.calBegin c clk).out = s.out := s.bgBoundary_out c clk

theorem Dev.nextSlot_out (s : Dev) (c clk : Nat) : (s.nextSlot c clk).out = s.out := by
  unfold Dev.nextSlot
  simp only
  split
  · exact Dev.calBegin_out _ c clk
  · split
    · rfl
    · split
      · split
        · exact Dev.beginConv_out _ _ _
        · split
          · rfl
          · split
            · split
              · exact Dev.beginConv_out _ _ _
              · split <;> rfl
            · rfl
      · exact Dev.beginConv_out _ _ _
      · split
        · exact Dev.beginConv_out _ _ _
        · split
          · exact Dev.beginConv_out _ _ _
          · rfl

theorem Dev.slotIfIdle_out (s : Dev) (c clk : Nat) : (s.slotIfIdle c clk).out = s.out := by
  unfold Dev.slotIfIdle
  split
  · exact s.nextSlot_out c clk
  · rfl

theorem Dev.slotStarts_out (n : Nat) (s : Dev) (clk : Nat) : (s.slotStarts clk n).out = s.out := by
  induction n generalizing s with
  | zero => rfl
  | succ n ih =>
    unfold Dev.slotStarts
    split
    · rfl
    · exact (ih _).trans (Dev.slotIfIdle_out _ _ _)

theorem Dev.calBounds_out (s : Dev) (clk : Nat) : (s.calBounds clk).out = s.out := by
  unfold Dev.calBounds
  split
  · rfl
  · split
    · rfl
    · refine forEach_out _ _ _ (fun x t => ?_)
      simp only
      split
      · exact t.bgBoundary_out _ _
      · rfl

theorem Dev.adcPass_out (s : Dev) (clk : Nat) (f : Nat → Nat) : (s.adcPass clk f).out = s.out := by
  unfold Dev.adcPass
  split
  · rfl
  · refine (forEach_out _ _ _ (fun c t => ?_)).trans ((Dev.slotStarts_out _ _ _).trans ((Dev.calBounds_out _ _).trans
      (forEach_out _ _ _ (fun c t => ?_))))
    · split
      · split <;> rfl
      · rfl
    · split
      · split
        · exact t.beginConv_out _ _
        · rfl
      · rfl

/-! ### Clocks that pass while a command waits (R29, R36) -/

theorem Dev.refPass_out (s : Dev) (k : Nat) : (s.refPass k).out = s.out := by
  unfold Dev.refPass
  split
  · rfl
  · simp only
    split <;> rfl

theorem Dev.clocksPass_out (s : Dev) (n : Nat) : (s.clocksPass n).out = s.out := by
  unfold Dev.clocksPass
  split
  · rfl
  · have hpass : ∀ f m k, (((s.adcPass (s.clocks + n) f).slewed m).refPass k).out = s.out :=
      fun f m k => (Dev.refPass_out _ _).trans (s.adcPass_out _ f)
    simp only
    have hend : ∀ t : Dev, (if t.pool.frees.isEmpty then t else t.freesServed n).out = t.out := fun t => by
      split
      · rfl
      · exact t.freesServed_out n
    have htick : ∀ t : Dev, (if t.frm.ticked then t.set Reg.FRM_STAT_CLK_IN (min 0xFFFF (t.get Reg.FRM_STAT_CLK_IN + n)) else t).out = t.out := fun t => by
      split <;> rfl
    have hband : ∀ t : Dev, (if t.pllst = pIDLE then t.set Reg.CLK_STAT_PLLST pBAND else t).out = t.out := fun t => by
      split <;> rfl
    exact (hend _).trans ((htick _).trans ((hband _).trans (hpass _ _ _)))

theorem Dev.serveOwn_out {α : Type} (n : Nat) (s : Dev) (own : List (Request α)) (ho : QuietRequests own) : (s.serveOwn own n).2.out = s.out := by
  induction n generalizing s own with
  | zero => rfl
  | succ n ih =>
    unfold Dev.serveOwn
    split
    · rfl
    · simp only
      split
      · exact s.serveClock_out own ho
      · exact (ih _ _ (ho.filter _)).trans ((Dev.clocksPass_out _ 1).trans (s.serveClock_out own ho))

theorem Dev.request_out (s : Dev) (u n : Nat) : (s.request u n).2.out = s.out := by
  refine Dev.serveOwn_out _ s _ (fun r hr t x hx => ?_)
  obtain rfl := List.mem_singleton.mp hr
  exact Dev.allocN_out hx

theorem Dev.ask_out (s : Dev) (u n : Nat) : (s.ask u n).2.out = s.out := by
  unfold Dev.ask
  split
  · rfl
  · split
    · rfl
    · split
      · rfl
      · exact s.request_out u n

end Sys2Proof.Machine
end

section
/-! PROOFS. What has been sent stays sent: doorbells, vectors, replies, the end of a transaction and of queue 0 (R352–R365, R280–R283). -/

namespace Sys2Proof.Machine

theorem Sent.ite {d e f : Dev} {c : Prop} [Decidable c] (he : Sent d e) (hf : Sent d f) : Sent d (if c then e else f) := by
  split
  · exact he
  · exact hf

section
variable {d e : Dev} (h : Sent d e)
include h

theorem Sent.setReg (a : Nat) (w : Word) : Sent d (e.setReg a w) := h
theorem Sent.set (f : Fld) (v : Nat) : Sent d (e.set f v) := h

/-! ### Vectors, doorbells and completion entries -/

theorem Sent.vecFire (v : Nat) : Sent d (e.vecFire v) := by
  unfold Dev.vecFire
  split
  · exact h
  · have hdis : Sent d { e with host := { e.host with disarmed := e.host.disarmed ++ [v] } } := h
    exact hdis.msix v

theorem Sent.vecRearm (v : Nat) : Sent d (e.vecRearm v) := by
  have harm : Sent d (e.rearm v) := h
  rw [e.vecRearm_eq]
  exact harm.onlyIf _ _ (fun t ht => ht.vecFire v)

theorem Sent.setQueue (q : Nat) (x : QueueSt) : Sent d (e.setQueue q x) := h

theorem Sent.dbErr : Sent d e.dbErr := h.hifFlag _

theorem Sent.sqtBell (q v : Nat) : Sent d (e.sqtBell q v) := by
  unfold Dev.sqtBell Dev.sqtWrite
  simp only
  split
  · split
    · exact h.dbErr
    · split
      · exact (h.setQueue q _).dbErr
      · exact h
  · exact h

theorem Sent.cqhBell (q v : Nat) : Sent d (e.cqhBell q v) := by
  unfold Dev.cqhBell Dev.cqhWrite
  simp only
  split
  · split
    · exact h.dbErr
    · exact (h.setQueue q _).onlyIf _ _ (fun t ht => ht.vecRearm _)
  · exact h

theorem Sent.ringWrite (win : Bool) (a : Nat) (b : List Byte) : Sent d (e.ringWrite win a b) := by
  cases win <;> exact h

theorem Sent.cqPost (q : Nat) (b : List Byte) : Sent d (e.cqPost q b) := by
  unfold Dev.cqPost
  simp only
  exact Sent.onlyIf ((h.ringWrite _ _ _).setQueue q _) _ _ (fun t ht => ht.vecFire _)

/-! ### Replies (R359) -/

theorem Sent.mbxShow (b : List Byte) (final : Bool) : Sent d (e.mbxShow b final) := by
  unfold Dev.mbxShow
  refine Sent.onlyIf (Sent.event ?_ _) _ _ (fun t ht => ht)
  exact h

theorem Sent.freeHold (x : Hold) : Sent d (e.freeHold x) := h.same (e.freeHold_out x)
theorem Sent.free1 (u : Nat) (b : Bool) : Sent d (e.free1 u b) := h.same (e.free1_out u b)
theorem Sent.freeAll (w : WaitCmd) : Sent d (e.freeAll w) := h.same (e.freeAll_out w)
theorem Sent.cqReturn (q n : Nat) : Sent d (e.cqReturn q n) := h
theorem Sent.dropWait (w : WaitCmd) : Sent d (e.dropWait w) := h

theorem Sent.finishHost (w : WaitCmd) (r : Reply) : Sent d (e.finishHost w r) := by
  have hdrop := h.dropWait w
  unfold Dev.finishHost
  simp only
  split
  · refine Sent.free1 ?_ _ _
    split
    · exact hdrop.cqReturn _ _
    · exact (hdrop.cqReturn _ _).cqPost _ _
  · split
    · exact (hdrop.set _ _).free1 _ _
    · split
      · exact h
      · exact (hdrop.mbxShow _ _).free1 _ _
  · exact h

/-! ### Transactions -/

theorem Sent.krkSend (kind dest : Nat) (b : List Byte) : Sent d (e.krkSend kind dest b) := by
  unfold Dev.krkSend Dev.portSend
  split
  · exact h.send _
  · exact h

theorem Sent.bulkWrite (src : Src) (a : Nat) (b : List Byte) : Sent d (e.bulkWrite src a b) := by
  unfold Dev.bulkWrite
  split
  · exact h.krkSend _ _ _
  · split <;> exact h

theorem Sent.logAt (a b c x y : Nat) (g : Bool) : Sent d (e.logAt a b c x y g) := h.aside (e.logAt_aside a b c x y g)
theorem Sent.logNow (a b c : Nat) : Sent d (e.logNow a b c) := h.aside (e.logNow_aside a b c)

theorem Sent.faultNote (c : Nat) : Sent d (e.faultNote c) := (h.hifFlag _).logNow _ _ _

theorem Sent.ask (u n : Nat) : Sent d (e.ask u n).2 := h.same (e.ask_out u n)

theorem Sent.txnEnd (x : Txn) (r : Reply) (failed : List Nat) : Sent d (e.txnEnd x r failed) := by
  have hcopy : Sent d ((e.dropTxn x).freeHold x.copy) := Sent.freeHold (e := e.dropTxn x) h _
  unfold Dev.txnEnd
  generalize (e.dropTxn x).freeHold x.copy = c at hcopy
  have harea : ∀ (b : Bool) u n src a l, Sent d (if b then
      (match (c.ask u n).1 with
        | some g => ((c.ask u n).2.bulkWrite src a l).freeHold g
        | none => (c.ask u n).2.bulkWrite src a l) else c) := by
    intro b u n src a l
    have hwritten := (hcopy.ask u n).bulkWrite src a l
    split
    · split
      · exact hwritten.freeHold _
      · exact hwritten
    · exact hcopy
  simp only
  split
  · exact Sent.finishHost ((harea _ _ _ _ _ _).onlyIf _ _ (fun t ht => ht.faultNote 1)) _ _
  · exact (harea _ _ _ _ _ _).onlyIf _ _ (fun t ht => ht.faultNote 1)

theorem Sent.failNote (a : TxnAns) : Sent d (e.failNote a) := h.onlyIf _ _ (fun _ ht => ht.faultNote _)

theorem Sent.txnResult (l : List TxnAns) : Sent d (e.txnResult l).2 := by
  unfold Dev.txnResult
  split
  · exact h
  · simp only
    split <;> exact h

theorem Sent.txnOutcome (x : Txn) : Sent d (e.txnOutcome x) := by
  unfold Dev.txnOutcome
  simp only
  split
  · split
    · exact (h.txnResult _).txnEnd _ _ _
    · exact h.txnEnd _ _ _
  · split
    · split
      · exact (h.failNote _).txnEnd _ _ _
      · split
        · exact (h.txnResult _).txnEnd _ _ _
        · exact h.txnEnd _ _ _
    · split
      · exact (h.failNote _).txnEnd _ _ _
      · exact h

theorem Sent.setTxn (x : Txn) : Sent d (e.setTxn x) := h

theorem Sent.txnAnswer (id : Nat) (a : TxnAns) : Sent d (e.txnAnswer id a) := by
  have hnext : ∀ (c : Bool) (y : Txn), Sent d (if c then (e.setTxn y).txnOutcome y else e.setTxn y) :=
    fun c y => Sent.ite ((h.setTxn y).txnOutcome y) (h.setTxn y)
  unfold Dev.txnAnswer
  split
  · exact h
  · exact Sent.ite h (hnext _ _)

theorem Sent.answer (o id : Nat) (r : Reply) : Sent d (e.answer o id r) := by
  unfold Dev.answer
  simp only
  split
  · exact h.txnAnswer _ _
  · exact h.krkSend _ _ _

theorem Sent.finish (w : WaitCmd) (r : Reply) : Sent d (e.finish w r) := by
  unfold Dev.finish
  simp only
  split
  · exact ((h.freeAll w).dropWait w).answer _ _ _
  · exact (h.freeAll w).finishHost w r

/-! ### Queue 0 (R347, R353) -/

theorem Sent.queueDrop (q : Nat) : Sent d (e.queueDrop q) := by
  unfold Dev.queueDrop
  refine Sent.setQueue ?_ q _
  split
  · exact h.free1 _ _
  · exact h

theorem Sent.queueGone (q : Nat) : Sent d (e.queueGone q) := by
  unfold Dev.queueGone
  split
  · exact h
  · simp only
    split
    · exact (h.queueDrop q).finish _ _
    · exact h.queueDrop q

theorem Sent.closeQueue (q : Nat) : Sent d (e.closeQueue q) := by
  have hgone : ∀ l : List WaitCmd, Sent d (Machine.forEach l (fun w t => Machine.onlyIf w.ownCmd (fun u => (u.free1 (36 + q) w.gran).cqReturn q (if w.answered then 1 else 2))
      ((t.freeAll w).dropWait w)) e) := fun l =>
    h.forEach l _ (fun w t ht => ((ht.freeAll w).dropWait w).onlyIf _ _ (fun u hu => (hu.free1 _ _).cqReturn q _))
  exact hgone _

theorem Sent.aqDisable : Sent d e.aqDisable := by
  have hoff : Sent d (e.set Reg.HIF_AQ_CFG_EN 0) := h
  unfold Dev.aqDisable
  simp only
  split
  · exact (hoff.closeQueue 0).queueGone 0
  · exact hoff

theorem Sent.aqEnable : Sent d e.aqEnable := by
  have hoff : Sent d (e.set Reg.HIF_AQ_CFG_EN 0) := h
  unfold Dev.aqEnable
  simp only
  split
  · exact h.hifFlag _
  · split
    · exact hoff.hifFlag _
    · exact h

theorem Sent.aqWrite (w : Word) : Sent d (e.aqWrite w) := by
  unfold Dev.aqWrite
  simp only
  split
  · split
    · exact h
    · exact h.aqDisable.setReg _ _
  · split
    · exact (h.setReg _ _).aqEnable
    · exact h.setReg _ _

/-! ### The registers of the host interface and of the vault -/

theorem Sent.configError (k : RegKind) (old w : Word) : Sent d (e.configError k old w) := h.onlyIf _ _ (fun _ ht => ht.hifFlag _)

theorem Sent.beforeWritten (k : RegKind) (a : Nat) (w : Word) : Sent d (e.beforeWritten k a w) := by
  unfold Dev.beforeWritten
  split <;> exact h

theorem Sent.vaultWrite (k : RegKind) (a : Nat) (w : Word) : Sent d (e.vaultWrite k a w) := by
  unfold Dev.vaultWrite
  split
  · exact h
  · exact (h.configError k _ w).setReg _ _

theorem Sent.mbxGo : Sent d e.mbxGo := by
  unfold Dev.mbxGo
  split
  · exact h.hifFlag _
  · exact h

theorem Sent.mbxAck (seq : Nat) : Sent d (e.mbxAck seq) := by
  unfold Dev.mbxAck
  split
  · simp only
    split
    · exact h
    · refine Sent.free1 (Sent.mbxShow ?_ _ _) _ _
      exact h
  · exact h.hifFlag _

theorem Sent.wroteHif (a : Nat) (old w : Word) (n : Nat) : Sent d (e.wroteHif a old w n) := by
  unfold Dev.wroteHif
  split
  · exact h.onlyIf _ _ (fun t ht => ht.msix 64)
  · split
    · exact h.onlyIf _ _ (fun t ht => ht.msix 64)
    · split
      · exact h.onlyIf _ _ (fun t ht => ht.mbxGo)
      · split
        · exact h.mbxAck _
        · split
          · exact h.onlyIf _ _ (fun t ht => ht)
          · split
            · exact h
            · split
              · split <;> exact h
              · exact h

end

end Sys2Proof.Machine
end

section
/-! PROOFS. What has been sent stays sent: a register write over its whole map (R6–R10). -/

namespace Sys2Proof.Machine

/-! ### The converters, the injections and the calibration leave the messages alone -/

theorem Dev.calAbandon_out (s : Dev) : s.calAbandon.out = s.out := by
  have hovr : ∀ c, (onlyIf c (·.ovrFlag (s.get Reg.ADC_CALCTL_CH)) s).out = s.out := fun c => onlyIf_out c _ s rfl
  unfold Dev.calAbandon
  simp only
  split
  · rfl
  · split
    · exact (Dev.slotStarts_out _ _ _).trans (hovr _)
    · exact hovr _

theorem Dev.calCh_out (s : Dev) (c : Nat) : (s.calCh c).out = s.out := by
  unfold Dev.calCh
  simp only
  split
  · rfl
  · exact s.calAbandon_out

theorem Dev.calCompute_out (s : Dev) : s.calCompute.out = s.out := by
  have hif : ∀ (c : Prop) [Decidable c] (t u : Dev), t.out = s.out → u.out = s.out → (if c then t else u).out = s.out := fun c _ t u ht hu => by
    split
    · exact ht
    · exact hu
  exact hif _ _ _ rfl rfl

theorem Dev.calStep_out (s : Dev) (n : Nat) : (s.calStep n).out = s.out := by
  unfold Dev.calStep
  split
  · rfl
  · split
    · rfl
    · split
      · exact s.calCompute_out
      · simp only
        split
        · exact Dev.calBegin_out _ _ _
        · rfl

theorem Dev.inject_out (s : Dev) (p : Nat) (soft : Bool) : (s.inject p soft).out = s.out := by
  unfold Dev.inject
  simp only
  split <;> rfl

theorem Dev.jsoft_out (s : Dev) (pairs : Nat) : (s.jsoft pairs).out = s.out := by
  refine forEach_out _ _ _ (fun p t => ?_)
  split
  · exact t.inject_out p true
  · rfl

theorem Dev.adcStop_out (s : Dev) : s.adcStop.out = s.out := by
  have hovr : ∀ c, (onlyIf c (·.ovrFlag (s.get Reg.ADC_CALCTL_CH)) s).out = s.out := fun c => onlyIf_out c _ s rfl
  exact hovr _

theorem Dev.cmpWritten_out (s : Dev) (i : Nat) (old : Word) : (s.cmpWritten i old).out = s.out := by
  unfold Dev.cmpWritten
  simp only
  split
  · split <;> rfl
  · rfl

theorem Dev.angWritten_out (s : Dev) (was : Bool) : (s.angWritten was).out = s.out := by
  unfold Dev.angWritten
  simp only
  split
  · rfl
  · split <;> rfl

theorem Dev.xReturn_out (s : Dev) : s.xReturn.out = s.out := by
  unfold Dev.xReturn
  split <;> rfl

theorem Dev.angRearm_out (s : Dev) : s.angRearm.out = s.out := by
  unfold Dev.angRearm
  split
  · exact Dev.xReturn_out _
  · rfl

theorem Dev.sppEnable_out (s : Dev) : s.sppEnable.out = s.out := by
  unfold Dev.sppEnable
  split
  · split <;> rfl
  · rfl

/-! ### The half-bridges -/

theorem Dev.hbCommitMask_out (s : Dev) (mask : Nat) : (s.hbCommitMask mask).out = s.out := by
  refine forEach_out _ _ _ (fun n t => ?_)
  unfold Dev.hbCommit
  split
  · rfl
  · simp only
    split <;> rfl

theorem Dev.hbXclrMask_out (s : Dev) (mask : Nat) : (s.hbXclrMask mask).out = s.out := by
  refine forEach_out _ _ _ (fun n t => ?_)
  split <;> rfl

theorem Dev.hbClear_out (s : Dev) (n : Nat) : (s.hbClear n).2.out = s.out := by
  unfold Dev.hbClear
  split
  · rfl
  · split <;> rfl

theorem Dev.hbClearMask_out (s : Dev) (mask : Nat) : (s.hbClearMask mask).2.out = s.out := by
  have hfold : ∀ (l : List Nat) (acc : Nat × Dev), (l.foldl (fun (acc : Nat × Dev) n =>
      (if (acc.2.hbClear n).1 then acc.1 + 2 ^ n else acc.1, (acc.2.hbClear n).2)) acc).2.out = acc.2.out := by
    intro l
    induction l with
    | nil => exact fun acc => rfl
    | cons n l ih => exact fun acc => (ih _).trans (acc.2.hbClear_out n)
  exact hfold _ _

theorem Dev.hbTransfer_aside (s : Dev) (n clk : Nat) : (s.hbTransfer n clk).aside = s.aside := by
  have hsplit : ∀ (c : Bool) (t : Dev), (onlyIf c (·.raise Reg.MOD_FLAG_SPLITUPD_F) t).aside = t.aside := fun c t => onlyIf_aside c _ t (t.raise_aside _)
  unfold Dev.hbTransfer
  simp only
  split
  · simp only [hsplit, Dev.set_aside, Dev.setCh_aside]
  · split
    · rfl
    · simp only [Dev.set_aside, Dev.setB_aside, Dev.setCh_aside]

theorem Dev.hbDisable_out (s : Dev) (n : Nat) : (s.hbDisable n).out = s.out := out_of_aside (s.hbOut_aside n _ _)

theorem Dev.wroteHb_out (s : Dev) (n r : Nat) (old : Word) : (s.wroteHb n r old).out = s.out := by
  unfold Dev.wroteHb
  simp only
  split
  · split
    · exact (onlyIf_out _ _ _ (out_of_aside (Dev.hbTransfer_aside _ _ _))).trans (s.hbDisable_out n)
    · exact onlyIf_out _ _ _ (out_of_aside (s.hbSafe_aside n _))
  · split
    · exact out_of_aside (s.hbShowQ_aside n)
    · repeat' split
      all_goals rfl

/-! ### Latches and snapshots -/

theorem Dev.latWrite_out (s : Dev) (a : Nat) (w : Word) : (s.latWrite a w).out = s.out := by
  refine forEach_out _ _ _ (fun c t => ?_)
  split
  · rfl
  · refine forEach_out _ _ _ (fun k u => ?_)
    split
    · rfl
    · split <;> rfl

theorem Dev.snapTrigger_out (s : Dev) (src stamp detail : Nat) : (s.snapTrigger src stamp detail).2.out = s.out :=
  out_of_aside (s.snapTrigger_aside src stamp detail)

theorem Dev.unnoted_out (s : Dev) (f : Fld) (n : Nat) : (s.unnoted f n).out = s.out := by
  unfold Dev.unnoted
  split <;> rfl

theorem Dev.retrigger_out (s : Dev) : s.retrigger.out = s.out := by
  unfold Dev.retrigger
  simp only
  split
  · rfl
  · exact (forEach_out _ _ _ (fun x t => t.snapTrigger_out _ _ _)).trans ((Dev.unnoted_out _ _ _).trans (Dev.unnoted_out _ _ _))

theorem Dev.relog_aside (s : Dev) (seq k mask : Nat) : (s.relog seq k mask).aside = s.aside := rfl
theorem Dev.askedBuf_aside (s : Dev) (k : Nat) : (s.askedBuf k).aside = s.aside := rfl

theorem Dev.snapMoved_aside (s : Dev) : s.snapMoved.aside = s.aside := by
  unfold Dev.snapMoved
  split
  · rfl
  · split
    · rfl
    · rw [Dev.relog_aside, Dev.withSnp_aside, Dev.askedBuf_aside, Dev.set_aside, Dev.set_aside]

theorem Dev.releaseBuf_out (k : Nat) (s : Dev) : (Dev.releaseBuf k s).out = s.out := by
  simp only [Dev.releaseBuf]
  exact out_of_aside (s.set_aside _ _)

theorem Dev.snapRelease_out (s : Dev) (mask : Nat) : (s.snapRelease mask).out = s.out := by
  rw [Dev.snapRelease_eq]
  split
  · rfl
  · exact (Dev.retrigger_out _).trans ((out_of_aside (Dev.snapMoved_aside _)).trans (forEach_out _ _ _ Dev.releaseBuf_out))

theorem Dev.firstNote_out (s : Dev) (b : Bool) (low stamp : Nat) : (s.firstNote b low stamp).out = s.out := by
  have hdetail : ∀ t : Dev, (t.snapDetail low).out = t.out := fun t => by
    unfold Dev.snapDetail
    split
    · rfl
    · split
      · split <;> rfl
      · rfl
  unfold Dev.firstNote
  split
  · rfl
  · split
    · exact hdetail _
    · rfl

section
variable {d e : Dev} (h : Sent d e)
include h

/-! ### Rings -/

theorem Sent.setRing (r : Nat) (x : RingSt) : Sent d (e.setRing r x) := h

theorem Sent.discStart (r : Nat) : Sent d (e.discStart r) := by
  unfold Dev.discStart
  split
  · exact h
  · refine Sent.send ?_ _
    exact h

theorem Sent.sendRecord (r dest kind gen : Nat) (ws : List Word) : Sent d (e.sendRecord r dest kind gen ws) := h.send _

theorem Sent.unloopBoth (r : Nat) : Sent d (e.unloopBoth r) := by
  unfold Dev.unloopBoth
  simp only
  refine Sent.setRing ?_ r _
  split
  · refine Sent.sendRecord ?_ _ _ _ _ _
    split
    · exact h.sendRecord _ _ _ _ _
    · exact h
  · split
    · exact h.sendRecord _ _ _ _ _
    · exact h

theorem Sent.thkHeal (r : Nat) : Sent d (e.thkHeal r) :=
  Sent.ite (Sent.ite (h.setRing r _) (h.raise _)) (Sent.ite (h.unloopBoth r) (h.raise _))

theorem Sent.thkRediscover (r : Nat) : Sent d (e.thkRediscover r) := Sent.ite (h.discStart r) (h.raise _)

/-! ### A trip (R288–R296) -/

theorem Sent.tripEvent : Sent d e.tripEvent := by
  unfold Dev.tripEvent
  split
  · exact h
  · exact h.event _

theorem Sent.tripLog (stamp code : Nat) (first : Bool) : Sent d (e.tripLog stamp code first) := by
  unfold Dev.tripLog
  split
  · exact h
  · exact h.logAt _ _ _ _ _ _

theorem Sent.thkAll (block : Nat) : Sent d (e.thkAll block) :=
  h.forEach _ _ (fun _ _ ht => Sent.ite ((ht.send _).send _) ht)

theorem Sent.latchOne (stamp code : Nat) (first stop : Bool) : Sent d (e.latchOne stamp code first stop) :=
  ((h.raise _).thkAll _).tripLog _ _ _

theorem Sent.enter (new cause : Nat) : Sent d (e.enter new cause) := by
  unfold Dev.enter
  simp only
  split
  · exact h
  · exact ((h.set _ _).event _).logNow _ _ _

theorem Sent.tripMove (low : Nat) : Sent d (e.tripMove low) := by
  unfold Dev.tripMove
  split
  · exact h
  · exact h.enter stTRIPPED low

theorem Sent.tripEnter (low : Nat) : Sent d (e.tripEnter low) := by
  unfold Dev.tripEnter
  split
  · split
    · split <;> exact h
    · exact h.tripMove low
  · exact h.tripMove low

theorem Sent.count (f : Fld) (n : Nat) : Sent d (e.count f n) := h

theorem Sent.hbTripAll (stamp : Nat) : Sent d (e.hbTripAll stamp) := h.aside (e.hbTripAll_aside stamp)
theorem Sent.withPrt (p : PrtSt) : Sent d { e with prt := p } := h

theorem Sent.latch (stamp : Nat) (codes : List Nat) (stop : Bool) : Sent d (e.latch stamp codes stop) := by
  unfold Dev.latch
  simp only
  split
  · exact h
  next low _ _ =>
    refine Sent.onlyIf (Sent.onlyIf ?_ _ _ (fun t ht => ht.same (t.snapTrigger_out _ _ _))) _ _ (fun t ht => ht.tripEnter low)
    have hfirst := (h.raise Reg.PRT_FLAG_TRIP_F).same (Dev.firstNote_out _ (!e.anyLatch) low stamp)
    have hempty := hfirst.onlyIf (!e.anyLatch) _ (fun t ht => ((ht.count Reg.PRT_CNT_TRIPS 1).raise Reg.PRT_STAT_OUT).tripEvent)
    have hall := fun l => hempty.forEach l _ (fun c t ht => ht.latchOne stamp c (!e.anyLatch && c == low) stop)
    exact ((hall _).hbTripAll stamp).withPrt _

theorem Sent.tripIn (k : Nat) (level : Bool) (tdc : Nat) : Sent d (e.tripIn k level tdc) := by
  have hpath : ∀ t : Dev, Sent d t → Sent d (match t.prt.path with
      | some (src, p, t0, l) =>
        if level && l.getD k none == none then { t with prt := { t.prt with path := some (src, p, t0, l.set k (some (t.stamp tdc - t0))) } } else t
      | none => t) := fun t ht => by
    split
    · exact Sent.ite (ht.withPrt _) ht
    · exact ht
  have hpin : ∀ p, Sent d { e with prt := p } := fun p => h.withPrt p
  unfold Dev.tripIn
  simp only
  refine Sent.ite (hpin _) (Sent.ite (Sent.latch ?_ _ _ _) ?_)
  · exact (hpath _ ((hpin _).set _ _)).set _ _
  · exact hpath _ ((hpin _).set _ _)

/-! ### What a write sets off -/

theorem Sent.wroteFrame (a : Nat) (old w : Word) : Sent d (e.wroteFrame a old w) := by
  have hband : ∀ t, Sent d t → Sent d t.bandSearch := fun t ht => ht.onlyIf _ _ (fun u hu => hu)
  have hrate : ∀ t, Sent d t → Sent d t.rateChanged := fun t ht => Sent.ite ht ht
  unfold Dev.wroteFrame
  simp only
  refine Sent.ite (h.onlyIf _ _ hband) (Sent.ite ((h.onlyIf _ _ (fun t ht => ht.hifFlag _)).onlyIf _ _ hrate)
    (Sent.ite (h.onlyIf _ _ (fun t ht => ht)) (Sent.ite (h.onlyIf _ _ (fun t ht => ht)) h)))

theorem Sent.wroteFront (a : Nat) (old w : Word) : Sent d (e.wroteFront a old w) := by
  have hcal : Sent d (((e.setReg a old).calCh (bits w 5 0)).calStep (bits w 9 8)) :=
    ((h.setReg a old).same (Dev.calCh_out _ _)).same (Dev.calStep_out _ _)
  unfold Dev.wroteFront
  simp only
  refine Sent.ite (Sent.ite (h.same e.adcStop_out) (Sent.ite h h)) (Sent.ite hcal (Sent.ite (h.same (e.jsoft_out _)) (Sent.ite (h.same (e.cmpWritten_out _ _))
    (Sent.ite (h.same (e.angWritten_out _)) (Sent.ite (h.onlyIf _ _ (fun t ht => ht.same t.angRearm_out))
    (Sent.ite (h.onlyIf _ _ (fun t ht => ht.same t.sppEnable_out)) h))))))

theorem Sent.wroteMod (a : Nat) (old w : Word) : Sent d (e.wroteMod a old w) := by
  have hclear : ∀ m n, Sent d ((e.hbClearMask m).2.hbXclrMask n) := fun m n => (h.same (e.hbClearMask_out m)).same (Dev.hbXclrMask_out _ n)
  unfold Dev.wroteMod
  exact Sent.ite (h.same (e.hbCommitMask_out _)) (Sent.ite (hclear _ _) (Sent.ite (h.same (e.wroteHb_out _ _ _))
    (Sent.ite (h.onlyIf _ _ (fun t ht => ht.discStart _)) (Sent.ite (Sent.ite (h.thkHeal _) (Sent.ite (h.thkRediscover _) h)) h))))

theorem Sent.wroteSafe (a : Nat) (old w : Word) : Sent d (e.wroteSafe a old w) := by
  have hloops := h.forEach [0, 1] (fun k t => Machine.onlyIf (!bit old k && t.loopOn k) (fun u => u.tripIn k (u.prt.pinIn / 2 ^ k % 2 == 1) 0) t)
    (fun k t ht => ht.onlyIf _ _ (fun u hu => hu.tripIn k _ 0))
  unfold Dev.wroteSafe
  exact Sent.ite ((h.setReg a old).same (Dev.latWrite_out _ _ _)) (Sent.ite hloops (Sent.ite (h.onlyIf _ _ (fun t ht => ht))
    (Sent.ite (h.same (e.snapRelease_out _)) h)))

theorem Sent.wrote (a : Nat) (old w : Word) (n : Nat) : Sent d (e.wrote a old w n) :=
  Sent.ite (h.wroteHif a old w n) (Sent.ite (h.wroteFrame a old w) (Sent.ite (h.wroteFront a old w)
    (Sent.ite (h.wroteMod a old w) (h.wroteSafe a old w))))

/-- A register write takes nothing back of what has been sent. -/
theorem Sent.writeReg (a : Nat) (w : Word) : Sent d (e.writeReg a w) := by
  unfold Dev.writeReg
  split
  · exact Sent.ite (h.sqtBell _ _) (Sent.ite (h.cqhBell _ _) h)
  · split
    · exact h
    next k _ => exact Sent.ite (h.aqWrite w) (Sent.ite (h.vaultWrite k a w) ((((h.configError k _ w).beforeWritten k a w).setReg a _).wrote a _ _ _))

end

end Sys2Proof.Machine
end

section
/-! PROOFS. O41, the frames of the SPI slave (R342–R344) and the whole of the statement. -/

namespace Sys2Proof.Machine

/-! ### A write frame -/

/-- Without the strap, or with the direction of a read, a write frame is none. -/
theorem Dev.spiWrite_none (s : Dev) {f : List Byte} (h : s.spiOn = false ∨ 128 ≤ byteAt f 0) : s.spiWrite f = s := by
  unfold Dev.spiWrite
  rcases h with h | h <;> simp [h]

theorem write_spiNone {s : State} (hs : s.live) (f : List Byte) (h : s.dev.spiOn = false ∨ 128 ≤ byteAt f 0) : Answers (.spiWriteFrame f) s s.start := by
  have hans := answers_of_onLive (i := .spiWriteFrame f) (f := fun d => d.spiWrite f) hs rfl
  rwa [s.start.spiWrite_none h] at hans

theorem Dev.spiWrite_frame (s : Dev) {f : List Byte} {n err : Nat} (hon : s.spiOn = true) (hdir : byteAt f 0 < 128) (hn : n = (f.length - 5) / 4)
    (herr : err = spiErr f n (f.length != 5 + 4 * n || n == 0 || decide (256 < n)) (crc8 (f.take (f.length - 1)) != byteAt f (f.length - 1))) :
    s.spiWrite f = (if err = 0 then (s.send (.miso [s.spiStatus])).spiPuts f n else s.send (.miso [s.spiStatus])).spiDone err := by
  have hgo : (!s.spiOn || decide (128 ≤ byteAt f 0)) = false := by simp [hon, hdir]
  subst herr hn
  rw [Dev.spiWrite, hgo]
  rfl

theorem Sent.spiPuts {d e : Dev} (h : Sent d e) (f : List Byte) (n : Nat) : Sent d (e.spiPuts f n) := by
  refine h.forEach _ _ (fun i t ht => ?_)
  unfold Dev.spiPut
  split
  · exact ht.writeReg _ _
  · exact ht
  · exact ht

theorem mem_send_out (s : Dev) (m : OutMsg) : m ∈ (s.send m).out := List.mem_append_right _ (List.mem_singleton.mpr rfl)

/-- The status of the slave goes out in every frame. -/
theorem Dev.spiWrite_status (s : Dev) (f : List Byte) (n err : Nat) (m : OutMsg) :
    m ∈ ((if err = 0 then (s.send m).spiPuts f n else s.send m).spiDone err).out :=
  (Sent.ite ((Sent.refl _).spiPuts f n) (Sent.refl _)).spiDone err m (mem_send_out s m)

/-- What a window shows after the bytes of a frame went into it. -/
theorem window_written (win : List (Nat × Byte)) (a n : Nat) (f : List Byte) (h : 4 + 4 * n ≤ f.length) :
    readBytes (writeBytes win a ((f.drop 4).take (4 * n))) a (4 * n) = (f.drop 4).take (4 * n) ∧
    ∀ k, (k < a ∨ a + 4 * n ≤ k) → sget (fun _ => 0) (writeBytes win a ((f.drop 4).take (4 * n))) k = sget (fun _ => 0) win k := by
  have hlen : ((f.drop 4).take (4 * n)).length = 4 * n := by rw [List.length_take, List.length_drop]; omega
  have hread := readBytes_writeBytes win a ((f.drop 4).take (4 * n))
  rw [hlen] at hread
  exact ⟨hread, fun k hk => sget_writeBytes_ne win a _ k (by rw [hlen]; exact hk)⟩

/-- The windows after a write frame without errors: `e` is the one it did not name. -/
theorem Dev.spiPuts_windows (s : Dev) {f : List Byte} {n : Nat} (hf : f.length = 5 + 4 * n) {d : Dev} (hd : d = (s.spiPuts f n).spiDone 0)
    {b c e : List (Nat × Byte)} (h : (spiSpace f, b, c, e) ∈ [(1, s.host.ringWin, d.host.ringWin, d.host.bulkWin),
      (2, s.host.bulkWin, d.host.bulkWin, d.host.ringWin)]) :
    d.regs = s.regs ∧ e = (if spiSpace f = 1 then s.host.bulkWin else s.host.ringWin) ∧ readBytes c (spiAddr f) (4 * n) = (f.drop 4).take (4 * n) ∧
      ∀ a, (a < spiAddr f ∨ spiAddr f + 4 * n ≤ a) → sget (fun _ => 0) c a = sget (fun _ => 0) b a := by
  have hn : 4 + 4 * n ≤ f.length := by omega
  simp only [List.mem_cons, Prod.mk.injEq, List.not_mem_nil, or_false] at h
  rcases h with ⟨hsp, rfl, rfl, rfl⟩ | ⟨hsp, rfl, rfl, rfl⟩
  · rw [hd, s.spiPuts_ring f n hsp hn, Dev.spiDone_zero, hsp, if_pos rfl]
    exact ⟨rfl, rfl, window_written _ _ _ _ hn⟩
  · rw [hd, s.spiPuts_bulk f n hsp hn, Dev.spiDone_zero, hsp, if_neg (by decide)]
    exact ⟨rfl, rfl, window_written _ _ _ _ hn⟩

theorem write_spiFrame {s : State} (hs : s.live) (f : List Byte) (n err : Nat) (hon : s.dev.spiOn = true) (hdir : byteAt f 0 < 128)
    (hn : n = (f.length - 5) / 4)
    (herr : err = spiErr f n (f.length != 5 + 4 * n || n == 0 || decide (256 < n)) (crc8 (f.take (f.length - 1)) != byteAt f (f.length - 1))) :
    ∃ d, Answers (.spiWriteFrame f) s d ∧ OutMsg.miso [s.dev.spiStatus] ∈ d.out ∧ d.host.spiPrev = err ∧
      (err ≠ 0 → RegsBut s.dev d [Reg.HIF_SPIERR, Reg.HIF_FLAG, Reg.HIF_EVT] ∧ d.isOn Reg.HIF_FLAG_SPIERR_F = true ∧
        d.host.ringWin = s.dev.host.ringWin ∧ d.host.bulkWin = s.dev.host.bulkWin) ∧
      (err = 0 → spiSpace f = 0 → d.regs = (forEach (List.range n) (fun i t => t.writeReg (spiAddr f + 4 * i) (wordAt f (4 + 4 * i)))
        (s.start.send (.miso [s.dev.spiStatus]))).regs) ∧
      (err = 0 → ∀ b c : List (Nat × Byte), ∀ e : List (Nat × Byte), (spiSpace f, b, c, e) ∈ [(1, s.dev.host.ringWin, d.host.ringWin, d.host.bulkWin),
          (2, s.dev.host.bulkWin, d.host.bulkWin, d.host.ringWin)] → d.regs = s.dev.regs ∧
        e = (if spiSpace f = 1 then s.dev.host.bulkWin else s.dev.host.ringWin) ∧ readBytes c (spiAddr f) (4 * n) = (f.drop 4).take (4 * n) ∧
        ∀ a, (a < spiAddr f ∨ spiAddr f + 4 * n ≤ a) → sget (fun _ => 0) c a = sget (fun _ => 0) b a) := by
  have hans := answers_of_onLive (i := .spiWriteFrame f) (f := fun d => d.spiWrite f) hs rfl
  have hframe := s.start.spiWrite_frame (f := f) hon hdir hn herr
  have hstatus : s.start.spiStatus = s.dev.spiStatus := rfl
  rw [hstatus] at hframe
  rw [hframe] at hans
  refine ⟨_, hans, s.start.spiWrite_status f n err _, rfl, fun hne => ?_, fun h0 hsp => ?_, fun h0 b c e hmem => ?_⟩
  · rw [if_neg hne]
    exact Dev.spiDone_spec (s.start.send (.miso [s.dev.spiStatus])) hne
  · subst h0
    rw [if_pos rfl, Dev.spiDone_zero, Dev.spiPuts_regs _ f n hsp]
  · subst h0
    have hlen : f.length = 5 + 4 * n := spiErr_zero_length herr.symm
    rw [if_pos rfl] at hmem ⊢
    exact Dev.spiPuts_windows (s.start.send (.miso [s.dev.spiStatus])) hlen rfl hmem

/-! ### A read frame -/

/-- Without the strap, or with the direction of a write, a read frame is none. -/
theorem Dev.spiRead_none (s : Dev) {f : List Byte} (n : Nat) (h : s.spiOn = false ∨ byteAt f 0 < 128) : s.spiRead f n = s := by
  unfold Dev.spiRead
  rcases h with h | h <;> simp [h]

theorem read_spiNone {s : State} (hs : s.live) (f : List Byte) (n : Nat) (h : s.dev.spiOn = false ∨ byteAt f 0 < 128) :
    Answers (.spiReadFrame f n) s s.start := by
  have hans := answers_of_onLive (i := .spiReadFrame f n) (f := fun d => d.spiRead f n) hs rfl
  rwa [s.start.spiRead_none n h] at hans

/-- A read frame sends its status, its words or zeros, and their CRC, inverted where the frame has errors. -/
theorem Dev.spiRead_frame (s : Dev) {f : List Byte} {clocked n err : Nat} (hon : s.spiOn = true) (hdir : 128 ≤ byteAt f 0) (hn : n = byteAt f 4 + 1)
    (herr : err = spiErr f n (decide (clocked ≠ 6 + 4 * n)) false) {r : List Byte × Dev}
    (hr : r = if err = 0 then spiWords (spiSpace f) (spiAddr f) n s else (zeros (4 * n), s)) : s.spiRead f clocked =
    (r.2.send (.miso (s.spiStatus :: r.1 ++ [BitVec.ofNat 8 (if err = 0 then crc8 r.1 else 255 - crc8 r.1)]))).spiDone err := by
  have hgo : (!s.spiOn || decide (byteAt f 0 < 128)) = false := by simp [hon, hdir]
  subst hr herr hn
  rw [Dev.spiRead, hgo]
  rfl

theorem Dev.spiDone_out_mem (s : Dev) (m : OutMsg) (err : Nat) : m ∈ ((s.send m).spiDone err).out :=
  (Sent.refl (s.send m)).spiDone err m (mem_send_out s m)

theorem read_spiFrame {s : State} (hs : s.live) (f : List Byte) (clocked n err : Nat) (r : List Byte × Dev) (hon : s.dev.spiOn = true)
    (hdir : 128 ≤ byteAt f 0) (hn : n = byteAt f 4 + 1) (herr : err = spiErr f n (decide (clocked ≠ 6 + 4 * n)) false)
    (hr : r = spiWords (spiSpace f) (spiAddr f) n s.start) : ∃ d, Answers (.spiReadFrame f clocked) s d ∧ d.host.spiPrev = err ∧
      (err = 0 → d.regs = r.2.regs ∧ OutMsg.miso (s.dev.spiStatus :: r.1 ++ [BitVec.ofNat 8 (crc8 r.1)]) ∈ d.out) ∧
      (err ≠ 0 → RegsBut s.dev d [Reg.HIF_SPIERR, Reg.HIF_FLAG, Reg.HIF_EVT] ∧ d.isOn Reg.HIF_FLAG_SPIERR_F = true ∧
        OutMsg.miso (s.dev.spiStatus :: zeros (4 * n) ++ [BitVec.ofNat 8 (255 - crc8 (zeros (4 * n)))]) ∈ d.out) := by
  have hans := answers_of_onLive (i := .spiReadFrame f clocked) (f := fun d => d.spiRead f clocked) hs rfl
  have hframe := s.start.spiRead_frame (clocked := clocked) hon hdir hn herr rfl
  have hstatus : s.start.spiStatus = s.dev.spiStatus := rfl
  rw [hstatus, ← hr] at hframe
  rw [hframe] at hans
  refine ⟨_, hans, rfl, fun h0 => ?_, fun hne => ?_⟩
  · subst h0
    simp only [if_true]
    exact ⟨by rw [Dev.spiDone_zero]; rfl, Dev.spiDone_out_mem _ _ 0⟩
  · simp only [if_neg hne]
    obtain ⟨hregs, hflag, _, _⟩ := Dev.spiDone_spec (s.start.send
      (.miso (s.dev.spiStatus :: zeros (4 * n) ++ [BitVec.ofNat 8 (255 - crc8 (zeros (4 * n)))]))) hne
    exact ⟨hregs, hflag, Dev.spiDone_out_mem _ _ err⟩

/-! ### The statement -/

/-- Settles O41, clause by clause: reads and their latches, rearms, releases, and the frames of the SPI slave. -/
theorem registerAccesses : Obligations.RegisterAccesses := by
  unfold Obligations.RegisterAccesses
  refine fun s hs => ⟨?_, ?_, ?_, ?_, ?_, ?_, ?_, ?_, ?_, ?_, ?_, ?_, ?_, ?_⟩
  · exact access_abort hs
  · exact read_plain hs
  · exact read_mbxStat s
  · exact read_vault hs
  · exact read_vltCnt hs
  · exact read_bar2 hs
  · exact write_poolRearm hs
  · exact write_frmPeakRearm hs
  · exact write_pwrPeakRearm hs
  · exact write_snpRel hs
  · exact write_spiNone hs
  · exact read_spiNone hs
  · exact write_spiFrame hs
  · exact read_spiFrame hs

end Sys2Proof.Machine
end

section
/-! PROOFS. The buffer pool (R23–R31): what each of its operations makes of the free counts, of its own user, and of the allocator's state. -/

namespace Sys2Proof.Machine

/-! ### The counts of a holding (R23, R24) -/

theorem PoolUser.resUsed_le (u : Nat) (p : PoolUser) : p.resUsed u ≤ resSize u := Nat.min_le_left _ _

theorem filter_take_drop {α : Type} (f : α → Bool) (l : List α) (n : Nat) :
    ((l.take n).filter f).length + ((l.drop n).filter f).length = (l.filter f).length := by
  rw [← List.length_append, ← List.filter_append, List.take_append_drop]

theorem filter_id_add_not (l : List Bool) : (l.filter id).length + (l.filter not).length = l.length := by
  induction l with
  | nil => rfl
  | cons b t ih => cases b <;> simp <;> omega

/-! ### A holding replaced (R31) -/

section
variable (s : Dev) (u : Nat) (p : PoolUser)

theorem Dev.poolPut_get_apart (f : Fld) (h : f.off ∉ poolRegs) : (s.poolPut u p).get f = s.get f :=
  Dev.get_of_reg (s.poolPut_regs u p _ h)

/-- The free counts follow the holding, within the width of their fields. -/
theorem Dev.poolPut_free : (s.poolPut u p).get Reg.HIF_POOL_FREE_RES_FREE =
      (s.get Reg.HIF_POOL_FREE_RES_FREE + (s.user u).resUsed u - p.resUsed u) % 2 ^ 12 ∧
    (s.poolPut u p).shFree = (s.shFree + (s.user u).shUsed - p.shUsed) % 2 ^ 13 := by
  have keep : (s.poolPut u p).reg Reg.HIF_POOL_FREE = (((s.setUser u p).set Reg.HIF_POOL_FREE_RES_FREE
      (s.get Reg.HIF_POOL_FREE_RES_FREE + (s.user u).resUsed u - p.resUsed u)).set Reg.HIF_POOL_FREE_SH_FREE
      (s.shFree + (s.user u).shUsed - p.shUsed)).reg Reg.HIF_POOL_FREE := by
    unfold Dev.poolPut
    exact RegsBut.onlyIf (l := [Reg.HIF_POOL_LOW, Reg.HIF_POOL_STAT]) (RegsBut.onlyIf (RegsBut.refl _ _) _ _
      (fun t h => h.set _ _ (by decide))) _ _ (fun t h => h.raise _ (by decide)) _ (by decide)
  constructor
  · rw [Dev.get_of_reg (f := Reg.HIF_POOL_FREE_RES_FREE) keep, Dev.get_set_apart _ _ _ _ (by decide) (by decide) (by decide)]
    exact Dev.get_set_same _ _ _ (by decide) (by decide)
  · rw [Dev.shFree, Dev.get_of_reg (f := Reg.HIF_POOL_FREE_SH_FREE) keep]
    exact Dev.get_set_same _ _ _ (by decide) (by decide)

theorem Dev.resFree_lt : s.get Reg.HIF_POOL_FREE_RES_FREE < 2 ^ 12 := bits_lt _ _ _
theorem Dev.shFree_lt : s.shFree < 2 ^ 13 := bits_lt _ _ _

/-- A holding replaced by one that asks for no more shared granules than there are: SH_FREE follows exactly. -/
theorem Dev.poolPut_shFree (h : s.shFree + (s.user u).shUsed - p.shUsed < 2 ^ 13) :
    (s.poolPut u p).shFree = s.shFree + (s.user u).shUsed - p.shUsed := by
  rw [(s.poolPut_free u p).2, Nat.mod_eq_of_lt h]

/-- A holding replaced touches registers, the note of the clock’s events, and the users. -/
theorem Dev.poolPut_frame : s.poolPut u p = { s with
    regs := (s.poolPut u p).regs, evt := (s.poolPut u p).evt, pool := { s.pool with users := sset (fun _ => {}) s.pool.users u p } } := by
  unfold Dev.poolPut onlyIf
  simp only
  split <;> split <;> rfl

theorem Dev.poolPut_user_same : (s.poolPut u p).user u = p := by rw [Dev.poolPut_user, if_pos rfl]
theorem Dev.poolPut_user_ne {v : Nat} (h : v ≠ u) : (s.poolPut u p).user v = s.user v := by rw [Dev.poolPut_user, if_neg h]

/-- It leaves the round robin and the waiting frees. -/
theorem Dev.poolPut_pool : (s.poolPut u p).pool = { s.pool with users := sset (fun _ => {}) s.pool.users u p } :=
  (congrArg Dev.pool (s.poolPut_frame u p)).trans rfl

end

/-! ### An allocation (R24, R29) -/

/-- What granules taken make of their user’s holding. -/
def PoolUser.more (p : PoolUser) (h : Hold) : PoolUser := { p with res := p.res + h.res, sh := p.sh + h.sh }

/-- Reserved granules taken within what is free of the reservation. -/
theorem PoolUser.more_resUsed {u : Nat} {p : PoolUser} {h : Hold} (hr : h.res ≤ resSize u - p.resUsed u) :
    (p.more h).resUsed u = p.resUsed u + h.res := by
  unfold PoolUser.more PoolUser.resUsed at *
  simp only
  omega

theorem PoolUser.more_shUsed (p : PoolUser) (h : Hold) : (p.more h).shUsed = p.shUsed + h.sh := by
  unfold PoolUser.more PoolUser.shUsed
  simp only
  omega

theorem Dev.allocN_none_iff (d : Dev) (u n : Nat) : d.allocN u n = none ↔ d.couldAlloc u < n := by
  unfold Dev.allocN
  split <;> simp_all

/-- What an allocation takes: of the reservation first, then shared granules within the cap and the shared part. -/
theorem Dev.allocN_spec {d e : Dev} {u n : Nat} {h : Hold} (ha : d.allocN u n = some (h, e)) :
    h.user = u ∧ h.res = min n (resSize u - (d.user u).resUsed u) ∧ h.res + h.sh = n ∧ h.sh ≤ min (d.shCap u - (d.user u).shUsed) d.shFree ∧
    e = d.poolPut u ((d.user u).more h) := by
  unfold Dev.allocN at ha
  split at ha
  · cases ha
  · next hc =>
    cases ha
    simp only [Dev.couldAlloc] at hc
    exact ⟨rfl, rfl, by simp only; omega, by simp only; omega, rfl⟩

/-- What the allocation leaves: its user has the granules, and the free count of each part has gone down by what came from it. -/
theorem Dev.allocN_free {d e : Dev} {u n : Nat} {h : Hold} (ha : d.allocN u n = some (h, e)) :
    e.shFree = d.shFree - h.sh ∧ e.get Reg.HIF_POOL_FREE_RES_FREE = d.get Reg.HIF_POOL_FREE_RES_FREE - h.res ∧
    (h.sh ≠ 0 → (e.user u).resUsed u = resSize u ∧ (e.user u).shUsed ≤ d.shCap u) := by
  obtain ⟨-, hres, hsum, hsh, rfl⟩ := d.allocN_spec ha
  have hr : ((d.user u).more h).resUsed u = _ := PoolUser.more_resUsed (by omega)
  have hs := (d.user u).more_shUsed h
  have hle := (d.user u).resUsed_le u
  have hlt := d.resFree_lt
  have hslt := d.shFree_lt
  refine ⟨?_, ?_, fun h0 => ?_⟩
  · rw [Dev.poolPut_shFree _ _ _ (by omega), hs]
    omega
  · rw [(d.poolPut_free u _).1, hr, Nat.mod_eq_of_lt (by omega)]
    omega
  · rw [Dev.poolPut_user_same, hr, hs]
    omega

/-! ### A credit granted (R26) -/

/-- A holding with one more credit, backed by a free reserved granule. -/
def PoolUser.creditRes (p : PoolUser) : PoolUser := { p with fifo := p.fifo ++ [true], cred := p.cred + 1 }

/-- A holding with one more credit, backed by a shared granule, with `k` left that are committed. -/
def PoolUser.creditSh (p : PoolUser) (k : Nat) : PoolUser := { p with fifo := p.fifo ++ [false], cred := p.cred + 1, com := k }

theorem PoolUser.creditRes_shUsed (p : PoolUser) : p.creditRes.shUsed = p.shUsed := by
  simp [PoolUser.creditRes, PoolUser.shUsed, List.filter_append]

theorem PoolUser.creditSh_shUsed (p : PoolUser) (k : Nat) : (p.creditSh k).shUsed + p.com = p.shUsed + 1 + k := by
  simp [PoolUser.creditSh, PoolUser.shUsed, List.filter_append]
  omega

theorem PoolUser.creditSh_resUsed (u : Nat) (p : PoolUser) (k : Nat) : (p.creditSh k).resUsed u = p.resUsed u := by
  simp [PoolUser.creditSh, PoolUser.resUsed, List.filter_append]

section
variable {d : Dev} {u : Nat}

theorem Dev.mayCommit_iff : d.mayCommit u = true ↔
    (d.user u).cred = 0 ∧ (d.user u).com = 0 ∧ (d.user u).shUsed + 8 ≤ d.shCap u ∧ 8 ≤ d.shFree := by
  simp [Dev.mayCommit, and_assoc]

theorem Dev.grantOne_reserved (h : (d.user u).resUsed u < resSize u) :
    d.grantOne u = some (d.poolPut u (d.user u).creditRes) := by
  simp [Dev.grantOne, h, PoolUser.creditRes]

theorem Dev.grantOne_committed (h : resSize u ≤ (d.user u).resUsed u) (hc : 0 < (d.user u).com) :
    d.grantOne u = some (d.poolPut u ((d.user u).creditSh ((d.user u).com - 1))) := by
  simp [Dev.grantOne, Nat.not_lt.mpr h, hc, PoolUser.creditSh]

theorem Dev.grantOne_block (h : resSize u ≤ (d.user u).resUsed u) (hc : d.mayCommit u = true) :
    d.grantOne u = some (d.poolPut u ((d.user u).creditSh 7)) := by
  obtain ⟨-, h0, -, -⟩ := Dev.mayCommit_iff.mp hc
  simp [Dev.grantOne, Nat.not_lt.mpr h, h0, hc, PoolUser.creditSh]

theorem Dev.grantOne_none (h : resSize u ≤ (d.user u).resUsed u) (h0 : (d.user u).com = 0) (hc : d.mayCommit u = false) : d.grantOne u = none := by
  simp [Dev.grantOne, Nat.not_lt.mpr h, h0, hc]

/-- A credit granted is one of the three. -/
theorem Dev.grantOne_cases {t : Dev} (h : d.grantOne u = some t) :
    ((d.user u).resUsed u < resSize u ∧ t = d.poolPut u (d.user u).creditRes) ∨
    (0 < (d.user u).com ∧ t = d.poolPut u ((d.user u).creditSh ((d.user u).com - 1))) ∨
    (d.mayCommit u = true ∧ t = d.poolPut u ((d.user u).creditSh 7)) := by
  unfold Dev.grantOne at h
  simp only at h
  split at h
  · next hr => exact .inl ⟨hr, (Option.some.inj h).symm⟩
  · split at h
    · next hc => exact .inr (.inl ⟨hc, (Option.some.inj h).symm⟩)
    · split at h
      · next hm => exact .inr (.inr ⟨hm, (Option.some.inj h).symm⟩)
      · cases h

end

/-! ### A granule given back (R24, R26) -/

/-- What a granule given back leaves of its user’s holding, before committed granules go back. -/
def PoolUser.less (p : PoolUser) (h : Hold) : PoolUser := { p with res := p.res - h.res, sh := p.sh - h.sh }

theorem PoolUser.halfRule_half {u : Nat} {p : PoolUser} (hu : u < 36) (hh : resSize u ≤ 2 * (resSize u - p.resUsed u)) :
    p.halfRule u = { p with com := 0 } := if_pos ⟨hu, hh⟩

theorem PoolUser.halfRule_other {u : Nat} {p : PoolUser} (h : 36 ≤ u ∨ 2 * (resSize u - p.resUsed u) < resSize u) : p.halfRule u = p :=
  if_neg (by omega)

theorem PoolUser.halfRule_resUsed (u v : Nat) (p : PoolUser) : (p.halfRule u).resUsed v = p.resUsed v := by
  unfold PoolUser.halfRule
  split <;> rfl

theorem PoolUser.halfRule_shUsed_le (u : Nat) (p : PoolUser) : (p.halfRule u).shUsed ≤ p.shUsed := by
  unfold PoolUser.halfRule
  split
  · exact Nat.add_le_add_left (Nat.zero_le _) _
  · exact Nat.le_refl _

theorem PoolUser.less_shUsed_le (p : PoolUser) (h : Hold) : (p.less h).shUsed ≤ p.shUsed := by
  unfold PoolUser.shUsed PoolUser.less
  simp only
  omega

theorem PoolUser.less_resUsed_le (p : PoolUser) (h : Hold) (u : Nat) : (p.less h).resUsed u ≤ p.resUsed u := by
  unfold PoolUser.resUsed PoolUser.less
  simp only
  omega

theorem Dev.giveBack_eq (d : Dev) (h : Hold) : d.giveBack h = d.poolPut h.user (((d.user h.user).less h).halfRule h.user) := rfl

theorem Dev.giveBack_user_ne (d : Dev) (h : Hold) {v : Nat} (hv : v ≠ h.user) : (d.giveBack h).user v = d.user v :=
  d.poolPut_user_ne _ _ hv

theorem Dev.giveBack_frees (d : Dev) (h : Hold) : (d.giveBack h).pool.frees = d.pool.frees := by
  rw [Dev.giveBack_eq, Dev.poolPut_pool]

/-! ### The clock of the allocator (R28) -/

/-- The allocator’s counts belong to one core clock; nothing else changes with it. -/
theorem Dev.poolClk_frame (d : Dev) : d.poolClk = { d with pool := { d.pool with
    clk := d.poolClk.pool.clk, served := d.poolClk.pool.served, freed := d.poolClk.pool.freed } } := by
  unfold Dev.poolClk
  split <;> rfl

theorem Dev.poolClk_users (d : Dev) : d.poolClk.pool.users = d.pool.users := by rw [Dev.poolClk_frame]
theorem Dev.poolClk_frees (d : Dev) : d.poolClk.pool.frees = d.pool.frees := by rw [Dev.poolClk_frame]
theorem Dev.poolClk_regs (d : Dev) : d.poolClk.regs = d.regs := by rw [Dev.poolClk_frame]
theorem Dev.poolClk_user (d : Dev) (u : Nat) : d.poolClk.user u = d.user u := by rw [Dev.user, Dev.user, Dev.poolClk_users]

end Sys2Proof.Machine
end

section
/-! PROOFS. O43: the allocator’s frees and its round robin (R28), a command’s request (R29), the data of a link (R26, R27), and the statement. -/

namespace Sys2Proof.Machine

/-! ### Frees (R28) -/

theorem Dev.giveBackAll_frees (l : List Hold) (d : Dev) : (forEach l (fun h t => t.giveBack h) d).pool.frees = d.pool.frees :=
  forEach_keeps (fun t => t.pool.frees = d.pool.frees) l _ d rfl (fun h t ht => (t.giveBack_frees h).trans ht)

theorem Dev.giveBackAll_user (l : List Hold) (d : Dev) {u : Nat} (hu : ∀ h ∈ l, h.user ≠ u) :
    (forEach l (fun h t => t.giveBack h) d).user u = d.user u :=
  forEach_keeps_mem (fun t => t.user u = d.user u) l _ d rfl (fun h hm t ht => (t.giveBack_user_ne h (hu h hm).symm).trans ht)

theorem Dev.freeHold_none (d : Dev) {h : Hold} (h0 : h.res + h.sh = 0) : d.freeHold h = d.poolClk := by
  unfold Dev.freeHold
  simp only [h0, if_true]

theorem Dev.freeHold_now (d : Dev) {h : Hold} (h0 : h.res + h.sh ≠ 0) (he : d.poolClk.pool.frees = []) (hf : d.poolClk.pool.freed < 4) :
    d.freeHold h = ({ d.poolClk with pool := { d.poolClk.pool with freed := d.poolClk.pool.freed + 1 } } : Dev).giveBack h := by
  unfold Dev.freeHold
  simp only [h0, if_false, he, List.isEmpty_nil, hf, decide_true, Bool.and_self, if_true]

theorem Dev.freeHold_later (d : Dev) {h : Hold} (h0 : h.res + h.sh ≠ 0) (he : d.poolClk.pool.frees ≠ [] ∨ 4 ≤ d.poolClk.pool.freed) :
    d.freeHold h = { d.poolClk with pool := { d.poolClk.pool with frees := d.poolClk.pool.frees ++ [h] } } := by
  have hw : (d.poolClk.pool.frees.isEmpty && decide (d.poolClk.pool.freed < 4)) = false := by
    rcases he with he | he
    · simp [he]
    · simp [Nat.not_lt.mpr he]
  unfold Dev.freeHold
  simp only [h0, if_false, hw, Bool.false_eq_true]

/-! ### The order of the users -/

theorem mem_rrOrder (p : Nat) {u : Nat} (hu : u < 100) : u ∈ rrOrder p := by
  refine List.mem_map.mpr ⟨(u + 300 - (p + 1) % 100) % 100, by simp; omega, ?_⟩
  omega

theorem range_split {n k : Nat} (hk : k < n) : List.range n = List.range k ++ k :: (List.range (n - (k + 1))).map (k + 1 + ·) := by
  have h : n = k + 1 + (n - (k + 1)) := by omega
  conv_lhs => rw [h, List.range_add, List.range_succ]
  simp

/-- The users before the one of place `k`, that one, and those after it. -/
theorem rrOrder_split (p : Nat) {k : Nat} (hk : k < 100) : rrOrder p = (List.range k).map (fun i => (p + 1 + i) % 100) ++
    (p + 1 + k) % 100 :: ((List.range (100 - (k + 1))).map (k + 1 + ·)).map (fun i => (p + 1 + i) % 100) := by
  rw [rrOrder, range_split hk, List.map_append, List.map_cons]

/-! ### The requests that stand (R28) -/

/-- With no request of a block, the next user served is the first in the order whose request can have its granule. -/
theorem Dev.serveNext_standing (d : Dev) : d.serveNext (α := Unit) [] =
    ((rrOrder d.pool.ptr).filter d.standingUsers.contains).findSome? (fun u => (d.standing u).map (fun t => (none, t.servedOne u))) := by
  simp [Dev.serveNext]

theorem Dev.serveNext_first (d : Dev) {k u : Nat} (hk : k < 100) (hu : u = (d.pool.ptr + 1 + k) % 100)
    (hb : ∀ i v, i < k → v = (d.pool.ptr + 1 + i) % 100 → v ∈ d.standingUsers → d.standing v = none)
    {t : Dev} (hm : u ∈ d.standingUsers) (ht : d.standing u = some t) : d.serveNext (α := Unit) [] = some (none, t.servedOne u) := by
  have hbefore : (((List.range k).map (fun i => (d.pool.ptr + 1 + i) % 100)).filter d.standingUsers.contains).findSome?
      (fun u => (d.standing u).map (fun t => ((none : Option (Nat × Unit)), t.servedOne u))) = none := by
    refine List.findSome?_eq_none_iff.mpr fun v hv => ?_
    obtain ⟨hv, hc⟩ := List.mem_filter.mp hv
    obtain ⟨i, hi, rfl⟩ := List.mem_map.mp hv
    rw [hb i _ (List.mem_range.mp hi) rfl (by simpa using hc), Option.map_none]
  rw [Dev.serveNext_standing, rrOrder_split _ hk, ← hu, List.filter_append, List.findSome?_append, hbefore, List.filter_cons,
    if_pos (by simpa using hm)]
  simp [ht]

theorem Dev.serveNext_idle (d : Dev) (h : ∀ v ∈ d.standingUsers, d.standing v = none) : d.serveNext (α := Unit) [] = none := by
  rw [Dev.serveNext_standing]
  refine List.findSome?_eq_none_iff.mpr fun v hv => ?_
  rw [h v (by simpa using (List.mem_filter.mp hv).2), Option.map_none]

/-- The request that stands, when it is served, is a credit or a queue’s granule; either leaves the count of the clock. -/
theorem Dev.standing_served {d t : Dev} {u : Nat} (h : d.standing u = some t) : t.pool.served = d.pool.served := by
  unfold Dev.standing at h
  split at h
  · cases h
  · split at h
    · split at h
      · rcases Dev.grantOne_cases h with ⟨-, rfl⟩ | ⟨-, rfl⟩ | ⟨-, rfl⟩ <;> rw [Dev.poolPut_pool]
      · cases h
    · split at h
      · obtain ⟨x, hx, rfl⟩ := Option.map_eq_some_iff.mp h
        obtain ⟨-, -, -, -, he⟩ := d.allocN_spec hx
        rw [Dev.setGrant, Dev.setQueue_pool, he, Dev.poolPut_pool]
      · cases h

theorem Dev.serveNext_served {d : Dev} {x : Option (Nat × Unit) × Dev} (h : d.serveNext (α := Unit) [] = some x) :
    x.2.pool.served = d.pool.served + 1 := by
  rw [Dev.serveNext_standing] at h
  obtain ⟨u, -, hx⟩ := List.exists_of_findSome?_eq_some h
  obtain ⟨t, ht, rfl⟩ := Option.map_eq_some_iff.mp hx
  exact congrArg (· + 1) (Dev.standing_served ht)

theorem Dev.serve_served (n : Nat) (d : Dev) : (d.serve (α := Unit) [] n).2.pool.served ≤ d.pool.served + n := by
  induction n generalizing d with
  | zero => exact Nat.le_refl _
  | succ n ih =>
    rw [Dev.serve]
    split
    · exact Nat.le_add_right _ _
    next x t hx =>
      have h1 := Dev.serveNext_served hx
      have h2 := ih t
      simp only at h1
      simp only [List.filter_nil]
      omega

/-! ### A command’s request (R28, R29) -/

/-- Granules taken leave what says which requests stand. -/
theorem Dev.allocN_standingUsers {d e : Dev} {u n : Nat} {h : Hold} (ha : d.allocN u n = some (h, e)) (v : Nat) :
    (e.servedOne v).standingUsers = d.standingUsers := by
  obtain ⟨-, -, -, -, rfl⟩ := d.allocN_spec ha
  have hhost : ((d.poolPut u ((d.user u).more h)).servedOne v).host = d.host := by
    rw [Dev.servedOne, Dev.poolPut_frame]
  have hlink : ((d.poolPut u ((d.user u).more h)).servedOne v).linkUp = d.linkUp := by
    funext p
    unfold Dev.linkUp
    rw [show ((d.poolPut u ((d.user u).more h)).servedOne v).get (Reg.KRK_PORTp_STAT_LINK p) = d.get (Reg.KRK_PORTp_STAT_LINK p) from
      d.poolPut_get_apart u _ (Reg.KRK_PORTp_STAT_LINK p) (by simp [poolRegs, Reg.KRK_PORTp_STAT_LINK,
        Reg.HIF_POOL_FREE_RES_FREE, Reg.HIF_POOL_LOW_SH_LOW, Reg.HIF_POOL_STAT_SHEXH_F]; omega)]
  unfold Dev.standingUsers
  rw [hhost, hlink]

theorem Dev.serveNext_own {d : Dev} (hs : d.standingUsers = []) {u : Nat} (hu : u < 100) {n : Nat} {h : Hold} {e : Dev}
    (ha : d.allocN u n = some (h, e)) : d.serveNext [(u, fun t => t.allocN u n)] = some (some (u, h), e.servedOne u) := by
  have hone : (rrOrder d.pool.ptr).filter ([u] : List Nat).contains ≠ [] := by
    simp only [ne_eq, List.filter_eq_nil_iff, not_forall]
    exact ⟨u, mem_rrOrder _ hu, by simp⟩
  obtain ⟨v, l, hl⟩ := List.exists_cons_of_ne_nil hone
  have hv : v = u := by
    have hm : v ∈ (rrOrder d.pool.ptr).filter ([u] : List Nat).contains := by rw [hl]; exact List.mem_cons_self
    simpa using (List.mem_filter.mp hm).2
  subst hv
  unfold Dev.serveNext
  simp only [hs, List.map_cons, List.map_nil, List.nil_append]
  rw [hl]
  simp [ha]

/-- A request that stands alone is served at once. -/
theorem Dev.request_alone {d e : Dev} {u n : Nat} {h : Hold} (hs : d.standingUsers = []) (hu : u < 100) (h4 : d.poolClk.pool.served < 4)
    (ha : d.poolClk.allocN u n = some (h, e)) : d.request u n = (some h, e.servedOne u) := by
  have hs' : d.poolClk.standingUsers = [] := by
    rw [← hs, d.poolClk_frame]
    rfl
  obtain ⟨m, hm⟩ : ∃ m, 4 - d.poolClk.pool.served = m + 1 := ⟨3 - d.poolClk.pool.served, by omega⟩
  have hrest : (e.servedOne u).serve ([] : List (Request Hold)) m = ([], e.servedOne u) := by
    have hidle : (e.servedOne u).serveNext ([] : List (Request Hold)) = none := by
      simp [Dev.serveNext, Dev.allocN_standingUsers ha, hs']
    cases m with
    | zero => rfl
    | succ m => rw [Dev.serve, hidle]
  have hclk : d.serveClock [(u, fun t => t.allocN u n)] = ([(u, h)], e.servedOne u) := by
    rw [Dev.serveClock, hm, Dev.serve, Dev.serveNext_own hs' hu ha]
    simp [hrest]
  simp [Dev.request, Dev.serveOwn, hclk]

/-! ### The data of a link (R26, R27) -/

theorem Dev.isOn_CREDERR (d : Dev) : (d.raise Reg.HIF_POOL_STAT_CREDERR_F).isOn Reg.HIF_POOL_STAT_CREDERR_F = true :=
  d.isOn_raise_same _ (by decide) rfl

/-- The granules that the `n` oldest credits of a user had set aside, as a hold. -/
def PoolUser.arrived (p : PoolUser) (u n : Nat) : Hold :=
  { user := u, res := ((p.fifo.take n).filter id).length, sh := ((p.fifo.take n).filter not).length }

theorem Dev.portData_without (d : Dev) {u n : Nat} (h : (d.user u).cred < n) :
    (d.portData u n).1 = none ∧ (d.portData u n).2.isOn Reg.HIF_POOL_STAT_CREDERR_F = true := by
  unfold Dev.portData
  simp only [Nat.not_le.mpr h, if_false]
  exact ⟨trivial, Dev.isOn_CREDERR _⟩

theorem Dev.portData_with (d : Dev) {u n : Nat} (h : n ≤ (d.user u).cred) (hf : n ≤ (d.user u).fifo.length) :
    d.portData u n = (some ((d.user u).arrived u n), d.setUser u { d.user u with
      fifo := (d.user u).fifo.drop n, cred := (d.user u).cred - n, res := (d.user u).res + ((d.user u).arrived u n).res,
      sh := (d.user u).sh + ((d.user u).arrived u n).sh }) := by
  simp [Dev.portData, PoolUser.arrived, h, hf]

theorem PoolUser.arrived_sum (p : PoolUser) (u : Nat) {n : Nat} (hf : n ≤ p.fifo.length) : (p.arrived u n).res + (p.arrived u n).sh = n := by
  rw [PoolUser.arrived, filter_id_add_not, List.length_take, Nat.min_eq_left hf]

theorem Dev.linkData_spec (d : Dev) (u n : Nat) : (d.linkData u n).1 = n - (d.user u).cred ∧
    (d.linkData u n).2.user u = { d.user u with cred := (d.user u).cred - n } ∧
    ((d.user u).cred < n → (d.linkData u n).2.isOn Reg.HIF_POOL_STAT_CREDERR_F = true) := by
  have hmin : n - min n (d.user u).cred = n - (d.user u).cred ∧ (d.user u).cred - min n (d.user u).cred = (d.user u).cred - n := by omega
  refine ⟨hmin.1, ?_, fun hn => ?_⟩
  · have hput := (d.poolPut_user_same u { d.user u with cred := (d.user u).cred - n })
    rw [← hmin.2] at hput ⊢
    unfold Dev.linkData onlyIf
    simp only
    split
    · exact hput
    · exact hput
  · unfold Dev.linkData
    simp only [show min n (d.user u).cred < n by omega, decide_true, onlyIf_true]
    exact Dev.isOn_CREDERR _

/-! ### The statement, clause by clause -/

theorem pool_allocation (d : Dev) (u n c : Nat) (p : PoolUser) (hp : p = d.user u)
    (hc : c = (resSize u - p.resUsed u) + min (d.shCap u - p.shUsed) d.shFree) :
    (c < n → d.allocN u n = none) ∧
    (n ≤ c → ∃ (h : Hold) (e : Dev), d.allocN u n = some (h, e) ∧ h.user = u ∧ h.res = min n (resSize u - p.resUsed u) ∧ h.res + h.sh = n ∧
      e.user u = { p with res := p.res + h.res, sh := p.sh + h.sh } ∧ (∀ v, v ≠ u → e.user v = d.user v) ∧
      (h.sh ≠ 0 → (e.user u).resUsed u = resSize u ∧ (e.user u).shUsed ≤ d.shCap u) ∧ h.sh ≤ d.shFree ∧ e.shFree = d.shFree - h.sh ∧
      e.get Reg.HIF_POOL_FREE_RES_FREE = d.get Reg.HIF_POOL_FREE_RES_FREE - h.res) := by
  subst hp
  have hcould : d.couldAlloc u = c := hc.symm
  refine ⟨fun h => (d.allocN_none_iff u n).mpr (by omega), fun hn => ?_⟩
  obtain ⟨⟨h, e⟩, ha⟩ := Option.ne_none_iff_exists'.mp (mt (d.allocN_none_iff u n).mp (by omega : ¬ d.couldAlloc u < n))
  obtain ⟨hu, hres, hsum, hsh, he⟩ := d.allocN_spec ha
  obtain ⟨hsf, hrf, hfull⟩ := Dev.allocN_free ha
  refine ⟨h, e, ha, hu, hres, hsum, ?_, fun v hv => ?_, hfull, by omega, hsf, hrf⟩
  · rw [he, Dev.poolPut_user_same]
    rfl
  · rw [he, Dev.poolPut_user_ne _ _ _ hv]

theorem pool_credit (d : Dev) (u : Nat) (p : PoolUser) (hp : p = d.user u) :
    (p.resUsed u < resSize u → ∃ e, d.grantOne u = some e ∧ e.user u = { p with fifo := p.fifo ++ [true], cred := p.cred + 1 } ∧ e.shFree = d.shFree ∧
      ∀ v, v ≠ u → e.user v = d.user v) ∧
    (resSize u ≤ p.resUsed u → 0 < p.com → ∃ e, d.grantOne u = some e ∧
      e.user u = { p with fifo := p.fifo ++ [false], cred := p.cred + 1, com := p.com - 1 } ∧ e.shFree = d.shFree ∧ ∀ v, v ≠ u → e.user v = d.user v) ∧
    (resSize u ≤ p.resUsed u → p.com = 0 → p.cred = 0 → p.shUsed + 8 ≤ d.shCap u → 8 ≤ d.shFree → ∃ e, d.grantOne u = some e ∧
      e.user u = { p with fifo := p.fifo ++ [false], cred := 1, com := 7 } ∧ (e.user u).shUsed ≤ d.shCap u ∧ e.shFree = d.shFree - 8 ∧
      ∀ v, v ≠ u → e.user v = d.user v) ∧
    (resSize u ≤ p.resUsed u → p.com = 0 → (p.cred ≠ 0 ∨ d.shCap u < p.shUsed + 8 ∨ d.shFree < 8) → d.grantOne u = none) := by
  subst hp
  have hlt := d.shFree_lt
  refine ⟨fun hr => ⟨_, Dev.grantOne_reserved hr, Dev.poolPut_user_same _ _ _, ?_, fun v => Dev.poolPut_user_ne _ _ _⟩,
    fun hr hc => ⟨_, Dev.grantOne_committed hr hc, Dev.poolPut_user_same _ _ _, ?_, fun v => Dev.poolPut_user_ne _ _ _⟩,
    fun hr h0 hcr hcap hfree => ?_, fun hr h0 hno => Dev.grantOne_none hr h0 ?_⟩
  · have hs := (d.user u).creditRes_shUsed
    rw [Dev.poolPut_shFree _ _ _ (by omega)]
    omega
  · have hs := (d.user u).creditSh_shUsed ((d.user u).com - 1)
    rw [Dev.poolPut_shFree _ _ _ (by omega)]
    omega
  · have hs := (d.user u).creditSh_shUsed 7
    have hsame : (d.user u).creditSh 7 = { d.user u with fifo := (d.user u).fifo ++ [false], cred := 1, com := 7 } := by
      rw [PoolUser.creditSh, hcr]
    refine ⟨_, Dev.grantOne_block hr (Dev.mayCommit_iff.mpr ⟨hcr, h0, hcap, hfree⟩), ?_, ?_, ?_, fun v => Dev.poolPut_user_ne _ _ _⟩
    · rw [Dev.poolPut_user_same, hsame]
    · rw [Dev.poolPut_user_same]
      omega
    · rw [Dev.poolPut_shFree _ _ _ (by omega)]
      omega
  · rw [Bool.eq_false_iff, ne_eq, Dev.mayCommit_iff]
    omega

theorem pool_free (d : Dev) (h : Hold) (p q : PoolUser) (e : Dev) (he : e = d.giveBack h) (hp : p = d.user h.user)
    (hq : q = { p with res := p.res - h.res, sh := p.sh - h.sh }) :
    (h.user < 36 → resSize h.user ≤ 2 * (resSize h.user - q.resUsed h.user) → e.user h.user = { q with com := 0 }) ∧
    ((36 ≤ h.user ∨ 2 * (resSize h.user - q.resUsed h.user) < resSize h.user) → e.user h.user = q) ∧
    (∀ v, v ≠ h.user → e.user v = d.user v) ∧
    (d.shFree + p.shUsed ≤ 5120 → e.shFree = d.shFree + p.shUsed - (e.user h.user).shUsed) := by
  replace hq : q = (d.user h.user).less h := by rw [hq, hp]; rfl
  have huser : e.user h.user = q.halfRule h.user := by rw [he, hq, Dev.giveBack_eq, Dev.poolPut_user_same]
  refine ⟨fun hu hh => ?_, fun ho => ?_, fun v hv => ?_, fun hs => ?_⟩
  · rw [huser, PoolUser.halfRule_half hu hh]
  · rw [huser, PoolUser.halfRule_other ho]
  · rw [he, Dev.giveBack_user_ne _ _ hv]
  · rw [huser, he, hq, hp, Dev.giveBack_eq, Dev.poolPut_shFree]
    rw [hp] at hs
    omega

theorem pool_freesServed (d : Dev) (n : Nat) : (d.freesServed n).pool.frees = d.pool.frees.drop (4 * n) ∧
    ∀ u, (∀ h ∈ d.pool.frees.take (4 * n), h.user ≠ u) → (d.freesServed n).user u = d.user u := by
  unfold Dev.freesServed
  simp only
  refine ⟨?_, fun u hu => ?_⟩
  · rw [Dev.giveBackAll_frees, Dev.poolClk_frees]
  · rw [Dev.giveBackAll_user _ _ (by rwa [Dev.poolClk_frees])]
    exact d.poolClk_user u

theorem pool_linkData (d : Dev) (u n : Nat) (p : PoolUser) (hp : p = d.user u) :
    (p.cred < n → (d.portData u n).1 = none ∧ (d.portData u n).2.isOn Reg.HIF_POOL_STAT_CREDERR_F = true) ∧
    (n ≤ p.cred → n ≤ p.fifo.length → ∃ h : Hold, (d.portData u n).1 = some h ∧ h.user = u ∧ h.res = ((p.fifo.take n).filter id).length ∧ h.res + h.sh = n ∧
      (d.portData u n).2.regs = d.regs ∧ (d.portData u n).2.user u = { p with fifo := p.fifo.drop n, cred := p.cred - n, res := p.res + h.res, sh := p.sh + h.sh }) ∧
    (d.linkData u n).1 = n - p.cred ∧ (d.linkData u n).2.user u = { p with cred := p.cred - n } ∧
    (p.cred < n → (d.linkData u n).2.isOn Reg.HIF_POOL_STAT_CREDERR_F = true) := by
  subst hp
  obtain ⟨hleft, huser, hflag⟩ := d.linkData_spec u n
  refine ⟨d.portData_without, fun hn hf => ?_, hleft, huser, hflag⟩
  rw [d.portData_with hn hf]
  exact ⟨_, rfl, rfl, rfl, (d.user u).arrived_sum u hf, rfl, Dev.user_setUser_same _ _ _⟩

/-- Settles O43, clause by clause: allocations, credits and frees of one user, then the order in which the clocks serve them. -/
theorem poolAllocator : Obligations.PoolAllocator := by
  unfold Obligations.PoolAllocator
  refine fun d => ⟨pool_allocation d, pool_credit d, pool_free d, fun h t ht => ?_, pool_freesServed d, ?_, d.serveNext_idle, fun h4 => ?_, ?_,
    pool_linkData d⟩
  · subst ht
    exact ⟨d.freeHold_none, fun h0 he hf => d.freeHold_now h0 he hf, fun h0 he => d.freeHold_later h0 he⟩
  · exact fun k u hk hu hb t hm ht => d.serveNext_first hk hu hb hm ht
  · have hserve := d.poolClk.serve_served (4 - d.poolClk.pool.served)
    exact hserve.trans (by omega)
  · exact fun u n h e hs hu h4 ha => Dev.request_alone hs hu h4 ha

end Sys2Proof.Machine
end

section
/-! PROOFS. O5: what every operation of the device keeps: the canonical form of its memories, and the number of its granules (R23, R24, R31).
`Kept.f` says of the function `f` of the model that it keeps both; its proof goes through `f`’s text with the lemmas of the functions called. -/

set_option Elab.async false

namespace Sys2Proof.Machine

/-! ### The relation -/

/-- From `d` to `e` the memories keep their canonical form, and no granule is lost or made. -/
structure Kept (d e : Dev) : Prop where
  mem : d.memWf → e.memWf
  granules : d.granulesOk → e.granulesOk

theorem Kept.refl (d : Dev) : Kept d d := ⟨id, id⟩

theorem Kept.trans {d e f : Dev} (h : Kept d e) (g : Kept e f) : Kept d f := ⟨g.mem ∘ h.mem, g.granules ∘ h.granules⟩

theorem Kept.ite {d e f : Dev} {c : Prop} [Decidable c] (he : Kept d e) (hf : Kept d f) : Kept d (if c then e else f) := by
  split
  · exact he
  · exact hf

/-- A conditional whose branches need to know what was decided. -/
theorem Kept.iteOf {d e f : Dev} {c : Prop} [Decidable c] (he : c → Kept d e) (hf : ¬ c → Kept d f) : Kept d (if c then e else f) := by
  split
  next hc => exact he hc
  next hc => exact hf hc

theorem Kept.iteFst {α : Type} {d : Dev} {x y : Dev × α} {c : Prop} [Decidable c] (hx : Kept d x.1) (hy : Kept d y.1) :
    Kept d (if c then x else y).1 := by
  split
  · exact hx
  · exact hy

theorem Kept.iteSnd {α : Type} {d : Dev} {x y : α × Dev} {c : Prop} [Decidable c] (hx : Kept d x.2) (hy : Kept d y.2) :
    Kept d (if c then x else y).2 := by
  split
  · exact hx
  · exact hy

/-- The offset of a register of an array that begins beyond HIF_POOL_FREE. -/
theorem ne_free {a n : Nat} (h : 0x308 < a) : a + n ≠ 0x308 := by omega

theorem ne_free₂ {a n m : Nat} (h : 0x308 < a) : a + n + m ≠ 0x308 := by omega

theorem ite_ne_free {c : Prop} [Decidable c] {a b : Nat} (ha : a ≠ 0x308 := by decide) (hb : b ≠ 0x308 := by decide) :
    (if c then a else b) ≠ 0x308 := by
  split
  · exact ha
  · exact hb

/-- A field of a register whose offset is a literal, wherever its bits lie. -/
theorem Fld.off_ne {o hi lo : Nat} (ho : o ≠ 0x308 := by decide) : (Fld.mk o hi lo).off ≠ 0x308 := ho

/-- The free granules that the register shows, and who holds the others. -/
theorem granulesOk_of_eq {d e : Dev} (hu : e.pool.users = d.pool.users) (hr : e.reg Reg.HIF_POOL_FREE = d.reg Reg.HIF_POOL_FREE)
    (h : d.granulesOk) : e.granulesOk := by
  have huser : e.user = d.user := by
    funext u
    rw [Dev.user, Dev.user, hu]
  unfold Dev.granulesOk at *
  rw [hu, huser, Dev.get_of_reg (f := Reg.HIF_POOL_FREE_RES_FREE) hr, Dev.get_of_reg (f := Reg.HIF_POOL_FREE_SH_FREE) hr]
  exact h

section
variable {d e : Dev} (h : Kept d e)
include h

/-! ### Registers -/

theorem Kept.setReg (o : Nat) (w : Word) (ho : o ≠ 0x308 := by decide) : Kept d (e.setReg o w) :=
  h.trans ⟨id, granulesOk_of_eq rfl (e.reg_setReg_ne o _ w ho.symm)⟩

/-- A register written where HIF_POOL_FREE keeps its content. -/
theorem Kept.setRegHeld (o : Nat) (w : Word) (ho : o = 0x308 → w = e.reg 0x308) : Kept d (e.setReg o w) := by
  by_cases hf : o = 0x308
  · refine h.trans ⟨id, granulesOk_of_eq rfl ?_⟩
    rw [ho hf, hf]
    exact e.reg_setReg_same _ _
  · exact h.setReg o w hf

theorem Kept.set (f : Fld) (v : Nat) (hf : f.off ≠ 0x308 := by decide) : Kept d (e.set f v) := h.setReg _ _ hf

theorem Kept.setB (f : Fld) (b : Bool) (hf : f.off ≠ 0x308 := by decide) : Kept d (e.setB f b) := h.set _ _ hf

theorem Kept.setClkEvents (o : Nat) (x : Word × Word) : Kept d (e.setClkEvents o x) := ⟨h.mem, h.granules⟩

theorem Kept.noted (f : Fld) (n : Nat) : Kept d (e.noted f n) := ⟨h.mem, h.granules⟩

theorem Kept.raise (f : Fld) (hf : f.off ≠ 0x308 := by decide) : Kept d (e.raise f) := (h.noted f 1).set f 1 hf

theorem Kept.count (f : Fld) (n : Nat := 1) (hf : f.off ≠ 0x308 := by decide) : Kept d (e.count f n) := (h.noted f n).set f _ hf

theorem Kept.unnoted (f : Fld) (n : Nat) (hf : f.off ≠ 0x308 := by decide) : Kept d (e.unnoted f n) := by
  unfold Dev.unnoted
  split
  · exact h
  · exact Kept.set (Kept.setClkEvents h _ _) _ _ hf

theorem Kept.raiseBit (o n : Nat) (ho : o ≠ 0x308 := by decide) : Kept d (e.raiseBit o n) := h.raise _ ho

theorem Kept.setPair (lo hi v : Nat) (hl : lo ≠ 0x308 := by decide) (hh : hi ≠ 0x308 := by decide) : Kept d (e.setPair lo hi v) :=
  (h.setReg _ _ hl).setReg _ _ hh

/-! ### Conditional and repeated effects -/

theorem Kept.onlyIf (c : Bool) (f : Dev → Dev) (hf : ∀ t, Kept d t → Kept d (f t)) : Kept d (onlyIf c f e) :=
  onlyIf_keeps (Kept d) c f e h hf

theorem Kept.forEach {α : Type} (l : List α) (f : α → Dev → Dev) (hf : ∀ a t, Kept d t → Kept d (f a t)) : Kept d (forEach l f e) :=
  forEach_keeps (Kept d) l f e h hf

theorem Kept.foldl {α : Type} (l : List α) (f : Dev → α → Dev) (hf : ∀ a t, Kept d t → Kept d (f t a)) : Kept d (l.foldl f e) := by
  induction l generalizing e with
  | nil => exact h
  | cons a l ih => exact ih (hf a e h)

theorem Kept.foldlSnd {α β : Type} (l : List α) (f : β × Dev → α → β × Dev) (b : β) (hf : ∀ a x, Kept d x.2 → Kept d (f x a).2) :
    Kept d (l.foldl f (b, e)).2 := by
  induction l generalizing b e with
  | nil => exact h
  | cons a l ih => exact ih (hf a (b, e) h) _

/-! ### The parts of the device beside registers, granules and memories -/

theorem Kept.send (m : OutMsg) : Kept d (e.send m) := ⟨h.mem, h.granules⟩
theorem Kept.free : Kept d e.free.2 := ⟨h.mem, h.granules⟩

theorem Kept.withHiLatch (x : List (Nat × Word)) : Kept d { e with hiLatch := x } := ⟨h.mem, h.granules⟩
theorem Kept.withClkRegs (x : List (Nat × Word)) : Kept d { e with clkRegs := x } := ⟨h.mem, h.granules⟩
theorem Kept.withInReset (x : Bool) : Kept d { e with inReset := x } := ⟨h.mem, h.granules⟩
theorem Kept.withStraps (x : Nat) : Kept d { e with straps := x } := ⟨h.mem, h.granules⟩
theorem Kept.withOut (x : List OutMsg) : Kept d { e with out := x } := ⟨h.mem, h.granules⟩
theorem Kept.withPins (x : Pins) : Kept d { e with pins := x } := ⟨h.mem, h.granules⟩
theorem Kept.withLog (x : List LogRec) : Kept d { e with log := x } := ⟨h.mem, h.granules⟩
theorem Kept.withClk (x : ClkSt) : Kept d { e with clk := x } := ⟨h.mem, h.granules⟩
theorem Kept.withFrm (x : FrmSt) : Kept d { e with frm := x } := ⟨h.mem, h.granules⟩
theorem Kept.withAdc (x : AdcSt) : Kept d { e with adc := x } := ⟨h.mem, h.granules⟩
theorem Kept.withCmp (x : CmpSt) : Kept d { e with cmp := x } := ⟨h.mem, h.granules⟩
theorem Kept.withAng (x : AngSt) : Kept d { e with ang := x } := ⟨h.mem, h.granules⟩
theorem Kept.withCe (x : CeSt) : Kept d { e with ce := x } := ⟨h.mem, h.granules⟩
theorem Kept.withCells (x : CellsSt) : Kept d { e with cells := x } := ⟨h.mem, h.granules⟩
theorem Kept.withEsp (x : EspSt) : Kept d { e with esp := x } := ⟨h.mem, h.granules⟩
theorem Kept.withGrid (x : GridSt) : Kept d { e with grid := x } := ⟨h.mem, h.granules⟩
theorem Kept.withIsl (x : IslSt) : Kept d { e with isl := x } := ⟨h.mem, h.granules⟩
theorem Kept.withMtr (x : MtrSt) : Kept d { e with mtr := x } := ⟨h.mem, h.granules⟩
theorem Kept.withVlt (x : VltSt) : Kept d { e with vlt := x } := ⟨h.mem, h.granules⟩
theorem Kept.withPwr (x : PwrSt) : Kept d { e with pwr := x } := ⟨h.mem, h.granules⟩
theorem Kept.withThk (x : List (Nat × RingSt)) : Kept d { e with thk := x } := ⟨h.mem, h.granules⟩
theorem Kept.withKrk (x : KrkSt) : Kept d { e with krk := x } := ⟨h.mem, h.granules⟩
theorem Kept.withHb (x : List (Nat × HbCh)) : Kept d { e with hb := x } := ⟨h.mem, h.granules⟩
theorem Kept.withSnp (x : SnpSt) : Kept d { e with snp := x } := ⟨h.mem, h.granules⟩
theorem Kept.withPrt (x : PrtSt) : Kept d { e with prt := x } := ⟨h.mem, h.granules⟩
theorem Kept.withSaf (x : SafSt) : Kept d { e with saf := x } := ⟨h.mem, h.granules⟩

theorem Kept.withPool (x : PoolSt) (hx : x.users = e.pool.users := by rfl) : Kept d { e with pool := x } :=
  h.trans ⟨id, granulesOk_of_eq hx rfl⟩

theorem Kept.withHost (x : HostSt) (hr : x.ringWin = e.host.ringWin := by rfl) (hb : x.bulkWin = e.host.bulkWin := by rfl) :
    Kept d { e with host := x } :=
  h.trans ⟨fun ⟨h1, h2, h3, h4⟩ => ⟨h1, (congrArg Memory.wf hr).trans h2, (congrArg Memory.wf hb).trans h3, h4⟩, id⟩

theorem Kept.withFram (x : FramSt) (hm : x.mem = e.fram.mem := by rfl) : Kept d { e with fram := x } :=
  h.trans ⟨fun ⟨h1, h2, h3, h4, h5⟩ => ⟨h1, h2, h3, (congrArg Memory.wf hm).trans h4, h5⟩, id⟩

theorem Kept.withImg (x : ImgSt) (hs : x.standby = e.img.standby := by rfl) (hq : x.qspi = e.img.qspi := by rfl) : Kept d { e with img := x } :=
  h.trans ⟨fun ⟨h1, h2, h3, h4, h5, h6⟩ => ⟨h1, h2, h3, h4, (congrArg Memory.wf hs).trans h5, (congrArg (swf qErased) hq).trans h6⟩, id⟩

end

end Sys2Proof.Machine
end

section
/-! PROOFS. O5: the operations of the buffer pool lose no granule (R23–R31). -/

set_option Elab.async false

namespace Sys2Proof.Machine

/-! ### Sums over the users -/

/-- One term of a sum replaced. -/
theorem sum_range_replace {f g : Nat → Nat} {u : Nat} (hg : ∀ v, v ≠ u → g v = f v) (n : Nat) :
    ((List.range n).map g).sum + (if u < n then f u else 0) = ((List.range n).map f).sum + (if u < n then g u else 0) := by
  induction n with
  | zero => simp
  | succ n ih =>
    simp only [List.range_succ, List.map_append, List.map_cons, List.map_nil, List.sum_append, List.sum_cons, List.sum_nil]
    by_cases hu : u = n
    · subst hu
      simp only [Nat.lt_irrefl, if_false, Nat.lt_succ_self, if_true] at ih ⊢
      omega
    · rw [hg n (Ne.symm hu)]
      by_cases hl : u < n
      · simp only [hl, if_true, Nat.lt_succ_of_lt hl] at ih ⊢
        omega
      · simp only [hl, if_false, show ¬ u < n + 1 by omega] at ih ⊢
        omega

theorem sum_range_le {f g : Nat → Nat} (h : ∀ v, f v ≤ g v) (n : Nat) : ((List.range n).map f).sum ≤ ((List.range n).map g).sum :=
  List.sum_le_sum (fun v _ => h v)

/-- The reservations of all users are the reserved part (R23). -/
theorem sum_resSize : ((List.range 100).map resSize).sum = 3072 := by decide

theorem resSize_beyond {u : Nat} (h : 100 ≤ u) : resSize u = 0 := by
  unfold resSize
  rw [if_neg (by omega), if_neg (by omega), if_neg (by omega)]

theorem Dev.shCap_beyond (d : Dev) {u : Nat} (h : 100 ≤ u) : d.shCap u = 0 := by
  unfold Dev.shCap
  rw [if_neg (by omega), if_neg (by omega), if_neg (by omega)]

/-! ### A holding replaced -/

/-- The reserved granules that are free or the user’s own fill its reservation at least. -/
theorem granulesOk_resSize_le {d : Dev} (h : d.granulesOk) {u : Nat} (hu : u < 100) :
    resSize u ≤ d.get Reg.HIF_POOL_FREE_RES_FREE + (d.user u).resUsed u := by
  obtain ⟨-, -, hres, -⟩ := h
  have hrep := sum_range_replace (f := fun v => (d.user v).resUsed v) (g := Function.update (fun v => (d.user v).resUsed v) u (resSize u))
    (fun v hv => Function.update_of_ne hv _ _) 100
  have hle := sum_range_le (f := Function.update (fun v => (d.user v).resUsed v) u (resSize u)) (g := resSize) (fun v => by
    by_cases hv : v = u
    · rw [hv, Function.update_self]
    · rw [Function.update_of_ne hv]
      exact PoolUser.resUsed_le _ _) 100
  simp only [hu, if_true, Function.update_self] at hrep
  rw [sum_resSize] at hle
  omega

/-- The sums over the users when one holding is replaced. -/
theorem sum_user_replace {d e : Dev} {u : Nat} {p : PoolUser} (he : ∀ v, e.user v = if v = u then p else d.user v) (hu : u < 100) (m : Nat → PoolUser → Nat) :
    ((List.range 100).map (fun v => m v (e.user v))).sum + m u (d.user u) = ((List.range 100).map (fun v => m v (d.user v))).sum + m u p := by
  have hrep := sum_range_replace (f := fun v => m v (d.user v)) (g := fun v => m v (e.user v)) (u := u) (fun v hv => by rw [he, if_neg hv]) 100
  simpa only [hu, if_true, he u] using hrep

theorem granulesOk_poolPut {d : Dev} (h : d.granulesOk) {u : Nat} {p : PoolUser} (hu : 100 ≤ u → d.user u = {} → p = {})
    (hs : p.shUsed ≤ d.shFree + (d.user u).shUsed) : (d.poolPut u p).granulesOk := by
  have hle := fun hl => granulesOk_resSize_le h (u := u) hl
  obtain ⟨hwf, hother, hres, hsh⟩ := h
  have huser := fun v => d.poolPut_user u v p
  obtain ⟨hrf, hsf⟩ := d.poolPut_free u p
  have hpr := p.resUsed_le u
  refine ⟨by rw [Dev.poolPut_pool]; exact sset_swf _ _ _ _ hwf, fun v hv => ?_, ?_, ?_⟩
  · rw [huser]
    split
    · next e => exact hu (e ▸ hv) (e ▸ hother v hv)
    · exact hother v hv
  · by_cases hl : u < 100
    · have hsum := sum_user_replace huser hl (fun v q => q.resUsed v)
      have := hle hl
      rw [hrf, Nat.mod_eq_of_lt (by omega)]
      omega
    · have hp : p = d.user u := (hu (by omega) (hother u (by omega))).trans (hother u (by omega)).symm
      have hsame : (d.poolPut u p).user = d.user := funext fun v => by rw [huser, hp]; split <;> simp_all
      rw [hrf, hsame, hp, Nat.add_sub_cancel, Nat.mod_eq_of_lt (by omega)]
      exact hres
  · change (d.poolPut u p).shFree + _ = _
    change d.shFree + _ = _ at hsh
    by_cases hl : u < 100
    · have hsum := sum_user_replace huser hl (fun _ q => q.shUsed)
      rw [hsf, Nat.mod_eq_of_lt (by omega)]
      omega
    · have hp : p = d.user u := (hu (by omega) (hother u (by omega))).trans (hother u (by omega)).symm
      have hsame : (d.poolPut u p).user = d.user := funext fun v => by rw [huser, hp]; split <;> simp_all
      rw [hsf, hsame, hp, Nat.add_sub_cancel, Nat.mod_eq_of_lt (by omega)]
      exact hsh

/-- A holding replaced by one of as many granules. -/
theorem granulesOk_setUser {d : Dev} (h : d.granulesOk) {u : Nat} {p : PoolUser} (hu : 100 ≤ u → d.user u = {} → p = {})
    (hr : p.resUsed u = (d.user u).resUsed u) (hs : p.shUsed = (d.user u).shUsed) : (d.setUser u p).granulesOk := by
  obtain ⟨hwf, hother, hres, hsh⟩ := h
  have huser : ∀ v, (d.setUser u p).user v = if v = u then p else d.user v := fun v => by
    split
    · next e => rw [e, Dev.user_setUser_same]
    · next e => exact d.user_setUser_ne u v p e
  have hcount : ∀ v, ((d.setUser u p).user v).resUsed v = (d.user v).resUsed v ∧ ((d.setUser u p).user v).shUsed = (d.user v).shUsed := fun v => by
    rw [huser]
    split
    · next e => exact e ▸ ⟨hr, hs⟩
    · exact ⟨rfl, rfl⟩
  refine ⟨sset_swf _ _ _ _ hwf, fun v hv => ?_, ?_, ?_⟩
  · rw [huser]
    split
    · next e => exact hu (e ▸ hv) (e ▸ hother v hv)
    · exact hother v hv
  · simp only [hcount]
    exact hres
  · simp only [hcount]
    exact hsh

section
variable {d e : Dev} (h : Kept d e)
include h

theorem Kept.poolPut (u : Nat) (p : PoolUser) (hu : 100 ≤ u → e.user u = {} → p = {}) (hs : p.shUsed ≤ e.shFree + (e.user u).shUsed) :
    Kept d (e.poolPut u p) := by
  refine h.trans ⟨fun hm => ?_, fun hg => granulesOk_poolPut hg hu hs⟩
  rw [Dev.poolPut_frame]
  exact hm

theorem Kept.setUser (u : Nat) (p : PoolUser) (hu : 100 ≤ u → e.user u = {} → p = {}) (hr : p.resUsed u = (e.user u).resUsed u)
    (hs : p.shUsed = (e.user u).shUsed) : Kept d (e.setUser u p) :=
  h.trans ⟨id, fun hg => granulesOk_setUser hg hu hr hs⟩

/-! ### Taking and freeing (R24, R28, R29) -/

theorem Kept.poolClk : Kept d e.poolClk := by
  rw [Dev.poolClk_frame]
  exact h.withPool _

theorem Kept.allocN {u n : Nat} {x : Hold × Dev} (hx : e.allocN u n = some x) : Kept d x.2 := by
  obtain ⟨-, hres, -, hsh, hput⟩ := e.allocN_spec hx
  rw [hput]
  refine h.poolPut _ _ (fun hu h0 => ?_) ?_
  · rw [resSize_beyond hu] at hres
    rw [e.shCap_beyond hu] at hsh
    rw [h0, PoolUser.more, show x.1.res = 0 by omega, show x.1.sh = 0 by omega]
  · rw [PoolUser.more_shUsed]
    omega

theorem Kept.giveBack (x : Hold) : Kept d (e.giveBack x) := by
  rw [Dev.giveBack_eq]
  refine h.poolPut _ _ (fun hu h0 => ?_) ?_
  · rw [h0, PoolUser.halfRule_other (.inl (by omega))]
    simp [PoolUser.less]
  · exact (PoolUser.halfRule_shUsed_le _ _).trans (((e.user x.user).less_shUsed_le x).trans (Nat.le_add_left _ _))

theorem Kept.freeHold (x : Hold) : Kept d (e.freeHold x) := by
  unfold Dev.freeHold
  exact Kept.ite h.poolClk (Kept.ite ((h.poolClk.withPool _).giveBack _) (h.poolClk.withPool _))

theorem Kept.freesServed (n : Nat) : Kept d (e.freesServed n) := by
  unfold Dev.freesServed
  exact (h.poolClk.withPool _).forEach _ _ (fun _ _ ht => ht.giveBack _)

theorem Kept.free1 (u : Nat) (b : Bool) : Kept d (e.free1 u b) := h.freeHold _

theorem Kept.noSpace : Kept d e.noSpace := (h.raise _).count _

theorem Kept.servedOne (u : Nat) : Kept d (e.servedOne u) := h.withPool _

/-! ### Control-critical traffic (R25) -/

theorem Kept.critTake (u n : Nat) : Kept d (e.critTake u n).2 := by
  unfold Dev.critTake
  simp only
  split
  · next hn =>
    refine h.poolPut _ _ (fun hu h0 => ?_) (Nat.le_add_left _ _)
    rw [resSize_beyond hu] at hn
    rw [h0, show n = 0 by omega]
  · exact h

omit h in
theorem PoolUser.freed_resUsed (u : Nat) (p : PoolUser) {k : Nat} (hk : k ≤ p.crit) :
    ({ p with crit := p.crit - k, res := p.res + k } : PoolUser).resUsed u = p.resUsed u := by
  have hsum : p.res + k + (p.crit - k) = p.res + p.crit := by omega
  rw [PoolUser.resUsed, PoolUser.resUsed, hsum]

theorem Kept.critFree (u n : Nat) : Kept d (e.critFree u n) := by
  unfold Dev.critFree
  exact Kept.freeHold (h.setUser _ _ (fun _ h0 => by simp [h0]) (PoolUser.freed_resUsed _ _ (Nat.min_le_right _ _)) rfl) _

/-! ### Links: credits and data (R26, R27) -/

theorem Kept.grantOne {u : Nat} {t : Dev} (ht : e.grantOne u = some t) : Kept d t := by
  rcases Dev.grantOne_cases ht with ⟨hr, rfl⟩ | ⟨hc, rfl⟩ | ⟨hm, rfl⟩
  · refine h.poolPut _ _ (fun hu _ => ?_) ?_
    · rw [resSize_beyond hu] at hr
      omega
    · rw [PoolUser.creditRes_shUsed]
      exact Nat.le_add_left _ _
  · have hs := (e.user u).creditSh_shUsed ((e.user u).com - 1)
    refine h.poolPut _ _ (fun _ h0 => ?_) (by omega)
    rw [h0] at hc
    cases hc
  · obtain ⟨-, h0, hcap, hfree⟩ := Dev.mayCommit_iff.mp hm
    have hs := (e.user u).creditSh_shUsed 7
    refine h.poolPut _ _ (fun hu _ => ?_) (by omega)
    rw [e.shCap_beyond hu] at hcap
    omega

omit h in
theorem PoolUser.cred_shUsed (p : PoolUser) (c : Nat) : ({ p with cred := c } : PoolUser).shUsed = p.shUsed := rfl

theorem Kept.linkData (u n : Nat) : Kept d (e.linkData u n).2 := by
  have hput : Kept d (e.poolPut u { e.user u with cred := (e.user u).cred - min n (e.user u).cred }) :=
    h.poolPut _ _ (fun _ h0 => by simp [h0]) (by rw [PoolUser.cred_shUsed]; exact Nat.le_add_left _ _)
  exact hput.onlyIf (decide (min n (e.user u).cred < n)) (·.raise Reg.HIF_POOL_STAT_CREDERR_F) (fun _ ht => ht.raise _)

omit h in
/-- The oldest granules of a link’s data become a hold: none is gained or lost. -/
theorem PoolUser.taken_counts (u : Nat) (p : PoolUser) (n c : Nat) :
    let q : PoolUser := { p with
      fifo := p.fifo.drop n, cred := c, res := p.res + ((p.fifo.take n).filter id).length, sh := p.sh + ((p.fifo.take n).filter not).length }
    q.resUsed u = p.resUsed u ∧ q.shUsed = p.shUsed := by
  have hid := filter_take_drop id p.fifo n
  have hnot := filter_take_drop not p.fifo n
  simp only [PoolUser.resUsed, PoolUser.shUsed]
  omega

theorem Kept.linkConsume (u n : Nat) : Kept d (e.linkConsume u n) := by
  unfold Dev.linkConsume
  simp only [List.length_take, Nat.min_assoc]
  have hc := (e.user u).taken_counts u (min n ((e.user u).fifo.length - (e.user u).cred)) (e.user u).cred
  have hm : min n (min ((e.user u).fifo.length - (e.user u).cred) (e.user u).fifo.length) = min n ((e.user u).fifo.length - (e.user u).cred) := by omega
  rw [hm]
  exact (h.setUser _ _ (fun _ h0 => by simp [h0]) hc.1 hc.2).freeHold _

theorem Kept.portTaken (u n : Nat) : Kept d (e.setUser u { e.user u with
    fifo := (e.user u).fifo.drop ((e.user u).fifo.take n).length, cred := (e.user u).cred - ((e.user u).fifo.take n).length,
    res := (e.user u).res + (((e.user u).fifo.take n).filter id).length, sh := (e.user u).sh + (((e.user u).fifo.take n).filter not).length }) := by
  have hc := (e.user u).taken_counts u ((e.user u).fifo.take n).length ((e.user u).cred - ((e.user u).fifo.take n).length)
  have ht : (e.user u).fifo.take ((e.user u).fifo.take n).length = (e.user u).fifo.take n := by
    rw [List.length_take, ← List.take_take, List.take_length]
  rw [ht] at hc
  exact h.setUser _ _ (fun _ h0 => by simp [h0]) hc.1 hc.2

theorem Kept.portData (u n : Nat) : Kept d (e.portData u n).2 := by
  unfold Dev.portData
  exact Kept.iteSnd (h.portTaken u _) (((h.portTaken u _).freeHold _).raise _)

theorem Kept.poolRearm : Kept d e.poolRearm := h.set _ _

omit h in
/-- A pool that is set up anew has all its granules free (R30). -/
theorem granulesOk_poolReset (e : Dev) : e.poolReset.granulesOk := by
  refine ⟨rfl, fun _ _ => rfl, ?_, ?_⟩
  · have hres : e.poolReset.get Reg.HIF_POOL_FREE_RES_FREE = 3072 := by
      unfold Dev.poolReset
      rw [Dev.get_set_apart _ _ _ _ (by decide) (by decide) (by decide)]
      exact Dev.get_set_fits _ _ (by decide) (by decide) (by decide)
    have hused : ((List.range 100).map (fun u => (e.poolReset.user u).resUsed u)).sum = 0 :=
      List.sum_eq_zero (by
        intro x hx
        obtain ⟨u, -, rfl⟩ := List.mem_map.mp hx
        exact Nat.min_zero _)
    rw [hres, hused]
  · have hsh : e.poolReset.get Reg.HIF_POOL_FREE_SH_FREE = 5120 := Dev.get_set_fits _ _ (by decide) (by decide) (by decide)
    have hused : ((List.range 100).map (fun u => (e.poolReset.user u).shUsed)).sum = 0 :=
      List.sum_eq_zero (by
        intro x hx
        obtain ⟨u, -, rfl⟩ := List.mem_map.mp hx
        rfl)
    rw [hsh, hused]

theorem Kept.poolReset : Kept d e.poolReset := ⟨h.mem, fun _ => granulesOk_poolReset e⟩

end

end Sys2Proof.Machine
end

section
/-! PROOFS. O5: registers, the event log, interrupts, the states. -/

set_option Elab.async false

namespace Sys2Proof.Machine

section
variable {d e : Dev} (h : Kept d e)
include h

/-! ### The event log (R394) and its copy in FRAM (R433) -/

theorem Kept.framAsk (r : FramReq) : Kept d (e.framAsk r) := by
  unfold Dev.framAsk
  exact h.withFram _

theorem Kept.framLog (r : LogRec) : Kept d (e.framLog r) := by
  unfold Dev.framLog
  exact (((Kept.ite (h.withFram _) h).onlyIf _ _ (fun _ ht => (ht.raise _).count _ _)).framAsk _).withFram _

theorem Kept.logRing (stamp src code addr data : Nat) : Kept d (e.logRing stamp src code addr data).2 := by
  unfold Dev.logRing
  dsimp only
  exact (h.withLog _).set _ _

theorem Kept.framLogged (r : LogRec) (next : Dev → LogRec × Dev) (hn : ∀ t, Kept d t → Kept d (next t).2) : Kept d (e.framLogged r next) := by
  unfold Dev.framLogged
  exact Kept.ite ((hn _ (h.framLog _)).framLog _) (h.framLog _)

theorem Kept.logAt (stamp src code addr data : Nat) (first : Bool) : Kept d (e.logAt stamp src code addr data first) := by
  unfold Dev.logAt
  exact Kept.ite ((h.logRing _ _ _ _ _).framLogged _ _ (fun _ ht => ht.logRing _ _ _ _ _)) (h.logRing _ _ _ _ _)

theorem Kept.logNow (src code data : Nat) : Kept d (e.logNow src code data) := by
  unfold Dev.logNow
  exact h.logAt _ _ _ _ _ _

theorem Kept.keeperRec (code data : Nat) : Kept d (e.keeperRec code data).2 := by
  unfold Dev.keeperRec
  dsimp only
  exact h.free.free

theorem Kept.vaultLog (code data : Nat) : Kept d (e.vaultLog code data) := by
  unfold Dev.vaultLog
  exact Kept.ite ((h.keeperRec _ _).framLogged _ _ (fun _ ht => ht.keeperRec _ _)) (h.logNow _ _ _)

/-! ### Interrupts (R352) -/

theorem Kept.msix (v : Nat) : Kept d (e.msix v) := by
  unfold Dev.msix
  exact Kept.ite h (Kept.ite (h.withHost _) (h.send _))

theorem Kept.event (f : Fld) (hf : f.off ≠ 0x308 := by decide) : Kept d (e.event f) := by
  unfold Dev.event
  exact (h.raise _ hf).onlyIf _ _ (fun _ ht => ht.msix _)

theorem Kept.hifFlag (f : Fld) (hf : f.off ≠ 0x308 := by decide) : Kept d (e.hifFlag f) := by
  unfold Dev.hifFlag
  exact (h.raise _ hf).event _

/-! ### Changing the device state (R366) -/

theorem Kept.enter (new cause : Nat) : Kept d (e.enter new cause) := by
  unfold Dev.enter
  exact Kept.ite h (((h.set _ _).event _).logNow _ _ _)

/-! ### Host memory and the SPI windows -/

theorem Kept.hostWrite (a : Nat) (b : List Byte) : Kept d (e.hostWrite a b) := h.trans ⟨e.hostWrite_memWf a b, id⟩

/-! ### Pool views (R31) -/

theorem Kept.setQueue (q : Nat) (x : QueueSt) : Kept d (e.setQueue q x) := by
  unfold Dev.setQueue
  exact h.withHost _

end

end Sys2Proof.Machine
end

section
/-! PROOFS. O5: the grid angle, the converters, the local half-bridges. -/

set_option Elab.async false

namespace Sys2Proof.Machine

section
variable {d e : Dev} (h : Kept d e)
include h

theorem Kept.setAng (a : AngSt) : Kept d (e.setAng a) := by
  unfold Dev.setAng
  exact h.withAng _

theorem Kept.xWait : Kept d e.xWait := by
  unfold Dev.xWait
  exact ((h.set _ _).set _ _).setAng _

theorem Kept.xInvalid : Kept d e.xInvalid := by
  unfold Dev.xInvalid
  exact Kept.ite (((h.set _ _).raise _).setAng _) h

theorem Kept.movePos (x : Int) : Kept d (e.movePos x) := by
  unfold Dev.movePos
  exact h.set _ _

theorem Kept.countNet (x : Int) : Kept d (e.countNet x) := by
  unfold Dev.countNet
  exact Kept.ite (((h.setAng _).raise _).onlyIf _ _ (fun _ ht => ht.xInvalid)) (h.setAng _)

theorem Kept.legalEdge (reverse : Bool) : Kept d (e.legalEdge reverse) := by
  unfold Dev.legalEdge
  exact (((((((Kept.ite h.xWait h).movePos _).setPair _ _ _).setB _ _).onlyIf _ _ (fun _ ht => ht.raise _)).onlyIf _ _
      (fun _ ht => ht.xInvalid)).setAng _).countNet _

theorem Kept.illegalEdge : Kept d e.illegalEdge := by
  unfold Dev.illegalEdge
  extract_lets s0
  have hs0 : Kept d s0 := (h.count _ _).raise _
  exact ((Kept.ite hs0 (hs0.movePos _)).setAng _).onlyIf _ _ (fun _ ht => ht.xInvalid)

theorem Kept.xReturn : Kept d e.xReturn := by
  unfold Dev.xReturn
  exact Kept.ite ((h.set _ _).setAng _) h

theorem Kept.index : Kept d e.index := by
  unfold Dev.index
  exact Kept.ite h (Kept.ite ((((((h.set _ _).setPair _ _ _).onlyIf _ _ (fun _ ht => (ht.count _ _).raise _)).set _ _).setAng _).set _ _)
      (((((h.set _ _).setPair _ _ _).onlyIf _ _ (fun _ ht => (ht.count _ _).raise _)).set _ _).setAng _).xReturn)

theorem Kept.indexKept : Kept d e.indexKept := by
  unfold Dev.indexKept
  exact Kept.ite h (h.index.setAng _)

theorem Kept.beforeIndex (u : IdxUndo) : Kept d (e.beforeIndex u) := by
  unfold Dev.beforeIndex
  extract_lets s0
  have hs0 : Kept d s0 := (h.set _ _).set _ _
  exact ((Kept.ite (hs0.set _ _) hs0).onlyIf _ _ (fun _ ht => (ht.unnoted _ _).unnoted _ _)).setAng _

theorem Kept.edgeThenIndex (reverse : Bool) : Kept d (e.edgeThenIndex reverse) := by
  unfold Dev.edgeThenIndex
  split
  · exact h.legalEdge _
  · exact Kept.ite (h.legalEdge _) ((h.beforeIndex _).legalEdge _).index

theorem Kept.quadrature (a b : Bool) : Kept d (e.quadrature a b) := by
  unfold Dev.quadrature
  dsimp only
  refine Kept.ite (h.setAng _) ?_
  split
  · exact h.setAng _
  · exact (h.setAng _).edgeThenIndex _
  · exact (h.setAng _).edgeThenIndex _
  · exact (h.setAng _).illegalEdge

theorem Kept.angRearm : Kept d e.angRearm := by
  unfold Dev.angRearm
  exact Kept.ite ((h.setAng _).xReturn.setAng _) h

theorem Kept.standstill : Kept d e.standstill := by
  unfold Dev.standstill
  exact Kept.ite h (Kept.ite (((h.raise _).setAng _).set _ _) ((h.raise _).setAng _))

theorem Kept.angWritten (was : Bool) : Kept d (e.angWritten was) := by
  unfold Dev.angWritten
  exact Kept.ite ((h.setAng _).setB _ _).xWait (Kept.ite (h.set _ _) h)

/-! ### The selected angle (R92, R99, R106) -/

theorem Kept.angSelect : Kept d e.angSelect := by
  unfold Dev.angSelect
  exact ((((h.setAng _).setReg _ _).setReg _ _).setB _ _).setB _ _

theorem Kept.windowEnd : Kept d e.windowEnd := by
  unfold Dev.windowEnd
  exact Kept.ite h ((h.setAng _).setB _ _)

theorem Kept.angTick : Kept d e.angTick := by
  unfold Dev.angTick
  exact (((h.setReg _ _).setReg _ _).setAng _).angSelect.onlyIf _ _ (fun _ ht => (ht.raise _).logNow _ _ _)

theorem Kept.angInternal (angle : Nat) (freq : Word) : Kept d (e.angInternal angle freq) := by
  unfold Dev.angInternal
  exact h.setAng _

theorem Kept.setPair_ (p : Nat) (x : PairSt) : Kept d (e.setPair_ p x) := by
  unfold Dev.setPair_
  exact h.withAdc _

theorem Kept.setRun (c : Nat) (r : Option ConvRun) : Kept d (e.setRun c r) := by
  unfold Dev.setRun
  exact h.withAdc _

/-! ### Spare slices (R77) -/

theorem Kept.bgBoundary (c clk : Nat) : Kept d (e.bgBoundary c clk) := by
  unfold Dev.bgBoundary
  dsimp only
  split
  · exact Kept.ite h ((Kept.ite ((h.withAdc _).setB _ _ (by rw [bgAct_off]; decide)) ((((h.withAdc _).setB _ _ (by rw [bgAct_off]; decide)).set _ _
        (by rw [bgPos_off]; decide)).onlyIf _ _ (fun _ ht => ht.set _ _))).withAdc _)
  · exact h

/-! ### Slots -/

theorem Kept.beginConv (c : Nat) (r : ConvRun) : Kept d (e.beginConv c r) := by
  unfold Dev.beginConv
  exact ((h.bgBoundary _ _).setPair_ _ _).setRun _ _

theorem Kept.startConv (c kind idx clk : Nat) : Kept d (e.startConv c kind idx clk) := by
  unfold Dev.startConv
  exact h.beginConv _ _

theorem Kept.startLater (c clk : Nat) : Kept d (e.startLater c clk) := by
  unfold Dev.startLater
  exact h.withAdc _

theorem Kept.calBounds (clk : Nat) : Kept d (e.calBounds clk) := by
  unfold Dev.calBounds
  split
  · exact h
  · exact Kept.ite h (h.forEach _ _ (fun _ _ ht => Kept.ite (ht.bgBoundary _ _) ht))

theorem Kept.calBegin (c clk : Nat) : Kept d (e.calBegin c clk) := by
  unfold Dev.calBegin
  exact ((((h.bgBoundary _ _).withAdc _).setPair_ _ _).startLater _ _).startLater _ _

theorem Kept.nextSlot (c clk : Nat) : Kept d (e.nextSlot c clk) := by
  unfold Dev.nextSlot
  dsimp only
  refine Kept.ite ((h.setRun _ _).calBegin _ _) ?_
  refine Kept.ite (h.setRun _ _) ?_
  split
  · refine Kept.ite ((h.setRun _ _).startConv _ _ _ _) ?_
    refine Kept.ite (h.setRun _ _) ?_
    split
    · exact Kept.ite ((h.setRun _ _).startConv _ _ _ _) (Kept.ite ((h.setRun _ _).startLater _ _) (h.setRun _ _))
    · exact h.setRun _ _
  · exact ((h.setRun _ _).setPair_ _ _).startConv _ _ _ _
  · split
    · exact ((h.setRun _ _).setPair_ _ _).startConv _ _ _ _
    · split
      · exact ((h.setRun _ _).setPair_ _ _).startConv _ _ _ _
      · exact (h.setRun _ _).setPair_ _ _

theorem Kept.ilRestart (p clk : Nat) : Kept d (e.ilRestart p clk) := by
  unfold Dev.ilRestart
  dsimp only
  split
  · exact Kept.ite (h.startLater _ _) h
  · exact h

theorem Kept.slotIfIdle (c clk : Nat) : Kept d (e.slotIfIdle c clk) := by
  unfold Dev.slotIfIdle
  exact Kept.ite (h.nextSlot _ _) h

theorem Kept.slotStarts (clk n : Nat) : Kept d (e.slotStarts clk n) := by
  induction n generalizing e with
  | zero => exact h
  | succ n ih =>
    unfold Dev.slotStarts
    split
    · exact h
    · exact ih ((h.withAdc _).slotIfIdle _ _)

theorem Kept.adcPass (clk : Nat) (at_ : Nat → Nat) : Kept d (e.adcPass clk at_) := by
  unfold Dev.adcPass
  dsimp only
  exact Kept.ite h ((((h.forEach _ _ (fun _ _ ht => by split; exacts [(Kept.ite (ht.beginConv _ _) ht), ht])).calBounds _).slotStarts _ _).forEach
      _ _ (fun _ _ ht => by split; exacts [(Kept.ite (ht.setRun _ _) ht), ht]))

theorem Kept.ovrFlag (n : Nat) : Kept d (e.ovrFlag n) := by
  unfold Dev.ovrFlag
  exact h.raiseBit _ _ ite_ne_free

theorem Kept.markNext (p k : Nat) : Kept d (e.markNext p k) := by
  unfold Dev.markNext
  dsimp only
  exact (h.setPair_ _ _).forEach _ _ (fun _ _ ht => by split; exacts [(Kept.ite (ht.setRun _ _) ht), ht])

theorem Kept.convResult (c cd : Nat) (ovr : Bool) (r : ConvRun) : Kept d (e.convResult c cd ovr r) := by
  unfold Dev.convResult
  exact Kept.ite (((h.setReg _ _ (ne_free (by decide))).setPair _ _ _ (ne_free (by decide)) (ne_free (by decide))).withAdc _)
      (Kept.ite (((h.setReg _ _ (ne_free (by decide))).withAdc _).withAdc _) ((h.setReg _ _ (ne_free (by decide))).withAdc _))

theorem Kept.convEnd (c code oor : Nat) : Kept d (e.convEnd c code oor) := by
  unfold Dev.convEnd
  dsimp only
  split
  · exact h
  · exact Kept.ite h (Kept.ite (((((h.onlyIf _ _ (fun _ ht => ht.ovrFlag _)).onlyIf _ _ (fun _ ht => ht.markNext _ _)).convResult _ _ _ _).setRun _
        _).startLater _ _) ((((((h.onlyIf _ _ (fun _ ht => ht.ovrFlag _)).onlyIf _ _ (fun _ ht => ht.markNext _ _)).convResult _ _ _ _).nextSlot _
        _).onlyIf _ _ (fun _ ht => ht.ilRestart _ _)).slotStarts _ _))

theorem Kept.pairTick (p : Nat) : Kept d (e.pairTick p) := by
  unfold Dev.pairTick
  extract_lets _ s1 _ _ s4 s5
  have hs1 : Kept d s1 := Kept.ite h (h.setPair_ _ _)
  have hs4 : Kept d s4 := Kept.ite (hs1.setPair_ _ _) hs1
  have hs5 : Kept d s5 := hs4.slotIfIdle _ _
  exact Kept.ite hs4 (Kept.ite (Kept.ite hs5 (hs5.startLater _ _)) (Kept.ite hs5 (hs4.ilRestart _ _)))

theorem Kept.adcTick (denied : Nat) : Kept d (e.adcTick denied) := by
  unfold Dev.adcTick
  extract_lets _ _ _ _ _ _ _ s7
  have hs7 : Kept d s7 := ((h.withAdc _).onlyIf _ _ (fun _ ht => ht.raise _)).withAdc _
  exact Kept.ite hs7 (hs7.forEach _ _ (fun _ _ ht => ht.pairTick _))

theorem Kept.adcStop : Kept d e.adcStop := by
  unfold Dev.adcStop
  exact ((h.onlyIf _ _ (fun _ ht => ht.ovrFlag _)).withAdc _).setB _ _

theorem Kept.adcStart : Kept d e.adcStart := by
  unfold Dev.adcStart
  exact h.withAdc _

/-! ### Sample image (R73, R74) -/

theorem Kept.adcStale : Kept d e.adcStale := by
  unfold Dev.adcStale
  exact h.withAdc _

/-! ### Injected conversions (R75, R76) -/

theorem Kept.injLost : Kept d e.injLost := by
  unfold Dev.injLost
  exact (h.raise _).count _ _

theorem Kept.inject (p : Nat) (soft : Bool) : Kept d (e.inject p soft) := by
  unfold Dev.inject
  exact Kept.ite h.injLost (((h.free.setPair_ _ _).set _ _ (ne_free (by decide))).setRun _ _)

theorem Kept.trigLine (line : Nat) : Kept d (e.trigLine line) := by
  unfold Dev.trigLine
  exact Kept.ite (h.send _) (((h.send _).withAdc _).forEach _ _ (fun _ _ ht => Kept.ite (ht.inject _ _) ht))

theorem Kept.trigCmp (i : Nat) : Kept d (e.trigCmp i) := by
  unfold Dev.trigCmp
  exact h.forEach _ _ (fun _ _ ht => Kept.ite (ht.inject _ _) ht)

theorem Kept.jsoft (pairs : Nat) : Kept d (e.jsoft pairs) := by
  unfold Dev.jsoft
  exact h.forEach _ _ (fun _ _ ht => Kept.ite (ht.inject _ _) ht)

/-! ### Clamp senses (R81) -/

theorem Kept.clampOn (n : Nat) : Kept d (e.clampOn n) := by
  unfold Dev.clampOn
  dsimp only
  exact ((h.setPair_ _ _).withAdc _).forEach _ _ (fun _ _ ht => by split; exacts [(Kept.ite (ht.setRun _ _) ht), ht])

theorem Kept.clampOff (n : Nat) : Kept d (e.clampOff n) := by
  unfold Dev.clampOff
  exact Kept.ite (h.setPair_ _ _) h

/-! ### Background calibration (R77, R78) -/

theorem Kept.bgStep (slice phase z f : Nat) : Kept d (e.bgStep slice phase z f) := by
  unfold Dev.bgStep
  extract_lets _ s1 _ s3
  have hs1 : Kept d s1 := by
    dsimp only [s1]
    split
    · exact h.setReg _ _ (ne_free (by decide))
    · exact (h.raise _).onlyIf _ _ (fun _ ht => ht.set _ _)
  have hs3 : Kept d s3 := hs1.withAdc _
  exact Kept.ite h (Kept.ite (hs3.calBounds _) (Kept.ite (hs3.bgBoundary _ _) hs3))

/-! ### System calibration (R79, R80) -/

theorem Kept.calEnd : Kept d e.calEnd := by
  unfold Dev.calEnd
  exact (h.withAdc _).setB _ _

theorem Kept.calAbandon : Kept d e.calAbandon := by
  unfold Dev.calAbandon
  split
  · exact h
  · exact Kept.ite (((((h.onlyIf _ _ (fun _ ht => ht.ovrFlag _)).setPair_ _ _).calEnd.startLater _ _).startLater _ _).slotStarts _ _)
        (h.onlyIf _ _ (fun _ ht => ht.ovrFlag _)).calEnd

theorem Kept.calCh (ch : Nat) : Kept d (e.calCh ch) := by
  unfold Dev.calCh
  exact Kept.ite h ((((((h.calAbandon.set _ _).set _ _).set _ _).set _ _).withAdc _).set _ _)

theorem Kept.calCompute : Kept d e.calCompute := by
  unfold Dev.calCompute
  exact Kept.ite ((((h.set _ _).setReg _ _ (ne_free (by decide))).setReg _ _ (ne_free (by decide))).raiseBit _ _ ite_ne_free) ((h.set _ _).raise _)

theorem Kept.calStep (step : Nat) : Kept d (e.calStep step) := by
  unfold Dev.calStep
  extract_lets _ _ _ _ s4
  have hs4 : Kept d s4 := (h.setB _ _).withAdc _
  exact Kept.ite h (Kept.ite (h.raise _) (Kept.ite h.calCompute (Kept.ite (hs4.calBegin _ _) hs4)))

theorem Kept.calDone (codes : List Nat) (firstB oor : Bool) : Kept d (e.calDone codes firstB oor) := by
  unfold Dev.calDone
  dsimp only
  split
  · exact h
  · exact Kept.ite h (((((Kept.ite ((h.set _ _).raise _) ((h.set _ _).raise _)).withAdc _).withAdc _).onlyIf _ _
        (fun _ ht => ht.ovrFlag _)).forEach _ _ (fun _ _ ht => ht.markNext _ _)).calEnd

theorem Kept.setCh (n : Nat) (c : HbCh) : Kept d (e.setCh n c) := by
  unfold Dev.setCh
  exact h.withHb _

theorem Kept.hbShowQ (n : Nat) : Kept d (e.hbShowQ n) := by
  unfold Dev.hbShowQ
  exact h.set _ _ (ne_free (by decide))

theorem Kept.hbModel (n stamp : Nat) (ends : Bool) : Kept d (e.hbModel n stamp ends) := by
  unfold Dev.hbModel
  exact (h.setCh _ _).hbShowQ _

theorem Kept.hbOut (n stamp out : Nat) : Kept d (e.hbOut n stamp out) := by
  unfold Dev.hbOut
  exact Kept.ite h (((h.hbModel _ _ _).setCh _ _).set _ _ (ne_free (by decide)))

theorem Kept.hbDrive (n stamp : Nat) (high : Bool) : Kept d (e.hbDrive n stamp high) := by
  unfold Dev.hbDrive
  exact Kept.ite (Kept.ite (((h.raise _ (ne_free (by decide))).raise _).count _ _) (h.hbOut _ _ _)) (Kept.ite h ((h.hbOut _ _ _).setCh _ _))

theorem Kept.hbSafe (n stamp : Nat) : Kept d (e.hbSafe n stamp) := by
  unfold Dev.hbSafe
  exact Kept.ite (h.hbOut _ _ _) (Kept.ite (h.setCh _ _) ((h.hbOut _ _ _).setCh _ _))

theorem Kept.hbFault (stamp n : Nat) : Kept d (e.hbFault stamp n) := by
  unfold Dev.hbFault
  exact Kept.ite h (((h.raise _ (ne_free (by decide))).setCh _ _).hbSafe _ _)

theorem Kept.hbTripAll (stamp : Nat) : Kept d (e.hbTripAll stamp) := by
  unfold Dev.hbTripAll
  exact h.forEach _ _ (fun _ _ ht => ht.hbFault _ _)

theorem Kept.hbTransfer (n clk : Nat) : Kept d (e.hbTransfer n clk) := by
  unfold Dev.hbTransfer
  dsimp only
  refine Kept.ite (((h.setCh _ _).set _ _ (ne_free (by decide))).onlyIf _ _ (fun _ ht => ht.raise _)) ?_
  split
  · exact h
  · exact ((h.setCh _ _).setB _ _ (ne_free (by decide))).set _ _ (ne_free (by decide))

theorem Kept.hbBoundary (n stamp : Nat) : Kept d (e.hbBoundary n stamp) := by
  unfold Dev.hbBoundary
  exact Kept.ite h ((((((((((h.hbTransfer _ _).setCh _ _).onlyIf _ _ (fun _ ht => ht.raise _)).hbModel _ _ _).onlyIf _ _
      (fun _ ht => (ht.raise _).count _ _)).setB _ _ (ne_free (by decide))).set _ _ (ne_free (by decide))).set _ _
      (ne_free (by decide))).setCh _ _).onlyIf _ _ (fun _ ht => ht.hbDrive _ _ _))

theorem Kept.hbEdge (n stamp : Nat) : Kept d (e.hbEdge n stamp) := by
  unfold Dev.hbEdge
  dsimp only
  split
  · exact h
  · exact (h.setCh _ _).onlyIf _ _ (fun _ ht => ht.hbDrive _ _ _)

theorem Kept.hbDeadEnd (n stamp : Nat) : Kept d (e.hbDeadEnd n stamp) := by
  unfold Dev.hbDeadEnd
  exact Kept.ite (h.hbOut _ _ _) h

theorem Kept.hbCommit (n : Nat) : Kept d (e.hbCommit n) := by
  unfold Dev.hbCommit
  exact Kept.ite h (Kept.ite ((h.setCh _ _).setB _ _ (ne_free (by decide))) ((h.setCh _ _).set _ _ (ne_free (by decide))))

theorem Kept.hbCommitMask (mask : Nat) : Kept d (e.hbCommitMask mask) := by
  unfold Dev.hbCommitMask
  exact h.forEach _ _ (fun _ _ ht => ht.hbCommit _)

theorem Kept.hbClear (n : Nat) : Kept d (e.hbClear n).2 := by
  unfold Dev.hbClear
  exact Kept.iteSnd h (Kept.iteSnd (h.raise _) ((h.setB _ _ (ne_free (by decide))).setCh _ _))

theorem Kept.hbClearMask (mask : Nat) : Kept d (e.hbClearMask mask).2 := by
  unfold Dev.hbClearMask
  exact h.foldlSnd _ _ _ (fun _ _ ht => ht.hbClear _)

theorem Kept.hbXclrMask (mask : Nat) : Kept d (e.hbXclrMask mask) := by
  unfold Dev.hbXclrMask
  exact h.forEach _ _ (fun _ _ ht => Kept.ite ((ht.setB _ _ (ne_free (by decide))).setCh _ _) ht)

theorem Kept.hbTick : Kept d e.hbTick := by
  unfold Dev.hbTick
  exact h.forEach _ _ (fun _ _ ht => ht.setCh _ _)

theorem Kept.hbDisable (n : Nat) : Kept d (e.hbDisable n) := by
  unfold Dev.hbDisable
  exact (h.hbOut _ _ _).setCh _ _

end

end Sys2Proof.Machine
end

section
/-! PROOFS. O5: the pool, requests, the counter, the station’s ports. -/

set_option Elab.async false

namespace Sys2Proof.Machine

section
variable {d e : Dev} (h : Kept d e)
include h

/-! ### The entries that can be fetched (R349) -/

theorem Kept.setGrant (q : Nat) (g : Option Bool) : Kept d (e.setGrant q g) := by
  unfold Dev.setGrant
  exact h.setQueue _ _

/-! ### Standing requests -/

/-- Requests that keep the memories and the granules when they are served. -/
def KeepsRequests {α : Type} (own : List (Request α)) : Prop := ∀ r ∈ own, ∀ (s : Dev) x, r.2 s = some x → Kept s x.2

omit h in
theorem KeepsRequests.filter {α : Type} {own : List (Request α)} (ho : KeepsRequests own) (p : Request α → Bool) : KeepsRequests (own.filter p) :=
  fun r hr => ho r (List.mem_filter.mp hr).1

omit h in
theorem KeepsRequests.nil {α : Type} : KeepsRequests ([] : List (Request α)) := fun _ hr => absurd hr List.not_mem_nil

theorem Kept.standing {u : Nat} {t : Dev} (ht : e.standing u = some t) : Kept d t := by
  unfold Dev.standing at ht
  split at ht
  · cases ht
  · split at ht
    · split at ht
      · exact h.grantOne ht
      · cases ht
    · split at ht
      · obtain ⟨x, hx, rfl⟩ := Option.map_eq_some_iff.mp ht
        exact (h.allocN hx).setGrant _ _
      · cases ht

/-! ### Serving -/

theorem Kept.serveNext {α : Type} {own : List (Request α)} (ho : KeepsRequests own) {x : Option (Nat × α) × Dev} (hx : e.serveNext own = some x) :
    Kept d x.2 := by
  obtain ⟨u, _, hu⟩ := List.exists_of_findSome?_eq_some hx
  split at hu
  next y hy =>
    obtain ⟨r, hr, hy⟩ := Option.bind_eq_some_iff.mp hy
    cases hu
    exact (h.trans (ho r (List.mem_of_find?_eq_some hr) e y hy)).servedOne u
  next =>
    obtain ⟨t, ht, rfl⟩ := Option.map_eq_some_iff.mp hu
    exact (h.standing ht).servedOne u

theorem Kept.serve {α : Type} (own : List (Request α)) (n : Nat) (ho : KeepsRequests own) : Kept d (e.serve own n).2 := by
  induction n generalizing e own with
  | zero => exact h
  | succ n ih =>
    unfold Dev.serve
    split
    · exact h
    next x t hx => exact ih (h.serveNext ho hx) _ (ho.filter _)

theorem Kept.serveClock {α : Type} (own : List (Request α)) (ho : KeepsRequests own) : Kept d (e.serveClock own).2 := h.poolClk.serve _ _ ho

theorem Kept.standingServed (n : Nat) : Kept d (e.standingServed n) := by
  unfold Dev.standingServed
  exact Kept.ite h ((h.poolClk.serve _ _ KeepsRequests.nil).withPool _)

/-! ### Slewing (R47) -/

theorem Kept.slewed (k : Nat) : Kept d (e.slewed k) := by
  unfold Dev.slewed
  exact h.withClk _

/-! ### The counter (R46) -/

theorem Kept.refPass (k : Nat) : Kept d (e.refPass k) := by
  unfold Dev.refPass
  exact Kept.ite h (Kept.ite h.free (h.free.free.free.withClk _))

theorem Kept.clocksPass (n : Nat) : Kept d (e.clocksPass n) := by
  unfold Dev.clocksPass
  extract_lets _ _ s2 _ s4 s5 s6
  have hs2 : Kept d s2 := ((h.adcPass _ _).slewed _).refPass _
  clear_value s2
  have hs4 : Kept d s4 := ⟨hs2.mem, hs2.granules⟩
  have hs5 : Kept d s5 := Kept.ite (hs4.set _ _) hs4
  have hs6 : Kept d s6 := Kept.ite (hs5.set _ _) hs5
  exact Kept.ite h ((Kept.ite hs6 (hs6.freesServed _)).withClkRegs _)

theorem Kept.pass (n : Nat) : Kept d (e.pass n) := by
  unfold Dev.pass
  exact Kept.ite h ((h.clocksPass _).standingServed _)

theorem Kept.advanceTo (t : Nat) : Kept d (e.advanceTo t) := by
  unfold Dev.advanceTo
  exact Kept.ite h (h.pass _)

theorem Kept.advanceIn (n : Nat) : Kept d (e.advanceIn n) := by
  unfold Dev.advanceIn
  exact h.pass _

theorem Kept.convOver (c code oor : Nat) : Kept d (e.convOver c code oor) := by
  unfold Dev.convOver
  split
  · exact h
  · exact (h.pass _).convEnd _ _ _

theorem Kept.calOver (codes : List Nat) (firstB oor : Bool) : Kept d (e.calOver codes firstB oor) := by
  unfold Dev.calOver
  split
  · exact h
  · exact Kept.ite ((h.pass _).calDone _ _ _) h

theorem Kept.coreClock : Kept d e.coreClock := by
  unfold Dev.coreClock
  exact Kept.ite h (h.pass _)

/-! ### The vault’s time keeper (R425) -/

theorem Kept.keeperCount : Kept d e.keeperCount := by
  unfold Dev.keeperCount
  exact h.withVlt _

theorem Kept.setCounter (t : Nat) : Kept d (e.setCounter t) := by
  unfold Dev.setCounter
  extract_lets s0
  have hs0 : Kept d s0 := h.keeperCount
  clear_value s0
  exact ⟨hs0.mem, hs0.granules⟩

/-! ### Requests that wait for their turn (R28) -/

theorem Kept.serveOwn {α : Type} (own : List (Request α)) (n : Nat) (ho : KeepsRequests own) : Kept d (e.serveOwn own n).2 := by
  induction n generalizing e own with
  | zero => exact h
  | succ n ih =>
    unfold Dev.serveOwn
    split
    · exact h
    · dsimp only
      split
      · exact h.serveClock own ho
      · exact ih ((h.serveClock own ho).clocksPass 1) _ (ho.filter _)

theorem Kept.serveUsers (us : List Nat) (f : Nat → Dev → Option Dev) (hf : ∀ u s t, f u s = some t → Kept s t) : Kept d (e.serveUsers us f) := by
  refine h.serveOwn _ _ (fun r hr s x hx => ?_)
  obtain ⟨u, _, rfl⟩ := List.mem_map.mp hr
  obtain ⟨t, ht, rfl⟩ := Option.map_eq_some_iff.mp hx
  exact hf u s t ht

/-- Users that are each served at once with what `f` does. -/
theorem Kept.serveUsersSome (us : List Nat) (f : Nat → Dev → Dev) (hf : ∀ u s t, Kept s t → Kept s (f u t)) :
    Kept d (e.serveUsers us (fun u t => some (f u t))) :=
  h.serveUsers us _ (fun u s _ ht => Option.some.inj ht ▸ hf u s s (Kept.refl s))

theorem Kept.setKrk (k : KrkSt) : Kept d (e.setKrk k) := by
  unfold Dev.setKrk
  exact h.withKrk _

/-! ### Ports and paths (R260, R263) -/

theorem Kept.portSend (port kind dest : Nat) (x : List Byte) : Kept d (e.portSend port kind dest x) := by
  unfold Dev.portSend
  exact Kept.ite (h.send _) h

theorem Kept.krkSend (kind dest : Nat) (x : List Byte) : Kept d (e.krkSend kind dest x) := by
  unfold Dev.krkSend
  exact h.portSend _ _ _ _

theorem Kept.krkCast (kind : Nat) (x : List Byte) : Kept d (e.krkCast kind x) := by
  unfold Dev.krkCast
  exact h.forEach _ _ (fun _ _ ht => ht.portSend _ _ _ _)

theorem Kept.krkForward (port origin kind : Nat) (x : List Byte) (first : Bool) : Kept d (e.krkForward port origin kind x first) := by
  unfold Dev.krkForward
  extract_lets _ _ s2
  have hs2 : Kept d s2 := Kept.ite h (h.portSend _ _ _ _)
  exact Kept.ite (hs2.forEach _ _ (fun _ _ ht => ht.portSend _ _ _ _)) hs2

theorem Kept.grantEntries : Kept d e.grantEntries := h.serveClock _ KeepsRequests.nil

theorem Kept.request (u n : Nat) : Kept d (e.request u n).2 := by
  refine h.serveOwn _ _ (fun r hr s x hx => ?_)
  obtain rfl := List.mem_singleton.mp hr
  exact (Kept.refl s).allocN hx

theorem Kept.ask (u n : Nat) : Kept d (e.ask u n).2 := by
  unfold Dev.ask
  dsimp only
  refine Kept.iteSnd h ?_
  split
  · exact h.withPool _
  · exact Kept.iteSnd h (h.request _ _)

end

end Sys2Proof.Machine
end

section
/-! PROOFS. O5: operands, Squall, protection, comparators, the laws, the cells. -/

set_option Elab.async false

namespace Sys2Proof.Machine

section
variable {d e : Dev} (h : Kept d e)
include h

/-! ### Status codes (R356) -/

theorem Kept.ansOk : Kept d (ansOk e).1 := by
  unfold Machine.ansOk
  exact h

theorem Kept.ansRes (r : List Byte) : Kept d (ansRes e r).1 := by
  unfold Machine.ansRes
  exact h

theorem Kept.ansBad (status detail : Nat) : Kept d (ansBad e status detail).1 := by
  unfold Machine.ansBad
  exact h

theorem Kept.ansLater : Kept d (ansLater e).1 := by
  unfold Machine.ansLater
  exact h

/-! ### Where a source's data lies (R344) -/

theorem Kept.bulkWrite (src : Src) (a : Nat) (x : List Byte) : Kept d (e.bulkWrite src a x) := by
  refine h.trans ⟨e.bulkWrite_memWf src a x, ?_⟩
  unfold Dev.bulkWrite
  dsimp only
  split
  · exact ((Kept.refl e).krkSend _ _ _).granules
  · split
    · exact id
    · exact id

theorem Kept.faultNote (code : Nat) : Kept d (e.faultNote code) := by
  unfold Dev.faultNote
  exact (h.hifFlag _).logNow _ _ _

theorem Kept.busFault : Kept d e.busFault := by
  unfold Dev.busFault
  exact h.faultNote _

theorem Kept.ansBus : Kept d (ansBus e).1 := by
  unfold Machine.ansBus
  exact h.busFault

theorem Kept.holds (hd : Hold) : Kept d (e.holds hd) := by
  unfold Dev.holds
  exact h.withPool _

theorem Kept.letsGo : Kept d e.letsGo := by
  unfold Dev.letsGo
  exact (h.withPool _).forEach _ _ (fun _ _ ht => ht.freeHold _)

theorem Kept.ansNoSpace (u n : Nat) : Kept d (ansNoSpace e u n).1 := by
  unfold Machine.ansNoSpace
  exact h.noSpace.ansBad _ _

theorem Kept.withLoad (src : Src) (field a n : Nat) (k : Dev → List Byte → Ans) (hk : ∀ t b, Kept d t → Kept d (k t b).1) :
    Kept d (withLoad e src field a n k).1 := by
  unfold Machine.withLoad
  have ha := h.ask (srcUser src) (e.loadNeeds src n)
  refine Kept.iteFst (h.ansBad _ _) ?_
  split
  next ht =>
    rw [ht] at ha
    exact ha.ansNoSpace _ _
  next ht =>
    rw [ht] at ha
    exact Kept.iteFst (ha.holds _).ansBus (hk _ _ (ha.holds _))

theorem Kept.withStore (src : Src) (field a : Nat) (x : List Byte) (k : Dev → Ans) (hk : ∀ t, Kept d t → Kept d (k t).1) :
    Kept d (withStore e src field a x k).1 := by
  unfold Machine.withStore
  have ha := h.ask (srcUser src) (min (cdiv x.length 256) 8)
  refine Kept.iteFst (h.ansBad _ _) ?_
  dsimp only
  split
  next ht =>
    rw [ht] at ha
    exact ha.ansNoSpace _ _
  next ht =>
    rw [ht] at ha
    exact Kept.iteFst (ha.holds _).ansBus (hk _ ((ha.holds _).bulkWrite _ _ _))

theorem Kept.ansWant (src : Src) (p : Packet) (n status : Nat) : Kept d (ansWant e src p n status).1 := by
  unfold Machine.ansWant
  exact Kept.iteFst (h.ansBad _ _) (h.ansBad _ _)

theorem Kept.snapLost (src stamp detail : Nat) : Kept d (e.snapLost src stamp detail) := by
  unfold Dev.snapLost
  exact ((h.raise _).count _ _).withSnp _

theorem Kept.askedBuf (k : Nat) : Kept d (e.askedBuf k) := by
  unfold Dev.askedBuf
  exact h.withSnp _

theorem Kept.freeze (k src stamp detail : Nat) (img : TickImg) (resv : Bool) : Kept d (e.freeze k src stamp detail img resv) := by
  unfold Dev.freeze
  exact (((((h.set _ _ Fld.off_ne).set _ _).count _ _).logAt _ _ _ _ _ _).askedBuf _).withSnp _

theorem Kept.relog (seq k mask : Nat) : Kept d (e.relog seq k mask) := by
  unfold Dev.relog
  exact h.withLog _

theorem Kept.mergeTrig (k seq src detail : Nat) : Kept d (e.mergeTrig k seq src detail) := by
  unfold Dev.mergeTrig
  split
  · exact h
  · exact ((h.set _ _).withSnp _).relog _ _ _

theorem Kept.snapInto (resv : Option Nat) (src stamp detail : Nat) : Kept d (e.snapInto resv src stamp detail).2 := by
  unfold Dev.snapInto
  split
  · exact h.snapLost _ _ _
  · split
    · exact h.mergeTrig _ _ _ _
    · split
      · exact h.snapLost _ _ _
      · exact h.freeze _ _ _ _ _ _

theorem Kept.snapTrigger (src stamp detail : Nat) : Kept d (e.snapTrigger src stamp detail).2 := by
  unfold Dev.snapTrigger
  exact h.snapInto _ _ _ _

theorem Kept.snapDetail (detail : Nat) : Kept d (e.snapDetail detail) := by
  unfold Dev.snapDetail
  dsimp only
  split
  · exact h
  · split
    · exact Kept.ite (h.withSnp _) h
    · exact h

/-! ### Releases (R388) -/

theorem Kept.unlose : Kept d e.unlose := by
  unfold Dev.unlose
  exact ((h.withSnp _).unnoted _ _).unnoted _ _

theorem Kept.snapMoved : Kept d e.snapMoved := by
  unfold Dev.snapMoved
  split
  · exact h
  · split
    · exact h
    · exact ((((h.set _ _ Fld.off_ne).set _ _ Fld.off_ne).askedBuf _).withSnp _).relog _ _ _

theorem Kept.retrigger : Kept d e.retrigger := by
  unfold Dev.retrigger
  exact Kept.ite h (h.unlose.forEach _ _ (fun _ _ ht => ht.snapTrigger _ _ _))

theorem Kept.snapRelease (mask : Nat) : Kept d (e.snapRelease mask) := by
  unfold Dev.snapRelease
  exact Kept.ite h (h.forEach _ _ (fun _ _ ht => (ht.set _ _ Fld.off_ne).withSnp _)).snapMoved.retrigger

/-! ### The tick image (R386, R387) -/

theorem Kept.tickImage (img : TickImg) : Kept d (e.tickImage img) := by
  unfold Dev.tickImage
  extract_lets _ _ _ _ s4
  have hs4 : Kept d s4 := by
    dsimp only [s4]
    split
    · exact h.withSnp _
    · split
      · exact h.withSnp _
      · exact (h.withSnp _).withSnp _
  exact Kept.ite hs4.retrigger hs4

/-! ### Thicket words of the matrix (R237, R247) -/

theorem Kept.thkAll (block : Nat) : Kept d (e.thkAll block) := by
  unfold Dev.thkAll
  exact h.forEach _ _ (fun _ _ ht => Kept.ite ((ht.send _).send _) ht)

/-! ### Setting latches (R288, R289) -/

theorem Kept.tripLog (stamp code : Nat) (first : Bool) : Kept d (e.tripLog stamp code first) := by
  unfold Dev.tripLog
  dsimp only
  split
  · exact h.withImg _
  · exact h.logAt _ _ _ _ _ _

theorem Kept.tripEvent : Kept d e.tripEvent := by
  unfold Dev.tripEvent
  dsimp only
  split
  · exact h.withImg _
  · exact h.event _

theorem Kept.tripsLogged (hd : HoSt) : Kept d (e.tripsLogged hd) := by
  unfold Dev.tripsLogged
  exact (h.forEach _ _ (fun _ _ ht => ht.logAt _ _ _ _ _ _)).onlyIf _ _ (fun _ ht => ht.event _)

theorem Kept.latchOne (stamp code : Nat) (first stop : Bool) : Kept d (e.latchOne stamp code first stop) := by
  unfold Dev.latchOne
  exact ((h.raise _ (ite_ne_free (by decide) (ne_free (by decide)))).thkAll _).tripLog _ _ _

theorem Kept.firstIs (code stamp : Nat) : Kept d (e.firstIs code stamp) := by
  unfold Dev.firstIs
  exact (h.set _ _).setPair _ _ _

theorem Kept.firstNote (wasEmpty : Bool) (low stamp : Nat) : Kept d (e.firstNote wasEmpty low stamp) := by
  unfold Dev.firstNote
  exact Kept.ite (((h.setB _ _).firstIs _ _).withPrt _) (Kept.ite ((h.firstIs _ _).snapDetail _) h)

theorem Kept.tripMove (low : Nat) : Kept d (e.tripMove low) := by
  unfold Dev.tripMove
  exact Kept.ite h ((h.enter _ _).withPrt _)

theorem Kept.tripEnter (low : Nat) : Kept d (e.tripEnter low) := by
  unfold Dev.tripEnter
  dsimp only
  split
  · exact Kept.ite (Kept.ite ⟨h.mem, h.granules⟩ h) (h.tripMove _)
  · exact h.tripMove _

theorem Kept.latch (stamp : Nat) (codes : List Nat) (stop : Bool) : Kept d (e.latch stamp codes stop) := by
  unfold Dev.latch
  dsimp only
  split
  · exact h
  · exact (((((((h.raise _).firstNote _ _ _).onlyIf _ _ (fun _ ht => ((ht.count _ _).raise _).tripEvent)).forEach _ _
        (fun _ _ ht => ht.latchOne _ _ _ _)).hbTripAll _).withPrt _).onlyIf _ _ (fun _ ht => ht.snapTrigger _ _ _)).onlyIf _ _
        (fun _ ht => ht.tripEnter _)

theorem Kept.matrix : Kept d e.matrix := by
  unfold Dev.matrix
  exact Kept.ite (h.latch _ _ _) h

/-! ### Clearing latches (R292, R293) -/

theorem Kept.unlatch (code : Nat) : Kept d (e.unlatch code) := by
  unfold Dev.unlatch
  exact (h.set _ _ (ite_ne_free (by decide) (ne_free (by decide)))).setB _ _

theorem Kept.clearRefused : Kept d e.clearRefused := by
  unfold Dev.clearRefused
  exact (h.raise _).count _ _

theorem Kept.clearLatches (codes : List Nat) : Kept d (e.clearLatches codes) := by
  unfold Dev.clearLatches
  exact h.forEach _ _ (fun _ _ ht => Kept.ite ht.clearRefused (Kept.ite ht (ht.unlatch _)))

theorem Kept.latWrite (off : Nat) (w : Word) : Kept d (e.latWrite off w) := by
  unfold Dev.latWrite
  exact h.forEach _ _ (fun _ _ ht => Kept.ite ht.clearRefused (ht.clearLatches _))

/-! ### The station loop (R294–R297) -/

theorem Kept.setLoop (k : Nat) (b : Bool) : Kept d (e.setLoop k b) := by
  unfold Dev.setLoop
  exact h.setB _ _ Fld.off_ne

theorem Kept.tripIn (k : Nat) (level : Bool) (tdc : Nat) : Kept d (e.tripIn k level tdc) := by
  unfold Dev.tripIn
  extract_lets _ _ _ s3 _ s5
  have hs3 : Kept d s3 := (h.withPrt _).setB _ _ Fld.off_ne
  have hs5 : Kept d s5 := by
    dsimp only [s5]
    split
    · exact Kept.ite (hs3.withPrt _) hs3
    · exact hs3
  exact Kept.ite (h.withPrt _) (Kept.ite ((hs5.setLoop _ _).latch _ _ _) hs5)

theorem Kept.loopDiscrepancy : Kept d e.loopDiscrepancy := by
  unfold Dev.loopDiscrepancy
  exact Kept.ite ((h.raise _).logNow _ _ _) h

/-! ### PRT_TRIP_CLEAR (R293, R296) -/

theorem Kept.clearOutcome (tag : Nat) : Kept d (e.clearOutcome tag).1 := by
  unfold Dev.clearOutcome
  exact Kept.iteFst (Kept.ite ((h.setReg _ _).enter _ _) (h.setReg _ _)) (h.raise _)

theorem Kept.clearStep1 : Kept d e.clearStep1 := by
  unfold Dev.clearStep1
  exact h.clearLatches _

theorem Kept.clearChannels : Kept d e.clearChannels := by
  unfold Dev.clearChannels
  exact h.hbClearMask _

theorem Kept.bodyTripClear (src : Src) (p : Packet) : Kept d (bodyTripClear src p e).1 := by
  unfold Machine.bodyTripClear
  extract_lets _ _ _ s3
  have hs3 : Kept d s3 := h.onlyIf _ _ (fun _ ht => ht.clearStep1)
  exact Kept.iteFst (hs3.ansBad _ _) (Kept.iteFst ((((hs3.setLoop _ _).setLoop _ _).raise _).withPrt _).ansLater
      ((hs3.onlyIf _ _ (fun _ ht => ht.clearChannels)).clearOutcome _))

theorem Kept.loopAccept (k : Nat) : Kept d (e.loopAccept k) := by
  unfold Dev.loopAccept
  extract_lets s0
  have hs0 : Kept d s0 := h.setB _ _ Fld.off_ne
  exact Kept.ite h (Kept.ite ((hs0.setLoop _ _).latch _ _ _) hs0)

theorem Kept.blankEnd : Kept d e.blankEnd.1 := by
  unfold Dev.blankEnd
  dsimp only
  split
  · exact h
  · exact ((((h.set _ _).withPrt _).forEach _ _ (fun _ _ ht => Kept.ite ((ht.loopAccept _).onlyIf _ _ (fun _ hu => hu.clearRefused))
        ((ht.loopAccept _).onlyIf _ _ (fun _ hu => hu.unlatch _)))).onlyIf _ _ (fun _ ht => ht.clearChannels)).clearOutcome _

/-! ### Overrun (R61, R62) -/

theorem Kept.ovrNote (cause frame : Nat) : Kept d (e.ovrNote cause frame) := by
  unfold Dev.ovrNote
  exact Kept.ite ((h.set _ _).set _ _) h

theorem Kept.overrun (cause : Nat) : Kept d (e.overrun cause) := by
  unfold Dev.overrun
  exact (((((h.ovrNote _ _).raise _).logNow _ _ _).withFrm _).latch _ _ _).onlyIf _ _ (fun _ ht => ht.free.snapTrigger _ _ _)

theorem Kept.bodyTripForce (_src : Src) (_p : Packet) : Kept d (bodyTripForce _src _p e).1 := by
  unfold Machine.bodyTripForce
  exact (h.latch _ _ _).ansOk

theorem Kept.wakeRequest : Kept d e.wakeRequest := by
  unfold Dev.wakeRequest
  exact (h.raise _).vaultLog _ _

theorem Kept.cmpEdge (i : Nat) (exit : Bool) (stamp : Nat) : Kept d (e.cmpEdge i exit stamp) := by
  unfold Dev.cmpEdge
  extract_lets _ s1
  have hs1 : Kept d s1 := (h.setB _ _ Fld.off_ne).raiseBit _ _ ite_ne_free
  exact (((((Kept.ite (hs1.withCmp _) hs1).onlyIf _ _ (fun _ ht => ht.event _)).onlyIf _ _ (fun _ ht => ht.wakeRequest)).onlyIf _ _
      (fun _ ht => ht.latch _ _ _)).onlyIf _ _ (fun _ ht => ht.trigCmp _)).onlyIf _ _ (fun _ ht => ht.snapTrigger _ _ _)

theorem Kept.cmpEval (i : Nat) (v : Int) (tdc : Nat) : Kept d (e.cmpEval i v tdc) := by
  unfold Dev.cmpEval
  extract_lets _ _ s2
  have hs2 : Kept d s2 := h.setB _ _ Fld.off_ne
  exact Kept.ite (hs2.cmpEdge _ _ _) (Kept.ite (hs2.cmpEdge _ _ _) hs2)

theorem Kept.cmpInput (i : Nat) (v : Int) (tdc : Nat) : Kept d (e.cmpInput i v tdc) := by
  unfold Dev.cmpInput
  exact Kept.ite (h.cmpEval _ _ _) h

theorem Kept.cmpPowered (i : Nat) (v : Int) (tdc : Nat) : Kept d (e.cmpPowered i v tdc) := by
  unfold Dev.cmpPowered
  exact Kept.ite ((h.withCmp _).cmpInput _ _ _) h

theorem Kept.cmpSettled (i : Nat) (v : Int) (tdc : Nat) : Kept d (e.cmpSettled i v tdc) := by
  unfold Dev.cmpSettled
  exact Kept.ite ((h.withCmp _).cmpInput _ _ _) h

theorem Kept.cmpWritten (i : Nat) (old : Word) : Kept d (e.cmpWritten i old) := by
  unfold Dev.cmpWritten
  exact Kept.ite (Kept.ite (h.withCmp _) h) (((h.setB _ _ Fld.off_ne).setB _ _ Fld.off_ne).withCmp _)

/-! ### Access -/

theorem Kept.setCells (c : CellsSt) : Kept d (e.setCells c) := by
  unfold Dev.setCells
  exact h.withCells _

theorem Kept.setCell (pos : Nat) (c : CellSt) : Kept d (e.setCell pos c) := by
  unfold Dev.setCell
  exact h.setCells _

/-! ### The run -/

theorem Kept.putCells (l : List SweepCell) : Kept d (e.putCells l) := by
  unfold Dev.putCells
  exact h.setCells _

theorem Kept.ivAbort : Kept d e.ivAbort := by
  unfold Dev.ivAbort
  exact (h.forEach _ _ (fun _ _ ht => ht.setCell _ _)).setCells _

theorem Kept.logCell (src code pos data : Nat) : Kept d (e.logCell src code pos data) := by
  unfold Dev.logCell
  exact h.logAt _ _ _ _ _ _

theorem Kept.sweepRun (b : List Byte) (ins : List Word) (ts : Word) (sum : Nat → Word) : Kept d (e.sweepRun b ins ts sum).1 := by
  unfold Dev.sweepRun
  extract_lets _ _ s2
  have hs2 : Kept d s2 := (Kept.ite h (h.onlyIf _ _ (fun _ ht => ht.ivAbort))).onlyIf _ _ (fun _ ht => ht.count _ _)
  exact ((((((Kept.iteSnd hs2.free hs2).putCells _).setCells _).forEach _ _ (fun _ _ ht => ht.logCell _ _ _ _)).forEach _ _
      (fun _ _ ht => ht.logCell _ _ _ _)).setCells _).withPrt _

/-! ### MPPT (R154, R155) -/

theorem Kept.ivFrame : Kept d e.ivFrame := by
  unfold Dev.ivFrame
  exact Kept.ite h (h.setCells _)

theorem Kept.mpptItem : Kept d e.mpptItem := by
  unfold Dev.mpptItem
  split
  · exact h
  · exact Kept.ite (h.putCells _).ivFrame h

/-! ### The I–V sweep (R157, R158) -/

theorem Kept.ivGo (b : List Byte) (k : Nat) : Kept d (e.ivGo b k) := by
  unfold Dev.ivGo
  exact h.forEach _ _ (fun _ _ ht => by split; exacts [(ht.setCell _ _), ht])

theorem Kept.ivBegin (b : List Byte) (cmd : Bool) (now : List Nat) (later : List (List Nat)) : Kept d (e.ivBegin b cmd now later) := by
  unfold Dev.ivBegin
  exact ((h.forEach _ _ (fun _ _ ht => ht.setCell _ _)).setCells _).ivGo _ _

theorem Kept.ivScheduled : Kept d e.ivScheduled := by
  unfold Dev.ivScheduled
  dsimp only
  refine Kept.ite h ?_
  refine Kept.ite (h.setCells _) ?_
  split
  · exact Kept.ite (h.ivBegin _ _ _ _) h
  · exact h

theorem Kept.ivFinish (b : List Byte) (v : IvCell) : Kept d (e.ivFinish b v) := by
  unfold Dev.ivFinish
  dsimp only
  split
  · exact h
  · exact Kept.ite ((h.setCell _ _).setCells _) (h.setCell _ _)

theorem Kept.ivPointEnd : Kept d e.ivPointEnd := by
  unfold Dev.ivPointEnd
  dsimp only
  split
  · exact h
  · refine Kept.ite h ?_
    refine Kept.ite ((h.setCells _).ivGo _ _) ?_
    split
    · exact ((h.setCells _).forEach _ _ (fun _ _ ht => ht.ivFinish _ _)).setCells _
    · exact (((h.setCells _).forEach _ _ (fun _ _ ht => ht.ivFinish _ _)).setCells _).ivBegin _ _ _ _

theorem Kept.rotationDue : Kept d e.rotationDue := by
  unfold Dev.rotationDue
  exact Kept.ite h (h.setCells _)

/-! ### Opcodes 0x30–0x39 (R168) -/

theorem Kept.newMap (m : List Byte) : Kept d (e.newMap m) := by
  unfold Dev.newMap
  exact h.setCells _

theorem Kept.bodyCellMapRead (src : Src) (p : Packet) : Kept d (bodyCellMapRead src p e).1 := by
  unfold Machine.bodyCellMapRead
  dsimp only
  exact h.withStore _ _ _ _ _ (fun _ ht => ht.ansOk)

theorem Kept.bodyCellStatusRead (src : Src) (p : Packet) : Kept d (bodyCellStatusRead src p e).1 := by
  unfold Machine.bodyCellStatusRead
  dsimp only
  split
  · exact h.ansBad _ _
  · exact h.withStore _ _ _ _ _ (fun _ ht => ht.ansOk)

theorem Kept.bodyCellBypass (_src : Src) (p : Packet) : Kept d (bodyCellBypass _src p e).1 := by
  unfold Machine.bodyCellBypass
  dsimp only
  split
  · exact h.ansBad _ _
  · exact (h.setCells _).ansOk

theorem Kept.bodyCellRestore (_src : Src) (p : Packet) : Kept d (bodyCellRestore _src p e).1 := by
  unfold Machine.bodyCellRestore
  split
  · exact h.ansBad _ _
  · exact (h.forEach _ _ (fun _ _ ht => Kept.ite (ht.setCell _ _) ht)).ansOk

theorem Kept.bodyCellIvSweep (_src : Src) (p : Packet) : Kept d (bodyCellIvSweep _src p e).1 := by
  unfold Machine.bodyCellIvSweep
  dsimp only
  split
  · exact h.ansBad _ _
  · refine Kept.iteFst (h.ansBad _ _) ?_
    refine Kept.iteFst (h.ansBad _ _) ?_
    split
    · exact h.ansBad _ _
    · exact ((h.setCells _).ivBegin _ _ _ _).ansOk

theorem Kept.ivPoints (x : IvRes) : Kept d (e.ivPoints x).2 := by
  unfold Dev.ivPoints
  exact Kept.iteSnd h (h.foldlSnd _ _ _ (fun _ _ ht => ht.free.free))

theorem Kept.bodyCellIvRead (src : Src) (p : Packet) : Kept d (bodyCellIvRead src p e).1 := by
  unfold Machine.bodyCellIvRead
  dsimp only
  split
  · exact h.ansBad _ _
  · split
    · exact h.ansWant _ _ _ _
    · exact (h.ivPoints _).withStore _ _ _ _ _ (fun _ ht => ht.ansOk)

theorem Kept.vrefTake (r : CellRec) : Kept d (e.vrefTake r) := by
  unfold Dev.vrefTake
  dsimp only
  split
  · exact h
  · exact h.setCell _ _

theorem Kept.vrefTick : Kept d e.vrefTick := by
  unfold Dev.vrefTick
  exact h.forEach _ _ (fun _ _ ht => ht.vrefTake _)

theorem Kept.bodyCellVrefSet (src : Src) (p : Packet) : Kept d (bodyCellVrefSet src p e).1 := by
  unfold Machine.bodyCellVrefSet
  dsimp only
  split
  · exact h.ansBad _ _
  · exact Kept.iteFst (h.ansBad _ _) (Kept.iteFst (h.ansBad _ _) (h.forEach _ _ (fun _ _ ht => Kept.ite (ht.setCell _ _) ht)).ansOk)

theorem Kept.bodyCellSocSet (_src : Src) (p : Packet) : Kept d (bodyCellSocSet _src p e).1 := by
  unfold Machine.bodyCellSocSet
  dsimp only
  split
  · exact h.ansBad _ _
  · exact Kept.iteFst (h.ansBad _ _) (Kept.iteFst (h.ansBad _ _) (h.forEach _ _ (fun _ _ ht => ht.setCell _ _)).ansOk)

theorem Kept.bodyCellRotate (_src : Src) (p : Packet) : Kept d (bodyCellRotate _src p e).1 := by
  unfold Machine.bodyCellRotate
  dsimp only
  exact Kept.iteFst (h.setCells _).ansOk (Kept.iteFst (h.ansBad _ _) (h.setCells _).ansOk)

theorem Kept.cellsLeaveConfig : Kept d e.cellsLeaveConfig := by
  unfold Dev.cellsLeaveConfig
  exact (h.forEach _ _ (fun _ _ ht => ht.setCell _ _)).setCells _

end

end Sys2Proof.Machine
end

section
/-! PROOFS. O5: the rings, the station, the modulator, the grid. -/

set_option Elab.async false

namespace Sys2Proof.Machine

section
variable {d e : Dev} (h : Kept d e)
include h

theorem Kept.setRing (r : Nat) (x : RingSt) : Kept d (e.setRing r x) := by
  unfold Dev.setRing
  exact h.withThk _

/-! ### Blocks (R235, R237, R238) -/

theorem Kept.crcErr (r : Nat) : Kept d (e.crcErr r) := by
  unfold Dev.crcErr
  exact (h.raise _).count _ _ (ne_free (by decide))

theorem Kept.sendRecord (r dest kind gen : Nat) (ws : List Word) : Kept d (e.sendRecord r dest kind gen ws) := by
  unfold Dev.sendRecord
  exact h.send _

theorem Kept.sendAll (r kind gen : Nat) (ws : List Word) : Kept d (e.sendAll r kind gen ws) := by
  unfold Dev.sendAll
  exact Kept.ite ((h.send _).send _) (h.send _)

theorem Kept.sendBoth (r dest kind gen : Nat) (ws : List Word) : Kept d (e.sendBoth r dest kind gen ws) := by
  unfold Dev.sendBoth
  exact (h.send _).send _

/-! ### Discovery (R241) -/

theorem Kept.discStart (r : Nat) : Kept d (e.discStart r) := by
  unfold Dev.discStart
  exact Kept.ite (h.set _ _ (ne_free (by decide))) ((((h.setReg _ _ (ne_free (by decide))).set _ _ (ne_free (by decide))).setRing _ _).send _)

theorem Kept.discFinish (r : Nat) : Kept d (e.discFinish r) := by
  unfold Dev.discFinish
  exact Kept.ite (((h.forEach _ _ (fun _ _ ht => ht.sendRecord _ _ _ _ _)).setRing _ _).set _ _ (ne_free (by decide))) h

theorem Kept.discReturn (r : Nat) (west : Bool) (payload arr : Nat) : Kept d (e.discReturn r west payload arr) := by
  unfold Dev.discReturn
  extract_lets _ _ s2
  have hs2 : Kept d s2 := (h.set _ _ (ne_free (by decide))).set _ _ (ne_free (by decide))
  exact Kept.ite (h.crcErr _) (Kept.ite (Kept.ite ((h.set _ _ (ne_free (by decide))).discFinish _) h)
      (Kept.ite h (Kept.ite (((hs2.setRing _ _).set _ _ (ne_free (by decide))).raise _) (((hs2.setRing _ _).send _).discFinish _))))

/-! ### Served lengths and budgets (R254, R257, R258) -/

theorem Kept.thkBudget : Kept d e.thkBudget := by
  unfold Dev.thkBudget
  exact (h.set _ _).set _ _

/-! ### Telemetry (R244–R246) -/

theorem Kept.collectSend : Kept d e.collectSend := by
  unfold Dev.collectSend
  exact h.forEach _ _ (fun _ _ ht => (Kept.ite (ht.send _) ht).send _)

theorem Kept.setNode (r c : Nat) (x : NodeSt) : Kept d (e.setNode r c x) := by
  unfold Dev.setNode
  exact h.setRing _ _

theorem Kept.thkConsume (u : Nat) : Kept d (e.thkConsume u) := by
  unfold Dev.thkConsume
  exact Kept.ite (h.linkConsume _ _) h

theorem Kept.sweepData (pos : Nat) (ws : List Word) : Kept d (e.sweepData pos ws) := by
  unfold Dev.sweepData
  dsimp only
  refine Kept.ite (h.setCells _) ?_
  split
  · exact h.setCells _
  · exact h

theorem Kept.extTel (r c kind : Nat) (ws : List Word) : Kept d (e.extTel r c kind ws) := by
  unfold Dev.extTel
  extract_lets _ _ _ _ s4
  have hs4 : Kept d s4 := ((h.setNode _ _ _).linkData _ _).thkConsume _
  exact Kept.ite (Kept.ite (hs4.sweepData _ _) (hs4.logCell _ _ _ _)) ((h.raise _).count _ _ (ne_free (by decide)))

theorem Kept.thkWithdraw : Kept d e.thkWithdraw := by
  unfold Dev.thkWithdraw
  exact h.withThk _

theorem Kept.resvEmpty : Kept d e.resvEmpty := by
  unfold Dev.resvEmpty
  exact (h.raise _).overrun _

theorem Kept.critical (u n : Nat) (f : Dev → Dev) (hf : ∀ t, Kept d t → Kept d (f t)) : Kept d (e.critical u n f) := by
  unfold Dev.critical
  exact Kept.ite (hf _ (h.critTake _ _)) h.resvEmpty

theorem Kept.telemRec (r : Nat) (held : Nat → Bool) (t : TelemRec) : Kept d (e.telemRec r held t) := by
  unfold Dev.telemRec
  dsimp only
  refine Kept.ite (Kept.ite h (h.crcErr _)) ?_
  refine Kept.ite (h.crcErr _) ?_
  split
  · exact Kept.ite (h.crcErr _) (Kept.ite (h.setCells _) h)
  · exact (h.setNode _ _ _).discFinish _
  · exact h.extTel _ _ _ _

theorem Kept.telemReceived (r : Nat) (recs : List TelemRec) : Kept d (e.telemReceived r recs) := by
  unfold Dev.telemReceived
  exact (h.serveUsersSome _ _ (fun _ _ _ ht => ht.critical _ _ _ (fun _ hu => hu))).forEach _ _ (fun _ _ ht => ht.telemRec _ _ _)

theorem Kept.telemLatch : Kept d e.telemLatch := by
  unfold Dev.telemLatch
  exact ((h.forEach _ _ (fun _ _ ht => (ht.onlyIf _ _ (fun _ hu => hu.count _ _ (ne_free (by decide)))).setCells _)).forEach _ _
      (fun _ _ ht => ht.critFree _ _)).setCells _

/-! ### Credits (R26, R246) -/

theorem Kept.creditOne {u : Nat} {t : Dev} (ht : e.creditOne u = some t) : Kept d t := by
  unfold Dev.creditOne at ht
  split at ht
  next hg =>
    obtain rfl := Option.some.inj ht
    exact ((h.grantOne hg).setNode _ _ _).send _
  next => cases ht

theorem Kept.thkCredits : Kept d e.thkCredits := by
  unfold Dev.thkCredits
  exact (h.forEach _ _ (fun _ _ ht => ht.thkConsume _)).forEach _ _ (fun _ _ ht => ht.serveUsers _ _ (fun _ s _ hs => (Kept.refl s).creditOne hs))

/-! ### Alarms (R248) -/

theorem Kept.alarmReceived (r payload : Nat) : Kept d (e.alarmReceived r payload) := by
  unfold Dev.alarmReceived
  exact Kept.ite (h.crcErr _) ((((h.raise _).setReg _ _).withPrt _).latch _ _ _)

/-! ### Folds and heals (R252–R256) -/

theorem Kept.foldPlan (r st x w : Nat) : Kept d (e.foldPlan r st x w) := by
  unfold Dev.foldPlan
  exact (h.setReg _ _ (ne_free (by decide))).onlyIf _ _ (fun _ ht => ht.raise _)

theorem Kept.foldDeclare (r st x w : Nat) : Kept d (e.foldDeclare r st x w) := by
  unfold Dev.foldDeclare
  exact ((((h.setRing _ _).foldPlan _ _ _ _).raise _).count _ _ (ne_free (by decide))).logNow _ _ _

theorem Kept.ringIntact (r : Nat) : Kept d (e.ringIntact r) := by
  unfold Dev.ringIntact
  exact ((((h.setReg _ _ (ne_free (by decide))).set _ _ (ne_free (by decide))).setRing _ _).raise _).logNow _ _ _

theorem Kept.unloopBoth (r : Nat) : Kept d (e.unloopBoth r) := by
  unfold Dev.unloopBoth
  extract_lets _ one _
  have hone : ∀ n t, Kept d t → Kept d (one n t) := fun n t ht => by
    cases n with
    | none => exact ht
    | some y => exact ht.sendRecord _ _ _ _ _
  exact (hone _ _ (hone _ _ h)).setRing _ _

theorem Kept.loopNotice (r payload : Nat) : Kept d (e.loopNotice r payload) := by
  unfold Dev.loopNotice
  extract_lets _ _ s2
  have hs2 : Kept d s2 := h.setRing _ _
  refine Kept.ite (h.crcErr _) ?_
  refine Kept.ite h ?_
  refine Kept.ite ?_ (Kept.ite (Kept.ite (hs2.foldDeclare _ _ _ _) (hs2.onlyIf _ _ (fun _ ht => ht.unloopBoth _))) hs2)
  split
  · exact hs2.foldDeclare _ _ _ _
  · exact hs2

theorem Kept.thkHeal (r : Nat) : Kept d (e.thkHeal r) := by
  unfold Dev.thkHeal
  exact Kept.ite (Kept.ite (h.setRing _ _) (h.raise _)) (Kept.ite (h.unloopBoth _) (h.raise _))

theorem Kept.thkRediscover (r : Nat) : Kept d (e.thkRediscover r) := by
  unfold Dev.thkRediscover
  exact Kept.ite (h.discStart _) (h.raise _)

theorem Kept.multiHealEnd (r : Nat) : Kept d (e.multiHealEnd r) := by
  unfold Dev.multiHealEnd
  extract_lets _ _ s2
  have hs2 : Kept d s2 := h.setRing _ _
  exact Kept.ite h (Kept.ite (hs2.ringIntact _) (hs2.foldPlan _ _ _ _))

/-! ### The tick (R240, R247, R252, R255, R256) -/

theorem Kept.thkHealed : Kept d e.thkHealed := by
  unfold Dev.thkHealed
  exact h.forEach _ _ (fun _ _ ht => ht.onlyIf _ _ (fun _ hu => hu.ringIntact _))

theorem Kept.fsSend (u : Nat) : Kept d (e.fsSend u) := by
  unfold Dev.fsSend
  exact h.critical _ _ _ (fun _ ht => (ht.free.send _).critFree _ _)

theorem Kept.tripRepeat (u : Nat) : Kept d (e.tripRepeat u) := by
  unfold Dev.tripRepeat
  exact h.onlyIf _ _ (fun _ ht => ht.send _)

theorem Kept.ringTick (r : Nat) : Kept d (e.ringTick r) := by
  unfold Dev.ringTick
  extract_lets _ s1
  have hs1 : Kept d s1 := Kept.ite ((h.sendBoth _ _ _ _ _).setRing _ _) h
  refine Kept.ite ?_ hs1
  split
  · exact hs1.send _
  · exact hs1.send _
  · exact hs1

theorem Kept.thkTick : Kept d e.thkTick := by
  unfold Dev.thkTick
  exact ((h.serveUsersSome _ _ (fun _ _ _ ht => ht.fsSend _)).forEach _ _ (fun _ _ ht => ht.tripRepeat _)).forEach _ _ (fun _ _ ht => ht.ringTick _)

/-! ### Edge records on the ring (R243, R253, R254) -/

theorem Kept.laneSend (recs : List EdgeRec) (u : Nat) : Kept d (e.laneSend recs u) := by
  unfold Dev.laneSend
  exact Kept.ite h (h.critical _ _ _ (fun _ ht => (ht.forEach _ _ (fun _ _ hu => hu.send _)).critFree _ _))

theorem Kept.thkDispatch (recs : List EdgeRec) : Kept d (e.thkDispatch recs) := by
  unfold Dev.thkDispatch
  exact h.serveUsersSome _ _ (fun _ _ _ ht => ht.laneSend _ _)

/-! ### Membership registers -/

theorem Kept.member (m : Nat) : Kept d (e.member m) := by
  unfold Dev.member
  exact Kept.ite h ((h.set _ _).event _)

theorem Kept.setReach (i : Nat) (b : Bool) : Kept d (e.setReach i b) := by
  unfold Dev.setReach
  exact h.setB _ _ (ne_free (by decide))

/-! ### Joining (R268) -/

theorem Kept.joinDone : Kept d e.joinDone := by
  unfold Dev.joinDone
  exact ((((((((h.set _ _).set _ _).set _ _).set _ _).set _ _).setKrk _).member _).withGrid _).setReach _ _

theorem Kept.joinFail (c : Nat × Nat) : Kept d (e.joinFail c).1 := by
  unfold Dev.joinFail
  dsimp only
  exact ((h.raise _).setKrk _).forEach _ _ (fun _ _ ht => ht.set _ _ (ne_free (by decide)))

theorem Kept.identitySend (port dest code : Nat) : Kept d (e.identitySend port dest code) := by
  unfold Dev.identitySend
  exact h.portSend _ _ _ _

theorem Kept.identityOn (port : Nat) (x : Ident) : Kept d (e.identityOn port x) := by
  unfold Dev.identityOn
  exact (h.setKrk _).krkForward _ _ _ _ _

theorem Kept.bodyStnJoin (src : Src) (p : Packet) : Kept d (bodyStnJoin src p e).1 := by
  unfold Machine.bodyStnJoin
  dsimp only
  refine Kept.iteFst (h.ansBad _ _) (Kept.iteFst (h.ansRes _) (Kept.iteFst (h.ansBad _ _) ?_))
  split
  · next c _ => exact (h.setKrk _).joinFail c
  · exact Kept.iteFst ((h.setKrk _).joinDone.ansRes _) (((h.setKrk _).forEach _ _ (fun _ _ ht =>
        (Kept.ite ht (ht.set _ _ (ne_free (by decide)))).identitySend _ _ _)).setKrk _).ansLater

theorem Kept.neighbourShown (port : Nat) (x : Ident) : Kept d (e.neighbourShown port x) := by
  unfold Dev.neighbourShown
  exact Kept.ite (h.set _ _ (ne_free (by decide))) h

theorem Kept.identity (port : Nat) (peer : Option Ident) (last : Bool) (kproto : Nat) : Kept d (e.identity port peer last kproto).1 := by
  unfold Dev.identity
  extract_lets s1 _ s2 bad _
  have hs1 : Kept d s1 := by
    dsimp only [s1]
    split
    · exact h.neighbourShown _ _
    · exact h
  have hs2 : Kept d s2 := by
    dsimp only [s2]
    split
    · exact hs1.setKrk _
    · exact hs1
  split
  · split
    · exact Kept.ite (hs1.identitySend _ _ _) hs1
    · exact hs1
  · clear_value bad
    refine Kept.iteFst (hs2.joinFail (0, 0)) ?_
    cases bad with
    | some c => exact hs2.joinFail c
    | none => exact Kept.iteFst hs2.joinDone hs2

theorem Kept.leaveStation : Kept d e.leaveStation := by
  unfold Dev.leaveStation
  extract_lets _ _ _ _ _ s5 _ _ s8
  have hs5 : Kept d s5 := (((((h.member _).setKrk _).forEach _ _ (fun _ _ ht => ht.setReg _ _ (ne_free (by decide)))).forEach _ _
      (fun _ _ ht => ht.setReg _ _ (ne_free (by decide)))).setReg _ _).set _ _
  clear_value s5
  have hs8 : Kept d s8 := ⟨hs5.mem, hs5.granules⟩
  exact (hs8.setB _ _).withClk _

/-! ### Heartbeats and reachability (R269) -/

theorem Kept.blockIn (port : Nat) (ok : Bool) (f : Dev → Dev) (hf : ∀ t, Kept d t → Kept d (f t)) : Kept d (e.blockIn port ok f) := by
  unfold Dev.blockIn
  exact Kept.ite h (Kept.ite (h.count _ _ (ne_free (by decide))) (hf _ h))

theorem Kept.heartbeat (port chip frame state kproto : Nat) : Kept d (e.heartbeat port chip frame state kproto) := by
  unfold Dev.heartbeat
  exact Kept.ite (h.krkForward _ _ _ _ _) (Kept.ite h (((h.setKrk _).setReach _ _).krkForward _ _ _ _ _))

theorem Kept.heartbeatSend (kproto : Nat) : Kept d (e.heartbeatSend kproto) := by
  unfold Dev.heartbeatSend
  exact Kept.ite ((h.krkCast _ _).forEach _ _ (fun _ _ ht => ht.portSend _ _ _ _)) h

theorem Kept.judge (chip : Nat) : Kept d (e.judge chip) := by
  unfold Dev.judge
  exact Kept.ite (((h.setKrk _).setKrk _).setReach _ _) (h.setKrk _)

/-! ### The partition rule (R270) -/

theorem Kept.parentFollow : Kept d e.parentFollow := by
  unfold Dev.parentFollow
  exact Kept.ite h (h.set _ _)

theorem Kept.timeSource : Kept d e.timeSource := by
  unfold Dev.timeSource
  extract_lets _ _ _ _ _ _ _ _ _ _ _ _ _ s13
  have hs13 : Kept d s13 := ((((h.onlyIf _ _ (fun _ ht => ht.raise _)).set _ _).setB _ _).parentFollow.setKrk _).withClk _
  exact Kept.ite ((((h.set _ _).setB _ _).setKrk _).withClk _) (Kept.ite (hs13.setB _ _) hs13)

theorem Kept.orphanEntry : Kept d e.orphanEntry := by
  unfold Dev.orphanEntry
  exact ((((h.raise _).member _).setKrk _).withGrid _).enter _ _

theorem Kept.partition : Kept d e.partition := by
  unfold Dev.partition
  extract_lets _ s1
  have hs1 : Kept d s1 := (h.set _ _).setB _ _
  exact (Kept.ite (Kept.ite ((hs1.member _).enter _ _) (hs1.member _)) (Kept.ite (hs1.member _) (Kept.ite (hs1.member _) hs1.orphanEntry))).timeSource

/-! ### Slots and sums (R273, R277, R278) -/

theorem Kept.slotArrive (v : SlotVal) : Kept d (e.slotArrive v) := by
  unfold Dev.slotArrive
  exact Kept.ite h (Kept.ite (h.raise _) (h.setKrk _))

theorem Kept.slotUpdate (port slot chip frame : Nat) (value : Int) (stamp rank : Nat) :
    Kept d (e.slotUpdate port slot chip frame value stamp rank) := by
  unfold Dev.slotUpdate
  exact Kept.ite (h.krkForward _ _ _ _ _) (Kept.ite h ((Kept.ite ((h.setKrk _).slotArrive _) (h.setKrk _)).krkForward _ _ _ _ _))

theorem Kept.slotWrite (slot : Nat) (value : Int) (rank : Nat) : Kept d (e.slotWrite slot value rank) := by
  unfold Dev.slotWrite
  extract_lets _ s1
  have hs1 : Kept d s1 := h.slotArrive _
  exact Kept.ite (hs1.krkCast _ _) hs1

theorem Kept.aggWrite (slot : Nat) (w : Word) : Kept d (e.aggWrite slot w) := by
  unfold Dev.aggWrite
  split
  · exact Kept.ite (h.slotWrite _ _ _) h
  · exact h.slotWrite _ _ _
  · exact h

theorem Kept.slotLatch : Kept d e.slotLatch := by
  unfold Dev.slotLatch
  extract_lets _ _ _ _ s4
  have hs4 : Kept d s4 := (h.setKrk _).forEach _ _ (fun _ _ ht => Kept.ite (ht.setKrk _) (Kept.ite ht (ht.setKrk _)))
  exact Kept.ite hs4 (hs4.forEach _ _ (fun _ _ ht => (ht.onlyIf _ _ (fun _ hu => hu.raise _)).setKrk _))

/-! ### Redundancy and views (R271, R274) -/

theorem Kept.redCheck : Kept d e.redCheck := by
  unfold Dev.redCheck
  exact Kept.ite (((h.withPrt _).raise _).latch _ _ _) (h.withPrt _)

theorem Kept.viewCommit : Kept d e.viewCommit := by
  unfold Dev.viewCommit
  exact Kept.ite h ((((h.setKrk _).set _ _).raise _).forEach _ _ (fun _ _ ht => ht.logAt _ _ _ _ _ _)).timeSource.redCheck

theorem Kept.heldExpiry : Kept d e.heldExpiry := by
  unfold Dev.heldExpiry
  exact h.setKrk _

/-! ### Orphan timers (R272) -/

theorem Kept.orphanGraceEnd : Kept d e.orphanGraceEnd := by
  unfold Dev.orphanGraceEnd
  exact Kept.ite (h.setKrk _) h

theorem Kept.orphanRampEnd : Kept d e.orphanRampEnd := by
  unfold Dev.orphanRampEnd
  exact Kept.ite ((h.forEach _ _ (fun _ _ ht => Kept.ite ht (ht.setCell _ _))).setKrk _) h

/-! ### Links (R263) -/

theorem Kept.linkDown (p : Nat) : Kept d (e.linkDown p) := by
  unfold Dev.linkDown
  exact Kept.ite (((h.set _ _ (ne_free (by decide))).count _ _ (ne_free (by decide))).raise _).parentFollow h

theorem Kept.linkUpEvent (p rdly : Nat) : Kept d (e.linkUpEvent p rdly) := by
  unfold Dev.linkUpEvent
  extract_lets s0
  have hs0 : Kept d s0 := ((h.set _ _ (ne_free (by decide))).set _ _ (ne_free (by decide))).parentFollow.grantEntries
  exact Kept.ite (Kept.ite (hs0.identitySend _ _ _) hs0) h

theorem Kept.krkTrip : Kept d e.krkTrip := by
  unfold Dev.krkTrip
  exact Kept.ite h ((h.raise _).latch _ _ _)

theorem Kept.krkTick : Kept d e.krkTick := by
  unfold Dev.krkTick
  exact Kept.ite h (Kept.ite (h.forEach _ _ (fun _ _ ht => ht.judge _)).partition.slotLatch.redCheck
      ((h.forEach _ _ (fun _ _ ht => ht.judge _)).partition.slotLatch.withPrt _))

/-! ### Opcodes 0x60–0x67 (R284) -/

theorem Kept.bodyStnTableLoad (src : Src) (p : Packet) : Kept d (bodyStnTableLoad src p e).1 := by
  unfold Machine.bodyStnTableLoad
  exact h.withLoad _ _ _ _ _ (fun _ _ ht => by split; exacts [(ht.ansBad _ _), ((((ht.setKrk _).setReg _ _).set _ _).ansRes _)])

theorem Kept.bodyStnTableRead (src : Src) (p : Packet) : Kept d (bodyStnTableRead src p e).1 := by
  unfold Machine.bodyStnTableRead
  exact h.withStore _ _ _ _ _ (fun _ ht => ht.ansOk)

theorem Kept.bodyStnLeave (_src : Src) (_p : Packet) : Kept d (bodyStnLeave _src _p e).1 := by
  unfold Machine.bodyStnLeave
  exact h.leaveStation.ansOk

theorem Kept.bodyStnStatusRead (src : Src) (p : Packet) : Kept d (bodyStnStatusRead src p e).1 := by
  unfold Machine.bodyStnStatusRead
  exact h.withStore _ _ _ _ _ (fun _ ht => ht.ansOk)

theorem Kept.bodyStnSlotSet (src : Src) (p : Packet) : Kept d (bodyStnSlotSet src p e).1 := by
  unfold Machine.bodyStnSlotSet
  dsimp only
  refine Kept.iteFst (h.ansBad _ _) ?_
  split
  · exact h.ansBad _ _
  · exact (h.forEach _ _ (fun _ _ ht => ht.slotWrite _ _ _)).ansOk

theorem Kept.bodyStnResarea (_src : Src) (p : Packet) : Kept d (bodyStnResarea _src p e).1 := by
  unfold Machine.bodyStnResarea
  dsimp only
  exact Kept.iteFst (h.ansBad _ _) (h.setKrk _).ansOk

theorem Kept.reserveBuf (k : Nat) (b : Bool) : Kept d (e.reserveBuf k b) := by
  unfold Dev.reserveBuf
  exact h.setB _ _ Fld.off_ne

theorem Kept.schedDrop : Kept d e.schedDrop := by
  unfold Dev.schedDrop
  dsimp only
  split
  · exact (h.reserveBuf _ _).withSnp _
  · exact h

theorem Kept.bodyStnSquallAt (_src : Src) (p : Packet) : Kept d (bodyStnSquallAt _src p e).1 := by
  unfold Machine.bodyStnSquallAt
  extract_lets s0
  have hs0 : Kept d s0 := by
    dsimp only [s0]
    split
    · exact h.reserveBuf _ _
    · exact h
  refine Kept.iteFst (h.schedDrop.setB _ _).ansOk ?_
  split
  · exact h.ansBad _ _
  · exact ((((hs0.reserveBuf _ _).withSnp _).setB _ _).setPair _ _ _).ansOk

theorem Kept.squallAt : Kept d e.squallAt := by
  unfold Dev.squallAt
  split
  · exact h
  · exact (h.schedDrop.setB _ _).snapInto _ _ _ _

theorem Kept.setEsp (x : EspSt) : Kept d (e.setEsp x) := by
  unfold Dev.setEsp
  exact h.withEsp _

/-! ### Interlock (R180) -/

theorem Kept.interlockFail (pos : Nat) : Kept d (e.interlockFail pos) := by
  unfold Dev.interlockFail
  exact (((h.raise _).count _ _).logCell _ _ _ _).onlyIf _ _ (fun _ ht => ht.latch _ _ _)

theorem Kept.hbRun (n : Nat) (f : Dev → Dev) (hf : ∀ t, Kept d t → Kept d (f t)) : Kept d (e.hbRun n f) := by
  unfold Dev.hbRun
  exact Kept.ite (((hf _ h).logNow _ _ _).onlyIf _ _ (fun _ ht => ht.latch _ _ _)) (hf _ h)

/-! ### One frame’s schedule of one cell (R173–R183) -/

theorem Kept.switchRecord (x : SweepCell) (v0 : Word) (nlmOn : List Nat) : Kept d (e.switchRecord x v0 nlmOn).1 := by
  unfold Dev.switchRecord
  dsimp only
  exact ((((h.onlyIf _ _ (fun _ ht => ht.raise _)).onlyIf _ _ (fun _ ht => (ht.raise _).count _ _)).onlyIf _ _
      (fun _ ht => (ht.raise _).count _ _)).onlyIf _ _ (fun _ ht => ht.interlockFail _)).setEsp _

theorem Kept.blkRecord (pos : Nat) (byp : Bool) : Kept d (e.blkRecord pos byp).1 := by
  unfold Dev.blkRecord
  exact h.setEsp _

theorem Kept.testRecord (r : CellRec) (x : List Word) : Kept d (e.testRecord r x).1 := by
  unfold Dev.testRecord
  dsimp only
  exact (h.onlyIf _ _ (fun _ ht => ht.interlockFail _)).setEsp _

theorem Kept.cellRecord (x : SweepCell) (v0 : Word) (nlmOn : List Nat) : Kept d (e.cellRecord x v0 nlmOn).1 := by
  unfold Dev.cellRecord
  dsimp only
  refine Kept.iteFst (Kept.iteFst (h.blkRecord _ _) (h.switchRecord _ _ _)) ?_
  split
  · exact Kept.iteFst (h.testRecord _ _) (h.blkRecord _ _)
  · exact h.blkRecord _ _

theorem Kept.recordsOf (v0 : Word) (ins : Nat → List Nat) (l : List SweepCell) : Kept d (recordsOf v0 ins l e).1 := by
  induction l generalizing e with
  | nil => exact h
  | cons x l ih =>
    unfold Machine.recordsOf
    exact Kept.iteFst (ih h) (ih (h.cellRecord _ _ _))

theorem Kept.slotSwaps : Kept d e.slotSwaps := by
  unfold Dev.slotSwaps
  exact (h.setEsp _).setCells _

theorem Kept.edgeDispatch : Kept d e.edgeDispatch := by
  unfold Dev.edgeDispatch
  exact Kept.ite (h.slotSwaps.setEsp _) ((((h.slotSwaps.recordsOf _ _ _).setCells _).setEsp _).thkDispatch _)

theorem Kept.bootReport (pos : Nat) (t : CellTel) : Kept d (e.bootReport pos t) := by
  unfold Dev.bootReport
  exact Kept.ite (h.setEsp _) h

/-! ### Slot tables (R188, R189) -/

theorem Kept.slotTransfer (g : Nat) : Kept d (e.slotTransfer g) := by
  unfold Dev.slotTransfer
  exact h.forEach _ _ (fun _ _ ht => ht.setEsp _)

theorem Kept.carrierBoundary (g : Nat) : Kept d (e.carrierBoundary g) := by
  unfold Dev.carrierBoundary
  exact Kept.ite ((h.slotTransfer _).setEsp _) h

theorem Kept.slotTick : Kept d e.slotTick := by
  unfold Dev.slotTick
  exact Kept.ite ((h.forEach _ _ (fun _ _ ht => ht.slotTransfer _)).setEsp _) h

/-! ### Opcodes 0x40–0x47 (R202) -/

theorem Kept.bodyModSlotLoad (src : Src) (p : Packet) : Kept d (bodyModSlotLoad src p e).1 := by
  unfold Machine.bodyModSlotLoad
  exact h.withLoad _ _ _ _ _ (fun _ _ ht => (ht.setEsp _).ansOk)

theorem Kept.bodyModCellCommit (_src : Src) (p : Packet) : Kept d (bodyModCellCommit _src p e).1 := by
  unfold Machine.bodyModCellCommit
  exact Kept.iteFst (h.ansBad _ _) (h.setEsp _).ansOk

theorem Kept.bodyModProfLoad (src : Src) (p : Packet) : Kept d (bodyModProfLoad src p e).1 := by
  unfold Machine.bodyModProfLoad
  exact h.withLoad _ _ _ _ _ (fun _ _ ht => by split; exacts [(ht.ansBad _ _), (Kept.iteFst (ht.ansBad _ _)
      (Kept.iteFst (((ht.forEach _ _ (fun _ _ hu => (hu.setEsp _).sendAll _ _ _ _)).setEsp _).ansRes _)
      (((ht.forEach _ _ (fun _ _ hu => (hu.setEsp _).sendAll _ _ _ _)).setEsp _).setEsp _).ansLater))])

theorem Kept.profDone : Kept d e.profDone.1 := by
  unfold Dev.profDone
  dsimp only
  split
  · exact Kept.iteFst (h.setEsp _) h
  · exact h

theorem Kept.profTimeout : Kept d e.profTimeout.1 := by
  unfold Dev.profTimeout
  dsimp only
  split
  · exact h.setEsp _
  · exact h

theorem Kept.bodyModProfRead (src : Src) (p : Packet) : Kept d (bodyModProfRead src p e).1 := by
  unfold Machine.bodyModProfRead
  exact h.withStore _ _ _ _ _ (fun _ ht => ht.ansOk)

theorem Kept.bodyModFltClear (_src : Src) (p : Packet) : Kept d (bodyModFltClear _src p e).1 := by
  unfold Machine.bodyModFltClear
  extract_lets _ s1
  have hs1 : Kept d s1 := Kept.ite (h.hbXclrMask _) h
  exact Kept.iteFst (Kept.iteFst (hs1.hbClearMask _).ansOk (hs1.hbClearMask _)) hs1.ansOk

theorem Kept.bodyModEdgeTest (_src : Src) (p : Packet) : Kept d (bodyModEdgeTest _src p e).1 := by
  unfold Machine.bodyModEdgeTest
  dsimp only
  split
  · exact h.ansBad _ _
  · exact Kept.iteFst (h.ansBad _ _) (h.setEsp _).ansOk

theorem Kept.bodyModBsRead (src : Src) (p : Packet) : Kept d (bodyModBsRead src p e).1 := by
  unfold Machine.bodyModBsRead
  dsimp only
  split
  · exact h.ansBad _ _
  · exact h.withStore _ _ _ _ _ (fun _ ht => ht.ansOk)

theorem Kept.bodyModSlotRead (src : Src) (p : Packet) : Kept d (bodyModSlotRead src p e).1 := by
  unfold Machine.bodyModSlotRead
  split
  · exact h.withStore _ _ _ _ _ (fun _ ht => ht.ansOk)
  · exact h.withStore _ _ _ _ _ (fun _ ht => ht.ansOk)
  · exact h.withStore _ _ _ _ _ (fun _ ht => ht.ansOk)
  · exact h.ansBad _ _

/-! ### ADC-trigger compares (R201) -/

theorem Kept.localCompare (n k : Nat) : Kept d (e.localCompare n k) := by
  unfold Dev.localCompare
  exact Kept.ite (h.trigLine _) h

theorem Kept.groupCompare (g j : Nat) : Kept d (e.groupCompare g j) := by
  unfold Dev.groupCompare
  exact Kept.ite (h.trigLine _) h

theorem Kept.setGrid (g : GridSt) : Kept d (e.setGrid g) := by
  unfold Dev.setGrid
  exact h.withGrid _

theorem Kept.setIsl (x : IslSt) : Kept d (e.setIsl x) := by
  unfold Dev.setIsl
  exact h.withIsl _

/-! ### Trips (R224, R226) -/

theorem Kept.gridTrip (cause : Nat) : Kept d (e.gridTrip cause) := by
  unfold Dev.gridTrip
  exact ((h.logNow _ _ _).setGrid _).latch _ _ _

theorem Kept.gridDue (cause : Nat) : Kept d (e.gridDue cause) := by
  unfold Dev.gridDue
  exact Kept.ite ((h.setGrid _).gridTrip _) (h.setGrid _)

theorem Kept.gridTripDue (i : Nat) : Kept d (e.gridTripDue i) := by
  unfold Dev.gridTripDue
  exact Kept.ite (h.gridDue _) h

theorem Kept.rocofHold : Kept d e.rocofHold := by
  unfold Dev.rocofHold
  exact Kept.ite (h.gridDue _) h

theorem Kept.rtExitHold : Kept d e.rtExitHold := by
  unfold Dev.rtExitHold
  dsimp only
  split
  · exact Kept.ite (h.setGrid _) h
  · exact h

/-! ### The grid record (R205, R207, R208) -/

theorem Kept.gridQueue (r : GridRec) : Kept d (e.gridQueue r) := by
  unfold Dev.gridQueue
  exact h.setGrid _

theorem Kept.gridIssue : Kept d e.gridIssue := by
  unfold Dev.gridIssue
  extract_lets s0
  have hs0 : Kept d s0 := h.onlyIf _ _ (fun _ ht => ht.setGrid _)
  exact Kept.ite (((hs0.forEach _ _ (fun _ _ ht => ht.slotWrite _ _ _)).gridQueue _).setGrid _) (hs0.setGrid _)

theorem Kept.gridReceive (port : Nat) (r : GridRec) : Kept d (e.gridReceive port r) := by
  unfold Dev.gridReceive
  extract_lets _ _ _ _ _ s5
  have hs5 : Kept d s5 := h.forEach _ _ (fun _ _ ht => ht.slotUpdate _ _ _ _ _ _ _)
  exact Kept.ite h (Kept.ite hs5 (hs5.gridQueue _))

theorem Kept.recordLost : Kept d e.recordLost := by
  unfold Dev.recordLost
  exact Kept.ite h (h.gridTrip _)

theorem Kept.gridApply (r : GridRec) : Kept d (e.gridApply r) := by
  unfold Dev.gridApply
  exact Kept.ite ((h.setGrid _).gridTrip _) (h.setGrid _)

theorem Kept.gridMissed : Kept d e.gridMissed := by
  unfold Dev.gridMissed
  exact Kept.ite h ((h.setGrid _).onlyIf _ _ (fun _ ht => ht.recordLost))

theorem Kept.gridTick : Kept d e.gridTick := by
  unfold Dev.gridTick
  exact Kept.ite h (Kept.setGrid (by split; exacts [(((h.setGrid _).onlyIf _ _ (fun _ ht => (ht.setGrid _).recordLost)).gridApply _),
      ((h.setGrid _).onlyIf _ _ (fun _ ht => (ht.setGrid _).recordLost)).gridMissed]) _)

theorem Kept.gridRide : Kept d e.gridRide := by
  unfold Dev.gridRide
  dsimp only
  refine Kept.ite h ?_
  split
  · exact h
  · exact Kept.ite (h.setGrid _) (Kept.ite (((h.enter _ _).logNow _ _ _).setGrid _) (Kept.ite ((h.enter _ _).logNow _ _ _) h))

/-! ### The GRID context's run -/

theorem Kept.gridGroups (r : GridRec) : Kept d (e.gridGroups r) := by
  unfold Dev.gridGroups
  exact Kept.ite (h.forEach _ _ (fun _ _ ht => (ht.setEsp _).setEsp _)) (h.forEach _ _ (fun _ _ ht => ht.setEsp _))

theorem Kept.gridRun (b : List Byte) (ins : List Word) (r : Word) : Kept d (e.gridRun b ins r).1 := by
  unfold Dev.gridRun
  extract_lets _ _ _ _ _ _ _ s7
  have hs7 : Kept d s7 := (h.setGrid _).onlyIf _ _ (fun _ ht => ht.forEach _ _ (fun _ _ hu => hu.gridDue _))
  split
  · exact hs7.gridGroups _
  · exact hs7

/-! ### Coded islanding (R229, R230) -/

theorem Kept.islRun (b : List Byte) : Kept d (e.islRun b).1 := by
  unfold Dev.islRun
  dsimp only
  split <;> exact h.setIsl _

theorem Kept.islJudge (z fm : Word) : Kept d (e.islJudge z fm) := by
  unfold Dev.islJudge
  exact Kept.ite (h.setIsl _) (Kept.ite (Kept.ite ((h.setIsl _).gridTrip _) (h.setIsl _)) (Kept.ite ((h.setIsl _).logNow _ _ _) (h.setIsl _)))

theorem Kept.islWindowEnd : Kept d e.islWindowEnd := by
  unfold Dev.islWindowEnd
  dsimp only
  split
  · exact h
  · exact Kept.ite ((h.setIsl _).islJudge _ _) (h.setIsl _)

/-! ### Opcodes 0x50–0x55 (R232, R233) -/

theorem Kept.bodyGridProfileLoad (src : Src) (p : Packet) : Kept d (bodyGridProfileLoad src p e).1 := by
  unfold Machine.bodyGridProfileLoad
  exact h.withLoad _ _ _ _ _ (fun _ _ ht => by split; exacts [(ht.ansBad _ _), ((ht.setGrid _).ansRes _)])

theorem Kept.bodyGridProfileRead (src : Src) (p : Packet) : Kept d (bodyGridProfileRead src p e).1 := by
  unfold Machine.bodyGridProfileRead
  dsimp only
  exact h.withStore _ _ _ _ _ (fun _ ht => ht.ansOk)

theorem Kept.bodyGridStatusRead (src : Src) (p : Packet) : Kept d (bodyGridStatusRead src p e).1 := by
  unfold Machine.bodyGridStatusRead
  exact h.withStore _ _ _ _ _ (fun _ ht => ht.ansOk)

theorem Kept.bodyGridIslArm (_src : Src) (p : Packet) : Kept d (bodyGridIslArm _src p e).1 := by
  unfold Machine.bodyGridIslArm
  exact (h.setGrid _).ansOk

theorem Kept.bodyGridZrefReset (_src : Src) (_p : Packet) : Kept d (bodyGridZrefReset _src _p e).1 := by
  unfold Machine.bodyGridZrefReset
  exact (h.setIsl _).ansOk

theorem Kept.bodyGridTripTest (_src : Src) (p : Packet) : Kept d (bodyGridTripTest _src p e).1 := by
  unfold Machine.bodyGridTripTest
  dsimp only
  exact Kept.iteFst (h.ansBad _ _) (h.gridTrip _).ansOk

end

end Sys2Proof.Machine
end

section
/-! PROOFS. O5: sums over frames, the engine, the safety channel, the vault, images, replies. -/

set_option Elab.async false

namespace Sys2Proof.Machine

section
variable {d e : Dev} (h : Kept d e)
include h

theorem Kept.setMtr (m : MtrSt) : Kept d (e.setMtr m) := by
  unfold Dev.setMtr
  exact h.withMtr _

/-! ### Events (R328) -/

theorem Kept.mtrEvent (stamp code chan : Nat) (value : Word) : Kept d (e.mtrEvent stamp code chan value) := by
  unfold Dev.mtrEvent
  exact (h.setMtr _).logAt _ _ _ _ _ _

/-! ### Start and stop -/

theorem Kept.freqInvalid : Kept d e.freqInvalid := by
  unfold Dev.freqInvalid
  exact ((h.setReg _ _).setB _ _).setMtr _

theorem Kept.mtrStart : Kept d e.mtrStart := by
  unfold Dev.mtrStart
  exact (((h.setMtr _).setB _ _).freqInvalid.withPins _).forEach _ _ (fun _ _ ht => ht.set _ _ (ne_free (by decide)))

theorem Kept.mtrStop : Kept d e.mtrStop := by
  unfold Dev.mtrStop
  exact ((((h.setMtr _).setB _ _).setB _ _).forEach _ _ (fun _ _ ht => ht.set _ _ (ne_free (by decide)))).withPins _

theorem Kept.mtrFollow : Kept d e.mtrFollow := by
  unfold Dev.mtrFollow
  exact Kept.ite h.mtrStart (Kept.ite h.mtrStop h)

/-! ### Intervals (R327) -/

theorem Kept.intvSample (t : Nat) (first : Bool) (before : List Nat) (f : MtrFlags) : Kept d (e.intvSample t first before f) := by
  unfold Dev.intvSample
  dsimp only
  split
  · exact h.setMtr _
  · exact Kept.ite (h.setMtr _) (h.setMtr _)

/-! ### Pulses (R329, R330) -/

theorem Kept.pulseRise (k : Nat) : Kept d (e.pulseRise k) := by
  unfold Dev.pulseRise
  exact (h.setMtr _).withPins _

theorem Kept.pulseDue (k : Nat) : Kept d (e.pulseDue k) := by
  unfold Dev.pulseDue
  exact Kept.ite (h.pulseRise _) (Kept.ite ((h.count _ _ (ne_free (by decide))).raise _) (h.set _ _ (ne_free (by decide))))

theorem Kept.pulseEdge (k : Nat) : Kept d (e.pulseEdge k) := by
  unfold Dev.pulseEdge
  exact Kept.ite h (((Kept.ite ((h.set _ _ (ne_free (by decide))).pulseRise _) h).setMtr _).forEach _ _ (fun _ _ ht => ht.pulseDue _))

theorem Kept.pulseEnd (k : Nat) : Kept d (e.pulseEnd k) := by
  unfold Dev.pulseEnd
  exact h.withPins _

/-! ### The filters (R319–R321) -/

theorem Kept.mtrPush (k : Nat) (v : Word) (m : MtrMark) : Kept d (e.mtrPush k v m) := by
  unfold Dev.mtrPush
  exact h.setMtr _

theorem Kept.mtrResult (r : MeterRes) : Kept d (e.mtrResult r) := by
  unfold Dev.mtrResult
  extract_lets _ _ s2
  have hs2 : Kept d s2 := Kept.ite (h.setMtr _) h
  refine Kept.ite h ?_
  split
  · exact Kept.ite hs2 ((hs2.mtrPush _ _ _).setMtr _)
  · exact ((Kept.ite (hs2.mtrPush _ _ _) hs2).mtrPush _ _ _).setMtr _

theorem Kept.mtrFeed : Kept d e.mtrFeed := by
  unfold Dev.mtrFeed
  exact (h.withAdc _).forEach _ _ (fun _ _ ht => ht.mtrResult _)

/-! ### Samples (R321–R326) -/

theorem Kept.sampleFlags (o : MtrOut) : Kept d (e.sampleFlags o) := by
  unfold Dev.sampleFlags
  extract_lets _ s1
  have hs1 : Kept d s1 := by
    dsimp only [s1]
    split
    · exact h
    · exact (Kept.ite ((h.raise _).mtrEvent _ _ _ _) h).setMtr _
  exact (((Kept.ite ((Kept.ite ((hs1.raise _).mtrEvent _ _ _ _) hs1).setMtr _) hs1).setMtr _).withAdc _).setB _ _

theorem Kept.winClose (t0 stop : Nat) : Kept d (e.winClose t0 stop) := by
  unfold Dev.winClose
  exact h.setMtr _

theorem Kept.winCrossing (t : Nat) : Kept d (e.winCrossing t) := by
  unfold Dev.winCrossing
  dsimp only
  refine Kept.ite h ?_
  split
  · exact h.setMtr _
  · exact Kept.ite (h.winClose _ _) (h.setMtr _)

theorem Kept.winSample (o : MtrOut) : Kept d (e.winSample o) := by
  unfold Dev.winSample
  dsimp only
  refine Kept.ite (h.setMtr _) ?_
  split
  · exact h
  · exact (Kept.ite (h.winClose _ _) h).setMtr _

theorem Kept.mtrCrossing (t : Nat) : Kept d (e.mtrCrossing t) := by
  unfold Dev.mtrCrossing
  exact Kept.ite (h.setMtr _) (Kept.ite (((h.setMtr _).setReg _ _).setB _ _) (((h.setMtr _).setReg _ _).setB _ _))

theorem Kept.mtrLowpass (o : MtrOut) : Kept d (e.mtrLowpass o) := by
  unfold Dev.mtrLowpass
  dsimp only
  split
  · exact ((h.setMtr _).mtrCrossing _).winCrossing _
  · exact h.setMtr _

theorem Kept.freqTimeout : Kept d e.freqTimeout := by
  unfold Dev.freqTimeout
  exact Kept.ite h.freqInvalid h

theorem Kept.direction (t : Nat) (p : Word) (exp imp : Bool) : Kept d (e.direction t p exp imp).1 := by
  unfold Dev.direction
  refine Kept.iteFst h ?_
  extract_lets _ _ s2
  have hs2 : Kept d s2 := (h.setMtr _).setB _ _
  refine Kept.iteFst ?_ hs2
  dsimp only
  exact ((hs2.raise _).count _ _).mtrEvent _ _ _ _

theorem Kept.mtrAccumulate (o : MtrOut) (m : MtrSample) : Kept d (e.mtrAccumulate o m) := by
  unfold Dev.mtrAccumulate
  exact ((((((h.setMtr _).direction _ _ _ _).intvSample _ _ _ _).setMtr _).setReg _ _).setReg _ _).setB _ _

theorem Kept.meterSample : Kept d e.meterSample := by
  unfold Dev.meterSample
  dsimp only
  split
  · exact h
  · refine Kept.ite h ?_
    split
    · exact ((((h.setMtr _).sampleFlags _).mtrLowpass _).winSample _).setMtr _
    · exact Kept.ite (((((h.setMtr _).sampleFlags _).mtrLowpass _).winSample _).setMtr _) ((((((h.setMtr _).sampleFlags _).mtrLowpass _).winSample
          _).setMtr _).mtrAccumulate _ _)

/-! ### Harmonics (R332, R333) -/

theorem Kept.harmDone (w : HarmWin) : Kept d (e.harmDone w) := by
  unfold Dev.harmDone
  extract_lets _ _ _ _ _ _ _ _ _ _ _ _ _ _ _ _ s16
  have hs16 : Kept d s16 := Kept.ite ((((h.setMtr _).setB _ _).onlyIf _ _ (fun _ ht => ht.raise _)).mtrEvent _ _ _ _) (h.setMtr _)
  exact Kept.ite (((hs16.setB _ _).onlyIf _ _ (fun _ ht => ht.raise _)).mtrEvent _ _ _ _) hs16

theorem Kept.harmChunk : Kept d e.harmChunk := by
  unfold Dev.harmChunk
  dsimp only
  split
  · exact h
  · exact Kept.ite (h.harmDone _) (h.setMtr _)

theorem Kept.harmWindowEnd : Kept d e.harmWindowEnd := by
  unfold Dev.harmWindowEnd
  dsimp only
  split
  · exact h
  · exact Kept.ite h ((Kept.ite ((h.raise _).count _ _) h).setMtr _)

/-! ### Quantities for contexts (R334) -/

theorem Kept.mtrLatch : Kept d e.mtrLatch := by
  unfold Dev.mtrLatch
  exact Kept.ite h (h.setMtr _)

/-! ### Saves (R335, R336) -/

theorem Kept.saveAsk (cmd : Option (Src × Packet)) : Kept d (e.saveAsk cmd) := by
  unfold Dev.saveAsk
  exact h.framAsk _

theorem Kept.saveDue : Kept d e.saveDue := by
  unfold Dev.saveDue
  exact Kept.ite ((h.setMtr _).saveAsk _) h

theorem Kept.saveRetry : Kept d e.saveRetry := by
  unfold Dev.saveRetry
  exact Kept.ite (h.saveAsk _) h

theorem Kept.saveDeferred : Kept d e.saveDeferred := by
  unfold Dev.saveDeferred
  exact (h.raise _).mtrEvent _ _ _ _

theorem Kept.saveDone (r : List Byte) : Kept d (e.saveDone r) := by
  unfold Dev.saveDone
  exact ((h.setPair _ _ _).setReg _ _).setMtr _

/-! ### Records in FRAM (R431, R432) -/

theorem Kept.mtrUse (c : List Byte) : Kept d (e.mtrUse c) := by
  unfold Dev.mtrUse
  exact ((h.setMtr _).setB _ _).setReg _ _

theorem Kept.bootCfg : Kept d e.bootCfg := by
  unfold Dev.bootCfg
  extract_lets _ _ s2
  have hs2 : Kept d s2 := (h.setMtr _).set _ _
  split
  · exact hs2.mtrUse _
  · exact hs2

theorem Kept.restore (x : Nat × Nat × List Nat) : Kept d (e.restore x) := by
  unfold Dev.restore
  exact ((h.setMtr _).setReg _ _).setPair _ _ _

theorem Kept.bootUnsaved (ts : Nat) (pf : List Byte) : Kept d (e.bootUnsaved ts pf) := by
  unfold Dev.bootUnsaved
  exact Kept.ite h ((((h.setMtr _).raise _).framAsk _).mtrEvent _ _ _ _)

theorem Kept.mtrBoot : Kept d e.mtrBoot := by
  unfold Dev.mtrBoot
  extract_lets _ _ _ s3
  have hs3 : Kept d s3 := (h.bootCfg.setMtr _).set _ _
  split
  · exact ((hs3.setMtr _).raise _).mtrEvent _ _ _ _
  · dsimp only
    split
    · exact (Kept.ite ((hs3.restore _).mtrEvent _ _ _ _) (hs3.restore _)).bootUnsaved _ _
    · exact Kept.ite ((hs3.restore _).mtrEvent _ _ _ _) (hs3.restore _)

theorem Kept.lkpRefresh : Kept d e.lkpRefresh := by
  unfold Dev.lkpRefresh
  exact Kept.ite h ((h.setMtr _).setB _ _)

/-! ### Opcodes 0x80–0x88 (R339) -/

theorem Kept.cfgAsk (src : Src) (p : Packet) (c : List Byte) : Kept d (e.cfgAsk src p c) := by
  unfold Dev.cfgAsk
  exact h.framAsk _

theorem Kept.cfgLoadDone (bursts : List (Nat × List Byte)) : Kept d (e.cfgLoadDone bursts).1 := by
  unfold Dev.cfgLoadDone
  dsimp only
  exact ((((h.mtrUse _).saveDone _).setMtr _).set _ _).mtrEvent _ _ _ _

theorem Kept.bodyMtrCfgRead (src : Src) (p : Packet) : Kept d (bodyMtrCfgRead src p e).1 := by
  unfold Machine.bodyMtrCfgRead
  exact h.withStore _ _ _ _ _ (fun _ ht => ht.ansOk)

theorem Kept.bodyMtrAccRead (src : Src) (p : Packet) : Kept d (bodyMtrAccRead src p e).1 := by
  unfold Machine.bodyMtrAccRead
  exact h.withStore _ _ _ _ _ (fun _ ht => ht.ansOk)

theorem Kept.ringRead (src : Src) (p : Packet) (max_ : Nat) (l : List (List Byte)) : Kept d (ringRead src p e max_ l).1 := by
  unfold Machine.ringRead
  dsimp only
  exact Kept.iteFst (h.ansBad _ _) (Kept.iteFst (h.ansBad _ _) (Kept.iteFst (h.ansWant _ _ _ _) (h.withStore _ _ _ _ _ (fun _ ht => ht.ansRes _))))

theorem Kept.bodyMtrIntvRead (src : Src) (p : Packet) : Kept d (bodyMtrIntvRead src p e).1 := by
  unfold Machine.bodyMtrIntvRead
  exact h.ringRead _ _ _ _

theorem Kept.bodyMtrEvtRead (src : Src) (p : Packet) : Kept d (bodyMtrEvtRead src p e).1 := by
  unfold Machine.bodyMtrEvtRead
  exact h.ringRead _ _ _ _

theorem Kept.bodyMtrHarmRead (src : Src) (p : Packet) : Kept d (bodyMtrHarmRead src p e).1 := by
  unfold Machine.bodyMtrHarmRead
  exact Kept.iteFst (h.ansWant _ _ _ _) (h.withStore _ _ _ _ _ (fun _ ht => ht.ansOk))

theorem Kept.bodyMtrUnsavedRead (src : Src) (p : Packet) : Kept d (bodyMtrUnsavedRead src p e).1 := by
  unfold Machine.bodyMtrUnsavedRead
  exact Kept.iteFst (h.ansWant _ _ _ _) (h.withStore _ _ _ _ _ (fun _ ht => ht.ansOk))

theorem Kept.bodyMtrSaveNow (src : Src) (p : Packet) : Kept d (bodyMtrSaveNow src p e).1 := by
  unfold Machine.bodyMtrSaveNow
  exact (h.saveAsk _).ansLater

theorem Kept.bodyMtrAccPreset (src : Src) (p : Packet) : Kept d (bodyMtrAccPreset src p e).1 := by
  unfold Machine.bodyMtrAccPreset
  exact h.withLoad _ _ _ _ _ (fun _ _ ht => (ht.framAsk _).ansLater)

theorem Kept.presetDone (bursts : List (Nat × List Byte)) : Kept d (e.presetDone bursts).1 := by
  unfold Dev.presetDone
  dsimp only
  exact ((h.saveDone _).setMtr _).mtrEvent _ _ _ _

theorem Kept.setCe (c : CeSt) : Kept d (e.setCe c) := by
  unfold Dev.setCe
  exact h.withCe _

theorem Kept.setCtx (c : Nat) (x : CtxSt) : Kept d (e.setCtx c x) := by
  unfold Dev.setCtx
  exact h.setCe _

/-! ### Costs and admission (R55–R57, R116, R156, R333) -/

theorem Kept.whenAdmitted {t : Dev} (ht : Kept d t) (k : Dev → Ans) (hk : ∀ t, Kept d t → Kept d (k t).1) : Kept d (whenAdmitted e t k).1 := by
  unfold Machine.whenAdmitted
  split
  · exact hk _ ht
  · exact h.raise _

/-! ### Injection (R134–R136) -/

theorem Kept.injStep (g : Nat) (x : InjSt) (v : Word) : Kept d (e.injStep g x v) := by
  unfold Dev.injStep
  exact ((h.setCe _).set _ _ (ne_free (by decide))).setB _ _ (ne_free (by decide))

theorem Kept.injStop (g : Nat) : Kept d (e.injStop g) := by
  unfold Dev.injStop
  exact (h.setCe _).setB _ _ (ne_free (by decide))

theorem Kept.injIdle (c : Nat) : Kept d (e.injIdle c) := by
  unfold Dev.injIdle
  exact h.forEach _ _ (fun _ _ ht => ht.setCe _)

theorem Kept.injFollow : Kept d e.injFollow := by
  unfold Dev.injFollow
  exact Kept.ite h (h.forEach _ _ (fun _ _ ht => (ht.injStop _).raise _))

/-! ### Captures (R137, R138) -/

theorem Kept.showCap (c : CapSt) (done : Bool) : Kept d (e.showCap c done) := by
  unfold Dev.showCap
  exact ((((h.setCe _).setB _ _).setB _ _).setB _ _).set _ _

theorem Kept.capRecord : Kept d e.capRecord := by
  unfold Dev.capRecord
  dsimp only
  refine Kept.ite h ?_
  refine Kept.ite (h.showCap _ _) ?_
  refine Kept.ite (h.showCap _ _) ?_
  refine Kept.ite (Kept.ite (h.showCap _ _) h) ?_
  split
  · exact h.showCap _ _
  · exact (h.showCap _ _).withSnp _

theorem Kept.capAbort : Kept d e.capAbort := by
  unfold Dev.capAbort
  exact Kept.ite h ((((h.setCe _).setB _ _).setB _ _).raise _)

/-! ### A run (R110, R118) -/

theorem Kept.showFlags (c : Nat) (f : CFlags) : Kept d (e.showFlags c f) := by
  unfold Dev.showFlags
  exact (h.set _ _ (ne_free (by decide))).set _ _ (ne_free (by decide))

theorem Kept.writeOut (v : Nat) (w : Word) : Kept d (e.writeOut v w) := by
  unfold Dev.writeOut
  dsimp only
  split
  · exact h.setCh _ _
  · exact h.setEsp _
  · exact h.setCtx _ _
  · exact h

omit h in
theorem Kept.gridAdded (o : RunOut) (b : List Byte) (groups : List Nat) {r : Dev × CFlags × List Word} (hr : Kept d r.1) :
    Kept d (o.gridAdded b groups r).1 := by
  unfold RunOut.gridAdded
  extract_lets _ _ t
  have ht : Kept d t := hr.forEach _ _ (fun _ _ ht => ht.setEsp _)
  clear_value t
  exact Kept.iteFst hr ht

theorem Kept.runSpecial (b : List Byte) (o : RunOut) : Kept d (e.runSpecial b o).1 := by
  unfold Dev.runSpecial
  dsimp only
  split
  · exact h.sweepRun b o.ins (e.ctxTs b) e.stationSum
  · exact Kept.gridAdded o b _ (h.gridRun b o.ins o.r)
  · exact Kept.gridAdded o b [] (h.islRun b)
  · exact h

theorem Kept.runCtx (c : Nat) : Kept d (e.runCtx c) := by
  unfold Dev.runCtx
  exact Kept.ite h ((((((((h.runSpecial _ _).setCtx _ _).showFlags _ _).onlyIf _ _ (fun _ ht => ht.latch _ _ _)).injIdle _).forEach _ _
      (fun _ _ ht => ht.injStep _ _ _)).forEach _ _ (fun _ _ ht => Kept.ite ht (ht.writeOut _ _))).onlyIf _ _ (fun _ ht => ht.capRecord))

theorem Kept.pllTick : Kept d e.pllTick := by
  unfold Dev.pllTick
  exact Kept.ite h (h.angInternal _ _)

theorem Kept.runContexts : Kept d e.runContexts := by
  unfold Dev.runContexts
  exact Kept.ite h ((h.forEach _ _ (fun _ _ ht => ht.runCtx _)).onlyIf _ _ (fun _ ht => ht.capRecord))

theorem Kept.dispatchSlots : Kept d e.dispatchSlots := by
  unfold Dev.dispatchSlots
  exact Kept.ite h (h.forEach _ _ (fun _ _ ht => Kept.ite ht (Kept.ite (by split; exacts [((ht.forEach _ _
      (fun _ _ hu => Kept.ite (hu.aggWrite _ _) hu)).forEach _ _ (fun _ _ hu => hu.aggWrite _ _)),
      (ht.forEach _ _ (fun _ _ hu => Kept.ite (hu.aggWrite _ _) hu))]) (ht.forEach _ _ (fun _ _ hu => Kept.ite (hu.aggWrite _ _) hu)))))

/-! ### The pulse input (R132, R133) -/

theorem Kept.sppEdge : Kept d e.sppEdge := by
  unfold Dev.sppEdge
  exact Kept.ite h (h.setCe _)

theorem Kept.sppLoss : Kept d e.sppLoss := by
  unfold Dev.sppLoss
  exact Kept.ite (((h.set _ _).raise _).setCe _) h

theorem Kept.sppHoldEnd : Kept d e.sppHoldEnd := by
  unfold Dev.sppHoldEnd
  exact Kept.ite (h.set _ _) h

theorem Kept.sppEnable : Kept d e.sppEnable := by
  unfold Dev.sppEnable
  exact Kept.ite (Kept.ite ((h.setCe _).set _ _) h) (h.set _ _)

theorem Kept.sppMeasure : Kept d e.sppMeasure.2 := by
  unfold Dev.sppMeasure
  dsimp only
  exact Kept.iteSnd h (Kept.iteSnd (h.setCe _) (((h.setCe _).setReg _ _).onlyIf _ _ (fun _ ht => ht.raise _)))

theorem Kept.sppTick : Kept d e.sppTick := by
  unfold Dev.sppTick
  extract_lets _ s1
  have hs1 : Kept d s1 := Kept.iteSnd h.sppMeasure h
  exact Kept.ite ((hs1.set _ _).setReg _ _) (Kept.ite (Kept.ite ((hs1.set _ _).setReg _ _) ((hs1.set _ _).setReg _ _))
      (Kept.ite (Kept.ite ((hs1.set _ _).setReg _ _) ((hs1.set _ _).setReg _ _)) (Kept.ite (Kept.ite ((hs1.set _ _).setReg _ _)
      ((hs1.set _ _).setReg _ _)) (Kept.ite ((hs1.set _ _).setReg _ _) ((hs1.set _ _).setReg _ _)))))

/-! ### What a tick loads (R16, R129, R139) -/

theorem Kept.freshLaw (x : CtxSt) : Kept d (e.freshLaw x) := by
  unfold Dev.freshLaw
  dsimp only
  split
  · exact h
  · refine Kept.ite h ?_
    split
    · exact h.setCells _
    · exact h.setGrid _
    · exact h.setIsl _
    · exact h

theorem Kept.groupsLeft (x : CtxSt) : Kept d (e.groupsLeft x) := by
  unfold Dev.groupsLeft
  split
  · exact h
  · exact h.forEach _ _ (fun _ _ ht => ht.setEsp _)

theorem Kept.outsTick (c : Nat) : Kept d (e.outsTick c) := by
  unfold Dev.outsTick
  exact Kept.ite (h.setCtx _ _) (h.forEach _ _ (fun _ _ ht => ht.setReg _ _ (ne_free₂ (by decide))))

theorem Kept.groupTick : Kept d e.groupTick := by
  unfold Dev.groupTick
  exact Kept.ite (h.setEsp _) h

theorem Kept.ceTick : Kept d e.ceTick := by
  unfold Dev.ceTick
  dsimp only
  split
  · exact ((h.groupTick.forEach _ _ (fun _ _ ht => ht.outsTick _)).forEach _ _ (fun _ _ ht => ((ht.freshLaw _).groupsLeft _).setCtx _ _)).setEsp _
  · exact (((((h.groupTick.forEach _ _ (fun _ _ ht => ht.outsTick _)).forEach _ _ (fun _ _ ht =>
        ((ht.freshLaw _).groupsLeft _).setCtx _ _)).setEsp _).setCe _).setB _ _).set _ _

theorem Kept.sampleLatch : Kept d e.sampleLatch := by
  unfold Dev.sampleLatch
  exact (h.setCe _).adcStale.setCells _

/-! ### Opcodes 0x10–0x1E (R140) -/

theorem Kept.showCtx (c : Nat) : Kept d (e.showCtx c) := by
  unfold Dev.showCtx
  exact Kept.ite (h.setReg _ _ (ne_free (by decide))) ((((h.setB _ _ (ne_free (by decide))).setB _ _ (ne_free (by decide))).set _ _
      (ne_free (by decide))).set _ _ (ne_free (by decide)))

theorem Kept.capFollow (c : Nat) : Kept d (e.capFollow c) := by
  unfold Dev.capFollow
  exact h.onlyIf _ _ (fun _ ht => ht.capAbort)

theorem Kept.loadWait (c : Nat) (b : List Byte) (keep : Bool) (rank : Nat) : Kept d (e.loadWait c b keep rank) := by
  unfold Dev.loadWait
  exact Kept.ite (h.setCtx _ _) h

theorem Kept.bodyCeCtxLoad (src : Src) (p : Packet) : Kept d (bodyCeCtxLoad src p e).1 := by
  unfold Machine.bodyCeCtxLoad
  dsimp only
  exact h.withLoad _ _ _ _ _ (fun _ _ ht => by split; exacts [(ht.ansBad _ _), (Kept.iteFst (ht.ansBad _ _)
      (ht.whenAdmitted (ht.loadWait _ _ _ _) _ (fun _ hu => ((hu.showCtx _).onlyIf _ _ (fun _ hv2 => hv2.capFollow _)).ansRes _)))])

theorem Kept.bodyCeCtxEnable (_src : Src) (p : Packet) : Kept d (bodyCeCtxEnable _src p e).1 := by
  unfold Machine.bodyCeCtxEnable
  dsimp only
  exact Kept.iteFst (h.ansBad _ _) (((h.setCtx _ _).showCtx _).onlyIf _ _ (fun _ ht => ht.capFollow _)).ansOk

theorem Kept.bodyCeCtxRemove (_src : Src) (p : Packet) : Kept d (bodyCeCtxRemove _src p e).1 := by
  unfold Machine.bodyCeCtxRemove
  dsimp only
  exact Kept.iteFst (h.ansBad _ _) ((((((h.forEach _ _ (fun _ _ ht => ht.setEsp _)).forEach _ _
      (fun _ _ ht => ht.injStop _)).injIdle _).capFollow _).setCtx _ _).showCtx _).ansOk

theorem Kept.bodyCeCtxRead (src : Src) (p : Packet) : Kept d (bodyCeCtxRead src p e).1 := by
  unfold Machine.bodyCeCtxRead
  exact h.withStore _ _ _ _ _ (fun _ ht => ht.ansOk)

theorem Kept.bodyCeSpSet (src : Src) (p : Packet) : Kept d (bodyCeSpSet src p e).1 := by
  unfold Machine.bodyCeSpSet
  dsimp only
  refine Kept.iteFst (h.ansBad _ _) ?_
  split
  · exact h.ansBad _ _
  · exact (h.forEach _ _ (fun _ _ ht => Kept.ite (ht.setCtx _ _) ht)).ansOk

theorem Kept.bodyCeParamSet (src : Src) (p : Packet) : Kept d (bodyCeParamSet src p e).1 := by
  unfold Machine.bodyCeParamSet
  dsimp only
  refine Kept.iteFst (h.ansBad _ _) ?_
  refine Kept.iteFst (h.ansBad _ _) ?_
  split
  · exact h.ansBad _ _
  · exact (h.setCtx _ _).ansOk

theorem Kept.bodyCeStateReset (_src : Src) (p : Packet) : Kept d (bodyCeStateReset _src p e).1 := by
  unfold Machine.bodyCeStateReset
  dsimp only
  exact ((h.freshLaw _).setCtx _ _).ansOk

theorem Kept.bodyCeCostQuery (src : Src) (p : Packet) : Kept d (bodyCeCostQuery src p e).1 := by
  unfold Machine.bodyCeCostQuery
  exact h.withLoad _ _ _ _ _ (fun _ _ ht => by split; exacts [(ht.ansBad _ _), (ht.ansRes _)])

theorem Kept.bodyCeTblLoad (src : Src) (p : Packet) : Kept d (bodyCeTblLoad src p e).1 := by
  unfold Machine.bodyCeTblLoad
  dsimp only
  exact Kept.iteFst (h.ansBad _ _) (Kept.iteFst (h.ansWant _ _ _ _) (h.withLoad _ _ _ _ _ (fun _ _ ht => (((ht.setCe _).setB _ _).set _ _).ansRes _)))

theorem Kept.bodyCeTblRead (src : Src) (p : Packet) : Kept d (bodyCeTblRead src p e).1 := by
  unfold Machine.bodyCeTblRead
  dsimp only
  exact Kept.iteFst (h.ansBad _ _) (h.withStore _ _ _ _ _ (fun _ ht => ht.ansOk))

theorem Kept.bodyCeInjStart (src : Src) (p : Packet) : Kept d (bodyCeInjStart src p e).1 := by
  unfold Machine.bodyCeInjStart
  dsimp only
  exact Kept.iteFst (h.ansBad _ _) (h.withLoad _ _ _ _ _ (fun _ _ ht => by split; exacts [(ht.ansBad _ _),
      (ht.whenAdmitted (ht.setCe _) _ (fun _ hu => Kept.iteFst (ht.ansBad _ _) (((hu.setB _ _ (ne_free (by decide))).set _ _
      (ne_free (by decide))).set _ _ (ne_free (by decide))).ansOk))]))

theorem Kept.bodyCeInjStop (_src : Src) (p : Packet) : Kept d (bodyCeInjStop _src p e).1 := by
  unfold Machine.bodyCeInjStop
  dsimp only
  exact Kept.iteFst (h.ansBad _ _) (h.injStop _).ansOk

theorem Kept.bodyCeCapArm (_src : Src) (p : Packet) : Kept d (bodyCeCapArm _src p e).1 := by
  unfold Machine.bodyCeCapArm
  dsimp only
  split
  · exact h.ansBad _ _
  · exact h.whenAdmitted ((h.setCe _).withSnp _) _ (fun _ ht => Kept.iteFst (h.ansBad _ _) ((ht.showCap _ _).setB _ _).ansOk)

theorem Kept.bodyCeCapRead (src : Src) (p : Packet) : Kept d (bodyCeCapRead src p e).1 := by
  unfold Machine.bodyCeCapRead
  dsimp only
  exact Kept.iteFst (h.ansWant _ _ _ _) (Kept.iteFst (h.ansBad _ _) (Kept.iteFst (h.ansBad _ _) (h.withStore _ _ _ _ _ (fun _ ht => ht.ansOk))))

theorem Kept.bodyCeCapAbort (_src : Src) (_p : Packet) : Kept d (bodyCeCapAbort _src _p e).1 := by
  unfold Machine.bodyCeCapAbort
  exact h.capAbort.ansOk

theorem Kept.bodyCellMapLoad (src : Src) (p : Packet) : Kept d (bodyCellMapLoad src p e).1 := by
  unfold Machine.bodyCellMapLoad
  exact h.withLoad _ _ _ _ _ (fun _ _ ht => by split; exacts [(ht.ansBad _ _), (ht.whenAdmitted (ht.newMap _) _
      (fun _ hu => (hu.forEach _ _ (fun _ _ hv2 => hv2.showCtx _)).ansOk))])

theorem Kept.bodyMtrCfgLoad (src : Src) (p : Packet) : Kept d (bodyMtrCfgLoad src p e).1 := by
  unfold Machine.bodyMtrCfgLoad
  exact h.withLoad _ _ _ _ _ (fun _ _ ht => by split; exacts [(ht.ansBad _ _), (ht.whenAdmitted (ht.mtrUse _) _
      (fun _ hu => (ht.cfgAsk _ _ _).ansLater))])

/-! ### Latching (R301, R306) -/

theorem Kept.ctoOff (mask : Nat) : Kept d (e.ctoOff mask) := by
  unfold Dev.ctoOff
  exact h.set _ _

theorem Kept.safLatch (i code : Nat) : Kept d (e.safLatch i code) := by
  unfold Dev.safLatch
  exact ((((h.set _ _ Fld.off_ne).onlyIf _ _ (fun _ ht => ht.set _ _ Fld.off_ne)).ctoOff _).onlyIf _ _ (fun _ ht => ht.logNow _ _ _)).onlyIf _ _
      (fun _ ht => ht.event _)

theorem Kept.safFault (fns : List Nat) (code : Nat) : Kept d (e.safFault fns code) := by
  unfold Dev.safFault
  dsimp only
  exact ((Kept.set (by split; exacts [h, h, (Kept.iteSnd h h.free)]) _ _).set _ _).setPair _ _ _

theorem Kept.safFaultLatch (fns : List Nat) (code : Nat) : Kept d (e.safFaultLatch fns code) := by
  unfold Dev.safFaultLatch
  exact (h.safFault _ _).forEach _ _ (fun _ _ ht => ht.safLatch _ _)

theorem Kept.hedgeLatch (mask : Nat) (fault : Bool) : Kept d (e.hedgeLatch mask fault) := by
  unfold Dev.hedgeLatch
  exact Kept.ite ((h.set _ _).withSaf _) (h.set _ _)

theorem Kept.discFault (i : Nat) : Kept d (e.discFault i) := by
  unfold Dev.discFault
  exact ((h.raise _).safFaultLatch _ _).onlyIf _ _ (fun _ ht => ht.hedgeLatch _ _)

/-! ### Contacts change (R299, R300, R306) -/

theorem Kept.pairMoved (i old : Nat) : Kept d (e.pairMoved i old) := by
  unfold Dev.pairMoved
  dsimp only
  split
  · exact Kept.ite (h.withSaf _) h
  · exact Kept.ite h (Kept.ite ((h.withSaf _).discFault _) (h.withSaf _))

theorem Kept.contact (i : Nat) (b level : Bool) : Kept d (e.contact i b level) := by
  unfold Dev.contact
  extract_lets _ _ s2
  have hs2 : Kept d s2 := (h.setB _ _ Fld.off_ne).onlyIf _ _ (fun _ ht => ht.pairMoved _ _)
  exact Kept.ite h (Kept.ite (hs2.hedgeLatch _ _) hs2)

theorem Kept.discTimeout (i : Nat) : Kept d (e.discTimeout i) := by
  unfold Dev.discTimeout
  exact Kept.ite ((h.discFault _).withSaf _) h

/-! ### Evaluation by the processor channel (R307) -/

theorem Kept.safEvaluate (ctf : Nat) (sreset : Bool) : Kept d (e.safEvaluate ctf sreset) := by
  unfold Dev.safEvaluate
  exact (((((h.set _ _).setB _ _).raise _).setB _ _).withSaf _).forEach _ _ (fun _ _ ht => ht.onlyIf _ _ (fun _ hu => hu.safLatch _ _))

/-! ### Contactors (R304) -/

theorem Kept.ctoFault (k : Nat) : Kept d (e.ctoFault k) := by
  unfold Dev.ctoFault
  exact Kept.ite h ((((h.withSaf _).raise _).safFaultLatch _ _).ctoOff _)

theorem Kept.bodyCtoSet (_src : Src) (p : Packet) : Kept d (bodyCtoSet _src p e).1 := by
  unfold Machine.bodyCtoSet
  dsimp only
  split
  · exact h.ctoOff _
  · exact ((h.ctoOff _).set _ _).ansOk

/-! ### The access permit (R303) -/

theorem Kept.accessEnd : Kept d e.accessEnd := by
  unfold Dev.accessEnd
  exact (h.set _ _).onlyIf _ _ (fun _ ht => ht.ctoOff _)

theorem Kept.bodyAccess (_src : Src) (p : Packet) : Kept d (bodyAccess _src p e).1 := by
  unfold Machine.bodyAccess
  exact Kept.iteFst (h.onlyIf _ _ (fun _ ht => ht.accessEnd)).ansOk (Kept.iteFst (h.ansBad _ _)
      ((h.raise _).onlyIf _ _ (fun _ ht => ht.raise _ Fld.off_ne)).ansOk)

/-! ### Resets (R305) -/

theorem Kept.safReset : Kept d e.safReset := by
  unfold Dev.safReset
  exact Kept.ite (h.forEach _ _ (fun _ _ ht => ht.onlyIf _ _ (fun _ hu => (hu.set _ _ Fld.off_ne).set _ _ Fld.off_ne))) h

theorem Kept.hedgeReset : Kept d e.hedgeReset := by
  unfold Dev.hedgeReset
  exact Kept.ite h ((h.set _ _).withSaf _)

theorem Kept.sresetFall (held : Nat) (hedge : Bool) : Kept d (e.sresetFall held hedge) := by
  unfold Dev.sresetFall
  exact (((h.set _ _).withSaf _).onlyIf _ _ (fun _ ht => ht.safReset)).onlyIf _ _ (fun _ ht => ht.hedgeReset)

theorem Kept.sresetStuck : Kept d e.sresetStuck := by
  unfold Dev.sresetStuck
  exact ((h.raise _).raise _).withSaf _

/-! ### Hedgerow and diagnostics (R306, R310) -/

theorem Kept.hedgeHeartbeatLost : Kept d e.hedgeHeartbeatLost := by
  unfold Dev.hedgeHeartbeatLost
  exact ((h.set _ _).safFault _ _).hedgeLatch _ _

theorem Kept.hedgeOscBad : Kept d e.hedgeOscBad := by
  unfold Dev.hedgeOscBad
  exact (((h.set _ _).safFault _ _).hedgeLatch _ _).withSaf _

theorem Kept.safDiag (code : Nat) (failed : Bool) : Kept d (e.safDiag code failed) := by
  unfold Dev.safDiag
  exact Kept.ite h (Kept.ite ((h.withSaf _).onlyIf _ _ (fun _ ht => ht.raise _)) (Kept.ite h
      (Kept.ite (h.withSaf _).hedgeOscBad (Kept.ite ((((h.withSaf _).raise _).safFaultLatch _ _).hedgeLatch _ _)
      (Kept.ite (((h.withSaf _).raise _).safFaultLatch _ _) (((h.withSaf _).safFaultLatch _ _).hedgeLatch _ _))))))

/-! ### Configuration commands (R308, R309, R313) -/

theorem Kept.bodySafLoad (src : Src) (p : Packet) : Kept d (bodySafLoad src p e).1 := by
  unfold Machine.bodySafLoad
  exact h.withLoad _ _ _ _ _ (fun _ _ ht => by split; exacts [(ht.ansBad _ _), (((ht.withSaf _).setReg _ _).ansRes _)])

theorem Kept.bodySafConfirm (_src : Src) (p : Packet) : Kept d (bodySafConfirm _src p e).1 := by
  unfold Machine.bodySafConfirm
  exact Kept.iteFst (h.raise _) (((((h.withSaf _).raise _).setReg _ _).forEach _ _ (fun _ _ ht => ht.hedgeLatch _ _)).setReg _ _).ansOk

theorem Kept.bodySafRead (src : Src) (p : Packet) : Kept d (bodySafRead src p e).1 := by
  unfold Machine.bodySafRead
  dsimp only
  exact Kept.iteFst (h.ansWant _ _ _ _) (h.withStore _ _ _ _ _ (fun _ ht => ht.ansRes _))

/-! ### What follows from the safety state on every core clock -/

theorem Kept.safDerive : Kept d e.safDerive := by
  unfold Dev.safDerive
  exact ((((((h.setB _ _).setB _ _).setB _ _).setB _ _).onlyIf _ _ (fun _ ht => ht.accessEnd)).forEach _ _ (fun _ _ ht => ht.ctoOff _)).set _ _

/-! ### Other sources of the matrix -/

theorem Kept.fltIn (n : Nat) (high : Bool) (tdc : Nat) : Kept d (e.fltIn n high tdc) := by
  unfold Dev.fltIn
  exact Kept.ite h (Kept.ite (((h.withPrt _).forEach _ _ (fun _ _ ht => ht.onlyIf _ _ (fun _ hu => hu.hbFault _ _))).latch _ _ _) (h.withPrt _))

theorem Kept.firmwareTrip : Kept d e.firmwareTrip := by
  unfold Dev.firmwareTrip
  exact h.latch _ _ _

theorem Kept.overTemp : Kept d e.overTemp := by
  unfold Dev.overTemp
  exact (h.latch _ _ _).vaultLog _ _

theorem Kept.debugHalt (stop : Bool) : Kept d (e.debugHalt stop) := by
  unfold Dev.debugHalt
  extract_lets _ _ s2
  have hs2 : Kept d s2 := (h.raise _).withPrt _
  exact Kept.ite (hs2.thkAll _) (hs2.latch _ _ _)

/-! ### PRT_PATH_TEST (R313) -/

theorem Kept.bodyPathTest (src : Src) (p : Packet) : Kept d (bodyPathTest src p e).1 := by
  unfold Machine.bodyPathTest
  extract_lets _ s1
  have hs1 : Kept d s1 := (h.latch _ _ _).onlyIf _ _ (fun _ ht => ht.raise _)
  exact Kept.iteFst (hs1.ansRes _) (hs1.withPrt _).ansLater

theorem Kept.pathEnd : Kept d e.pathEnd.1 := by
  unfold Dev.pathEnd
  dsimp only
  split
  · exact h
  · exact Kept.iteFst ((h.onlyIf _ _ (fun _ ht => ht.raise _)).withPrt _) h

/-! ### Costs (R417, R418) -/

theorem Kept.asOperating : Kept d e.asOperating := by
  unfold Dev.asOperating
  exact (h.setMtr _).forEach _ _ (fun _ _ ht => ht.set _ _ (ne_free (by decide)))

/-! ### Grants (R419–R421) -/

theorem Kept.arbiter : Kept d e.arbiter.2 := by
  unfold Dev.arbiter
  dsimp only
  exact (((((((((((h.withPwr _).set _ _).set _ _).set _ _).set _ _).onlyIf _ _ (fun _ ht => ht.raise _)).onlyIf _ _
      (fun _ ht => ht.count _ _)).onlyIf _ _ (fun _ ht => ht.count _ _)).onlyIf _ _ (fun _ ht => ht.count _ _)).onlyIf _ _
      (fun _ ht => ht.count _ _)).onlyIf _ _ (fun _ ht => ht.raise _)).onlyIf _ _ (fun _ ht => ht.vaultLog _ _)

theorem Kept.bodyPwrStatus (src : Src) (p : Packet) : Kept d (bodyPwrStatus src p e).1 := by
  unfold Machine.bodyPwrStatus
  exact h.withStore _ _ _ _ _ (fun _ ht => ht.ansOk)

/-! ### The time keeper (R425) -/

theorem Kept.keeperOff (periods : Nat) : Kept d (e.keeperOff periods) := by
  unfold Dev.keeperOff
  exact Kept.ite (h.withVlt _) h

theorem Kept.keeperLoad : Kept d e.keeperLoad := by
  unfold Dev.keeperLoad
  exact Kept.ite h ((h.withVlt _).raise _)

theorem Kept.keeperLost : Kept d e.keeperLost := by
  unfold Dev.keeperLost
  exact (h.keeperCount.withVlt _).set _ _

/-! ### Supplies and the cell (R423, R426–R430) -/

theorem Kept.vaultDerive : Kept d e.vaultDerive := by
  unfold Dev.vaultDerive
  exact Kept.ite h (((h.setB _ _).setB _ _).setB _ _)

theorem Kept.gateRetry : Kept d e.gateRetry := by
  unfold Dev.gateRetry
  exact h.withFram _

theorem Kept.scSample (tamp ntc teg : Int) (k : Nat) : Kept d (e.scSample tamp ntc teg k) := by
  unfold Dev.scSample
  extract_lets _ _ s2
  have hs2 : Kept d s2 := h.setB _ _ Fld.off_ne
  exact Kept.ite ((hs2.onlyIf _ _ (fun _ ht => (ht.raise _).vaultLog _ _)).onlyIf _ _ (fun _ ht => ht.wakeRequest)) hs2

theorem Kept.vaultTick (vbat : Nat) (tamp ntc teg : Int) : Kept d (e.vaultTick vbat tamp ntc teg) := by
  unfold Dev.vaultTick
  exact Kept.ite h ((((h.set _ _).forEach _ _ (fun _ _ ht => ht.scSample _ _ _ _)).onlyIf _ _
      (fun _ ht => (ht.raise _).vaultLog _ _)).gateRetry.setB _ _)

theorem Kept.harvestStart : Kept d e.harvestStart := by
  unfold Dev.harvestStart
  exact Kept.ite h (h.withVlt _)

theorem Kept.harvestStop : Kept d e.harvestStop := by
  unfold Dev.harvestStop
  exact h.withVlt _

theorem Kept.harvestVoc (voc : Nat) : Kept d (e.harvestVoc voc) := by
  unfold Dev.harvestVoc
  exact Kept.ite ((h.set _ _).set _ _) h

omit h in
/-- A register that is kept when registers are dropped from the list. -/
theorem sget_filter {α : Type} (z : Nat → α) (p : Nat → Bool) {k : Nat} (hk : p k = true) (l : List (Nat × α)) :
    sget z (l.filter (fun x => p x.1)) k = sget z l k := by
  induction l with
  | nil => rfl
  | cons x l ih =>
    rw [List.filter_cons, sget]
    split
    · rw [sget, ih]
    next hx => rw [ih, if_neg (fun hxk : x.1 = k => hx (hxk ▸ hk))]

theorem Kept.vaultCleared (dark : Bool) : Kept d (e.vaultCleared dark) :=
  h.trans ⟨id, granulesOk_of_eq rfl (sget_filter resetWord (fun o => !isVault o) (by decide) e.regs)⟩

theorem Kept.vaultDark : Kept d e.vaultDark := by
  unfold Dev.vaultDark
  exact h.vaultCleared _

theorem Kept.vaultPower (onMain : Bool) : Kept d (e.vaultPower onMain) := by
  unfold Dev.vaultPower
  exact (Kept.ite (h.vaultCleared _) h).withVlt _

theorem Kept.coldStart : Kept d e.coldStart := by
  unfold Dev.coldStart
  exact Kept.ite (h.raise _) h

theorem Kept.coldHandoff : Kept d e.coldHandoff := by
  unfold Dev.coldHandoff
  exact Kept.ite ((((h.vaultCleared _).withVlt _).raise _).vaultLog _ _) h

theorem Kept.chargeCut (on : Bool) : Kept d (e.chargeCut on) := by
  unfold Dev.chargeCut
  exact Kept.ite h (h.withVlt _)

theorem Kept.dischargeCut : Kept d e.dischargeCut := by
  unfold Dev.dischargeCut
  exact Kept.ite h ((((h.withVlt _).raise _).set _ _).vaultLog _ _)

theorem Kept.dischargeRelease : Kept d e.dischargeRelease := by
  unfold Dev.dischargeRelease
  exact Kept.ite (Kept.ite (h.withVlt _) (((h.withVlt _).raise _).gateRetry.vaultLog _ _)) h

theorem Kept.cellOver : Kept d e.cellOver := by
  unfold Dev.cellOver
  exact Kept.ite h (((((h.withVlt _).raise _).set _ _).vaultLog _ _).onlyIf _ _ (fun _ ht => ht.vaultLog _ _))

theorem Kept.cellOverEnd : Kept d e.cellOverEnd := by
  unfold Dev.cellOverEnd
  exact Kept.ite (Kept.ite (h.withVlt _) (((h.withVlt _).raise _).gateRetry.vaultLog _ _)) h

theorem Kept.supplySwitch (toMain : Bool) : Kept d (e.supplySwitch toMain) := by
  unfold Dev.supplySwitch
  exact h.withVlt _

theorem Kept.mainFailed : Kept d e.mainFailed := by
  unfold Dev.mainFailed
  exact ((h.keeperCount.set _ _).withFram _).framAsk _

theorem Kept.vaultMirror : Kept d e.vaultMirror := by
  unfold Dev.vaultMirror
  exact (Kept.ite h.keeperCount ((h.keeperCount.raise _).setPair _ _ _)).withVlt _

/-! ### The energy gate (R434–R436) -/

theorem Kept.setReq (r : FramReq) (new : List FramReq) : Kept d (e.setReq r new) := by
  unfold Dev.setReq
  exact h.withFram _

theorem Kept.gateShow : Kept d e.gateShow := by
  unfold Dev.gateShow
  exact h.setB _ _

theorem Kept.saveRetried : Kept d e.saveRetried := by
  unfold Dev.saveRetried
  exact h.setMtr _

theorem Kept.gateDefer (r : FramReq) : Kept d (e.gateDefer r).1 := by
  unfold Dev.gateDefer
  extract_lets _ s1
  have hs1 : Kept d s1 := (((h.raise _).count _ _).setReq _ _).raise _
  exact (Kept.ite hs1.saveDeferred.saveRetried hs1).gateShow

theorem Kept.gateStart (r : FramReq) : Kept d (e.gateStart r) := by
  unfold Dev.gateStart
  exact (h.setReq _ _).withFram _

theorem Kept.gateTry (vstart dv : Nat) : Kept d (e.gateTry vstart dv).1 := by
  unfold Dev.gateTry
  refine Kept.iteFst h ?_
  split
  · exact h
  · exact Kept.iteFst (h.gateStart _) (h.gateDefer _)

theorem Kept.gateDone (r : FramReq) : Kept d (e.gateDone r).1 := by
  unfold Dev.gateDone
  dsimp only
  split
  · exact Kept.iteFst (h.cfgLoadDone _) (h.presetDone _)
  · exact Kept.iteFst ((h.setPair _ _ _).vaultLog _ _) (Kept.iteFst (h.saveDone _) h)

theorem Kept.framBurst (a : Nat) (b : List Byte) : Kept d { e with fram := { e.fram with mem := writeBytes e.fram.mem a b } } :=
  h.trans ⟨e.framBytes_memWf a b, id⟩

theorem Kept.burstDone : Kept d e.burstDone.1 := by
  unfold Dev.burstDone
  dsimp only
  split
  · exact h
  next r _ =>
    have hb := h.framBurst (r.bursts.getD r.done (0, [])).1 (r.bursts.getD r.done (0, [])).2
    exact Kept.iteFst (hb.setReq _ _) ((hb.setReq _ _).gateDone _).gateShow

theorem Kept.logResume : Kept d e.logResume := by
  unfold Dev.logResume
  exact h.withFram _

theorem Kept.vaultBoot : Kept d e.vaultBoot := by
  unfold Dev.vaultBoot
  exact h.logResume.mtrBoot

/-! ### Opcodes (R437) -/

theorem Kept.bodyVltStatus (src : Src) (p : Packet) : Kept d (bodyVltStatus src p e).1 := by
  unfold Machine.bodyVltStatus
  exact h.withStore _ _ _ _ _ (fun _ ht => ht.ansOk)

theorem Kept.bodyVltFram (src : Src) (p : Packet) : Kept d (bodyVltFram src p e).1 := by
  unfold Machine.bodyVltFram
  dsimp only
  exact Kept.iteFst (h.ansBad _ _) (Kept.iteFst (h.ansBad _ _) (Kept.iteFst (Kept.iteFst h.ansLater (h.ansBad _ _))
      (h.withStore _ _ _ _ _ (fun _ ht => ht.ansOk))))

theorem Kept.setImg (x : ImgSt) (hs : x.standby = e.img.standby := by rfl) (hq : x.qspi = e.img.qspi := by rfl) : Kept d (e.setImg x) :=
  h.withImg x hs hq

/-- The standby image and the flash replaced by ones in canonical form. -/
theorem Kept.setImgMem (x : ImgSt) (hx : e.memWf → Memory.wf x.standby = true ∧ swf qErased x.qspi = true) : Kept d (e.setImg x) :=
  h.trans ⟨fun hm => by
    obtain ⟨hs, hq⟩ := hx hm
    obtain ⟨h1, h2, h3, h4, -, -⟩ := hm
    exact ⟨h1, h2, h3, h4, hs, hq⟩, id⟩

omit h in
theorem Dev.memWf.standby {e : Dev} : e.memWf → Memory.wf e.img.standby = true := fun ⟨_, _, _, _, hs, _⟩ => hs

omit h in
theorem Dev.memWf.flash {e : Dev} : e.memWf → swf qErased e.img.qspi = true := fun ⟨_, _, _, _, _, hq⟩ => hq

/-! ### QSPI and the standby slot -/

theorem Kept.qspiSend (l : List (Nat × Nat × Nat × List Byte)) : Kept d (e.qspiSend l) := by
  unfold Dev.qspiSend
  exact h.forEach _ _ (fun _ _ ht => ht.send _)

theorem Kept.qspiRead (a n : Nat) : Kept d (e.qspiRead a n) := by
  unfold Dev.qspiRead
  exact h.qspiSend _

theorem Kept.qspiErase (a n : Nat) : Kept d (e.qspiErase a n) := by
  unfold Dev.qspiErase
  exact (h.forEach _ _ (fun _ _ ht => ht.qspiSend _)).setImgMem _ (fun hm => ⟨hm.standby, qErase_wf _ _ _ hm.flash⟩)

theorem Kept.qspiProgram (a : Nat) (x : List Byte) : Kept d (e.qspiProgram a x) := by
  unfold Dev.qspiProgram
  exact (h.forEach _ _ (fun _ _ ht => ht.qspiSend _)).setImgMem _ (fun hm => ⟨hm.standby, qWrite_wf _ _ _ hm.flash⟩)

/-! ### Sessions (R401–R404) -/

theorem Kept.sessionClose : Kept d e.sessionClose := by
  unfold Dev.sessionClose
  exact ((((((h.set _ _).set _ _).set _ _).setReg _ _).setReg _ _).set _ _).setImgMem _ (fun hm => ⟨rfl, hm.flash⟩)

theorem Kept.sessionAbort : Kept d e.sessionAbort := by
  unfold Dev.sessionAbort
  exact Kept.ite (Kept.sessionClose (by split; exacts [(Kept.ite (h.qspiErase _ _) h), h])) h

theorem Kept.sessionOpen (mask : Nat) (hd : List Byte) : Kept d (e.sessionOpen mask hd) := by
  unfold Dev.sessionOpen
  extract_lets _ _ s2 s3
  have hs2 : Kept d s2 := ((((((h.raise _).set _ _).set _ _).setReg _ _).set _ _).set _ _).set _ _
  have hs3 : Kept d s3 := by
    dsimp only [s3]
    split
    · exact hs2.qspiErase _ _
    · exact hs2
  exact hs3.setImgMem _ (fun hm => ⟨rfl, hm.flash⟩)

theorem Kept.bodyImgBegin (src : Src) (p : Packet) : Kept d (bodyImgBegin src p e).1 := by
  unfold Machine.bodyImgBegin
  dsimp only
  exact Kept.iteFst (h.ansBad _ _) (Kept.iteFst (h.ansBad _ _) (Kept.iteFst (h.ansBad _ _) (h.withLoad _ _ _ _ _
      (fun _ _ ht => by split; exacts [(ht.ansBad _ _), (by split; exacts [((ht.raise _).ansBad _ _),
      (Kept.iteFst (ht.sessionOpen _ _).ansOk ((ht.raise _).ansBad _ _))])]))))

theorem Kept.blockWrite (off : Nat) (x : List Byte) : Kept d (e.blockWrite off x) := by
  refine h.trans ⟨e.blockWrite_memWf off x, fun hg => ?_⟩
  unfold Dev.blockWrite
  extract_lets _ _ _ s3
  have hs3 : Kept e s3 := by
    dsimp only [s3]
    split
    · exact (Kept.refl e).qspiProgram _ _
    · exact Kept.refl e
  exact ((Kept.refl _).set _ _).granules (hs3.granules hg)

theorem Kept.bodyImgBlock (src : Src) (p : Packet) : Kept d (bodyImgBlock src p e).1 := by
  unfold Machine.bodyImgBlock
  dsimp only
  exact Kept.iteFst (h.ansBad _ _) (Kept.iteFst (h.ansBad _ _) (Kept.iteFst (h.ansBad _ _) (Kept.iteFst (h.ansBad _ _)
      (Kept.iteFst (h.ansBad _ _) (Kept.iteFst (h.ansBad _ _) (h.withLoad _ _ _ _ _ (fun _ _ ht => Kept.iteFst (ht.ansBad _ _)
      (ht.blockWrite _ _).ansOk)))))))

theorem Kept.bodyImgVerify (_src : Src) (_p : Packet) : Kept d (bodyImgVerify _src _p e).1 := by
  unfold Machine.bodyImgVerify
  extract_lets _ _ s2 s3
  have hs2 : Kept d s2 := by
    dsimp only [s2]
    split
    · exact h.qspiRead _ _
    · exact h
  have hs3 : Kept d s3 := by
    dsimp only [s3]
    split
    · exact hs2.qspiProgram _ _
    · exact hs2
  exact Kept.iteFst (h.ansBad _ _) (Kept.iteFst (h.ansBad _ _) (Kept.iteFst ((hs2.raise _).sessionAbort.ansBad _ _) (hs3.raise _).ansOk))

theorem Kept.bodyImgAbort (_src : Src) (_p : Packet) : Kept d (bodyImgAbort _src _p e).1 := by
  unfold Machine.bodyImgAbort
  exact Kept.iteFst h.sessionAbort.ansOk (h.ansBad _ _)

theorem Kept.bodyImgStatus (_src : Src) (_p : Packet) : Kept d (bodyImgStatus _src _p e).1 := by
  unfold Machine.bodyImgStatus
  exact h.ansRes _

/-! ### Handover (R406–R411) -/

theorem Kept.imageSwap (act : Nat) : Kept d (e.imageSwap act) := by
  unfold Dev.imageSwap
  exact ((((h.set _ _).setReg _ _).set _ _).raise _).sessionClose.setImg _

theorem Kept.fuseAsk (p : Packet) : Kept d (e.fuseAsk p) := by
  unfold Dev.fuseAsk
  exact Kept.ite (h.setImg _) h

theorem Kept.handoverDone (p : Packet) (clocks act : Nat) : Kept d (e.handoverDone p clocks act).1 := by
  unfold Dev.handoverDone
  dsimp only
  exact (((h.imageSwap _).set _ _).logNow _ _ _).fuseAsk _

theorem Kept.recoveryStart (p : Packet) : Kept d (e.recoveryStart p).1 := by
  unfold Dev.recoveryStart
  dsimp only
  exact (h.free.handoverDone _ _ _).vaultBoot.poolReset.thkWithdraw.enter _ _

theorem Kept.bodyImgHandover (src : Src) (p : Packet) : Kept d (bodyImgHandover src p e).1 := by
  unfold Machine.bodyImgHandover
  exact Kept.iteFst (h.ansBad _ _) (Kept.iteFst (h.recoveryStart _) (Kept.iteFst (h.free.ansBad _ _)
      (((h.free.free.raise _).withFrm _).setImg _).ansLater))

theorem Kept.handoverFallback (status detail : Nat) : Kept d (e.handoverFallback status detail).1 := by
  unfold Dev.handoverFallback
  extract_lets s0
  have hs0 : Kept d s0 := (h.raise _).logNow _ _ _
  exact (Kept.ite ((hs0.hifFlag _).logNow _ _ _) hs0).sessionAbort

theorem Kept.handoverEnd (now : Bool) : Kept d (e.handoverEnd now).1 := by
  unfold Dev.handoverEnd
  dsimp only
  split
  · exact h
  · exact Kept.iteFst h (Kept.iteFst ((((h.set _ _).setImg _).tripsLogged _).handoverFallback _ _)
        (Kept.iteFst ((((h.set _ _).setImg _).tripsLogged _).handoverFallback _ _) (Kept.iteFst
        ((((h.set _ _).setImg _).tripsLogged _).handoverFallback _ _) ((((h.set _ _).setImg _).tripsLogged _).handoverDone _ _ _))))

theorem Kept.handoverHalt : Kept d e.handoverHalt := by
  unfold Dev.handoverHalt
  dsimp only
  split
  · exact h.setImg _
  · exact h

theorem Kept.fuseDone : Kept d e.fuseDone := by
  unfold Dev.fuseDone
  dsimp only
  split
  · exact h
  · exact (((h.setImg _).set _ _).raise _).logNow _ _ _

theorem Kept.fuseCut : Kept d e.fuseCut := by
  unfold Dev.fuseCut
  dsimp only
  split
  · exact h
  · exact h.free.setImg _

/-! ### The boot ROM’s slot checks (R378) -/

theorem Kept.readHeads : Kept d e.readHeads := by
  unfold Dev.readHeads
  exact Kept.ite h ((((((h.qspiRead _ _).qspiRead _ _).set _ _).set _ _).onlyIf _ _ (fun _ ht => ht.raise _)).setImg _)

omit h in
theorem outF_off_ne (k : Nat) : (outF k).off ≠ 0x308 := by
  unfold outF
  split
  · decide
  · decide

theorem Kept.slotTried (k outcome : Nat) : Kept d (e.slotTried k outcome) := by
  unfold Dev.slotTried
  extract_lets s0
  have hs0 : Kept d s0 := (h.set _ _ (outF_off_ne k)).onlyIf _ _ (fun _ ht => ht.raise _)
  exact Kept.ite ((hs0.set _ _).setImg _) hs0

theorem Kept.bootTry (timeout : Bool) : Kept d (e.bootTry timeout).1 := by
  unfold Dev.bootTry
  dsimp only
  refine Kept.iteFst h ?_
  split
  · exact h.readHeads
  · exact (h.readHeads.qspiRead _ _).slotTried _ _

/-! ### Interrupt vectors (R352) -/

theorem Kept.vecFire (v : Nat) : Kept d (e.vecFire v) := by
  unfold Dev.vecFire
  exact Kept.ite h ((h.withHost _).msix _)

theorem Kept.vecRearm (v : Nat) : Kept d (e.vecRearm v) := by
  unfold Dev.vecRearm
  exact (h.withHost _).onlyIf _ _ (fun _ ht => ht.vecFire _)

/-! ### Writing replies (R347, R354, R361) -/

theorem Kept.ringWrite (win : Bool) (a : Nat) (b : List Byte) : Kept d (e.ringWrite win a b) := by
  refine h.trans ⟨e.ringWrite_memWf win a b, ?_⟩
  unfold Dev.ringWrite
  split
  · exact id
  · exact id

theorem Kept.cqPost (q : Nat) (b : List Byte) : Kept d (e.cqPost q b) := by
  unfold Dev.cqPost
  exact ((h.ringWrite _ _ _).setQueue _ _).onlyIf _ _ (fun _ ht => ht.vecFire _)

theorem Kept.mbxShow (b : List Byte) (final : Bool) : Kept d (e.mbxShow b final) := by
  unfold Dev.mbxShow
  exact (((((h.withHost _).set _ _).set _ _).set _ _).event _).onlyIf _ _ (fun _ ht => ht.set _ _)

/-! ### The list of commands without their final reply -/

theorem Kept.setWaits (l : List WaitCmd) : Kept d (e.setWaits l) := by
  unfold Dev.setWaits
  exact h.withHost _

theorem Kept.setWait (w : WaitCmd) : Kept d (e.setWait w) := by
  unfold Dev.setWait
  exact h.setWaits _

theorem Kept.dropWait (w : WaitCmd) : Kept d (e.dropWait w) := by
  unfold Dev.dropWait
  exact h.setWaits _

theorem Kept.cqReserve (q n : Nat) : Kept d (e.cqReserve q n) := by
  unfold Dev.cqReserve
  exact h.setQueue _ _

theorem Kept.cqReturn (q n : Nat) : Kept d (e.cqReturn q n) := by
  unfold Dev.cqReturn
  exact h.setQueue _ _

/-! ### The end of a command of a host queue or the mailbox -/

theorem Kept.finishHost (w : WaitCmd) (r : Reply) : Kept d (e.finishHost w r) := by
  unfold Dev.finishHost
  dsimp only
  split
  · exact (Kept.ite ((h.dropWait _).cqReturn _ _) (((h.dropWait _).cqReturn _ _).cqPost _ _)).free1 _ _
  · exact Kept.ite (((h.dropWait _).set _ _).free1 _ _) (Kept.ite ((h.dropWait _).withHost _) (((h.dropWait _).mbxShow _ _).free1 _ _))
  · exact h.dropWait _

/-! ### Station answers (R282) -/

theorem Kept.setTxn (x : Txn) : Kept d (e.setTxn x) := by
  unfold Dev.setTxn
  exact h.setKrk _

theorem Kept.dropTxn (x : Txn) : Kept d (e.dropTxn x) := by
  unfold Dev.dropTxn
  exact h.setKrk _

theorem Kept.txnEnd (x : Txn) (r : Reply) (failed : List Nat) : Kept d (e.txnEnd x r failed) := by
  unfold Dev.txnEnd
  extract_lets s0 _ _ _ _ _ s6 _ s8
  have hs0 : Kept d s0 := (h.dropTxn _).freeHold _
  have hs6 : Kept d s6 := (hs0.ask _ _).bulkWrite _ _ _
  have hs8 : Kept d s8 := (Kept.ite (by split; exacts [(hs6.freeHold _), hs6]) hs0).onlyIf _ _ (fun _ ht => ht.busFault)
  split
  · exact hs8.finishHost _ _
  · exact hs8

theorem Kept.txnResult (l : List TxnAns) : Kept d (e.txnResult l).2 := by
  unfold Dev.txnResult
  dsimp only
  split
  · exact h
  · exact Kept.iteSnd h (h.foldlSnd _ _ _ (fun _ _ ht => ht.free))

theorem Kept.failNote (a : TxnAns) : Kept d (e.failNote a) := by
  unfold Dev.failNote
  exact h.onlyIf _ _ (fun _ ht => ht.faultNote _)

theorem Kept.txnOutcome (x : Txn) : Kept d (e.txnOutcome x) := by
  unfold Dev.txnOutcome
  dsimp only
  refine Kept.ite (Kept.ite ((h.txnResult _).txnEnd _ _ _) (h.txnEnd _ _ _)) ?_
  refine Kept.ite ?_ ?_
  · split
    · exact (h.failNote _).txnEnd _ _ _
    · exact Kept.ite ((h.txnResult _).txnEnd _ _ _) (h.txnEnd _ _ _)
  · split
    · exact (h.failNote _).txnEnd _ _ _
    · exact h

theorem Kept.txnAnswer (id : Nat) (a : TxnAns) : Kept d (e.txnAnswer id a) := by
  unfold Dev.txnAnswer
  split
  · exact h
  · exact Kept.ite h (Kept.ite ((h.setTxn _).txnOutcome _) (h.setTxn _))

theorem Kept.answer (origin id : Nat) (r : Reply) : Kept d (e.answer origin id r) := by
  unfold Dev.answer
  exact Kept.ite (h.txnAnswer _ _) (h.krkSend _ _ _)

/-! ### Completing, deferring -/

theorem Kept.linkFree (link : Option Hold) : Kept d (e.linkFree link) := by
  unfold Dev.linkFree
  split
  · exact h.freeHold _
  · exact h

theorem Kept.bufFree (buf : Option Nat) : Kept d (e.bufFree buf) := by
  unfold Dev.bufFree
  split
  · exact h.reserveBuf _ _
  · exact h

theorem Kept.freeAll (w : WaitCmd) : Kept d (e.freeAll w) := by
  unfold Dev.freeAll
  exact ((h.forEach _ _ (fun _ _ ht => ht.freeHold _)).linkFree _).bufFree _

theorem Kept.finish (w : WaitCmd) (r : Reply) : Kept d (e.finish w r) := by
  unfold Dev.finish
  dsimp only
  split
  · exact ((h.freeAll _).dropWait _).answer _ _ _
  · exact (h.freeAll _).finishHost _ _

theorem Kept.complete (x : Option (Src × Packet × Reply)) : Kept d (e.complete x) := by
  unfold Dev.complete
  split
  · exact h
  · split
    · exact h.finish _ _
    · exact h

theorem Kept.completeAll (l : List (Src × Packet × Reply)) : Kept d (e.completeAll l) := by
  unfold Dev.completeAll
  exact h.forEach _ _ (fun _ _ ht => ht.complete _)

theorem Kept.defer (w : WaitCmd) (mask : Nat) : Kept d (e.defer w mask) := by
  unfold Dev.defer
  dsimp only
  refine Kept.ite ?_ (h.setWait _)
  split
  · exact ((h.setWait _).cqReturn _ _).cqPost _ _
  · exact (h.setWait _).mbxShow _ _
  · exact h.setWait _

end

end Sys2Proof.Machine
end

section
/-! PROOFS. O5: states, administration, the op table, submission, views, clocks and frames. -/

set_option Elab.async false

namespace Sys2Proof.Machine

section
variable {d e : Dev} (h : Kept d e)
include h

/-! ### STATE_GOTO (R370–R376) -/

theorem Kept.enterConfig (cause : Nat) : Kept d (e.enterConfig cause) := by
  unfold Dev.enterConfig
  exact (((((h.onlyIf _ _ (fun _ ht => ht.leaveStation)).onlyIf _ _ (fun _ ht => ht.saveAsk _)).forEach _ _
      (fun _ _ ht => ht.onlyIf _ _ (fun _ hu => (hu.injStop _).raise _))).setGrid _).onlyIf _ _ (fun _ ht => ht.capAbort)).enter _ _

theorem Kept.leaveConfig (cause : Nat) : Kept d (e.leaveConfig cause) := by
  unfold Dev.leaveConfig
  exact (h.thkBudget.cellsLeaveConfig.forEach _ _ (fun _ _ ht => ht.discStart _)).enter _ _

theorem Kept.gotoMove (target tag : Nat) : Kept d (e.gotoMove target tag) := by
  unfold Dev.gotoMove
  exact Kept.ite (h.leaveConfig _) (Kept.ite (h.enterConfig _) (h.enter _ _))

theorem Kept.bodyStateGoto (_src : Src) (p : Packet) : Kept d (bodyStateGoto _src p e).1 := by
  unfold Machine.bodyStateGoto
  dsimp only
  refine Kept.iteFst (h.ansRes _) ?_
  split
  · exact (Kept.ite (h.thkBudget.onlyIf _ _ (fun _ ht => ht.raise _)) h).ansBad _ _
  · exact (h.gotoMove _ _).ansRes _

/-! ### Resets -/

omit h in
/-- A register that is dropped from the list shows its reset value. -/
theorem sget_filter_out {α : Type} (z : Nat → α) (p : Nat → Bool) {k : Nat} (hk : p k = false) (l : List (Nat × α)) :
    sget z (l.filter (fun x => p x.1)) k = z k := by
  induction l with
  | nil => rfl
  | cons x l ih =>
    rw [List.filter_cons]
    split
    next hx => rw [sget, ih, if_neg (fun hxk : x.1 = k => by rw [hxk, hk] at hx; cases hx)]
    · exact ih

omit h in
theorem Dev.keptRegs_free (s : Dev) (link : Bool) : sget resetWord (s.keptRegs link) Reg.HIF_POOL_FREE = resetWord Reg.HIF_POOL_FREE := by
  unfold Dev.keptRegs
  rw [sget_sset_ne _ _ _ _ _ (by decide)]
  exact sget_filter_out resetWord isVault (by decide) s.regs

omit h in
/-- All granules are free where none has a user and HIF_POOL_FREE shows its reset value (R30). -/
theorem granulesOk_fresh {e : Dev} (hu : e.pool.users = []) (hr : e.reg Reg.HIF_POOL_FREE = resetWord Reg.HIF_POOL_FREE) : e.granulesOk := by
  have huser : ∀ u, e.user u = {} := fun u => by rw [Dev.user, hu]; rfl
  refine ⟨by rw [hu]; rfl, fun u _ => huser u, ?_, ?_⟩
  · simp only [huser]
    rw [Dev.get_of_reg (f := Reg.HIF_POOL_FREE_RES_FREE) (s := State.reset.dev) hr]
    decide
  · simp only [huser]
    rw [Dev.get_of_reg (f := Reg.HIF_POOL_FREE_SH_FREE) (s := State.reset.dev) hr]
    decide

theorem Kept.mainReset (link : Bool) : Kept d (e.mainReset link) := by
  unfold Dev.mainReset
  extract_lets s0
  have hs0 : Kept d s0 := h.sessionAbort.keeperCount
  clear_value s0
  refine Kept.set ?_ _ _
  refine ⟨fun hm => ?_, fun _ => granulesOk_fresh rfl (s0.keptRegs_free link)⟩
  obtain ⟨hhost, -, -, hfram, -, hflash⟩ := hs0.mem hm
  refine ⟨hhost, ?_, ?_, hfram, rfl, hflash⟩
  · cases link
    · rfl
    · rfl
  · cases link
    · rfl
    · rfl

theorem Kept.sampleStraps (straps : Nat) : Kept d (e.sampleStraps straps) := by
  unfold Dev.sampleStraps
  exact (h.withStraps _).setB _ _

theorem Kept.lkpEnds : Kept d e.lkpEnds := by
  unfold Dev.lkpEnds
  exact h.onlyIf _ _ (fun _ ht => ht.setB _ _)

theorem Kept.devReset : Kept d e.devReset := by
  unfold Dev.devReset
  exact (h.lkpEnds.mainReset _).free.sampleStraps _

theorem Kept.holdReset : Kept d e.holdReset := by
  unfold Dev.holdReset
  exact ((h.withInReset _).mainReset _).withInReset _

theorem Kept.releaseReset (straps periods : Nat) : Kept d (e.releaseReset straps periods) := by
  unfold Dev.releaseReset
  extract_lets s0
  have hs0 : Kept d s0 := h.keeperOff _
  clear_value s0
  refine Kept.sampleStraps ?_ straps
  exact ⟨hs0.mem, hs0.granules⟩

/-! ### NOP, IDENTIFY -/

theorem Kept.bodyNop (_src : Src) (_p : Packet) : Kept d (bodyNop _src _p e).1 := by
  unfold Machine.bodyNop
  exact h.ansOk

theorem Kept.bodyIdentify (_src : Src) (_p : Packet) : Kept d (bodyIdentify _src _p e).1 := by
  unfold Machine.bodyIdentify
  exact h.ansRes _

/-! ### Queues (R346) -/

theorem Kept.bodyQCreate (_src : Src) (p : Packet) : Kept d (bodyQCreate _src p e).1 := by
  unfold Machine.bodyQCreate
  dsimp only
  split
  · exact h.ansBad _ _
  · exact Kept.iteFst (h.ansBad _ _) (h.setQueue _ _).ansOk

theorem Kept.closeQueue (q : Nat) : Kept d (e.closeQueue q) := by
  unfold Dev.closeQueue
  exact ((h.forEach _ _ (fun _ _ ht => ((ht.freeAll _).dropWait _).onlyIf _ _ (fun _ hu => (hu.free1 _ _).cqReturn _ _))).withHost _).setQueue _ _

theorem Kept.queueDrop (q : Nat) : Kept d (e.queueDrop q) := by
  unfold Dev.queueDrop
  extract_lets s0
  have hs0 : Kept d s0 := by
    dsimp only [s0]
    split
    · exact h.free1 _ _
    · exact h
  exact hs0.setQueue _ _

theorem Kept.queueGone (q : Nat) : Kept d (e.queueGone q) := by
  unfold Dev.queueGone
  extract_lets s0
  have hs0 : Kept d s0 := h.queueDrop _
  refine Kept.ite h ?_
  split
  · exact hs0.finish _ _
  · exact hs0

theorem Kept.queuesGone : Kept d e.queuesGone := by
  unfold Dev.queuesGone
  exact h.forEach _ _ (fun _ _ ht => ht.queueGone _)

theorem Kept.bodyQDelete (_src : Src) (p : Packet) : Kept d (bodyQDelete _src p e).1 := by
  unfold Machine.bodyQDelete
  dsimp only
  exact Kept.iteFst (h.ansBad _ _) (Kept.iteFst (h.closeQueue _).ansLater ((h.closeQueue _).queueDrop _).ansOk)

/-! ### Management port (R345) -/

theorem Kept.bodyMgtSend (src : Src) (p : Packet) : Kept d (bodyMgtSend src p e).1 := by
  unfold Machine.bodyMgtSend
  dsimp only
  exact Kept.iteFst (h.ansBad _ _) (h.withLoad _ _ _ _ _ (fun _ _ ht => (Kept.ite (ht.free.send _) (ht.free.count _ _)).ansRes _))

theorem Kept.bodyMgtRecv (src : Src) (p : Packet) : Kept d (bodyMgtRecv src p e).1 := by
  unfold Machine.bodyMgtRecv
  dsimp only
  exact Kept.iteFst (h.ansBad _ _) (Kept.iteFst (h.ansBad _ _) (Kept.iteFst (h.ansBad _ _) (h.withHost _).ansLater))

theorem Kept.ptpSend (type seq t : Nat) : Kept d (e.ptpSend type seq t) := by
  unfold Dev.ptpSend
  exact Kept.ite (h.send _) (h.count _ _)

theorem Kept.ptpDue (announce : Bool) : Kept d (e.ptpDue announce) := by
  unfold Dev.ptpDue
  exact Kept.ite h ((Kept.ite (h.ptpSend _ _ _) ((h.ptpSend _ _ _).ptpSend _ _ _)).withHost _)

theorem Kept.mgtRx (x : List Byte) (tdc : Nat) : Kept d (e.mgtRx x tdc).1 := by
  unfold Dev.mgtRx
  dsimp only
  refine Kept.iteFst h ?_
  split
  · exact Kept.iteFst (h.ptpSend _ _ _) h
  · split
    · exact (h.count _ _).hifFlag _
    · exact ((h.withHost _).withStore _ _ _ _ _ (fun _ ht => ht.ansRes _)).letsGo

/-! ### Snapshots and the log (R396) -/

theorem Kept.bodySnpTrigger (src : Src) (p : Packet) : Kept d (bodySnpTrigger src p e).1 := by
  unfold Machine.bodySnpTrigger
  dsimp only
  exact ((h.snapTrigger _ _ _).withSnp _).ansLater

theorem Kept.snapReplies : Kept d e.snapReplies := by
  unfold Dev.snapReplies
  exact Kept.ite h ((h.withSnp _).completeAll _)

theorem Kept.bodySnpRead (src : Src) (p : Packet) : Kept d (bodySnpRead src p e).1 := by
  unfold Machine.bodySnpRead
  dsimp only
  refine Kept.iteFst (h.ansBad _ _) ?_
  split
  · exact h.ansWant _ _ _ _
  · exact Kept.iteFst (h.ansBad _ _) (h.withStore _ _ _ _ _ (fun _ ht => (ht.onlyIf _ _ (fun _ hu => hu.snapRelease _)).ansRes _))

theorem Kept.bodyLogRead (src : Src) (p : Packet) : Kept d (bodyLogRead src p e).1 := by
  unfold Machine.bodyLogRead
  dsimp only
  refine Kept.iteFst (h.ansBad _ _) ?_
  split
  · exact h.ansWant _ _ _ _
  · exact h.withStore _ _ _ _ _ (fun _ ht => ht.ansRes _)

theorem Kept.bodyDevReset (src : Src) (p : Packet) : Kept d (bodyDevReset src p e).1 := by
  unfold Machine.bodyDevReset
  dsimp only
  exact (h.complete _).devReset

/-- What the row of an opcode does keeps the memories and the granules. -/
def KeepsRow (row : OpRow) : Prop := ∀ src p s, Kept s (row.body src p s).1

/-- So does the row that a part of the table gives, where it gives one. -/
def KeepsRows (o : Option OpRow) : Prop := ∀ row, o = some row → KeepsRow row

omit h in
theorem KeepsRows.none : KeepsRows none := fun _ hr => nomatch hr

omit h in
theorem KeepsRows.row {row : OpRow} (hb : KeepsRow row) : KeepsRows (some row) := fun _ hr => Option.some.inj hr ▸ hb

omit h in
theorem opAdmin_keeps (code : Nat) : KeepsRows (opAdmin code) := by
  unfold opAdmin
  split
  · exact .row fun src p s => (Kept.refl s).bodyNop src p
  · exact .row fun src p s => (Kept.refl s).bodyIdentify src p
  · exact .row fun src p s => (Kept.refl s).bodyQCreate src p
  · exact .row fun src p s => (Kept.refl s).bodyQDelete src p
  · exact .row fun src p s => (Kept.refl s).bodyStateGoto src p
  · exact .row fun src p s => (Kept.refl s).bodyDevReset src p
  · exact .row fun src p s => (Kept.refl s).bodyMgtSend src p
  · exact .row fun src p s => (Kept.refl s).bodyMgtRecv src p
  · exact .none

omit h in
theorem opCirrus_keeps (code : Nat) : KeepsRows (opCirrus code) := by
  unfold opCirrus
  split
  · exact .row fun src p s => (Kept.refl s).bodyCeCtxLoad src p
  · exact .row fun src p s => (Kept.refl s).bodyCeCtxEnable src p
  · exact .row fun src p s => (Kept.refl s).bodyCeCtxRemove src p
  · exact .row fun src p s => (Kept.refl s).bodyCeCtxRead src p
  · exact .row fun src p s => (Kept.refl s).bodyCeSpSet src p
  · exact .row fun src p s => (Kept.refl s).bodyCeParamSet src p
  · exact .row fun src p s => (Kept.refl s).bodyCeStateReset src p
  · exact .row fun src p s => (Kept.refl s).bodyCeCostQuery src p
  · exact .row fun src p s => (Kept.refl s).bodyCeTblLoad src p
  · exact .row fun src p s => (Kept.refl s).bodyCeTblRead src p
  · exact .row fun src p s => (Kept.refl s).bodyCeInjStart src p
  · exact .row fun src p s => (Kept.refl s).bodyCeInjStop src p
  · exact .row fun src p s => (Kept.refl s).bodyCeCapArm src p
  · exact .row fun src p s => (Kept.refl s).bodyCeCapRead src p
  · exact .row fun src p s => (Kept.refl s).bodyCeCapAbort src p
  · exact .none

omit h in
theorem opCells_keeps (code : Nat) : KeepsRows (opCells code) := by
  unfold opCells
  split
  · exact .row fun src p s => (Kept.refl s).bodyCellMapLoad src p
  · exact .row fun src p s => (Kept.refl s).bodyCellMapRead src p
  · exact .row fun src p s => (Kept.refl s).bodyCellStatusRead src p
  · exact .row fun src p s => (Kept.refl s).bodyCellBypass src p
  · exact .row fun src p s => (Kept.refl s).bodyCellRestore src p
  · exact .row fun src p s => (Kept.refl s).bodyCellIvSweep src p
  · exact .row fun src p s => (Kept.refl s).bodyCellIvRead src p
  · exact .row fun src p s => (Kept.refl s).bodyCellVrefSet src p
  · exact .row fun src p s => (Kept.refl s).bodyCellSocSet src p
  · exact .row fun src p s => (Kept.refl s).bodyCellRotate src p
  · exact .none

omit h in
theorem opMod_keeps (code : Nat) : KeepsRows (opMod code) := by
  unfold opMod
  split
  · exact .row fun src p s => (Kept.refl s).bodyModSlotLoad src p
  · exact .row fun src p s => (Kept.refl s).bodyModCellCommit src p
  · exact .row fun src p s => (Kept.refl s).bodyModProfLoad src p
  · exact .row fun src p s => (Kept.refl s).bodyModProfRead src p
  · exact .row fun src p s => (Kept.refl s).bodyModFltClear src p
  · exact .row fun src p s => (Kept.refl s).bodyModEdgeTest src p
  · exact .row fun src p s => (Kept.refl s).bodyModBsRead src p
  · exact .row fun src p s => (Kept.refl s).bodyModSlotRead src p
  · exact .none

omit h in
theorem opGrid_keeps (code : Nat) : KeepsRows (opGrid code) := by
  unfold opGrid
  split
  · exact .row fun src p s => (Kept.refl s).bodyGridProfileLoad src p
  · exact .row fun src p s => (Kept.refl s).bodyGridProfileRead src p
  · exact .row fun src p s => (Kept.refl s).bodyGridStatusRead src p
  · exact .row fun src p s => (Kept.refl s).bodyGridIslArm src p
  · exact .row fun src p s => (Kept.refl s).bodyGridZrefReset src p
  · exact .row fun src p s => (Kept.refl s).bodyGridTripTest src p
  · exact .none

omit h in
theorem opStation_keeps (code : Nat) : KeepsRows (opStation code) := by
  unfold opStation
  split
  · exact .row fun src p s => (Kept.refl s).bodyStnTableLoad src p
  · exact .row fun src p s => (Kept.refl s).bodyStnTableRead src p
  · exact .row fun src p s => (Kept.refl s).bodyStnJoin src p
  · exact .row fun src p s => (Kept.refl s).bodyStnLeave src p
  · exact .row fun src p s => (Kept.refl s).bodyStnStatusRead src p
  · exact .row fun src p s => (Kept.refl s).bodyStnSlotSet src p
  · exact .row fun src p s => (Kept.refl s).bodyStnResarea src p
  · exact .row fun src p s => (Kept.refl s).bodyStnSquallAt src p
  · exact .none

omit h in
theorem opProtect_keeps (code : Nat) : KeepsRows (opProtect code) := by
  unfold opProtect
  split
  · exact .row fun src p s => (Kept.refl s).bodyTripClear src p
  · exact .row fun src p s => (Kept.refl s).bodyTripForce src p
  · exact .row fun src p s => (Kept.refl s).bodyPathTest src p
  · exact .row fun src p s => (Kept.refl s).bodySafLoad src p
  · exact .row fun src p s => (Kept.refl s).bodySafConfirm src p
  · exact .row fun src p s => (Kept.refl s).bodySafRead src p
  · exact .row fun src p s => (Kept.refl s).bodyCtoSet src p
  · exact .row fun src p s => (Kept.refl s).bodyAccess src p
  · exact .none

omit h in
theorem opMeter_keeps (code : Nat) : KeepsRows (opMeter code) := by
  unfold opMeter
  split
  · exact .row fun src p s => (Kept.refl s).bodyMtrCfgLoad src p
  · exact .row fun src p s => (Kept.refl s).bodyMtrCfgRead src p
  · exact .row fun src p s => (Kept.refl s).bodyMtrAccRead src p
  · exact .row fun src p s => (Kept.refl s).bodyMtrIntvRead src p
  · exact .row fun src p s => (Kept.refl s).bodyMtrEvtRead src p
  · exact .row fun src p s => (Kept.refl s).bodyMtrHarmRead src p
  · exact .row fun src p s => (Kept.refl s).bodyMtrUnsavedRead src p
  · exact .row fun src p s => (Kept.refl s).bodyMtrSaveNow src p
  · exact .row fun src p s => (Kept.refl s).bodyMtrAccPreset src p
  · exact .none

omit h in
theorem opSquall_keeps (code : Nat) : KeepsRows (opSquall code) := by
  unfold opSquall
  split
  · exact .row fun src p s => (Kept.refl s).bodySnpTrigger src p
  · exact .row fun src p s => (Kept.refl s).bodySnpRead src p
  · exact .row fun src p s => (Kept.refl s).bodyLogRead src p
  · exact .none

omit h in
theorem opImage_keeps (code : Nat) : KeepsRows (opImage code) := by
  unfold opImage
  split
  · exact .row fun src p s => (Kept.refl s).bodyImgBegin src p
  · exact .row fun src p s => (Kept.refl s).bodyImgBlock src p
  · exact .row fun src p s => (Kept.refl s).bodyImgVerify src p
  · exact .row fun src p s => (Kept.refl s).bodyImgHandover src p
  · exact .row fun src p s => (Kept.refl s).bodyImgAbort src p
  · exact .row fun src p s => (Kept.refl s).bodyImgStatus src p
  · exact .none

omit h in
theorem opPower_keeps (code : Nat) : KeepsRows (opPower code) := by
  unfold opPower
  split
  · exact .row fun src p s => (Kept.refl s).bodyPwrStatus src p
  · exact .row fun src p s => (Kept.refl s).bodyVltStatus src p
  · exact .row fun src p s => (Kept.refl s).bodyVltFram src p
  · exact .none

omit h in
theorem opRow_keeps (code : Nat) : KeepsRows (opRow code) := by
  unfold opRow
  split
  · exact opAdmin_keeps code
  · exact opCirrus_keeps code
  · exact opCells_keeps code
  · exact opMod_keeps code
  · exact opGrid_keeps code
  · exact opStation_keeps code
  · exact opProtect_keeps code
  · exact opMeter_keeps code
  · exact opSquall_keeps code
  · exact opImage_keeps code
  · exact opPower_keeps code
  · exact .none

/-! ### Execution -/

theorem Kept.runBody {row : OpRow} (hrow : KeepsRow row) (src : Src) (p : Packet) (data : List Byte) (kept : List Hold) (buf : Option Nat)
    (arrived : Nat) : Kept d (e.runBody row src p data kept buf arrived).1.1 := by
  unfold Dev.runBody
  extract_lets _ s0 _ _ s1 _ r
  have hs0 : Kept d s0 := h.setKrk _
  clear_value s0
  have hs1 : Kept d s1 := ⟨hs0.mem, hs0.granules⟩
  clear_value s1
  have hr : Kept d r.1 := (hs1.withPool _).trans (hrow src p _)
  clear_value r
  exact hr.trans ⟨id, granulesOk_of_eq rfl rfl⟩

theorem Kept.keepBulk (w : WaitCmd) (l : List Hold) : Kept d (e.keepBulk w l) := by
  unfold Dev.keepBulk
  exact h.setWaits _

theorem Kept.execute (w : WaitCmd) {row : OpRow} (hrow : KeepsRow row) : Kept d (e.execute w row) := by
  unfold Dev.execute
  extract_lets t r
  have hr : Kept d r.1.1 := Kept.runBody (h.setWait _) hrow _ _ _ _ _ _
  clear_value r
  split
  · exact hr.finish _ _
  · exact (hr.keepBulk _ _).bufFree _

theorem Kept.step4 (w : WaitCmd) (row : OpRow) (atTick : Bool) (hrow : KeepsRow row) : Kept d (e.step4 w row atTick) := by
  unfold Dev.step4
  exact Kept.ite (h.finish _ _) (Kept.ite (Kept.ite (Kept.ite (h.finish _ _) (h.setWait _)) (h.execute _ hrow))
      (Kept.ite (h.defer _ _) (h.finish _ _)))

theorem Kept.runLocal (w : WaitCmd) (row : OpRow) (hrow : KeepsRow row) : Kept d (e.runLocal w row) := by
  unfold Dev.runLocal
  dsimp only
  split
  · exact h.finish _ _
  · exact Kept.ite (Kept.ite (h.finish _ _) (h.setWait _)) (h.step4 _ _ _ hrow)

theorem Kept.addWait (w : WaitCmd) : Kept d (e.addWait w).2 := by
  unfold Dev.addWait
  dsimp only
  exact h.withHost _

/-! ### COHERENT packets at a target (R281) -/

theorem Kept.prepCheck (src : Src) (p : Packet) {row : OpRow} (hrow : KeepsRow row) (data : List Byte) : Kept d (e.prepCheck src p row data).1 := by
  unfold Dev.prepCheck
  extract_lets _ r _ _
  have hr : Kept d r.1.1 := h.runBody hrow _ _ _ _ _ _
  clear_value r
  split
  · exact h
  · refine Kept.iteFst h (Kept.iteFst h (Kept.iteFst ?_ (Kept.iteFst h ?_)))
    · split
      · exact h
      · exact h
    · split
      · exact h
      · exact Kept.iteFst h (hr.forEach _ _ (fun _ _ ht => ht.freeHold _))

theorem Kept.prepReserve {p : Packet} {x : Option Nat × Dev} (hx : e.prepReserve p = some x) : Kept d x.2 := by
  unfold Dev.prepReserve at hx
  split at hx
  · obtain ⟨k, -, rfl⟩ := Option.map_eq_some_iff.mp hx
    exact h.reserveBuf _ _
  · cases hx
    exact h

theorem Kept.prepTake (u : Nat) (need : List Nat) : Kept d (e.prepTake u need).2 := by
  unfold Dev.prepTake
  exact h.foldlSnd _ _ _ (fun _ _ ht => by dsimp only; split <;> exact (ht.ask _ _))

theorem Kept.prepare (origin id : Nat) (src : Src) (p : Packet) (commitN : Nat) (data : List Byte) (link : Option Hold) :
    Kept d (e.prepare origin id src p commitN data link) := by
  unfold Dev.prepare
  extract_lets no
  have hno : ∀ t r, Kept d t → Kept d (no t r) := fun t r ht => (ht.linkFree link).answer origin id r
  split
  · exact hno _ _ h
  next row hr =>
    have hc : Kept d (e.prepCheck src p row data).1 := h.prepCheck src p (opRow_keeps _ _ hr) data
    refine Kept.ite (hno _ _ hc) ?_
    split
    · exact hno _ _ hc
    next b hb => exact (((hc.prepReserve hb).prepTake _ _).setKrk _).answer _ _ _

theorem Kept.dropPrep (x : Prep) : Kept d (e.dropPrep x) := by
  unfold Dev.dropPrep
  exact h.setKrk _

theorem Kept.prepRelease (x : Prep) : Kept d (e.prepRelease x) := by
  unfold Dev.prepRelease
  exact (((h.dropPrep _).forEach _ _ (fun _ _ ht => ht.freeHold _)).linkFree _).bufFree _

theorem Kept.goPrep (origin id : Nat) : Kept d (e.goPrep origin id) := by
  unfold Dev.goPrep
  split
  · exact h
  · exact Kept.ite ((h.dropPrep _).addWait _) h

theorem Kept.abortPrep (origin id : Nat) : Kept d (e.abortPrep origin id) := by
  unfold Dev.abortPrep
  split
  · exact h.prepRelease _
  · exact (h.freeAll _).dropWait _
  · exact h

theorem Kept.expirePreps : Kept d e.expirePreps := by
  unfold Dev.expirePreps
  exact h.forEach _ _ (fun _ _ ht => ht.prepRelease _)

/-! ### Routing at the coordinator (R280–R282) -/

theorem Kept.forwardData {src : Src} {p : Packet} {x : Dev × Reply} (hx : e.forwardData src p = .inl x) : Kept d x.1 := by
  unfold Dev.forwardData at hx
  split at hx
  · split at hx
    · cases hx
      exact h
    · cases hx
  · split at hx
    · cases hx
    · split at hx
      · cases hx
        exact h
      · split at hx
        · cases hx
        · cases hx
          exact h.busFault

theorem Kept.forward (w : WaitCmd) (row : OpRow) (id : Nat) (data : List Byte) (commitN : Nat) (targets : List Nat) (hrow : KeepsRow row) :
    Kept d (e.forward w row id data commitN targets) := by
  unfold Dev.forward
  extract_lets _ _ _ s3
  have hs3 : Kept d s3 := h.forEach _ _ (fun _ _ ht => ht.krkSend _ _ _)
  exact Kept.ite hs3 (Kept.ite (hs3.prepare _ _ _ _ _ _ _) ((hs3.addWait _).runLocal _ _ hrow))

theorem Kept.route (w : WaitCmd) {row : OpRow} (hrow : KeepsRow row) : Kept d (e.route w row) := by
  unfold Dev.route
  dsimp only
  split
  · exact h.finish _ _
  · refine Kept.ite (h.finish _ _) ?_
    split
    next hx => exact (h.forwardData hx).finish _ _
    next data _ =>
      have ha := h.ask (srcUser w.src) (1 + cdiv data.length 256)
      split
      next ht =>
        rw [ht] at ha
        exact ha.noSpace.finish _ _
      next ht =>
        rw [ht] at ha
        exact ((ha.setKrk _).setWait _).forward _ _ _ _ _ _ hrow

theorem Kept.decide_ (x : Txn) (go : Bool) : Kept d (e.decide_ x go) := by
  unfold Dev.decide_
  extract_lets s0
  have hs0 : Kept d s0 := h.forEach _ _ (fun _ _ ht => ht.krkSend _ _ _)
  exact Kept.ite hs0 (Kept.ite (hs0.goPrep _ _) (hs0.abortPrep _ _))

theorem Kept.txnDecide (x : Txn) : Kept d (e.txnDecide x) := by
  unfold Dev.txnDecide
  exact Kept.ite ((h.decide_ _ _).txnEnd _ _ _) (Kept.ite ((h.setTxn _).decide_ _ _) ((h.decide_ _ _).txnOutcome _))

theorem Kept.decisions : Kept d e.decisions := by
  unfold Dev.decisions
  exact h.forEach _ _ (fun _ _ ht => ht.txnDecide _)

theorem Kept.txnView : Kept d e.txnView := by
  unfold Dev.txnView
  exact h.forEach _ _ (fun _ _ ht => (ht.decide_ _ _).txnEnd _ _ _)

theorem Kept.txnTimeout : Kept d e.txnTimeout := by
  unfold Dev.txnTimeout
  exact h.forEach _ _ (fun _ _ ht => ht.txnOutcome _)

/-! ### A packet arrives -/

theorem Kept.arrive (w : WaitCmd) : Kept d (e.arrive w) := by
  unfold Dev.arrive
  dsimp only
  split
  · exact (h.addWait _).finish _ _
  next row hr =>
    refine Kept.ite ((h.addWait _).finish _ _) ?_
    split
    · exact (h.addWait _).finish _ _
    · refine Kept.ite ?_ ((h.addWait _).runLocal _ _ (opRow_keeps _ _ hr))
      split
      · exact (h.addWait _).finish _ _
      · exact (h.addWait _).route _ (opRow_keeps _ _ hr)

/-! ### Messages from other chips -/

theorem Kept.replyTaken (txn : Nat) (a : TxnAns) (bulk : List Byte) : Kept d (e.replyTaken txn a bulk) := by
  unfold Dev.replyTaken
  split
  · exact h
  · exact Kept.ite (h.txnAnswer _ _) (Kept.ite (h.txnAnswer _ _) (Kept.ite (h.busFault.txnAnswer _ _) ((h.bulkWrite _ _ _).txnAnswer _ _)))

theorem Kept.inwardRun (x : Inbound) : Kept d (e.inwardRun x) := by
  unfold Dev.inwardRun
  split
  · exact h.arrive _
  · exact h.prepare _ _ _ _ _ _ _
  · exact (h.freeHold _).replyTaken _ _ _
  · exact Kept.ite (h.goPrep _ _) (h.abortPrep _ _)

theorem Kept.inward (x : Inbound) : Kept d (e.inward x) := by
  unfold Dev.inward
  exact Kept.ite (h.inwardRun _) (h.setKrk _)

theorem Kept.inboxRun : Kept d e.inboxRun := by
  unfold Dev.inboxRun
  exact Kept.ite h ((h.setKrk _).forEach _ _ (fun _ _ ht => Kept.ite (ht.inward _) (ht.freeHold _)))

/-! ### Fetching (R349, R360) -/

theorem Kept.fetchQueue (q : Nat) (g : Bool) : Kept d (e.fetchQueue q g) := by
  unfold Dev.fetchQueue
  extract_lets _ s1 _ _ _ s5
  have hs1 : Kept d s1 := h.setGrant _ _
  have hs5 : Kept d s5 := hs1.setQueue _ _
  exact Kept.ite (((hs1.setQueue _ _).hifFlag _).free1 _ _) ((Kept.ite hs5 (hs5.withHost _)).arrive _)

theorem Kept.fetchMbx (p : Packet) (g : Bool) : Kept d (e.fetchMbx p g) := by
  unfold Dev.fetchMbx
  exact ((h.setGrant _ _).withHost _).arrive _

theorem Kept.fetchNext : Kept d e.fetchNext := by
  unfold Dev.fetchNext
  dsimp only
  split
  · exact h.grantEntries.fetchMbx _ _
  · split
    · exact h.grantEntries.fetchQueue _ _
    · exact h.grantEntries

theorem Kept.take {src : Src} {x : Bool × Dev} (hx : e.take src = some x) : Kept d x.2 := by
  unfold Dev.take at hx
  split at hx
  · dsimp only at hx
    split at hx
    · obtain ⟨k, -, rfl⟩ := Option.map_eq_some_iff.mp hx
      exact (h.ask _ _).cqReserve _ _
    · cases hx
  · split at hx
    · obtain ⟨k, -, rfl⟩ := Option.map_eq_some_iff.mp hx
      exact (h.ask _ _).set _ _
    · cases hx
  · split at hx
    · cases hx
      exact h
    · cases hx

theorem Kept.runOp (op : Nat) (src : Src) (p : Packet) : Kept d (e.runOp op src p) := by
  unfold Dev.runOp
  dsimp only
  split
  · exact h
  next hx => exact (h.take hx).arrive _

/-! ### Commands due at a tick -/

theorem Kept.turnOf (w : WaitCmd) : Kept d (e.turnOf w) := by
  unfold Dev.turnOf
  exact h.withHost _

theorem Kept.heldDue : Kept d e.heldDue := by
  unfold Dev.heldDue
  refine Kept.ite h ?_
  split
  · exact h
  · split
    next row hr =>
      exact Kept.ite h ((h.turnOf _).step4 _ _ _ (opRow_keeps _ _ hr))
    · exact h

theorem Kept.deferredRun : Kept d e.deferredRun := by
  unfold Dev.deferredRun
  refine Kept.ite h ?_
  split
  · exact h
  · split
    next row hr =>
      exact Kept.ite ((h.turnOf _).execute _ (opRow_keeps _ _ hr)) h
    · exact h

theorem Kept.deferralTimeout : Kept d e.deferralTimeout := by
  unfold Dev.deferralTimeout
  split
  · exact h
  · split
    · exact h.finish _ _
    · exact h

/-! ### Doorbells (R348) -/

theorem Kept.dbErr : Kept d e.dbErr := by
  unfold Dev.dbErr
  exact h.hifFlag _

theorem Kept.sqtWrite (q v : Nat) : Kept d (e.sqtWrite q v) := by
  unfold Dev.sqtWrite
  exact Kept.ite h.dbErr (Kept.ite (h.setQueue _ _).dbErr (h.setQueue _ _))

theorem Kept.cqhWrite (q v : Nat) : Kept d (e.cqhWrite q v) := by
  unfold Dev.cqhWrite
  exact Kept.ite h.dbErr ((h.setQueue _ _).onlyIf _ _ (fun _ ht => ht.vecRearm _))

theorem Kept.bellKept (q : Nat) (cqh : Bool) (v : Nat) : Kept d (e.bellKept q cqh v) := by
  unfold Dev.bellKept
  exact h.setQueue _ _

theorem Kept.sqtBell (q v : Nat) : Kept d (e.sqtBell q v) := by
  unfold Dev.sqtBell
  exact Kept.ite (h.sqtWrite _ _) (h.bellKept _ _ _)

theorem Kept.cqhBell (q v : Nat) : Kept d (e.cqhBell q v) := by
  unfold Dev.cqhBell
  exact Kept.ite (h.cqhWrite _ _) (h.bellKept _ _ _)

theorem Kept.cmdReady : Kept d e.cmdReady := by
  unfold Dev.cmdReady
  exact (h.raise _).forEach _ _ (fun _ _ ht => (ht.setQueue _ _).forEach _ _ (fun _ _ hu => Kept.ite (hu.cqhWrite _ _) (hu.sqtWrite _ _)))

/-! ### Mailbox (R360–R362) -/

theorem Kept.mbxGo : Kept d e.mbxGo := by
  unfold Dev.mbxGo
  exact Kept.ite (h.hifFlag _) ((h.withHost _).set _ _)

theorem Kept.mbxLatch : Kept d e.mbxLatch := by
  unfold Dev.mbxLatch
  exact h.withHost _

theorem Kept.mbxAck (seq : Nat) : Kept d (e.mbxAck seq) := by
  unfold Dev.mbxAck
  extract_lets s0
  have hs0 : Kept d s0 := (h.set _ _).set _ _
  refine Kept.ite ?_ (h.hifFlag _)
  split
  · exact hs0
  · exact ((hs0.withHost _).mbxShow _ _).free1 _ _

/-! ### Admin queue (R365) -/

theorem Kept.aqEnable : Kept d e.aqEnable := by
  unfold Dev.aqEnable
  exact Kept.ite (h.hifFlag _) (Kept.ite ((h.set _ _).hifFlag _) ((h.set _ _).setQueue _ _))

theorem Kept.aqDisable : Kept d e.aqDisable := by
  unfold Dev.aqDisable
  exact Kept.ite (((h.set _ _).closeQueue _).queueGone _) (h.set _ _)

theorem Kept.imageLatch : Kept d e.imageLatch := by
  unfold Dev.imageLatch
  exact h.tickImage _

theorem Kept.refCycle (x : Int) (run : Nat) : Kept d (e.refCycle x run) := by
  unfold Dev.refCycle
  exact h.withClk _

/-! ### Bypass and lock -/

theorem Kept.toBypass : Kept d e.toBypass := by
  unfold Dev.toBypass
  exact ((((h.set _ _).set _ _).set _ _).raise _).withClk _

theorem Kept.lossAct : Kept d e.lossAct := by
  unfold Dev.lossAct
  dsimp only
  refine Kept.ite h ?_
  split
  · exact h
  · exact h.withClk _
  · exact (h.withPrt _).latch _ _ _

theorem Kept.leaveLock (flag : Fld) (hf : flag.off ≠ 0x308 := by decide) : Kept d (e.leaveLock flag) := by
  unfold Dev.leaveLock
  exact (((h.toBypass.raise _ hf).count _ _).set _ _).lossAct

theorem Kept.lossOfLock (phErr : Int) : Kept d (e.lossOfLock phErr) := by
  unfold Dev.lossOfLock
  exact Kept.ite ((h.refCycle _ _).leaveLock _) h

theorem Kept.refLoss : Kept d e.refLoss := by
  unfold Dev.refLoss
  exact Kept.ite (h.leaveLock _) (Kept.ite ((h.raise _).set _ _) h)

theorem Kept.refReturn : Kept d e.refReturn := by
  unfold Dev.refReturn
  exact Kept.ite (h.set _ _) h

theorem Kept.bandSearch : Kept d e.bandSearch := by
  unfold Dev.bandSearch
  exact ((h.onlyIf _ _ (fun _ ht => ht.toBypass)).set _ _).withClk _

/-! ### The reference (R36, R276) -/

theorem Kept.refFollow : Kept d e.refFollow := by
  unfold Dev.refFollow
  exact Kept.ite h (Kept.ite (h.free.withClk _) (h.withClk _))

theorem Kept.bandDone (band : Nat) : Kept d (e.bandDone band) := by
  unfold Dev.bandDone
  extract_lets s0
  have hs0 : Kept d s0 := Kept.ite (h.pass _) h
  exact Kept.ite (((hs0.refCycle _ _).set _ _).set _ _) hs0

theorem Kept.acqTimeout (phErr : Int) (run : Nat) : Kept d (e.acqTimeout phErr run) := by
  unfold Dev.acqTimeout
  exact Kept.ite ((((h.refCycle _ _).raise _).count _ _).set _ _) h

theorem Kept.firstLock : Kept d e.firstLock := by
  unfold Dev.firstLock
  refine Kept.ite h ?_
  extract_lets s0 t s2 _ _ s5
  have hs2 : Kept d s2 := h.keeperCount.setCounter _
  have hs5 : Kept d s5 := hs2.trans ⟨id, granulesOk_of_eq rfl rfl⟩
  exact Kept.ite (hs5.raise _).cmdReady hs5

theorem Kept.pllLock (phErr : Int) : Kept d (e.pllLock phErr) := by
  unfold Dev.pllLock
  exact Kept.ite (((((h.refCycle _ _).set _ _).set _ _).set _ _).withPrt _).firstLock h

/-! ### Offset and corrections (R47, R48, R275) -/

theorem Kept.syncBy (off : Int) : Kept d (e.syncBy off) := by
  unfold Dev.syncBy
  exact Kept.ite ((h.withClk _).setB _ _) (Kept.ite ((h.withClk _).setB _ _) (h.withClk _))

theorem Kept.measure (port : Nat) (toNeigh fromNeigh : Int) : Kept d (e.measure port toNeigh fromNeigh) := by
  unfold Dev.measure
  extract_lets s0
  have hs0 : Kept d s0 := h.set _ _ (ne_free (by decide))
  exact Kept.ite (Kept.ite hs0 (Kept.ite (((hs0.set _ _).syncBy _).withClk _) (((hs0.set _ _).syncBy _).withClk _))) h

theorem Kept.stepNow : Kept d e.stepNow := by
  unfold Dev.stepNow
  split
  · exact h
  · refine Kept.ite ?_ (h.withClk _)
    extract_lets t s1 _ _ s4
    have hs1 : Kept d s1 := h.setCounter _
    clear_value s1
    have hs4 : Kept d s4 := ⟨hs1.mem, hs1.granules⟩
    exact hs4.raise _

/-! ### Shedding (R59, R60) -/

theorem Kept.shedNote (class_ : Nat) : Kept d (e.shedNote class_) := by
  unfold Dev.shedNote
  split <;> exact (h.raise _).count _ _

theorem Kept.shedRun (class_ : Nat) : Kept d (e.shedRun class_) := by
  unfold Dev.shedRun
  split
  · exact h.harmChunk
  · exact h.mpptItem
  · exact h

omit h in
theorem Kept.shedStep (run : Nat) {acc : Nat × Bool × Dev} (ha : Kept d acc.2.2) (class_ : Nat) : Kept d (shedStep run acc class_).2.2 := by
  unfold Machine.shedStep
  dsimp only
  split
  · exact ha
  · split
    · exact ha.shedNote _
    · split
      · exact ha.shedNote _
      · exact ha.shedRun _

theorem Kept.shedAll (t : Nat) (runs : List Nat) : Kept d (e.shedAll t runs) :=
  Kept.shedStep _ (Kept.shedStep _ (Kept.shedStep _ h _) _) _

/-! ### The tick (R52) -/

theorem Kept.frameBegin : Kept d e.frameBegin := by
  unfold Dev.frameBegin
  extract_lets _ _ s2
  have hs2 : Kept d s2 := ⟨h.mem, h.granules⟩
  exact ((hs2.setReg _ _).set _ _).set _ _

theorem Kept.holdNow : Kept d e.holdNow := by
  unfold Dev.holdNow
  exact Kept.ite (Kept.ite ((h.withClk _).enter _ _) (h.withClk _)) h

theorem Kept.powerTick : Kept d e.powerTick := by
  unfold Dev.powerTick
  exact h.arbiter.adcTick _

theorem Kept.bootReports : Kept d e.bootReports := by
  unfold Dev.bootReports
  exact h.forEach _ _ (fun _ _ ht => ht.bootReport _ _)

theorem Kept.modTick : Kept d e.modTick := by
  unfold Dev.modTick
  exact Kept.ite (h.withSaf _) h

theorem Kept.tickBegin (dispatchDone : Bool) : Kept d (e.tickBegin dispatchDone) := by
  unfold Dev.tickBegin
  dsimp only
  split
  · exact ((h.advanceTo _).onlyIf _ _ (fun _ ht => ht.overrun _)).stepNow.frameBegin.logNow _ _ _
  · exact ((h.advanceTo _).onlyIf _ _ (fun _ ht => ht.overrun _)).stepNow.frameBegin

theorem Kept.tickSample : Kept d e.tickSample := by
  unfold Dev.tickSample
  exact h.thkHealed.telemLatch.bootReports.sampleLatch.mtrLatch.ceTick

theorem Kept.tickCauses : Kept d e.tickCauses := by
  unfold Dev.tickCauses
  exact h.gridTick.krkTrip.krkTick.holdNow.pllTick.angTick.gridRide

theorem Kept.tickBlocks : Kept d e.tickBlocks := by
  unfold Dev.tickBlocks
  exact h.slotTick.powerTick.hbTick.vrefTick.sppTick.modTick

theorem Kept.frameTick (dispatchDone : Bool) : Kept d (e.frameTick dispatchDone) := by
  unfold Dev.frameTick
  exact Kept.ite h (h.tickBegin _).tickSample.tickCauses.tickBlocks.vaultMirror.imageLatch.thkTick

/-! ### The phases (R53) -/

theorem Kept.peakNote (ctl fin : Nat) : Kept d (e.peakNote ctl fin) := by
  unfold Dev.peakNote
  exact Kept.ite h (h.set _ _)

theorem Kept.computeStart (sampleDone : Bool) (ctl : Nat) (runs : List Nat) : Kept d (e.computeStart sampleDone ctl runs) := by
  unfold Dev.computeStart
  extract_lets _ _ _ s3 _ _ s6
  have hs3 : Kept d s3 := (((h.advanceIn _).set _ _).set _ _).onlyIf _ _ (fun _ ht => ht.overrun _)
  have hs6 : Kept d s6 := hs3.runContexts.peakNote _ _
  exact Kept.ite h (Kept.ite hs3 (Kept.ite (hs6.withFrm _) (hs6.shedAll _ _)))

theorem Kept.dispatchStart : Kept d e.dispatchStart := by
  unfold Dev.dispatchStart
  exact Kept.ite h ((((((((h.advanceIn _).set _ _).set _ _).handoverEnd _).complete _).onlyIf _ _
      (fun _ ht => ht.overrun _)).edgeDispatch.onlyIf _ _ (fun _ ht => ht.gridIssue.dispatchSlots)).thkCredits.heartbeatSend _)

/-! ### Writing fields (R7, R10, R12) -/

theorem Kept.beforeWritten (k : RegKind) (off : Nat) (w : Word) : Kept d (e.beforeWritten k off w) := by
  unfold Dev.beforeWritten
  split
  · exact h.setClkEvents _ _
  · exact h

theorem Kept.configError (k : RegKind) (old w : Word) : Kept d (e.configError k old w) := by
  unfold Dev.configError
  exact h.onlyIf _ _ (fun _ ht => ht.hifFlag _)

/-! ### What a write sets off, block by block -/

theorem Kept.wroteHif (off : Nat) (old w : Word) (before : Nat) : Kept d (e.wroteHif off old w before) := by
  unfold Dev.wroteHif
  refine Kept.ite (h.onlyIf _ _ (fun _ ht => ht.msix _)) (Kept.ite (h.onlyIf _ _ (fun _ ht => ht.msix _))
    (Kept.ite (h.onlyIf _ _ (fun _ ht => ht.mbxGo)) (Kept.ite (h.mbxAck _) (Kept.ite (h.onlyIf _ _ (fun _ ht => ht.poolRearm)) ?_))))
  refine Kept.iteOf (fun ho => (h.setReg _ _ (ho ▸ by decide)).withHost _) (fun _ => Kept.ite ?_ h)
  split
  · exact (h.setReg _ _).withHost _
  · exact h

theorem Kept.rateChanged : Kept d e.rateChanged := by
  unfold Dev.rateChanged
  exact Kept.ite ((h.setReg _ _).withFrm _) (h.setReg _ _)

theorem Kept.wroteFrame (off : Nat) (old w : Word) : Kept d (e.wroteFrame off old w) := by
  unfold Dev.wroteFrame
  exact Kept.ite (h.onlyIf _ _ (fun _ ht => ht.bandSearch)) (Kept.ite ((h.onlyIf _ _ (fun _ ht => ht.hifFlag _)).onlyIf _ _
      (fun _ ht => ht.rateChanged)) (Kept.ite (h.onlyIf _ _ (fun _ ht => ht.setReg _ _)) (Kept.ite (h.onlyIf _ _ (fun _ ht => ht.set _ _)) h)))

theorem Kept.wroteFront (off : Nat) (old w : Word) : Kept d (e.wroteFront off old w) := by
  unfold Dev.wroteFront
  refine Kept.ite (Kept.ite h.adcStop (Kept.ite h.adcStart h)) (Kept.iteOf
    (fun ho => ((h.setReg _ _ (ho ▸ by decide)).calCh _).calStep _) (fun _ => ?_))
  exact Kept.ite (h.jsoft _) (Kept.ite (h.cmpWritten _ _) (Kept.ite (h.angWritten _) (Kept.ite (h.onlyIf _ _ (fun _ ht => ht.angRearm))
    (Kept.ite (h.onlyIf _ _ (fun _ ht => ht.sppEnable)) h))))

theorem Kept.wroteHb (n r : Nat) (old : Word) : Kept d (e.wroteHb n r old) := by
  unfold Dev.wroteHb
  exact Kept.ite (Kept.ite ((h.hbDisable _).onlyIf _ _ (fun _ ht => ht.hbTransfer _ _)) (h.onlyIf _ _ (fun _ ht => ht.hbSafe _ _)))
      (Kept.ite (h.hbShowQ _) (Kept.ite h (Kept.ite (h.setCh _ _) (Kept.ite (h.setCh _ _) (Kept.ite (h.setCh _ _) (h.setCh _ _))))))

theorem Kept.wroteMod (off : Nat) (old w : Word) : Kept d (e.wroteMod off old w) := by
  unfold Dev.wroteMod
  exact Kept.ite (h.hbCommitMask _) (Kept.ite ((h.hbClearMask _).hbXclrMask _) (Kept.ite (h.wroteHb _ _ _)
      (Kept.ite (h.onlyIf _ _ (fun _ ht => ht.discStart _)) (Kept.ite (Kept.ite (h.thkHeal _) (Kept.ite (h.thkRediscover _) h)) h))))

theorem Kept.wroteSafe (off : Nat) (old w : Word) : Kept d (e.wroteSafe off old w) := by
  unfold Dev.wroteSafe
  refine Kept.iteOf (fun ho => (h.setReg _ _ ?_).latWrite _ _) (fun _ => ?_)
  · rcases ho with rfl | rfl
    · decide
    · decide
  · exact Kept.ite (h.forEach _ _ (fun _ _ ht => ht.onlyIf _ _ (fun _ hu => hu.tripIn _ _ _))) (Kept.ite (h.onlyIf _ _ (fun _ ht => ht.set _ _))
      (Kept.ite (h.snapRelease _) h))

theorem Kept.wrote (off : Nat) (old w : Word) (before : Nat) : Kept d (e.wrote off old w before) := by
  unfold Dev.wrote
  exact Kept.ite (h.wroteHif _ _ _ _) (Kept.ite (h.wroteFrame _ _ _) (Kept.ite (h.wroteFront _ _ _) (Kept.ite (h.wroteMod _ _ _)
    (h.wroteSafe _ _ _))))

theorem Kept.aqWrite (w : Word) : Kept d (e.aqWrite w) := by
  unfold Dev.aqWrite
  exact Kept.ite (Kept.ite h (h.aqDisable.setReg _ _)) (Kept.ite (h.setReg _ _).aqEnable (h.setReg _ _))

theorem Kept.vaultWrite (k : RegKind) {off : Nat} (w : Word) (hv : isVault off = true) : Kept d (e.vaultWrite k off w) := by
  unfold Dev.vaultWrite
  exact Kept.ite h ((h.configError _ _ _).setRegHeld _ _ (fun ho => by rw [ho] at hv; cases hv))

omit h in
/-- Firmware reaches no field of HIF_POOL_FREE (R31). -/
theorem findReg_free {k : RegKind} (hk : findReg 0x308 = some k) : ∀ f ∈ k.fields, f.acc ≠ .rw ∧ f.acc ≠ .w1c ∧ f.acc ≠ .rc := by
  have hall : (findReg 0x308).all (fun k => k.fields.all (fun f => f.acc != .rw && f.acc != .w1c && f.acc != .rc)) = true := by decide
  rw [hk] at hall
  intro f hf
  have hacc := List.all_eq_true.mp hall f hf
  simp only [Bool.and_eq_true, bne_iff_ne] at hacc
  exact ⟨hacc.1.1, hacc.1.2, hacc.2⟩

omit h in
theorem Dev.beforeWritten_reg (s : Dev) (k : RegKind) (off : Nat) (w : Word) (o : Nat) : (s.beforeWritten k off w).reg o = s.reg o := by
  unfold Dev.beforeWritten
  split
  · rfl
  · rfl

theorem Kept.writeReg (off : Nat) (w : Word) : Kept d (e.writeReg off w) := by
  unfold Dev.writeReg
  refine Kept.ite (Kept.ite (h.sqtBell _ _) (Kept.ite (h.cqhBell _ _) h)) ?_
  split
  · exact h
  next k hk =>
    refine Kept.ite (h.aqWrite _) (Kept.iteOf (fun hv => h.vaultWrite _ _ hv) (fun _ => ?_))
    refine (((h.configError _ _ _).beforeWritten _ _ _).setRegHeld _ _ (fun ho => ?_)).wrote _ _ _ _
    subst ho
    rw [k.write_none _ _ _ (fun f hf => ⟨(findReg_free hk f hf).1, (findReg_free hk f hf).2.1⟩), Dev.beforeWritten_reg]
    exact (e.configError_regs k _ w 0x308 (by decide)).symm

/-! ### Reading (R7, R8, R11) -/

omit h in
/-- A register without a field that a read clears keeps its content. -/
theorem RegKind.rcCleared_none (k : RegKind) (w : Word) (hk : ∀ f ∈ k.fields, f.acc ≠ .rc) : k.rcCleared w = w := by
  unfold RegKind.rcCleared
  generalize k.fields = l at hk
  induction l with
  | nil => rfl
  | cons g l ih => rw [List.foldl_cons, if_neg (hk g List.mem_cons_self), ih (fun f hf => hk f (List.mem_cons_of_mem g hf))]

omit h in
theorem RegKind.rcFrom_none (k : RegKind) (v w : Word) (hk : ∀ f ∈ k.fields, f.acc ≠ .rc) : k.rcFrom v w = w := by
  unfold RegKind.rcFrom
  generalize k.fields = l at hk
  induction l with
  | nil => rfl
  | cons g l ih => rw [List.foldl_cons, if_neg (hk g List.mem_cons_self), ih (fun f hf => hk f (List.mem_cons_of_mem g hf))]

theorem Kept.rcRead {k : RegKind} {off : Nat} (hk : findReg off = some k) : Kept d (e.rcRead k off) := by
  have hrc : off = 0x308 → ∀ f ∈ k.fields, f.acc ≠ .rc := fun ho f hf => by
    rw [ho] at hk
    exact (findReg_free hk f hf).2.2
  unfold Dev.rcRead
  split
  · exact h.setRegHeld _ _ (fun ho => by rw [k.rcCleared_none _ (hrc ho), ho])
  · exact (h.setRegHeld _ _ (fun ho => by rw [k.rcFrom_none _ _ (hrc ho), ho])).setClkEvents _ _

theorem Kept.vaultRcRead (off : Nat) (shown : Word) (hoff : off ≠ 0x308 := by decide) : Kept d (e.vaultRcRead off shown) := by
  unfold Dev.vaultRcRead
  exact (h.setReg _ _ hoff).withVlt _

theorem Kept.readEffect (off : Nat) (shown : Word) : Kept d (e.readEffect off shown) := by
  unfold Dev.readEffect
  extract_lets _ s1
  have hs1 : Kept d s1 := (h.withHiLatch _).forEach _ _ (fun _ _ ht => ht.withHiLatch _)
  refine Kept.ite hs1.mbxLatch ?_
  split
  · exact hs1
  next k hk => exact Kept.iteOf (fun ho => hs1.vaultRcRead _ _ (ho ▸ by decide)) (fun _ => Kept.ite hs1 (hs1.rcRead hk))

theorem Kept.readReg (off : Nat) : Kept d (e.readReg off).2 := by
  unfold Dev.readReg
  dsimp only
  exact h.readEffect _ _

/-! ### PCIe accesses (R6, R341) -/

theorem Kept.msixRelease : Kept d e.msixRelease := by
  unfold Dev.msixRelease
  exact Kept.ite h ((h.withHost _).forEach _ _ (fun _ _ ht => ht.send _))

theorem Kept.msixWrite (a : Nat) (w : Word) : Kept d (e.msixWrite a w) := by
  unfold Dev.msixWrite
  exact Kept.ite (h.withHost _).msixRelease h

theorem Kept.msixControl (w : Word) : Kept d (e.msixControl w) := by
  unfold Dev.msixControl
  exact (h.withHost _).msixRelease

theorem Kept.hostWriteAt (addr width : Nat) (w : Word) : Kept d (e.hostWriteAt addr width w) := by
  unfold Dev.hostWriteAt
  exact Kept.ite h (Kept.ite (h.send _) (Kept.ite (h.writeReg _ _) (Kept.ite (h.msixWrite _ _) (Kept.ite (h.msixControl _) h))))

theorem Kept.hostReadAt (addr width : Nat) : Kept d (e.hostReadAt addr width) := by
  unfold Dev.hostReadAt
  exact Kept.ite h (Kept.ite (h.send _) (Kept.ite ((h.readReg _).send _) (Kept.ite (h.send _) h)))

/-! ### Host SPI (R342–R344) -/

theorem Kept.spiDone (err : Nat) : Kept d (e.spiDone err) := by
  unfold Dev.spiDone
  exact (((((h.onlyIf _ _ (fun _ ht => ht.count _ _)).onlyIf _ _ (fun _ ht => ht.count _ _)).onlyIf _ _ (fun _ ht => ht.count _ _)).onlyIf _ _
      (fun _ ht => ht.count _ _)).onlyIf _ _ (fun _ ht => ht.hifFlag _)).withHost _

theorem Kept.spiPut (sp a : Nat) (w : Word) : Kept d (e.spiPut sp a w) := by
  unfold Dev.spiPut
  split
  · exact h.writeReg _ _
  · exact h.trans ⟨e.ringWrite_memWf true a (wordBytes w), id⟩
  · exact h.trans ⟨fun hm => e.spiPut_memWf 2 a w (by decide) hm, id⟩

theorem Kept.spiGet (sp a : Nat) : Kept d (e.spiGet sp a).2 := by
  unfold Dev.spiGet
  split
  · exact h.readReg _
  · exact h
  · exact h

theorem Kept.spiWrite (f : List Byte) : Kept d (e.spiWrite f) := by
  unfold Dev.spiWrite
  exact Kept.ite h ((Kept.ite ((h.send _).forEach _ _ (fun _ _ ht => ht.spiPut _ _ _)) (h.send _)).spiDone _)

theorem Kept.spiWords (sp a n : Nat) : Kept d (spiWords sp a n e).2 := by
  induction n generalizing e a with
  | zero => exact h
  | succ n ih => exact ih (h.spiGet sp a) _

theorem Kept.spiRead (f : List Byte) (clocked : Nat) : Kept d (e.spiRead f clocked) := by
  unfold Dev.spiRead
  exact Kept.ite h (((Kept.iteSnd (h.spiWords _ _ _) h).send _).spiDone _)

/-! ### Commands ended by a trip (R369) -/

theorem Kept.tripProf : Kept d e.tripProf := by
  unfold Dev.tripProf
  dsimp only
  split
  · exact (h.setEsp _).complete _
  · exact h

theorem Kept.tripJoin : Kept d e.tripJoin := by
  unfold Dev.tripJoin
  dsimp only
  split
  · exact (h.leaveStation.setKrk _).complete _
  · exact h

theorem Kept.tripClear : Kept d e.tripClear := by
  unfold Dev.tripClear
  dsimp only
  split
  · exact ((((h.set _ _).raise _).withPrt _).forEach _ _ (fun _ _ ht => ht.loopAccept _)).complete _
  · exact h

theorem Kept.tripPath : Kept d e.tripPath := by
  unfold Dev.tripPath
  dsimp only
  split
  · exact Kept.ite h ((h.withPrt _).complete _)
  · exact h

theorem Kept.tripReads : Kept d e.tripReads := by
  unfold Dev.tripReads
  exact h.completeAll _

theorem Kept.tripSave : Kept d e.tripSave := by
  unfold Dev.tripSave
  exact (h.withFram _).completeAll _

theorem Kept.tripEnds : Kept d e.tripEnds := by
  unfold Dev.tripEnds
  exact (h.onlyIf _ _ (fun _ ht => ht.tripProf.tripJoin.tripSave.tripClear.tripPath.tripReads)).withPrt _

/-! ### Waiting commands that have ended -/

theorem Kept.framReads : Kept d e.framReads := by
  unfold Dev.framReads
  refine Kept.ite h ?_
  split
  · exact h
  next row hr =>
    exact h.forEach _ _ (fun _ _ ht => ht.execute _ (opRow_keeps _ _ hr))

theorem Kept.endings : Kept d e.endings := by
  unfold Dev.endings
  exact (((h.pathEnd.complete _).handoverEnd _).complete _).snapReplies.framReads.queuesGone.txnView.inboxRun

/-! ### Derived registers -/

theorem Kept.showPrt : Kept d e.showPrt := by
  unfold Dev.showPrt
  exact ((((h.setReg _ _).setReg _ _).set _ _).setB _ _).set _ _

theorem Kept.showHb : Kept d e.showHb := by
  unfold Dev.showHb
  exact h.forEach _ _ (fun _ _ ht => ht.setB _ _ (ne_free (by decide)))

/-! ### Pins -/

theorem Kept.pinsFollow : Kept d e.pinsFollow := by
  unfold Dev.pinsFollow
  exact h.withPins _

theorem Kept.extest (on : Bool) (cells : Boundary) : Kept d (e.extest on cells) := by
  unfold Dev.extest
  exact Kept.ite h (h.withPins _)

/-! ### The form of every meaning -/

theorem Kept.settle : Kept d e.settle := by
  unfold Dev.settle
  exact h.matrix.refFollow.mtrFollow.injFollow.tripEnds.endings.safDerive.vaultDerive.showPrt.showHb.pinsFollow

end

end Sys2Proof.Machine
end

section
/-! PROOFS. O5: the commands. -/

set_option Elab.async false

namespace Sys2Proof.Machine

section
variable {d e : Dev} (h : Kept d e)
include h

theorem Kept.linkTrained (speed width : Nat) : Kept d (e.linkTrained speed width) := by
  unfold Dev.linkTrained
  exact ((h.raise _).set _ _).set _ _

theorem Kept.releaseFrom (straps periods : Nat) (rails : Bool) : Kept d (e.releaseFrom straps periods rails) := by
  unfold Dev.releaseFrom
  exact Kept.ite (h.releaseReset _ _) h

theorem Kept.bootStep (timeout : Bool) : Kept d (e.bootStep timeout) := by
  unfold Dev.bootStep
  exact Kept.ite ((h.bootTry _).raise _).cmdReady (h.bootTry _)

theorem Kept.firmwareStart : Kept d e.firmwareStart := by
  unfold Dev.firmwareStart
  exact Kept.ite (((h.vaultBoot.setReg _ _).set _ _).poolReset.thkWithdraw.cmdReady.enter _ _) h

theorem Kept.haltNow (stop : Bool) : Kept d (e.haltNow stop) := by
  unfold Dev.haltNow
  exact ((h.free.snapTrigger _ _ _).debugHalt _).handoverHalt

theorem Kept.haltEnd : Kept d e.haltEnd := by
  unfold Dev.haltEnd
  exact h.withPrt _

theorem Kept.passOn (dest : Nat) (out : List (Nat × List Byte)) : Kept d (e.passOn dest out) := by
  unfold Dev.passOn
  exact h.forEach _ _ (fun _ _ ht => ht.krkSend _ _ _)

theorem Kept.messageIn (port dest n : Nat) (ok : Bool) (out : List (Nat × List Byte)) (msg : Inward) :
    Kept d (e.messageIn port dest n ok out msg) := by
  unfold Dev.messageIn
  refine h.blockIn _ _ _ (fun t ht => ?_)
  have hp := ht.portData (32 + port) (1 + cdiv n 256)
  split
  next hx =>
    rw [hx] at hp
    exact hp.count _ _ (ne_free (by decide))
  next hx =>
    rw [hx] at hp
    exact Kept.ite ((hp.freeHold _).passOn _ _) (Kept.ite (hp.freeHold _) (hp.inward _))

theorem Kept.decisionIn (port dest origin txn : Nat) (ok go : Bool) : Kept d (e.decisionIn port dest origin txn ok go) := by
  unfold Dev.decisionIn
  exact h.blockIn _ _ _ (fun _ ht => Kept.ite (ht.passOn _ _) (Kept.ite ht (ht.inward _)))

theorem Kept.stationPacket (port dest origin txn : Nat) (ok : Bool) (p : Packet) (data : List Byte) :
    Kept d (e.stationPacket port dest origin txn ok p data) := by
  unfold Dev.stationPacket
  exact h.messageIn _ _ _ _ _ _

theorem Kept.prepareArrives (port dest origin txn : Nat) (ok : Bool) (p : Packet) (commitN : Nat) (data : List Byte) :
    Kept d (e.prepareArrives port dest origin txn ok p commitN data) := by
  unfold Dev.prepareArrives
  exact h.messageIn _ _ _ _ _ _

theorem Kept.stationReply (port dest txn : Nat) (ok : Bool) (a : TxnAns) (bulk : List Byte) : Kept d (e.stationReply port dest txn ok a bulk) := by
  unfold Dev.stationReply
  exact h.messageIn _ _ _ _ _ _

theorem Kept.identityArrives (port dest : Nat) (ok : Bool) (peer : Option Ident) (last : Bool) :
    Kept d (e.identityArrives port dest ok peer last) := by
  unfold Dev.identityArrives
  dsimp only
  split
  · exact (h.identity _ _ _ _).complete _
  · exact h.blockIn _ _ _ (fun _ ht => Kept.ite (Kept.ite (((ht.identityOn _ _).identity _ _ _ _).complete _)
        ((ht.neighbourShown _ _).krkForward _ _ _ _ _)) (Kept.ite ((ht.identity _ _ _ _).complete _) (ht.passOn _ _)))

end

end Sys2Proof.Machine
end

section
/-! PROOFS. O5: a step keeps the memories and the granules (R23, R24, R31). -/

set_option Elab.async false

namespace Sys2Proof.Machine

/-! ### The form of every meaning -/

section
variable {f : Dev → Dev} {s t : State}

theorem kept_onDev (ht : onDev f s = .next t) (hf : ∀ d e, Kept d e → Kept d (f e)) : Kept s.dev t.dev := by
  cases ht
  exact Kept.settle (hf _ _ ((Kept.refl s.dev).withOut []))

theorem kept_onLive (ht : onLive f s = .next t) (hf : ∀ d e, Kept d e → Kept d (f e)) : Kept s.dev t.dev :=
  kept_onDev ht (fun d e h => Kept.ite h (hf d e h))

end

/-! ### Every command -/

/-- What each command does to the device, as its meaning says it. -/
theorem kept_exec {s t : State} (i : Instr) (ht : exec i s = .next t) : Kept s.dev t.dev := by
  unfold exec at ht
  cases i with
  | nop | identify | qCreate | qDelete | stateGoto | devReset | mgtSend | mgtRecv | ceCtxLoad | ceCtxEnable | ceCtxRemove | ceCtxRead | ceSpSet
  | ceParamSet | ceStateReset | ceCostQuery | ceTblLoad | ceTblRead | ceInjStart | ceInjStop | ceCapArm | ceCapRead | ceCapAbort | cellMapLoad
  | cellMapRead | cellStatusRead | cellBypass | cellRestore | cellIvSweep | cellIvRead | cellVrefSet | cellSocSet | cellRotate | modSlotLoad
  | modCellCommit | modProfLoad | modProfRead | modFltClear | modEdgeTest | modBsRead | modSlotRead | gridProfileLoad | gridProfileRead
  | gridStatusRead | gridIslArm | gridZrefReset | gridTripTest | stnTableLoad | stnTableRead | stnJoin | stnLeave | stnStatusRead | stnSlotSet
  | stnResarea | stnSquallAt | prtTripClear | prtTripForce | prtPathTest | safConfigLoad | safConfigConfirm | safConfigRead | safCtoSet
  | safAccess | mtrCfgLoad | mtrCfgRead | mtrAccRead | mtrIntvRead | mtrEvtRead | mtrHarmRead | mtrUnsavedRead | mtrSaveNow | mtrAccPreset
  | snpTrigger | snpRead | logRead | imgBegin | imgBlock | imgVerify | imgHandover | imgAbort | imgStatus | pwrStatusRead | vltStatusRead
  | vltFramRead =>
    exact kept_onDev ht (fun _ _ h => h.runOp _ _ _)
  | resetNRelease => exact kept_onDev ht (fun _ _ h => h.releaseFrom _ _ _)
  | resetNAssert => exact kept_onDev ht (fun _ _ h => Kept.ite h h.lkpEnds.holdReset)
  | mainSupplyFail => exact kept_onDev ht (fun _ _ h => (h.keeperOff _).fuseCut.mainFailed.holdReset)
  | vaultSupplySwitch => exact kept_onDev ht (fun _ _ h => h.supplySwitch _)
  | bandSearchComplete => exact kept_onLive ht (fun _ _ h => h.bandDone _)
  | pllLock => exact kept_onLive ht (fun _ _ h => h.pllLock _)
  | lockTimeout => exact kept_onLive ht (fun _ _ h => h.acqTimeout _ _)
  | lossOfLock => exact kept_onLive ht (fun _ _ h => h.lossOfLock _)
  | referenceLoss => exact kept_onLive ht (fun _ _ h => h.refLoss)
  | referenceReturn => exact kept_onLive ht (fun _ _ h => h.refReturn)
  | offsetMeasurement => exact kept_onLive ht (fun _ _ h => h.measure _ _ _)
  | frameTick => exact kept_onLive ht (fun _ _ h => h.frameTick _)
  | computePhaseStart => exact kept_onLive ht (fun _ _ h => h.computeStart _ _ _)
  | dispatchPhaseStart => exact kept_onLive ht (fun _ _ h => h.dispatchStart)
  | conversionEnd => exact kept_onLive ht (fun _ _ h => h.onlyIf _ _ (fun _ ht => (ht.convOver _ _ _).mtrFeed))
  | clampSense => exact kept_onLive ht (fun _ _ h => h.onlyIf _ _ (fun _ ht => ht.clampOn _))
  | jsoftTrigger | angRearm | groupCommit | fltclrFclr | fltclrXclr | prtLatClear | mbxGo | mbxAck | aqEnable | aqDisable | poolLowRearm
  | frmPeakRearm | pwrPeakRearm | snpRel | w1cWrite | registerWrite => exact kept_onLive ht (fun _ _ h => h.hostWriteAt _ _ _)
  | bgcalStepComplete => exact kept_onLive ht (fun _ _ h => h.onlyIf _ _ (fun _ ht => ht.bgStep _ _ _ _))
  | calChWrite => exact kept_onLive ht (fun _ _ h => h.calCh _)
  | calZero | calFull | calCompute => exact kept_onLive ht (fun _ _ h => h.calStep _)
  | calStepComplete => exact kept_onLive ht (fun _ _ h => h.calOver _ _ _)
  | comparatorTransition => exact kept_onLive ht (fun _ _ h => h.onlyIf _ _ (fun _ ht => ht.cmpInput _ _ _))
  | comparatorPowerupEval => exact kept_onLive ht (fun _ _ h => h.onlyIf _ _ (fun _ ht => ht.cmpPowered _ _ _))
  | comparatorSettle => exact kept_onLive ht (fun _ _ h => h.onlyIf _ _ (fun _ ht => ht.cmpSettled _ _ _))
  | quadratureEdge => exact kept_onLive ht (fun _ _ h => h.quadrature _ _)
  | indexPulse => exact kept_onLive ht (fun _ _ h => h.indexKept)
  | freqWindowEnd => exact kept_onLive ht (fun _ _ h => h.windowEnd)
  | standstillTimeout => exact kept_onLive ht (fun _ _ h => h.standstill)
  | spPulseEdge => exact kept_onLive ht (fun _ _ h => h.sppEdge)
  | sppLossTimeout => exact kept_onLive ht (fun _ _ h => h.sppLoss)
  | sppHoldExpiry => exact kept_onLive ht (fun _ _ h => h.sppHoldEnd)
  | ivSweepScheduled => exact kept_onLive ht (fun _ _ h => h.ivScheduled)
  | ivSweepPointEnd => exact kept_onLive ht (fun _ _ h => h.ivPointEnd)
  | rotationDue => exact kept_onLive ht (fun _ _ h => h.rotationDue)
  | carrierPeriodBoundary => exact kept_onLive ht (fun _ _ h => h.onlyIf _ _ (fun _ ht => ht.carrierBoundary _))
  | hbPeriodBoundary => exact kept_onLive ht (fun _ _ h => h.onlyIf _ _ (fun _ ht => ht.hbRun _ _ (fun _ hu => hu.hbBoundary _ _)))
  | hbDutyEdge => exact kept_onLive ht (fun _ _ h => h.onlyIf _ _ (fun _ ht => ht.hbRun _ _ (fun _ hu => hu.hbEdge _ _)))
  | hbDeadtimeEnd => exact kept_onLive ht (fun _ _ h => h.onlyIf _ _ (fun _ ht => ht.hbRun _ _ (fun _ hu => hu.hbDeadEnd _ _)))
  | localCompareFire => exact kept_onLive ht (fun _ _ h => h.onlyIf _ _ (fun _ ht => ht.localCompare _ _))
  | groupCompareFire => exact kept_onLive ht (fun _ _ h => h.onlyIf _ _ (fun _ ht => ht.groupCompare _ _))
  | fltInput => exact kept_onLive ht (fun _ _ h => h.fltIn _ _ _)
  | debugHalt => exact kept_onLive ht (fun _ _ h => h.haltNow _)
  | debugHaltEnd => exact kept_onLive ht (fun _ _ h => h.haltEnd)
  | gridRecord => exact kept_onLive ht (fun _ _ h => h.blockIn _ _ _ (fun _ ht => ht.gridReceive _ _))
  | gridTripDue => exact kept_onLive ht (fun _ _ h => h.gridTripDue _)
  | rocofHoldExpiry => exact kept_onLive ht (fun _ _ h => h.rocofHold)
  | rtExitHoldExpiry => exact kept_onLive ht (fun _ _ h => h.rtExitHold)
  | islcodeWindowEnd => exact kept_onLive ht (fun _ _ h => h.islWindowEnd)
  | collectSend => exact kept_onLive ht (fun _ _ h => h.collectSend)
  | telemReceived => exact kept_onLive ht (fun _ _ h => h.onlyIf _ _ (fun _ ht => ht.telemReceived _ _))
  | discReturn => exact kept_onLive ht (fun _ _ h => h.onlyIf _ _ (fun _ ht => ht.discReturn _ _ _ _))
  | alarmReceived => exact kept_onLive ht (fun _ _ h => h.onlyIf _ _ (fun _ ht => ht.alarmReceived _ _))
  | loopNotice => exact kept_onLive ht (fun _ _ h => h.onlyIf _ _ (fun _ ht => ht.loopNotice _ _))
  | thkHeal => exact kept_onLive ht (fun _ _ h => h.onlyIf _ _ (fun _ ht => ht.thkHeal _))
  | thkRediscover => exact kept_onLive ht (fun _ _ h => h.onlyIf _ _ (fun _ ht => ht.thkRediscover _))
  | multiHealEnd => exact kept_onLive ht (fun _ _ h => h.onlyIf _ _ (fun _ ht => ht.multiHealEnd _))
  | profLoadTimeout => exact kept_onLive ht (fun _ _ h => h.profTimeout.complete _)
  | krkLinkDown => exact kept_onLive ht (fun _ _ h => h.onlyIf _ _ (fun _ ht => ht.linkDown _))
  | krkLinkUp => exact kept_onLive ht (fun _ _ h => h.onlyIf _ _ (fun _ ht => ht.linkUpEvent _ _))
  | heartbeat => exact kept_onLive ht (fun _ _ h => h.blockIn _ _ _ (fun _ ht => ht.heartbeat _ _ _ _ _))
  | viewCommit => exact kept_onLive ht (fun _ _ h => h.viewCommit)
  | orphanGraceEnd => exact kept_onLive ht (fun _ _ h => h.orphanGraceEnd)
  | orphanRampEnd => exact kept_onLive ht (fun _ _ h => h.orphanRampEnd)
  | heldContributionExpiry => exact kept_onLive ht (fun _ _ h => h.heldExpiry)
  | slotUpdate => exact kept_onLive ht (fun _ _ h => h.blockIn _ _ _ (fun _ ht => ht.slotUpdate _ _ _ _ _ _ _))
  | stationPacket => exact kept_onLive ht (fun _ _ h => h.stationPacket _ _ _ _ _ _ _)
  | prepare => exact kept_onLive ht (fun _ _ h => h.prepareArrives _ _ _ _ _ _ _ _)
  | coherentDecision => exact kept_onLive ht (fun _ _ h => h.decisions)
  | go | abort => exact kept_onLive ht (fun _ _ h => h.decisionIn _ _ _ _ _ _)
  | prepareExpiry => exact kept_onLive ht (fun _ _ h => h.expirePreps)
  | stationReply => exact kept_onLive ht (fun _ _ h => h.stationReply _ _ _ _ _ _)
  | stationTimeout => exact kept_onLive ht (fun _ _ h => h.txnTimeout)
  | squallAtFire => exact kept_onLive ht (fun _ _ h => h.squallAt)
  | tripInEdge => exact kept_onLive ht (fun _ _ h => h.onlyIf _ _ (fun _ ht => ht.tripIn _ _ _))
  | loopBlankEnd => exact kept_onLive ht (fun _ _ h => h.blankEnd.complete _)
  | loopDiscrepancy => exact kept_onLive ht (fun _ _ h => h.loopDiscrepancy)
  | safetyInputChange => exact kept_onLive ht (fun _ _ h => h.onlyIf _ _ (fun _ ht => ht.contact _ _ _))
  | safetyEvaluation => exact kept_onLive ht (fun _ _ h => h.safEvaluate _ _)
  | discrepancyTimeout => exact kept_onLive ht (fun _ _ h => h.onlyIf _ _ (fun _ ht => ht.discTimeout _))
  | contactorFault => exact kept_onLive ht (fun _ _ h => h.onlyIf _ _ (fun _ ht => ht.ctoFault _))
  | sresetRelease => exact kept_onLive ht (fun _ _ h => h.sresetFall _ _)
  | sresetStuck => exact kept_onLive ht (fun _ _ h => h.sresetStuck)
  | hedgerowHeartbeatLoss => exact kept_onLive ht (fun _ _ h => h.hedgeHeartbeatLost)
  | hedgerowOscFault => exact kept_onLive ht (fun _ _ h => h.hedgeOscBad)
  | safetyDiagnostic => exact kept_onLive ht (fun _ _ h => h.safDiag _ _)
  | watchdogExpiry => exact kept_onLive ht (fun _ _ h => h.firmwareTrip)
  | overtempTrip => exact kept_onLive ht (fun _ _ h => h.onlyIf _ _ (fun _ ht => ht.overTemp))
  | meterSample => exact kept_onLive ht (fun _ _ h => h.meterSample)
  | pulseEdge => exact kept_onLive ht (fun _ _ h => h.onlyIf _ _ (fun _ ht => ht.pulseEdge _))
  | pulseEnd => exact kept_onLive ht (fun _ _ h => h.onlyIf _ _ (fun _ ht => ht.pulseEnd _))
  | harmonicWindowEnd => exact kept_onLive ht (fun _ _ h => h.harmWindowEnd)
  | freqTimeout => exact kept_onLive ht (fun _ _ h => h.freqTimeout)
  | meterSaveDue => exact kept_onLive ht (fun _ _ h => h.saveDue)
  | saveRetry => exact kept_onLive ht (fun _ _ h => h.saveRetry)
  | lkpRefresh => exact kept_onLive ht (fun _ _ h => h.lkpRefresh)
  | sqtDoorbell | cqhDoorbell => exact kept_onLive ht (fun _ _ h => h.onlyIf _ _ (fun _ ht => ht.hostWriteAt _ _ _))
  | entryFetch => exact kept_onLive ht (fun _ _ h => h.fetchNext)
  | heldCommandDue => exact kept_onLive ht (fun _ _ h => h.heldDue)
  | deferredCommandRun => exact kept_onLive ht (fun _ _ h => h.deferredRun)
  | deferralTimeout => exact kept_onLive ht (fun _ _ h => h.deferralTimeout)
  | spiWriteFrame => exact kept_onLive ht (fun _ _ h => h.spiWrite _)
  | spiReadFrame => exact kept_onLive ht (fun _ _ h => h.spiRead _ _)
  | mbxStatRead | rcRead | lowWordRead => exact kept_onLive ht (fun _ _ h => h.hostReadAt _ _)
  | mgtFrameRx => exact kept_onLive ht (fun _ _ h => (h.mgtRx _ _).complete _)
  | ptpMessageDue => exact kept_onLive ht (fun _ _ h => h.ptpDue _)
  | pcieLinkUp => exact kept_onLive ht (fun _ _ h => h.linkTrained _ _)
  | bootImageCheck | bootQspiTimeout => exact kept_onLive ht (fun _ _ h => h.bootStep _)
  | firmwareStart => exact kept_onLive ht (fun _ _ h => h.firmwareStart)
  | imgSessionTimeout => exact kept_onLive ht (fun _ _ h => h.sessionAbort)
  | epochFuseDone => exact kept_onLive ht (fun _ _ h => h.fuseDone)
  | tjSensorUpdate => exact kept_onLive ht (fun _ _ h => h.set _ _)
  | keeperLoad => exact kept_onLive ht (fun _ _ h => h.keeperLoad)
  | keeperCrystalLoss => exact kept_onDev ht (fun _ _ h => h.keeperLost)
  | vaultTick => exact kept_onDev ht (fun _ _ h => (h.keeperOff _).vaultTick _ _ _ _)
  | harvesterStart => exact kept_onDev ht (fun _ _ h => h.harvestStart)
  | harvesterStop => exact kept_onDev ht (fun _ _ h => h.harvestStop)
  | harvesterVocSample => exact kept_onDev ht (fun _ _ h => h.harvestVoc _)
  | coldStartHandoff => exact kept_onDev ht (fun _ _ h => (h.keeperOff _).coldHandoff)
  | cellChargeCut | chargeCutRelease => exact kept_onDev ht (fun _ _ h => h.chargeCut _)
  | cellDischargeCut => exact kept_onDev ht (fun _ _ h => (h.keeperOff _).dischargeCut)
  | cellOvercurrent => exact kept_onDev ht (fun _ _ h => (h.keeperOff _).cellOver)
  | cellOcRelease => exact kept_onDev ht (fun _ _ h => (h.keeperOff _).cellOverEnd)
  | framWriteRequest => exact kept_onDev ht (fun _ _ h => (h.gateTry _ _).completeAll _)
  | framBurstDone => exact kept_onDev ht (fun _ _ h => (h.keeperOff _).burstDone.completeAll _)
  | clampSenseRelease => exact kept_onLive ht (fun _ _ h => h.onlyIf _ _ (fun _ ht => ht.clampOff _))
  | mgtLinkUp => exact kept_onLive ht (fun _ _ h => h.onlyIf _ _ (fun _ ht => ht.raise _))
  | mgtLinkDown => exact kept_onLive ht (fun _ _ h => h.setB _ _)
  | identityExchange => exact kept_onLive ht (fun _ _ h => h.identityArrives _ _ _ _ _)
  | vaultPowerUp => exact kept_onDev ht (fun _ _ h => h.vaultPower _)
  | vaultDark => exact kept_onDev ht (fun _ _ h => Kept.ite h.vaultDark h)
  | dischargeCutRelease => exact kept_onDev ht (fun _ _ h => (h.keeperOff _).dischargeRelease)
  | coldStartOscillator => exact kept_onDev ht (fun _ _ h => h.coldStart)
  | jtagExtest => exact kept_onDev ht (fun _ _ h => h.extest _ _)

/-! ### Reset and every step -/

theorem reset_granulesOk : State.reset.dev.granulesOk := granulesOk_fresh rfl rfl

theorem kept_step {s t : State} (ht : step s = .next t) : Kept s.dev t.dev := by
  unfold step at ht
  split at ht
  · exact kept_onDev ht (fun _ _ h => h.coreClock)
  next c rest _ => exact kept_exec (s := { s with pending := rest }) c ht

/-- Settles O5: each function of the device keeps the canonical form of the memories and the granules, so every command does, and the clock. -/
theorem stepKeepsMemoriesAndGranules : Obligations.StepKeepsMemoriesAndGranules :=
  ⟨fun _ _ ht => ⟨(kept_step ht).mem, (kept_step ht).granules⟩, State.reset_memWf, reset_granulesOk⟩

end Sys2Proof.Machine
end

section
/-! PROOFS. Control contexts: the load of a queue whose bulk granules are granted a core clock after its packet counts as arriving with the packet
(R16), so it does not displace the load of a lower queue of the same clock; the statement takes the stamp after the wait. -/

set_option Elab.async false

namespace Sys2Proof.Machine

/-- A descriptor of law 0x01, enabled, with the set-point of the host and `n` inputs. -/
def inputsImage (n : Byte) : List Byte := patch (zeros 384) 0 [1, 1, 0, 0, n, 1, 0, 1]

/-- CE_CTX_LOAD of context 5 from queue 5, with the image at 0x4000. -/
def loadOf5 : Packet := [0x10, 0, 0, 0, 5, 0, 48, 0] ++ zeros 8 ++ [5, 0] ++ zeros 6 ++ [0, 0x40] ++ zeros 38

/-- CONFIG with no time for control; on this core clock, at 160 TU, the allocator has served three requests, and a load of context 5 from queue 0
waits for the tick. An image of one input more lies at 0x4000. -/
def busyClock : State :=
  let d := ((({} : Dev).set Reg.HIF_STAT_STATE stCONFIG).set Reg.HIF_STAT_CMDRDY 1).set Reg.FRM_PHASE_CMP_END 0
  let d := d.setQueue 5 { exists_ := true, sqLog := 4, cqLog := 4, sqBase := 0x1000, cqBase := 0x2000 }
  { dev :=
      { d with
        hostMem := writeBytes [] 0x4000 (inputsImage 2)
        time := 160
        clk := { d.clk with locked1 := true }
        pool := { d.pool with served := 3 }
        ce := { d.ce with ctxs := [(5, { img := inputsImage 1, newImg := some (inputsImage 1, false, 160, 0) })] } }
    pending := [] }

/-- The device with the image `b` waiting in the context that packet `p` names, as a load that counts as arriving now leaves it. -/
def Dev.loadsNow (t : Dev) (src : Src) (p : Packet) (b : List Byte) : Dev :=
  t.setCtx (pB p 16) { t.ctx (pB p 16) with newImg := some (b, pB p 17 % 2 == 1, t.stamp 0, srcRank src), enNew := none, parNew := [] }

/-- The refusal that the statement concludes when the body begins at `e`, and the clock it reads the stamp at. -/
def refusedLate (w : WaitCmd) (e : Dev) : Bool :=
  let t := e.loading (.queue 5) 384
  let b := t.bulkRead (.queue 5) 0x4000 384
  decide <| e.loads (.queue 5) 0x4000 384 = true ∧ t.badImage 5 b = none ∧ t.pinned 5 false = false ∧
  (t.ctx 5).newImg = some (inputsImage 1, false, 160, 0) ∧ t.stamp 0 = 176 ∧ t.itemRefused (t.loadsNow (.queue 5) loadOf5 b) = some 1048608 ∧
  (((t.raise Reg.FRM_FLAG_ADMREJ_F).closed w { status := sBUSY, detail := 1048608 }).settle).isOn Reg.FRM_FLAG_ADMREJ_F = true

theorem busyClock_begins : (busyClock.start.begins 0x10 (.queue 5) loadOf5).any (fun x => refusedLate x.1 x.2) = true := by decide +kernel

/-- The load is answered OK: the earlier one, of the lower queue, stays. -/
theorem busyClock_loads : ∃ d, exec (.ceCtxLoad (.queue 5) loadOf5) busyClock = .next { busyClock with dev := d } ∧
    d.isOn Reg.FRM_FLAG_ADMREJ_F = false :=
  ⟨_, rfl, by decide +kernel⟩

/-- Refutes O50: a load whose bulk granules are granted on the next core clock is refused in the statement, which reads the stamp after the wait,
and is answered OK by the model, which keeps the stamp of its arrival. -/
theorem not_contextCommands : ¬ Obligations.ContextCommands := by
  unfold Obligations.ContextCommands
  intro h
  obtain ⟨⟨w, e⟩, hb, hrefused⟩ := (Option.any_eq_true _ _).mp busyClock_begins
  obtain ⟨hl, hi, hp, ho, ht, hr, hf⟩ := of_decide_eq_true hrefused
  obtain ⟨hload, -⟩ := h busyClock (.queue 5) loadOf5 w e 5 rfl
  obtain ⟨-, -, hadmit, -⟩ := hload hb (e.loading (.queue 5) 384) _ hl rfl rfl
  have hlater : ∀ o, ((e.loading (.queue 5) 384).ctx 5).newImg = some o → o.2.2.1 < (e.loading (.queue 5) 384).stamp 0 ∨
      (o.2.2.1 = (e.loading (.queue 5) 384).stamp 0 ∧ srcRank (.queue 5) ≤ o.2.2.2) := by
    intro o hn
    obtain rfl := Option.some.inj (ho.symm.trans hn)
    exact .inl (by rw [ht]; decide)
  have hans := (hadmit _ hi (fun h => absurd h (by simp [hp])) rfl hlater).2 _ hr
  obtain ⟨d, hd, hoff⟩ := busyClock_loads
  have hsame := hd.symm.trans hans
  injection hsame with hs
  injection hs with hdev
  rw [hdev, hf] at hoff
  exact absurd hoff (by decide)

end Sys2Proof.Machine
end

section
/-! PROOFS. What a wait for the allocator leaves (R28, R29): the clocks that pass and the requests that stand change the registers of the clocks and the
pool alone, no lane of a ring gains granules, and none loses any while no free waits. -/

set_option Elab.async false

namespace Sys2Proof.Machine

/-- What passes between `d` and `e` while a request of the chip itself waits for its turn. -/
structure Waits (d e : Dev) : Prop where
  /-- Registers of the clocks and the pool alone change. -/
  regs : RegsBut d e clockRegs
  /-- The cells are as they were. -/
  cells : e.cells = d.cells
  /-- An empty reservation stays on record (R25). -/
  flag : d.isOn Reg.HIF_POOL_STAT_RESVERR_F = true → e.isOn Reg.HIF_POOL_STAT_RESVERR_F = true
  /-- No lane takes granules for its train. -/
  crit : ∀ u, u < 32 → (e.user u).crit = (d.user u).crit
  /-- No lane’s reservation fills. -/
  full : ∀ u, u < 32 → (e.user u).resFull ≤ (d.user u).resFull
  /-- Without a waiting free, the lanes’ holdings are as they were. -/
  still : d.pool.frees = [] → e.pool.frees = [] ∧ ∀ u, u < 32 → e.user u = d.user u

theorem Waits.refl (d : Dev) : Waits d d := ⟨RegsBut.refl d _, rfl, id, fun _ _ => rfl, fun _ _ => le_rfl, fun h => ⟨h, fun _ _ => rfl⟩⟩

theorem Waits.trans {d e f : Dev} (h : Waits d e) (g : Waits e f) : Waits d f where
  regs := h.regs.trans g.regs
  cells := g.cells.trans h.cells
  flag := g.flag ∘ h.flag
  crit u hu := (g.crit u hu).trans (h.crit u hu)
  full u hu := (g.full u hu).trans (h.full u hu)
  still h0 := ⟨(g.still (h.still h0).1).1, fun u hu => ((g.still (h.still h0).1).2 u hu).trans ((h.still h0).2 u hu)⟩

theorem Waits.ite {d e f : Dev} {c : Prop} [Decidable c] (he : Waits d e) (hf : Waits d f) : Waits d (if c then e else f) := by
  split
  · exact he
  · exact hf

/-- The registers of the clocks that are not the pool’s. -/
def passRegs : List Nat := [Reg.CLK_STAT, Reg.FRM_STAT, Reg.ADC_BGSTAT]

section
variable {d e : Dev} (h : Waits d e)
include h

theorem Waits.set (f : Fld) (v : Nat) (hf : f.off ∈ passRegs := by decide) : Waits d (e.set f v) where
  regs := h.regs.set f v ((by decide : ∀ o ∈ passRegs, o ∈ clockRegs) _ hf)
  cells := h.cells
  flag hd := by
    refine (Dev.isOn_of_reg ?_).trans (h.flag hd)
    exact ((RegsBut.refl e [f.off]).set f v (by simp)) _ (by
      rw [List.mem_singleton]
      exact fun hq => absurd (hq ▸ hf) (by decide))
  crit := h.crit
  full := h.full
  still := h.still

theorem Waits.setB (f : Fld) (b : Bool) (hf : f.off ∈ passRegs := by decide) : Waits d (e.setB f b) := h.set f _ hf

theorem Waits.onlyIf (c : Bool) (f : Dev → Dev) (hf : ∀ t, Waits d t → Waits d (f t)) : Waits d (onlyIf c f e) := onlyIf_keeps (Waits d) c f e h hf

theorem Waits.forEach {α : Type} (l : List α) (f : α → Dev → Dev) (hf : ∀ a t, Waits d t → Waits d (f a t)) : Waits d (forEach l f e) :=
  forEach_keeps (Waits d) l f e h hf

theorem Waits.withClk (x : ClkSt) : Waits d { e with clk := x } := ⟨h.regs, h.cells, h.flag, h.crit, h.full, h.still⟩
theorem Waits.withHost (x : HostSt) : Waits d { e with host := x } := ⟨h.regs, h.cells, h.flag, h.crit, h.full, h.still⟩
theorem Waits.withClkRegs (x : List (Nat × Word)) : Waits d { e with clkRegs := x } := ⟨h.regs, h.cells, h.flag, h.crit, h.full, h.still⟩
theorem Waits.free : Waits d e.free.2 := ⟨h.regs, h.cells, h.flag, h.crit, h.full, h.still⟩

theorem Waits.withPool (x : PoolSt) (hu : x.users = e.pool.users := by rfl) (hf : x.frees = e.pool.frees := by rfl) : Waits d { e with pool := x } where
  regs := h.regs
  cells := h.cells
  flag := h.flag
  crit u hl := by rw [← h.crit u hl, Dev.user, Dev.user, hu]
  full u hl := le_of_eq_of_le (by rw [Dev.user, Dev.user, hu]) (h.full u hl)
  still h0 := ⟨hf.trans (h.still h0).1, fun u hl => by rw [← (h.still h0).2 u hl, Dev.user, Dev.user, hu]⟩

/-! ### The pool (R24–R28) -/

omit h in
theorem Dev.poolPut_resverr (s : Dev) (u : Nat) (p : PoolUser) (hs : s.isOn Reg.HIF_POOL_STAT_RESVERR_F = true) :
    (s.poolPut u p).isOn Reg.HIF_POOL_STAT_RESVERR_F = true := by
  unfold Dev.poolPut
  refine onlyIf_keeps (fun t => t.isOn Reg.HIF_POOL_STAT_RESVERR_F = true) _ _ _ (onlyIf_keeps (fun t => t.isOn Reg.HIF_POOL_STAT_RESVERR_F = true) _ _ _ ?_
    (fun t ht => ?_)) (fun t ht => ?_)
  · exact (Dev.isOn_of_reg (((RegsBut.refl (s.setUser u p) [Reg.HIF_POOL_FREE]).set _ _ (by decide)).set _ _ (by decide) _ (by decide))).trans hs
  · exact (Dev.isOn_of_reg ((RegsBut.refl t [Reg.HIF_POOL_LOW]).set _ _ (by decide) _ (by decide))).trans ht
  · rw [Dev.isOn, Dev.raise, Dev.get_set_apart _ Reg.HIF_POOL_STAT_SHEXH_F Reg.HIF_POOL_STAT_RESVERR_F 1 (by decide) (by decide) (by decide)]
    exact ht

theorem Waits.poolPut (u : Nat) (p : PoolUser) (hu : 32 ≤ u) : Waits d (e.poolPut u p) where
  regs := h.regs.trans ((e.poolPut_regs u p).mono (by decide))
  cells := (congrArg Dev.cells (e.poolPut_frame u p)).trans h.cells
  flag hd := e.poolPut_resverr u p (h.flag hd)
  crit v hv := by rw [Dev.poolPut_user_ne _ _ _ (by omega), h.crit v hv]
  full v hv := by
    rw [Dev.poolPut_user_ne _ _ _ (by omega)]
    exact h.full v hv
  still h0 := ⟨(congrArg PoolSt.frees (e.poolPut_pool u p)).trans (h.still h0).1, fun v hv => by
    rw [Dev.poolPut_user_ne _ _ _ (by omega), (h.still h0).2 v hv]⟩

theorem Waits.poolClk : Waits d e.poolClk := by
  unfold Dev.poolClk
  exact Waits.ite h (h.withPool _)

theorem Waits.servedOne (u : Nat) : Waits d (e.servedOne u) := h.withPool _

theorem Waits.allocN {u n : Nat} (hu : 32 ≤ u) {x : Hold × Dev} (hx : e.allocN u n = some x) : Waits d x.2 := by
  obtain ⟨-, -, -, -, hp⟩ := Dev.allocN_spec hx
  rw [hp]
  exact h.poolPut u _ hu

theorem Waits.grantOne {u : Nat} (hu : 32 ≤ u) {t : Dev} (ht : e.grantOne u = some t) : Waits d t := by
  unfold Dev.grantOne at ht
  dsimp only at ht
  split at ht
  · cases ht
    exact h.poolPut u _ hu
  · split at ht
    · cases ht
      exact h.poolPut u _ hu
    · split at ht
      · cases ht
        exact h.poolPut u _ hu
      · cases ht

omit h in
theorem PoolUser.less_crit (p : PoolUser) (x : Hold) (u : Nat) : ((p.less x).halfRule u).crit = p.crit := by
  unfold PoolUser.halfRule
  split <;> rfl

omit h in
theorem PoolUser.less_resFull (p : PoolUser) (x : Hold) (u : Nat) : ((p.less x).halfRule u).resFull ≤ p.resFull := by
  have hless : (p.less x).resFull ≤ p.resFull := by
    unfold PoolUser.resFull PoolUser.less
    dsimp only
    omega
  unfold PoolUser.halfRule
  split
  · exact hless
  · exact hless

/-- A free served empties a reservation, if anything. -/
theorem Waits.giveBack (x : Hold) (hf : d.pool.frees ≠ []) : Waits d (e.giveBack x) where
  regs := h.regs.trans ((e.giveBack_regs x).mono (by decide))
  cells := (congrArg Dev.cells (e.poolPut_frame _ _)).trans h.cells
  flag hd := e.poolPut_resverr _ _ (h.flag hd)
  crit u hu := by
    rw [Dev.giveBack_eq, Dev.poolPut_user]
    split
    · next hux => rw [PoolUser.less_crit, ← hux, h.crit u hu]
    · exact h.crit u hu
  full u hu := by
    rw [Dev.giveBack_eq, Dev.poolPut_user]
    split
    · next hux => exact (PoolUser.less_resFull _ _ _).trans (hux ▸ h.full u hu)
    · exact h.full u hu
  still h0 := absurd h0 hf

theorem Waits.freesServed (n : Nat) (hf : d.pool.frees ≠ []) : Waits d (e.freesServed n) := by
  have hclk := h.poolClk
  unfold Dev.freesServed
  refine Waits.forEach ?_ _ _ (fun x t ht => ht.giveBack x hf)
  exact ⟨hclk.regs, hclk.cells, hclk.flag, hclk.crit, hclk.full, fun h0 => absurd h0 hf⟩

theorem Waits.standing {u : Nat} {t : Dev} (ht : e.standing u = some t) : Waits d t := by
  unfold Dev.standing at ht
  split at ht
  · cases ht
  next hu =>
    split at ht
    · split at ht
      · exact h.grantOne (by omega) ht
      · cases ht
    · split at ht
      · obtain ⟨x, hx, rfl⟩ := Option.map_eq_some_iff.mp ht
        exact (h.allocN (by omega) hx).withHost _
      · cases ht

end

/-! ### The converters (R66–R77) -/

/-- The converters and the rotation of the background calibration have gone on from `d` to `e`; nothing else differs. -/
def Converts (d e : Dev) : Prop := e = { d with regs := e.regs, adc := e.adc } ∧ RegsBut d e [Reg.ADC_BGSTAT]

theorem Converts.refl (d : Dev) : Converts d d := ⟨rfl, RegsBut.refl d _⟩

theorem Converts.ite {d e f : Dev} {c : Prop} [Decidable c] (he : Converts d e) (hf : Converts d f) : Converts d (if c then e else f) := by
  split
  · exact he
  · exact hf

section
variable {d e : Dev} (h : Converts d e)
include h

theorem Converts.withAdc (x : AdcSt) : Converts d { e with adc := x } := by
  obtain ⟨he, hr⟩ := h
  refine ⟨?_, hr⟩
  rw [he]

theorem Converts.set (f : Fld) (v : Nat) (hf : f.off = Reg.ADC_BGSTAT) : Converts d (e.set f v) := by
  obtain ⟨he, hr⟩ := h
  refine ⟨?_, RegsBut.set hr f v (List.mem_singleton.mpr hf)⟩
  rw [he]
  rfl

theorem Converts.onlyIf (c : Bool) (f : Dev → Dev) (hf : ∀ t, Converts d t → Converts d (f t)) : Converts d (onlyIf c f e) :=
  onlyIf_keeps (Converts d) c f e h hf

theorem Converts.forEach {α : Type} (l : List α) (f : α → Dev → Dev) (hf : ∀ a t, Converts d t → Converts d (f a t)) : Converts d (forEach l f e) :=
  forEach_keeps (Converts d) l f e h hf

theorem Converts.bgBoundary (c clk : Nat) : Converts d (e.bgBoundary c clk) := by
  unfold Dev.bgBoundary
  dsimp only
  split
  · refine Converts.ite h ((Converts.ite ?_ ?_).withAdc _)
    · exact (h.withAdc _).set _ _ (bgAct_off _)
    · exact (((h.withAdc _).set _ _ (bgAct_off _)).set _ _ (bgPos_off _)).onlyIf _ _ (fun t ht => ht.set _ _ rfl)
  · exact h

theorem Converts.beginConv (c : Nat) (r : ConvRun) : Converts d (e.beginConv c r) := ((h.bgBoundary c r.start).withAdc _).withAdc _

theorem Converts.calBegin (c clk : Nat) : Converts d (e.calBegin c clk) := ((((h.bgBoundary c clk).withAdc _).withAdc _).withAdc _).withAdc _

theorem Converts.nextSlot (c clk : Nat) : Converts d (e.nextSlot c clk) := by
  have hfree : Converts d (e.setRun c none) := h.withAdc _
  have hpair : ∀ (p : Nat) (x : PairSt), Converts d ((e.setRun c none).setPair_ p x) := fun p x => hfree.withAdc _
  unfold Dev.nextSlot
  dsimp only
  refine Converts.ite (hfree.calBegin c clk) (Converts.ite hfree ?_)
  split
  · refine Converts.ite (hfree.beginConv _ _) (Converts.ite hfree ?_)
    split
    · refine Converts.ite (hfree.beginConv _ _) ?_
      split
      · exact hfree.withAdc _
      · exact hfree
    · exact hfree
  · exact (hpair _ _).beginConv _ _
  · split
    · exact (hpair _ _).beginConv _ _
    · split
      · exact (hpair _ _).beginConv _ _
      · exact hpair _ _

theorem Converts.slotIfIdle (c clk : Nat) : Converts d (e.slotIfIdle c clk) := by
  unfold Dev.slotIfIdle
  exact Converts.ite (h.nextSlot c clk) h

theorem Converts.slotStarts (clk n : Nat) : Converts d (e.slotStarts clk n) := by
  induction n generalizing e with
  | zero => exact h
  | succ n ih =>
    unfold Dev.slotStarts
    split
    · exact h
    · exact ih ((h.withAdc _).slotIfIdle _ _)

theorem Converts.calBounds (clk : Nat) : Converts d (e.calBounds clk) := by
  unfold Dev.calBounds
  split
  · exact h
  · exact Converts.ite h (h.forEach _ _ (fun x t ht => Converts.ite (ht.bgBoundary _ _) ht))

theorem Converts.adcPass (clk : Nat) (at_ : Nat → Nat) : Converts d (e.adcPass clk at_) := by
  unfold Dev.adcPass
  dsimp only
  refine Converts.ite h (Converts.forEach (((h.forEach _ _ (fun c t ht => ?_)).calBounds _).slotStarts _ _) _ _ (fun c t ht => ?_))
  · split
    · exact Converts.ite (ht.beginConv _ _) ht
    · exact ht
  · split
    · exact Converts.ite (ht.withAdc _) ht
    · exact ht

end

section
variable {d e : Dev} (h : Waits d e)
include h

theorem Waits.adcPass (clk : Nat) (at_ : Nat → Nat) : Waits d (e.adcPass clk at_) := by
  obtain ⟨he, hr⟩ := (Converts.refl e).adcPass clk at_
  have hregs : RegsBut d (e.adcPass clk at_) clockRegs := h.regs.trans (hr.mono (by decide))
  have hstat : (e.adcPass clk at_).reg Reg.HIF_POOL_STAT = e.reg Reg.HIF_POOL_STAT := hr _ (by decide)
  have hpool : (e.adcPass clk at_).pool = e.pool := (congrArg Dev.pool he).trans rfl
  have huser : ∀ u, (e.adcPass clk at_).user u = e.user u := fun u => by rw [Dev.user, Dev.user, hpool]
  refine ⟨hregs, ((congrArg Dev.cells he).trans rfl).trans h.cells, fun hd => ?_, fun u hu => ?_, fun u hu => ?_, fun h0 => ⟨?_, fun u hu => ?_⟩⟩
  · rw [Dev.isOn_of_reg (f := Reg.HIF_POOL_STAT_RESVERR_F) hstat, h.flag hd]
  · rw [huser, h.crit u hu]
  · rw [huser]
    exact h.full u hu
  · rw [hpool, (h.still h0).1]
  · rw [huser, (h.still h0).2 u hu]

/-! ### The clocks (R46, R47) -/

theorem Waits.refPass (k : Nat) : Waits d (e.refPass k) := by
  unfold Dev.refPass
  exact Waits.ite h (Waits.ite h.free (h.free.free.free.withClk _))

theorem Waits.clocksPass (n : Nat) : Waits d (e.clocksPass n) := by
  unfold Dev.clocksPass
  extract_lets _ _ s2 _ s4 s5 s6 s7
  have hs2 : Waits d s2 := ((h.adcPass _ _).withClk _).refPass _
  clear_value s2
  have hs4 : Waits d s4 := ⟨hs2.regs, hs2.cells, hs2.flag, hs2.crit, hs2.full, hs2.still⟩
  have hs5 : Waits d s5 := Waits.ite (hs4.set _ _) hs4
  have hs6 : Waits d s6 := Waits.ite (hs5.set _ _) hs5
  clear_value s6
  have hs7 : Waits d s7 := by
    by_cases hf : d.pool.frees = []
    · have he : s6.pool.frees.isEmpty = true := by rw [(hs6.still hf).1, List.isEmpty_nil]
      simp only [s7, he, if_true]
      exact hs6
    · exact Waits.ite hs6 (hs6.freesServed n hf)
  exact Waits.ite h (hs7.withClkRegs _)

/-! ### Serving (R28, R29) -/

/-- Requests that leave what a wait leaves. -/
def WaitingRequests {α : Type} (own : List (Request α)) : Prop := ∀ r ∈ own, ∀ (s : Dev) x, r.2 s = some x → Waits s x.2

omit h in
theorem WaitingRequests.filter {α : Type} {own : List (Request α)} (ho : WaitingRequests own) (p : Request α → Bool) : WaitingRequests (own.filter p) :=
  fun r hr => ho r (List.mem_filter.mp hr).1

theorem Waits.serveNext {α : Type} {own : List (Request α)} (ho : WaitingRequests own) {x : Option (Nat × α) × Dev} (hx : e.serveNext own = some x) :
    Waits d x.2 := by
  obtain ⟨u, _, hu⟩ := List.exists_of_findSome?_eq_some hx
  split at hu
  next y hy =>
    obtain ⟨r, hr, hy⟩ := Option.bind_eq_some_iff.mp hy
    cases hu
    exact (h.trans (ho r (List.mem_of_find?_eq_some hr) e y hy)).servedOne u
  next =>
    obtain ⟨t, ht, rfl⟩ := Option.map_eq_some_iff.mp hu
    exact (h.standing ht).servedOne u

theorem Waits.serve {α : Type} (own : List (Request α)) (n : Nat) (ho : WaitingRequests own) : Waits d (e.serve own n).2 := by
  induction n generalizing e own with
  | zero => exact h
  | succ n ih =>
    unfold Dev.serve
    split
    · exact h
    next x t hx => exact ih (h.serveNext ho hx) _ (ho.filter _)

theorem Waits.serveClock {α : Type} (own : List (Request α)) (ho : WaitingRequests own) : Waits d (e.serveClock own).2 := h.poolClk.serve _ _ ho

theorem Waits.serveOwn {α : Type} (own : List (Request α)) (n : Nat) (ho : WaitingRequests own) : Waits d (e.serveOwn own n).2 := by
  induction n generalizing e own with
  | zero => exact h
  | succ n ih =>
    unfold Dev.serveOwn
    split
    · exact h
    · dsimp only
      split
      · exact h.serveClock own ho
      · exact ih ((h.serveClock own ho).clocksPass 1) _ (ho.filter _)

theorem Waits.request (u n : Nat) (hu : 32 ≤ u) : Waits d (e.request u n).2 := by
  refine h.serveOwn _ _ (fun r hr s x hx => ?_)
  obtain rfl := List.mem_singleton.mp hr
  exact (Waits.refl s).allocN hu hx

theorem Waits.ask (u n : Nat) (hu : 32 ≤ u) : Waits d (e.ask u n).2 := by
  unfold Dev.ask
  split
  · exact h
  · split
    · exact h.withPool _
    · split
      · exact h
      · exact h.request u n hu

end

end Sys2Proof.Machine
end

section
/-! PROOFS. Krekai: messages that come in on a port (R26, R261, R263, R280): the link and the block check, the credits of their granules, and the
ones for other chips. -/

set_option Elab.async false

namespace Sys2Proof.Machine

/-! ### Counters and flags -/

theorem satAdd_lt {m v n : Nat} : satAdd m v n < m + 1 := Nat.lt_succ_of_le (Nat.min_le_left _ _)

theorem counted_count (s : Dev) (f : Fld) (hh : f.hi < 32) (hl : f.lo ≤ f.hi) : Counted s (s.count f) f := by
  unfold Counted Dev.count
  have hmax : 2 ^ (f.hi + 1 - f.lo) - 1 + 1 = 2 ^ (f.hi + 1 - f.lo) := Nat.sub_add_cancel Nat.one_le_two_pow
  refine ((s.noted f 1).get_set_fits f hh hl ?_).trans ?_
  · exact lt_of_lt_of_eq satAdd_lt hmax
  · rfl

theorem SameBut.refl (d : Dev) (l : List Nat) : SameBut d d l := ⟨rfl, fun _ _ => rfl⟩

theorem SameBut.count {d e : Dev} {l : List Nat} (h : SameBut d e l) (f : Fld) (hf : f.off ∈ l) : SameBut d (e.count f) l := by
  obtain ⟨he, hr⟩ := h
  refine ⟨?_, RegsBut.count hr f 1 hf⟩
  rw [he]
  rfl

theorem SameBut.raise {d e : Dev} {l : List Nat} (h : SameBut d e l) (f : Fld) (hf : f.off ∈ l) : SameBut d (e.raise f) l := by
  obtain ⟨he, hr⟩ := h
  refine ⟨?_, RegsBut.raise hr f hf⟩
  rw [he]
  rfl

/-! ### Blocks on a port (R263) -/

section
variable (d : Dev) (port : Nat) (f : Dev → Dev)

theorem Dev.blockIn_down (h : d.linkUp port = false) (ok : Bool) : d.blockIn port ok f = d := by
  unfold Dev.blockIn
  rw [h]
  rfl

theorem Dev.blockIn_bad (h : d.linkUp port = true) : d.blockIn port false f = d.count (Reg.KRK_PORTp_ERR_CRCERR port) := by
  unfold Dev.blockIn
  rw [h]
  rfl

theorem Dev.blockIn_good (h : d.linkUp port = true) : d.blockIn port true f = f d := by
  unfold Dev.blockIn
  rw [h]
  rfl

theorem Dev.linkUp_port (h : d.linkUp port = true) : port < 4 := by
  unfold Dev.linkUp at h
  rw [Bool.and_eq_true, decide_eq_true_eq] at h
  exact h.1

end

/-! ### Which message a command is -/

section
variable {s : State} (hs : s.live) (port dest : Nat)
include hs

theorem answers_packet (origin txn : Nat) (ok : Bool) (p : Packet) (data : List Byte) : Answers (.stationPacket port dest origin txn ok p data) s
    (s.start.messageIn port dest data.length ok [(3, packetBytes origin txn none p data)] (.packet origin txn p data)) :=
  answers_of_onLive (f := fun d => d.stationPacket port dest origin txn ok p data) hs rfl

theorem answers_prepare (origin txn : Nat) (ok : Bool) (p : Packet) (commitN : Nat) (data : List Byte) :
    Answers (.prepare port dest origin txn ok p commitN data) s
      (s.start.messageIn port dest data.length ok [(4, packetBytes origin txn (some commitN) p data)] (.prepare origin txn p commitN data)) :=
  answers_of_onLive (f := fun d => d.prepareArrives port dest origin txn ok p commitN data) hs rfl

theorem answers_reply (txn : Nat) (ok : Bool) (a : TxnAns) (data : List Byte) :
    Answers (.stationReply port dest txn ok a.chip a.status a.detail a.result data) s (s.start.messageIn port dest data.length ok
      ((if data.isEmpty then [] else [(7, data)]) ++ [(6, a.bytes txn)]) (.reply txn a data)) :=
  answers_of_onLive (f := fun d => d.stationReply port dest txn ok a data) hs rfl

theorem answers_identity (ok : Bool) (peer : Option Ident) (last : Bool) :
    Answers (.identityExchange port dest ok peer last) s (s.start.identityArrives port dest ok peer last) :=
  answers_of_onLive (f := fun d => d.identityArrives port dest ok peer last) hs rfl

theorem answers_go (origin txn : Nat) (ok : Bool) : Answers (.go port dest origin txn ok) s (s.start.decisionIn port dest origin txn ok true) :=
  answers_of_onLive (f := fun d => d.decisionIn port dest origin txn ok true) hs rfl

theorem answers_abort (origin txn : Nat) (ok : Bool) : Answers (.abort port dest origin txn ok) s (s.start.decisionIn port dest origin txn ok false) :=
  answers_of_onLive (f := fun d => d.decisionIn port dest origin txn ok false) hs rfl

/-- A command that brings a block in on a port. -/
inductive ArrivesOn (port : Nat) (ok : Bool) : Instr → Prop
  | packet (dest origin txn p data) : ArrivesOn port ok (.stationPacket port dest origin txn ok p data)
  | prepare (dest origin txn p commitN data) : ArrivesOn port ok (.prepare port dest origin txn ok p commitN data)
  | reply (dest txn chip st dt res data) : ArrivesOn port ok (.stationReply port dest txn ok chip st dt res data)
  | identity (dest x last) : ArrivesOn port ok (.identityExchange port dest ok (some x) last)
  | go (dest origin txn) : ArrivesOn port ok (.go port dest origin txn ok)
  | abort (dest origin txn) : ArrivesOn port ok (.abort port dest origin txn ok)

/-- Each of them hands the block to its meaning once the link and the check have passed. -/
theorem ArrivesOn.answers {ok : Bool} {i : Instr} (h : ArrivesOn port ok i) : ∃ f, Answers i s (s.start.blockIn port ok f) := by
  cases h with
  | packet dest origin txn p data => exact ⟨_, answers_packet hs port dest origin txn ok p data⟩
  | prepare dest origin txn p commitN data => exact ⟨_, answers_prepare hs port dest origin txn ok p commitN data⟩
  | reply dest txn chip st dt res data => exact ⟨_, answers_reply hs port dest txn ok ⟨chip, st, dt, res⟩ data⟩
  | identity dest x last => exact ⟨_, answers_identity hs port dest ok (some x) last⟩
  | go dest origin txn => exact ⟨_, answers_go hs port dest origin txn ok⟩
  | abort dest origin txn => exact ⟨_, answers_abort hs port dest origin txn ok⟩

/-- Nothing comes in on a port whose link is down. -/
theorem ArrivesOn.down {ok : Bool} {i : Instr} (h : ArrivesOn port ok i) (hl : s.dev.linkUp port = false) : Answers i s s.start := by
  obtain ⟨f, hf⟩ := h.answers hs
  rwa [Dev.blockIn_down s.start port f hl] at hf

/-- A block that fails its check is counted and discarded. -/
theorem ArrivesOn.bad {i : Instr} (h : ArrivesOn port false i) (hl : s.dev.linkUp port = true) : ∃ d, Answers i s d ∧
    Counted s.dev d (Reg.KRK_PORTp_ERR_CRCERR port) ∧ SameBut s.start d [Reg.KRK_PORTp_ERR port] := by
  obtain ⟨f, hf⟩ := h.answers hs
  rw [Dev.blockIn_bad s.start port f hl] at hf
  refine ⟨_, hf, ?_, (SameBut.refl _ _).count _ (by simp [Reg.KRK_PORTp_ERR_CRCERR, Reg.KRK_PORTp_ERR])⟩
  exact counted_count s.start (Reg.KRK_PORTp_ERR_CRCERR port) (by simp [Reg.KRK_PORTp_ERR_CRCERR]) (by simp [Reg.KRK_PORTp_ERR_CRCERR])

end

/-! ### Credits of a message (R26, R27) -/

theorem granules_eq (n : Nat) : 1 + (n + 255) / 256 = 1 + cdiv n 256 := by
  unfold cdiv
  omega

theorem Dev.poolRegs_eq : poolRegs = [Reg.HIF_POOL_FREE, Reg.HIF_POOL_LOW, Reg.HIF_POOL_STAT] := rfl

theorem Dev.freeHold_frame (d : Dev) (h : Hold) : d.freeHold h = { d with
    regs := (d.freeHold h).regs, evt := (d.freeHold h).evt, pool := (d.freeHold h).pool } := by
  unfold Dev.freeHold
  dsimp only
  split
  · rw [Dev.poolClk_frame]
  · split
    · rw [Dev.giveBack_eq, Dev.poolPut_frame, Dev.poolClk_frame]
    · rw [Dev.poolClk_frame]

theorem Dev.freeHold_regs (d : Dev) (h : Hold) : RegsBut d (d.freeHold h) poolRegs := by
  have hclk : RegsBut d d.poolClk poolRegs := (RegsBut.refl d _).same d.poolClk_regs
  have hfreed : ∀ x : PoolSt, RegsBut d { d.poolClk with pool := x } poolRegs := fun _ => hclk
  unfold Dev.freeHold
  dsimp only
  split
  · exact hclk
  · split
    · exact (hfreed _).trans (Dev.giveBack_regs _ h)
    · exact hclk

/-- The data of a port with its credits is held, and its user’s holding alone changes. -/
theorem Dev.portData_some {d : Dev} {u n : Nat} (h : n ≤ (d.user u).cred) : ∃ x p, d.portData u n = (some x, d.setUser u p) := by
  unfold Dev.portData
  dsimp only
  rw [if_pos h]
  exact ⟨_, _, rfl⟩

theorem Dev.portData_some_frame {d t : Dev} {u n : Nat} {x : Hold} (h : d.portData u n = (some x, t)) : ∃ p, t = d.setUser u p := by
  unfold Dev.portData at h
  dsimp only at h
  split at h
  · cases h
    exact ⟨_, rfl⟩
  · cases h

theorem Dev.portData_none {d : Dev} {u n : Nat} (h : (d.user u).cred < n) : ∃ p x, d.portData u n =
    (none, ((d.setUser u p).freeHold x).raise Reg.HIF_POOL_STAT_CREDERR_F) := by
  unfold Dev.portData
  dsimp only
  rw [if_neg (by omega)]
  exact ⟨_, _, rfl⟩

section
variable {d : Dev} {port dest n : Nat} {out : List (Nat × List Byte)} {msg : Inward} (hl : d.linkUp port = true)
include hl

theorem Dev.messageIn_without (hc : (d.user (32 + port)).cred < 1 + cdiv n 256) : ∃ p x, d.messageIn port dest n true out msg =
    (((d.setUser (32 + port) p).freeHold x).raise Reg.HIF_POOL_STAT_CREDERR_F).count (Reg.KRK_PORTp_ERR_CREDERR port) := by
  obtain ⟨p, x, hp⟩ := Dev.portData_none hc
  refine ⟨p, x, ?_⟩
  rw [Dev.messageIn, Dev.blockIn_good _ _ _ hl, hp]

theorem Dev.messageIn_with (hc : 1 + cdiv n 256 ≤ (d.user (32 + port)).cred) : ∃ x p, d.portData (32 + port) (1 + cdiv n 256) = (some x, d.setUser (32 + port) p) ∧
    d.messageIn port dest n true out msg =
      (if dest != d.ownIndex then ((d.setUser (32 + port) p).freeHold x).passOn dest out
      else if !d.krk.joined then (d.setUser (32 + port) p).freeHold x
      else (d.setUser (32 + port) p).inward { port := port, hold := x, msg := msg }) := by
  obtain ⟨x, p, hp⟩ := Dev.portData_some hc
  refine ⟨x, p, hp, ?_⟩
  rw [Dev.messageIn, Dev.blockIn_good _ _ _ hl, hp]
  rfl

omit hl in
/-- A refusal for want of credits is counted at its port. -/
theorem Dev.count_crederr {t : Dev} (ht : RegsBut d t poolRegs) (hon : t.isOn Reg.HIF_POOL_STAT_CREDERR_F = true) :
    Counted d (t.count (Reg.KRK_PORTp_ERR_CREDERR port)) (Reg.KRK_PORTp_ERR_CREDERR port) ∧
    (t.count (Reg.KRK_PORTp_ERR_CREDERR port)).isOn Reg.HIF_POOL_STAT_CREDERR_F = true ∧
    RegsBut d (t.count (Reg.KRK_PORTp_ERR_CREDERR port)) (Reg.KRK_PORTp_ERR port :: poolRegs) := by
  have hne : ∀ o ∈ poolRegs, o ≠ 0x3824 + 8 * port := fun o ho => by
    have := (by decide : ∀ o ∈ poolRegs, o < 0x3824) o ho
    omega
  refine ⟨?_, ?_, ?_⟩
  · have hcount := counted_count t (Reg.KRK_PORTp_ERR_CREDERR port) (by simp [Reg.KRK_PORTp_ERR_CREDERR]) (by simp [Reg.KRK_PORTp_ERR_CREDERR])
    rwa [Counted, Dev.get_of_reg (f := Reg.KRK_PORTp_ERR_CREDERR port) (ht _ (fun hm => hne _ hm rfl))] at hcount
  · have hkeep : RegsBut t (t.count (Reg.KRK_PORTp_ERR_CREDERR port)) [Reg.KRK_PORTp_ERR port] :=
      (RegsBut.refl t _).count _ 1 (List.mem_singleton.mpr rfl)
    have hoff : Reg.HIF_POOL_STAT_CREDERR_F.off ∉ [Reg.KRK_PORTp_ERR port] := fun hm => hne _ (by decide) (List.mem_singleton.mp hm)
    rwa [Dev.isOn_of_reg (f := Reg.HIF_POOL_STAT_CREDERR_F) (hkeep _ hoff)]
  · exact RegsBut.count (ht.mono (fun o ho => List.mem_cons_of_mem _ ho)) _ _ (List.mem_cons_self ..)

/-- Without the credits it is discarded and counted. -/
theorem Dev.messageIn_discarded (hc : (d.user (32 + port)).cred < 1 + cdiv n 256) :
    Counted d (d.messageIn port dest n true out msg) (Reg.KRK_PORTp_ERR_CREDERR port) ∧
    (d.messageIn port dest n true out msg).isOn Reg.HIF_POOL_STAT_CREDERR_F = true ∧
    RegsBut d (d.messageIn port dest n true out msg) (Reg.KRK_PORTp_ERR port :: poolRegs) := by
  obtain ⟨p, x, hm⟩ := Dev.messageIn_without (dest := dest) (out := out) (msg := msg) hl hc
  rw [hm]
  have hheld : RegsBut d (d.setUser (32 + port) p) poolRegs := RegsBut.refl d _
  exact Dev.count_crederr (RegsBut.raise (hheld.trans (Dev.freeHold_regs _ x)) _ (by decide)) (Dev.isOn_CREDERR _)

end

end Sys2Proof.Machine
end

section
/-! PROOFS. Krekai: messages for another chip, which leave on the shortest path, and those that wait or are dropped (R261, R263, R280). -/

set_option Elab.async false

namespace Sys2Proof.Machine

/-! ### What goes out (R263) -/

/-- `e` has sent more than `d`; nothing else differs. -/
def OnlySent (d e : Dev) : Prop := e = { d with out := e.out } ∧ Sent d e

theorem OnlySent.refl (d : Dev) : OnlySent d d := ⟨rfl, Sent.refl d⟩

theorem OnlySent.portSend {d e : Dev} (h : OnlySent d e) (p k dest : Nat) (b : List Byte) : OnlySent d (e.portSend p k dest b) := by
  obtain ⟨he, hs⟩ := h
  unfold Dev.portSend
  split
  · refine ⟨?_, hs.send _⟩
    rw [he]
    rfl
  · exact ⟨he, hs⟩

theorem OnlySent.forEach {α : Type} {d e : Dev} (h : OnlySent d e) (l : List α) (f : α → Dev → Dev) (hf : ∀ a t, OnlySent d t → OnlySent d (f a t)) :
    OnlySent d (forEach l f e) := forEach_keeps (OnlySent d) l f e h hf

theorem OnlySent.krkForward {d e : Dev} (h : OnlySent d e) (port origin k : Nat) (b : List Byte) (first : Bool) :
    OnlySent d (e.krkForward port origin k b first) := by
  unfold Dev.krkForward
  extract_lets _ _ s2
  have hs2 : OnlySent d s2 := by
    unfold s2
    split
    · exact h
    · exact h.portSend _ _ _ _
  split
  · exact hs2.forEach _ _ (fun q t ht => ht.portSend _ _ _ _)
  · exact hs2

theorem OnlySent.regs {d e : Dev} (h : OnlySent d e) : e.regs = d.regs := (congrArg Dev.regs h.1).trans rfl
theorem OnlySent.krk {d e : Dev} (h : OnlySent d e) : e.krk = d.krk := (congrArg Dev.krk h.1).trans rfl
theorem OnlySent.host {d e : Dev} (h : OnlySent d e) : e.host = d.host := (congrArg Dev.host h.1).trans rfl

theorem Dev.portSend_mem {d : Dev} {p : Nat} (h : d.linkUp p = true) (k dest : Nat) (b : List Byte) : OutMsg.krk p k dest b ∈ (d.portSend p k dest b).out := by
  unfold Dev.portSend
  rw [if_pos h]
  exact List.mem_append_right _ (List.mem_singleton.mpr rfl)

/-- The path to a chip follows from the station’s state and registers from KRK_ID on. -/
theorem Dev.portTo_eq {d e : Dev} (hk : e.krk = d.krk) (hr : ∀ o, 0x3800 ≤ o → e.reg o = d.reg o) (p i : Nat) :
    e.linkUp p = d.linkUp p ∧ e.portTo i = d.portTo i ∧ e.ownIndex = d.ownIndex := by
  have hlink : ∀ q, e.linkUp q = d.linkUp q := fun q => by
    simp only [Dev.linkUp, Dev.get, hr (Reg.KRK_PORTp_STAT_LINK q).off (by simp only [Reg.KRK_PORTp_STAT_LINK]; omega)]
  have hown : e.ownIndex = d.ownIndex := by
    simp only [Dev.ownIndex, Dev.get, hr Reg.KRK_ID_BAY.off (by decide), hr Reg.KRK_ID_CHIP.off (by decide)]
  have hlead : ∀ j a, e.mayLead j a = d.mayLead j a := fun j a => by simp only [Dev.mayLead, Dev.viaMask, hlink, hk]
  exact ⟨hlink p, by simp only [Dev.portTo, Dev.ringPort, hlead, hown, hk], hown⟩

theorem Dev.passOn_sent (d : Dev) (dest : Nat) (out : List (Nat × List Byte)) : OnlySent d (d.passOn dest out) :=
  (OnlySent.refl d).forEach _ _ (fun _ t ht => ht.portSend (t.portTo dest) _ _ _)

/-- What is to go on is sent on the path to its chip, while a link is up there. -/
theorem Dev.passOn_mem {d : Dev} {dest : Nat} (h : d.linkUp (d.portTo dest) = true) {out : List (Nat × List Byte)} {k : Nat} {b : List Byte}
    (hm : (k, b) ∈ out) : OutMsg.krk (d.portTo dest) k dest b ∈ (d.passOn dest out).out := by
  obtain ⟨l, r, rfl⟩ := List.append_of_mem hm
  have hsplit : d.passOn dest (l ++ (k, b) :: r) = ((d.passOn dest l).krkSend k dest b).passOn dest r := by
    simp only [Dev.passOn, forEach, List.foldl_append, List.foldl_cons]
  obtain ⟨hl, hp, -⟩ := Dev.portTo_eq (d.passOn_sent dest l).krk (fun o _ => Dev.reg_of_regs (d.passOn_sent dest l).regs o) (d.portTo dest) dest
  rw [hsplit]
  refine (Dev.passOn_sent _ dest r).2 _ ?_
  rw [Dev.krkSend, hp]
  exact Dev.portSend_mem (hl.trans h) k dest b

/-! ### Messages with their credits (R26, R280) -/

section
variable {d : Dev} {port dest n : Nat} {out : List (Nat × List Byte)} {msg : Inward} (hl : d.linkUp port = true)
  (hc : 1 + cdiv n 256 ≤ (d.user (32 + port)).cred)
include hl hc

/-- One for another chip leaves its granules and goes on. -/
theorem Dev.messageIn_passed (ho : dest ≠ d.ownIndex) : RegsBut d (d.messageIn port dest n true out msg) poolRegs ∧
    (d.messageIn port dest n true out msg).krk = d.krk ∧ (d.messageIn port dest n true out msg).host = d.host ∧
    (d.linkUp (d.portTo dest) = true → ∀ x ∈ out, OutMsg.krk (d.portTo dest) x.1 dest x.2 ∈ (d.messageIn port dest n true out msg).out) := by
  obtain ⟨x, p, -, hm⟩ := Dev.messageIn_with (dest := dest) (out := out) (msg := msg) hl hc
  rw [hm, if_pos (by simpa using ho)]
  have hregs : RegsBut d ((d.setUser (32 + port) p).freeHold x) poolRegs := Dev.freeHold_regs _ x
  have hframe := Dev.freeHold_frame (d.setUser (32 + port) p) x
  have hkrk : ((d.setUser (32 + port) p).freeHold x).krk = d.krk := (congrArg Dev.krk hframe).trans rfl
  have hhost : ((d.setUser (32 + port) p).freeHold x).host = d.host := (congrArg Dev.host hframe).trans rfl
  have hsent := Dev.passOn_sent ((d.setUser (32 + port) p).freeHold x) dest out
  have hpath := Dev.portTo_eq hkrk (fun o h => hregs o (fun hm => by
    have := (by decide : ∀ o ∈ poolRegs, o < 0x3800) o hm
    omega)) (d.portTo dest) dest
  refine ⟨hregs.same hsent.regs, hsent.krk.trans hkrk, hsent.host.trans hhost, fun hup x hx => ?_⟩
  have hthere := hpath.1.trans hup
  rw [← hpath.2.1] at hthere ⊢
  exact Dev.passOn_mem hthere hx

/-- One for a chip that is in no station is dropped. -/
theorem Dev.messageIn_dropped (ho : dest = d.ownIndex) (hj : d.krk.joined = false) : RegsBut d (d.messageIn port dest n true out msg) poolRegs ∧
    (d.messageIn port dest n true out msg).krk = d.krk ∧ (d.messageIn port dest n true out msg).host = d.host := by
  obtain ⟨x, p, -, hm⟩ := Dev.messageIn_with (dest := dest) (out := out) (msg := msg) hl hc
  have hframe := Dev.freeHold_frame (d.setUser (32 + port) p) x
  rw [hm, if_neg (by simpa using ho), if_pos (by rw [hj]; rfl)]
  exact ⟨Dev.freeHold_regs _ x, (congrArg Dev.krk hframe).trans rfl, (congrArg Dev.host hframe).trans rfl⟩

/-- One for this chip waits while its firmware does not run, or behind others that wait. -/
theorem Dev.messageIn_waits (ho : dest = d.ownIndex) (hj : d.krk.joined = true) (hw : d.fetching = false ∨ d.krk.inbox ≠ []) :
    ∃ h, (d.messageIn port dest n true out msg).regs = d.regs ∧ (d.messageIn port dest n true out msg).host = d.host ∧
      (d.messageIn port dest n true out msg).krk.inbox = d.krk.inbox ++ [{ port := port, hold := h, msg := msg }] := by
  obtain ⟨x, p, -, hm⟩ := Dev.messageIn_with (dest := dest) (out := out) (msg := msg) hl hc
  have hno : ((d.setUser (32 + port) p).fetching && (d.setUser (32 + port) p).krk.inbox.isEmpty) = false := by
    have hf : (d.setUser (32 + port) p).fetching = d.fetching := rfl
    have hk : (d.setUser (32 + port) p).krk = d.krk := rfl
    rw [hf, hk]
    rcases hw with hw | hw
    · rw [hw, Bool.false_and]
    · simp [hw]
  refine ⟨x, ?_⟩
  rw [hm, if_neg (by simpa using ho), if_neg (by rw [hj]; decide), Dev.inward, hno]
  exact ⟨rfl, rfl, rfl⟩

/-- One for this chip is taken when its firmware runs and nothing waits. -/
theorem Dev.messageIn_taken (ho : dest = d.ownIndex) (hj : d.krk.joined = true) (hf : d.fetching = true) (hi : d.krk.inbox = []) {h : Hold} {t : Dev}
    (ht : d.portData (32 + port) (1 + cdiv n 256) = (some h, t)) :
    d.messageIn port dest n true out msg = t.inwardRun { port := port, hold := h, msg := msg } := by
  obtain ⟨x, p, hx, hm⟩ := Dev.messageIn_with (dest := dest) (out := out) (msg := msg) hl hc
  cases hx.symm.trans ht
  have hyes : ((d.setUser (32 + port) p).fetching && (d.setUser (32 + port) p).krk.inbox.isEmpty) = true := by
    have hf' : (d.setUser (32 + port) p).fetching = d.fetching := rfl
    have hk : (d.setUser (32 + port) p).krk = d.krk := rfl
    rw [hf', hk, hf, hi]
    rfl
  rw [hm, if_neg (by simpa using ho), if_neg (by rw [hj]; decide), Dev.inward, hyes]
  rfl

end

end Sys2Proof.Machine
end

section
/-! PROOFS. Krekai: the messages that device firmware takes (R280–R282): a packet is executed, a PREPARE listed, an answer entered. -/

set_option Elab.async false

namespace Sys2Proof.Machine

/-! ### A packet that passes (R355) -/

/-- The body of a command that ends leaves the command closed. -/
theorem Dev.execute_ends {s f : Dev} {w : WaitCmd} {row : OpRow} {r : Reply} (h : row.body w.src w.pkt (s.bodyState w) = (f, some r)) :
    s.execute w row = f.closed w r := by
  have hrun : (s.setWait { w with kind := runKind w.pkt, bulk := [], buf := none }).runBody row w.src w.pkt w.data w.bulk w.buf (s.arrivalOf w) =
      (({ f with pool := { f.pool with now := [], kept := [] }, snp := { f.snp with prepBuf := none } }, some r), f.pool.now ++ f.pool.kept, f.snp.prepBuf) := by
    have hbody : row.body w.src w.pkt (s.bodyState w) = _ := h
    unfold Dev.bodyState at hbody
    unfold Dev.runBody
    dsimp only at hbody ⊢
    rw [hbody]
  unfold Dev.execute
  dsimp only
  rw [hrun]
  rfl

@[simp] theorem Dev.addWait_pkt (t : Dev) (w : WaitCmd) : (t.addWait w).1.pkt = w.pkt := rfl
@[simp] theorem Dev.addWait_src (t : Dev) (w : WaitCmd) : (t.addWait w).1.src = w.src := rfl
@[simp] theorem Dev.addWait_route (t : Dev) (w : WaitCmd) : (t.addWait w).1.route = w.route := rfl

/-- Steps 3 and 4 let a packet through that passes. -/
theorem Dev.runLocal_passes {s : Dev} {w : WaitCmd} {row : OpRow} (hp : s.passes w row = true) : s.runLocal w row = s.execute w row := by
  simp only [Dev.passes, Dev.passes4, Bool.and_eq_true, Bool.not_eq_true', Option.isNone_iff_eq_none] at hp
  obtain ⟨⟨⟨⟨⟨⟨⟨-, -⟩, -⟩, hctx⟩, hexec⟩, htarget⟩, haccepts⟩, htick⟩ := hp
  have hnow : (pExecAt w.pkt != 0 && !coherent w.pkt && pOp w.pkt != 0x41) = false := by
    revert hexec
    simp only [bne]
    cases pExecAt w.pkt == 0 <;> cases coherent w.pkt <;> cases pOp w.pkt == 0x41 <;> decide
  simp only [Dev.runLocal, hctx, hnow, Dev.step4, htarget, haccepts, htick, Bool.false_and, if_true, Bool.false_eq_true, if_false]

/-- A command that has just been fetched and passes runs its body. -/
theorem Dev.arrive_ends {t e f : Dev} {wc w : WaitCmd} {row : OpRow} {r : Reply} (hrow : opRow (pOp wc.pkt) = some row)
    (hs : t.starts wc = some (w, e)) (hb : row.body wc.src wc.pkt e = (f, some r)) : t.arrive wc = f.closed w r := by
  simp only [Dev.starts, hrow] at hs
  split at hs
  next hp =>
    cases hs
    have hlocal := Dev.runLocal_passes hp
    simp only [Dev.passes, Dev.passes4, Bool.and_eq_true, Bool.not_eq_true', Option.isNone_iff_eq_none, Dev.addWait_pkt, Dev.addWait_src,
      Dev.addWait_route] at hp
    obtain ⟨⟨⟨⟨⟨⟨⟨hadmin, hstep2⟩, hscope⟩, -⟩, -⟩, -⟩, -⟩, -⟩ := hp
    have hstep2' : lowestOf (t.badStep2 wc.src wc.pkt row) = none := hstep2
    simp only [Dev.arrive, hrow, hstep2', hscope, Bool.false_eq_true, if_false, hlocal]
    rw [if_neg (by rw [Bool.not_eq_true]; exact hadmin)]
    exact Dev.execute_ends hb
  · cases hs

/-! ### A PREPARE (R281) -/

theorem Dev.prepare_badOpcode (t : Dev) {origin id : Nat} {src : Src} {p : Packet} {commitN : Nat} {data : List Byte} {link : Option Hold}
    (h : opRow (pOp p) = none) :
    t.prepare origin id src p commitN data link = (t.linkFree link).answer origin id { status := sBAD_OPCODE, detail := pOp p } := by
  simp only [Dev.prepare, h]

/-- Checks that pass leave the device as it was. -/
theorem Dev.prepCheck_ok {t : Dev} {src : Src} {p : Packet} {row : OpRow} {data : List Byte} (h : (t.prepCheck src p row data).2.1.status = sOK) :
    (t.prepCheck src p row data).1 = t := by
  unfold Dev.prepCheck at h ⊢
  dsimp only at h ⊢
  split
  · rfl
  · split
    · rfl
    · split
      · rfl
      · split
        · split <;> rfl
        · split
          · rfl
          · split
            · rfl
            next rep hrep =>
              split
              · rfl
              next hno =>
                exfalso
                simp_all

theorem Dev.prepTake_waits {d e : Dev} (h : Waits d e) (u : Nat) (hu : 32 ≤ u) (need : List Nat) : Waits d (e.prepTake u need).2 := by
  have hfold : ∀ (l : List Nat) (acc : List Hold × Dev), Waits d acc.2 → Waits d (l.foldl (fun (acc : List Hold × Dev) n =>
      let a := acc.2.ask u n
      match a.1 with
      | some h => (acc.1 ++ [h], a.2)
      | none => (acc.1, a.2)) acc).2 := by
    intro l
    induction l with
    | nil => exact fun _ hacc => hacc
    | cons n l ih =>
      intro acc hacc
      refine ih _ ?_
      dsimp only
      split <;> exact hacc.ask u n hu
  exact hfold need ([], e) h

theorem Dev.answer_preps (t : Dev) {origin : Nat} (h : origin ≠ t.ownIndex) (id : Nat) (r : Reply) : (t.answer origin id r).krk = t.krk := by
  unfold Dev.answer
  dsimp only
  rw [if_neg h]
  exact ((OnlySent.refl t).portSend _ _ _ _).krk

theorem Dev.ownIndex_eq {d e : Dev} (h : e.reg 0x3800 = d.reg 0x3800) : e.ownIndex = d.ownIndex := by
  simp only [Dev.ownIndex, Dev.get, Reg.KRK_ID_BAY, Reg.KRK_ID_CHIP, h]

/-- A PREPARE whose checks pass, with its buffer, is listed (R281, R389). -/
theorem Dev.prepare_listed (t : Dev) {origin id port : Nat} {p : Packet} {commitN : Nat} {data : List Byte} {h : Hold} {row : OpRow}
    (hrow : opRow (pOp p) = some row) (ho : origin ≠ t.ownIndex)
    (hok : (t.prepCheck (.station origin port) p row data).2.1.status = sOK) (hbuf : (t.prepReserve p).isSome = true) :
    ∃ x ∈ (t.prepare origin id (.station origin port) p commitN data (some h)).krk.preps,
      x.origin = origin ∧ x.id = id ∧ x.pkt = p ∧ x.commitN = commitN ∧ x.data = data ∧ x.link = some h := by
  obtain ⟨b, hb⟩ := Option.isSome_iff_exists.mp hbuf
  have hself := Dev.prepCheck_ok hok
  have hreserve : b.2.reg 0x3800 = t.reg 0x3800 := by
    unfold Dev.prepReserve at hb
    split at hb
    · obtain ⟨k, -, rfl⟩ := Option.map_eq_some_iff.mp hb
      exact ((RegsBut.refl t [0x5804]).setB _ _ (List.mem_singleton.mpr rfl)) _ (by decide)
    · cases hb
      rfl
  have htake := Dev.prepTake_waits (Waits.refl b.2) (srcUser (.station origin port)) (Nat.le_add_right 32 port)
    (t.prepCheck (.station origin port) p row data).2.2.1
  have hown : ∀ k, ((b.2.prepTake (srcUser (.station origin port)) (t.prepCheck (.station origin port) p row data).2.2.1).2.setKrk k).ownIndex = t.ownIndex :=
    fun k => Dev.ownIndex_eq ((htake.regs 0x3800 (by decide)).trans hreserve)
  simp only [Dev.prepare, hrow, hok, ne_eq, not_true_eq_false, if_false, hself, hb]
  rw [Dev.answer_preps _ (by rw [hown]; exact ho)]
  exact ⟨_, List.mem_append_right _ (List.mem_singleton.mpr rfl), rfl, rfl, rfl, rfl, rfl, rfl⟩

end Sys2Proof.Machine
end

section
/-! PROOFS. Krekai: answers at the coordinator (R281, R282), and the messages of the statement on this chip. -/

set_option Elab.async false

namespace Sys2Proof.Machine

/-! ### An answer (R282) -/

theorem Dev.replyTaken_none {t : Dev} {txn : Nat} (a : TxnAns) (data : List Byte) (h : t.krk.txns.find? (fun x => x.id == txn) = none) :
    t.replyTaken txn a data = t := by
  simp only [Dev.replyTaken, h]

theorem Dev.replyTaken_empty {t : Dev} {txn : Nat} {x : Txn} (a : TxnAns) (h : t.krk.txns.find? (fun x => x.id == txn) = some x) :
    t.replyTaken txn a [] = t.txnAnswer txn a := by
  simp only [Dev.replyTaken, h]
  rfl

/-- The first answer of a target of a COHERENT transaction is entered while the commit lies ahead, and completes nothing yet (R281). -/
theorem Dev.txnAnswer_first {t : Dev} {txn : Nat} {x : Txn} {a : TxnAns} (h : t.krk.txns.find? (fun x => x.id == txn) = some x) (ht : a.chip ∈ x.targets)
    (hp : x.phase = 0) (hco : x.coherent = true) (hn : x.answers.any (fun b => b.chip == a.chip) = false) :
    t.txnAnswer txn a = if x.commitN ≤ t.curN + 1 then t else t.setTxn { x with answers := x.answers ++ [a] } := by
  have hlate : t.answerLate x = decide (x.commitN ≤ t.curN + 1) := by
    rw [Dev.answerLate, hco, hp]
    rfl
  have hmem : x.targets.contains a.chip = true := List.elem_iff.mpr ht
  simp only [Dev.txnAnswer, h, hlate, hmem, hp, hco, zero_ne_one, if_false, hn]
  by_cases hc : x.commitN ≤ t.curN + 1
  · simp [hc]
  · simp [hc]

theorem Dev.mem_setTxn {t : Dev} {x y : Txn} (hx : x ∈ t.krk.txns) (hid : y.id = x.id) : y ∈ (t.setTxn y).krk.txns := by
  refine List.mem_map.mpr ⟨x, hx, ?_⟩
  rw [if_pos (by simp [hid])]

/-- What an answer without bulk data makes of its transaction. -/
theorem Dev.replyTaken_first {t : Dev} {txn : Nat} {x : Txn} {a : TxnAns} (h : t.krk.txns.find? (fun x => x.id == txn) = some x) (ht : a.chip ∈ x.targets)
    (hp : x.phase = 0) (hco : x.coherent = true) (hn : x.answers.any (fun b => b.chip == a.chip) = false) :
    (t.replyTaken txn a []).regs = t.regs ∧
    (t.curN + 1 < x.commitN → ∃ y ∈ (t.replyTaken txn a []).krk.txns, y.id = txn ∧ y.answers = x.answers ++ [a] ∧ y.pkt = x.pkt) ∧
    (x.commitN ≤ t.curN + 1 → (t.replyTaken txn a []).krk.txns = t.krk.txns) := by
  have hid : x.id = txn := by simpa using List.find?_some h
  rw [Dev.replyTaken_empty a h, Dev.txnAnswer_first h ht hp hco hn]
  refine ⟨?_, fun hc => ?_, fun hc => ?_⟩
  · split <;> rfl
  · rw [if_neg (by omega)]
    exact ⟨_, Dev.mem_setTxn (List.mem_of_find?_eq_some h) rfl, hid, rfl, rfl⟩
  · rw [if_pos hc]

/-! ### Messages taken (R280–R282) -/

section
variable {s : State} (hs : s.live) {port dest : Nat} (hl : s.dev.linkUp port = true) (ho : dest = s.dev.ownIndex) (hj : s.dev.krk.joined = true)
  (hf : s.dev.fetching = true) (hi : s.dev.krk.inbox = []) {data : List Byte} (hc : 1 + cdiv data.length 256 ≤ (s.dev.user (32 + port)).cred)
  {h : Hold} {t : Dev} (hp : s.start.portData (32 + port) (1 + cdiv data.length 256) = (some h, t))
include hs hl ho hj hf hi hc hp

theorem packet_taken {origin txn : Nat} {p : Packet} {row : OpRow} {w : WaitCmd} {e r : Dev} {x : Reply} (hrow : opRow (pOp p) = some row)
    (hb : t.starts
      { src := .station origin port, pkt := p, kind := .executing, order := 0, route := some (origin, txn), data := data
        link := some h } = some (w, e)) (hr : row.body (.station origin port) p e = (r, some x)) :
    CompletesWith (.stationPacket port dest origin txn true p data) s w r x := by
  have ha := answers_packet hs port dest origin txn true p data
  rw [Dev.messageIn_taken (d := s.start) hl hc ho hj hf hi hp] at ha
  have hrun : t.inwardRun { port := port, hold := h, msg := .packet origin txn p data } = r.closed w x := Dev.arrive_ends hrow hb hr
  rwa [hrun] at ha

theorem prepare_taken {origin txn : Nat} {p : Packet} {commitN : Nat} : Answers (.prepare port dest origin txn true p commitN data) s
    (t.prepare origin txn (.station origin port) p commitN data (some h)) := by
  have ha := answers_prepare hs port dest origin txn true p commitN data
  rwa [Dev.messageIn_taken (d := s.start) hl hc ho hj hf hi hp] at ha

theorem reply_taken {txn : Nat} (a : TxnAns) : Answers (.stationReply port dest txn true a.chip a.status a.detail a.result data) s
    ((t.freeHold h).replyTaken txn a data) := by
  have ha := answers_reply hs port dest txn true a data
  rwa [Dev.messageIn_taken (d := s.start) hl hc ho hj hf hi hp] at ha

omit hs hl ho hj hf hi hc in
/-- The device that holds an answer frees it at once, and keeps its transactions. -/
theorem Dev.reply_freed : RegsBut s.dev (t.freeHold h) poolRegs ∧ (t.freeHold h).krk = s.dev.krk ∧ (t.freeHold h).curN = s.dev.curN := by
  obtain ⟨p, rfl⟩ := Dev.portData_some_frame hp
  have hframe := Dev.freeHold_frame (s.start.setUser (32 + port) p) h
  exact ⟨Dev.freeHold_regs (s.start.setUser (32 + port) p) h, (congrArg Dev.krk hframe).trans rfl, (congrArg Dev.curN hframe).trans rfl⟩

end

end Sys2Proof.Machine
end

section
/-! PROOFS. Krekai: identities (R261, R268, R285): passed on, shown, checked by a join that waits; and O30. -/

set_option Elab.async false

namespace Sys2Proof.Machine

/-! ### A neighbour shown (R268) -/

section
variable (d : Dev) (port : Nat) (x : Ident)

theorem Dev.neighbourShown_frame : d.neighbourShown port x = { d with regs := (d.neighbourShown port x).regs } := by
  unfold Dev.neighbourShown
  split <;> rfl

theorem Dev.neighbourShown_krk : (d.neighbourShown port x).krk = d.krk := (congrArg Dev.krk (d.neighbourShown_frame port x)).trans rfl

theorem Dev.neighbourShown_regs : RegsBut d (d.neighbourShown port x) [Reg.KRK_PORTp_STAT port] := by
  unfold Dev.neighbourShown
  split
  · exact (RegsBut.refl d _).set _ _ (List.mem_singleton.mpr rfl)
  · exact RegsBut.refl d _

theorem Dev.neighbourShown_get (hn : x.neighbour = true) (hl : d.linkUp port = true) :
    (d.neighbourShown port x).get (Reg.KRK_PORTp_STAT_NEIGH port) = x.chip % 512 := by
  rw [Dev.neighbourShown, hn, hl]
  exact d.get_set_same (Reg.KRK_PORTp_STAT_NEIGH port) x.chip (by simp [Reg.KRK_PORTp_STAT_NEIGH]) (by simp [Reg.KRK_PORTp_STAT_NEIGH])

theorem Dev.neighbourShown_linkUp (q : Nat) : (d.neighbourShown port x).linkUp q = d.linkUp q := by
  unfold Dev.neighbourShown
  split
  · simp only [Dev.linkUp]
    rw [Dev.get_set_apart _ _ _ _ (by simp [Reg.KRK_PORTp_STAT_NEIGH]) (by simp [Reg.KRK_PORTp_STAT_NEIGH])
      (.inr (by simp [Reg.KRK_PORTp_STAT_NEIGH, Reg.KRK_PORTp_STAT_LINK]))]
  · rfl

/-- An identity for every chip goes on round its ring, and is noted. -/
theorem Dev.identityOn_spec : (d.identityOn port x).regs = d.regs ∧ Sent d (d.identityOn port x) ∧
    (d.identityOn port x).krk = { d.krk with idGot := (d.identityOn port x).krk.idGot } := by
  unfold Dev.identityOn
  extract_lets mate second got
  have hsent := (OnlySent.refl (d.setKrk { d.krk with idGot := got })).krkForward port x.chip 8 (identBytes x) (!second)
  exact ⟨hsent.regs, hsent.2, hsent.krk.trans (by rw [hsent.krk]; rfl)⟩

end

/-! ### Without a waiting join (R268, R285) -/

section
variable {d : Dev} {port : Nat} {x : Ident} {last : Bool} {k : Nat}

/-- What an exchange without a waiting join makes of the device: the neighbour shown, and a member’s own identity sent back. -/
def Dev.exchanged (d : Dev) (port : Nat) (x : Ident) : Dev :=
  if d.krk.joined then (d.neighbourShown port x).identitySend port x.chip ((((d.neighbourShown port x).joinCheck port x).map (·.1)).getD 0)
  else d.neighbourShown port x

theorem Dev.identity_unasked (hc : d.krk.joinCmd = none) : d.identity port (some x) last k = (d.exchanged port x, none) := by
  simp only [Dev.identity, d.neighbourShown_krk port x, hc, Dev.exchanged]

theorem Dev.exchanged_spec (hl : d.linkUp port = true) : RegsBut d (d.exchanged port x) [Reg.KRK_PORTp_STAT port] ∧
    (x.neighbour = true → (d.exchanged port x).get (Reg.KRK_PORTp_STAT_NEIGH port) = x.chip % 512) ∧
    (d.krk.joined = true → ∃ b, OutMsg.krk port 8 x.chip b ∈ (d.exchanged port x).out) := by
  have hregs := d.neighbourShown_regs port x
  have hup : (d.neighbourShown port x).linkUp port = true := (d.neighbourShown_linkUp port x port).trans hl
  unfold Dev.exchanged
  split
  · have hsent := (OnlySent.refl (d.neighbourShown port x)).portSend port 8 x.chip
      ((d.neighbourShown port x).ownIdentity ((((d.neighbourShown port x).joinCheck port x).map (·.1)).getD 0))
    refine ⟨hregs.same hsent.regs, fun hn => ?_, fun _ => ⟨_, Dev.portSend_mem hup _ _ _⟩⟩
    rw [Dev.identitySend, Dev.get_of_reg (f := Reg.KRK_PORTp_STAT_NEIGH port) (Dev.reg_of_regs hsent.regs _), d.neighbourShown_get port x hn hl]
  next hj => exact ⟨hregs, fun hn => d.neighbourShown_get port x hn hl, fun h => absurd h hj⟩

end

/-! ### A waiting join (R268) -/

section
variable {d : Dev} {port : Nat} {x : Ident} {src : Src} {p : Packet}

/-- The device as the checks of a join find it: the neighbour shown, and the fibre of the exchange noted. -/
def Dev.joinView (d : Dev) (port : Nat) (x : Ident) : Dev :=
  (d.neighbourShown port x).setKrk { (d.neighbourShown port x).krk with fibre := max (d.neighbourShown port x).krk.fibre x.fibre }

theorem Dev.identity_version (hc : d.krk.joinCmd = some (src, p)) {last : Bool} {k : Nat} (hv : x.kproto + 1 < k ∨ k + 1 < x.kproto) :
    d.identity port (some x) last k = (((d.joinView port x).joinFail (0, 0)).1, some (src, p, { status := sVERSION_REJECT })) := by
  have hb : (decide (x.kproto + 1 < k) || decide (k + 1 < x.kproto)) = true := by simpa using hv
  simp only [Dev.identity, d.neighbourShown_krk port x, hc, hb, if_true, Dev.joinView]

theorem Dev.identity_checked (hc : d.krk.joinCmd = some (src, p)) {last : Bool} {k : Nat} (h1 : x.kproto ≤ k + 1) (h2 : k ≤ x.kproto + 1) :
    d.identity port (some x) last k = match ((d.joinView port x).joinCheck port x).or (if x.code = 0 then none else some (x.code, x.chip)) with
      | some c => (((d.joinView port x).joinFail c).1, some (src, p, ((d.joinView port x).joinFail c).2))
      | none => if last then ((d.joinView port x).joinDone, some (src, p, { status := sOK, result := [BitVec.ofNat 8 (d.joinView port x).joinDone.mst] }))
        else (d.joinView port x, none) := by
  have hb : (decide (x.kproto + 1 < k) || decide (k + 1 < x.kproto)) = false := by
    simp only [Bool.or_eq_false_iff, decide_eq_false_iff_not]
    omega
  simp only [Dev.identity, d.neighbourShown_krk port x, hc, hb, Dev.joinView, Bool.false_eq_true, if_false] <;> rfl

theorem Dev.joinFail_spec (t : Dev) (c : Nat × Nat) : (t.joinFail c).1.isOn Reg.KRK_FLAG_JOINERR_F = true ∧ (t.joinFail c).1.krk.joined = t.krk.joined ∧
    (t.joinFail c).1.krk.joinCmd = none := by
  have hon : ((t.raise Reg.KRK_FLAG_JOINERR_F).setKrk { t.krk with joinCmd := none, fibre := 0 }).isOn Reg.KRK_FLAG_JOINERR_F = true :=
    t.isOn_raise_same Reg.KRK_FLAG_JOINERR_F (by decide) (by decide)
  refine forEach_keeps (fun u => u.isOn Reg.KRK_FLAG_JOINERR_F = true ∧ u.krk.joined = t.krk.joined ∧ u.krk.joinCmd = none) (List.range 4)
    (fun p u => u.set (Reg.KRK_PORTp_STAT_LINK p) 0) _ ⟨hon, rfl, rfl⟩ (fun q u hu => ⟨?_, hu.2⟩)
  have hkeep : RegsBut u (u.set (Reg.KRK_PORTp_STAT_LINK q) 0) [Reg.KRK_PORTp_STAT q] := (RegsBut.refl u _).set _ _ (List.mem_singleton.mpr rfl)
  rw [Dev.isOn_of_reg (hkeep Reg.KRK_FLAG_JOINERR_F.off (by simp only [Reg.KRK_FLAG_JOINERR_F, Reg.KRK_PORTp_STAT, List.mem_singleton]; omega))]
  exact hu.1

theorem Dev.joinFail_reply (t : Dev) (c : Nat × Nat) : (t.joinFail c).2 = { status := sBAD_PARAM, detail := c.1 + 256 * c.2 } := rfl

theorem Dev.member_spec (t : Dev) (m : Nat) (hm : m < 4) : (t.member m).mst = m ∧ (t.member m).krk = t.krk := by
  unfold Dev.member
  split
  next h => exact ⟨h, rfl⟩
  · refine ⟨?_, (congrArg Dev.krk (Dev.event_frame _ _)).trans rfl⟩
    have hkeep := (RegsBut.refl (t.set Reg.KRK_STAT_MST m) [Reg.HIF_EVT]).event Reg.HIF_EVT_MEMBER (by decide) Reg.KRK_STAT (by decide)
    rw [Dev.mst, Dev.get_of_reg (f := Reg.KRK_STAT_MST) hkeep, Dev.get_set_same _ _ _ (by decide) (by decide)]
    exact Nat.mod_eq_of_lt hm

theorem Dev.ownIndex_lt (t : Dev) : t.ownIndex < 512 := by
  have hbay : t.get Reg.KRK_ID_BAY < 2 ^ 5 := bits_lt _ _ _
  have hchip : t.get Reg.KRK_ID_CHIP < 2 ^ 4 := bits_lt _ _ _
  unfold Dev.ownIndex
  omega

theorem Dev.setReach_reach (t : Dev) (i : Nat) : (t.setReach i true).reach i = true := by
  unfold Dev.setReach Dev.reach
  exact t.isOn_setB_same _ _ true (Nat.mod_lt _ (by decide))

theorem Dev.setReach_reg (t : Dev) (i o : Nat) (ho : o < 0x3900) : (t.setReach i true).reg o = t.reg o :=
  ((RegsBut.refl t [0x3900 + 4 * (i / 32)]).setB ⟨0x3900 + 4 * (i / 32), i % 32, i % 32⟩ true (List.mem_singleton.mpr rfl)) o
    (fun hm => by
      have := List.mem_singleton.mp hm
      omega)

theorem Dev.joinDone_spec (t : Dev) : t.joinDone.krk.joined = true ∧ t.joinDone.mst = mJOINING ∧ t.joinDone.reach t.joinDone.ownIndex = true := by
  unfold Dev.joinDone
  extract_lets l s1 s2 s3 _ s4 role _ s5
  have h4 := Dev.member_spec (s3.setKrk { s3.krk with joined := true, joinCmd := none, hadSource := false }) mJOINING (by decide)
  have hown : (s5.setReach s5.ownIndex true).ownIndex = s5.ownIndex := Dev.ownIndex_eq (s5.setReach_reg _ _ (by decide))
  refine ⟨?_, ?_, ?_⟩
  · exact congrArg KrkSt.joined h4.2
  · rw [Dev.mst, Dev.get_of_reg (f := Reg.KRK_STAT_MST) (s5.setReach_reg _ _ (by decide))]
    exact h4.1
  · rw [hown]
    exact s5.setReach_reach _

end

end Sys2Proof.Machine
end

section
/-! PROOFS. Krekai: identity exchanges as commands, and O30. -/

set_option Elab.async false

namespace Sys2Proof.Machine

/-! ### An identity that arrives (R261, R268) -/

/-- The device as it takes an identity: one for every chip has gone on round its ring. -/
def Dev.identityView (d : Dev) (port dest : Nat) (x : Ident) : Dev := if dest = 512 then d.identityOn port x else d

section
variable (d : Dev) (port dest : Nat) (x : Ident)

theorem Dev.identityView_spec : (d.identityView port dest x).regs = d.regs ∧ Sent d (d.identityView port dest x) ∧
    (d.identityView port dest x).krk.joined = d.krk.joined ∧ (d.identityView port dest x).krk.joinCmd = d.krk.joinCmd ∧
    (d.identityView port dest x).krk.fibre = d.krk.fibre := by
  unfold Dev.identityView
  split
  · obtain ⟨hregs, hsent, hkrk⟩ := d.identityOn_spec port x
    exact ⟨hregs, hsent, (congrArg KrkSt.joined hkrk).trans rfl, (congrArg KrkSt.joinCmd hkrk).trans rfl, (congrArg KrkSt.fibre hkrk).trans rfl⟩
  · exact ⟨rfl, Sent.refl d, rfl, rfl, rfl⟩

theorem Dev.identityView_linkUp (q : Nat) : (d.identityView port dest x).linkUp q = d.linkUp q := by
  simp only [Dev.linkUp, Dev.get, Dev.reg_of_regs (d.identityView_spec port dest x).1]

theorem Dev.identityView_runkp : (d.identityView port dest x).get Reg.IMG_KPROTO_RUNKP = d.get Reg.IMG_KPROTO_RUNKP := by
  simp only [Dev.get, Dev.reg_of_regs (d.identityView_spec port dest x).1]

variable {d port dest x} (hl : d.linkUp port = true) {last : Bool}

/-- One without a peer’s fields is taken as it is. -/
theorem Dev.identityArrives_own (hc : d.krk.joinCmd = none) (ok : Bool) : d.identityArrives port dest ok none last = d := by
  simp only [Dev.identityArrives, Dev.identity, hc, Dev.complete]

include hl

theorem Dev.identityArrives_other (ho : dest ≠ d.ownIndex) (h5 : dest ≠ 512) :
    d.identityArrives port dest true (some x) last = d.passOn dest [(8, identBytes x)] := by
  simp only [Dev.identityArrives, Dev.blockIn_good _ _ _ hl, if_neg h5, if_neg ho]

theorem Dev.identityArrives_here (hd : dest = d.ownIndex ∨ dest = 512) (hj : d.krk.joined = true ∨ d.krk.joinCmd.isSome = true) :
    d.identityArrives port dest true (some x) last =
      ((d.identityView port dest x).identity port (some x) last (d.get Reg.IMG_KPROTO_RUNKP)).1.complete
        ((d.identityView port dest x).identity port (some x) last (d.get Reg.IMG_KPROTO_RUNKP)).2 := by
  have hb : (d.krk.joined || d.krk.joinCmd.isSome) = true := by simpa using hj
  rw [← d.identityView_runkp port dest x]
  simp only [Dev.identityArrives, Dev.blockIn_good _ _ _ hl, Dev.identityView]
  by_cases h5 : dest = 512
  · simp only [h5, if_true, hb]
  · simp only [h5, if_false, if_pos (hd.resolve_right h5)]

theorem Dev.identityArrives_stranger (hd : dest = d.ownIndex ∨ dest = 512) (hc : d.krk.joinCmd = none) (hj : d.krk.joined = false) :
    OnlySent (d.neighbourShown port x) (d.identityArrives port dest true (some x) last) := by
  have hb : (d.krk.joined || d.krk.joinCmd.isSome) = false := by simp [hc, hj]
  simp only [Dev.identityArrives, Dev.blockIn_good _ _ _ hl]
  by_cases h5 : dest = 512
  · simp only [h5, if_true, hb, Bool.false_eq_true, if_false]
    exact (OnlySent.refl _).krkForward _ _ _ _ _
  · simp only [h5, if_false, if_pos (hd.resolve_right h5), Dev.identity_unasked hc, Dev.exchanged, hj, Bool.false_eq_true, Dev.complete]
    exact OnlySent.refl _

end

/-! ### The statement -/

section
variable {s : State} (hs : s.live) {port dest : Nat} (hl : s.dev.linkUp port = true)
include hs hl

/-- An exchange without a waiting join. -/
theorem identity_exchanged (hd : dest = s.dev.ownIndex ∨ dest = 512) (hc : s.dev.krk.joinCmd = none) (x : Ident) (last : Bool) :
    ∃ d, Answers (.identityExchange port dest true (some x) last) s d ∧ RegsBut s.dev d [Reg.KRK_PORTp_STAT port] ∧
      (x.neighbour = true → d.get (Reg.KRK_PORTp_STAT_NEIGH port) = x.chip % 512) ∧
      (s.dev.krk.joined = true → ∃ b, OutMsg.krk port 8 x.chip b ∈ d.out) := by
  have ha := answers_identity hs port dest true (some x) last
  cases hj : s.dev.krk.joined with
  | false =>
    have hsent := Dev.identityArrives_stranger (d := s.start) (x := x) (last := last) hl hd hc hj
    refine ⟨_, ha, RegsBut.same (s.start.neighbourShown_regs port x) hsent.regs, fun hn => ?_, fun h => absurd h (by decide)⟩
    rw [Dev.get_of_reg (f := Reg.KRK_PORTp_STAT_NEIGH port) (Dev.reg_of_regs hsent.regs _)]
    exact s.start.neighbourShown_get port x hn hl
  | true =>
    obtain ⟨hregs, -, hjoined, hcmd, -⟩ := s.start.identityView_spec port dest x
    rw [Dev.identityArrives_here (d := s.start) hl hd (.inl hj), Dev.identity_unasked (hcmd.trans hc)] at ha
    obtain ⟨hr, hn, ho⟩ := Dev.exchanged_spec (x := x) ((s.start.identityView_linkUp port dest x port).trans hl)
    have hstart : RegsBut s.dev (s.start.identityView port dest x) [Reg.KRK_PORTp_STAT port] := fun o _ => Dev.reg_of_regs hregs o
    exact ⟨_, ha, hstart.trans hr, hn, fun _ => ho (hjoined.trans hj)⟩

/-- What a waiting join makes of an exchange whose versions agree, and of one whose versions do not. -/
theorem identity_joins (hd : dest = s.dev.ownIndex ∨ dest = 512) {src : Src} {p : Packet} {x : Ident} {t : Dev} {last : Bool}
    (hc : s.dev.krk.joinCmd = some (src, p)) (ht : t = (s.start.identityView port dest x).joinView port x) :
    ((x.kproto + 1 < s.dev.get Reg.IMG_KPROTO_RUNKP ∨ s.dev.get Reg.IMG_KPROTO_RUNKP + 1 < x.kproto) →
      Answers (.identityExchange port dest true (some x) last) s ((t.joinFail (0, 0)).1.complete (some (src, p, { status := sVERSION_REJECT })))) ∧
    (x.kproto ≤ s.dev.get Reg.IMG_KPROTO_RUNKP + 1 → s.dev.get Reg.IMG_KPROTO_RUNKP ≤ x.kproto + 1 →
      (∀ c, (t.joinCheck port x = some c ∨ (t.joinCheck port x = none ∧ x.code ≠ 0 ∧ c = (x.code, x.chip))) →
        Answers (.identityExchange port dest true (some x) last) s
          ((t.joinFail c).1.complete (some (src, p, { status := sBAD_PARAM, detail := c.1 + 256 * c.2 })))) ∧
      (t.joinCheck port x = none → x.code = 0 → last = true → Answers (.identityExchange port dest true (some x) last) s
        (t.joinDone.complete (some (src, p, { status := sOK, result := [BitVec.ofNat 8 t.joinDone.mst] }))))) := by
  subst ht
  obtain ⟨-, -, -, hcmd, -⟩ := s.start.identityView_spec port dest x
  have hcmd' := hcmd.trans hc
  have ha := answers_identity hs port dest true (some x) last
  rw [Dev.identityArrives_here (d := s.start) hl hd (.inr (by rw [show s.start.krk = s.dev.krk from rfl, hc]; rfl)),
    show s.start.get Reg.IMG_KPROTO_RUNKP = s.dev.get Reg.IMG_KPROTO_RUNKP from rfl] at ha
  refine ⟨fun hv => ?_, fun h1 h2 => ⟨fun c hbad => ?_, fun hgood h0 hlast => ?_⟩⟩
  · rwa [Dev.identity_version hcmd' hv] at ha
  · rw [Dev.identity_checked hcmd' h1 h2] at ha
    rcases hbad with hbad | ⟨hgood, hcode, rfl⟩
    · simp only [hbad, Option.some_or, Dev.joinFail_reply] at ha
      exact ha
    · simp only [hgood, if_neg hcode, Option.none_or, Dev.joinFail_reply] at ha
      exact ha
  · rw [Dev.identity_checked hcmd' h1 h2] at ha
    subst hlast
    simp only [hgood, if_pos h0, Option.none_or, if_true] at ha
    exact ha

end

/-- Settles O30: each command is the block that arrives on its port; the link, the check, the credits and the chip it is for decide in that order
what becomes of it. -/
theorem forwardedPacketsAndJoin : Obligations.ForwardedPacketsAndJoin := by
  unfold Obligations.ForwardedPacketsAndJoin
  intro s hs pool hpool
  subst hpool
  refine ⟨?_, ?_, ?_, ?_, ?_, ?_⟩
  · intro port dest origin txn p data commitN chip st dt res x last
    have harrive : ∀ ok, ∀ i ∈ [Instr.stationPacket port dest origin txn ok p data, .prepare port dest origin txn ok p commitN data,
        .stationReply port dest txn ok chip st dt res data, .identityExchange port dest ok (some x) last, .go port dest origin txn ok,
        .abort port dest origin txn ok], ArrivesOn port ok i := by
      intro ok i hi
      simp only [List.mem_cons, List.not_mem_nil, or_false] at hi
      rcases hi with rfl | rfl | rfl | rfl | rfl | rfl <;> constructor
    exact ⟨fun hl ok i hi => (harrive ok i hi).down hs port hl, fun hl i hi => (harrive false i hi).bad hs port hl⟩
  · intro port hl data hc dest origin txn p commitN chip st dt res i hi
    rw [granules_eq] at hc
    simp only [List.mem_cons, List.not_mem_nil, or_false] at hi
    rcases hi with rfl | rfl | rfl
    · exact ⟨_, answers_packet hs port dest origin txn true p data, Dev.messageIn_discarded (d := s.start) hl hc⟩
    · exact ⟨_, answers_prepare hs port dest origin txn true p commitN data, Dev.messageIn_discarded (d := s.start) hl hc⟩
    · exact ⟨_, answers_reply hs port dest txn true ⟨chip, st, dt, res⟩ data, Dev.messageIn_discarded (d := s.start) hl hc⟩
  · intro port hl data hc dest origin txn p commitN a
    rw [granules_eq] at hc
    refine ⟨fun ho i hi => ?_, fun ho i hi => ⟨fun hj => ?_, fun hj hw => ?_⟩⟩
    all_goals
      simp only [List.mem_cons, List.not_mem_nil, or_false] at hi
      rcases hi with rfl | rfl | rfl
    · obtain ⟨hr, hk, hh, hm⟩ := Dev.messageIn_passed (d := s.start) (out := [(3, packetBytes origin txn none p data)])
        (msg := .packet origin txn p data) hl hc ho
      exact ⟨_, answers_packet hs port dest origin txn true p data, hr, hk, hh, fun hup => hm hup _ (List.mem_singleton.mpr rfl)⟩
    · obtain ⟨hr, hk, hh, hm⟩ := Dev.messageIn_passed (d := s.start) (out := [(4, packetBytes origin txn (some commitN) p data)])
        (msg := .prepare origin txn p commitN data) hl hc ho
      exact ⟨_, answers_prepare hs port dest origin txn true p commitN data, hr, hk, hh, fun hup => hm hup _ (List.mem_singleton.mpr rfl)⟩
    · obtain ⟨hr, hk, hh, hm⟩ := Dev.messageIn_passed (d := s.start) (out := (if data.isEmpty then [] else [(7, data)]) ++ [(6, a.bytes txn)])
        (msg := .reply txn a data) hl hc ho
      exact ⟨_, answers_reply hs port dest txn true a data, hr, hk, hh, fun hup => hm hup _ (List.mem_append_right _ (List.mem_singleton.mpr rfl))⟩
    · exact ⟨_, answers_packet hs port dest origin txn true p data, Dev.messageIn_dropped (d := s.start) hl hc ho hj⟩
    · exact ⟨_, answers_prepare hs port dest origin txn true p commitN data, Dev.messageIn_dropped (d := s.start) hl hc ho hj⟩
    · exact ⟨_, answers_reply hs port dest txn true a data, Dev.messageIn_dropped (d := s.start) hl hc ho hj⟩
    · obtain ⟨h, hwait⟩ := Dev.messageIn_waits (d := s.start) hl hc ho hj hw
      exact ⟨_, h, answers_packet hs port dest origin txn true p data, hwait⟩
    · obtain ⟨h, hwait⟩ := Dev.messageIn_waits (d := s.start) hl hc ho hj hw
      exact ⟨_, h, answers_prepare hs port dest origin txn true p commitN data, hwait⟩
    · obtain ⟨h, hwait⟩ := Dev.messageIn_waits (d := s.start) hl hc ho hj hw
      exact ⟨_, h, answers_reply hs port dest txn true a data, hwait⟩
  · intro port dest hl ho hj hf hi data n hn hc h t hp
    rw [granules_eq] at hn
    subst hn
    have hprep := fun origin txn p commitN => prepare_taken (origin := origin) (txn := txn) (p := p) (commitN := commitN) hs hl ho hj hf hi hc hp
    obtain ⟨u, hu⟩ := Dev.portData_some_frame hp
    refine ⟨?_, ?_, ?_, ?_, ?_⟩
    · intro origin txn p w e row r x hrow hb hr
      exact packet_taken hs hl ho hj hf hi hc hp hrow hb hr
    · intro origin txn p commitN hrow
      have ha := hprep origin txn p commitN
      rwa [Dev.prepare_badOpcode t hrow] at ha
    · intro origin txn p commitN row c hrow hor hcheck hok hbuf
      subst hcheck
      rw [Dev.prepCheck_ok hok] at hbuf
      exact ⟨_, hprep origin txn p commitN, t.prepare_listed hrow (by rw [hu]; exact hor) hok hbuf⟩
    · intro txn chip st dt res hd hnone
      obtain ⟨hr, hk, -⟩ := Dev.reply_freed hp
      have ha := reply_taken hs hl ho hj hf hi hc hp (txn := txn) ⟨chip, st, dt, res⟩
      rw [Dev.replyTaken_none _ _ (by rw [hk]; exact hnone)] at ha
      exact ⟨_, ha, hr⟩
    · intro txn chip st dt res x hd hsome htarget hphase hco hfirst
      obtain ⟨hr, hk, hcur⟩ := Dev.reply_freed hp
      have ha := reply_taken hs hl ho hj hf hi hc hp (txn := txn) ⟨chip, st, dt, res⟩
      subst hd
      obtain ⟨hregs, hentered, hlate⟩ := Dev.replyTaken_first (t := t.freeHold h) (a := ⟨chip, st, dt, res⟩) (by rw [hk]; exact hsome) htarget hphase hco hfirst
      rw [hcur, hk] at hlate
      rw [hcur] at hentered
      exact ⟨_, ha, hr.same hregs, hentered, hlate⟩
  · intro port dest x last hl ho h5
    have ha := answers_identity hs port dest true (some x) last
    rw [Dev.identityArrives_other (d := s.start) hl ho h5] at ha
    have hsent := s.start.passOn_sent dest [(8, identBytes x)]
    exact ⟨_, ha, hsent.regs, hsent.krk, fun hup => Dev.passOn_mem (d := s.start) hup (List.mem_singleton.mpr rfl)⟩
  · intro port dest hl hd ok last
    refine ⟨fun hc => ⟨?_, fun x => identity_exchanged hs hl hd hc x last⟩, ?_⟩
    · have ha := answers_identity hs port dest ok none last
      rwa [Dev.identityArrives_own (d := s.start) hc] at ha
    · intro src p x b t hc hb ht
      have hview : t = (s.start.identityView port dest x).joinView port x := by
        have hfibre : b.krk.fibre = s.dev.krk.fibre := by
          rw [hb, Dev.neighbourShown_krk]
          exact (s.start.identityView_spec port dest x).2.2.2.2
        rw [ht, ← hfibre, hb]
        rfl
      have hjoined : t.krk.joined = s.dev.krk.joined := by
        rw [hview]
        exact (congrArg KrkSt.joined (Dev.neighbourShown_krk _ port x)).trans (s.start.identityView_spec port dest x).2.2.1
      have hfail : ∀ c, (t.joinFail c).1.isOn Reg.KRK_FLAG_JOINERR_F = true ∧ (t.joinFail c).1.krk.joined = s.dev.krk.joined ∧
          (t.joinFail c).1.krk.joinCmd = none := fun c => hjoined ▸ t.joinFail_spec c
      obtain ⟨hversion, hagree⟩ := identity_joins (last := last) hs hl hd hc hview
      refine ⟨fun hv => ?_, fun h1 h2 => ⟨fun c hbad => ?_, fun hgood h0 => ?_⟩⟩
      · obtain ⟨hon, hjn, hcmd⟩ := hfail (0, 0)
        exact ⟨_, hon, hjn, hcmd, hversion hv⟩
      · obtain ⟨hon, hjn, hcmd⟩ := hfail c
        exact ⟨_, hon, hjn, hcmd, (hagree h1 h2).1 c hbad⟩
      · obtain ⟨hin, hmst, hreach⟩ := t.joinDone_spec
        have hok := ((identity_joins (last := true) hs hl hd hc hview).2 h1 h2).2 hgood h0 rfl
        rw [hmst] at hok
        exact ⟨_, hin, hmst, hreach, hok⟩

end Sys2Proof.Machine
end

section
/-! PROOFS. A request of the chip for a lane of a ring (R25, R28): the round robin comes to it, and what passes before and after is what a wait leaves. -/

set_option Elab.async false

namespace Sys2Proof.Machine

/-! ### The turns of the round robin (R28) -/

/-- The number of users served before `u` when `p` was served last and all ask. -/
def turn (u p : Nat) : Nat := (u + 99 - p % 100) % 100

theorem turn_lt (u p : Nat) : turn u p < 100 := Nat.mod_lt _ (by omega)

theorem turn_spec {u : Nat} (hu : u < 100) (p : Nat) : (p + 1 + turn u p) % 100 = u := by
  unfold turn
  omega

theorem turn_earlier {u k p : Nat} (hu : u < 100) (hk : k < turn u p) : turn u ((p + 1 + k) % 100) < turn u p := by
  unfold turn at *
  omega

/-! ### What the rules of the pool keep of its clock -/

/-- The pool’s clock, what it has served and who was served last are as they were. -/
def SameTurn (d e : Dev) : Prop := e.clocks = d.clocks ∧ e.pool = { d.pool with users := e.pool.users }

theorem Dev.poolPut_turn (d : Dev) (u : Nat) (p : PoolUser) : SameTurn d (d.poolPut u p) :=
  ⟨(congrArg Dev.clocks (d.poolPut_frame u p)).trans rfl, by rw [d.poolPut_pool u p]⟩

theorem Dev.grantOne_turn {d t : Dev} {u : Nat} (h : d.grantOne u = some t) : SameTurn d t := by
  rcases Dev.grantOne_cases h with ⟨-, rfl⟩ | ⟨-, rfl⟩ | ⟨-, rfl⟩
  · exact d.poolPut_turn _ _
  · exact d.poolPut_turn _ _
  · exact d.poolPut_turn _ _

theorem Dev.standing_turn {d t : Dev} {u : Nat} (h : d.standing u = some t) : SameTurn d t := by
  unfold Dev.standing at h
  split at h
  · cases h
  · split at h
    · split at h
      · exact Dev.grantOne_turn h
      · cases h
    · split at h
      · obtain ⟨x, hx, rfl⟩ := Option.map_eq_some_iff.mp h
        obtain ⟨-, -, -, -, he⟩ := d.allocN_spec hx
        rw [Dev.setGrant, he]
        exact d.poolPut_turn _ _
      · cases h

theorem Dev.standing_ge {d t : Dev} {u : Nat} (h : d.standing u = some t) : 32 ≤ u := by
  unfold Dev.standing at h
  split at h
  · cases h
  · omega

theorem Dev.poolClk_clk (d : Dev) : d.poolClk.pool.clk = d.clocks ∧ d.poolClk.clocks = d.clocks ∧ d.poolClk.pool.ptr = d.pool.ptr := by
  unfold Dev.poolClk
  split
  · next h => exact ⟨h, rfl, rfl⟩
  · exact ⟨rfl, rfl, rfl⟩

/-- Frees served leave who was served last, and a clock of the pool is the chip’s. -/
theorem Dev.freesServed_turn (d : Dev) (n : Nat) : (d.freesServed n).clocks = d.clocks ∧ (d.freesServed n).pool.ptr = d.pool.ptr ∧
    (d.freesServed n).pool.clk = d.poolClk.pool.clk ∧ (d.freesServed n).pool.served = d.poolClk.pool.served := by
  unfold Dev.freesServed
  refine forEach_keeps (fun t => t.clocks = d.clocks ∧ t.pool.ptr = d.pool.ptr ∧ t.pool.clk = d.poolClk.pool.clk ∧ t.pool.served = d.poolClk.pool.served)
    _ _ _ ⟨d.poolClk_clk.2.1, d.poolClk_clk.2.2, rfl, rfl⟩ (fun x t ht => ?_)
  obtain ⟨hc, hp⟩ := t.poolPut_turn x.user ((t.user x.user).less x |>.halfRule x.user)
  rw [← Dev.giveBack_eq] at hc hp
  rw [hc, hp]
  exact ht

theorem Dev.poolClk_served (d : Dev) : d.poolClk.pool.served = if d.pool.clk = d.clocks then d.pool.served else 0 := by
  unfold Dev.poolClk
  split <;> rfl

theorem Dev.poolClk_fresh {d : Dev} (h : d.pool.clk ≠ d.clocks) : d.poolClk.pool.served = 0 := by rw [d.poolClk_served, if_neg h]

theorem Dev.poolClk_idem {d : Dev} (h : d.pool.clk = d.clocks) : d.poolClk = d := by
  unfold Dev.poolClk
  rw [if_pos h]

theorem Dev.refPass_turn (d : Dev) (k : Nat) : (d.refPass k).clocks = d.clocks ∧ (d.refPass k).pool = d.pool := by
  unfold Dev.refPass
  split
  · exact ⟨rfl, rfl⟩
  · dsimp only
    split
    · exact ⟨rfl, rfl⟩
    · exact ⟨rfl, rfl⟩

theorem Dev.adcPass_turn (d : Dev) (clk : Nat) (at_ : Nat → Nat) : (d.adcPass clk at_).clocks = d.clocks ∧ (d.adcPass clk at_).pool = d.pool := by
  obtain ⟨he, -⟩ := (Converts.refl d).adcPass clk at_
  exact ⟨(congrArg Dev.clocks he).trans rfl, (congrArg Dev.pool he).trans rfl⟩

/-- On the next clock nobody has been served yet, and who was served last stands. -/
theorem Dev.clocksPass_turn {d : Dev} (h : d.pool.clk = d.clocks) :
    (d.clocksPass 1).poolClk.pool.served = 0 ∧ (d.clocksPass 1).pool.ptr = d.pool.ptr := by
  unfold Dev.clocksPass
  extract_lets _ s1 s2 s3 s4 s5 s6 s7
  have hs2 : s2.clocks = d.clocks ∧ s2.pool = d.pool := by
    obtain ⟨hc, hp⟩ := Dev.refPass_turn (s1.slewed (s1.slewIn 1)) (s1.refCycles 1)
    obtain ⟨hc1, hp1⟩ := d.adcPass_turn (d.clocks + 1) (fun k => d.counterIn (k - d.clocks) % 2 ^ 64)
    exact ⟨hc.trans hc1, hp.trans hp1⟩
  clear_value s2
  have hs4 : s4.clocks = d.clocks + 1 ∧ s4.pool = d.pool := ⟨congrArg (· + 1) hs2.1, hs2.2⟩
  have hs6 : s6.clocks = d.clocks + 1 ∧ s6.pool = d.pool := by
    unfold s6 s5
    split <;> split <;> exact hs4
  clear_value s6
  have hlate : s6.pool.clk ≠ s6.clocks := by
    rw [hs6.1, hs6.2, h]
    omega
  have hs7 : s7.poolClk.pool.served = 0 ∧ s7.pool.ptr = d.pool.ptr := by
    unfold s7
    split
    · exact ⟨Dev.poolClk_fresh hlate, congrArg PoolSt.ptr hs6.2⟩
    · obtain ⟨hc, hp, hk, hv⟩ := s6.freesServed_turn 1
      have hsame : (s6.freesServed 1).pool.clk = (s6.freesServed 1).clocks := by rw [hk, hc, s6.poolClk_clk.1]
      rw [Dev.poolClk_idem hsame]
      exact ⟨hv.trans (Dev.poolClk_fresh hlate), hp.trans (congrArg PoolSt.ptr hs6.2)⟩
  rw [Dev.poolClk_served] at hs7 ⊢
  exact hs7

/-! ### One request of a lane of a ring -/

/-- The request of user `u` that is always granted and does `g`. -/
def laneRequest (u : Nat) (g : Dev → Dev) : Request Unit := (u, fun t => some ((), g t))

/-- `e` comes from `d` by `g` for user `u`, with what a wait leaves before and after it. -/
def Granted (u : Nat) (g : Dev → Dev) (d e : Dev) : Prop := ∃ t, Waits d t ∧ Waits ((g t).servedOne u) e

section
variable {u : Nat} (hu : u < 32) (g : Dev → Dev)
include hu

/-- One that is served is `u`’s request, or one that stands, of a user whose turn comes before that of `u`. -/
theorem Dev.serveNext_lane (d : Dev) : d.serveNext [laneRequest u g] = some (some (u, ()), (g d).servedOne u) ∨
    ∃ t, d.serveNext [laneRequest u g] = some (none, t) ∧ Waits d t ∧ turn u t.pool.ptr < turn u d.pool.ptr ∧
      t.clocks = d.clocks ∧ t.pool.clk = d.pool.clk := by
  have hown : ∀ v, (([laneRequest u g].find? (fun r => r.1 == v)).bind (fun r => r.2 d)) = if u = v then some ((), g d) else none := by
    intro v
    by_cases hv : u = v
    · simp [laneRequest, hv]
    · simp [laneRequest, hv]
  have hmem : u ∈ d.standingUsers ++ [laneRequest u g].map (·.1) := by simp [laneRequest]
  unfold Dev.serveNext
  simp only [hown]
  rw [rrOrder_split d.pool.ptr (turn_lt u d.pool.ptr), turn_spec (by omega), List.filter_append, List.findSome?_append,
    List.filter_cons_of_pos (by simpa using hmem), List.findSome?_cons]
  simp only [if_true]
  cases hb : List.findSome? _ _ with
  | none => exact .inl rfl
  | some x =>
    refine .inr ?_
    obtain ⟨v, hv, hx⟩ := List.exists_of_findSome?_eq_some hb
    obtain ⟨k, hk, hkv⟩ := List.mem_map.mp (List.mem_filter.mp hv).1
    have hearly : turn u v < turn u d.pool.ptr := hkv ▸ turn_earlier (by omega) (List.mem_range.mp hk)
    have hne : u ≠ v := by
      rintro rfl
      have hlt := List.mem_range.mp hk
      have hlate := turn_lt u d.pool.ptr
      have hspec := turn_spec (u := u) (by omega) d.pool.ptr
      omega
    rw [if_neg hne] at hx
    obtain ⟨t, ht, rfl⟩ := Option.map_eq_some_iff.mp hx
    obtain ⟨hc, hp⟩ := Dev.standing_turn ht
    exact ⟨_, rfl, ((Waits.refl d).standing ht).servedOne v, hearly, hc, (congrArg PoolSt.clk hp).trans rfl⟩

/-- On one clock `u` is served, or `n` others are. -/
theorem Dev.serve_lane (n : Nat) (d : Dev) :
    ((d.serve [laneRequest u g] n).1.any (fun x => x.1 == u) = true ∧ Granted u g d (d.serve [laneRequest u g] n).2) ∨
    ∃ e, d.serve [laneRequest u g] n = ([], e) ∧ Waits d e ∧ turn u e.pool.ptr + n ≤ turn u d.pool.ptr ∧
      e.clocks = d.clocks ∧ e.pool.clk = d.pool.clk := by
  induction n generalizing d with
  | zero => exact .inr ⟨d, rfl, Waits.refl d, Nat.le_refl _, rfl, rfl⟩
  | succ n ih =>
    rcases d.serveNext_lane hu g with hs | ⟨t, hs, hw, hlt, hc, hk⟩
    · refine .inl ?_
      simp only [Dev.serve, hs]
      refine ⟨by simp, d, Waits.refl d, (Waits.refl _).serve _ _ (fun r hr => ?_)⟩
      simp [laneRequest] at hr
    · have hall : [laneRequest u g].filter (fun o => some o.1 != (none : Option (Nat × Unit)).map (·.1)) = [laneRequest u g] := by simp
      simp only [Dev.serve, hs, hall, Option.toList_none, List.nil_append]
      rcases ih t with ⟨hany, x, hx, hy⟩ | ⟨e, he, hw', hlt', hc', hk'⟩
      · exact .inl ⟨hany, x, hw.trans hx, hy⟩
      · exact .inr ⟨e, by rw [he], hw.trans hw', by omega, hc'.trans hc, hk'.trans hk⟩

/-- A clock that does not serve `u` leaves the request to the clocks after it. -/
theorem Dev.serveOwn_lane (k : Nat) (d : Dev) : Granted u g d (d.serveOwn [laneRequest u g] (k + 1)).2 ∨
    ∃ e, (d.serveOwn [laneRequest u g] (k + 1)).2 = (e.serveOwn [laneRequest u g] k).2 ∧ Waits d e ∧
      turn u e.pool.ptr + (4 - d.poolClk.pool.served) ≤ turn u d.pool.ptr ∧ e.poolClk.pool.served = 0 := by
  obtain ⟨hk, hc, hp⟩ := d.poolClk_clk
  have hwc : Waits d d.poolClk := (Waits.refl d).poolClk
  rw [Dev.serveOwn, if_neg (by simp)]
  dsimp only
  unfold Dev.serveClock
  dsimp only
  rcases d.poolClk.serve_lane hu g (4 - d.poolClk.pool.served) with ⟨hany, x, hx, hy⟩ | ⟨e, he, hw, hlt, hec, hek⟩
  · refine .inl ?_
    rw [show [laneRequest u g].filter _ = [] by simpa [laneRequest] using hany]
    exact ⟨x, hwc.trans hx, hy⟩
  · refine .inr ⟨e.clocksPass 1, ?_, (hwc.trans hw).clocksPass 1, ?_⟩
    · rw [he]
      rfl
    · obtain ⟨hserved, hptr⟩ := Dev.clocksPass_turn (d := e) (by rw [hek, hec, hk, hc])
      rw [hp] at hlt
      rw [hptr]
      exact ⟨by omega, hserved⟩

/-- A fresh clock and those after it serve `u` as soon as four per clock reach its turn. -/
theorem Dev.serveOwn_fresh (k : Nat) (d : Dev) (h0 : d.poolClk.pool.served = 0) (hk : turn u d.pool.ptr < 4 * k) :
    Granted u g d (d.serveOwn [laneRequest u g] k).2 := by
  induction k generalizing d with
  | zero => omega
  | succ k ih =>
    rcases d.serveOwn_lane hu g k with h | ⟨e, he, hw, hlt, h0'⟩
    · exact h
    · rw [he]
      obtain ⟨t, ht, hg⟩ := ih e h0' (by omega)
      exact ⟨t, hw.trans ht, hg⟩

/-- The request is granted. -/
theorem Dev.serveUsers_lane (d : Dev) : Granted u g d (d.serveUsers [u] (fun _ t => some (g t))) := by
  change Granted u g d (d.serveOwn [laneRequest u g] (51 + 1)).2
  rcases d.serveOwn_lane hu g 51 with h | ⟨e, he, hw, -, h0⟩
  · exact h
  · rw [he]
    have hlt := turn_lt u e.pool.ptr
    obtain ⟨t, ht, hg⟩ := e.serveOwn_fresh hu g 51 h0 (by omega)
    exact ⟨t, hw.trans ht, hg⟩

end

end Sys2Proof.Machine
end

section
/-! PROOFS. What an overrun and a trip latch leave (R62, R288, R292): the pool and the cells, every register of the rings, and each latch that is set. -/

set_option Elab.async false

namespace Sys2Proof.Machine

/-! ### The pool and the cells -/

/-- The pool and the samples of the cells. -/
def Dev.holding (s : Dev) : PoolSt × CellsSt := (s.pool, s.cells)

theorem forEach_holding {α : Type} (l : List α) (f : α → Dev → Dev) (t : Dev) (h : ∀ a t, (f a t).holding = t.holding) :
    (forEach l f t).holding = t.holding :=
  forEach_keeps (fun u => u.holding = t.holding) l f t rfl (fun a u hu => (h a u).trans hu)

theorem onlyIf_holding (c : Bool) (f : Dev → Dev) (s : Dev) (h : (f s).holding = s.holding) : (onlyIf c f s).holding = s.holding := by
  cases c
  · rfl
  · exact h

theorem Dev.framLog_holding (s : Dev) (r : LogRec) : (s.framLog r).holding = s.holding := by
  unfold Dev.framLog
  cases s.framLogFull <;> rfl

theorem Dev.framLogged_holding (s : Dev) (r : LogRec) (next : Dev → LogRec × Dev) (hn : ∀ t, (next t).2.holding = t.holding) :
    (s.framLogged r next).holding = s.holding := by
  unfold Dev.framLogged
  dsimp only
  split
  · rw [Dev.framLog_holding, hn, Dev.framLog_holding]
  · rw [Dev.framLog_holding]

theorem Dev.logAt_holding (s : Dev) (a b c e f : Nat) (g : Bool) : (s.logAt a b c e f g).holding = s.holding := by
  unfold Dev.logAt
  dsimp only
  split
  · rw [Dev.framLogged_holding _ _ _ (fun _ => rfl)]
    rfl
  · rfl

theorem Dev.event_holding (s : Dev) (f : Fld) : (s.event f).holding = s.holding := (congrArg Dev.holding (s.event_frame f)).trans rfl

theorem Dev.enter_holding (s : Dev) (n c : Nat) : (s.enter n c).holding = s.holding := by
  unfold Dev.enter
  dsimp only
  split
  · rfl
  · exact (Dev.logAt_holding _ _ _ _ _ _ _).trans (Dev.event_holding _ _)

theorem Dev.hbOut_holding (s : Dev) (n stamp out : Nat) : (s.hbOut n stamp out).holding = s.holding := by
  unfold Dev.hbOut
  dsimp only
  split
  · rfl
  · rfl

theorem Dev.hbSafe_holding (s : Dev) (n stamp : Nat) : (s.hbSafe n stamp).holding = s.holding := by
  unfold Dev.hbSafe
  dsimp only
  split
  · exact s.hbOut_holding n stamp 0
  · split
    · rfl
    · exact s.hbOut_holding n stamp 3

theorem Dev.hbFault_holding (s : Dev) (stamp n : Nat) : (s.hbFault stamp n).holding = s.holding := by
  unfold Dev.hbFault
  dsimp only
  split
  · rfl
  · exact Dev.hbSafe_holding _ _ _

theorem Dev.hbTripAll_holding (s : Dev) (stamp : Nat) : (s.hbTripAll stamp).holding = s.holding :=
  forEach_holding _ _ _ (fun n t => t.hbFault_holding stamp n)

theorem Dev.withSnp_holding (s : Dev) (x : SnpSt) : ({ s with snp := x } : Dev).holding = s.holding := rfl

theorem Dev.set_holding (s : Dev) (f : Fld) (v : Nat) : (s.set f v).holding = s.holding := rfl
theorem Dev.count_holding (s : Dev) (f : Fld) (n : Nat) : (s.count f n).holding = s.holding := rfl

theorem Dev.freeze_holding (s : Dev) (k src stamp detail : Nat) (img : TickImg) (r : Bool) :
    (s.freeze k src stamp detail img r).holding = s.holding := by
  simp only [Dev.freeze, Dev.askedBuf, Dev.withSnp_holding, Dev.logAt_holding, Dev.count_holding, Dev.set_holding]

theorem Dev.mergeTrig_holding (s : Dev) (k seq src detail : Nat) : (s.mergeTrig k seq src detail).holding = s.holding := by
  unfold Dev.mergeTrig
  split <;> rfl

theorem Dev.snapTrigger_holding (s : Dev) (src stamp detail : Nat) : (s.snapTrigger src stamp detail).2.holding = s.holding := by
  unfold Dev.snapTrigger Dev.snapInto
  split
  · rfl
  · split
    · exact s.mergeTrig_holding _ _ _ _
    · split
      · rfl
      · exact s.freeze_holding _ _ _ _ _ _

theorem Dev.thkAll_holding (s : Dev) (b : Nat) : (s.thkAll b).holding = s.holding :=
  forEach_holding _ _ _ (fun a t => by split <;> rfl)

/-! ### The latch -/

/-- The registers a trip touches, the latches themselves apart. -/
def reportRegs : List Nat := [Reg.PRT_FLAG, Reg.PRT_FIRST, Reg.PRT_FSTAMP_LO, Reg.PRT_FSTAMP_HI, Reg.PRT_CNT, Reg.PRT_STAT, Reg.HIF_EVT, Reg.HIF_STAT] ++
  hbStatRegs ++ snapRegs

/-- The registers a trip touches. -/
def tripRegs : List Nat := Reg.PRT_LAT_LO :: Reg.PRT_LAT_HI :: reportRegs

/-- What a trip leaves of `d`. -/
structure Trips (d e : Dev) : Prop where
  /-- Its own registers alone change. -/
  regs : RegsBut d e tripRegs
  /-- The pool and the cells are as they were. -/
  holding : e.holding = d.holding
  /-- No latch is lost. -/
  lat : ∀ c, d.isOn (latF c) = true → e.isOn (latF c) = true

theorem Trips.refl (d : Dev) : Trips d d := ⟨RegsBut.refl d _, rfl, fun _ => id⟩

theorem Trips.trans {d e f : Dev} (h : Trips d e) (g : Trips e f) : Trips d f :=
  ⟨h.regs.trans g.regs, g.holding.trans h.holding, fun c => g.lat c ∘ h.lat c⟩

theorem latF_off (c : Nat) : (latF c).off = Reg.PRT_LAT_LO ∨ (latF c).off = Reg.PRT_LAT_HI := by
  simp only [latF, prtBit]
  split
  · exact .inl rfl
  · exact .inr rfl

theorem latF_valid (c : Nat) : (latF c).lo = (latF c).hi ∧ (latF c).hi < 32 := ⟨rfl, Nat.mod_lt _ (by omega)⟩

theorem latF_not_reported (c : Nat) : (latF c).off ∉ reportRegs := by
  rcases latF_off c with h | h <;> rw [h] <;> decide

/-- What touches no latch. -/
theorem trips_of {d e : Dev} {l : List Nat} (h : RegsBut d e l) (hl : ∀ o ∈ l, o ∈ reportRegs) (hh : e.holding = d.holding) : Trips d e where
  regs := h.mono (fun o ho => List.mem_cons_of_mem _ (List.mem_cons_of_mem _ (hl o ho)))
  holding := hh
  lat c hc := (Dev.isOn_of_reg (h _ (fun hm => latF_not_reported c (hl _ hm)))).trans hc

section
variable {d e : Dev} (h : Trips d e)
include h

theorem Trips.to {f : Dev} {l : List Nat} (g : RegsBut e f l) (hl : ∀ o ∈ l, o ∈ reportRegs) (hh : f.holding = e.holding) : Trips d f :=
  h.trans (trips_of g hl hh)

theorem Trips.onlyIf (c : Bool) (f : Dev → Dev) (hf : ∀ t, Trips d t → Trips d (f t)) : Trips d (onlyIf c f e) := onlyIf_keeps (Trips d) c f e h hf

theorem Trips.firstIs (low stamp : Nat) : Trips d (e.firstIs low stamp) :=
  h.to (l := [Reg.PRT_FIRST, Reg.PRT_FSTAMP_LO, Reg.PRT_FSTAMP_HI])
    (((RegsBut.refl e _).set Reg.PRT_FIRST_CODE low (by decide)).setPair _ _ _ (by decide) (by decide)) (by decide) rfl

theorem Trips.snapDetail (c : Nat) : Trips d (e.snapDetail c) := by
  unfold Dev.snapDetail
  (repeat' split) <;> exact ⟨h.regs, h.holding, h.lat⟩

theorem Trips.firstNote (b : Bool) (low stamp : Nat) : Trips d (e.firstNote b low stamp) := by
  unfold Dev.firstNote
  split
  · have hv : Trips d (e.setB Reg.PRT_FIRST_VALID true) :=
      h.to ((RegsBut.refl e [Reg.PRT_FIRST]).setB Reg.PRT_FIRST_VALID true (by decide)) (by decide) rfl
    have hf := hv.firstIs low stamp
    exact ⟨hf.regs, hf.holding, hf.lat⟩
  · split
    · exact (h.firstIs low stamp).snapDetail low
    · exact h

theorem Trips.tripEvent : Trips d e.tripEvent := by
  unfold Dev.tripEvent
  split
  · exact ⟨h.regs, h.holding, h.lat⟩
  · exact h.to ((RegsBut.refl e [Reg.HIF_EVT]).event Reg.HIF_EVT_TRIP (by decide)) (by decide) (e.event_holding _)

theorem Trips.thkAll (b : Nat) : Trips d (e.thkAll b) :=
  h.to (l := []) (fun o _ => Dev.reg_of_regs (e.thkAll_regs b) o) (by simp) (e.thkAll_holding b)

theorem Trips.tripLog (stamp c : Nat) (first : Bool) : Trips d (e.tripLog stamp c first) := by
  unfold Dev.tripLog
  split
  · exact ⟨h.regs, h.holding, h.lat⟩
  · exact h.to (e.logAt_regs stamp 10 1 0 c first) (by decide) (e.logAt_holding _ _ _ _ _ _)

omit h in
/-- A flag raised keeps every other flag. -/
theorem Dev.isOn_raise_keeps (s : Dev) (f g : Fld) (hf : f.hi < 32) (hl : f.lo = f.hi) (hg : g.lo = g.hi) (h : s.isOn g = true) :
    (s.raise f).isOn g = true := by
  by_cases hb : g.hi = f.hi
  · by_cases ho : g.off = f.off
    · obtain ⟨fo, fh, fl⟩ := f
      obtain ⟨go, gh, gl⟩ := g
      simp only at hl hg hb ho hf
      subst hl hg hb ho
      exact s.isOn_raise_same _ hf rfl
    · exact (Dev.isOn_of_reg (((RegsBut.refl s [f.off]).raise f (by simp)) _ (by simpa using ho))).trans h
  · rw [Dev.isOn, Dev.raise, Dev.get_set_apart _ f g 1 hf (le_of_eq hl) (by omega)]
    exact h

omit h in
theorem Trips.raiseLat (c : Nat) : Trips e (e.raise (latF c)) where
  regs := (RegsBut.refl e _).raise _ (by rcases latF_off c with ho | ho <;> simp [tripRegs, ho])
  holding := rfl
  lat k hk := e.isOn_raise_keeps _ _ (latF_valid c).2 (latF_valid c).1 (latF_valid k).1 hk

omit h in
theorem Trips.latchOne (stamp c : Nat) (first stop : Bool) : Trips (e.raise (latF c)) (e.latchOne stamp c first stop) := by
  unfold Dev.latchOne
  exact ((Trips.refl _).thkAll _).tripLog stamp c first

omit h in
/-- A latch of the codes that are new is set, whichever comes first. -/
theorem Dev.latchAll_trips (stamp : Nat) (b : Nat → Bool) (stop : Bool) (new : List Nat) (t : Dev) :
    Trips t (forEach new (fun c t => t.latchOne stamp c (b c) stop) t) ∧
      ∀ c ∈ new, (forEach new (fun c t => t.latchOne stamp c (b c) stop) t).isOn (latF c) = true := by
  induction new generalizing t with
  | nil => exact ⟨Trips.refl t, by simp⟩
  | cons c new ih =>
    obtain ⟨htrips, hon⟩ := ih (t.latchOne stamp c (b c) stop)
    have hone := Trips.latchOne (e := t) stamp c (b c) stop
    refine ⟨((Trips.raiseLat c).trans hone).trans htrips, fun k hk => ?_⟩
    rcases List.mem_cons.mp hk with rfl | hk
    · exact htrips.lat k (hone.lat k (t.isOn_raise_same _ (latF_valid k).2 rfl))
    · exact hon k hk

theorem Trips.hbTripAll (stamp : Nat) : Trips d (e.hbTripAll stamp) := h.to (e.hbTripAll_regs stamp) (by decide) (e.hbTripAll_holding stamp)

theorem Trips.snapTrigger (src stamp detail : Nat) : Trips d (e.snapTrigger src stamp detail).2 :=
  h.to (e.snapTrigger_regs src stamp detail) (by decide) (e.snapTrigger_holding src stamp detail)

theorem Trips.tripMove (low : Nat) : Trips d (e.tripMove low) := by
  unfold Dev.tripMove
  split
  · exact h
  · have he : Trips d (e.enter stTRIPPED low) := h.to (l := [Reg.HIF_STAT, Reg.HIF_EVT] ++ logRegs)
      ((RegsBut.refl e _).enter stTRIPPED low (by decide) (by decide) (by decide)) (by decide) (e.enter_holding _ _)
    exact ⟨he.regs, he.holding, he.lat⟩

theorem Trips.tripEnter (low : Nat) : Trips d (e.tripEnter low) := by
  unfold Dev.tripEnter
  split
  · split
    · split
      · exact ⟨h.regs, h.holding, h.lat⟩
      · exact h
    · exact h.tripMove low
  · exact h.tripMove low

end

/-- A latch request: what it leaves, and that each code that takes effect is latched. -/
theorem Dev.latch_trips (s : Dev) (stamp : Nat) (codes : List Nat) (stop : Bool) : Trips s (s.latch stamp codes stop) ∧
    ∀ c ∈ sourceCodes, c ∈ codes → s.effective c = true → (s.latch stamp codes stop).isOn (latF c) = true := by
  have hnew : ∀ c ∈ sourceCodes, c ∈ codes → s.effective c = true →
      c ∈ (sourceCodes.filter (fun c => codes.contains c)).filter (fun c => s.effective c && !s.isOn (latF c)) ∨ s.isOn (latF c) = true := by
    intro c hc hm he
    cases hon : s.isOn (latF c)
    · exact .inl (by simp [hc, hm, he, hon])
    · exact .inr rfl
  unfold Dev.latch
  extract_lets new wasEmpty
  rw [show (sourceCodes.filter _).filter _ = new from rfl] at hnew
  clear_value new
  cases new with
  | nil => exact ⟨Trips.refl s, fun c hc hm he => (hnew c hc hm he).resolve_left (by simp)⟩
  | cons low rest =>
    dsimp -zeta only
    extract_lets s1 s2 s3 s4 _ s5 s6
    have hflag : Trips s (s.raise Reg.PRT_FLAG_TRIP_F) :=
      (Trips.refl s).to ((RegsBut.refl s [Reg.PRT_FLAG]).raise Reg.PRT_FLAG_TRIP_F (by decide)) (by decide) rfl
    have hout : ∀ t, Trips s t → Trips s (((t.count Reg.PRT_CNT_TRIPS).raise Reg.PRT_STAT_OUT).tripEvent) := fun t ht =>
      ((ht.to ((RegsBut.refl t [Reg.PRT_CNT]).count Reg.PRT_CNT_TRIPS 1 (by decide)) (by decide) rfl).to
        ((RegsBut.refl _ [Reg.PRT_STAT]).raise Reg.PRT_STAT_OUT (by decide)) (by decide) rfl).tripEvent
    have h2 : Trips s s2 := (hflag.firstNote wasEmpty low stamp).onlyIf wasEmpty _ hout
    obtain ⟨h3, hset⟩ : Trips s2 s3 ∧ ∀ c ∈ low :: rest, s3.isOn (latF c) = true :=
      s2.latchAll_trips stamp (fun c => wasEmpty && c == low) stop (low :: rest)
    clear_value s2 s3
    have h4 : Trips s3 s4 := (Trips.refl s3).hbTripAll stamp
    have h5 : Trips s3 s5 := ⟨h4.regs, h4.holding, h4.lat⟩
    have h6 : Trips s3 s6 := h5.onlyIf _ _ (fun t ht => ht.snapTrigger 1 stamp low)
    have h7 : Trips s3 (onlyIf (!s6.stIn tripHeldStates) (fun x => x.tripEnter low) s6) := h6.onlyIf _ _ (fun t ht => ht.tripEnter low)
    refine ⟨(h2.trans h3).trans h7, fun c hc hm he => ?_⟩
    rcases hnew c hc hm he with hin | hon
    · exact h7.lat c (hset c hin)
    · exact ((h2.trans h3).trans h7).lat c hon

/-! ### An overrun (R62, R63) -/

/-- The registers an overrun touches. -/
def overrunRegs : List Nat := Reg.FRM_OVR :: Reg.FRM_FLAG :: tripRegs

/-- What an overrun leaves, its flag, and its latch. -/
theorem Dev.overrun_spec (s : Dev) (cause : Nat) : RegsBut s (s.overrun cause) overrunRegs ∧ (s.overrun cause).holding = s.holding ∧
    (s.overrun cause).isOn Reg.FRM_FLAG_OVR_F = true ∧ (s.overrun cause).isOn (latF 0x20) = true := by
  unfold Dev.overrun
  extract_lets s1 _ s3 s4
  have h1 : RegsBut s s1 overrunRegs ∧ s1.holding = s.holding := by
    have hnote : RegsBut s (s.ovrNote cause s.frame) overrunRegs ∧ (s.ovrNote cause s.frame).holding = s.holding := by
      unfold Dev.ovrNote
      split
      · exact ⟨((RegsBut.refl s _).set _ _ (by decide)).set _ _ (by decide), rfl⟩
      · exact ⟨RegsBut.refl s _, rfl⟩
    exact ⟨(hnote.1.raise Reg.FRM_FLAG_OVR_F (by decide)).logNow _ _ _ (by decide), (Dev.logAt_holding _ _ _ _ _ _ _).trans hnote.2⟩
  have hflag : s1.isOn Reg.FRM_FLAG_OVR_F = true :=
    (Dev.isOn_of_reg (((RegsBut.refl _ logRegs).logNow _ _ _ (fun _ h => h)) _ (by decide))).trans (Dev.isOn_raise_same _ _ (by decide) rfl)
  clear_value s1
  obtain ⟨hlatch, hset⟩ := s3.latch_trips (s3.stamp 0) [0x20] false
  have hend : Trips s3 (onlyIf (s4.isOn Reg.FRM_CFG_OVRSNP) (fun t => (t.free.2.snapTrigger 2 (t.stamp 0) t.free.1.toNat).2) s4) ∧
      (onlyIf (s4.isOn Reg.FRM_CFG_OVRSNP) (fun t => (t.free.2.snapTrigger 2 (t.stamp 0) t.free.1.toNat).2) s4).isOn (latF 0x20) = true := by
    refine onlyIf_keeps (fun t => Trips s3 t ∧ t.isOn (latF 0x20) = true) _ _ _ ⟨hlatch, hset 0x20 (by decide) (by decide) rfl⟩ (fun t ht => ?_)
    have hsnap := (Trips.refl t.free.2).snapTrigger 2 (t.stamp 0) t.free.1.toNat
    exact ⟨⟨ht.1.regs.trans hsnap.regs, hsnap.holding.trans ht.1.holding, fun c hc => hsnap.lat c (ht.1.lat c hc)⟩, hsnap.lat _ ht.2⟩
  obtain ⟨hend, hon⟩ := hend
  refine ⟨h1.1.trans (hend.regs.mono (fun o ho => by simp [overrunRegs, ho])), hend.holding.trans h1.2, ?_, hon⟩
  exact (Dev.isOn_of_reg (hend.regs _ (by decide))).trans hflag

/-- An empty reservation is an overrun on record (R25). -/
theorem Dev.resvEmpty_spec (s : Dev) : RegsBut s s.resvEmpty (Reg.HIF_POOL_STAT :: overrunRegs) ∧ s.resvEmpty.holding = s.holding ∧
    s.resvEmpty.isOn Reg.HIF_POOL_STAT_RESVERR_F = true ∧ s.resvEmpty.isOn Reg.FRM_FLAG_OVR_F = true ∧ s.resvEmpty.isOn (latF 0x20) = true := by
  obtain ⟨hregs, hhold, hflag, hlat⟩ := (s.raise Reg.HIF_POOL_STAT_RESVERR_F).overrun_spec 4
  refine ⟨((RegsBut.refl s _).raise _ (by decide)).trans (hregs.mono (fun o ho => List.mem_cons_of_mem _ ho)), hhold, ?_, hflag, hlat⟩
  exact (Dev.isOn_of_reg (hregs _ (by decide))).trans (Dev.isOn_raise_same _ _ (by decide) rfl)

end Sys2Proof.Machine
end

section
/-! PROOFS. Records that come back on a ring (R25, R244, R245): the granule of a base record, and each outcome of a record. -/

set_option Elab.async false

namespace Sys2Proof.Machine

/-! ### A granule for control-critical data (R25) -/

theorem resSize_lane {u : Nat} (hu : u < 32) : resSize u = 64 := by
  unfold resSize
  rw [if_pos hu]

theorem Dev.critTake_room {d : Dev} {u n : Nat} (h : (d.user u).resFull + n ≤ resSize u) :
    d.critTake u n = (true, d.poolPut u { d.user u with crit := (d.user u).crit + n }) := if_pos h

theorem Dev.critTake_full {d : Dev} {u n : Nat} (h : resSize u < (d.user u).resFull + n) : d.critTake u n = (false, d) := if_neg (by omega)

theorem Dev.critical_room {d : Dev} {u n : Nat} (h : (d.user u).resFull + n ≤ resSize u) :
    d.critical u n id = d.poolPut u { d.user u with crit := (d.user u).crit + n } := by
  unfold Dev.critical
  rw [Dev.critTake_room h]
  rfl

theorem Dev.critical_full {d : Dev} {u n : Nat} (h : resSize u < (d.user u).resFull + n) : d.critical u n id = d.resvEmpty := by
  unfold Dev.critical
  rw [Dev.critTake_full h]
  rfl

theorem cells_of_holding {d e : Dev} (h : e.holding = d.holding) : e.cells = d.cells := congrArg Prod.snd h
theorem pool_of_holding {d e : Dev} (h : e.holding = d.holding) : e.pool = d.pool := congrArg Prod.fst h

/-- The registers a request for a granule touches. -/
def grantRegs : List Nat := clockRegs ++ overrunRegs

theorem Dev.critical_frame (d : Dev) (u n : Nat) : RegsBut d (d.critical u n id) grantRegs ∧ (d.critical u n id).cells = d.cells := by
  by_cases hr : (d.user u).resFull + n ≤ resSize u
  · rw [Dev.critical_room hr]
    exact ⟨(d.poolPut_regs _ _).mono (by decide), (congrArg Dev.cells (d.poolPut_frame _ _)).trans rfl⟩
  · rw [Dev.critical_full (by omega)]
    obtain ⟨hregs, hhold, -⟩ := d.resvEmpty_spec
    exact ⟨hregs.mono (by decide), cells_of_holding hhold⟩

section
variable {u : Nat} (hu : u < 32) {d e : Dev}
include hu

omit hu in
theorem Granted.frame {n : Nat} (h : Granted u (fun t => t.critical u n id) d e) : RegsBut d e grantRegs ∧ e.cells = d.cells := by
  obtain ⟨t, hw, hg⟩ := h
  obtain ⟨hregs, hcells⟩ := t.critical_frame u n
  have hmono : ∀ {a b : Dev}, RegsBut a b clockRegs → RegsBut a b grantRegs := fun hab => hab.mono (fun o ho => List.mem_append_left _ ho)
  exact ⟨((hmono hw.regs).trans hregs).trans (hmono hg.regs), (hg.cells.trans hcells).trans hw.cells⟩

/-- With a granule free it is taken. -/
theorem Granted.taken (h : Granted u (fun t => t.critical u 1 id) d e) (hroom : (d.user u).resFull < 64) :
    RegsBut d e clockRegs ∧ (e.user u).crit = (d.user u).crit + 1 := by
  obtain ⟨t, hw, hg⟩ := h
  have hfull := hw.full u hu
  have hroom' : (t.user u).resFull + 1 ≤ resSize u := by
    rw [resSize_lane hu]
    omega
  simp only [Dev.critical_room hroom'] at hg
  refine ⟨(hw.regs.trans ((t.poolPut_regs _ _).mono (by decide))).trans hg.regs, ?_⟩
  rw [hg.crit u hu, ← hw.crit u hu]
  exact congrArg PoolUser.crit (t.poolPut_user_same u { t.user u with crit := (t.user u).crit + 1 })

/-- With none free, and none about to be, nothing is taken, and the empty reservation is on record. -/
theorem Granted.refused (h : Granted u (fun t => t.critical u 1 id) d e) (hfull : 64 ≤ (d.user u).resFull) (hf : d.pool.frees = []) :
    (∀ v, v < 32 → (e.user v).crit = (d.user v).crit) ∧ e.isOn Reg.HIF_POOL_STAT_RESVERR_F = true ∧ e.isOn Reg.FRM_FLAG_OVR_F = true ∧
      e.isOn (latF 0x20) = true := by
  obtain ⟨t, hw, hg⟩ := h
  obtain ⟨-, hsame⟩ := hw.still hf
  have hfull' : resSize u < (t.user u).resFull + 1 := by
    rw [resSize_lane hu, hsame u hu]
    omega
  simp only [Dev.critical_full hfull'] at hg
  obtain ⟨-, hhold, hresv, hovr, hlat⟩ := t.resvEmpty_spec
  have huser : ∀ v, (t.resvEmpty.servedOne u).user v = t.user v := by
    intro v
    change t.resvEmpty.user v = t.user v
    rw [Dev.user, Dev.user, pool_of_holding hhold]
  refine ⟨fun v hv => ?_, hg.flag hresv, (Dev.isOn_of_reg (hg.regs _ (by decide))).trans hovr, (Dev.isOn_of_reg (hg.regs _ (by decide))).trans hlat⟩
  rw [hg.crit v hv, huser, hsame v hv]

end

/-! ### A discarded record (R245) -/

section
variable (d : Dev) {r : Nat} (hr : r < 16)

theorem Dev.crcErr_spec (r : Nat) : (d.crcErr r).isOn Reg.THK_FLAG_CRCERR_F = true ∧ Counted d (d.crcErr r) (Reg.THK_RINGr_ERR_CRCERR r) ∧
    SameBut d (d.crcErr r) [Reg.THK_FLAG, Reg.THK_RINGr_ERR r] := by
  have hne : (Reg.THK_RINGr_ERR_CRCERR r).off ≠ Reg.THK_FLAG_CRCERR_F.off := by
    simp only [Reg.THK_RINGr_ERR_CRCERR, Reg.THK_FLAG_CRCERR_F]
    omega
  have hraise : RegsBut d (d.raise Reg.THK_FLAG_CRCERR_F) [Reg.THK_FLAG] := (RegsBut.refl d _).raise _ (by decide)
  unfold Dev.crcErr
  refine ⟨?_, ?_, ((SameBut.refl d _).raise _ (by simp [Reg.THK_FLAG, Reg.THK_FLAG_CRCERR_F])).count _
    (by simp [Reg.THK_RINGr_ERR, Reg.THK_RINGr_ERR_CRCERR])⟩
  · refine (Dev.isOn_of_reg (((RegsBut.refl _ [Reg.THK_RINGr_ERR r]).count (Reg.THK_RINGr_ERR_CRCERR r) 1
      (by simp [Reg.THK_RINGr_ERR, Reg.THK_RINGr_ERR_CRCERR])) _ ?_)).trans (d.isOn_raise_same _ (by decide) rfl)
    exact fun hm => hne (List.mem_singleton.mp hm).symm
  · have hcount := counted_count (d.raise Reg.THK_FLAG_CRCERR_F) (Reg.THK_RINGr_ERR_CRCERR r) (by simp [Reg.THK_RINGr_ERR_CRCERR])
      (by simp [Reg.THK_RINGr_ERR_CRCERR])
    unfold Counted at hcount ⊢
    rw [hcount, Dev.get_of_reg (hraise _ (fun hm => hne (List.mem_singleton.mp hm)))]

end

/-! ### The granules a list of one record needs (R25, R244) -/

/-- The lane a base record counts on. -/
def Dev.baseUser (d : Dev) (r : Nat) (t : TelemRec) : Nat := 2 * r + d.telLane r (telemCell t)

theorem Dev.telLane_lt (d : Dev) (r c : Nat) : d.telLane r c < 2 := by
  have hlane : d.laneOf r c < 2 := by
    unfold Dev.laneOf
    dsimp only
    generalize (if !d.folded r then _ else _ : Nat) = east
    split <;> omega
  unfold Dev.telLane
  split
  · exact hlane
  · omega

theorem Dev.baseGranules_other (d : Dev) (r : Nat) {t : TelemRec} (h : ¬ (t.type = 0x2D ∧ telemKind t = 0)) (u : Nat) : d.baseGranules r [t] u = 0 := by
  have hnone : ([t].filter (fun x => x.type == 0x2D && telemKind x == 0 && 2 * r + d.telLane r (telemCell x) == u)) = [] := by
    refine List.filter_eq_nil_iff.mpr fun x hx => ?_
    obtain rfl := List.mem_singleton.mp hx
    simpa using fun ht hk _ => h ⟨ht, hk⟩
  unfold Dev.baseGranules
  rw [hnone]
  simp [cdiv]

theorem Dev.baseGranules_base (d : Dev) (r : Nat) {t : TelemRec} (ht : t.type = 0x2D) (hk : telemKind t = 0) (u : Nat) :
    d.baseGranules r [t] u = if u = d.baseUser r t then 1 else 0 := by
  have hpick : ([t].filter (fun x => x.type == 0x2D && telemKind x == 0 && 2 * r + d.telLane r (telemCell x) == u)) =
      if u = d.baseUser r t then [t] else [] := by
    by_cases hu : u = d.baseUser r t
    · rw [if_pos hu]
      simp [ht, hk, hu, Dev.baseUser]
    · rw [if_neg hu]
      simpa [ht, hk, Dev.baseUser] using fun he => hu he.symm
  unfold Dev.baseGranules
  rw [hpick]
  split <;> simp [cdiv]

theorem lanes_filter (r l : Nat) (hl : l < 2) : [2 * r, 2 * r + 1].filter (fun u => (if u = 2 * r + l then 1 else 0) != 0) = [2 * r + l] := by
  obtain rfl | rfl : l = 0 ∨ l = 1 := by omega
  · simp
  · simp

/-! ### One record -/

theorem Dev.serveUsers_nil (d : Dev) (f : Nat → Dev → Option Dev) : d.serveUsers [] f = d := by simp [Dev.serveUsers, Dev.serveOwn]

theorem Dev.serveUsers_one (d : Dev) {u : Nat} {f g : Nat → Dev → Option Dev} (h : f u = g u) : d.serveUsers [u] f = d.serveUsers [u] g := by
  unfold Dev.serveUsers
  rw [List.map_singleton, List.map_singleton, h]

section
variable (d : Dev) (r : Nat) (t : TelemRec)

/-- A record that is none of the cells’ base records asks for no granule. -/
theorem Dev.telemReceived_other (h : ¬ (t.type = 0x2D ∧ telemKind t = 0)) : ∃ held, d.telemReceived r [t] = d.telemRec r held t := by
  have hus : [2 * r, 2 * r + 1].filter (fun u => d.baseGranules r [t] u != 0) = [] := by simp [d.baseGranules_other r h]
  unfold Dev.telemReceived
  dsimp only
  rw [hus, d.serveUsers_nil]
  exact ⟨fun lane => (d.user (2 * r + lane)).crit != (d.user (2 * r + lane)).crit, rfl⟩

/-- A base record asks for one, of its lane; it is held when the lane has one more. -/
theorem Dev.telemReceived_base (hr : r < 16) (ht : t.type = 0x2D) (hk : telemKind t = 0) :
    ∃ e, Granted (d.baseUser r t) (fun x => x.critical (d.baseUser r t) 1 id) d e ∧
      d.telemReceived r [t] = e.telemRec r (fun lane => (d.user (2 * r + lane)).crit != (e.user (2 * r + lane)).crit) t := by
  have hlane := d.telLane_lt r (telemCell t)
  have hu : d.baseUser r t < 32 := by
    unfold Dev.baseUser
    omega
  have hus : [2 * r, 2 * r + 1].filter (fun u => d.baseGranules r [t] u != 0) = [d.baseUser r t] := by
    simp only [d.baseGranules_base r ht hk]
    exact lanes_filter r _ hlane
  have hone : d.serveUsers [d.baseUser r t] (fun u x => some (x.critical u (d.baseGranules r [t] u) id)) =
      d.serveUsers [d.baseUser r t] (fun _ x => some (x.critical (d.baseUser r t) 1 id)) := by
    refine d.serveUsers_one ?_
    rw [d.baseGranules_base r ht hk, if_pos rfl]
  have hgrant := d.serveUsers_lane hu (fun x => x.critical (d.baseUser r t) 1 id)
  refine ⟨_, hgrant, ?_⟩
  unfold Dev.telemReceived
  dsimp only
  rw [hus, hone]
  rfl

end

end Sys2Proof.Machine
end

section
/-! PROOFS. Telemetry, alarms and rediscovery on a ring (R237, R244, R245, R248). -/

set_option Elab.async false

namespace Sys2Proof.Machine

/-! ### Commands about a ring -/

/-- What a command about a ring does with it. -/
inductive RingCommand : Instr → Nat → (Dev → Dev) → Prop
  | disc (r west pl arr) : RingCommand (.discReturn r west pl arr) r (·.discReturn r west pl arr)
  | telem (r recs) : RingCommand (.telemReceived r recs) r (·.telemReceived r recs)
  | alarm (r p) : RingCommand (.alarmReceived r p) r (·.alarmReceived r p)
  | loop (r p) : RingCommand (.loopNotice r p) r (·.loopNotice r p)
  | heal (r) : RingCommand (.thkHeal r) r (·.thkHeal r)
  | rediscover (r) : RingCommand (.thkRediscover r) r (·.thkRediscover r)
  | multiHeal (r) : RingCommand (.multiHealEnd r) r (·.multiHealEnd r)

section
variable {s : State} (hs : s.live) {i : Instr} {r : Nat} {f : Dev → Dev}
include hs

theorem RingCommand.answers_onlyIf (h : RingCommand i r f) : Answers i s (onlyIf (decide (r < 16)) f s.start) := by
  cases h <;> exact answers_of_onLive (f := onlyIf (decide (r < 16)) _) hs rfl

/-- On a ring that there is. -/
theorem RingCommand.answers (h : RingCommand i r f) (hr : r < 16) : Answers i s (f s.start) := by
  have ha := h.answers_onlyIf hs
  rwa [decide_eq_true hr] at ha

/-- On one that there is not, nothing. -/
theorem RingCommand.ignored (h : RingCommand i r f) (hr : 16 ≤ r) : Answers i s s.start := by
  have ha := h.answers_onlyIf hs
  rwa [decide_eq_false (by omega)] at ha

end

/-! ### The state of a ring -/

theorem Dev.ring_setRing (d : Dev) (r : Nat) (x : RingSt) : (d.setRing r x).ring r = x := sget_sset_same _ _ _ _

theorem Dev.ring_set (d : Dev) (f : Fld) (v r : Nat) : (d.set f v).ring r = d.ring r := rfl
theorem Dev.ring_raise (d : Dev) (f : Fld) (r : Nat) : (d.raise f).ring r = d.ring r := rfl
theorem Dev.ring_send (d : Dev) (m : OutMsg) (r : Nat) : (d.send m).ring r = d.ring r := rfl

theorem Dev.discStart_enabled (d : Dev) (r : Nat) (h : d.ringEn r = true) :
    ∃ (e : Dev) (x : RingSt), d.discStart r = (e.setRing r x).send (.thk (2 * r) (ctlBlock 0xB4 0) []) ∧
    x.disc = 1 ∧ x.t0 = d.time := by
  unfold Dev.discStart
  rw [h, if_neg (by simp)]
  exact ⟨_, _, rfl, rfl, rfl⟩

/-! ### Blocks that fail their check -/

section
variable (d : Dev) (r p : Nat) (h : crc8Ok p = false)
include h

theorem Dev.alarmReceived_bad : d.alarmReceived r p = d.crcErr r := by
  unfold Dev.alarmReceived
  rw [h]
  rfl

theorem Dev.loopNotice_bad : d.loopNotice r p = d.crcErr r := by
  unfold Dev.loopNotice
  rw [h]
  rfl

theorem Dev.discReturn_bad (west : Bool) (arr : Nat) : d.discReturn r west p arr = d.crcErr r := by
  unfold Dev.discReturn
  rw [h]
  rfl

end

/-! ### Records (R244, R245) -/

section
variable (d : Dev) (r : Nat) (held : Nat → Bool) (t : TelemRec)

theorem Dev.telemRec_type (ht : t.type ≠ 0x2D) : d.telemRec r held t = if blockTypes.contains t.type && returnOk t then d else d.crcErr r := by
  unfold Dev.telemRec
  dsimp only
  rw [if_pos ht]

/-- A record whose words fail their check. -/
theorem Dev.telemRec_bad (ht : t.type = 0x2D) (hw : t.words.length < t.payload / 2 ^ 40 % 256 ∨
    t.payload % 2 ^ 16 ≠ crcWords (t.words.take (t.payload / 2 ^ 40 % 256))) : d.telemRec r held t = d.crcErr r := by
  unfold Dev.telemRec
  dsimp only
  rw [if_neg (by simp [ht]), if_pos hw]

/-- A base record whose length is not 4, or whose four words fail their check. -/
theorem Dev.telemRec_malformed (ht : t.type = 0x2D) (hk : telemKind t = 0) (hw : t.payload / 2 ^ 40 % 256 ≠ 4 ∨ t.words.length < 4 ∨
    t.payload % 2 ^ 16 ≠ crcWords (t.words.take 4)) : d.telemRec r held t = d.crcErr r := by
  by_cases hbad : t.words.length < t.payload / 2 ^ 40 % 256 ∨ t.payload % 2 ^ 16 ≠ crcWords (t.words.take (t.payload / 2 ^ 40 % 256))
  · exact d.telemRec_bad r held t ht hbad
  · have hlen : t.payload / 2 ^ 40 % 256 ≠ 4 := by
      intro h4
      rw [h4] at hbad
      exact hw.elim (· h4) hbad
    unfold Dev.telemRec
    dsimp only
    rw [if_neg (by simp [ht]), if_neg hbad, hk]
    exact if_pos hlen

/-- A base record that passes. -/
theorem Dev.telemRec_base (ht : t.type = 0x2D) (hk : telemKind t = 0) (h4 : t.payload / 2 ^ 40 % 256 = 4) (hl : t.words.length = 4)
    (hc : t.payload % 2 ^ 16 = crcWords t.words) : d.telemRec r held t = if held (d.telLane r (telemCell t)) then
      d.setCells { d.cells with telNew := sset (fun _ => {}) d.cells.telNew (64 * r + telemCell t) (baseTel t.words) } else d := by
  have htake : t.words.take 4 = t.words := List.take_of_length_le (by omega)
  unfold Dev.telemRec
  dsimp only
  rw [if_neg (by simp [ht]), h4, htake, if_neg (by
    rw [not_or, not_lt, not_ne_iff]
    exact ⟨by omega, hc⟩), hk]
  exact if_neg (by simp)

end

/-- A ring’s lanes are chosen by its configuration and its status. -/
theorem Dev.telLane_same {d e : Dev} {r : Nat} (hcfg : e.reg (Reg.THK_RINGr_CFG r) = d.reg (Reg.THK_RINGr_CFG r))
    (hstat : e.reg (Reg.THK_RINGr_STAT r) = d.reg (Reg.THK_RINGr_STAT r)) (c : Nat) : e.telLane r c = d.telLane r c := by
  have hst : e.get (Reg.THK_RINGr_STAT_ST r) = d.get (Reg.THK_RINGr_STAT_ST r) := Dev.get_of_reg hstat
  have hseg : e.get (Reg.THK_RINGr_STAT_SEG_E r) = d.get (Reg.THK_RINGr_STAT_SEG_E r) := Dev.get_of_reg hstat
  have hn : e.get (Reg.THK_RINGr_CFG_NCELL r) = d.get (Reg.THK_RINGr_CFG_NCELL r) := Dev.get_of_reg hcfg
  unfold Dev.telLane Dev.laneOf Dev.folded Dev.ringSt Dev.ncell
  rw [hst, hseg, hn]

/-! ### Telemetry, clause by clause -/

section
variable {s : State} (hs : s.live) {r : Nat} (hr : r < 16) (t : TelemRec)
include hs hr

/-- A known block that passes is stripped. -/
theorem telem_stripped (ht : t.type ≠ 0x2D) (hb : blockTypes.contains t.type = true) (ho : returnOk t = true) :
    Answers (.telemReceived r [t]) s s.start := by
  have ha := (RingCommand.telem r [t]).answers hs hr
  obtain ⟨held, he⟩ := s.start.telemReceived_other r t (fun h => ht h.1)
  simp only [he, Dev.telemRec_type _ _ _ _ ht, hb, ho, Bool.and_self, if_true] at ha
  exact ha

/-- Another block, and a record of another kind that fails its check, is counted. -/
theorem telem_counted (h : (t.type ≠ 0x2D ∧ (blockTypes.contains t.type = false ∨ returnOk t = false)) ∨ (t.type = 0x2D ∧ telemKind t ≠ 0 ∧
    (t.words.length < t.payload / 2 ^ 40 % 256 ∨ t.payload % 2 ^ 16 ≠ crcWords (t.words.take (t.payload / 2 ^ 40 % 256))))) :
    ∃ d, Answers (.telemReceived r [t]) s d ∧ d.isOn Reg.THK_FLAG_CRCERR_F = true ∧ Counted s.dev d (Reg.THK_RINGr_ERR_CRCERR r) ∧
      SameBut s.start d [Reg.THK_FLAG, Reg.THK_RINGr_ERR r] := by
  have ha := (RingCommand.telem r [t]).answers hs hr
  have hbase : ¬ (t.type = 0x2D ∧ telemKind t = 0) := by
    rintro ⟨ht, hk⟩
    rcases h with ⟨h1, -⟩ | ⟨-, h1, -⟩
    · exact h1 ht
    · exact h1 hk
  obtain ⟨held, he⟩ := s.start.telemReceived_other r t hbase
  have herr : s.start.telemRec r held t = s.start.crcErr r := by
    rcases h with ⟨ht, hb⟩ | ⟨ht, -, hw⟩
    · rw [Dev.telemRec_type _ _ _ _ ht, if_neg (by rcases hb with hb | hb <;> rw [hb] <;> simp)]
    · exact Dev.telemRec_bad _ _ _ _ ht hw
  simp only [he, herr] at ha
  exact ⟨_, ha, s.start.crcErr_spec r⟩

/-- A malformed base record is counted; the granule it asked for is of no matter. -/
theorem telem_malformed (ht : t.type = 0x2D) (hk : telemKind t = 0) (hw : t.payload / 2 ^ 40 % 256 ≠ 4 ∨ t.words.length < 4 ∨
    t.payload % 2 ^ 16 ≠ crcWords (t.words.take 4)) : ∃ d, Answers (.telemReceived r [t]) s d ∧ d.isOn Reg.THK_FLAG_CRCERR_F = true ∧
      Counted s.dev d (Reg.THK_RINGr_ERR_CRCERR r) ∧ d.cells.telNew = s.dev.cells.telNew := by
  have ha := (RingCommand.telem r [t]).answers hs hr
  obtain ⟨e, hgrant, he⟩ := s.start.telemReceived_base r t hr ht hk
  obtain ⟨hregs, hcells⟩ := hgrant.frame
  simp only [he, Dev.telemRec_malformed _ _ _ _ ht hk hw] at ha
  obtain ⟨hon, hcount, hsame, -⟩ := e.crcErr_spec r
  have herr : e.reg (Reg.THK_RINGr_ERR_CRCERR r).off = s.start.reg (Reg.THK_RINGr_ERR_CRCERR r).off :=
    hregs _ ((by decide : ∀ k < 16, (Reg.THK_RINGr_ERR_CRCERR k).off ∉ grantRegs) r hr)
  refine ⟨_, ha, hon, ?_, ?_⟩
  · unfold Counted at hcount ⊢
    rw [hcount, Dev.get_of_reg herr]
    rfl
  · rw [hsame]
    exact congrArg CellsSt.telNew hcells

/-- A base record that passes is the cell’s sample when its lane has a granule for it, and an overrun when it has none. -/
theorem telem_base (ht : t.type = 0x2D) (hk : telemKind t = 0) (h4 : t.payload / 2 ^ 40 % 256 = 4) (hl : t.words.length = 4)
    (hc : t.payload % 2 ^ 16 = crcWords t.words) (u : Nat) (hu : u = 2 * r + s.dev.telLane r (telemCell t)) :
    ∃ d, Answers (.telemReceived r [t]) s d ∧
      ((s.dev.user u).resFull < 64 → RegsBut s.dev d clockRegs ∧ sget (fun _ => {}) d.cells.telNew (64 * r + telemCell t) = baseTel t.words) ∧
      (64 ≤ (s.dev.user u).resFull → s.dev.pool.frees = [] → d.cells.telNew = s.dev.cells.telNew ∧ d.isOn Reg.HIF_POOL_STAT_RESVERR_F = true ∧
        d.isOn Reg.FRM_FLAG_OVR_F = true ∧ (s.dev.effective 0x20 = true → d.isOn (latF 0x20) = true)) := by
  have ha := (RingCommand.telem r [t]).answers hs hr
  obtain ⟨e, hgrant, he⟩ := s.start.telemReceived_base r t hr ht hk
  have hlt : ∀ (x : Dev), 2 * r + x.telLane r (telemCell t) < 32 := fun x => by
    have hlane := x.telLane_lt r (telemCell t)
    omega
  rw [show s.start.baseUser r t = u from hu.symm] at hgrant
  simp only [he, Dev.telemRec_base _ _ _ _ ht hk h4 hl hc] at ha
  refine ⟨_, ha, fun hroom => ?_, fun hfull hf => ?_⟩
  · obtain ⟨hregs, hcrit⟩ := hgrant.taken (hu ▸ hlt _) hroom
    have hlane : e.telLane r (telemCell t) = s.dev.telLane r (telemCell t) :=
      Dev.telLane_same (hregs _ ((by decide : ∀ k < 16, Reg.THK_RINGr_CFG k ∉ clockRegs) r hr))
        (hregs _ ((by decide : ∀ k < 16, Reg.THK_RINGr_STAT k ∉ clockRegs) r hr)) _
    have hheld : ((s.start.user (2 * r + e.telLane r (telemCell t))).crit != (e.user (2 * r + e.telLane r (telemCell t))).crit) = true := by
      rw [hlane, ← hu, hcrit]
      simp
    rw [if_pos hheld]
    exact ⟨hregs, sget_sset_same _ _ _ _⟩
  · obtain ⟨hcrit, hresv, hovr, hlat⟩ := hgrant.refused (hu ▸ hlt _) hfull hf
    rw [if_neg (by simp [hcrit _ (hlt e)])]
    exact ⟨congrArg CellsSt.telNew hgrant.frame.2, hresv, hovr, fun _ => hlat⟩

end

/-! ### Alarms (R248) and rediscovery (R237) -/

section
variable {s : State} (hs : s.live) {r : Nat} (hr : r < 16) (p : Nat)
include hs hr

/-- Each block that fails its check is counted. -/
theorem ring_blockBad (arr : Nat) (hp : crc8Ok p = false) {i : Instr}
    (hi : i ∈ [Instr.alarmReceived r p, .loopNotice r p, .discReturn r false p arr, .discReturn r true p arr]) : ∃ d, Answers i s d ∧
      d.isOn Reg.THK_FLAG_CRCERR_F = true ∧ Counted s.dev d (Reg.THK_RINGr_ERR_CRCERR r) ∧ SameBut s.start d [Reg.THK_FLAG, Reg.THK_RINGr_ERR r] := by
  refine ⟨s.start.crcErr r, ?_, s.start.crcErr_spec r⟩
  simp only [List.mem_cons, List.not_mem_nil, or_false] at hi
  rcases hi with rfl | rfl | rfl | rfl
  · exact s.start.alarmReceived_bad r p hp ▸ (RingCommand.alarm r p).answers hs hr
  · exact s.start.loopNotice_bad r p hp ▸ (RingCommand.loop r p).answers hs hr
  · exact s.start.discReturn_bad r p hp false arr ▸ (RingCommand.disc r false p arr).answers hs hr
  · exact s.start.discReturn_bad r p hp true arr ▸ (RingCommand.disc r true p arr).answers hs hr

/-- An alarm is shown, and trips where it is enabled. -/
theorem ring_alarm (hp : crc8Ok p = true) : ∃ d, Answers (.alarmReceived r p) s d ∧ d.isOn Reg.THK_FLAG_ALARM_F = true ∧
    d.reg Reg.THK_ALM = BitVec.ofNat 32 (2 ^ 31 + p / 2 ^ 46 % 16 * 2 ^ 16 + r * 2 ^ 10 + p / 2 ^ 50 % 64 * 2 ^ 4) ∧
    (s.dev.effective 0x25 = true → d.isOn (latF 0x25) = true) := by
  refine ⟨_, (RingCommand.alarm r p).answers hs hr, ?_⟩
  simp only [Dev.alarmReceived, hp, Bool.not_true, Bool.false_eq_true, if_false]
  generalize BitVec.ofNat 32 (2 ^ 31 + p / 2 ^ 46 % 16 * 2 ^ 16 + r * 2 ^ 10 + p / 2 ^ 50 % 64 * 2 ^ 4) = w
  have hregs : RegsBut s.start ((s.start.raise Reg.THK_FLAG_ALARM_F).setReg Reg.THK_ALM w) [Reg.THK_FLAG, Reg.THK_ALM] :=
    ((RegsBut.refl s.start _).raise _ (by decide)).setReg _ _ (by decide)
  have hflag : ((s.start.raise Reg.THK_FLAG_ALARM_F).setReg Reg.THK_ALM w).isOn Reg.THK_FLAG_ALARM_F = true :=
    (Dev.isOn_of_reg (((RegsBut.refl _ [Reg.THK_ALM]).setReg _ w (by decide)) _ (by decide))).trans (s.start.isOn_raise_same _ (by decide) rfl)
  have hreg : ((s.start.raise Reg.THK_FLAG_ALARM_F).setReg Reg.THK_ALM w).reg Reg.THK_ALM = w := Dev.reg_setReg_same _ _ _
  have heff : ((s.start.raise Reg.THK_FLAG_ALARM_F).setReg Reg.THK_ALM w).effective 0x25 = s.dev.effective 0x25 := by
    have hmask : ((s.start.raise Reg.THK_FLAG_ALARM_F).setReg Reg.THK_ALM w).isOn (prtBit 0x4004 0x25) = s.dev.isOn (prtBit 0x4004 0x25) :=
      Dev.isOn_of_reg (hregs _ (by decide))
    unfold Dev.effective
    rw [hmask]
    rfl
  generalize (s.start.raise Reg.THK_FLAG_ALARM_F).setReg Reg.THK_ALM w = x at *
  obtain ⟨htrips, hset⟩ := Dev.latch_trips { x with prt := { x.prt with alarmFrame := some x.frame } } (x.stamp 0) [0x25] false
  refine ⟨(Dev.isOn_of_reg (htrips.regs _ (by decide))).trans hflag, (htrips.regs _ (by decide)).trans hreg, fun he => ?_⟩
  exact hset 0x25 (by decide) (by decide) (heff.trans he)

omit p in
/-- Rediscovery outside the still states is refused. -/
theorem ring_rediscoverRefused (hst : s.dev.stIn stillStates = false) : ∃ d, Answers (.thkRediscover r) s d ∧
    d.isOn Reg.THK_FLAG_CMDREJ_F = true ∧ SameBut s.start d [Reg.THK_FLAG] := by
  refine ⟨_, (RingCommand.rediscover r).answers hs hr, s.start.thkRediscover_refused r hst, ?_⟩
  rw [show s.start.thkRediscover r = s.start.raise Reg.THK_FLAG_CMDREJ_F from if_neg (by rw [show s.start.stIn stillStates = false from hst]; simp)]
  exact (SameBut.refl _ _).raise _ (by decide)

omit p in
/-- In one of them an enabled ring sends DISC east. -/
theorem ring_rediscovered (hst : s.dev.stIn stillStates = true) (hen : s.dev.ringEn r = true) : ∃ d, Answers (.thkRediscover r) s d ∧
    d.ringSt r = rsDISCOVER ∧ OutMsg.thk (2 * r) (ctlBlock 0xB4 0) [] ∈ d.out ∧ (d.ring r).disc = 1 ∧ (d.ring r).t0 = s.dev.time ∧
    RegsBut s.dev d [Reg.THK_RINGr_STAT r] := by
  refine ⟨_, (RingCommand.rediscover r).answers hs hr, s.start.thkRediscover_starts r hst hen, ?_⟩
  rw [show s.start.thkRediscover r = s.start.discStart r from if_pos hst]
  have hregs := s.start.discStart_regs r
  obtain ⟨e, x, he, hdisc, ht0⟩ := s.start.discStart_enabled r hen
  have hring : ((e.setRing r x).send (.thk (2 * r) (ctlBlock 0xB4 0) [])).ring r = x := by rw [Dev.ring_send, Dev.ring_setRing]
  rw [he] at hregs ⊢
  exact ⟨List.mem_append_right _ (List.mem_singleton_self _), (congrArg RingSt.disc hring).trans hdisc, (congrArg RingSt.t0 hring).trans ht0, hregs⟩

end

end Sys2Proof.Machine
end

section
/-! PROOFS. O26: COLLECT, the returns of DISC (R237, R238, R241), and the statement. -/

set_option Elab.async false

namespace Sys2Proof.Machine

theorem OnlySent.send {d e : Dev} (h : OnlySent d e) (m : OutMsg) : OnlySent d (e.send m) := by
  obtain ⟨he, hs⟩ := h
  refine ⟨?_, hs.send m⟩
  rw [Dev.send, he]

theorem OnlySent.thk {d e : Dev} (h : OnlySent d e) : e.thk = d.thk := (congrArg Dev.thk h.1).trans rfl
theorem OnlySent.frame {d e : Dev} (h : OnlySent d e) : e.frame = d.frame := by
  rw [h.1]
  rfl

/-! ### COLLECT (R241) -/

/-- COLLECT on one ring: west, and east as well on a folded one. -/
def Dev.collectRing (r : Nat) (t : Dev) : Dev :=
  (if t.folded r then t.send (.thk (2 * r) (ctlBlock 0xAA (t.frame * 2 ^ 24)) []) else t).send (.thk (2 * r + 1) (ctlBlock 0xAA (t.frame * 2 ^ 24)) [])

theorem Dev.collectSend_eq (d : Dev) : d.collectSend = forEach ((List.range 16).filter d.ringEn) Dev.collectRing d := rfl

theorem OnlySent.collectRing {d e : Dev} (h : OnlySent d e) (r : Nat) : OnlySent d (e.collectRing r) := by
  unfold Dev.collectRing
  refine OnlySent.send ?_ _
  split
  · exact h.send _
  · exact h

theorem Dev.collectRing_mem (d : Dev) (r : Nat) : OutMsg.thk (2 * r + 1) (ctlBlock 0xAA (d.frame * 2 ^ 24)) [] ∈ (d.collectRing r).out ∧
    (d.folded r = true → OutMsg.thk (2 * r) (ctlBlock 0xAA (d.frame * 2 ^ 24)) [] ∈ (d.collectRing r).out) := by
  unfold Dev.collectRing
  refine ⟨List.mem_append_right _ (List.mem_singleton_self _), fun hf => List.mem_append_left _ ?_⟩
  rw [if_pos hf]
  exact List.mem_append_right _ (List.mem_singleton_self _)

theorem Dev.collectAll_sent (l : List Nat) (d : Dev) : OnlySent d (forEach l Dev.collectRing d) :=
  (OnlySent.refl d).forEach _ _ (fun r _ ht => ht.collectRing r)

theorem Dev.collectAll_mem (l : List Nat) (d : Dev) {r : Nat} (hm : r ∈ l) :
    OutMsg.thk (2 * r + 1) (ctlBlock 0xAA (d.frame * 2 ^ 24)) [] ∈ (forEach l Dev.collectRing d).out ∧
    (d.folded r = true → OutMsg.thk (2 * r) (ctlBlock 0xAA (d.frame * 2 ^ 24)) [] ∈ (forEach l Dev.collectRing d).out) := by
  obtain ⟨before, after, rfl⟩ := List.append_of_mem hm
  have hbefore := Dev.collectAll_sent before d
  have hafter := Dev.collectAll_sent after ((forEach before Dev.collectRing d).collectRing r)
  have hsplit : forEach (before ++ r :: after) Dev.collectRing d = forEach after Dev.collectRing ((forEach before Dev.collectRing d).collectRing r) := by
    simp only [forEach, List.foldl_append, List.foldl_cons]
  have hfolded : (forEach before Dev.collectRing d).folded r = d.folded r := by
    unfold Dev.folded Dev.ringSt
    rw [Dev.get_of_reg (Dev.reg_of_regs hbefore.regs _)]
  obtain ⟨hwest, heast⟩ := (forEach before Dev.collectRing d).collectRing_mem r
  rw [hbefore.frame] at hwest heast
  rw [hsplit]
  exact ⟨hafter.2 _ hwest, fun hf => hafter.2 _ (heast (hfolded.trans hf))⟩

theorem ring_collect {s : State} (hs : s.live) : ∃ d, Answers .collectSend s d ∧ d.regs = s.dev.regs ∧
    ∀ r, r < 16 → s.dev.ringEn r = true → OutMsg.thk (2 * r + 1) (ctlBlock 0xAA (s.dev.frame * 2 ^ 24)) [] ∈ d.out ∧
      (s.dev.folded r = true → OutMsg.thk (2 * r) (ctlBlock 0xAA (s.dev.frame * 2 ^ 24)) [] ∈ d.out) := by
  refine ⟨_, answers_of_onLive (f := Dev.collectSend) hs rfl, ?_, fun r hr hen => ?_⟩
  · rw [Dev.collectSend_eq]
    exact (s.start.collectAll_sent _).regs
  · rw [Dev.collectSend_eq]
    exact s.start.collectAll_mem _ (List.mem_filter.mpr ⟨List.mem_range.mpr hr, hen⟩)

/-! ### The end of discovery (R239, R240) -/

/-- The ring’s status alone changes, and its measured delays stay. -/
theorem Dev.discFinish_spec (d : Dev) (r : Nat) : RegsBut d (d.discFinish r) [Reg.THK_RINGr_STAT r] ∧ Sent d (d.discFinish r) ∧
    ((d.discFinish r).ring r).t1 = (d.ring r).t1 ∧ ((d.discFinish r).ring r).le = (d.ring r).le := by
  unfold Dev.discFinish
  extract_lets n x e y
  split
  · have he : OnlySent d e := (OnlySent.refl d).forEach _ _ (fun c t ht => ht.send _)
    have hring : y = d.ring r := by rw [show y = e.ring r from rfl, Dev.ring, Dev.ring, he.thk]
    clear_value e y
    refine ⟨?_, he.2, ?_, ?_⟩
    · exact RegsBut.set (fun o _ => Dev.reg_of_regs he.regs o) _ _ (by simp [Reg.THK_RINGr_STAT, Reg.THK_RINGr_STAT_ST])
    · rw [Dev.ring_set, Dev.ring_setRing]
      exact hring ▸ rfl
    · rw [Dev.ring_set, Dev.ring_setRing]
      exact hring ▸ rfl
  · exact ⟨RegsBut.refl d _, Sent.refl d, rfl, rfl⟩

/-! ### The returns of DISC (R237, R238) -/

/-- The count and the time of a return in the east. -/
def Dev.discNoted (d : Dev) (r hops delay : Nat) : Dev := (d.set (Reg.THK_RINGr_CFG_NFOUND r) hops).set (Reg.THK_RINGr_DLY_LE r) delay

theorem Dev.discNoted_spec (d : Dev) (r delay : Nat) {hops : Nat} (hh : hops < 128) :
    RegsBut d (d.discNoted r hops delay) [Reg.THK_RINGr_CFG r, Reg.THK_RINGr_DLY r] ∧
    (d.discNoted r hops delay).get (Reg.THK_RINGr_CFG_NFOUND r) = hops ∧ (d.discNoted r hops delay).get (Reg.THK_RINGr_DLY_LE r) = delay % 65536 ∧
    (d.discNoted r hops delay).ncell r = d.ncell r := by
  have hset : RegsBut (d.set (Reg.THK_RINGr_CFG_NFOUND r) hops) (d.discNoted r hops delay) [Reg.THK_RINGr_DLY r] :=
    (RegsBut.refl _ _).set _ _ (by simp [Reg.THK_RINGr_DLY, Reg.THK_RINGr_DLY_LE])
  have hcfg : (d.discNoted r hops delay).reg (Reg.THK_RINGr_CFG r) = (d.set (Reg.THK_RINGr_CFG_NFOUND r) hops).reg (Reg.THK_RINGr_CFG r) :=
    hset _ (by simp [Reg.THK_RINGr_DLY, Reg.THK_RINGr_CFG])
  refine ⟨((RegsBut.refl d _).set _ _ (by simp [Reg.THK_RINGr_CFG, Reg.THK_RINGr_CFG_NFOUND])).set _ _
    (by simp [Reg.THK_RINGr_DLY, Reg.THK_RINGr_DLY_LE]), ?_, ?_, ?_⟩
  · exact (Dev.get_of_reg (f := Reg.THK_RINGr_CFG_NFOUND r) hcfg).trans
      (d.get_set_fits (Reg.THK_RINGr_CFG_NFOUND r) (by simp [Reg.THK_RINGr_CFG_NFOUND]) (by simp [Reg.THK_RINGr_CFG_NFOUND]) hh)
  · exact Dev.get_set_same _ (Reg.THK_RINGr_DLY_LE r) _ (by simp [Reg.THK_RINGr_DLY_LE]) (by simp [Reg.THK_RINGr_DLY_LE])
  · exact (Dev.get_of_reg (f := Reg.THK_RINGr_CFG_NCELL r) hcfg).trans (d.get_set_apart (Reg.THK_RINGr_CFG_NFOUND r) (Reg.THK_RINGr_CFG_NCELL r) _
      (by simp [Reg.THK_RINGr_CFG_NFOUND]) (by simp [Reg.THK_RINGr_CFG_NFOUND]) (by simp [Reg.THK_RINGr_CFG_NFOUND, Reg.THK_RINGr_CFG_NCELL]))

/-- Ring `r` becomes FAILED, with DISCERR_F. -/
def Dev.discFailed (d : Dev) (r : Nat) (x : RingSt) : Dev := ((d.setRing r x).set (Reg.THK_RINGr_STAT_ST r) rsFAILED).raise Reg.THK_FLAG_DISCERR_F

theorem Dev.discFailed_spec (d : Dev) (r : Nat) (x : RingSt) : RegsBut d (d.discFailed r x) [Reg.THK_RINGr_STAT r, Reg.THK_FLAG] ∧
    (d.discFailed r x).ringSt r = rsFAILED ∧ (d.discFailed r x).isOn Reg.THK_FLAG_DISCERR_F = true ∧ (d.discFailed r x).ring r = x := by
  have hset : RegsBut d ((d.setRing r x).set (Reg.THK_RINGr_STAT_ST r) rsFAILED) [Reg.THK_RINGr_STAT r, Reg.THK_FLAG] :=
    RegsBut.set (e := d.setRing r x) (RegsBut.refl d _) _ _ (by simp [Reg.THK_RINGr_STAT, Reg.THK_RINGr_STAT_ST])
  have hst : ((d.setRing r x).set (Reg.THK_RINGr_STAT_ST r) rsFAILED).ringSt r = rsFAILED :=
    Dev.get_set_fits _ (Reg.THK_RINGr_STAT_ST r) (show 31 < 32 by decide) (show 29 ≤ 31 by decide) (show rsFAILED < 2 ^ 3 by decide)
  unfold Dev.discFailed
  refine ⟨hset.raise _ (by simp [Reg.THK_FLAG, Reg.THK_FLAG_DISCERR_F]), ?_, Dev.isOn_raise_same _ _ (by decide) rfl, ?_⟩
  · refine (Dev.get_of_reg (f := Reg.THK_RINGr_STAT_ST r) (((RegsBut.refl _ [Reg.THK_FLAG]).raise Reg.THK_FLAG_DISCERR_F (by decide)) _ ?_)).trans hst
    simp [Reg.THK_RINGr_STAT_ST, Reg.THK_FLAG]
    omega
  · rw [Dev.ring_raise, Dev.ring_set, Dev.ring_setRing]

section
variable (d : Dev) (r : Nat) {pl : Nat} (arr : Nat) (h : crc8Ok pl = true)
include h

theorem Dev.discReturn_eastIdle (hd : (d.ring r).disc ≠ 1) : d.discReturn r false pl arr = d := by
  simp [Dev.discReturn, h, hd]

theorem Dev.discReturn_westIdle (hd : (d.ring r).disc ≠ 2) : d.discReturn r true pl arr = d := by
  simp [Dev.discReturn, h, hd]

theorem Dev.discReturn_west (hd : (d.ring r).disc = 2) :
    d.discReturn r true pl arr = (d.set (Reg.THK_RINGr_DLY_LW r) (arr - (d.ring r).t1)).discFinish r := by
  simp [Dev.discReturn, h, hd]

theorem Dev.discReturn_failed (hd : (d.ring r).disc = 1) (hn : pl / 2 ^ 49 % 128 ≠ d.ncell r) : d.discReturn r false pl arr =
    (d.discNoted r (pl / 2 ^ 49 % 128) (arr - (d.ring r).t0)).discFailed r { d.ring r with disc := 0 } := by
  have hcell := (d.discNoted_spec r (arr - (d.ring r).t0) (Nat.mod_lt (pl / 2 ^ 49) (by decide : 0 < 128))).2.2.2
  unfold Dev.discReturn
  dsimp only
  rw [h, if_neg (by simp), if_neg (by simp), if_neg (by simp [hd])]
  exact if_pos (hcell ▸ hn)

theorem Dev.discReturn_counted (hd : (d.ring r).disc = 1) (hn : pl / 2 ^ 49 % 128 = d.ncell r) : d.discReturn r false pl arr =
    (((d.discNoted r (pl / 2 ^ 49 % 128) (arr - (d.ring r).t0)).setRing r
      { d.ring r with disc := 2, le := arr - (d.ring r).t0, t1 := d.time }).send (.thk (2 * r + 1) (ctlBlock 0xB4 0) [])).discFinish r := by
  have hcell := (d.discNoted_spec r (arr - (d.ring r).t0) (Nat.mod_lt (pl / 2 ^ 49) (by decide : 0 < 128))).2.2.2
  unfold Dev.discReturn
  dsimp only
  rw [h, if_neg (by simp), if_neg (by simp), if_neg (by simp [hd])]
  exact if_neg (fun hne => hne (hn.trans hcell.symm))

end

section
variable {s : State} (hs : s.live) {r : Nat} (hr : r < 16) {pl : Nat} (arr : Nat) (h : crc8Ok pl = true)
include hs hr h

theorem disc_eastIdle (hd : (s.dev.ring r).disc ≠ 1) : Answers (.discReturn r false pl arr) s s.start :=
  s.start.discReturn_eastIdle r arr h hd ▸ (RingCommand.disc r false pl arr).answers hs hr

theorem disc_westIdle (hd : (s.dev.ring r).disc ≠ 2) : Answers (.discReturn r true pl arr) s s.start :=
  s.start.discReturn_westIdle r arr h hd ▸ (RingCommand.disc r true pl arr).answers hs hr

/-- A count that is not NCELL makes the ring FAILED. -/
theorem disc_failed (hd : (s.dev.ring r).disc = 1) (hn : pl / 2 ^ 49 % 128 ≠ s.dev.ncell r) : ∃ d, Answers (.discReturn r false pl arr) s d ∧
    d.get (Reg.THK_RINGr_CFG_NFOUND r) = pl / 2 ^ 49 % 128 ∧ d.get (Reg.THK_RINGr_DLY_LE r) = (arr - (s.dev.ring r).t0) % 65536 ∧
    d.ringSt r = rsFAILED ∧ d.isOn Reg.THK_FLAG_DISCERR_F = true ∧ (d.ring r).disc = 0 ∧
    RegsBut s.dev d [Reg.THK_RINGr_CFG r, Reg.THK_RINGr_DLY r, Reg.THK_RINGr_STAT r, Reg.THK_FLAG] := by
  refine ⟨_, (RingCommand.disc r false pl arr).answers hs hr, ?_⟩
  simp only [s.start.discReturn_failed r arr h hd hn]
  obtain ⟨hregs, hfound, hle, -⟩ := s.start.discNoted_spec r (arr - (s.dev.ring r).t0) (Nat.mod_lt (pl / 2 ^ 49) (by decide : 0 < 128))
  rw [show s.start.ring r = s.dev.ring r from rfl]
  generalize s.start.discNoted r (pl / 2 ^ 49 % 128) (arr - (s.dev.ring r).t0) = x at *
  obtain ⟨hend, hst, hflag, hring⟩ := x.discFailed_spec r { s.dev.ring r with disc := 0 }
  refine ⟨(Dev.get_of_reg (hend _ ?_)).trans hfound, (Dev.get_of_reg (hend _ ?_)).trans hle, hst, hflag, congrArg RingSt.disc hring,
    (hregs.mono (by simp)).trans (hend.mono (by simp))⟩
  · simp [Reg.THK_RINGr_CFG_NFOUND, Reg.THK_RINGr_STAT, Reg.THK_FLAG]
    omega
  · simp [Reg.THK_RINGr_DLY_LE, Reg.THK_RINGr_STAT, Reg.THK_FLAG]
    omega

/-- With the right count DISC goes out west. -/
theorem disc_counted (hd : (s.dev.ring r).disc = 1) (hn : pl / 2 ^ 49 % 128 = s.dev.ncell r) : ∃ d, Answers (.discReturn r false pl arr) s d ∧
    d.get (Reg.THK_RINGr_CFG_NFOUND r) = s.dev.ncell r ∧ d.get (Reg.THK_RINGr_DLY_LE r) = (arr - (s.dev.ring r).t0) % 65536 ∧
    OutMsg.thk (2 * r + 1) (ctlBlock 0xB4 0) [] ∈ d.out ∧ (d.ring r).t1 = s.dev.time ∧ (d.ring r).le = arr - (s.dev.ring r).t0 ∧
    RegsBut s.dev d [Reg.THK_RINGr_CFG r, Reg.THK_RINGr_DLY r, Reg.THK_RINGr_STAT r] := by
  refine ⟨_, (RingCommand.disc r false pl arr).answers hs hr, ?_⟩
  simp only [s.start.discReturn_counted r arr h hd hn]
  obtain ⟨hregs, hfound, hle, -⟩ := s.start.discNoted_spec r (arr - (s.dev.ring r).t0) (Nat.mod_lt (pl / 2 ^ 49) (by decide : 0 < 128))
  rw [show s.start.ring r = s.dev.ring r from rfl]
  generalize s.start.discNoted r (pl / 2 ^ 49 % 128) (arr - (s.dev.ring r).t0) = x at *
  obtain ⟨hend, hsent, ht1, hl⟩ := ((x.setRing r { s.dev.ring r with disc := 2, le := arr - (s.dev.ring r).t0, t1 := s.start.time }).send
    (.thk (2 * r + 1) (ctlBlock 0xB4 0) [])).discFinish_spec r
  refine ⟨(Dev.get_of_reg (hend _ ?_)).trans (hfound.trans hn), (Dev.get_of_reg (hend _ ?_)).trans hle,
    hsent _ (List.mem_append_right _ (List.mem_singleton_self _)), ht1.trans ?_, hl.trans ?_, (hregs.mono (by simp)).trans (hend.mono (by simp))⟩
  · simp [Reg.THK_RINGr_CFG_NFOUND, Reg.THK_RINGr_STAT]
  · simp [Reg.THK_RINGr_DLY_LE, Reg.THK_RINGr_STAT]
  · rw [Dev.ring_send, Dev.ring_setRing]
    rfl
  · rw [Dev.ring_send, Dev.ring_setRing]

/-- The return in the west ends the measurement. -/
theorem disc_west (hd : (s.dev.ring r).disc = 2) : ∃ d, Answers (.discReturn r true pl arr) s d ∧
    d.get (Reg.THK_RINGr_DLY_LW r) = (arr - (s.dev.ring r).t1) % 65536 ∧ RegsBut s.dev d [Reg.THK_RINGr_DLY r, Reg.THK_RINGr_STAT r] := by
  refine ⟨_, (RingCommand.disc r true pl arr).answers hs hr, ?_⟩
  simp only [s.start.discReturn_west r arr h hd]
  rw [show s.start.ring r = s.dev.ring r from rfl]
  have hset : RegsBut s.dev (s.start.set (Reg.THK_RINGr_DLY_LW r) (arr - (s.dev.ring r).t1)) [Reg.THK_RINGr_DLY r] :=
    RegsBut.set (e := s.start) (RegsBut.refl s.dev _) _ _ (by simp [Reg.THK_RINGr_DLY, Reg.THK_RINGr_DLY_LW])
  obtain ⟨hend, -⟩ := (s.start.set (Reg.THK_RINGr_DLY_LW r) (arr - (s.dev.ring r).t1)).discFinish_spec r
  refine ⟨(Dev.get_of_reg (hend _ ?_)).trans (Dev.get_set_same _ (Reg.THK_RINGr_DLY_LW r) _ (by simp [Reg.THK_RINGr_DLY_LW])
    (by simp [Reg.THK_RINGr_DLY_LW])), (hset.mono (by simp)).trans (hend.mono (by simp))⟩
  simp [Reg.THK_RINGr_DLY_LW, Reg.THK_RINGr_STAT]

end

/-! ### The statement -/

/-- Settles O26, clause by clause: COLLECT, the returns of DISC, records, alarms, rediscovery, and the rings that there are not. -/
theorem ringDiscoveryAndTelemetry : Obligations.RingDiscoveryAndTelemetry := by
  unfold Obligations.RingDiscoveryAndTelemetry
  refine fun s hs => ⟨ring_collect hs, fun r hr => ⟨?_, ?_, ?_, ?_, ?_, ?_, ?_, ?_, ?_, ?_, ?_, ?_, ?_⟩, fun r hr west pl arr recs p i hi => ?_⟩
  · exact fun pl arr h hd => disc_eastIdle hs hr arr h hd
  · exact fun pl arr h hd => disc_westIdle hs hr arr h hd
  · exact fun pl arr h hd hn => disc_failed hs hr arr h hd hn
  · exact fun pl arr h hd hn => disc_counted hs hr arr h hd hn
  · exact fun pl arr h hd => disc_west hs hr arr h hd
  · exact telem_stripped hs hr
  · exact telem_counted hs hr
  · exact telem_malformed hs hr
  · exact telem_base hs hr
  · exact fun p arr hp i hi => ring_blockBad hs hr p arr hp hi
  · exact ring_alarm hs hr
  · exact ring_rediscoverRefused hs hr
  · exact ring_rediscovered hs hr
  · simp only [List.mem_cons, List.not_mem_nil, or_false] at hi
    rcases hi with rfl | rfl | rfl | rfl | rfl | rfl | rfl
    · exact (RingCommand.disc r west pl arr).ignored hs hr
    · exact (RingCommand.telem r recs).ignored hs hr
    · exact (RingCommand.alarm r p).ignored hs hr
    · exact (RingCommand.loop r p).ignored hs hr
    · exact (RingCommand.heal r).ignored hs hr
    · exact (RingCommand.rediscover r).ignored hs hr
    · exact (RingCommand.multiHeal r).ignored hs hr

end Sys2Proof.Machine
end

section
/-! PROOFS. Core clocks pass (R28, R46): what the allocator’s service of standing requests leaves, what `n` clocks leave, and what they do to the
counter. -/

set_option Elab.async false

namespace Sys2Proof.Machine

/-! ### Service of the standing requests (R28) -/

/-- `d` with the registers, the pool and the queues of `e`; the granules that a command holds stay. -/
def Dev.servedAs (d e : Dev) : Dev :=
  { d with regs := e.regs, evt := e.evt, pool := { e.pool with now := d.pool.now }, host := { d.host with queues := e.host.queues } }

/-- The allocator has served requests between `d` and `e`. -/
def Served (d e : Dev) : Prop := e = d.servedAs e ∧ RegsBut d e poolRegs

theorem Served.refl (d : Dev) : Served d d := ⟨rfl, RegsBut.refl d _⟩

theorem Served.trans {d e f : Dev} (h : Served d e) (g : Served e f) : Served d f :=
  ⟨g.1.trans (congrArg (·.servedAs f) h.1), h.2.trans g.2⟩

theorem Served.withPool {d e : Dev} (h : Served d e) (x : PoolSt) (hn : x.now = e.pool.now := by rfl) : Served d { e with pool := x } :=
  h.trans ⟨by rw [Dev.servedAs, ← hn], RegsBut.refl e _⟩

theorem Dev.poolPut_served (d : Dev) (u : Nat) (p : PoolUser) : Served d (d.poolPut u p) := by
  refine ⟨?_, d.poolPut_regs u p⟩
  unfold Dev.poolPut onlyIf
  dsimp only
  split <;> split <;> rfl

theorem Dev.giveBack_served (d : Dev) (h : Hold) : Served d (d.giveBack h) := d.poolPut_served _ _

theorem Dev.poolClk_served_as (d : Dev) : Served d d.poolClk := by
  rw [Dev.poolClk_frame]
  exact (Served.refl d).withPool _

theorem Served.of_standing {d t : Dev} {u : Nat} (h : d.standing u = some t) : Served d t := by
  unfold Dev.standing at h
  split at h
  · cases h
  · split at h
    · split at h
      · rcases Dev.grantOne_cases h with ⟨-, rfl⟩ | ⟨-, rfl⟩ | ⟨-, rfl⟩
        · exact d.poolPut_served _ _
        · exact d.poolPut_served _ _
        · exact d.poolPut_served _ _
      · cases h
    · split at h
      · obtain ⟨x, hx, rfl⟩ := Option.map_eq_some_iff.mp h
        obtain ⟨-, -, -, -, he⟩ := d.allocN_spec hx
        have hp : Served d x.2 := he ▸ d.poolPut_served _ _
        exact hp.trans ⟨rfl, RegsBut.refl _ _⟩
      · cases h

theorem Dev.servedOne_served (d : Dev) (u : Nat) : Served d (d.servedOne u) := (Served.refl d).withPool _

theorem Served.of_serveNext {α : Type} {d : Dev} {x : Option (Nat × α) × Dev} (h : d.serveNext (α := α) [] = some x) : Served d x.2 := by
  obtain ⟨u, _, hu⟩ := List.exists_of_findSome?_eq_some h
  obtain ⟨t, ht, rfl⟩ := Option.map_eq_some_iff.mp hu
  exact (Served.of_standing ht).trans (t.servedOne_served u)

theorem Served.serve {α : Type} (d : Dev) (n : Nat) : Served d (d.serve (α := α) [] n).2 := by
  induction n generalizing d with
  | zero => exact Served.refl d
  | succ n ih =>
    unfold Dev.serve
    split
    · exact Served.refl d
    next x t hx => exact (Served.of_serveNext hx).trans (ih t)

theorem Dev.standingServed_served (d : Dev) (n : Nat) : Served d (d.standingServed n) := by
  unfold Dev.standingServed
  split
  · exact Served.refl d
  · exact (d.poolClk_served_as.trans (Served.serve d.poolClk _)).withPool _

theorem Dev.freesServed_served (d : Dev) (n : Nat) : Served d (d.freesServed n) := by
  unfold Dev.freesServed
  exact forEach_keeps (Served d) _ _ _ (d.poolClk_served_as.withPool _) (fun x t ht => ht.trans (t.giveBack_served x))

/-! ### What passing clocks leave -/

/-- `d` with what passing clocks change taken from `e`. -/
def Dev.passedAs (d e : Dev) : Dev :=
  { d with regs := e.regs, evt := e.evt, time := e.time, clocks := e.clocks, clkRegs := e.clkRegs, freeUsed := e.freeUsed, adc := e.adc,
           pool := { e.pool with now := d.pool.now },
           clk := { d.clk with slew := e.clk.slew, slewUsed := e.clk.slewUsed, phErr := e.clk.phErr, lockRun := e.clk.lockRun },
           prt := { d.prt with evaluated := e.prt.evaluated }, host := { d.host with queues := e.host.queues } }

/-- Core clocks have passed between `d` and `e`, and the allocator has served on them. -/
structure Passing (d e : Dev) : Prop where
  /-- Nothing else differs. -/
  frame : e = d.passedAs e
  /-- Nor any register of the phases, of an event or of a flag but the pool’s. -/
  regs : RegsBut d e clockRegs
  /-- The phase of the frame stands. -/
  phase : e.get Reg.FRM_STAT_PHASE = d.get Reg.FRM_STAT_PHASE
  /-- The count of clocks does not go back. -/
  clocks : d.clocks ≤ e.clocks
  /-- Once evaluated, the trip sources stay so. -/
  evaluated : d.prt.evaluated = true → e.prt.evaluated = true

theorem Passing.refl (d : Dev) : Passing d d := ⟨rfl, RegsBut.refl d _, rfl, le_rfl, id⟩

theorem Passing.trans {d e f : Dev} (h : Passing d e) (g : Passing e f) : Passing d f where
  frame := g.frame.trans (congrArg (·.passedAs f) h.frame)
  regs := h.regs.trans g.regs
  phase := g.phase.trans h.phase
  clocks := h.clocks.trans g.clocks
  evaluated := g.evaluated ∘ h.evaluated

theorem Served.passing {d e : Dev} (h : Served d e) : Passing d e where
  frame := h.1.trans (by rw [h.1]; rfl)
  regs := h.2.mono (by decide)
  phase := Dev.get_of_reg (h.2 _ (by decide))
  clocks := le_of_eq (congrArg Dev.clocks h.1).symm
  evaluated he := (congrArg (fun t => t.prt.evaluated) h.1).trans he

/-! ### The clocks themselves (R38, R45–R47, R77) -/

theorem Dev.refPass_frame (d : Dev) (k : Nat) : d.refPass k = { d with
    freeUsed := (d.refPass k).freeUsed, clk := { d.clk with phErr := (d.refPass k).clk.phErr, lockRun := (d.refPass k).clk.lockRun } } := by
  unfold Dev.refPass
  split
  · rfl
  · dsimp only
    split <;> rfl

theorem Dev.adcPass_passing (d : Dev) (clk : Nat) (at_ : Nat → Nat) : Passing d (d.adcPass clk at_) := by
  obtain ⟨he, hr⟩ := (Converts.refl d).adcPass clk at_
  refine ⟨he.trans (by rw [he]; rfl), hr.mono (by decide), Dev.get_of_reg (hr _ (by decide)), le_of_eq (congrArg Dev.clocks he).symm, fun h => ?_⟩
  exact (congrArg (fun t => t.prt.evaluated) he).trans h

theorem Dev.slewed_passing (d : Dev) (k : Nat) : Passing d (d.slewed k) := ⟨rfl, RegsBut.refl d _, rfl, le_rfl, id⟩

theorem Dev.refPass_passing (d : Dev) (k : Nat) : Passing d (d.refPass k) := by
  rw [d.refPass_frame k]
  exact ⟨rfl, RegsBut.refl d _, rfl, le_rfl, id⟩

/-- The counter stands at `t`, `n` clocks on. -/
theorem Dev.counted_passing (d : Dev) (t n : Nat) : Passing d { d with time := t, clocks := d.clocks + n, prt := { d.prt with evaluated := true } } :=
  ⟨rfl, RegsBut.refl d _, rfl, Nat.le_add_right _ _, fun _ => rfl⟩

theorem Dev.setPllst_passing (d : Dev) (v : Nat) : Passing d (d.set Reg.CLK_STAT_PLLST v) :=
  ⟨rfl, (RegsBut.refl d _).set _ _ (by decide), d.get_set_off _ _ _ (by decide), le_rfl, id⟩

theorem Dev.setClkIn_passing (d : Dev) (v : Nat) : Passing d (d.set Reg.FRM_STAT_CLK_IN v) :=
  ⟨rfl, (RegsBut.refl d _).set _ _ (by decide), d.get_set_apart _ _ _ (by decide) (by decide) (by decide), le_rfl, id⟩

/-- What `n` clocks make of the counter, its clocks, and the PLL’s state. -/
structure Counts (d : Dev) (n : Nat) (e : Dev) : Prop where
  clocks : e.clocks = d.clocks + n
  time : e.time = d.counterIn n
  evaluated : e.prt.evaluated = true
  idle : d.pllst = pIDLE → e.pllst = pBAND
  stat : d.pllst ≠ pIDLE → e.reg Reg.CLK_STAT = d.reg Reg.CLK_STAT

theorem Counts.same {d e f : Dev} {n : Nat} (h : Counts d n e) (hc : f.clocks = e.clocks) (ht : f.time = e.time)
    (he : f.prt.evaluated = e.prt.evaluated) (hs : f.reg Reg.CLK_STAT = e.reg Reg.CLK_STAT) : Counts d n f where
  clocks := hc.trans h.clocks
  time := ht.trans h.time
  evaluated := he.trans h.evaluated
  idle hp := (Dev.get_of_reg hs).trans (h.idle hp)
  stat hp := hs.trans (h.stat hp)

theorem Counts.served {d e f : Dev} {n : Nat} (h : Counts d n e) (g : Served e f) : Counts d n f :=
  h.same ((congrArg Dev.clocks g.1).trans rfl) ((congrArg Dev.time g.1).trans rfl) ((congrArg (fun t => t.prt.evaluated) g.1).trans rfl)
    (g.2 _ (by decide))

/-- The PLL leaves IDLE on the first clock (R45). -/
theorem counts_of_counted {d e : Dev} {n : Nat} (hc : e.clocks = d.clocks + n) (ht : e.time = d.counterIn n) (he : e.prt.evaluated = true)
    (hs : e.reg Reg.CLK_STAT = d.reg Reg.CLK_STAT) : Counts d n (if e.pllst = pIDLE then e.set Reg.CLK_STAT_PLLST pBAND else e) := by
  have hp : e.pllst = d.pllst := Dev.get_of_reg hs
  split
  · next h => exact ⟨hc, ht, he, fun _ => e.get_set_fits _ (by decide) (by decide) (by decide), fun hne => absurd (hp.symm.trans h) hne⟩
  · next h => exact ⟨hc, ht, he, fun hi => absurd (hp.trans hi) h, fun _ => hs⟩

theorem Dev.clocksPass_passing (d : Dev) (n : Nat) : Passing d (d.clocksPass n) ∧ (n ≠ 0 → Counts d n (d.clocksPass n)) := by
  unfold Dev.clocksPass
  by_cases hn : n = 0
  · rw [if_pos hn]
    exact ⟨Passing.refl d, absurd hn⟩
  · rw [if_neg hn]
    extract_lets t s1 s2 _ s4 s5 s6 s7
    have hp2 : Passing d s2 := ((d.adcPass_passing _ _).trans (s1.slewed_passing _)).trans (Dev.refPass_passing _ _)
    have hc2 : s2.reg Reg.CLK_STAT = d.reg Reg.CLK_STAT ∧ s2.clocks = d.clocks := by
      obtain ⟨he, hb⟩ := (Converts.refl d).adcPass (d.clocks + n) (fun k => d.counterIn (k - d.clocks) % 2 ^ 64)
      have hf := (s1.slewed (s1.slewIn n)).refPass_frame (s1.refCycles n)
      exact ⟨(congrArg (·.reg Reg.CLK_STAT) hf).trans (hb _ (by decide)), (congrArg Dev.clocks hf).trans ((congrArg Dev.clocks he).trans rfl)⟩
    clear_value s2
    have hp5 : Passing d s5 := by
      have hp4 : Passing d s4 := hp2.trans (s2.counted_passing t n)
      unfold s5
      split
      · exact hp4.trans (s4.setPllst_passing _)
      · exact hp4
    have hc5 : Counts d n s5 := counts_of_counted (e := s4) (congrArg (· + n) hc2.2) rfl rfl hc2.1
    clear_value s5
    have h6 : Passing d s6 ∧ Counts d n s6 := by
      unfold s6
      split
      · exact ⟨hp5.trans (s5.setClkIn_passing _), hc5.same rfl rfl rfl (((RegsBut.refl s5 [Reg.FRM_STAT]).set _ _ (by decide)) _ (by decide))⟩
      · exact ⟨hp5, hc5⟩
    clear_value s6
    have h7 : Passing d s7 ∧ Counts d n s7 := by
      unfold s7
      split
      · exact h6
      · exact ⟨h6.1.trans (s6.freesServed_served n).passing, h6.2.served (s6.freesServed_served n)⟩
    clear_value s7
    exact ⟨h7.1.trans ⟨rfl, RegsBut.refl _ _, rfl, le_rfl, id⟩, fun _ => h7.2.same rfl rfl rfl rfl⟩

theorem Dev.pass_passing (d : Dev) (n : Nat) : Passing d (d.pass n) := by
  unfold Dev.pass
  split
  · exact Passing.refl d
  · exact (d.clocksPass_passing n).1.trans (Dev.standingServed_served _ _).passing

theorem Dev.pass_counts (d : Dev) {n : Nat} (hn : n ≠ 0) : Counts d n (d.pass n) := by
  rw [Dev.pass, if_neg hn]
  exact ((d.clocksPass_passing n).2 hn).served (Dev.standingServed_served _ _)

/-! ### One clock on an empty queue -/

theorem step_empty {s : State} (h : s.pending = []) : step s = .next { s with dev := s.start.coreClock.settle } := by
  obtain ⟨d, q⟩ := s
  cases h
  rfl

theorem Dev.coreClock_reset {d : Dev} (h : d.inReset = true) : d.coreClock = d := if_pos h

theorem Dev.coreClock_live {d : Dev} (h : d.inReset = false) : d.coreClock = d.pass 1 := by rw [Dev.coreClock, h]; rfl

theorem Dev.coreClock_regs (d : Dev) : RegsBut d d.coreClock clockRegs := by
  unfold Dev.coreClock
  split
  · exact RegsBut.refl d _
  · exact (d.pass_passing 1).regs

section
variable {d : Dev} {n : Nat}

theorem Dev.counterIn_unlocked (h : d.clk.locked1 = false) : d.counterIn n = d.time := by
  rw [Dev.counterIn, h]
  rfl

theorem Dev.counterIn_unslewed (h : d.clk.locked1 = true) (h0 : d.slewIn n = 0) : d.counterIn n = d.time + 16 * n := by
  rw [Dev.counterIn, h, h0]
  exact ite_self _

theorem Dev.counterIn_ahead (h : d.clk.locked1 = true) (hs : 0 ≤ d.clk.slew) : d.counterIn n = d.time + 16 * n - d.slewIn n := by
  rw [Dev.counterIn, h]
  exact if_pos hs

theorem Dev.counterIn_behind (h : d.clk.locked1 = true) (hs : d.clk.slew < 0) : d.counterIn n = d.time + 16 * n + d.slewIn n := by
  rw [Dev.counterIn, h]
  exact if_neg (Int.not_le.mpr hs)

/-- A single clock slews one TU at most. -/
theorem Dev.slewIn_one (h : d.slewIn 1 ≠ 0) : d.slewIn 1 = 1 := by
  have hgap : (d.sinceTick + 1) / d.slewGap ≤ d.sinceTick / d.slewGap + 1 := by
    have hpos : 0 < d.slewGap := Nat.lt_of_lt_of_le Nat.zero_lt_one (Nat.le_max_left _ _)
    calc (d.sinceTick + 1) / d.slewGap ≤ (d.sinceTick + d.slewGap) / d.slewGap := Nat.div_le_div_right (by omega)
      _ = d.sinceTick / d.slewGap + 1 := Nat.add_div_right _ hpos
  unfold Dev.slewIn at h ⊢
  omega

end

/-- Settles O2: the clock on an empty queue is `pass 1`, whose parts `Passing` and `Counts` say what they leave. -/
theorem emptyQueueClock : Obligations.EmptyQueueClock := by
  unfold Obligations.EmptyQueueClock
  intro s hq
  have hcounts : s.live → Counts s.start 1 s.start.coreClock := fun hs => by
    rw [Dev.coreClock_live (d := s.start) hs]
    exact s.start.pass_counts (by decide)
  refine ⟨s.start.coreClock, step_empty hq, s.start.coreClock_regs, fun h => Dev.coreClock_reset h, fun hs => ⟨(hcounts hs).clocks, (hcounts hs).evaluated⟩,
    fun hs => (hcounts hs).idle, fun hs hl => ?_, fun hs hl h0 => ?_, fun hs hl h0 hp => ?_, fun hs hl h0 hn => ?_⟩ <;> rw [(hcounts hs).time]
  · exact Dev.counterIn_unlocked hl
  · exact Dev.counterIn_unslewed hl h0
  · exact (Dev.counterIn_ahead (d := s.start) hl (le_of_lt hp)).trans (congrArg (s.dev.time + 16 * 1 - ·) (Dev.slewIn_one h0))
  · exact (Dev.counterIn_behind (d := s.start) hl hn).trans (congrArg (s.dev.time + 16 * 1 + ·) (Dev.slewIn_one h0))

end Sys2Proof.Machine
end

section
/-! PROOFS. What a trip latch and an overrun leave beside registers (R62, R288, R289): everything but the records of what has happened, and the device
state, which stays or is TRIPPED. -/

set_option Elab.async false

namespace Sys2Proof.Machine

/-! ### The device apart from its reports -/

/-- The device without what reports change: its registers, the logs, the messages, the local channels, the snapshots, the marks of trips and free
values. -/
def Dev.steady (s : Dev) : Dev :=
  { s with regs := [], evt := {}, freeUsed := 0, out := [], log := [], fram := {}, host := {}, img := {}, hb := [], snp := {}, prt := {} }

theorem forEach_steady {α : Type} (l : List α) (f : α → Dev → Dev) (t : Dev) (h : ∀ a t, (f a t).steady = t.steady) : (forEach l f t).steady = t.steady :=
  forEach_keeps (fun u => u.steady = t.steady) l f t rfl (fun a u hu => (h a u).trans hu)

section
variable (s : Dev)

theorem Dev.event_steady (f : Fld) : (s.event f).steady = s.steady := (congrArg Dev.steady (s.event_frame f)).trans rfl

theorem Dev.framLog_steady (r : LogRec) : (s.framLog r).steady = s.steady := by
  unfold Dev.framLog
  cases s.framLogFull <;> rfl

theorem Dev.framLogged_steady (r : LogRec) (next : Dev → LogRec × Dev) (hn : ∀ t, (next t).2.steady = t.steady) :
    (s.framLogged r next).steady = s.steady := by
  unfold Dev.framLogged
  dsimp only
  split
  · rw [Dev.framLog_steady, hn, Dev.framLog_steady]
  · exact s.framLog_steady r

theorem Dev.logAt_steady (a b c e f : Nat) (g : Bool) : (s.logAt a b c e f g).steady = s.steady := by
  unfold Dev.logAt
  dsimp only
  split
  · exact Dev.framLogged_steady _ _ _ (fun _ => rfl)
  · rfl

theorem Dev.enter_steady (n c : Nat) : (s.enter n c).steady = s.steady := by
  unfold Dev.enter
  dsimp only
  split
  · rfl
  · exact (Dev.logAt_steady _ _ _ _ _ _ _).trans (Dev.event_steady _ _)

theorem Dev.hbOut_steady (n stamp out : Nat) : (s.hbOut n stamp out).steady = s.steady := by
  unfold Dev.hbOut
  dsimp only
  split <;> rfl

theorem Dev.hbFault_steady (stamp n : Nat) : (s.hbFault stamp n).steady = s.steady := by
  unfold Dev.hbFault Dev.hbSafe
  dsimp only
  split
  · rfl
  · split
    · exact Dev.hbOut_steady _ _ _ _
    · split
      · rfl
      · exact Dev.hbOut_steady _ _ _ _

theorem Dev.withSnp_steady (x : SnpSt) : ({ s with snp := x } : Dev).steady = s.steady := rfl
theorem Dev.set_steady (f : Fld) (v : Nat) : (s.set f v).steady = s.steady := rfl
theorem Dev.count_steady (f : Fld) (n : Nat) : (s.count f n).steady = s.steady := rfl

theorem Dev.freeze_steady (k src stamp detail : Nat) (img : TickImg) (r : Bool) : (s.freeze k src stamp detail img r).steady = s.steady := by
  simp only [Dev.freeze, Dev.askedBuf, Dev.withSnp_steady, Dev.logAt_steady, Dev.count_steady, Dev.set_steady]

theorem Dev.snapTrigger_steady (src stamp detail : Nat) : (s.snapTrigger src stamp detail).2.steady = s.steady := by
  unfold Dev.snapTrigger Dev.snapInto
  split
  · rfl
  · split
    · unfold Dev.mergeTrig
      split <;> rfl
    · split
      · rfl
      · exact s.freeze_steady _ _ _ _ _ _

theorem Dev.snapDetail_steady (c : Nat) : (s.snapDetail c).steady = s.steady := by
  unfold Dev.snapDetail
  (repeat' split) <;> rfl

theorem Dev.thkAll_steady (b : Nat) : (s.thkAll b).steady = s.steady := forEach_steady _ _ _ (fun a t => by split <;> rfl)

end

/-! ### Trips -/

/-- A trip, or a report, has happened between `d` and `e`. -/
structure Tripping (d e : Dev) : Prop where
  /-- Reports alone differ. -/
  steady : e.steady = d.steady
  /-- The device state stays, or is TRIPPED. -/
  st : e.st = d.st ∨ e.st = stTRIPPED

theorem Tripping.refl (d : Dev) : Tripping d d := ⟨rfl, .inl rfl⟩

theorem Tripping.trans {d e f : Dev} (h : Tripping d e) (g : Tripping e f) : Tripping d f :=
  ⟨g.steady.trans h.steady, g.st.elim (fun hg => h.st.imp hg.trans hg.trans) .inr⟩

/-- Whatever leaves HIF_STAT. -/
theorem tripping_of {d e : Dev} {l : List Nat} (hs : e.steady = d.steady) (hr : RegsBut d e l) (hl : Reg.HIF_STAT ∉ l := by decide) : Tripping d e :=
  ⟨hs, .inl (Dev.get_of_reg (f := Reg.HIF_STAT_STATE) (hr _ hl))⟩

section
variable {d e : Dev} (h : Tripping d e)
include h

theorem Tripping.onlyIf (c : Bool) (f : Dev → Dev) (hf : ∀ t, Tripping t (f t)) : Tripping d (onlyIf c f e) :=
  onlyIf_keeps (Tripping d) c f e h (fun t ht => ht.trans (hf t))

theorem Tripping.forEach {α : Type} (l : List α) (f : α → Dev → Dev) (hf : ∀ a t, Tripping t (f a t)) : Tripping d (forEach l f e) :=
  forEach_keeps (Tripping d) l f e h (fun a t ht => ht.trans (hf a t))

theorem Tripping.set (f : Fld) (v : Nat) (hf : f.off ≠ Reg.HIF_STAT := by decide) : Tripping d (e.set f v) :=
  h.trans (tripping_of rfl ((RegsBut.refl e [f.off]).set f v (by simp)) (by simpa using hf.symm))

theorem Tripping.raise (f : Fld) (hf : f.off ≠ Reg.HIF_STAT := by decide) : Tripping d (e.raise f) :=
  h.trans (tripping_of rfl ((RegsBut.refl e [f.off]).raise f (by simp)) (by simpa using hf.symm))

theorem Tripping.count (f : Fld) (n : Nat) (hf : f.off ≠ Reg.HIF_STAT := by decide) : Tripping d (e.count f n) :=
  h.trans (tripping_of rfl ((RegsBut.refl e [f.off]).count f n (by simp)) (by simpa using hf.symm))

theorem Tripping.event (f : Fld) (hf : f.off ≠ Reg.HIF_STAT := by decide) : Tripping d (e.event f) :=
  h.trans (tripping_of (e.event_steady f) ((RegsBut.refl e [f.off]).event f (by simp)) (by simpa using hf.symm))

theorem Tripping.logAt (a b c x y : Nat) (g : Bool) : Tripping d (e.logAt a b c x y g) :=
  h.trans (tripping_of (e.logAt_steady a b c x y g) (e.logAt_regs a b c x y g))

theorem Tripping.firstIs (low stamp : Nat) : Tripping d (e.firstIs low stamp) :=
  h.trans (tripping_of rfl (((RegsBut.refl e [Reg.PRT_FIRST, Reg.PRT_FSTAMP_LO, Reg.PRT_FSTAMP_HI]).set Reg.PRT_FIRST_CODE low (by decide)).setPair _ _ _
    (by decide) (by decide)))

theorem Tripping.withPrt (x : PrtSt) : Tripping d { e with prt := x } := h.trans ⟨rfl, .inl rfl⟩
theorem Tripping.withImg (x : ImgSt) : Tripping d { e with img := x } := h.trans ⟨rfl, .inl rfl⟩

theorem Tripping.snapDetail (c : Nat) : Tripping d (e.snapDetail c) := by
  refine h.trans ⟨e.snapDetail_steady c, .inl ?_⟩
  unfold Dev.snapDetail
  (repeat' split) <;> rfl

theorem Tripping.firstNote (b : Bool) (low stamp : Nat) : Tripping d (e.firstNote b low stamp) := by
  unfold Dev.firstNote
  split
  · exact ((h.set Reg.PRT_FIRST_VALID _).firstIs low stamp).withPrt _
  · split
    · exact (h.firstIs low stamp).snapDetail low
    · exact h

theorem Tripping.tripEvent : Tripping d e.tripEvent := by
  unfold Dev.tripEvent
  split
  · exact h.withImg _
  · exact h.event _

theorem Tripping.thkAll (b : Nat) : Tripping d (e.thkAll b) :=
  h.trans (tripping_of (l := []) (e.thkAll_steady b) (fun o _ => Dev.reg_of_regs (e.thkAll_regs b) o))

theorem Tripping.tripLog (stamp c : Nat) (first : Bool) : Tripping d (e.tripLog stamp c first) := by
  unfold Dev.tripLog
  split
  · exact h.withImg _
  · exact h.logAt _ _ _ _ _ _

theorem Tripping.latchOne (stamp c : Nat) (first stop : Bool) : Tripping d (e.latchOne stamp c first stop) := by
  have hraise : Tripping d (e.raise (latF c)) := h.raise _ (by rcases latF_off c with ho | ho <;> rw [ho] <;> decide)
  unfold Dev.latchOne
  exact (hraise.thkAll _).tripLog _ _ _

theorem Tripping.hbTripAll (stamp : Nat) : Tripping d (e.hbTripAll stamp) :=
  h.trans (tripping_of (forEach_steady _ _ _ (fun n t => t.hbFault_steady stamp n)) (e.hbTripAll_regs stamp))

theorem Tripping.snapTrigger (src stamp detail : Nat) : Tripping d (e.snapTrigger src stamp detail).2 :=
  h.trans (tripping_of (e.snapTrigger_steady src stamp detail) (e.snapTrigger_regs src stamp detail))

omit h in
/-- A state that is entered stands. -/
theorem Dev.enter_st (s : Dev) (n c : Nat) (hn : n < 16) : (s.enter n c).st = n := by
  unfold Dev.enter
  dsimp only
  split
  · assumption
  · have hset : (s.set Reg.HIF_STAT_STATE n).st = n := s.get_set_fits _ (by decide) (by decide) hn
    exact (Dev.get_of_reg (((RegsBut.refl _ (Reg.HIF_EVT :: logRegs)).event _ (by decide)).logNow _ _ _ (by decide) _ (by decide))).trans hset

theorem Tripping.tripMove (low : Nat) : Tripping d (e.tripMove low) := by
  unfold Dev.tripMove
  split
  · exact h
  · exact h.trans ⟨e.enter_steady _ _, .inr (e.enter_st _ _ (by decide))⟩

theorem Tripping.tripEnter (low : Nat) : Tripping d (e.tripEnter low) := by
  unfold Dev.tripEnter
  split
  · split
    · split
      · exact h.trans ⟨rfl, .inl rfl⟩
      · exact h
    · exact h.tripMove low
  · exact h.tripMove low

end

theorem Dev.latch_tripping (s : Dev) (stamp : Nat) (codes : List Nat) (stop : Bool) : Tripping s (s.latch stamp codes stop) := by
  unfold Dev.latch
  extract_lets new wasEmpty
  clear_value new
  cases new with
  | nil => exact Tripping.refl s
  | cons low rest =>
    dsimp -zeta only
    extract_lets s1 s2 s3 s4 _ s5 s6
    have h1 : Tripping s s1 := ((Tripping.refl s).raise _).firstNote _ _ _
    have h2 : Tripping s s2 := h1.onlyIf _ _ (fun t => (((Tripping.refl t).count _ _).raise _).tripEvent)
    have h3 : Tripping s s3 := h2.forEach _ _ (fun c t => (Tripping.refl t).latchOne _ _ _ _)
    have h5 : Tripping s s5 := (h3.hbTripAll stamp).withPrt _
    have h6 : Tripping s s6 := h5.onlyIf _ _ (fun t => (Tripping.refl t).snapTrigger _ _ _)
    exact h6.onlyIf _ _ (fun t => (Tripping.refl t).tripEnter low)

/-! ### Overruns (R61, R62) -/

theorem Dev.ovrNote_first {s : Dev} (h : s.get Reg.FRM_OVR_CAUSE = 0) {cause : Nat} (hc : cause < 16) (frame : Nat) :
    (s.ovrNote cause frame).get Reg.FRM_OVR_CAUSE = cause ∧ (s.ovrNote cause frame).get Reg.FRM_OVR_FRAME = frame % 2 ^ 28 := by
  rw [Dev.ovrNote, if_pos h]
  refine ⟨?_, Dev.get_set_same _ _ _ (by decide) (by decide)⟩
  rw [Dev.get_set_apart _ Reg.FRM_OVR_FRAME _ _ (by decide) (by decide) (by decide)]
  exact s.get_set_fits _ (by decide) (by decide) hc

theorem Dev.ovrNote_later {s : Dev} (h : s.get Reg.FRM_OVR_CAUSE ≠ 0) (cause frame : Nat) : s.ovrNote cause frame = s := if_neg h

theorem Dev.ovrNote_steady (s : Dev) (cause frame : Nat) : (s.ovrNote cause frame).steady = s.steady := by
  unfold Dev.ovrNote
  split <;> rfl

/-- An overrun has happened: the mark of the frame, and FRM_OVR as the note of it left it. -/
structure Overrun (cause : Nat) (d e : Dev) : Prop where
  regs : RegsBut d e overrunRegs
  steady : e.steady = { d.steady with frm := { d.frm with overrun := true } }
  st : e.st = d.st ∨ e.st = stTRIPPED
  flag : e.isOn Reg.FRM_FLAG_OVR_F = true
  latched : e.isOn (latF 0x20) = true
  note : e.reg Reg.FRM_OVR = (d.ovrNote cause d.frame).reg Reg.FRM_OVR

theorem Dev.overrun_happens (s : Dev) (cause : Nat) : Overrun cause s (s.overrun cause) := by
  obtain ⟨hregs, -, hflag, hlat⟩ := s.overrun_spec cause
  suffices h : (s.overrun cause).steady = { s.steady with frm := { s.frm with overrun := true } } ∧
      ((s.overrun cause).st = s.st ∨ (s.overrun cause).st = stTRIPPED) ∧
      (s.overrun cause).reg Reg.FRM_OVR = (s.ovrNote cause s.frame).reg Reg.FRM_OVR by
    exact ⟨hregs, h.1, h.2.1, hflag, hlat, h.2.2⟩
  unfold Dev.overrun
  extract_lets s1 _ s3 s4
  have h1 : s1.steady = s.steady ∧ RegsBut (s.ovrNote cause s.frame) s1 (Reg.FRM_FLAG :: logRegs) :=
    ⟨(Dev.logAt_steady _ _ _ _ _ _ _).trans (s.ovrNote_steady cause s.frame), ((RegsBut.refl _ _).raise _ (by decide)).logNow _ _ _ (by decide)⟩
  have hst1 : s1.st = s.st := by
    refine (Dev.get_of_reg (f := Reg.HIF_STAT_STATE) (h1.2 _ (by decide))).trans ?_
    unfold Dev.ovrNote
    split
    · exact (Dev.get_set_off _ _ _ _ (by decide)).trans (Dev.get_set_off _ _ _ _ (by decide))
    · rfl
  have hsteady3 : s3.steady = { s.steady with frm := { s.frm with overrun := true } } := by
    calc s3.steady = { s1.steady with frm := { s1.steady.frm with overrun := true } } := rfl
      _ = { s.steady with frm := { s.steady.frm with overrun := true } } := by rw [h1.1]
  have hregs3 : RegsBut s3 s4 tripRegs := (s3.latch_trips _ _ _).1.regs
  have hend : ∀ c, Tripping s3 (onlyIf c (fun t => (t.free.2.snapTrigger 2 (t.stamp 0) t.free.1.toNat).2) s4) ∧
      RegsBut s3 (onlyIf c (fun t => (t.free.2.snapTrigger 2 (t.stamp 0) t.free.1.toNat).2) s4) tripRegs := fun c =>
    ⟨(s3.latch_tripping _ _ _).onlyIf _ _ (fun t => (⟨rfl, .inl rfl⟩ : Tripping t t.free.2).snapTrigger _ _ _),
      hregs3.onlyIf _ _ (fun t ht => ht.trans ((t.free.2.snapTrigger_regs _ _ _).mono (by decide)))⟩
  obtain ⟨htrip, hreg⟩ := hend (s4.isOn Reg.FRM_CFG_OVRSNP)
  refine ⟨htrip.steady.trans hsteady3, ?_, (hreg _ (by decide)).trans (h1.2 _ (by decide))⟩
  rw [← hst1]
  exact htrip.st

end Sys2Proof.Machine
end

section
/-! PROOFS. The PLL and the offset (R36–R49, R275): what each event leaves of CLK_STAT, its flags and counters, and the clock’s own state. -/

set_option Elab.async false

namespace Sys2Proof.Machine

/-! ### Fields of one register -/

/-- A field given a value that fits shows it. -/
theorem Dev.get_put (s : Dev) (f : Fld) (v : Nat) (h : f.hi < 32 ∧ f.lo ≤ f.hi ∧ v < 2 ^ (f.hi + 1 - f.lo) := by decide) : (s.set f v).get f = v :=
  s.get_set_fits f h.1 h.2.1 h.2.2

/-- A field given a value leaves one of other bits. -/
theorem Dev.get_past (s : Dev) (f g : Fld) (v : Nat) (h : f.hi < 32 ∧ f.lo ≤ f.hi ∧ (g.hi < f.lo ∨ f.hi < g.lo) := by decide) :
    (s.set f v).get g = s.get g := s.get_set_apart f g v h.1 h.2.1 h.2.2

theorem Dev.isOn_past (s : Dev) (f g : Fld) (v : Nat) (h : f.hi < 32 ∧ f.lo ≤ f.hi ∧ (g.hi < f.lo ∨ f.hi < g.lo) := by decide) :
    (s.set f v).isOn g = s.isOn g := by rw [Dev.isOn, Dev.isOn, s.get_past f g v h]

theorem Dev.isOn_clear (s : Dev) (f : Fld) (h : f.hi < 32 ∧ f.lo ≤ f.hi ∧ 0 < 2 ^ (f.hi + 1 - f.lo) := by decide) : (s.set f 0).isOn f = false := by
  rw [Dev.isOn, s.get_put f 0 h]
  rfl

/-! ### Band search (R37, R45) -/

/-- The band is stored, and the PLL is in ACQ. -/
def Dev.bandStored (s : Dev) (band : Nat) : Dev := ((s.refCycle s.clk.phErr 0).set Reg.CLK_STAT_BAND band).set Reg.CLK_STAT_PLLST pACQ

theorem Dev.bandDone_band {s : Dev} (h : s.pllst = pBAND) (band : Nat) : s.bandDone band = s.bandStored band := by
  have hne : s.pllst ≠ pIDLE := by rw [h]; decide
  rw [Dev.bandDone]
  simp only [if_neg hne, if_pos h]
  rfl

theorem Dev.bandDone_idle {s : Dev} (h : s.pllst = pIDLE) (band : Nat) : s.bandDone band = (s.pass 1).bandStored band := by
  have hband : (s.pass 1).pllst = pBAND := (s.pass_counts (by decide)).idle h
  rw [Dev.bandDone]
  simp only [if_pos h, if_pos hband]
  rfl

theorem Dev.bandDone_else {s : Dev} (hb : s.pllst ≠ pBAND) (hi : s.pllst ≠ pIDLE) (band : Nat) : s.bandDone band = s := by
  rw [Dev.bandDone]
  simp only [if_neg hi, if_neg hb]

theorem Dev.bandStored_spec (s : Dev) (band : Nat) : (s.bandStored band).get Reg.CLK_STAT_BAND = band % 64 ∧ (s.bandStored band).clk.lockRun = 0 ∧
    (s.bandStored band).pllst = pACQ ∧ RegsBut s (s.bandStored band) [Reg.CLK_STAT] := by
  refine ⟨?_, rfl, Dev.get_set_fits _ _ (by decide) (by decide) (by decide), ?_⟩
  · rw [Dev.bandStored, Dev.get_set_apart _ Reg.CLK_STAT_PLLST _ _ (by decide) (by decide) (by decide)]
    exact Dev.get_set_same _ _ _ (by decide) (by decide)
  · exact RegsBut.set (RegsBut.set ((RegsBut.refl s _).same rfl) _ _ (by decide)) _ _ (by decide)

/-! ### Lock (R38, R49) -/

/-- The core runs on the PLL output. -/
def Dev.onPll (s : Dev) (phErr : Int) : Dev :=
  let s := (s.refCycle phErr 256).set Reg.CLK_STAT_PLLST pLOCK
  let s := (s.set Reg.CLK_STAT_SRC 0).set Reg.CLK_STAT_FREERUN 0
  { s with prt := { s.prt with clkLoss := false } }

theorem Dev.pllLock_acq {s : Dev} (h : s.pllst = pACQ) (e : Int) : s.pllLock e = (s.onPll e).firstLock := if_pos h

theorem Dev.onPll_stat (s : Dev) (e : Int) : (s.onPll e).pllst = pLOCK ∧ (s.onPll e).isOn Reg.CLK_STAT_SRC = false ∧
    (s.onPll e).isOn Reg.CLK_STAT_FREERUN = false ∧ (s.onPll e).unsync = s.unsync ∧ RegsBut s (s.onPll e) [Reg.CLK_STAT] := by
  refine ⟨?_, ?_, Dev.isOn_clear _ Reg.CLK_STAT_FREERUN, ?_, ?_⟩
  · exact ((Dev.get_past _ Reg.CLK_STAT_FREERUN _ _).trans (Dev.get_past _ Reg.CLK_STAT_SRC _ _)).trans (Dev.get_put _ Reg.CLK_STAT_PLLST pLOCK)
  · exact (Dev.isOn_past _ Reg.CLK_STAT_FREERUN _ _).trans (Dev.isOn_clear _ Reg.CLK_STAT_SRC)
  · exact ((Dev.isOn_past _ Reg.CLK_STAT_FREERUN _ _).trans (Dev.isOn_past _ Reg.CLK_STAT_SRC _ _)).trans (Dev.isOn_past _ Reg.CLK_STAT_PLLST _ _)
  · exact ((((RegsBut.refl (s.refCycle e 256) [Reg.CLK_STAT]).set _ _ (by decide)).set _ _ (by decide)).set _ _ (by decide)).same rfl

/-- The counter of the first lock: what the keeper, which has counted, shows when TKVALID is set, else 0 (R49). -/
def Dev.lockTime (s : Dev) : Nat := if s.isOn Reg.VLT_STAT_TKVALID then s.keeperTU else 0

theorem Dev.keeperCount_frame (s : Dev) : s.keeperCount = { s with vlt := s.keeperCount.vlt } := rfl

theorem Dev.setCounter_frame (s : Dev) (t : Nat) : s.setCounter t = { s with time := t, vlt := (s.setCounter t).vlt } := by
  have h : s.setCounter t = { s.keeperCount with time := t, vlt := (s.setCounter t).vlt } := rfl
  rw [s.keeperCount_frame] at h
  exact h

/-- Ticks begin: the next is the first at or after counter value `t`. -/
def Dev.ticksFrom (s : Dev) (t : Nat) : Dev :=
  { s with clk := { s.clk with locked1 := true }, frm := { s.frm with tickNo := cdiv t s.frameTU } }

/-- The counter starts. -/
def Dev.lockedFirst (s : Dev) : Dev := (s.keeperCount.setCounter s.keeperCount.lockTime).ticksFrom s.keeperCount.lockTime

theorem Dev.firstLock_eq (s : Dev) : s.firstLock = if s.clk.locked1 then s
    else if s.lockedFirst.straps / 4 % 2 = 1 ∧ s.lockedFirst.st = stBOOT then (s.lockedFirst.raise Reg.IMG_BOOT_RECOV).cmdReady else s.lockedFirst := rfl

theorem Dev.ticksFrom_frame (s : Dev) (t : Nat) : s.ticksFrom t = { s with clk := { s.clk with locked1 := true }, frm := (s.ticksFrom t).frm } := rfl

/-- The registers, the PLL’s own state, the trips and the straps are as they were. -/
def SameClock (d e : Dev) : Prop := e.regs = d.regs ∧ e.clk = d.clk ∧ e.prt = d.prt ∧ e.straps = d.straps

theorem Dev.keeperCount_same (s : Dev) : SameClock s s.keeperCount := by
  rw [Dev.keeperCount_frame]
  exact ⟨rfl, rfl, rfl, rfl⟩

theorem Dev.setCounter_same (s : Dev) (t : Nat) : SameClock s (s.setCounter t) ∧ (s.setCounter t).time = t := by
  rw [Dev.setCounter_frame]
  exact ⟨⟨rfl, rfl, rfl, rfl⟩, rfl⟩

/-- What the first lock leaves beside the keeper and the number of the next tick. -/
theorem Dev.lockedFirst_spec (s : Dev) : s.lockedFirst.regs = s.regs ∧ s.lockedFirst.time = s.keeperCount.lockTime ∧
    s.lockedFirst.clk = { s.clk with locked1 := true } ∧ s.lockedFirst.prt = s.prt ∧ s.lockedFirst.straps = s.straps := by
  obtain ⟨hr, hc, hp, hs⟩ := s.keeperCount_same
  obtain ⟨⟨hr', hc', hp', hs'⟩, ht⟩ := s.keeperCount.setCounter_same s.keeperCount.lockTime
  rw [Dev.lockedFirst, Dev.ticksFrom_frame]
  exact ⟨hr'.trans hr, ht, congrArg (fun x : ClkSt => { x with locked1 := true }) (hc'.trans hc), hp'.trans hp, hs'.trans hs⟩

theorem Dev.lockedFirst_st (s : Dev) : s.lockedFirst.st = s.st := Dev.get_of_reg (Dev.reg_of_regs s.lockedFirst_spec.1 _)

theorem Dev.lockedFirst_straps (s : Dev) : s.lockedFirst.straps = s.straps := s.lockedFirst_spec.2.2.2.2

theorem Dev.firstLock_again {s : Dev} (h : s.clk.locked1 = true) : s.firstLock = s := if_pos h

theorem Dev.firstLock_plain {s : Dev} (h : s.clk.locked1 = false) (hr : s.straps / 4 % 2 ≠ 1 ∨ s.st ≠ stBOOT) : s.firstLock = s.lockedFirst := by
  rw [Dev.firstLock_eq, h, if_neg (by decide), s.lockedFirst_st, s.lockedFirst_straps]
  exact if_neg (not_and_or.mpr hr)

theorem Dev.firstLock_recovery {s : Dev} (h : s.clk.locked1 = false) (hs : s.straps / 4 % 2 = 1) (hb : s.st = stBOOT) :
    s.firstLock = (s.lockedFirst.raise Reg.IMG_BOOT_RECOV).cmdReady := by
  rw [Dev.firstLock_eq, h, if_neg (by decide), s.lockedFirst_st, s.lockedFirst_straps]
  exact if_pos ⟨hs, hb⟩

/-- What the keeper has counted follows from the keeper and the main die’s time. -/
theorem Dev.keeperCount_keeperTU {d e : Dev} (hv : e.vlt = d.vlt) (ht : e.dieTime = d.dieTime) : e.keeperCount.keeperTU = d.keeperCount.keeperTU := by
  have hkeeper : e.keeperCount.vlt = d.keeperCount.vlt := by
    unfold Dev.keeperCount
    rw [hv, ht]
  rw [Dev.keeperTU, Dev.keeperTU, hkeeper]

theorem Dev.onPll_keeper (s : Dev) (e : Int) : (s.onPll e).keeperCount.keeperTU = s.keeperCount.keeperTU :=
  Dev.keeperCount_keeperTU rfl rfl

/-- The first lock loads the counter. -/
theorem Dev.onPll_lockTime (s : Dev) (e : Int) :
    (s.onPll e).keeperCount.lockTime = if s.isOn Reg.VLT_STAT_TKVALID then s.keeperCount.keeperTU else 0 := by
  obtain ⟨-, -, -, -, hregs⟩ := s.onPll_stat e
  have hvalid : (s.onPll e).keeperCount.isOn Reg.VLT_STAT_TKVALID = s.isOn Reg.VLT_STAT_TKVALID :=
    (Dev.isOn_of_regs (s.onPll e).keeperCount_same.1 _).trans (Dev.isOn_of_reg (hregs _ (by decide)))
  rw [Dev.lockTime, hvalid, s.onPll_keeper e]

/-! ### CMDRDY and the doorbells kept (R365) -/

/-- Doorbells have acted between `d` and `e`. -/
structure Belled (d e : Dev) : Prop where
  regs : RegsBut d e [Reg.HIF_FLAG, Reg.HIF_EVT]
  clk : e.clk = d.clk
  time : e.time = d.time
  prt : e.prt = d.prt

theorem Belled.refl (d : Dev) : Belled d d := ⟨RegsBut.refl d _, rfl, rfl, rfl⟩

theorem Belled.trans {d e f : Dev} (h : Belled d e) (g : Belled e f) : Belled d f :=
  ⟨h.regs.trans g.regs, g.clk.trans h.clk, g.time.trans h.time, g.prt.trans h.prt⟩

theorem Dev.dbErr_belled (s : Dev) : Belled s s.dbErr := by
  have hf := s.hifFlag_frame Reg.HIF_FLAG_DBERR_F
  exact ⟨(RegsBut.refl s _).hifFlag _ (by decide) (by decide), (congrArg Dev.clk hf).trans rfl, (congrArg Dev.time hf).trans rfl,
    (congrArg Dev.prt hf).trans rfl⟩

theorem Dev.setQueue_belled (s : Dev) (q : Nat) (x : QueueSt) : Belled s (s.setQueue q x) := ⟨RegsBut.refl s _, rfl, rfl, rfl⟩

theorem Dev.vecRearm_belled (s : Dev) (v : Nat) : Belled s (s.vecRearm v) := by
  rw [Dev.vecRearm_eq]
  refine onlyIf_keeps (Belled s) _ _ (s.rearm v) ⟨RegsBut.refl s _, rfl, rfl, rfl⟩ (fun t ht => ht.trans ?_)
  unfold Dev.vecFire
  split
  · exact Belled.refl t
  · rw [Dev.msix_frame]
    exact ⟨RegsBut.refl t _, rfl, rfl, rfl⟩

theorem Dev.sqtWrite_belled (s : Dev) (q v : Nat) : Belled s (s.sqtWrite q v) := by
  unfold Dev.sqtWrite
  dsimp only
  split
  · exact s.dbErr_belled
  · split
    · exact (s.setQueue_belled q _).trans (Dev.dbErr_belled _)
    · exact s.setQueue_belled q _

theorem Dev.cqhWrite_belled (s : Dev) (q v : Nat) : Belled s (s.cqhWrite q v) := by
  unfold Dev.cqhWrite
  dsimp only
  split
  · exact s.dbErr_belled
  · exact onlyIf_keeps (Belled s) _ _ _ (s.setQueue_belled q _) (fun t ht => ht.trans (t.vecRearm_belled _))

theorem Dev.cmdReady_belled (s : Dev) : Belled (s.raise Reg.HIF_STAT_CMDRDY) s.cmdReady := by
  refine forEach_keeps (Belled _) _ _ _ (Belled.refl _) (fun x t ht => forEach_keeps (Belled _) _ _ _ (ht.trans (t.setQueue_belled _ _)) (fun y u hu => ?_))
  split
  · exact hu.trans (u.cqhWrite_belled _ _)
  · exact hu.trans (u.sqtWrite_belled _ _)

theorem Dev.isOn_cmdReady (s : Dev) : s.cmdReady.isOn Reg.HIF_STAT_CMDRDY = true :=
  (Dev.isOn_of_reg (s.cmdReady_belled.regs _ (by decide))).trans (s.isOn_raise_same _ (by decide) rfl)

/-- Recovery serves commands, and the clock is as it was. -/
theorem Dev.recoverySets (s : Dev) : ((s.raise Reg.IMG_BOOT_RECOV).cmdReady).isOn Reg.IMG_BOOT_RECOV = true ∧
    ((s.raise Reg.IMG_BOOT_RECOV).cmdReady).reg Reg.CLK_STAT = s.reg Reg.CLK_STAT ∧ ((s.raise Reg.IMG_BOOT_RECOV).cmdReady).clk = s.clk ∧
    ((s.raise Reg.IMG_BOOT_RECOV).cmdReady).time = s.time ∧ ((s.raise Reg.IMG_BOOT_RECOV).cmdReady).prt = s.prt := by
  have hb := (s.raise Reg.IMG_BOOT_RECOV).cmdReady_belled
  have hr : RegsBut (s.raise Reg.IMG_BOOT_RECOV) ((s.raise Reg.IMG_BOOT_RECOV).cmdReady) [Reg.HIF_STAT, Reg.HIF_FLAG, Reg.HIF_EVT] :=
    ((RegsBut.refl _ _).raise _ (by decide)).trans (hb.regs.mono (by decide))
  refine ⟨?_, ?_, hb.clk, hb.time, hb.prt⟩
  · exact (Dev.isOn_of_reg (hr _ (by decide))).trans (s.isOn_raise_same _ (by decide) rfl)
  · exact (hr _ (by decide)).trans (((RegsBut.refl s [0x6004]).raise _ (by decide)) _ (by decide))

/-! ### Loss (R41–R43) -/

theorem Dev.lossAct_quiet {s : Dev} (h : s.get Reg.CLK_CFG_LOSSACT ≤ 1 ∨ s.stIn [stSYNC, stRUN, stRIDETHROUGH] = false) : s.lossAct.regs = s.regs := by
  unfold Dev.lossAct
  split
  · rfl
  next hst =>
    rcases Nat.le_one_iff_eq_zero_or_eq_one.mp (h.resolve_right (by simpa using hst)) with h | h <;> rw [h] <;> rfl

theorem Dev.lossAct_hold {s : Dev} (h : s.get Reg.CLK_CFG_LOSSACT = 1) (hst : s.stIn [stSYNC, stRUN, stRIDETHROUGH] = true) : s.lossAct.clk.holdDue = true := by
  rw [Dev.lossAct, hst, h]
  rfl

theorem Dev.lossAct_latch {s : Dev} (h : 2 ≤ s.get Reg.CLK_CFG_LOSSACT) (hst : s.stIn [stSYNC, stRUN, stRIDETHROUGH] = true) (he : s.effective 0x21 = true) :
    s.lossAct.isOn (latF 0x21) = true := by
  unfold Dev.lossAct
  rw [hst]
  dsimp only [Bool.not_true]
  split
  next hc => cases hc
  next =>
    split
    · omega
    · omega
    · exact (Dev.latch_trips _ _ _ _).2 0x21 (by decide) (by decide) he

/-- What LOSSACT leaves: the registers of the PLL, and its clock but for the HOLD that is due. -/
theorem Dev.lossAct_frame (s : Dev) : RegsBut s s.lossAct tripRegs ∧ s.lossAct.clk.inRun = s.clk.inRun := by
  unfold Dev.lossAct
  split
  · exact ⟨RegsBut.refl s _, rfl⟩
  · split
    · exact ⟨RegsBut.refl s _, rfl⟩
    · exact ⟨RegsBut.refl s _, rfl⟩
    · refine ⟨((Dev.latch_trips _ _ _ _).1.regs : RegsBut _ _ _), ?_⟩
      exact congrArg (fun t => t.clk.inRun) (Dev.latch_tripping { s with prt := { s.prt with clkLoss := true } } (Dev.stamp _ 0) [0x21] false).steady

/-- The core runs on the bypass oscillator, and the PLL is LOST. -/
def Dev.lost (s : Dev) (flag : Fld) : Dev := ((s.toBypass.raise flag).count Reg.CLK_CNT_LOL_CNT).set Reg.CLK_STAT_PLLST pLOST

theorem Dev.leaveLock_eq (s : Dev) (flag : Fld) : s.leaveLock flag = (s.lost flag).lossAct := rfl

/-- The bits of CLK_STAT on the bypass oscillator. -/
def Dev.bypassStat (s : Dev) : Dev := ((s.set Reg.CLK_STAT_SRC 1).set Reg.CLK_STAT_FREERUN 1).set Reg.CLK_STAT_UNSYNC 1

theorem Dev.toBypass_regs_eq (s : Dev) : s.toBypass.regs = (s.bypassStat.raise Reg.CLK_FLAG_BYP_F).regs := rfl

theorem Dev.bypassStat_spec (s : Dev) : s.bypassStat.get Reg.CLK_STAT_SRC = 1 ∧ s.bypassStat.get Reg.CLK_STAT_FREERUN = 1 ∧
    s.bypassStat.get Reg.CLK_STAT_UNSYNC = 1 :=
  ⟨((Dev.get_past _ Reg.CLK_STAT_UNSYNC _ _).trans (Dev.get_past _ Reg.CLK_STAT_FREERUN _ _)).trans (Dev.get_put _ Reg.CLK_STAT_SRC 1),
    (Dev.get_past _ Reg.CLK_STAT_UNSYNC _ _).trans (Dev.get_put _ Reg.CLK_STAT_FREERUN 1), Dev.get_put _ Reg.CLK_STAT_UNSYNC 1⟩

/-- What an exit from LOCK shows in the registers of the clock, before LOSSACT acts. -/
theorem Dev.lost_spec (s : Dev) (flag : Fld) (hf : flag = Reg.CLK_FLAG_LOL_F ∨ flag = Reg.CLK_FLAG_REFLOSS_F) :
    (s.lost flag).pllst = pLOST ∧ (s.lost flag).isOn Reg.CLK_STAT_SRC = true ∧ (s.lost flag).freerun = true ∧ (s.lost flag).unsync = true ∧
    (s.lost flag).isOn Reg.CLK_FLAG_BYP_F = true ∧ (s.lost flag).isOn flag = true ∧ Counted s (s.lost flag) Reg.CLK_CNT_LOL_CNT ∧
    RegsBut s (s.lost flag) [Reg.CLK_STAT, Reg.CLK_FLAG, Reg.CLK_CNT] := by
  have hoff : flag.off = Reg.CLK_FLAG := by rcases hf with rfl | rfl <;> rfl
  have hbits : flag.hi < 32 ∧ flag.lo = flag.hi := by rcases hf with rfl | rfl <;> decide
  obtain ⟨hsrc, hfree, huns⟩ := s.bypassStat_spec
  have hcnt : RegsBut s (s.toBypass.raise flag) [Reg.CLK_STAT, Reg.CLK_FLAG] := s.toBypass_regs.raise flag (by simp [hoff])
  have hflags : RegsBut s.bypassStat (s.toBypass.raise flag) [Reg.CLK_FLAG] :=
    RegsBut.raise (((RegsBut.refl s.bypassStat _).raise Reg.CLK_FLAG_BYP_F (by decide)).same s.toBypass_regs_eq) flag (by simp [hoff])
  have hstat : ((s.toBypass.raise flag).count Reg.CLK_CNT_LOL_CNT).reg Reg.CLK_STAT = s.bypassStat.reg Reg.CLK_STAT :=
    ((hflags.mono (m := [Reg.CLK_FLAG, Reg.CLK_CNT]) (by decide)).count Reg.CLK_CNT_LOL_CNT 1 (by decide)) _ (by decide)
  have hpast : ∀ f : Fld, f.off = Reg.CLK_STAT → (Reg.CLK_STAT_PLLST.hi < f.lo) → s.bypassStat.get f = 1 → (s.lost flag).isOn f = true := by
    intro f ho hl h1
    have hget : (s.lost flag).get f = s.bypassStat.get f :=
      (Dev.get_set_apart _ Reg.CLK_STAT_PLLST f _ (by decide) (by decide) (.inr hl)).trans (Dev.get_of_reg (ho ▸ hstat))
    rw [Dev.isOn, hget, h1]
    rfl
  have hkeep : ∀ f : Fld, f.off = Reg.CLK_FLAG → (s.toBypass.raise flag).isOn f = true → (s.lost flag).isOn f = true := fun f ho h =>
    (Dev.isOn_of_reg ((((RegsBut.refl (s.toBypass.raise flag) [Reg.CLK_CNT, Reg.CLK_STAT]).count Reg.CLK_CNT_LOL_CNT 1 (by decide)).set _ _ (by decide))
      _ (by rw [ho]; decide))).trans h
  have hbyp : s.toBypass.isOn Reg.CLK_FLAG_BYP_F = true :=
    (Dev.isOn_of_regs s.toBypass_regs_eq _).trans (s.bypassStat.isOn_raise_same _ (by decide) rfl)
  refine ⟨Dev.get_put _ _ _, hpast _ rfl (by decide) hsrc, hpast _ rfl (by decide) hfree, hpast _ rfl (by decide) huns,
    hkeep _ rfl (s.toBypass.isOn_raise_keeps _ _ hbits.1 hbits.2 rfl hbyp), hkeep _ hoff (s.toBypass.isOn_raise_same _ hbits.1 hbits.2), ?_,
    ((hcnt.mono (by decide)).count _ _ (by decide)).set _ _ (by decide)⟩
  have hcounted := counted_count (s.toBypass.raise flag) Reg.CLK_CNT_LOL_CNT (by decide) (by decide)
  unfold Counted at hcounted ⊢
  have hsame : (s.toBypass.raise flag).get Reg.CLK_CNT_LOL_CNT = s.get Reg.CLK_CNT_LOL_CNT := Dev.get_of_reg (hcnt _ (by decide))
  rw [hsame] at hcounted
  exact (Dev.get_set_off _ _ _ _ (by decide)).trans hcounted

/-! ### Offset (R47, R48, R275) -/

/-- The run of measurements within ±16 TU after one more (R48). -/
def Dev.runAfter (s : Dev) (off : Int) : Nat := if off.natAbs ≤ 16 then min 8 (s.clk.inRun + 1) else 0

/-- The device whose run has gone on. -/
def Dev.runOn (s : Dev) (off : Int) : Dev := { s with clk := { s.clk with inRun := s.runAfter off } }

theorem Dev.syncBy_eq (s : Dev) (off : Int) : s.syncBy off =
    if s.unsync && s.runAfter off == 8 then (s.runOn off).setB Reg.CLK_STAT_UNSYNC false
    else if !s.unsync && decide (32 < off.natAbs) then (s.runOn off).setB Reg.CLK_STAT_UNSYNC true else s.runOn off := by
  unfold Dev.syncBy Dev.runOn Dev.runAfter Dev.unsync
  simp only [decide_eq_true_eq]
  rfl

theorem Dev.syncBy_spec (s : Dev) (off : Int) : RegsBut s (s.syncBy off) [Reg.CLK_STAT] ∧ (s.syncBy off).time = s.time ∧
    (s.syncBy off).clk = (s.runOn off).clk ∧ (s.unsync = true → (s.syncBy off).unsync = (s.runAfter off != 8)) ∧
    (s.unsync = false → (s.syncBy off).unsync = decide (32 < off.natAbs)) := by
  have hset : ∀ b, ((s.runOn off).setB Reg.CLK_STAT_UNSYNC b).unsync = b := fun b => Dev.isOn_setB_same _ 0x404 6 b (by decide)
  have hregs : ∀ b, RegsBut s ((s.runOn off).setB Reg.CLK_STAT_UNSYNC b) [Reg.CLK_STAT] := fun b =>
    ((RegsBut.refl s [Reg.CLK_STAT]).same (f := s.runOn off) rfl).setB _ b (by decide)
  have hkeep : (s.runOn off).unsync = s.unsync := Dev.isOn_of_regs rfl _
  rw [s.syncBy_eq off]
  cases hu : s.unsync
  · cases hfar : decide (32 < off.natAbs)
    · exact ⟨(RegsBut.refl s _).same rfl, rfl, rfl, by simp, fun _ => hkeep.trans hu⟩
    · exact ⟨hregs true, rfl, rfl, by simp, fun _ => hset true⟩
  · cases hrun : s.runAfter off == 8
    · refine ⟨(RegsBut.refl s _).same rfl, rfl, rfl, fun _ => ?_, by simp⟩
      simp only [bne, hrun, Bool.not_false]
      exact hkeep.trans hu
    · refine ⟨hregs false, rfl, rfl, fun _ => ?_, by simp⟩
      simp only [bne, hrun, Bool.not_true]
      exact hset false

/-- What a measurement that counts leaves, apart from what it does to the counter. -/
def Dev.measured (s : Dev) (port : Nat) (sum off : Int) : Dev :=
  ((s.set (Reg.KRK_PORTp_STAT_RDLY port) (toBits 16 sum)).set Reg.CLK_OFFSET_OFFSET (toBits 32 (max (-(2 ^ 31)) (min (2 ^ 31 - 1) off)))).syncBy off

section
variable {s : Dev} {port : Nat} {out back : Int}

theorem Dev.measure_down (h : 4 ≤ port ∨ s.linkUp port = false) : s.measure port out back = s := by
  refine if_neg (fun hq => ?_)
  rcases h with h | h
  · omega
  · rw [h] at hq
    exact absurd hq.2 (by decide)

/-- The state that a parent’s port has is not touched by the round trip. -/
theorem Dev.rdly_keeps (v o : Nat) (h : o < 0x3820) : (s.set (Reg.KRK_PORTp_STAT_RDLY port) v).reg o = s.reg o :=
  ((RegsBut.refl s [Reg.KRK_PORTp_STAT port]).set _ v (List.mem_singleton.mpr rfl)) o (by simp only [List.mem_singleton, Reg.KRK_PORTp_STAT]; omega)

theorem Dev.measure_other (hp : port < 4) (hl : s.linkUp port = true)
    (h : s.mst ≠ mMEMBER ∨ s.isOn Reg.KRK_STAT_TSRC = true ∨ s.get Reg.KRK_STAT_PARPORT ≠ port) :
    s.measure port out back = s.set (Reg.KRK_PORTp_STAT_RDLY port) (toBits 16 (out + back)) := by
  have hkrk := s.rdly_keeps (port := port) (toBits 16 (out + back)) Reg.KRK_STAT (by decide)
  have hmst : (s.set (Reg.KRK_PORTp_STAT_RDLY port) (toBits 16 (out + back))).mst = s.mst := Dev.get_of_reg hkrk
  rw [Dev.measure, if_pos ⟨hp, hl⟩]
  dsimp only
  rw [hmst, Dev.isOn_of_reg (f := Reg.KRK_STAT_TSRC) hkrk, Dev.get_of_reg (f := Reg.KRK_STAT_PARPORT) hkrk, if_pos h]

theorem Dev.measure_parent (hp : port < 4) (hl : s.linkUp port = true) (hm : s.mst = mMEMBER) (ht : s.isOn Reg.KRK_STAT_TSRC = false)
    (hpar : s.get Reg.KRK_STAT_PARPORT = port) : s.measure port out back =
      let t := s.measured port (out + back) ((back - out) / 2)
      if t.stIn stepStates && decide (t.slewMax < ((back - out) / 2).natAbs) then { t with clk := { t.clk with slew := 0, step := some ((back - out) / 2) } }
      else { t with clk := { t.clk with slew := (back - out) / 2, step := none } } := by
  have hkrk := s.rdly_keeps (port := port) (toBits 16 (out + back)) Reg.KRK_STAT (by decide)
  have hmst : (s.set (Reg.KRK_PORTp_STAT_RDLY port) (toBits 16 (out + back))).mst = s.mst := Dev.get_of_reg hkrk
  rw [Dev.measure, if_pos ⟨hp, hl⟩]
  dsimp only
  rw [hmst, Dev.isOn_of_reg (f := Reg.KRK_STAT_TSRC) hkrk, Dev.get_of_reg (f := Reg.KRK_STAT_PARPORT) hkrk, if_neg (by simp [hm, ht, hpar])]
  rfl

end

theorem toBits_lt (n : Nat) (i : Int) : toBits n i < 2 ^ n := by
  unfold toBits
  have hpos : (0 : Int) < (2 ^ n : Nat) := by positivity
  have := Int.emod_lt_of_pos i hpos
  have := Int.emod_nonneg i (ne_of_gt hpos)
  omega

theorem Dev.measured_spec (s : Dev) {port : Nat} (hp : port < 4) (sum off : Int) :
    (s.measured port sum off).get (Reg.KRK_PORTp_STAT_RDLY port) = toBits 16 sum ∧
    (s.measured port sum off).get Reg.CLK_OFFSET_OFFSET = toBits 32 (max (-(2 ^ 31)) (min (2 ^ 31 - 1) off)) ∧
    RegsBut s (s.measured port sum off) [Reg.KRK_PORTp_STAT port, Reg.CLK_OFFSET, Reg.CLK_STAT] ∧ (s.measured port sum off).time = s.time ∧
    (s.measured port sum off).clk.inRun = s.runAfter off ∧ (s.unsync = true → (s.measured port sum off).unsync = (s.runAfter off != 8)) ∧
    (s.unsync = false → (s.measured port sum off).unsync = decide (32 < off.natAbs)) := by
  have hoff : ∀ o, o < 0x3820 → o ≠ Reg.KRK_PORTp_STAT port := fun o ho => by
    unfold Reg.KRK_PORTp_STAT
    omega
  have hset : ∀ (t : Dev) (v : Nat), RegsBut t (t.set (Reg.KRK_PORTp_STAT_RDLY port) v) [Reg.KRK_PORTp_STAT port, Reg.CLK_OFFSET, Reg.CLK_STAT] :=
    fun t v => (RegsBut.refl t _).set _ v (by simp [Reg.KRK_PORTp_STAT, Reg.KRK_PORTp_STAT_RDLY])
  unfold Dev.measured
  obtain ⟨hr, ht, hc, hu1, hu0⟩ := Dev.syncBy_spec ((s.set (Reg.KRK_PORTp_STAT_RDLY port) (toBits 16 sum)).set Reg.CLK_OFFSET_OFFSET
    (toBits 32 (max (-(2 ^ 31)) (min (2 ^ 31 - 1) off)))) off
  have huns : ((s.set (Reg.KRK_PORTp_STAT_RDLY port) (toBits 16 sum)).set Reg.CLK_OFFSET_OFFSET
      (toBits 32 (max (-(2 ^ 31)) (min (2 ^ 31 - 1) off)))).unsync = s.unsync :=
    Dev.isOn_of_reg ((((RegsBut.refl _ [Reg.CLK_OFFSET]).set _ _ (by decide)) _ (by decide)).trans (s.rdly_keeps _ _ (by decide)))
  rw [huns] at hu1 hu0
  refine ⟨?_, ?_, ?_, ht, congrArg ClkSt.inRun hc, hu1, hu0⟩
  · refine (Dev.get_of_reg (hr _ (fun hm => (hoff Reg.CLK_STAT (by decide)).symm (List.mem_singleton.mp hm)))).trans ?_
    exact (Dev.get_set_off _ _ _ _ (hoff Reg.CLK_OFFSET (by decide)).symm).trans (Dev.get_set_fits _ _ (by simp [Reg.KRK_PORTp_STAT_RDLY]) (by simp [Reg.KRK_PORTp_STAT_RDLY]) (toBits_lt 16 _))
  · exact (Dev.get_of_reg (hr _ (by decide))).trans (Dev.get_set_fits _ _ (by decide) (by decide) (toBits_lt 32 _))
  · exact ((hset s _).set _ _ (by simp [Reg.CLK_OFFSET, Reg.CLK_OFFSET_OFFSET])).trans (hr.mono (by simp))

/-! ### The statement -/

section
variable {s : State} (hs : s.live)
include hs

theorem bandSearch_ends (band : Nat) :
    (s.dev.pllst = pBAND → ∃ d, Answers (.bandSearchComplete band) s d ∧ d.get Reg.CLK_STAT_BAND = band % 64 ∧
      d.clk.lockRun = 0 ∧ d.pllst = pACQ ∧ d = { s.start with regs := d.regs, clk := d.clk } ∧ RegsBut s.dev d [Reg.CLK_STAT]) ∧
    (s.dev.pllst = pIDLE → ∃ d, Answers (.bandSearchComplete band) s d ∧ d.get Reg.CLK_STAT_BAND = band % 64 ∧
      d.clk.lockRun = 0 ∧ d.pllst = pACQ ∧ d.clocks = s.dev.clocks + 1 ∧ RegsBut s.dev d clockRegs) ∧
    (s.dev.pllst ≠ pBAND → s.dev.pllst ≠ pIDLE → Answers (.bandSearchComplete band) s s.start) := by
  have ha : Answers (.bandSearchComplete band) s (s.start.bandDone band) := answers_of_onLive (f := (·.bandDone band)) hs rfl
  refine ⟨fun h => ?_, fun h => ?_, fun hb hi => ?_⟩
  · rw [Dev.bandDone_band (s := s.start) h] at ha
    obtain ⟨hband, hrun, hacq, hregs⟩ := s.start.bandStored_spec band
    exact ⟨_, ha, hband, hrun, hacq, rfl, hregs⟩
  · rw [Dev.bandDone_idle (s := s.start) h] at ha
    obtain ⟨hband, hrun, hacq, hregs⟩ := (s.start.pass 1).bandStored_spec band
    have hpass : RegsBut s.dev (s.start.pass 1) clockRegs := (s.start.pass_passing 1).regs
    exact ⟨_, ha, hband, hrun, hacq, (s.start.pass_counts (n := 1) (by decide)).clocks, hpass.trans (hregs.mono (by decide))⟩
  · rwa [Dev.bandDone_else (s := s.start) hb hi] at ha

theorem lock_reached (e : Int) :
    (s.dev.pllst = pACQ → ∃ d, Answers (.pllLock e) s d ∧ d.pllst = pLOCK ∧ d.clk.lockRun = 256 ∧
      d.isOn Reg.CLK_STAT_SRC = false ∧ d.isOn Reg.CLK_STAT_FREERUN = false ∧ d.unsync = s.dev.unsync ∧
      d.clk.phErr = max (-32767) (min 32767 e) ∧ d.clk.locked1 = true ∧ d.prt.clkLoss = false ∧
      (s.dev.clk.locked1 = true → d.time = s.dev.time ∧ RegsBut s.dev d [Reg.CLK_STAT]) ∧
      (s.dev.clk.locked1 = false → d.time = if s.dev.isOn Reg.VLT_STAT_TKVALID then s.start.keeperCount.keeperTU else 0) ∧
      (s.dev.clk.locked1 = false → (s.dev.straps / 4 % 2 ≠ 1 ∨ s.dev.st ≠ stBOOT) → RegsBut s.dev d [Reg.CLK_STAT]) ∧
      (s.dev.clk.locked1 = false → s.dev.straps / 4 % 2 = 1 → s.dev.st = stBOOT →
        d.isOn Reg.IMG_BOOT_RECOV = true ∧ d.isOn Reg.HIF_STAT_CMDRDY = true)) ∧
    (s.dev.pllst ≠ pACQ → Answers (.pllLock e) s s.start) := by
  have ha : Answers (.pllLock e) s (s.start.pllLock e) := answers_of_onLive (f := (·.pllLock e)) hs rfl
  refine ⟨fun h => ?_, fun h => ?_⟩
  · rw [Dev.pllLock_acq (s := s.start) h] at ha
    obtain ⟨hlock, hsrc, hfree, huns, hregs⟩ := s.start.onPll_stat e
    have hst : (s.start.onPll e).st = s.dev.st := Dev.get_of_reg (hregs _ (by decide))
    cases hl : s.dev.clk.locked1
    · obtain ⟨hr, htime, hclk, hprt, -⟩ := (s.start.onPll e).lockedFirst_spec
      rw [s.start.onPll_lockTime e] at htime
      have hfields : ∀ d : Dev, d.reg Reg.CLK_STAT = (s.start.onPll e).reg Reg.CLK_STAT → d.clk = { (s.start.onPll e).clk with locked1 := true } →
          d.prt = (s.start.onPll e).prt → d.pllst = pLOCK ∧ d.clk.lockRun = 256 ∧ d.isOn Reg.CLK_STAT_SRC = false ∧
          d.isOn Reg.CLK_STAT_FREERUN = false ∧ d.unsync = s.dev.unsync ∧ d.clk.phErr = max (-32767) (min 32767 e) ∧ d.clk.locked1 = true ∧
          d.prt.clkLoss = false := fun d hd hc hp =>
        ⟨(Dev.get_of_reg hd).trans hlock, by rw [hc]; rfl, (Dev.isOn_of_reg hd).trans hsrc, (Dev.isOn_of_reg hd).trans hfree,
          (Dev.isOn_of_reg hd).trans huns, by rw [hc]; rfl, by rw [hc], by rw [hp]; rfl⟩
      by_cases hboot : s.dev.straps / 4 % 2 = 1 ∧ s.dev.st = stBOOT
      · rw [Dev.firstLock_recovery (s := s.start.onPll e) hl hboot.1 (hst.trans hboot.2)] at ha
        obtain ⟨hrec, hstat, hc, ht, hp⟩ := (s.start.onPll e).lockedFirst.recoverySets
        obtain ⟨h1, h2, h3, h4, h5, h6, h7, h8⟩ := hfields _ (hstat.trans (Dev.reg_of_regs hr _)) (hc.trans hclk) (hp.trans hprt)
        exact ⟨_, ha, h1, h2, h3, h4, h5, h6, h7, h8, by simp, fun _ => ht.trans htime,
          fun _ hno => absurd hboot (not_and_or.mpr hno), fun _ _ _ => ⟨hrec, Dev.isOn_cmdReady _⟩⟩
      · rw [Dev.firstLock_plain (s := s.start.onPll e) hl (by rw [hst]; exact not_and_or.mp hboot)] at ha
        obtain ⟨h1, h2, h3, h4, h5, h6, h7, h8⟩ := hfields _ (Dev.reg_of_regs hr _) hclk hprt
        exact ⟨_, ha, h1, h2, h3, h4, h5, h6, h7, h8, by simp, fun _ => htime, fun _ _ => hregs.same hr, fun _ h9 h10 => absurd ⟨h9, h10⟩ hboot⟩
    · rw [Dev.firstLock_again (s := s.start.onPll e) hl] at ha
      exact ⟨_, ha, hlock, rfl, hsrc, hfree, huns, rfl, hl, rfl, fun _ => ⟨rfl, hregs⟩, by simp, by simp, by simp⟩
  · rwa [Dev.pllLock, if_neg (c := s.start.pllst = pACQ) h] at ha

theorem lock_timed_out (e : Int) (run : Nat) :
    (s.dev.pllst = pACQ → ∃ d, Answers (.lockTimeout e run) s d ∧ d.pllst = pBAND ∧ d.isOn Reg.CLK_FLAG_LKFAIL_F = true ∧
      Counted s.dev d Reg.CLK_CNT_LKFAIL_CNT ∧ d.clk.lockRun = min 255 run ∧ d.clk.phErr = max (-32767) (min 32767 e) ∧
      d = { s.start with regs := d.regs, evt := d.evt, clk := d.clk } ∧ RegsBut s.dev d [Reg.CLK_STAT, Reg.CLK_FLAG, Reg.CLK_CNT]) ∧
    (s.dev.pllst ≠ pACQ → Answers (.lockTimeout e run) s s.start) := by
  have ha : Answers (.lockTimeout e run) s (s.start.acqTimeout e run) := answers_of_onLive (f := (·.acqTimeout e run)) hs rfl
  refine ⟨fun h => ?_, fun h => ?_⟩
  · rw [Dev.acqTimeout, if_pos (c := s.start.pllst = pACQ) h] at ha
    have hraise : RegsBut s.dev ((s.start.refCycle e (min 255 run)).raise Reg.CLK_FLAG_LKFAIL_F) [Reg.CLK_FLAG] :=
      ((RegsBut.refl s.dev _).same (f := s.start.refCycle e (min 255 run)) rfl).raise _ (by decide)
    have hcount := counted_count ((s.start.refCycle e (min 255 run)).raise Reg.CLK_FLAG_LKFAIL_F) Reg.CLK_CNT_LKFAIL_CNT (by decide) (by decide)
    refine ⟨_, ha, Dev.get_put _ _ _, ?_, ?_, rfl, rfl, rfl, ((hraise.mono (by decide)).count _ _ (by decide)).set _ _ (by decide)⟩
    · refine (Dev.isOn_of_reg ((((RegsBut.refl _ [Reg.CLK_CNT, Reg.CLK_STAT]).count Reg.CLK_CNT_LKFAIL_CNT 1 (by decide)).set _ _ (by decide)) _
        (by decide))).trans ?_
      exact Dev.isOn_raise_same _ _ (by decide) rfl
    · unfold Counted at hcount ⊢
      rw [Dev.get_of_reg (f := Reg.CLK_CNT_LKFAIL_CNT) (hraise _ (by decide))] at hcount
      exact (Dev.get_set_off _ _ _ _ (by decide)).trans hcount
  · rwa [Dev.acqTimeout, if_neg (c := s.start.pllst = pACQ) h] at ha

theorem reference_returned : (s.dev.pllst = pLOST → ∃ d, Answers .referenceReturn s d ∧ d.pllst = pBAND ∧ SameBut s.start d [Reg.CLK_STAT]) ∧
    (s.dev.pllst ≠ pLOST → Answers .referenceReturn s s.start) := by
  have ha : Answers .referenceReturn s s.start.refReturn := answers_of_onLive (f := Dev.refReturn) hs rfl
  refine ⟨fun h => ?_, fun h => ?_⟩
  · rw [Dev.refReturn, if_pos (c := s.start.pllst = pLOST) h] at ha
    exact ⟨_, ha, Dev.get_put _ _ _, rfl, (RegsBut.refl s.start _).set _ _ (by decide)⟩
  · rwa [Dev.refReturn, if_neg (c := s.start.pllst = pLOST) h] at ha

omit hs in
/-- An exit from LOCK by either loss. -/
theorem lock_lost {i : Instr} {t : Dev} {flag : Fld} (ha : Answers i s (t.leaveLock flag)) (hf : flag = Reg.CLK_FLAG_LOL_F ∨ flag = Reg.CLK_FLAG_REFLOSS_F)
    (ht : t.regs = s.dev.regs) : ∃ d, Answers i s d ∧ d.pllst = pLOST ∧ d.isOn Reg.CLK_STAT_SRC = true ∧ d.freerun = true ∧ d.unsync = true ∧
      d.isOn Reg.CLK_FLAG_BYP_F = true ∧ d.isOn flag = true ∧ Counted s.dev d Reg.CLK_CNT_LOL_CNT ∧ d.clk.inRun = 0 ∧
      (s.dev.get Reg.CLK_CFG_LOSSACT = 1 → s.dev.stIn [stSYNC, stRUN, stRIDETHROUGH] = true → d.clk.holdDue = true) ∧
      (2 ≤ s.dev.get Reg.CLK_CFG_LOSSACT → s.dev.stIn [stSYNC, stRUN, stRIDETHROUGH] = true → s.dev.effective 0x21 = true →
        d.isOn (latF 0x21) = true) ∧
      ((s.dev.get Reg.CLK_CFG_LOSSACT ≤ 1 ∨ s.dev.stIn [stSYNC, stRUN, stRIDETHROUGH] = false) →
        RegsBut s.dev d [Reg.CLK_STAT, Reg.CLK_FLAG, Reg.CLK_CNT]) := by
  obtain ⟨hlost, hsrc, hfree, huns, hbyp, hflag, hcnt, hregs⟩ := t.lost_spec flag hf
  have hreg : RegsBut s.dev (t.lost flag) [Reg.CLK_STAT, Reg.CLK_FLAG, Reg.CLK_CNT] := fun o ho => (hregs o ho).trans (Dev.reg_of_regs ht o)
  obtain ⟨hact, hrun⟩ := (t.lost flag).lossAct_frame
  have hget : ∀ f : Fld, f.off ∉ tripRegs → (t.lost flag).lossAct.get f = (t.lost flag).get f := fun f h => Dev.get_of_reg (hact _ h)
  have hon : ∀ f : Fld, f.off ∉ tripRegs → (t.lost flag).isOn f = true → (t.lost flag).lossAct.isOn f = true := fun f h h1 =>
    (Dev.isOn_of_reg (hact _ h)).trans h1
  have hflagoff : flag.off ∉ tripRegs := by rcases hf with rfl | rfl <;> decide
  have hcfg : (t.lost flag).get Reg.CLK_CFG_LOSSACT = s.dev.get Reg.CLK_CFG_LOSSACT := Dev.get_of_reg (hreg _ (by decide))
  have hst : (t.lost flag).stIn [stSYNC, stRUN, stRIDETHROUGH] = s.dev.stIn [stSYNC, stRUN, stRIDETHROUGH] := by
    rw [Dev.stIn, Dev.stIn, Dev.st, Dev.st, Dev.get_of_reg (f := Reg.HIF_STAT_STATE) (hreg _ (by decide))]
  have heff : (t.lost flag).effective 0x21 = s.dev.effective 0x21 := by
    simp only [Dev.effective, Dev.isOn_of_reg (f := prtBit 0x4004 0x21) (hreg _ (by decide)), show ¬(0x21 < 24) from by decide, if_false]
  have hcounted : Counted s.dev (t.lost flag) Reg.CLK_CNT_LOL_CNT := by
    unfold Counted at hcnt ⊢
    rwa [Dev.get_of_reg (f := Reg.CLK_CNT_LOL_CNT) (Dev.reg_of_regs ht _)] at hcnt
  refine ⟨_, ha, (hget _ (by decide)).trans hlost, hon _ (by decide) hsrc, hon _ (by decide) hfree, hon _ (by decide) huns, hon _ (by decide) hbyp,
    hon _ hflagoff hflag, (hget _ (by decide)).trans hcounted, hrun, fun h1 h2 => ?_, fun h1 h2 h3 => ?_, fun h => ?_⟩
  · exact Dev.lossAct_hold (hcfg.trans h1) (hst.trans h2)
  · exact Dev.lossAct_latch (hcfg ▸ h1) (hst.trans h2) (heff.trans h3)
  · exact hreg.same (Dev.lossAct_quiet (h.imp (le_of_eq_of_le hcfg) hst.trans))

theorem references_lost : ((s.dev.pllst = pBAND ∨ s.dev.pllst = pACQ) → ∃ d, Answers .referenceLoss s d ∧ d.pllst = pLOST ∧
      d.isOn Reg.CLK_FLAG_REFLOSS_F = true ∧ SameBut s.start d [Reg.CLK_STAT, Reg.CLK_FLAG]) ∧
    (s.dev.pllst ≠ pLOCK → s.dev.pllst ≠ pBAND → s.dev.pllst ≠ pACQ → Answers .referenceLoss s s.start) := by
  have ha : Answers .referenceLoss s s.start.refLoss := answers_of_onLive (f := Dev.refLoss) hs rfl
  refine ⟨fun h => ?_, fun hl hb hq => ?_⟩
  · have hl : s.dev.pllst ≠ pLOCK := by rcases h with h | h <;> rw [h] <;> decide
    have hor : (decide (s.start.pllst = pBAND) || decide (s.start.pllst = pACQ)) = true :=
      Bool.or_eq_true_iff.mpr (h.imp (decide_eq_true (p := s.start.pllst = pBAND)) (decide_eq_true (p := s.start.pllst = pACQ)))
    rw [Dev.refLoss, if_neg (c := s.start.pllst = pLOCK) hl, if_pos hor] at ha
    refine ⟨_, ha, Dev.get_put _ _ _, ?_, rfl, ((RegsBut.refl s.start _).raise _ (by decide)).set _ _ (by decide)⟩
    exact (Dev.isOn_of_reg (((RegsBut.refl _ [Reg.CLK_STAT]).set _ _ (by decide)) _ (by decide))).trans (Dev.isOn_raise_same _ _ (by decide) rfl)
  · have hor : ¬(decide (s.start.pllst = pBAND) || decide (s.start.pllst = pACQ)) = true := fun hor =>
      (Bool.or_eq_true_iff.mp hor).elim (fun h => hb (of_decide_eq_true h)) (fun h => hq (of_decide_eq_true h))
    rwa [Dev.refLoss, if_neg (c := s.start.pllst = pLOCK) hl, if_neg hor] at ha

theorem clock_lost (e : Int) : ∀ x ∈ [(Instr.lossOfLock e, Reg.CLK_FLAG_LOL_F), (.referenceLoss, Reg.CLK_FLAG_REFLOSS_F)],
    s.dev.pllst = pLOCK → ∃ t : Dev, Answers x.1 s (t.leaveLock x.2) ∧ t.regs = s.dev.regs := by
  intro x hx h
  simp only [List.mem_cons, List.not_mem_nil, or_false] at hx
  rcases hx with rfl | rfl
  · have ha : Answers (.lossOfLock e) s (s.start.lossOfLock e) := answers_of_onLive (f := (·.lossOfLock e)) hs rfl
    rw [Dev.lossOfLock, if_pos (c := s.start.pllst = pLOCK) h] at ha
    exact ⟨_, ha, rfl⟩
  · have ha : Answers .referenceLoss s s.start.refLoss := answers_of_onLive (f := Dev.refLoss) hs rfl
    rw [Dev.refLoss, if_pos (c := s.start.pllst = pLOCK) h] at ha
    exact ⟨_, ha, rfl⟩

theorem lock_not_lost (e : Int) (h : s.dev.pllst ≠ pLOCK) : Answers (.lossOfLock e) s s.start := by
  have ha : Answers (.lossOfLock e) s (s.start.lossOfLock e) := answers_of_onLive (f := (·.lossOfLock e)) hs rfl
  rwa [Dev.lossOfLock, if_neg (c := s.start.pllst = pLOCK) h] at ha

theorem offset_measured (port : Nat) (out back : Int) :
    ((4 ≤ port ∨ s.dev.linkUp port = false) → Answers (.offsetMeasurement port out back) s s.start) ∧
    (port < 4 → s.dev.linkUp port = true → (s.dev.mst ≠ mMEMBER ∨ s.dev.isOn Reg.KRK_STAT_TSRC = true ∨ s.dev.get Reg.KRK_STAT_PARPORT ≠ port) →
      ∃ d, Answers (.offsetMeasurement port out back) s d ∧ d.get (Reg.KRK_PORTp_STAT_RDLY port) = toBits 16 (out + back) ∧
        SameBut s.start d [Reg.KRK_PORTp_STAT port]) ∧
    (port < 4 → s.dev.linkUp port = true → s.dev.mst = mMEMBER → s.dev.isOn Reg.KRK_STAT_TSRC = false → s.dev.get Reg.KRK_STAT_PARPORT = port →
      ∃ d, Answers (.offsetMeasurement port out back) s d ∧ d.get (Reg.KRK_PORTp_STAT_RDLY port) = toBits 16 (out + back) ∧
        d.get Reg.CLK_OFFSET_OFFSET = toBits 32 (max (-(2 ^ 31)) (min (2 ^ 31 - 1) ((back - out) / 2))) ∧
        RegsBut s.dev d [Reg.KRK_PORTp_STAT port, Reg.CLK_OFFSET, Reg.CLK_STAT] ∧ d.time = s.dev.time ∧
        (s.dev.stIn stepStates = true → s.dev.slewMax < ((back - out) / 2).natAbs → d.clk.step = some ((back - out) / 2) ∧ d.clk.slew = 0) ∧
        ((s.dev.stIn stepStates = false ∨ ((back - out) / 2).natAbs ≤ s.dev.slewMax) → d.clk.step = none ∧ d.clk.slew = (back - out) / 2) ∧
        d.clk.inRun = (if ((back - out) / 2).natAbs ≤ 16 then min 8 (s.dev.clk.inRun + 1) else 0) ∧
        (s.dev.unsync = true → d.unsync = (d.clk.inRun != 8)) ∧
        (s.dev.unsync = false → d.unsync = decide (32 < ((back - out) / 2).natAbs))) := by
  have ha : Answers (.offsetMeasurement port out back) s (s.start.measure port out back) := answers_of_onLive (f := (·.measure port out back)) hs rfl
  refine ⟨fun h => ?_, fun hp hl h => ?_, fun hp hl hm ht hpar => ?_⟩
  · rwa [Dev.measure_down (s := s.start) h] at ha
  · rw [Dev.measure_other (s := s.start) hp hl h] at ha
    exact ⟨_, ha, Dev.get_set_fits _ _ (by simp [Reg.KRK_PORTp_STAT_RDLY]) (by simp [Reg.KRK_PORTp_STAT_RDLY]) (toBits_lt 16 _), rfl,
      (RegsBut.refl s.start _).set _ _ (List.mem_singleton.mpr rfl)⟩
  · rw [Dev.measure_parent (s := s.start) hp hl hm ht hpar] at ha
    obtain ⟨hrd, hofs, hregs, htime, hrun, hu1, hu0⟩ := s.start.measured_spec hp (out + back) ((back - out) / 2)
    have hoff : ∀ o, o < 0x3820 → o ≠ Reg.CLK_OFFSET → o ≠ Reg.CLK_STAT → o ∉ [Reg.KRK_PORTp_STAT port, Reg.CLK_OFFSET, Reg.CLK_STAT] := fun o ho h1 h2 => by
      simp only [List.mem_cons, List.not_mem_nil, or_false, not_or]
      refine ⟨?_, h1, h2⟩
      unfold Reg.KRK_PORTp_STAT
      omega
    have hst : (s.start.measured port (out + back) ((back - out) / 2)).stIn stepStates = s.dev.stIn stepStates := by
      rw [Dev.stIn, Dev.stIn, Dev.st, Dev.st, Dev.get_of_reg (f := Reg.HIF_STAT_STATE) (hregs _ (hoff _ (by decide) (by decide) (by decide)))]
      rfl
    have hmax : (s.start.measured port (out + back) ((back - out) / 2)).slewMax = s.dev.slewMax := by
      rw [Dev.slewMax, Dev.slewMax, Dev.get_of_reg (f := Reg.CLK_CFG_SLEWMAX) (hregs _ (hoff _ (by decide) (by decide) (by decide)))]
      rfl
    simp only [hst, hmax] at ha
    have hinrun : ∀ d : Dev, d.clk.inRun = s.dev.runAfter ((back - out) / 2) → (s.dev.runAfter ((back - out) / 2) != 8) = (d.clk.inRun != 8) :=
      fun d h => by rw [h]
    cases hstep : s.dev.stIn stepStates && decide (s.dev.slewMax < ((back - out) / 2).natAbs)
    · rw [hstep] at ha
      have hno : s.dev.stIn stepStates = true → ¬s.dev.slewMax < ((back - out) / 2).natAbs := fun h1 h2 => by simp [h1, h2] at hstep
      exact ⟨_, ha, hrd, hofs, hregs.same rfl, htime, fun h1 h2 => absurd h2 (hno h1), fun _ => ⟨rfl, rfl⟩, hrun,
        fun h => (hu1 h).trans (hinrun _ hrun), hu0⟩
    · rw [hstep] at ha
      obtain ⟨h1, h2⟩ := Bool.and_eq_true_iff.mp hstep
      exact ⟨_, ha, hrd, hofs, hregs.same rfl, htime, fun _ _ => ⟨rfl, rfl⟩, fun h => (h.elim (fun h3 => by simp [h1] at h3)
        (fun h3 => absurd (of_decide_eq_true h2) (Nat.not_lt.mpr h3))), hrun, fun h => (hu1 h).trans (hinrun _ hrun), hu0⟩

end

/-- Settles O11: each event of the PLL and of the offset, by the lemma that says what it leaves. -/
theorem pllSearchLockAndLoss : Obligations.PllSearchLockAndLoss := by
  unfold Obligations.PllSearchLockAndLoss
  refine ⟨fun s hs => ⟨fun band => (bandSearch_ends hs band).1, fun band => (bandSearch_ends hs band).2.1, fun band => (bandSearch_ends hs band).2.2,
    fun e => (lock_reached hs e).1, fun e => (lock_reached hs e).2, fun e run => (lock_timed_out hs e run).1, fun e run => (lock_timed_out hs e run).2,
    (reference_returned hs).1, (reference_returned hs).2, fun e => ⟨fun x hx h => ?_, lock_not_lost hs e, (references_lost hs).1, (references_lost hs).2⟩⟩,
    fun s port out back hs => offset_measured hs port out back⟩
  obtain ⟨t, ha, ht⟩ := clock_lost hs e x hx h
  simp only [List.mem_cons, List.not_mem_nil, or_false] at hx
  exact lock_lost ha (hx.imp (congrArg Prod.snd) (congrArg Prod.snd)) ht

end Sys2Proof.Machine
end

section
/-! PROOFS. The compute phase (R53, R56, R59, R110): what control work and the sheddable classes leave of the frame, of the contexts and of the cells. -/

set_option Elab.async false

namespace Sys2Proof.Machine

/-! ### Work in the compute phase -/

/-- Work of the compute phase lies between `d` and `e`: the frame, the clock and the frame’s registers stand, and the state, but for a trip. -/
structure Works (d e : Dev) : Prop where
  frm : e.frm = d.frm
  time : e.time = d.time
  clocks : e.clocks = d.clocks
  regs : ∀ o, 0x800 ≤ o → o < 0x1000 → e.reg o = d.reg o
  st : e.st = d.st ∨ e.st = stTRIPPED

/-- Work that leaves the contexts. -/
structure WorksBeside (d e : Dev) : Prop extends Works d e where
  ctxs : e.ce.ctxs = d.ce.ctxs

/-- Work that leaves the cells too. -/
structure WorksApart (d e : Dev) : Prop extends WorksBeside d e where
  cells : e.cells = d.cells

section
variable {d e f : Dev}

theorem Works.refl (d : Dev) : Works d d := ⟨rfl, rfl, rfl, fun _ _ _ => rfl, .inl rfl⟩
theorem WorksBeside.refl (d : Dev) : WorksBeside d d := ⟨Works.refl d, rfl⟩
theorem WorksApart.refl (d : Dev) : WorksApart d d := ⟨WorksBeside.refl d, rfl⟩

theorem Works.trans (h : Works d e) (g : Works e f) : Works d f where
  frm := g.frm.trans h.frm
  time := g.time.trans h.time
  clocks := g.clocks.trans h.clocks
  regs o hl hh := (g.regs o hl hh).trans (h.regs o hl hh)
  st := g.st.elim (fun hg => h.st.imp hg.trans hg.trans) .inr

theorem WorksBeside.trans (h : WorksBeside d e) (g : WorksBeside e f) : WorksBeside d f := ⟨h.toWorks.trans g.toWorks, g.ctxs.trans h.ctxs⟩

theorem WorksApart.trans (h : WorksApart d e) (g : WorksApart e f) : WorksApart d f :=
  ⟨h.toWorksBeside.trans g.toWorksBeside, g.cells.trans h.cells⟩

/-- A step that leaves every register. -/
theorem works_of_regs (hf : e.frm = d.frm) (ht : e.time = d.time) (hc : e.clocks = d.clocks) (hr : e.regs = d.regs) : Works d e :=
  ⟨hf, ht, hc, fun o _ _ => Dev.reg_of_regs hr o, .inl (Dev.get_of_reg (Dev.reg_of_regs hr _))⟩

/-- A step that is a trip, or a report. -/
theorem Tripping.worksApart {l : List Nat} (h : Tripping d e) (hr : RegsBut d e l) (hl : ∀ o ∈ l, o < 0x800 ∨ 0x1000 ≤ o := by decide) :
    WorksApart d e := by
  have hregs : ∀ o, 0x800 ≤ o → o < 0x1000 → e.reg o = d.reg o := fun o hlo hhi => hr o (fun hm => by have := hl o hm; omega)
  exact ⟨⟨⟨(congrArg Dev.frm h.steady).trans rfl, (congrArg Dev.time h.steady).trans rfl, (congrArg Dev.clocks h.steady).trans rfl, hregs, h.st⟩,
    (congrArg (fun t => t.ce.ctxs) h.steady).trans rfl⟩, (congrArg Dev.cells h.steady).trans rfl⟩

end

/-! ### Operations that leave contexts and cells -/

section
variable {d e : Dev}

theorem WorksApart.ite {f : Dev} {c : Prop} [Decidable c] (he : WorksApart d e) (hf : WorksApart d f) : WorksApart d (if c then e else f) := by
  split
  · exact he
  · exact hf

variable (h : WorksApart d e)
include h

theorem WorksApart.onlyIf (c : Bool) (f : Dev → Dev) (hf : ∀ t, WorksApart d t → WorksApart d (f t)) : WorksApart d (onlyIf c f e) :=
  onlyIf_keeps (WorksApart d) c f e h hf

theorem WorksApart.forEach {α : Type} (l : List α) (f : α → Dev → Dev) (hf : ∀ a t, WorksApart d t → WorksApart d (f a t)) :
    WorksApart d (forEach l f e) :=
  forEach_keeps (WorksApart d) l f e h hf

/-- A change that shows in no register, no frame, no context and no cell. -/
theorem WorksApart.same {f : Dev} (hf : f.frm = e.frm := by rfl) (ht : f.time = e.time := by rfl) (hc : f.clocks = e.clocks := by rfl)
    (hr : f.regs = e.regs := by rfl) (hx : f.ce.ctxs = e.ce.ctxs := by rfl) (hl : f.cells = e.cells := by rfl) : WorksApart d f :=
  h.trans ⟨⟨works_of_regs hf ht hc hr, hx⟩, hl⟩

theorem WorksApart.setReg (o : Nat) (w : Word) (ho : 0x1000 ≤ o) : WorksApart d (e.setReg o w) :=
  h.trans ⟨⟨⟨rfl, rfl, rfl, fun o' _ hh => e.reg_setReg_ne o o' w (by omega), .inl (Dev.get_of_reg (e.reg_setReg_ne o _ w (by
    have : Reg.HIF_STAT_STATE.off < 0x1000 := by decide
    omega)))⟩, rfl⟩, rfl⟩

theorem WorksApart.set (f : Fld) (v : Nat) (ho : 0x1000 ≤ f.off := by decide) : WorksApart d (e.set f v) := h.setReg _ _ ho
theorem WorksApart.setB (f : Fld) (b : Bool) (ho : 0x1000 ≤ f.off := by decide) : WorksApart d (e.setB f b) := h.set _ _ ho
theorem WorksApart.raise (f : Fld) (ho : 0x1000 ≤ f.off := by decide) : WorksApart d (e.raise f) := (h.same (f := e.noted f 1)).set _ _ ho
theorem WorksApart.count (f : Fld) (n : Nat) (ho : 0x1000 ≤ f.off := by decide) : WorksApart d (e.count f n) :=
  (h.same (f := e.noted f n)).setReg _ _ ho

theorem WorksApart.latch (stamp : Nat) (codes : List Nat) (stop : Bool) : WorksApart d (e.latch stamp codes stop) :=
  h.trans ((e.latch_tripping stamp codes stop).worksApart (e.latch_trips stamp codes stop).1.regs)

theorem WorksApart.logAt (a b c x y : Nat) (g : Bool) : WorksApart d (e.logAt a b c x y g) :=
  h.trans (((Tripping.refl e).logAt a b c x y g).worksApart (e.logAt_regs a b c x y g))

theorem WorksApart.logNow (a b c : Nat) : WorksApart d (e.logNow a b c) := h.logAt _ _ _ _ _ _
theorem WorksApart.logCell (src code pos data : Nat) : WorksApart d (e.logCell src code pos data) := h.logAt _ _ _ _ _ _

/-! ### The laws of the grid (R211–R230) -/

theorem WorksApart.gridTrip (cause : Nat) : WorksApart d (e.gridTrip cause) := by
  unfold Dev.gridTrip
  exact ((h.logNow _ _ _).same).latch _ _ _

theorem WorksApart.gridDue (cause : Nat) : WorksApart d (e.gridDue cause) := by
  unfold Dev.gridDue
  exact WorksApart.ite ((h.same).gridTrip _) h.same

theorem WorksApart.gridGroups (r : GridRec) : WorksApart d (e.gridGroups r) := by
  unfold Dev.gridGroups
  exact WorksApart.ite (h.forEach _ _ (fun _ _ ht => ht.same)) (h.forEach _ _ (fun _ _ ht => ht.same))

theorem WorksApart.gridRun (b : List Byte) (ins : List Word) (r : Word) : WorksApart d (e.gridRun b ins r).1 := by
  unfold Dev.gridRun
  extract_lets _ _ _ _ _ _ s6 s7
  have hs7 : WorksApart d s7 := (h.same (f := s6)).onlyIf _ _ (fun _ ht => ht.forEach _ _ (fun _ _ hu => hu.gridDue _))
  split
  · exact hs7.gridGroups _
  · exact hs7

theorem WorksApart.islRun (b : List Byte) : WorksApart d (e.islRun b).1 := by
  unfold Dev.islRun
  dsimp only
  split <;> exact h.same

omit h in
theorem WorksApart.gridAdded (o : RunOut) (b : List Byte) (groups : List Nat) {r : Dev × CFlags × List Word} (hr : WorksApart d r.1) :
    WorksApart d (o.gridAdded b groups r).1 := by
  unfold RunOut.gridAdded
  extract_lets _ _ t
  have ht : WorksApart d t := hr.forEach _ _ (fun _ _ ht => ht.same)
  clear_value t
  split
  · exact hr
  · exact ht

/-! ### What a run shows (R118, R134–R138) -/

theorem WorksApart.showFlags (c : Nat) (f : CFlags) : WorksApart d (e.showFlags c f) := by
  unfold Dev.showFlags
  exact (h.set _ _ (show 0x1000 ≤ 0x2100 + 4 * c by omega)).set _ _ (show 0x1000 ≤ 0x2100 + 4 * c by omega)

theorem WorksApart.injIdle (c : Nat) : WorksApart d (e.injIdle c) := h.forEach _ _ (fun _ _ ht => ht.same)

theorem WorksApart.injStep (g : Nat) (x : InjSt) (v : Word) : WorksApart d (e.injStep g x v) := by
  unfold Dev.injStep
  exact ((h.same).set _ _ (show 0x1000 ≤ 0x2040 + 4 * g by omega)).setB _ _ (show 0x1000 ≤ 0x2040 + 4 * g by omega)

theorem WorksApart.withSnp (x : SnpSt) : WorksApart d { e with snp := x } := h.same

theorem WorksApart.showCap (c : CapSt) (done : Bool) : WorksApart d (e.showCap c done) := by
  unfold Dev.showCap
  exact ((((h.same).setB _ _).setB _ _).setB _ _).set _ _

theorem WorksApart.capRecord : WorksApart d e.capRecord := by
  unfold Dev.capRecord
  dsimp only
  refine WorksApart.ite h (WorksApart.ite (h.showCap _ _) (WorksApart.ite (h.showCap _ _) (WorksApart.ite (WorksApart.ite (h.showCap _ _) h) ?_)))
  split
  · exact h.showCap _ _
  · exact (h.showCap _ _).withSnp _

/-! ### Harmonics (R332, R333) -/

theorem WorksApart.setMtr (x : MtrSt) : WorksApart d (e.setMtr x) := h.same

theorem WorksApart.mtrEvent (stamp code chan : Nat) (value : Word) : WorksApart d (e.mtrEvent stamp code chan value) := by
  unfold Dev.mtrEvent
  exact (h.setMtr _).logAt _ _ _ _ _ _

theorem WorksApart.harmDone (w : HarmWin) : WorksApart d (e.harmDone w) := by
  unfold Dev.harmDone
  extract_lets _ _ _ _ _ _ _ _ _ _ _ _ _ _ _ s15 s16
  have hs15 : WorksApart d s15 := h.setMtr _
  clear_value s15
  have hs16 : WorksApart d s16 := WorksApart.ite (((hs15.setB _ _).onlyIf _ _ (fun _ ht => ht.raise _)).mtrEvent _ _ _ _) hs15
  exact WorksApart.ite (((hs16.setB _ _).onlyIf _ _ (fun _ ht => ht.raise _)).mtrEvent _ _ _ _) hs16

theorem WorksApart.harmChunk : WorksApart d e.harmChunk := by
  unfold Dev.harmChunk
  split
  · exact h
  · exact WorksApart.ite (h.harmDone _) h.same

end

/-! ### The cells (R144–R168): work that leaves the contexts -/

/-- The device as the run of the cell sweep finds the cells: outside RUN an I–V sweep has been left (R158), the rotation requests that were sent are
counted (R183), and in MMC mode the free value of the run is used. -/
def Dev.sweepReady (s : Dev) : Dev :=
  let s := if s.st = stRUN then s else onlyIf s.cells.iv.running (·.ivAbort) s
  let s := onlyIf (!s.cells.bsReq.isEmpty) (·.count Reg.MOD_CNT1_BSROT_CNT s.cells.bsReq.length) s
  (if s.mmc then s.free else (fZero, s)).2

section
variable {d e : Dev} (h : WorksBeside d e)
include h

theorem WorksBeside.apart {f : Dev} (g : WorksApart e f) : WorksBeside d f := h.trans g.toWorksBeside

theorem WorksBeside.setCells (x : CellsSt) : WorksBeside d (e.setCells x) := h.trans ⟨works_of_regs rfl rfl rfl rfl, rfl⟩

theorem WorksBeside.onlyIf (c : Bool) (f : Dev → Dev) (hf : ∀ t, WorksBeside d t → WorksBeside d (f t)) : WorksBeside d (onlyIf c f e) :=
  onlyIf_keeps (WorksBeside d) c f e h hf

theorem WorksBeside.forEach {α : Type} (l : List α) (f : α → Dev → Dev) (hf : ∀ a t, WorksBeside d t → WorksBeside d (f a t)) :
    WorksBeside d (forEach l f e) :=
  forEach_keeps (WorksBeside d) l f e h hf

theorem WorksBeside.ivAbort : WorksBeside d e.ivAbort := by
  unfold Dev.ivAbort
  exact (h.forEach _ _ (fun _ _ ht => ht.setCells _)).setCells _

theorem WorksBeside.putCells (l : List SweepCell) : WorksBeside d (e.putCells l) := h.setCells _

theorem WorksBeside.logCell (src code pos data : Nat) : WorksBeside d (e.logCell src code pos data) :=
  h.apart ((WorksApart.refl e).logCell src code pos data)

theorem WorksBeside.withPrt (x : PrtSt) : WorksBeside d { e with prt := x } := h.apart (WorksApart.refl e).same

theorem WorksBeside.sweepReady : WorksBeside d e.sweepReady := by
  unfold Dev.sweepReady
  extract_lets s1 s2
  have h1 : WorksBeside d s1 := by
    unfold s1
    split
    · exact h
    · exact h.onlyIf _ _ (fun _ ht => ht.ivAbort)
  have h2 : WorksBeside d s2 := h1.onlyIf _ _ (fun t ht => ht.apart ((WorksApart.refl t).count _ _))
  split
  · exact h2.apart (WorksApart.refl s2).same
  · exact h2

theorem WorksBeside.sweepRun (b : List Byte) (ins : List Word) (ts : Word) (sum : Nat → Word) : WorksBeside d (e.sweepRun b ins ts sum).1 := by
  unfold Dev.sweepRun
  extract_lets _ s1 s2 fr s3
  have h3 : WorksBeside d s3 := h.sweepReady
  clear_value s3
  exact ((((((h3.putCells _).setCells _).forEach _ _ (fun _ _ ht => ht.logCell _ _ _ _)).forEach _ _ (fun _ _ ht => ht.logCell _ _ _ _)).setCells
    _).withPrt _)

theorem WorksBeside.ivFrame : WorksBeside d e.ivFrame := by
  unfold Dev.ivFrame
  dsimp only
  split
  · exact h
  · exact h.setCells _

theorem WorksBeside.mpptItem : WorksBeside d e.mpptItem := by
  unfold Dev.mpptItem
  split
  · exact h
  · split
    · exact WorksBeside.ivFrame (h.setCells _)
    · exact h

end

end Sys2Proof.Machine
end

section
/-! PROOFS. What the laws of Cirrus answer (R117–R125): results within the limits of the descriptor, whatever the events of the run. -/

set_option Elab.async false

namespace Sys2Proof.Machine

/-! ### Results of a computation -/

/-- The result of a computation of Cirrus satisfies `P`, whatever events came before. -/
def Ensures {α : Type} (m : CM α) (P : α → Prop) : Prop := ∀ f, P (m f).1

section
variable {α β : Type} {P Q : α → Prop}

theorem Ensures.mono {m : CM α} (h : Ensures m P) (hpq : ∀ a, P a → Q a) : Ensures m Q := fun f => hpq _ (h f)

theorem Ensures.run {m : CM α} (h : Ensures m P) (f : CFlags) : P (m.run f).1 := h f

theorem ensures_pure {a : α} (h : P a) : Ensures (pure a : CM α) P := fun _ => h

theorem Ensures.bind {m : CM β} {k : β → CM α} {R : β → Prop} (h : Ensures m R) (hk : ∀ b, R b → Ensures (k b) P) : Ensures (m >>= k) P :=
  fun f => hk _ (h f) _

/-- What follows a computation, whatever its result. -/
theorem ensures_after {m : CM β} {k : β → CM α} (hk : ∀ b, Ensures (k b) P) : Ensures (m >>= k) P :=
  fun _ => hk _ _

theorem ensures_ite {c : Prop} [Decidable c] {m n : CM α} (hm : Ensures m P) (hn : Ensures n P) : Ensures (if c then m else n) P := by
  split
  · exact hm
  · exact hn

end

/-! ### Clamps -/

/-- The word is what a clamp to `lo` and `hi` answers. -/
def ClampedTo (lo hi w : Word) : Prop := ∃ x, w = fClamp x lo hi

theorem fLt_irrefl (a : Word) : fLt a a = false := by simp [fLt]

/-- What is clamped lies within its limits, when they are in order. -/
theorem ClampedTo.within {lo hi w : Word} (h : ClampedTo lo hi w) (ho : fLt hi lo = false) : fLt w lo = false ∧ fLt hi w = false := by
  obtain ⟨x, rfl⟩ := h
  unfold fClamp
  split
  · exact ⟨fLt_irrefl lo, ho⟩
  · next hlo =>
    split
    · exact ⟨ho, fLt_irrefl hi⟩
    · next hhi => exact ⟨Bool.eq_false_iff.mpr hlo, Bool.eq_false_iff.mpr hhi⟩

theorem cSatClamp_ensures (x lo hi : Word) : Ensures (cSatClamp x lo hi) (ClampedTo lo hi) := by
  unfold cSatClamp
  exact ensures_ite (ensures_after (fun _ => ensures_pure ⟨x, rfl⟩)) (ensures_pure ⟨x, rfl⟩)

theorem cWindClamp_ensures (x lo hi : Word) : Ensures (cWindClamp x lo hi) (ClampedTo lo hi) := by
  unfold cWindClamp
  exact ensures_ite (ensures_after (fun _ => ensures_pure ⟨x, rfl⟩)) (ensures_pure ⟨x, rfl⟩)

/-- The integrator holds, or lies within its limits (R121). -/
def Integrates (b : List Byte) (i i' : Word) : Prop := i' = i ∨ ClampedTo (imgIMin b) (imgIMax b) i'

/-- The one result of a law: within the output’s limits (R117). -/
def OneResult (b : List Byte) (outs : List Word) : Prop := ClampedTo (imgOMin b) (imgOMax b) (outs.getD 0 0)

theorem antiWindup_ensures (i k e : Word) (b : List Byte) (l m : List Word) :
    Ensures (antiWindup i k e b l m) (fun r => Integrates b i r.1 ∧ ClampedTo (imgOMin b) (imgOMax b) r.2) := by
  unfold antiWindup
  refine ensures_after (fun cand => (cWindClamp_ensures cand _ _).bind (fun ic hic => ensures_after (fun uc => ?_)))
  extract_lets hold i' jp
  have hi : Integrates b i i' := by
    unfold i'
    split
    · exact .inl rfl
    · exact .inr hic
  have hjp : ∀ u, Ensures (jp u) (fun r => Integrates b i r.1 ∧ ClampedTo (imgOMin b) (imgOMax b) r.2) := fun _ =>
    ensures_after (fun u0 => (cSatClamp_ensures u0 _ _).bind (fun u hu => ensures_pure ⟨hi, hu⟩))
  exact ensures_ite (ensures_after hjp) (hjp ())

/-! ### The laws of one result (R121–R124) -/

/-- A law keeps the descriptor and answers one result. -/
def LawResult (b : List Byte) (c : CtxSt) (z : CtxSt × List Word) : Prop := z.1.img = c.img ∧ OneResult b z.2

section
variable (b : List Byte) (c : CtxSt)

theorem lawPid_ensures (pid : Bool) (ts y e tbl : Word) :
    Ensures (lawPid pid b c ts y e tbl) (fun z => LawResult b c z ∧ Integrates b c.i z.1.i) := by
  unfold lawPid
  refine ensures_after (fun p => ?_)
  extract_lets jp
  have hjp : ∀ d, Ensures (jp d) (fun z => LawResult b c z ∧ Integrates b c.i z.1.i) := fun d =>
    ensures_after (fun kit => (antiWindup_ensures _ _ _ _ _ _).bind (fun r hr => ensures_pure ⟨⟨rfl, hr.2⟩, hr.1⟩))
  cases pid
  · exact ensures_after hjp
  · exact ensures_after (fun _ => ensures_after (fun _ => ensures_after (fun _ => ensures_after (fun _ => ensures_after hjp))))

theorem lawPr_ensures (ts f e tbl : Word) : Ensures (lawPr b c ts f e tbl) (LawResult b c) := by
  unfold lawPr
  exact ensures_after (fun xs => ensures_after (fun p => ensures_after (fun u => (cSatClamp_ensures u _ _).bind (fun _ hv => ensures_pure ⟨rfl, hv⟩))))

theorem lawBiquad_ensures (y e tbl : Word) : Ensures (lawBiquad b c y e tbl) (LawResult b c) := by
  unfold lawBiquad
  exact ensures_after (fun r => ensures_after (fun u => (cSatClamp_ensures u _ _).bind (fun _ hv => ensures_pure ⟨rfl, hv⟩)))

theorem lawStateFb_ensures (ts r : Word) (ins : List Word) (tbl : Word) : Ensures (lawStateFb b c ts r ins tbl) (LawResult b c) := by
  unfold lawStateFb
  refine ensures_after (fun e => ensures_after (fun nr => ensures_after (fun base => ensures_ite ?_ ?_)))
  · exact ensures_after (fun u => (cSatClamp_ensures u _ _).bind (fun _ hv => ensures_pure ⟨rfl, hv⟩))
  · exact ensures_after (fun kit => (antiWindup_ensures _ _ _ _ _ _).bind (fun _ hr => ensures_pure ⟨rfl, hr.2⟩))

theorem lawPll_ensures (ts va vb vc inj : Word) : Ensures (lawPll b c ts va vb vc inj) (fun z => z.1.img = c.img) := by
  unfold lawPll
  iterate 13 refine ensures_after (fun _ => ?_)
  extract_lets jp
  have hjp : ∀ q, Ensures (jp q) (fun z => z.1.img = c.img) := fun _ =>
    ensures_after (fun _ => ensures_after (fun _ => ensures_after (fun _ => ensures_after (fun _ => ensures_pure rfl))))
  split
  · exact ensures_after hjp
  · exact ensures_after hjp

/-! ### A run (R118, R121–R125) -/

/-- What a law of one result answers, at each of its outputs. -/
def SameResults (b : List Byte) (outs : List Word) : Prop := ∃ w, ClampedTo (imgOMin b) (imgOMax b) w ∧ outs = List.replicate (imgNout b) w

/-- What the run of a law answers of `c`: its descriptor is kept, laws 1 to 5 answer one result, and the integrator of PI and PID is bound. -/
structure LawAnswer (b : List Byte) (c x : CtxSt) (outs : List Word) : Prop where
  img : x.img = c.img
  outs : 1 ≤ imgLaw b → imgLaw b ≤ 5 → SameResults b outs
  i : imgLaw b = 1 ∨ imgLaw b = 2 → Integrates b c.i x.i

theorem LawResult.answer {b : List Byte} {c : CtxSt} {z : CtxSt × List Word} (h : LawResult b c z) (hi : imgLaw b = 1 ∨ imgLaw b = 2 → Integrates b c.i z.1.i) :
    LawAnswer b c z.1 (List.replicate (imgNout b) (z.2.getD 0 0)) :=
  ⟨h.1, fun _ _ => ⟨_, h.2, rfl⟩, hi⟩

theorem lawOuts_ensures (ts f r e : Word) (ins : List Word) (tbl : Word) (inj : Option (Nat × Word)) :
    Ensures (lawOuts b c ts f r e ins tbl inj) (fun z => LawAnswer b c z.1 z.2) := by
  unfold lawOuts
  extract_lets y injV single k jp
  have hone : ∀ {m : CM (CtxSt × List Word)}, (imgLaw b ≠ 1 ∧ imgLaw b ≠ 2) → Ensures m (LawResult b c) →
      Ensures (do let z ← m; pure (single z)) (fun z => LawAnswer b c z.1 z.2) := fun hn hm =>
    hm.bind (fun z hz => ensures_pure (hz.answer (fun h => (h.elim hn.1 hn.2).elim)))
  have hjp : ∀ add, Ensures (jp add) (fun z => LawAnswer b c z.1 z.2) := by
    intro add
    unfold jp
    split
    · exact (lawPid_ensures b c false _ _ _ _).bind (fun z hz => ensures_pure (hz.1.answer (fun _ => hz.2)))
    · exact (lawPid_ensures b c true _ _ _ _).bind (fun z hz => ensures_pure (hz.1.answer (fun _ => hz.2)))
    · next hl => exact hone (by omega) (lawPr_ensures b c _ _ _ _)
    · next hl => exact hone (by omega) (lawBiquad_ensures b c _ _ _)
    · next hl => exact hone (by omega) (lawStateFb_ensures b c _ _ _ _)
    · next hl =>
      refine (lawPll_ensures b c _ _ _ _ _).bind (fun z hz => ?_)
      have hend : ∀ o, LawAnswer b c z.1 o := fun o => ⟨hz, fun _ h5 => absurd h5 (by omega), fun h => absurd h (by omega)⟩
      extract_lets last table
      have hlast : ∀ o, Ensures (last o) (fun z => LawAnswer b c z.1 z.2) := fun _ => ensures_pure (hend _)
      have htable : ∀ o, Ensures (table o) (fun z => LawAnswer b c z.1 z.2) := fun o =>
        ensures_ite (ensures_after hlast) (ensures_after (fun w => ensures_ite
          ((cSatClamp_ensures w _ _).bind (fun _ _ => ensures_after hlast)) (ensures_after (fun _ => ensures_after hlast))))
      exact ensures_ite (ensures_after htable) (ensures_after (fun _ => ensures_after htable))
    · next h1 h2 h3 h4 h5 h6 =>
      simp only [imp_false] at h1 h2 h3 h4 h5
      exact ensures_pure ⟨rfl, fun hl hh => by omega, fun h => by omega⟩
  exact ensures_ite (ensures_after hjp) (ensures_after hjp)

end

theorem Dev.runCalc_ensures (s : Dev) (c : Nat) (b : List Byte) (x : CtxSt) :
    Ensures (s.runCalc c b x) (fun o => LawAnswer b x o.x o.outs) := by
  unfold Dev.runCalc
  extract_lets ts sels
  refine ensures_after (fun got => ?_)
  extract_lets ins
  refine ensures_after (fun sp => ?_)
  extract_lets gens
  refine ensures_after (fun inj => ?_)
  extract_lets atR atOut
  refine ensures_after (fun r => ensures_after (fun e => ensures_after (fun tbl => ?_)))
  exact (lawOuts_ensures b _ _ _ _ _ _ _ _).bind (fun z hz => ensures_pure ⟨hz.img, hz.outs, hz.i⟩)

end Sys2Proof.Machine
end

section
/-! PROOFS. A run of a context (R110, R118): what it leaves of the other contexts, and what it makes of its own. -/

set_option Elab.async false

namespace Sys2Proof.Machine

/-! ### Contexts -/

theorem Dev.setCtx_ctx_same (s : Dev) (c : Nat) (x : CtxSt) : (s.setCtx c x).ctx c = x := sget_sset_same _ _ _ _

theorem Dev.setCtx_ctx_ne (s : Dev) {c k : Nat} (x : CtxSt) (h : k ≠ c) : (s.setCtx c x).ctx k = s.ctx k := sget_sset_ne _ _ _ _ _ h

theorem Dev.ctx_of_ctxs {d e : Dev} (h : e.ce.ctxs = d.ce.ctxs) (c : Nat) : e.ctx c = d.ctx c := by rw [Dev.ctx, Dev.ctx, h]

/-- Every context is as it was, but for the set-point an outer loop gave it (R113). -/
def InnerOnly (d e : Dev) : Prop := ∀ k, ∃ w, e.ctx k = { d.ctx k with spInner := w }

/-- A run of a context that changed the contexts and left the frame. -/
structure Runs (d e : Dev) : Prop extends Works d e where
  cells : e.cells = d.cells
  inner : InnerOnly d e

section
variable {d e f : Dev}

theorem innerOnly_of_ctxs (h : e.ce.ctxs = d.ce.ctxs) : InnerOnly d e := fun k => ⟨(d.ctx k).spInner, Dev.ctx_of_ctxs h k⟩

theorem InnerOnly.trans (h : InnerOnly d e) (g : InnerOnly e f) : InnerOnly d f := fun k => by
  obtain ⟨w, hw⟩ := g k
  obtain ⟨v, hv⟩ := h k
  exact ⟨w, hw.trans (by rw [hv])⟩

theorem WorksApart.runs (h : WorksApart d e) : Runs d e := ⟨h.toWorks, h.cells, innerOnly_of_ctxs h.ctxs⟩

theorem Runs.trans (h : Runs d e) (g : Runs e f) : Runs d f :=
  ⟨h.toWorks.trans g.toWorks, g.cells.trans h.cells, h.inner.trans g.inner⟩

end

theorem Dev.setCtx_works (s : Dev) (c : Nat) (x : CtxSt) : Works s (s.setCtx c x) := works_of_regs rfl rfl rfl rfl

theorem Dev.writeOut_runs (s : Dev) (v : Nat) (w : Word) : Runs s (s.writeOut v w) := by
  unfold Dev.writeOut
  extract_lets i
  split
  · exact (WorksApart.refl s).same.runs
  · exact (WorksApart.refl s).same.runs
  · refine ⟨s.setCtx_works _ _, rfl, fun k => ?_⟩
    by_cases hk : k = i
    · subst hk
      exact ⟨w, s.setCtx_ctx_same _ _⟩
    · exact ⟨(s.ctx k).spInner, s.setCtx_ctx_ne _ hk⟩
  · exact (WorksApart.refl s).runs

/-! ### One run -/

/-- What a run computes (R118). -/
def Dev.runResult (s : Dev) (c : Nat) : RunOut := ((s.runCalc c (s.ctx c).img (s.ctx c)).run {}).1

/-- What a run adds: the cell sweep or a grid law. -/
def Dev.runAdded (s : Dev) (c : Nat) : Dev × CFlags × List Word := s.runSpecial (s.ctx c).img (s.runResult c)

/-- The context that a run makes of the one that stands after the law. -/
def Dev.runMade (s : Dev) (c : Nat) (keep : CtxSt) : CtxSt :=
  let o := s.runResult c
  let outs := (s.runAdded c).2.2
  { o.x with outs := outs ++ keep.outs.drop outs.length, lastR := o.r, lastE := o.e, lastIn := o.ins ++ keep.lastIn.drop o.ins.length }

/-- A run stores its context. -/
def Dev.runStored (s : Dev) (c : Nat) : Dev := (s.runAdded c).1.setCtx c (s.runMade c ((s.runAdded c).1.ctx c))

theorem Dev.runCtx_idle (s : Dev) (c : Nat) (h : s.ctxDue (s.ctx c).img = false) : s.runCtx c = s := by
  unfold Dev.runCtx
  dsimp only
  rw [h]
  rfl

/-- After a run has stored its context it shows its flags and its outputs. -/
theorem Dev.runCtx_runs (s : Dev) (c : Nat) (h : s.ctxDue (s.ctx c).img = true) : Runs (s.runStored c) (s.runCtx c) := by
  unfold Dev.runCtx
  extract_lets x b o y fl outs s1 keep made s2 s3 s4 s5 s6 s7
  have hdue : (!s.ctxDue b) = false := by rw [Bool.not_eq_false']; exact h
  rw [if_neg (by rw [hdue]; decide)]
  have hs2 : s2 = s.runStored c := rfl
  rw [← hs2]
  clear_value s2
  have h6 : WorksApart s2 s6 := ((((WorksApart.refl s2).showFlags _ _).onlyIf _ _ (fun _ ht => ht.latch _ _ _)).injIdle _).forEach _ _
    (fun _ _ ht => ht.injStep _ _ _)
  have h7 : Runs s2 s7 := forEach_keeps (Runs s2) _ _ _ h6.runs (fun k t ht => by
    split
    · exact ht
    · exact ht.trans (t.writeOut_runs _ _))
  exact onlyIf_keeps (Runs s2) _ _ _ h7 (fun t ht => ht.trans (WorksApart.refl t).capRecord.runs)

theorem Dev.runAdded_sweep (s : Dev) (c : Nat) (h : imgLaw (s.ctx c).img = 7) :
    (s.runAdded c).1 = (s.sweepRun (s.ctx c).img (s.runResult c).ins (s.ctxTs (s.ctx c).img) s.stationSum).1 := by
  unfold Dev.runAdded Dev.runSpecial
  rw [h]
  rfl

theorem Dev.runAdded_simple (s : Dev) (c : Nat) (h : imgLaw (s.ctx c).img < 7) : s.runAdded c = (s, {}, (s.runResult c).outs) := by
  unfold Dev.runAdded Dev.runSpecial
  split
  · omega
  · omega
  · omega
  · rfl

theorem Dev.runSpecial_beside (s : Dev) (b : List Byte) (o : RunOut) : WorksBeside s (s.runSpecial b o).1 := by
  unfold Dev.runSpecial
  dsimp only
  split
  · exact (WorksBeside.refl s).sweepRun b o.ins (s.ctxTs b) s.stationSum
  · exact (WorksApart.gridAdded o b _ ((WorksApart.refl s).gridRun b o.ins o.r)).toWorksBeside
  · exact (WorksApart.gridAdded o b [] ((WorksApart.refl s).islRun b)).toWorksBeside
  · exact WorksBeside.refl s

theorem Dev.runAdded_beside (s : Dev) (c : Nat) : WorksBeside s (s.runAdded c).1 := s.runSpecial_beside _ _

theorem Dev.runStored_works (s : Dev) (c : Nat) : Works s (s.runStored c) := (s.runAdded_beside c).toWorks.trans (Dev.setCtx_works _ _ _)

theorem Dev.runCtx_works (s : Dev) (c : Nat) : Works s (s.runCtx c) := by
  by_cases h : s.ctxDue (s.ctx c).img = true
  · exact (s.runStored_works c).trans (s.runCtx_runs c h).toWorks
  · rw [s.runCtx_idle c (Bool.eq_false_iff.mpr h)]
    exact Works.refl s

/-- What a run makes of its own context. -/
theorem Dev.runCtx_own (s : Dev) (c : Nat) (h : s.ctxDue (s.ctx c).img = true) : ∃ w, (s.runCtx c).ctx c = { s.runMade c (s.ctx c) with spInner := w } := by
  obtain ⟨w, hw⟩ := (s.runCtx_runs c h).inner c
  refine ⟨w, hw.trans ?_⟩
  rw [Dev.runStored, Dev.setCtx_ctx_same, Dev.ctx_of_ctxs (s.runAdded_beside c).ctxs]

theorem Dev.runCtx_other (s : Dev) (c : Nat) {k : Nat} (hk : k ≠ c) : ∃ w, (s.runCtx c).ctx k = { s.ctx k with spInner := w } := by
  by_cases h : s.ctxDue (s.ctx c).img = true
  · obtain ⟨w, hw⟩ := (s.runCtx_runs c h).inner k
    refine ⟨w, hw.trans ?_⟩
    rw [Dev.runStored, Dev.setCtx_ctx_ne _ _ hk, Dev.ctx_of_ctxs (s.runAdded_beside c).ctxs]
  · exact ⟨(s.ctx k).spInner, by rw [s.runCtx_idle c (Bool.eq_false_iff.mpr h)]⟩

theorem Dev.runMade_answer (s : Dev) (c : Nat) : LawAnswer (s.ctx c).img (s.ctx c) (s.runResult c).x (s.runResult c).outs :=
  s.runCalc_ensures c (s.ctx c).img (s.ctx c) {}

/-- A run keeps every descriptor. -/
theorem Dev.runCtx_img (s : Dev) (c k : Nat) : ((s.runCtx c).ctx k).img = (s.ctx k).img := by
  by_cases hk : k = c
  · subst hk
    by_cases h : s.ctxDue (s.ctx k).img = true
    · obtain ⟨w, hw⟩ := s.runCtx_own k h
      rw [hw]
      exact (s.runMade_answer k).img
    · rw [s.runCtx_idle k (Bool.eq_false_iff.mpr h)]
  · obtain ⟨w, hw⟩ := s.runCtx_other c hk
    rw [hw]

/-! ### All the runs of a frame -/

theorem Dev.ctxDue_of_frm {d e : Dev} (h : e.frm = d.frm) (b : List Byte) : e.ctxDue b = d.ctxDue b := by
  rw [Dev.ctxDue, Dev.ctxDue, Dev.curN, Dev.curN, h]

/-- The contexts in their runs. -/
def Dev.runAll (s : Dev) : Dev := forEach (s.ce.ctxs.map (·.1)) (fun c t => t.runCtx c) s

theorem Dev.runContexts_stopped {s : Dev} (h : s.stIn [stPOWEROFF, stBOOT, stCONFIG] = true) : s.runContexts = s := if_pos h

theorem Dev.runContexts_runs {s : Dev} (h : s.stIn [stPOWEROFF, stBOOT, stCONFIG] = false) : WorksApart s.runAll s.runContexts := by
  unfold Dev.runContexts
  rw [h]
  exact (WorksApart.refl s.runAll).onlyIf _ _ (fun t ht => ht.capRecord)

theorem Dev.runAll_works (s : Dev) : Works s s.runAll := forEach_keeps (Works s) _ _ _ (Works.refl s) (fun c t ht => ht.trans (t.runCtx_works c))

theorem Dev.runContexts_works (s : Dev) : Works s s.runContexts := by
  by_cases h : s.stIn [stPOWEROFF, stBOOT, stCONFIG] = true
  · rw [Dev.runContexts_stopped h]
    exact Works.refl s
  · exact s.runAll_works.trans (Dev.runContexts_runs (Bool.eq_false_iff.mpr h)).toWorks

/-- Runs lie between `d` and `e`: the frame stands, and the descriptors. -/
structure Ran (d e : Dev) : Prop extends Works d e where
  img : ∀ k, (e.ctx k).img = (d.ctx k).img

theorem Ran.runCtx {d e : Dev} (h : Ran d e) (c : Nat) : Ran d (e.runCtx c) :=
  ⟨h.toWorks.trans (e.runCtx_works c), fun k => (e.runCtx_img c k).trans (h.img k)⟩

theorem Ran.due {d e : Dev} (h : Ran d e) (k : Nat) : e.ctxDue (e.ctx k).img = d.ctxDue (d.ctx k).img := by
  rw [h.img k, Dev.ctxDue_of_frm h.frm]

/-- A context that is not due keeps its state and its outputs (R115). -/
theorem Dev.runAll_waits {s : Dev} {c : Nat} (h : s.ctxDue (s.ctx c).img = false) : ∃ w, s.runAll.ctx c = { s.ctx c with spInner := w } := by
  refine (forEach_keeps (fun t => Ran s t ∧ ∃ w, t.ctx c = { s.ctx c with spInner := w }) _ _ _
    ⟨⟨Works.refl s, fun _ => rfl⟩, (s.ctx c).spInner, rfl⟩ (fun k t ht => ?_)).2
  obtain ⟨hran, w, hw⟩ := ht
  refine ⟨hran.runCtx k, ?_⟩
  by_cases hk : c = k
  · subst hk
    exact ⟨w, by rw [t.runCtx_idle c ((hran.due c).trans h), hw]⟩
  · obtain ⟨v, hv⟩ := t.runCtx_other k hk
    exact ⟨v, hv.trans (by rw [hw])⟩

/-- What a step of the list establishes, and the others keep, holds at the end. -/
theorem forEach_reaches {α : Type} (I P : Dev → Prop) (a : α) (f : α → Dev → Dev) (hI : ∀ b t, I t → I (f b t)) (ha : ∀ t, I t → P (f a t))
    (hb : ∀ b t, I t → P t → P (f b t)) (l : List α) (hl : a ∈ l) (t : Dev) (ht : I t) : P (forEach l f t) := by
  induction l generalizing t with
  | nil => cases hl
  | cons b l ih =>
    rw [forEach_cons]
    rcases List.mem_cons.mp hl with rfl | hl
    · exact (forEach_keeps (fun t => I t ∧ P t) l f _ ⟨hI _ t ht, ha t ht⟩ (fun b t h => ⟨hI b t h.1, hb b t h.1 h.2⟩)).2
    · exact ih hl _ (hI b t ht)

/-- A context with a descriptor is in the list. -/
theorem Dev.ctx_mem {s : Dev} {c : Nat} (h : (s.ctx c).img ≠ []) : c ∈ s.ce.ctxs.map (·.1) := by
  unfold Dev.ctx at h
  generalize s.ce.ctxs = l at h ⊢
  induction l with
  | nil => exact absurd rfl h
  | cons x l ih =>
    obtain ⟨a, v⟩ := x
    by_cases ha : a = c
    · exact List.mem_cons.mpr (.inl ha.symm)
    · rw [sget, if_neg ha] at h
      exact List.mem_cons_of_mem _ (ih h)

/-- One result, within the limits of `b`, stands at each of the outputs that `b` names (R117). -/
def ShowsResult (b : List Byte) (x : CtxSt) : Prop := ∃ w l, ClampedTo (imgOMin b) (imgOMax b) w ∧ x.outs = List.replicate (imgNout b) w ++ l

theorem ShowsResult.at {b : List Byte} {x : CtxSt} (h : ShowsResult b x) (ho : fLt (imgOMax b) (imgOMin b) = false) {k : Nat} (hk : k < imgNout b) :
    x.outs.getD k 0 = x.outs.getD 0 0 ∧ fLt (x.outs.getD k 0) (imgOMin b) = false ∧ fLt (imgOMax b) (x.outs.getD k 0) = false := by
  obtain ⟨w, l, hw, houts⟩ := h
  have hget : ∀ j, j < imgNout b → x.outs.getD j 0 = w := fun j hj => by simp [houts, List.getD_eq_getElem?_getD, List.getElem?_append, hj]
  rw [hget k hk, hget 0 (by omega)]
  exact ⟨rfl, hw.within ho⟩

/-- A law of one result that runs writes it to its outputs. -/
theorem Dev.runAll_results {s : Dev} {c : Nat} (h : s.ctxDue (s.ctx c).img = true) (h1 : 1 ≤ imgLaw (s.ctx c).img) (h5 : imgLaw (s.ctx c).img ≤ 5) :
    ShowsResult (s.ctx c).img (s.runAll.ctx c) := by
  have hne : (s.ctx c).img ≠ [] := fun he => by
    rw [he] at h
    exact absurd h (by simp [Dev.ctxDue])
  have hown : ∀ t, Ran s t → ShowsResult (s.ctx c).img ((t.runCtx c).ctx c) := fun t ht => by
    obtain ⟨v, hv⟩ := t.runCtx_own c ((ht.due c).trans h)
    have hans := t.runMade_answer c
    rw [ht.img c] at hans
    obtain ⟨w, hw, ho⟩ := hans.outs h1 h5
    have houts : ((t.runCtx c).ctx c).outs = (t.runAdded c).2.2 ++ (t.ctx c).outs.drop (t.runAdded c).2.2.length := (congrArg CtxSt.outs hv).trans rfl
    rw [t.runAdded_simple c (by rw [ht.img c]; omega), ho] at houts
    exact ⟨w, _, hw, houts⟩
  exact forEach_reaches (Ran s) (fun t => ShowsResult (s.ctx c).img (t.ctx c)) c _ (fun b t ht => ht.runCtx b) hown (fun b t ht hp => by
    by_cases hb : c = b
    · rw [← hb]
      exact hown t ht
    · obtain ⟨v, hv⟩ := t.runCtx_other b hb
      obtain ⟨w, l, hw, ho⟩ := hp
      exact ⟨w, l, hw, by rw [hv, ho]⟩) _ (Dev.ctx_mem hne) s ⟨Works.refl s, fun _ => rfl⟩

/-- A single context runs once. -/
theorem Dev.runAll_single {s : Dev} {c : Nat} {x : CtxSt} (h : s.ce.ctxs = [(c, x)]) : s.runAll = s.runCtx c := by
  rw [Dev.runAll, h]
  rfl

theorem Dev.ctx_single {s : Dev} {c : Nat} {x : CtxSt} (h : s.ce.ctxs = [(c, x)]) : s.ctx c = x := by
  rw [Dev.ctx, h]
  exact if_pos rfl

end Sys2Proof.Machine
end

section
/-! PROOFS. The run of the cell sweep (R145, R151–R166): a cell that a check fails is BYPASSED, and nothing else of the run, nor an MPPT step, takes
it up again. -/

set_option Elab.async false

namespace Sys2Proof.Machine

/-! ### Cells that stay BYPASSED -/

/-- What a bypass fixes of a cell: its state, cause, share and reference. -/
def CellSt.mark (c : CellSt) : Nat × Nat × Word × Word := (c.state, c.cause, c.alpha, c.rc)

/-- There is a cell at position `p`, and it is BYPASSED with the cause, the share and the reference `v`. -/
structure BypassedAt (p : Nat) (v : Nat × Word × Word) (l : List SweepCell) : Prop where
  mem : ∃ x ∈ l, x.r.pos = p
  mark : ∀ x ∈ l, x.r.pos = p → x.c.mark = (5, v)

/-- Every BYPASSED cell of `l` is BYPASSED in `m`, with the same cause, share and reference. -/
def KeepsOut (l m : List SweepCell) : Prop := ∀ p v, BypassedAt p v l → BypassedAt p v m

/-- A cell keeps its record, and once BYPASSED what the bypass fixes. -/
structure KeptOut (x y : SweepCell) : Prop where
  r : y.r = x.r
  mark : x.c.state = 5 → y.c.mark = x.c.mark

theorem KeepsOut.refl (l : List SweepCell) : KeepsOut l l := fun _ _ => id

theorem KeepsOut.trans {l m n : List SweepCell} (h : KeepsOut l m) (g : KeepsOut m n) : KeepsOut l n := fun p v hp => g p v (h p v hp)

theorem KeptOut.refl (x : SweepCell) : KeptOut x x := ⟨rfl, fun _ => rfl⟩

theorem KeptOut.trans {x y z : SweepCell} (h : KeptOut x y) (g : KeptOut y z) : KeptOut x z :=
  ⟨g.r.trans h.r, fun hs => (g.mark ((congrArg Prod.fst (h.mark hs)).trans hs)).trans (h.mark hs)⟩

/-- A cell that is not BYPASSED may become anything. -/
theorem keptOut_of_state {x y : SweepCell} (hr : y.r = x.r) (hs : x.c.state ≠ 5) : KeptOut x y := ⟨hr, fun h => absurd h hs⟩

theorem not_bypassed_of_sharing {n : Nat} (h : sharing n = true) : n ≠ 5 := fun hn => by rw [hn] at h; exact absurd h (by decide)

theorem BypassedAt.state {p : Nat} {v : Nat × Word × Word} {l : List SweepCell} (h : BypassedAt p v l) {x : SweepCell} (hx : x ∈ l) (hp : x.r.pos = p) :
    x.c.state = 5 := congrArg Prod.fst (h.mark x hx hp)

/-- A cell that is not BYPASSED stands elsewhere. -/
theorem BypassedAt.elsewhere {p : Nat} {v : Nat × Word × Word} {l : List SweepCell} (h : BypassedAt p v l) {x : SweepCell} (hx : x ∈ l)
    (hs : x.c.state ≠ 5) : x.r.pos ≠ p := fun hp => hs (h.state hx hp)

theorem keepsOut_of_forall {l m : List SweepCell} (h : List.Forall₂ KeptOut l m) : KeepsOut l m := by
  intro p v hp
  have hback : ∀ {l m : List SweepCell}, List.Forall₂ KeptOut l m → ∀ y ∈ m, ∃ x ∈ l, KeptOut x y := by
    intro l m h
    induction h with
    | nil => intro y hy; cases hy
    | cons hxy _ ih =>
      intro y hy
      rcases List.mem_cons.mp hy with rfl | hy
      · exact ⟨_, List.mem_cons_self, hxy⟩
      · obtain ⟨x, hx, hxy⟩ := ih y hy
        exact ⟨x, List.mem_cons_of_mem _ hx, hxy⟩
  have hon : ∀ {l m : List SweepCell}, List.Forall₂ KeptOut l m → ∀ x ∈ l, ∃ y ∈ m, KeptOut x y := by
    intro l m h
    induction h with
    | nil => intro y hy; cases hy
    | cons hxy _ ih =>
      intro y hy
      rcases List.mem_cons.mp hy with rfl | hy
      · exact ⟨_, List.mem_cons_self, hxy⟩
      · obtain ⟨x, hx, hxy⟩ := ih y hy
        exact ⟨x, List.mem_cons_of_mem _ hx, hxy⟩
  refine ⟨?_, fun y hy hyp => ?_⟩
  · obtain ⟨x, hx, hxp⟩ := hp.mem
    obtain ⟨y, hy, hxy⟩ := hon h x hx
    exact ⟨y, hy, by rw [hxy.r, hxp]⟩
  · obtain ⟨x, hx, hxy⟩ := hback h y hy
    have hxp : x.r.pos = p := by rw [← hxy.r, hyp]
    exact (hxy.mark (hp.state hx hxp)).trans (hp.mark x hx hxp)

theorem keepsOut_map {f : SweepCell → SweepCell} (h : ∀ x, KeptOut x (f x)) (l : List SweepCell) : KeepsOut l (l.map f) :=
  keepsOut_of_forall (List.forall₂_map_right_iff.mpr (List.forall₂_same.mpr (fun x _ => h x)))

/-! ### Replacements, requests and rotations (R165–R167) -/

theorem longest_mem {st g : Nat} {ok : SweepCell → Bool} {l : List SweepCell} {n : SweepCell} (h : longest st g ok l = some n) :
    n ∈ l ∧ n.c.state = st := by
  unfold longest at h
  have hstep : ∀ (k : List SweepCell) (best : Option SweepCell), (∀ y, best = some y → y ∈ l ∧ y.c.state = st) → (∀ y ∈ k, y ∈ l) →
      ∀ y, k.foldl (fun best x =>
        if x.c.state == st && x.r.group == g && !x.swapped && ok x then
          match best with
          | none => some x
          | some y => if x.c.since < y.c.since then some x else best
        else best) best = some y → y ∈ l ∧ y.c.state = st := by
    intro k
    induction k with
    | nil => exact fun best hb _ y hy => hb y hy
    | cons x k ih =>
      intro best hb hk
      refine ih _ (fun y hy => ?_) (fun y hy => hk y (List.mem_cons_of_mem _ hy))
      dsimp only at hy
      split at hy
      · next hc =>
        have hx : x ∈ l ∧ x.c.state = st := ⟨hk x List.mem_cons_self, by
          simp only [Bool.and_eq_true, beq_iff_eq] at hc
          exact hc.1.1.1⟩
        split at hy
        · cases hy; exact hx
        · split at hy
          · cases hy; exact hx
          · exact hb y hy
      · exact hb y hy
  exact hstep l none (fun y hy => by cases hy) (fun y hy => hy) n h

/-- A cell that is not BYPASSED is changed. -/
theorem keepsOut_updCell {l : List SweepCell} {n : SweepCell} (hn : n ∈ l) (hs : n.c.state ≠ 5) {f : SweepCell → SweepCell} (hf : ∀ x, (f x).r = x.r) :
    KeepsOut l (updCell n.r.pos f l) := by
  intro p v hp
  have hne := hp.elsewhere hn hs
  obtain ⟨x, hx, hxp⟩ := hp.mem
  refine ⟨⟨_, List.mem_map.mpr ⟨x, hx, rfl⟩, ?_⟩, fun y hy hyp => ?_⟩
  · split
    · rw [hf, hxp]
    · exact hxp
  · obtain ⟨x, hx, rfl⟩ := List.mem_map.mp hy
    split at hyp
    · next heq => exact absurd (heq.symm.trans (by rwa [hf] at hyp)) hne
    · next heq =>
      rw [if_neg heq]
      exact hp.mark x hx hyp

theorem keepsOut_updCell_of {l : List SweepCell} (p : Nat) {f : SweepCell → SweepCell} (h : ∀ x, KeptOut x (f x)) : KeepsOut l (updCell p f l) :=
  keepsOut_map (fun x => by
    split
    · exact h x
    · exact KeptOut.refl x) l

/-- A cell stands where it stood when others are changed, in the state it had. -/
theorem mem_updCell_of_ne {l : List SweepCell} {n : SweepCell} {p : Nat} {f : SweepCell → SweepCell} (hn : n ∈ l) (hp : n.r.pos ≠ p) : n ∈ updCell p f l :=
  List.mem_map.mpr ⟨n, hn, if_neg hp⟩

theorem replaceFailed_keepsOut (b : List Byte) (stamp : Nat) (acc : List SweepCell × List (Nat × Nat)) (f : SweepCell) :
    KeepsOut acc.1 (replaceFailed b stamp acc f).1 := by
  unfold replaceFailed
  split
  · exact KeepsOut.refl _
  · next n hn =>
    obtain ⟨hmem, hst⟩ := longest_mem hn
    have hswap : KeepsOut acc.1 (updCell f.r.pos (fun x => { x with swapped := true }) acc.1) := keepsOut_updCell_of _ (fun x => ⟨rfl, fun _ => rfl⟩)
    refine hswap.trans ?_
    have hin : ∃ m ∈ updCell f.r.pos (fun x => { x with swapped := true }) acc.1, m.r.pos = n.r.pos ∧ m.c.state ≠ 5 := by
      refine ⟨_, List.mem_map.mpr ⟨n, hmem, rfl⟩, ?_⟩
      split <;> exact ⟨rfl, by rw [hst]; decide⟩
    obtain ⟨m, hm, hmp, hms⟩ := hin
    rw [← hmp]
    exact keepsOut_updCell hm hms (fun _ => rfl)

/-- A swap of a cell that shares with one that stands by. -/
theorem swap_keepsOut {l : List SweepCell} {o n : SweepCell} {out into : SweepCell → SweepCell} (ho : o ∈ l) (hos : o.c.state ≠ 5) (hn : n ∈ l)
    (hns : n.c.state ≠ 5) (hout : ∀ x, (out x).r = x.r) (hinto : ∀ x, (into x).r = x.r) :
    KeepsOut l (updCell n.r.pos into (updCell o.r.pos out l)) := by
  intro p v hp
  have h1 := keepsOut_updCell (f := out) ho hos hout p v hp
  have hne := hp.elsewhere hn hns
  obtain ⟨x, hx, hxp⟩ := h1.mem
  refine ⟨⟨x, mem_updCell_of_ne hx (by rw [hxp]; exact hne.symm), hxp⟩, fun y hy hyp => ?_⟩
  obtain ⟨x, hx, rfl⟩ := List.mem_map.mp hy
  split at hyp
  · next heq => exact absurd (heq.symm.trans (by rwa [hinto] at hyp)) hne
  · next heq =>
    rw [if_neg heq]
    exact h1.mark x hx hyp

theorem serveRequest_keepsOut (b : List Byte) (stamp : Nat) (acc : List SweepCell × List (Nat × Nat) × List Nat × List Nat) (pos : Nat) :
    KeepsOut acc.1 (serveRequest b stamp acc pos).1 := by
  unfold serveRequest
  split
  · exact KeepsOut.refl _
  · next o ho =>
    have hin := List.mem_of_find?_eq_some ho
    have hp := List.find?_some ho
    simp only [Bool.and_eq_true, beq_iff_eq] at hp
    dsimp only
    split
    · exact KeepsOut.refl _
    · split
      · exact KeepsOut.refl _
      · next n hn =>
        obtain ⟨hmem, hst⟩ := longest_mem hn
        have h := swap_keepsOut (out := (·.enterStandby stamp)) (into := (·.enterActive b stamp)) hin (not_bypassed_of_sharing hp.2) hmem
          (by rw [hst]; decide) (fun _ => rfl) (fun _ => rfl)
        rwa [hp.1] at h

theorem rotateGroup_keepsOut (b : List Byte) (stamp g : Nat) (l : List SweepCell) (sw : List (Nat × Nat)) : KeepsOut l (rotateGroup b stamp g l sw).2.1 := by
  unfold rotateGroup
  dsimp only
  split
  · next n o hn ho =>
    obtain ⟨hmem, hst⟩ := longest_mem hn
    obtain ⟨hmemo, hsto⟩ := longest_mem ho
    exact swap_keepsOut (out := (·.enterStandby stamp)) (into := (·.enterActive b stamp)) hmemo (by rw [hsto]; decide) hmem (by rw [hst]; decide)
      (fun _ => rfl) (fun _ => rfl)
  · exact KeepsOut.refl _

/-- What every step of a fold spares, the fold spares. -/
theorem foldl_keepsOut {α β : Type} (cells : β → List SweepCell) (f : β → α → β) (h : ∀ b a, KeepsOut (cells b) (cells (f b a))) (l : List α) (b : β) :
    KeepsOut (cells b) (cells (l.foldl f b)) := by
  induction l generalizing b with
  | nil => exact KeepsOut.refl _
  | cons a l ih => exact (h b a).trans (ih _)

/-! ### The plan of a run (R164) -/

theorem SweepCell.check_failed {b : List Byte} {host : List Nat} {stamp k : Nat} {x : SweepCell} (h0 : x.c.state ≠ 0) (h5 : x.c.state ≠ 5)
    (hk : k = failCause b x.t (host.contains x.r.pos)) (hne : k ≠ 0) :
    (x.check b host stamp).2.r = x.r ∧ (x.check b host stamp).2.c.mark = (5, k, x.c.alpha, fZero) := by
  unfold SweepCell.check
  rw [if_neg (by omega)]
  dsimp only
  rw [← hk, if_neg hne]
  exact ⟨rfl, rfl⟩

theorem SweepCell.check_r (b : List Byte) (host : List Nat) (stamp : Nat) (x : SweepCell) : (x.check b host stamp).2.r = x.r := by
  unfold SweepCell.check
  split
  · rfl
  · dsimp only
    split <;> rfl

/-- The checks of a run. -/
theorem checked_bypassed {b : List Byte} {host : List Nat} {stamp k : Nat} {l : List SweepCell} (hnd : (l.map (·.r.pos)).Nodup) {y : SweepCell}
    (hy : y ∈ l) (h0 : y.c.state ≠ 0) (h5 : y.c.state ≠ 5) (hk : k = failCause b y.t (host.contains y.r.pos)) (hne : k ≠ 0) :
    BypassedAt y.r.pos (k, y.c.alpha, fZero) (l.map (fun x => (x.check b host stamp).2)) := by
  obtain ⟨hr, hm⟩ := SweepCell.check_failed (stamp := stamp) h0 h5 hk hne
  refine ⟨⟨_, List.mem_map.mpr ⟨y, hy, rfl⟩, by rw [hr]⟩, fun z hz hzp => ?_⟩
  obtain ⟨x, hx, rfl⟩ := List.mem_map.mp hz
  rw [SweepCell.check_r] at hzp
  rw [List.inj_on_of_nodup_map hnd hx hy hzp]
  exact hm

/-- A BYPASSED cell has no share and no weight. -/
def SweepCell.unshared (x : SweepCell) : SweepCell := if x.c.state = 5 then { x with c := { x.c with alpha := fZero, w := fZero } } else x

theorem unshared_bypassed {p k : Nat} {a rc : Word} {l : List SweepCell} (h : BypassedAt p (k, a, rc) l) :
    BypassedAt p (k, fZero, rc) (l.map (·.unshared)) := by
  have hr : ∀ x : SweepCell, x.unshared.r = x.r := fun x => by
    unfold SweepCell.unshared
    split <;> rfl
  refine ⟨?_, fun y hy hyp => ?_⟩
  · obtain ⟨x, hx, hxp⟩ := h.mem
    exact ⟨_, List.mem_map.mpr ⟨x, hx, rfl⟩, by rw [hr, hxp]⟩
  · obtain ⟨x, hx, rfl⟩ := List.mem_map.mp hy
    rw [hr] at hyp
    have hm := h.mark x hx hyp
    rw [SweepCell.unshared, if_pos (h.state hx hyp)]
    simp only [CellSt.mark, Prod.mk.injEq] at hm ⊢
    exact ⟨hm.1, hm.2.1, trivial, hm.2.2.2⟩

/-- The scheduled rotation of a group, when it is due (R167): the groups that stay due, the cells, the swaps. -/
def rotateDue (b : List Byte) (stamp rotDue : Nat) (a : Nat × List SweepCell × List (Nat × Nat)) (g : Nat) : Nat × List SweepCell × List (Nat × Nat) :=
  if rotDue / 2 ^ g % 2 = 1 then
    let x := rotateGroup b stamp g a.2.1 a.2.2
    (if x.1 then a.1 + 2 ^ g else a.1, x.2)
  else a

theorem rotateDue_keepsOut (b : List Byte) (stamp rotDue : Nat) (a : Nat × List SweepCell × List (Nat × Nat)) (g : Nat) :
    KeepsOut a.2.1 (rotateDue b stamp rotDue a g).2.1 := by
  unfold rotateDue
  split
  · exact rotateGroup_keepsOut b stamp g a.2.1 a.2.2
  · exact KeepsOut.refl _

theorem plan_bypassed {b : List Byte} {host req : List Nat} {stamp rotDue k : Nat} {l : List SweepCell} (hnd : (l.map (·.r.pos)).Nodup) {y : SweepCell}
    (hy : y ∈ l) (h0 : y.c.state ≠ 0) (h5 : y.c.state ≠ 5) (hk : k = failCause b y.t (host.contains y.r.pos)) (hne : k ≠ 0) :
    BypassedAt y.r.pos (k, fZero, fZero) (plan b stamp host req rotDue l).cells := by
  unfold plan
  extract_lets chk failed l1 lost r l2 q rot
  have h1 : BypassedAt y.r.pos (k, y.c.alpha, fZero) l1 := by
    have hl1 : l1 = l.map (fun x => (x.check b host stamp).2) := List.map_map ..
    rw [hl1]
    exact checked_bypassed hnd hy h0 h5 hk hne
  have hr : KeepsOut l1 r.1 := foldl_keepsOut Prod.fst (replaceFailed b stamp) (replaceFailed_keepsOut b stamp) lost (l1, [])
  have h2 : BypassedAt y.r.pos (k, fZero, fZero) l2 := unshared_bypassed (hr _ _ h1)
  have hq : KeepsOut l2 q.1 := foldl_keepsOut Prod.fst (serveRequest b stamp) (serveRequest_keepsOut b stamp) req (l2, r.2, [], [])
  have hrot : KeepsOut q.1 rot.2.1 := foldl_keepsOut (fun a => a.2.1) (rotateDue b stamp rotDue) (rotateDue_keepsOut b stamp rotDue) (List.range 6)
    (0, q.1, q.2.1)
  exact hrot _ _ (hq _ _ h2)

/-! ### The arithmetic of a run (R150–R152) -/

theorem sweepFold_keeps {α : Type} {p : SweepCell → Bool} {f : SweepCell → α → CM (α × SweepCell)}
    (h : ∀ x a, p x = true → Ensures (f x a) (fun r => KeptOut x r.2)) (l : List SweepCell) (a : α) :
    Ensures (sweepFold p f l a) (fun r => List.Forall₂ KeptOut l r.2) := by
  induction l generalizing a with
  | nil => exact ensures_pure .nil
  | cons x l ih =>
    have hx : Ensures (if p x then f x a else pure (a, x)) (fun r => KeptOut x r.2) := by
      split
      · next hp => exact h x a hp
      · exact ensures_pure (KeptOut.refl x)
    unfold sweepFold
    extract_lets jp
    have hjp : ∀ r : α × SweepCell, KeptOut x r.2 → Ensures (jp r) (fun r => List.Forall₂ KeptOut (x :: l) r.2) := fun r hr =>
      (ih r.1).bind (fun t ht => ensures_pure (.cons hr ht))
    split
    · next hp => exact (h x a hp).bind hjp
    · exact hjp (a, x) (KeptOut.refl x)

theorem sweepFold_keepsOut {α : Type} {p : SweepCell → Bool} {f : SweepCell → α → CM (α × SweepCell)}
    (h : ∀ x a, p x = true → Ensures (f x a) (fun r => KeptOut x r.2)) (l : List SweepCell) (a : α) :
    Ensures (sweepFold p f l a) (fun r => KeepsOut l r.2) := (sweepFold_keeps h l a).mono (fun _ => keepsOut_of_forall)

theorem pvWeight_kept (b : List Byte) (ts : Word) (x : SweepCell) : Ensures (pvWeight b ts x) (KeptOut x) := by
  unfold pvWeight
  refine ensures_after (fun _ => ensures_after (fun _ => ensures_after (fun _ => ?_)))
  extract_lets integ
  exact ensures_after (fun _ => ensures_after (fun _ => ensures_after (fun _ => ensures_pure ⟨rfl, fun _ => rfl⟩)))

theorem socStep_kept (ts : Word) (x : SweepCell) : Ensures (socStep ts x) (KeptOut x) := by
  unfold socStep
  exact ensures_after (fun _ => ensures_after (fun _ => ensures_after (fun _ => ensures_pure ⟨rfl, fun _ => rfl⟩)))

theorem batWeight_kept (b : List Byte) (up : Bool) (mean : Word) (x : SweepCell) : Ensures (batWeight b up mean x) (KeptOut x) := by
  unfold batWeight
  refine ensures_after (fun _ => ensures_after (fun _ => ensures_after (fun _ => ensures_after (fun _ => ?_))))
  exact ensures_pure ⟨rfl, fun _ => rfl⟩

theorem mmcWeight_kept (b : List Byte) (mean : Word) (x : SweepCell) : Ensures (mmcWeight b mean x) (KeptOut x) := by
  unfold mmcWeight
  refine ensures_after (fun _ => ?_)
  extract_lets k
  exact ensures_after (fun _ => ensures_after (fun _ => ensures_after (fun _ => ensures_pure ⟨rfl, fun _ => rfl⟩)))

theorem weigh_kept (b : List Byte) (mmc : Bool) (ts in4 : Word) (sum : Nat → Word) (x : SweepCell) : Ensures (weigh b mmc ts in4 sum x) (KeptOut x) := by
  unfold weigh
  extract_lets jp
  have hjp : ∀ y, KeptOut x y → Ensures (jp y) (KeptOut x) := fun y hy => by
    have hto : ∀ {m : CM SweepCell}, Ensures m (KeptOut y) → Ensures m (KeptOut x) := fun hm => hm.mono (fun _ => hy.trans)
    refine ensures_ite (ensures_pure hy) (ensures_ite ?_ (ensures_ite ?_ (hto (pvWeight_kept b ts y))))
    · exact ensures_after (fun _ => ensures_after (fun _ => hto (mmcWeight_kept b _ y)))
    · exact ensures_after (fun _ => hto (batWeight_kept b _ _ y))
  exact ensures_ite ((socStep_kept ts x).bind hjp) ((ensures_pure (KeptOut.refl x)).bind hjp)

theorem capShare_r (x : SweepCell) (acc : Word) : Ensures (capShare x acc) (fun r => r.2.r = x.r) := by
  unfold capShare
  exact ensures_ite (ensures_after (fun _ => ensures_after (fun _ => ensures_after (fun _ => ensures_pure rfl)))) (ensures_pure rfl)

theorem firstShare_r (b : List Byte) (pv : Bool) (s cg vpk : Word) (x : SweepCell) : Ensures (firstShare b pv s cg vpk x) (fun y => y.r = x.r) := by
  unfold firstShare
  extract_lets bad before jp
  have hjp : ∀ a, Ensures (jp a) (fun y => y.r = x.r) := fun a => by
    unfold jp
    extract_lets last
    split
    · exact ensures_after (fun _ => ensures_after (fun _ => ensures_pure rfl))
    · exact ensures_after (fun _ => ensures_pure rfl)
  refine ensures_ite (ensures_after (fun _ => ensures_after hjp)) (ensures_ite (ensures_after hjp) (ensures_after hjp))

theorem reference_r (x : SweepCell) (acc : Word) : Ensures (reference x acc) (fun r => r.2.r = x.r) := by
  unfold reference
  exact ensures_ite (ensures_after (fun _ => ensures_pure rfl)) (ensures_after (fun _ => ensures_pure rfl))

/-- A step on cells that share. -/
theorem sharing_keepsOut {α : Type} {p : SweepCell → Bool} {f : SweepCell → α → CM (α × SweepCell)} (hp : ∀ x, p x = true → sharing x.c.state = true)
    (hf : ∀ x a, Ensures (f x a) (fun r => r.2.r = x.r)) (l : List SweepCell) (a : α) : Ensures (sweepFold p f l a) (fun r => KeepsOut l r.2) :=
  sweepFold_keepsOut (fun x a hx => (hf x a).mono (fun _ hr => keptOut_of_state hr (not_bypassed_of_sharing (hp x hx)))) l a

theorem groupShares_keepsOut (b : List Byte) (g : Nat) (pv : Bool) (vpk : Word) (sum : Nat → Word) (l : List SweepCell) :
    Ensures (groupShares b g pv vpk sum l) (fun r => KeepsOut l r.2) := by
  unfold groupShares
  extract_lets mem openCell
  have hmem : ∀ x, mem x = true → sharing x.c.state = true := fun x hx => by
    simp only [mem, Bool.and_eq_true] at hx
    exact hx.1.2
  refine (sharing_keepsOut hmem (fun x a => (firstShare_r b pv _ _ _ x).bind (fun y hy => ensures_pure hy)) l ()).bind (fun r hr => ?_)
  refine (sharing_keepsOut hmem capShare_r r.2 fZero).bind (fun r1 hr1 => ?_)
  extract_lets excess
  have hopen : ∀ x, openCell x = true → sharing x.c.state = true := fun x hx => by
    simp only [openCell, Bool.and_eq_true] at hx
    exact hmem x hx.1
  refine ensures_after (fun free => ensures_ite (ensures_pure (hr.trans hr1)) ?_)
  refine (sharing_keepsOut hopen (fun x a => ensures_after (fun _ => ensures_after (fun _ => ensures_after (fun _ => ensures_pure rfl)))) r1.2 ()).bind
    (fun r2 hr2 => ?_)
  exact (sharing_keepsOut hopen capShare_r r2.2 fZero).mono (fun _ hr3 => ((hr.trans hr1).trans hr2).trans hr3)

theorem allShares_keepsOut (b : List Byte) (v0 in3 : Word) (mmc : Bool) (sum : Nat → Word) (gs : List Nat) (l : List SweepCell) :
    Ensures (allShares b v0 in3 mmc sum gs l) (fun r => KeepsOut l r.2) := by
  induction gs generalizing l with
  | nil => exact ensures_pure (KeepsOut.refl l)
  | cons g gs ih =>
    unfold allShares
    refine ensures_after (fun vpk => ?_)
    extract_lets pv
    refine (groupShares_keepsOut b g pv vpk sum l).bind (fun r hr => ?_)
    refine (sharing_keepsOut (fun x hx => by
      simp only [Bool.and_eq_true] at hx
      exact hx.2) reference_r r.2 r.1).bind (fun r2 hr2 => ?_)
    exact (ih r2.2).bind (fun rest hrest => ensures_pure ((hr.trans hr2).trans hrest))

theorem sweepCalc_keepsOut (b : List Byte) (mmc storage : Bool) (ts free : Word) (ins : List Word) (sum : Nat → Word) (l : List SweepCell) :
    Ensures (sweepCalc b mmc storage ts free ins sum l) (fun r => KeepsOut l r.1) := by
  unfold sweepCalc
  extract_lets in1 in3 in4
  refine (sweepFold_keepsOut (fun x a _ => (weigh_kept b mmc ts in4 sum x).bind (fun y hy => ensures_pure hy)) l ()).bind (fun w hw => ?_)
  refine ensures_after (fun z => ?_)
  exact (allShares_keepsOut b z.1 in3 mmc sum (List.range 6) w.2).bind (fun r hr => ensures_pure (hw.trans hr))

/-! ### After the shares (R153–R158) -/

theorem curtail_kept (b : List Byte) (stamp : Nat) (iv : IvSt) (x : SweepCell) : KeptOut x (curtail b stamp iv x).2 := by
  by_cases h5 : x.c.state = 5
  · have hsame : curtail b stamp iv x = (false, x) := by
      unfold curtail
      simp [h5]
    rw [hsame]
    exact KeptOut.refl x
  · refine keptOut_of_state ?_ h5
    unfold curtail
    dsimp only
    (repeat' split) <;> rfl

theorem restoreSwept_kept (iv : IvSt) (x : SweepCell) : KeptOut x (restoreSwept iv x) := by
  unfold restoreSwept
  split
  · split
    · exact KeptOut.refl x
    · exact ⟨rfl, fun _ => rfl⟩
  · exact KeptOut.refl x

theorem sample_kept (due : Bool) (x : SweepCell) : KeptOut x (sample due x) := by
  unfold sample
  split
  · dsimp only
    split <;> exact ⟨rfl, fun _ => rfl⟩
  · exact KeptOut.refl x

theorem mpptCell_kept (b : List Byte) (x : SweepCell) : KeptOut x (mpptCell b x) := by
  by_cases h5 : x.c.state = 5
  · have hsame : mpptCell b x = x := by
      unfold mpptCell
      simp [h5]
    rw [hsame]
    exact KeptOut.refl x
  · refine keptOut_of_state ?_ h5
    unfold mpptCell
    dsimp only
    split <;> rfl

/-! ### The cells put back -/

/-- The cells of a device with those of a run put back. -/
def putAll (l : List SweepCell) (a : List (Nat × CellSt)) : List (Nat × CellSt) := l.foldl (fun a x => sset (fun _ => {}) a x.r.pos x.c) a

theorem putAll_mark {p : Nat} {m : Nat × Nat × Word × Word} {l : List SweepCell} {a : List (Nat × CellSt)} (hl : ∀ x ∈ l, x.r.pos = p → x.c.mark = m)
    (ha : (∃ x ∈ l, x.r.pos = p) ∨ (sget (fun _ => {}) a p).mark = m) : (sget (fun _ => {}) (putAll l a) p).mark = m := by
  induction l generalizing a with
  | nil => exact ha.elim (fun ⟨_, hx, _⟩ => by cases hx) id
  | cons x l ih =>
    refine ih (fun y hy => hl y (List.mem_cons_of_mem _ hy)) ?_
    dsimp only
    by_cases hp : x.r.pos = p
    · exact .inr (by rw [hp, sget_sset_same]; exact hl x List.mem_cons_self hp)
    · rw [sget_sset_ne _ _ _ _ _ (Ne.symm hp)]
      refine ha.imp_left (fun ⟨y, hy, hyp⟩ => ⟨y, ?_, hyp⟩)
      rcases List.mem_cons.mp hy with rfl | hy
      · exact absurd hyp hp
      · exact hy

end Sys2Proof.Machine
end

section
/-! PROOFS. The compute phase begins (R53, R56, R59): control work, then the sheddable classes. -/

set_option Elab.async false

namespace Sys2Proof.Machine

/-! ### A failed cell after a run of the cell sweep (R164) -/

theorem Dev.sweepReady_cells {s : Dev} (h : s.cells.iv.running = false) : s.sweepReady.cells = s.cells := by
  unfold Dev.sweepReady
  extract_lets s1 s2
  have h1 : s1 = s := by
    unfold s1
    rw [h]
    exact ite_self s
  have h2 : s2.cells = s.cells := by
    unfold s2
    rw [h1]
    exact ((WorksApart.refl s).onlyIf _ _ (fun _ ht => ht.count _ _)).cells
  split
  · exact h2
  · exact h2

theorem Dev.cell_of_cells {d e : Dev} (h : e.cells = d.cells) (p : Nat) : e.cell p = d.cell p := by rw [Dev.cell, Dev.cell, h]

/-- A cell after its share: CURTAILED or not, with the reference it takes back, and its sample (R153, R154, R158). -/
def SweepCell.runEnd (b : List Byte) (stamp : Nat) (iv : IvSt) (due : Bool) (x : SweepCell) : SweepCell :=
  sample due (restoreSwept iv (curtail b stamp iv x).2)

theorem SweepCell.runEnd_kept (b : List Byte) (stamp : Nat) (iv : IvSt) (due : Bool) (x : SweepCell) : KeptOut x (x.runEnd b stamp iv due) :=
  ((curtail_kept b stamp iv x).trans (restoreSwept_kept _ _)).trans (sample_kept _ _)

theorem Dev.sweepRun_bypasses {s : Dev} {b : List Byte} {ins : List Word} {ts : Word} {sum : Nat → Word} {y : SweepCell} {k : Nat}
    (hf : s.cells.first = false) (hr : s.cells.iv.running = false) (hnd : (s.cells.recs.map (·.pos)).Nodup) (hy : y ∈ s.sweepCells)
    (h0 : y.c.state ≠ 0) (h5 : y.c.state ≠ 5) (hk : k = failCause b y.t (s.cells.hostByp.contains y.r.pos)) (hne : k ≠ 0) :
    ((s.sweepRun b ins ts sum).1.cell y.r.pos).mark = (5, k, fZero, fZero) := by
  have hcells := Dev.sweepReady_cells hr
  unfold Dev.sweepRun
  extract_lets stamp s1 s2 fr s3 l0 l1 p storage r m dueNow cs hit l agg s4 ivBefore iv before s5 s6 s7 low after s8
  have h3 : s3.cells = s.cells := hcells
  have hrun : r = (sweepCalc b s3.mmc storage ts fr.1 ins sum p.cells).run {} := rfl
  have hcs : l = r.1.1.map (·.runEnd b stamp s3.cells.iv dueNow) := by
    unfold l cs
    rw [List.map_map, List.map_map]
    rfl
  clear_value l r
  have hput : s5.cells.cells = putAll l s3.cells.cells := rfl
  have hl1 : l1 = s.sweepCells := by
    unfold l1 l0 Dev.sweepCells Dev.cell
    rw [h3, if_neg (by rw [hf]; decide)]
  have hp : BypassedAt y.r.pos (k, fZero, fZero) p.cells := by
    refine plan_bypassed ?_ (by rw [hl1]; exact hy) h0 h5 (by rw [h3]; exact hk) hne
    rw [hl1, Dev.sweepCells, List.map_map]
    exact hnd
  have hl : BypassedAt y.r.pos (k, fZero, fZero) l := by
    have hcalc := (sweepCalc_keepsOut b s3.mmc storage ts fr.1 ins sum p.cells).run {}
    rw [← hrun] at hcalc
    rw [hcs]
    exact hcalc.trans (keepsOut_map (fun x => x.runEnd_kept b stamp _ _) _) _ _ hp
  have h7 : s7.cells = s5.cells := (((WorksApart.refl s5).forEach _ _ (fun _ _ ht => ht.logCell _ _ _ _)).forEach _ _
    (fun _ _ ht => ht.logCell _ _ _ _)).cells
  have hend : s8.cells.cells = putAll l s3.cells.cells := (congrArg CellsSt.cells h7).trans hput
  have hgoal : sget (fun _ => {}) s8.cells.cells y.r.pos = sget (fun _ => {}) (putAll l s3.cells.cells) y.r.pos :=
    congrArg (fun t => sget (fun _ => ({} : CellSt)) t y.r.pos) hend
  exact (congrArg CellSt.mark hgoal).trans (putAll_mark hl.mark (.inl hl.mem))

end Sys2Proof.Machine
end

section
/-! PROOFS. Shedding (R59, R60): which of the sheddable classes a frame sheds, and what the classes leave. -/

set_option Elab.async false

namespace Sys2Proof.Machine

/-! ### What the sheddable classes leave -/

/-- The registers that shedding changes. -/
def shedRegs : List Nat := [Reg.FRM_FLAG, Reg.FRM_SHED0, Reg.FRM_SHED1]

/-- Sheddable classes have run, or have been shed, between `d` and `e`. -/
structure Sheds (d e : Dev) : Prop where
  frm : e.frm = d.frm
  time : e.time = d.time
  clocks : e.clocks = d.clocks
  ctxs : e.ce.ctxs = d.ce.ctxs
  regs : ∀ o, 0x800 ≤ o → o < 0x1000 → o ∉ shedRegs → e.reg o = d.reg o
  /-- A BYPASSED cell stays BYPASSED. -/
  mark : ∀ p v, (d.cell p).mark = (5, v) → (e.cell p).mark = (5, v)

section
variable {d e f : Dev}

theorem Sheds.refl (d : Dev) : Sheds d d := ⟨rfl, rfl, rfl, rfl, fun _ _ _ _ => rfl, fun _ _ => id⟩

theorem Sheds.trans (h : Sheds d e) (g : Sheds e f) : Sheds d f where
  frm := g.frm.trans h.frm
  time := g.time.trans h.time
  clocks := g.clocks.trans h.clocks
  ctxs := g.ctxs.trans h.ctxs
  regs o hl hh ho := (g.regs o hl hh ho).trans (h.regs o hl hh ho)
  mark p v hm := g.mark p v (h.mark p v hm)

theorem WorksBeside.sheds (h : WorksBeside d e) (hm : ∀ p v, (d.cell p).mark = (5, v) → (e.cell p).mark = (5, v)) : Sheds d e :=
  ⟨h.frm, h.time, h.clocks, h.ctxs, fun o hl hh _ => h.regs o hl hh, hm⟩

theorem WorksApart.sheds (h : WorksApart d e) : Sheds d e := h.toWorksBeside.sheds (fun p _ hm => by rw [Dev.cell_of_cells h.cells p]; exact hm)

theorem Dev.mpptItem_sheds (s : Dev) : Sheds s s.mpptItem := by
  refine (WorksBeside.refl s).mpptItem.sheds (fun p v hm => ?_)
  unfold Dev.mpptItem
  split
  · exact hm
  · next b _ =>
    split
    · have hiv : ∀ t : Dev, t.ivFrame.cells.cells = t.cells.cells := fun t => by
        unfold Dev.ivFrame
        dsimp only
        split <;> rfl
      have hput : (s.putCells (s.sweepCells.map (mpptCell b))).ivFrame.cells.cells = putAll (s.sweepCells.map (mpptCell b)) s.cells.cells := hiv _
      rw [Dev.cell, hput]
      refine putAll_mark (fun x hx hxp => ?_) (.inr hm)
      obtain ⟨y, hy, rfl⟩ := List.mem_map.mp hx
      obtain ⟨r, _, rfl⟩ := List.mem_map.mp hy
      have hkept := mpptCell_kept b { r := r, c := s.cell r.pos, t := sget (fun _ => {}) s.cells.tel r.pos }
      rw [hkept.r] at hxp
      have hc : (s.cell r.pos).mark = (5, v) := (congrArg (fun p => (s.cell p).mark) hxp).trans hm
      exact (hkept.mark (congrArg Prod.fst hc)).trans hc
    · exact hm

theorem Dev.shedRun_sheds (s : Dev) (k : Nat) : Sheds s (s.shedRun k) := by
  unfold Dev.shedRun
  split
  · exact (WorksApart.refl s).harmChunk.sheds
  · exact s.mpptItem_sheds
  · exact Sheds.refl s

/-- Shedding a class is a flag and a count. -/
theorem Dev.shedNote_same (s : Dev) (k : Nat) : SameBut s (s.shedNote k) shedRegs := by
  unfold Dev.shedNote
  split
  · exact ((SameBut.refl s shedRegs).raise _ (by decide)).count _ (by decide)
  · exact ((SameBut.refl s shedRegs).raise _ (by decide)).count _ (by decide)
  · exact ((SameBut.refl s shedRegs).raise _ (by decide)).count _ (by decide)

theorem Dev.shedNote_sheds (s : Dev) (k : Nat) : Sheds s (s.shedNote k) := by
  obtain ⟨hsame, hregs⟩ := s.shedNote_same k
  exact ⟨(congrArg Dev.frm hsame).trans rfl, (congrArg Dev.time hsame).trans rfl, (congrArg Dev.clocks hsame).trans rfl,
    (congrArg (fun t => t.ce.ctxs) hsame).trans rfl, fun o _ _ ho => hregs o ho,
    fun p v hm => by rw [Dev.cell_of_cells ((congrArg Dev.cells hsame).trans rfl) p]; exact hm⟩

theorem shedStep_sheds (run : Nat) (acc : Nat × Bool × Dev) (k : Nat) : Sheds acc.2.2 (shedStep run acc k).2.2 := by
  unfold shedStep
  dsimp only
  split
  · exact Sheds.refl _
  · split
    · exact Dev.shedNote_sheds _ k
    · split
      · exact Dev.shedNote_sheds _ k
      · exact Dev.shedRun_sheds _ k

theorem Dev.shedAll_sheds (s : Dev) (t : Nat) (runs : List Nat) : Sheds s (s.shedAll t runs) :=
  ((shedStep_sheds _ (t, false, s) 2).trans (shedStep_sheds _ _ 1)).trans (shedStep_sheds _ _ 0)

/-! ### Which classes are shed -/

/-- The cost of a class does not depend on what shedding changes. -/
theorem Dev.shedCost_of_same (h : SameBut d e shedRegs) (k : Nat) : e.shedCost k = d.shedCost k := by
  obtain ⟨hsame, hregs⟩ := h
  have hcells : e.cells = d.cells := (congrArg Dev.cells hsame).trans rfl
  have hmtr : e.mtr = d.mtr := (congrArg Dev.mtr hsame).trans rfl
  have hfrm : e.frm = d.frm := (congrArg Dev.frm hsame).trans rfl
  have hst : e.st = d.st := Dev.get_of_reg (hregs _ (by decide))
  have h1 : e.isOn Reg.MTR_CTL_EN = d.isOn Reg.MTR_CTL_EN := Dev.isOn_of_reg (hregs _ (by decide))
  have h2 : e.isOn Reg.MTR_CTL_HEN = d.isOn Reg.MTR_CTL_HEN := Dev.isOn_of_reg (hregs _ (by decide))
  have h3 : e.isOn Reg.MTR_STAT_CFGVALID = d.isOn Reg.MTR_STAT_CFGVALID := Dev.isOn_of_reg (hregs _ (by decide))
  have hdue : e.mpptDue = d.mpptDue := by simp only [Dev.mpptDue, Dev.curN, hcells, hfrm, hst]
  have hpv : e.mpptCells = d.mpptCells := by rw [Dev.mpptCells, Dev.mpptCells, Dev.mmc, Dev.mmc, hcells]
  have hitems : e.shedItems = d.shedItems := by rw [Dev.shedItems, Dev.shedItems, hpv, hcells, hmtr, h1, h2, h3]
  unfold Dev.shedCost
  rw [hdue, hitems, hmtr]

/-- A class that is due and that the power arbiter has not deferred. -/
def Dev.shedDue (s : Dev) (k : Nat) : Bool := s.shedCost k != 0 && s.pwr.deferred / 2 ^ k % 2 == 0

theorem Dev.shedDue_of_same (h : SameBut d e shedRegs) (k : Nat) : e.shedDue k = d.shedDue k := by
  have hpwr : e.pwr = d.pwr := (congrArg Dev.pwr h.1).trans rfl
  rw [Dev.shedDue, Dev.shedDue, Dev.shedCost_of_same h, hpwr]

end

theorem shedStep_idle {run t : Nat} {b : Bool} {s : Dev} {k : Nat} (h : s.shedDue k = false) : shedStep run (t, b, s) k = (t, b, s) := by
  unfold shedStep
  simp only [Dev.shedDue, Bool.and_eq_false_iff, bne_eq_false_iff_eq, beq_eq_false_iff_ne] at h
  rw [if_pos]
  simp only [Bool.or_eq_true, decide_eq_true_eq, beq_iff_eq]
  exact h.imp_right (Nat.mod_two_ne_zero.mp)

theorem shedStep_due {run t : Nat} {b : Bool} {s : Dev} {k : Nat} (h : s.shedDue k = true) : shedStep run (t, b, s) k =
    if b || s.frm.handover || decide (s.get Reg.FRM_PHASE_CMP_END - t < s.shedCost k) then (t, true, s.shedNote k)
    else if s.get Reg.FRM_PHASE_CMP_END < t + run then (s.get Reg.FRM_PHASE_CMP_END, false, s.shedNote k)
    else (t + run, false, s.shedRun k) := by
  unfold shedStep
  simp only [Dev.shedDue, Bool.and_eq_true, bne_iff_ne, beq_iff_eq] at h
  rw [if_neg]
  simp only [Bool.or_eq_true, decide_eq_true_eq, beq_iff_eq]
  rintro (h0 | h1)
  · exact h.1 h0
  · exact absurd (h.2.symm.trans h1) (by decide)

/-- A class is shed. -/
def Dev.shedIf (s : Dev) (k : Nat) : Dev := if s.shedDue k then s.shedNote k else s

/-- Once a class is shed, the later ones are (R60). -/
theorem shedStep_later (run t : Nat) (s : Dev) (k : Nat) : shedStep run (t, true, s) k = (t, true, s.shedIf k) := by
  unfold Dev.shedIf
  by_cases h : s.shedDue k = true
  · rw [shedStep_due h, if_pos h, if_pos (by simp)]
  · rw [shedStep_idle (Bool.eq_false_iff.mpr h), if_neg h]

theorem Dev.shedAll_first {s : Dev} {t : Nat} (runs : List Nat) (hd : s.shedDue 2 = true)
    (h : s.frm.handover = true ∨ s.get Reg.FRM_PHASE_CMP_END - t < s.shedCost 2) : s.shedAll t runs = ((s.shedNote 2).shedIf 1).shedIf 0 := by
  have hfirst : shedStep (runs.getD 0 0) (t, false, s) 2 = (t, true, s.shedNote 2) := by
    rw [shedStep_due hd, if_pos]
    simp only [Bool.or_eq_true, decide_eq_true_eq]
    exact h.imp_left .inr
  unfold Dev.shedAll
  dsimp only
  rw [hfirst, shedStep_later, shedStep_later]

/-! ### The flags and the counters (R60) -/

/-- The flag of a class, and its counter. -/
def shedFlag (k : Nat) : Fld := if k = 0 then Reg.FRM_FLAG_SHEDH_F else if k = 1 then Reg.FRM_FLAG_SHEDM_F else Reg.FRM_FLAG_SHEDT_F
def shedCnt (k : Nat) : Fld := if k = 0 then Reg.FRM_SHED0_SHED_H else if k = 1 then Reg.FRM_SHED0_SHED_M else Reg.FRM_SHED1_SHED_T

section
variable (s : Dev)

theorem Dev.shedNote_eq {k : Nat} (hk : k < 3) : s.shedNote k = (s.raise (shedFlag k)).count (shedCnt k) := by
  interval_cases k <;> rfl

theorem Dev.get_raise_off (f g : Fld) (h : g.off ≠ f.off) : (s.raise f).get g = s.get g := (s.noted f 1).get_set_off f g 1 h
theorem Dev.get_count_off (f g : Fld) (n : Nat) (h : g.off ≠ f.off) : (s.count f n).get g = s.get g := (s.noted f n).get_set_off f g _ h
theorem Dev.get_raise_past (f g : Fld) (h : f.hi < 32 ∧ f.lo ≤ f.hi ∧ (g.hi < f.lo ∨ f.hi < g.lo)) : (s.raise f).get g = s.get g :=
  (s.noted f 1).get_past f g 1 h
theorem Dev.get_count_past (f g : Fld) (n : Nat) (h : f.hi < 32 ∧ f.lo ≤ f.hi ∧ (g.hi < f.lo ∨ f.hi < g.lo)) : (s.count f n).get g = s.get g :=
  (s.noted f n).get_past f g _ h

/-- A class that is shed shows. -/
theorem Dev.shedNote_own {k : Nat} (hk : k < 3) : (s.shedNote k).isOn (shedFlag k) = true ∧ Counted s (s.shedNote k) (shedCnt k) := by
  rw [s.shedNote_eq hk]
  have hf : (shedFlag k).hi < 32 ∧ (shedFlag k).lo = (shedFlag k).hi ∧ (shedFlag k).off ≠ (shedCnt k).off ∧ (shedCnt k).hi < 32 ∧
      (shedCnt k).lo ≤ (shedCnt k).hi := by interval_cases k <;> decide
  obtain ⟨h1, h2, h3, h4, h5⟩ := hf
  refine ⟨?_, ?_⟩
  · rw [Dev.isOn, Dev.get_count_off _ _ _ _ h3]
    exact s.isOn_raise_same _ h1 h2
  · have hc := counted_count (s.raise (shedFlag k)) (shedCnt k) h4 h5
    rw [Counted, s.get_raise_off _ _ h3.symm] at hc
    exact hc

omit s in
theorem shed_fields_apart {k j : Nat} (hk : k < 3) (hj : j < 3) (h : j ≠ k) : (shedFlag k).hi < 32 ∧ (shedFlag k).lo ≤ (shedFlag k).hi ∧
    ((shedFlag j).hi < (shedFlag k).lo ∨ (shedFlag k).hi < (shedFlag j).lo) ∧ (shedFlag j).off ≠ (shedCnt k).off ∧
    (shedCnt j).off ≠ (shedFlag k).off := by
  interval_cases k <;> interval_cases j <;> simp only [ne_eq, not_true_eq_false] at h <;> decide

omit s in
theorem shed_counts_apart {k j : Nat} (hk : k < 3) (hj : j < 3) (h : j ≠ k) : (shedCnt j).off ≠ (shedCnt k).off ∨
    ((shedCnt k).hi < 32 ∧ (shedCnt k).lo ≤ (shedCnt k).hi ∧ ((shedCnt j).hi < (shedCnt k).lo ∨ (shedCnt k).hi < (shedCnt j).lo)) := by
  interval_cases k <;> interval_cases j <;> simp only [ne_eq, not_true_eq_false] at h <;> decide

/-- The other classes’ fields stand. -/
theorem Dev.shedNote_other {k j : Nat} (hk : k < 3) (hj : j < 3) (h : j ≠ k) :
    (s.shedNote k).get (shedFlag j) = s.get (shedFlag j) ∧ (s.shedNote k).get (shedCnt j) = s.get (shedCnt j) := by
  rw [s.shedNote_eq hk]
  have hf : (shedFlag k).hi < 32 ∧ (shedFlag k).lo ≤ (shedFlag k).hi ∧ ((shedFlag j).hi < (shedFlag k).lo ∨ (shedFlag k).hi < (shedFlag j).lo) ∧
      (shedFlag j).off ≠ (shedCnt k).off ∧ (shedCnt j).off ≠ (shedFlag k).off := shed_fields_apart hk hj h
  obtain ⟨h1, h2, h3, h4, h5⟩ := hf
  refine ⟨by rw [Dev.get_count_off _ _ _ _ h4, s.get_raise_past _ _ ⟨h1, h2, h3⟩], ?_⟩
  have hc : (shedCnt j).off ≠ (shedCnt k).off ∨ ((shedCnt k).hi < 32 ∧ (shedCnt k).lo ≤ (shedCnt k).hi ∧
      ((shedCnt j).hi < (shedCnt k).lo ∨ (shedCnt k).hi < (shedCnt j).lo)) := shed_counts_apart hk hj h
  rw [← s.get_raise_off (shedFlag k) (shedCnt j) h5]
  exact hc.elim (Dev.get_count_off _ _ _ _) (Dev.get_count_past _ _ _ _)

theorem Dev.shedIf_same (k : Nat) : SameBut s (s.shedIf k) shedRegs := by
  unfold Dev.shedIf
  split
  · exact s.shedNote_same k
  · exact SameBut.refl s _

theorem Dev.shedIf_other {k j : Nat} (hk : k < 3) (hj : j < 3) (h : j ≠ k) :
    (s.shedIf k).get (shedFlag j) = s.get (shedFlag j) ∧ (s.shedIf k).get (shedCnt j) = s.get (shedCnt j) := by
  unfold Dev.shedIf
  split
  · exact s.shedNote_other hk hj h
  · exact ⟨rfl, rfl⟩

end

/-- When telemetry aggregation is shed, each class that is due shows. -/
theorem Dev.shedAll_shown {s : Dev} {t : Nat} (runs : List Nat) (hd : s.shedDue 2 = true)
    (h : s.frm.handover = true ∨ s.get Reg.FRM_PHASE_CMP_END - t < s.shedCost 2) {k : Nat} (hk : k < 3) (hdue : s.shedDue k = true) :
    (s.shedAll t runs).isOn (shedFlag k) = true ∧ Counted s (s.shedAll t runs) (shedCnt k) := by
  rw [Dev.shedAll_first runs hd h]
  have h2 := s.shedNote_same 2
  have hshown : ∀ u : Dev, u.isOn (shedFlag k) = true ∧ Counted s u (shedCnt k) → ∀ j, j < 3 → k ≠ j →
      (u.shedIf j).isOn (shedFlag k) = true ∧ Counted s (u.shedIf j) (shedCnt k) := fun u hu j hj hne => by
    obtain ⟨hf, hc⟩ := u.shedIf_other hj hk hne
    rw [Counted, hc, Dev.isOn, hf]
    exact hu
  have hnow : ∀ u : Dev, SameBut s u shedRegs → u.get (shedCnt k) = s.get (shedCnt k) → (u.shedIf k).isOn (shedFlag k) = true ∧
      Counted s (u.shedIf k) (shedCnt k) := fun u hu hg => by
    rw [Dev.shedIf, if_pos ((Dev.shedDue_of_same hu k).trans hdue), Counted, ← hg]
    exact u.shedNote_own hk
  interval_cases k
  · refine hnow _ ⟨((s.shedNote 2).shedIf_same 1).1.trans ?_, fun o ho => ((s.shedNote 2).shedIf_same 1).2 o ho |>.trans (h2.2 o ho)⟩ ?_
    · rw [h2.1]
    · rw [((s.shedNote 2).shedIf_other (by decide : 1 < 3) (by decide : 0 < 3) (by decide)).2,
        (s.shedNote_other (by decide : 2 < 3) (by decide : 0 < 3) (by decide)).2]
  · refine hshown _ (hnow _ h2 ?_) 0 (by decide) (by decide)
    rw [(s.shedNote_other (by decide : 2 < 3) (by decide : 1 < 3) (by decide)).2]
  · exact hshown _ (hshown _ (s.shedNote_own (by decide)) 1 (by decide) (by decide)) 0 (by decide) (by decide)

theorem Dev.shedRun_works (s : Dev) (k : Nat) : Works s (s.shedRun k) := by
  unfold Dev.shedRun
  split
  · exact (WorksApart.refl s).harmChunk.toWorks
  · exact (WorksBeside.refl s).mpptItem.toWorks
  · exact Works.refl s

/-- A class leaves the flag and the counter of another. -/
theorem shedStep_other (run : Nat) (acc : Nat × Bool × Dev) {k j : Nat} (hk : k < 3) (hj : j < 3) (h : j ≠ k) :
    (shedStep run acc k).2.2.get (shedFlag j) = acc.2.2.get (shedFlag j) ∧ (shedStep run acc k).2.2.get (shedCnt j) = acc.2.2.get (shedCnt j) := by
  have hrun : ∀ f : Fld, 0x800 ≤ f.off → f.off < 0x1000 → (acc.2.2.shedRun k).get f = acc.2.2.get f := fun f hl hh =>
    Dev.get_of_reg ((acc.2.2.shedRun_works k).regs _ hl hh)
  have hoff : 0x800 ≤ (shedFlag j).off ∧ (shedFlag j).off < 0x1000 ∧ 0x800 ≤ (shedCnt j).off ∧ (shedCnt j).off < 0x1000 := by interval_cases j <;> decide
  unfold shedStep
  dsimp only
  split
  · exact ⟨rfl, rfl⟩
  · split
    · exact acc.2.2.shedNote_other hk hj h
    · split
      · exact acc.2.2.shedNote_other hk hj h
      · exact ⟨hrun _ hoff.1 hoff.2.1, hrun _ hoff.2.2.1 hoff.2.2.2⟩

/-- Telemetry aggregation that fits and ends in time is not shed. -/
theorem Dev.shedAll_fits {s : Dev} {t : Nat} {runs : List Nat} (hd : s.shedDue 2 = true) (hh : s.frm.handover = false)
    (hc : s.shedCost 2 ≤ s.get Reg.FRM_PHASE_CMP_END - t) (hr : t + runs.getD 0 0 ≤ s.get Reg.FRM_PHASE_CMP_END) :
    (s.shedAll t runs).get (shedFlag 2) = s.get (shedFlag 2) ∧ (s.shedAll t runs).get (shedCnt 2) = s.get (shedCnt 2) := by
  have hfirst : shedStep (runs.getD 0 0) (t, false, s) 2 = (t + runs.getD 0 0, false, s) := by
    rw [shedStep_due hd, hh, if_neg (by simp only [Bool.or_false, Bool.false_or, decide_eq_true_eq]; omega), if_neg (by omega)]
    rfl
  unfold Dev.shedAll
  dsimp only
  rw [hfirst]
  obtain ⟨f1, c1⟩ := shedStep_other (runs.getD 1 0) (t + runs.getD 0 0, false, s) (by decide : 1 < 3) (by decide : 2 < 3) (by decide)
  obtain ⟨f0, c0⟩ := shedStep_other (runs.getD 2 0) (shedStep (runs.getD 1 0) (t + runs.getD 0 0, false, s) 1) (by decide : 0 < 3) (by decide : 2 < 3)
    (by decide)
  exact ⟨f0.trans f1, c0.trans c1⟩

end Sys2Proof.Machine
end

section
/-! PROOFS. The compute phase begins (R53): the clocks up to SW_END, the sample image, control work, and the sheddable classes. -/

set_option Elab.async false

namespace Sys2Proof.Machine

/-! ### The phase begins -/

/-- The device at clock `n` of the frame, where phase `k` begins. -/
def Dev.boundary (s : Dev) (n k : Nat) : Dev := ((s.advanceIn n).set Reg.FRM_STAT_PHASE k).set Reg.FRM_STAT_CLK_IN n

/-- The device at SW_END, in phase 1. -/
def Dev.atSwEnd (s : Dev) : Dev := s.boundary (s.get Reg.FRM_PHASE_SW_END) 1

/-- Control work is done. -/
def Dev.controlDone (s : Dev) (ctl : Nat) : Dev := s.atSwEnd.runContexts.peakNote ctl (s.get Reg.FRM_PHASE_SW_END + ctl)

/-- Control work has run past CMP_END (R61). -/
def Dev.markLate (s : Dev) : Dev := { s with frm := { s.frm with late := true } }

section
variable {s : Dev} {ctl : Nat} {runs : List Nat}

theorem Dev.computeStart_early {done : Bool} (h : s.frm.ticked = false) : s.computeStart done ctl runs = s := by
  unfold Dev.computeStart
  rw [h]
  rfl

theorem Dev.computeStart_missed (h : s.frm.ticked = true) : s.computeStart false ctl runs = s.atSwEnd.overrun 1 := by
  have hover : (s.atSwEnd.overrun 1).frm.overrun = true :=
    congrArg (fun t => t.frm.overrun) (s.atSwEnd.overrun_happens 1).steady |>.trans rfl
  unfold Dev.computeStart
  rw [h]
  exact if_pos hover

theorem Dev.computeStart_over (h : s.frm.ticked = true) (ho : s.atSwEnd.frm.overrun = true) : s.computeStart true ctl runs = s.atSwEnd := by
  unfold Dev.computeStart
  rw [h]
  exact if_pos ho

theorem Dev.computeStart_runs (h : s.frm.ticked = true) (ho : s.atSwEnd.frm.overrun = false) : s.computeStart true ctl runs =
    if ctl != 0 && decide ((s.controlDone ctl).get Reg.FRM_PHASE_CMP_END < s.get Reg.FRM_PHASE_SW_END + ctl) then (s.controlDone ctl).markLate
    else (s.controlDone ctl).shedAll (s.get Reg.FRM_PHASE_SW_END + ctl) runs := by
  unfold Dev.computeStart
  rw [h]
  exact if_neg (c := s.atSwEnd.frm.overrun = true) (by rw [ho]; decide)

end

/-! ### SW_END is reached (R46, R53) -/

section
variable (s : Dev)

theorem Dev.slewIn_unslewed {n : Nat} (h : s.clk.slew = 0) : s.slewIn n = 0 := by simp [Dev.slewIn, h]

/-- The clocks up to a boundary of the frame, and the counter without slewing. -/
theorem Dev.advanceIn_counts (n : Nat) : (s.advanceIn n).clocks = s.clocks + (n - s.sinceTick) ∧
    (s.clk.locked1 = true → s.clk.slew = 0 → (s.advanceIn n).time = s.time + 16 * (n - s.sinceTick)) := by
  unfold Dev.advanceIn
  by_cases hn : n - s.sinceTick = 0
  · rw [hn, Dev.pass, if_pos rfl]
    exact ⟨rfl, fun _ _ => rfl⟩
  · have hc := s.pass_counts hn
    exact ⟨hc.clocks, fun hl h0 => hc.time.trans (Dev.counterIn_unslewed hl (s.slewIn_unslewed h0))⟩

theorem Dev.boundary_frame (n k : Nat) : s.boundary n k = s.passedAs (s.boundary n k) := by
  have hp := (s.pass_passing (n - s.sinceTick)).frame
  unfold Dev.boundary Dev.advanceIn
  generalize s.pass (n - s.sinceTick) = e at hp ⊢
  rw [hp]
  rfl

theorem Dev.boundary_regs (n k : Nat) : RegsBut s (s.boundary n k) clockRegs :=
  ((s.pass_passing (n - s.sinceTick)).regs.set _ _ (by decide)).set _ _ (by decide)

theorem Dev.boundary_phase (n : Nat) {k : Nat} (h : k < 4) : (s.boundary n k).get Reg.FRM_STAT_PHASE = k :=
  (Dev.get_past _ _ _ _ (by decide)).trans (Dev.get_put _ _ _ ⟨by decide, by decide, h⟩)

theorem Dev.atSwEnd_frame : s.atSwEnd = s.passedAs s.atSwEnd := s.boundary_frame _ _
theorem Dev.atSwEnd_regs : RegsBut s s.atSwEnd clockRegs := s.boundary_regs _ _
theorem Dev.atSwEnd_frm : s.atSwEnd.frm = s.frm := (congrArg Dev.frm s.atSwEnd_frame).trans rfl
theorem Dev.atSwEnd_ce : s.atSwEnd.ce = s.ce := (congrArg Dev.ce s.atSwEnd_frame).trans rfl
theorem Dev.atSwEnd_cells : s.atSwEnd.cells = s.cells := (congrArg Dev.cells s.atSwEnd_frame).trans rfl
theorem Dev.atSwEnd_stIn (l : List Nat) : s.atSwEnd.stIn l = s.stIn l := by
  rw [Dev.stIn, Dev.stIn, Dev.st, Dev.st, Dev.get_of_reg (s.atSwEnd_regs _ (by decide))]

theorem Dev.atSwEnd_get (f : Fld) (h : f.off ∉ clockRegs := by decide) : s.atSwEnd.get f = s.get f := Dev.get_of_reg (s.atSwEnd_regs _ h)

theorem Dev.atSwEnd_phase : s.atSwEnd.get Reg.FRM_STAT_PHASE = 1 := s.boundary_phase _ (by decide)

theorem Dev.atSwEnd_clkIn : s.atSwEnd.get Reg.FRM_STAT_CLK_IN = s.get Reg.FRM_PHASE_SW_END :=
  Dev.get_put _ _ _ ⟨by decide, by decide, bits_lt _ _ _⟩

end

/-! ### Control work is done -/

/-- The frame goes on from `d` to `e` on the same clock: the phase, its clock and the counter stand. -/
structure GoesOn (d e : Dev) : Prop where
  stat : e.reg Reg.FRM_STAT = d.reg Reg.FRM_STAT
  clocks : e.clocks = d.clocks
  time : e.time = d.time

theorem GoesOn.trans {d e f : Dev} (h : GoesOn d e) (g : GoesOn e f) : GoesOn d f :=
  ⟨g.stat.trans h.stat, g.clocks.trans h.clocks, g.time.trans h.time⟩

theorem Works.goesOn {d e : Dev} (h : Works d e) : GoesOn d e := ⟨h.regs _ (by decide) (by decide), h.clocks, h.time⟩
theorem Sheds.goesOn {d e : Dev} (h : Sheds d e) : GoesOn d e := ⟨h.regs _ (by decide) (by decide) (by decide), h.clocks, h.time⟩

theorem Overrun.goesOn {c : Nat} {d e : Dev} (h : Overrun c d e) : GoesOn d e :=
  ⟨h.regs _ (by decide), (congrArg Dev.clocks h.steady).trans rfl, (congrArg Dev.time h.steady).trans rfl⟩

section
variable (s : Dev) (ctl fin : Nat)

theorem Dev.peakNote_same : SameBut s (s.peakNote ctl fin) [Reg.FRM_PEAK] := by
  unfold Dev.peakNote
  split
  · exact SameBut.refl s _
  · exact ⟨rfl, (RegsBut.refl s _).set _ _ (by decide)⟩

theorem Dev.peakNote_goesOn : GoesOn s (s.peakNote ctl fin) := by
  obtain ⟨hsame, hregs⟩ := s.peakNote_same ctl fin
  exact ⟨hregs _ (by decide), (congrArg Dev.clocks hsame).trans rfl, (congrArg Dev.time hsame).trans rfl⟩

/-- The latest end of control work is kept (R56). -/
theorem Dev.peakNote_peak (h : s.stIn [stPOWEROFF, stBOOT, stCONFIG] = false) (hc : ctl ≠ 0) :
    (s.peakNote ctl fin).get Reg.FRM_PEAK_PEAK = max (s.get Reg.FRM_PEAK_PEAK) (min 0xFFFF fin) := by
  unfold Dev.peakNote
  rw [h, if_neg (by simp [hc])]
  refine s.get_put _ _ ⟨by decide, by decide, ?_⟩
  have hlt : s.get Reg.FRM_PEAK_PEAK < 2 ^ 16 := bits_lt _ _ _
  have hmin : min 0xFFFF fin < 2 ^ 16 := by omega
  exact Nat.max_lt.mpr ⟨hlt, hmin⟩

theorem Dev.controlDone_goesOn : GoesOn s.atSwEnd (s.controlDone ctl) := s.atSwEnd.runContexts_works.goesOn.trans (Dev.peakNote_goesOn _ _ _)

theorem Dev.controlDone_frm : (s.controlDone ctl).frm = s.frm :=
  ((congrArg Dev.frm (Dev.peakNote_same _ _ _).1).trans rfl).trans (s.atSwEnd.runContexts_works.frm.trans s.atSwEnd_frm)

/-- A field of the frame’s registers, but for the phase and the peak. -/
theorem Dev.controlDone_get (f : Fld) (h : 0x800 ≤ f.off ∧ f.off < 0x1000 ∧ f.off ∉ clockRegs ∧ f.off ∉ [Reg.FRM_PEAK] := by decide) :
    (s.controlDone ctl).get f = s.get f := by
  obtain ⟨hl, hh, hc, hp⟩ := h
  exact Dev.get_of_reg (((Dev.peakNote_same _ _ _).2 _ hp).trans ((s.atSwEnd.runContexts_works.regs _ hl hh).trans (s.atSwEnd_regs _ hc)))

theorem stIn_of_st {d e : Dev} (h : e.st = d.st ∨ e.st = stTRIPPED) {l : List Nat} (hl : l.contains stTRIPPED = false) (hd : d.stIn l = false) :
    e.stIn l = false := by
  rw [Dev.stIn] at hd ⊢
  rcases h with h | h
  · rw [h, hd]
  · rw [h, hl]

theorem Dev.controlDone_peak (h : s.stIn [stPOWEROFF, stBOOT, stCONFIG] = false) (hc : ctl ≠ 0) :
    (s.controlDone ctl).get Reg.FRM_PEAK_PEAK = max (s.get Reg.FRM_PEAK_PEAK) (min 0xFFFF (s.get Reg.FRM_PHASE_SW_END + ctl)) := by
  have hw := s.atSwEnd.runContexts_works
  have hst : s.atSwEnd.runContexts.stIn [stPOWEROFF, stBOOT, stCONFIG] = false := stIn_of_st hw.st (by decide) ((s.atSwEnd_stIn _).trans h)
  rw [Dev.controlDone, Dev.peakNote_peak _ _ _ hst hc, Dev.get_of_reg (hw.regs _ (by decide) (by decide)), s.atSwEnd_get _]

end

/-! ### The compute phase -/

/-- The device when the compute phase has begun. -/
def Dev.worked (s : Dev) (ctl : Nat) (runs : List Nat) : Dev :=
  if ctl != 0 && decide (s.get Reg.FRM_PHASE_CMP_END < s.get Reg.FRM_PHASE_SW_END + ctl) then (s.controlDone ctl).markLate
  else (s.controlDone ctl).shedAll (s.get Reg.FRM_PHASE_SW_END + ctl) runs

section
variable {s : Dev} (ctl : Nat) (runs : List Nat)

theorem Dev.computeStart_worked (h : s.frm.ticked = true) (ho : s.frm.overrun = false) : s.computeStart true ctl runs = s.worked ctl runs := by
  have hover : s.atSwEnd.frm.overrun = false := (congrArg FrmSt.overrun s.atSwEnd_frm).trans ho
  rw [Dev.computeStart_runs h hover, s.controlDone_get ctl _]
  rfl

theorem Dev.worked_goesOn : GoesOn s.atSwEnd (s.worked ctl runs) := by
  unfold Dev.worked
  split
  · exact (s.controlDone_goesOn ctl).trans ⟨rfl, rfl, rfl⟩
  · exact (s.controlDone_goesOn ctl).trans (Dev.shedAll_sheds _ _ _).goesOn

theorem Dev.worked_late : (s.worked ctl runs).frm.late =
    (s.frm.late || (ctl != 0 && decide (s.get Reg.FRM_PHASE_CMP_END < s.get Reg.FRM_PHASE_SW_END + ctl))) := by
  unfold Dev.worked
  split
  · next h => rw [h, Bool.or_true]; rfl
  · next h => rw [Bool.eq_false_iff.mpr h, Bool.or_false, (Dev.shedAll_sheds _ _ _).frm, s.controlDone_frm]

theorem Dev.worked_peak (h : s.stIn [stPOWEROFF, stBOOT, stCONFIG] = false) (hc : ctl ≠ 0) :
    (s.worked ctl runs).get Reg.FRM_PEAK_PEAK = max (s.get Reg.FRM_PEAK_PEAK) (min 0xFFFF (s.get Reg.FRM_PHASE_SW_END + ctl)) := by
  rw [← s.controlDone_peak ctl h hc]
  unfold Dev.worked
  split
  · rfl
  · exact Dev.get_of_reg ((Dev.shedAll_sheds _ _ _).regs _ (by decide) (by decide) (by decide))

end

/-! ### COMPUTE_PHASE_START (R53, R56, R61, R64) -/

section
variable {s : State} (hs : s.live) (ht : s.dev.frm.ticked = true) (ctl : Nat) (runs : List Nat)
include hs

theorem compute_early (done : Bool) (h : s.dev.frm.ticked = false) : Answers (.computePhaseStart done ctl runs) s s.start := by
  have ha := answers_of_onLive (i := .computePhaseStart done ctl runs) (f := fun d => d.computeStart done ctl runs) hs rfl
  rwa [Dev.computeStart_early (s := s.start) h] at ha

omit hs in
/-- What stands at SW_END in every frame. -/
theorem phase_begun {d : Dev} (h : GoesOn s.start.atSwEnd d) : d.get Reg.FRM_STAT_PHASE = 1 ∧
    d.get Reg.FRM_STAT_CLK_IN = s.dev.get Reg.FRM_PHASE_SW_END ∧ d.clocks = s.dev.clocks + (s.dev.get Reg.FRM_PHASE_SW_END - s.dev.sinceTick) ∧
    (s.dev.clk.locked1 = true → s.dev.clk.slew = 0 → d.time = s.dev.time + 16 * (d.clocks - s.dev.clocks)) := by
  obtain ⟨hclocks, htime⟩ := s.start.advanceIn_counts (s.start.get Reg.FRM_PHASE_SW_END)
  have hc : d.clocks = s.dev.clocks + (s.dev.get Reg.FRM_PHASE_SW_END - s.dev.sinceTick) := h.clocks.trans hclocks
  refine ⟨(Dev.get_of_reg h.stat).trans s.start.atSwEnd_phase, (Dev.get_of_reg h.stat).trans s.start.atSwEnd_clkIn, hc, fun hl h0 => ?_⟩
  rw [hc, Nat.add_sub_cancel_left]
  exact h.time.trans (htime hl h0)

omit hs in
/-- FRM_OVR after an overrun: the first one’s cause and frame stand (R62). -/
theorem Overrun.noted {c : Nat} {d e t : Dev} (h : Overrun c t e) (hr : t.reg Reg.FRM_OVR = d.reg Reg.FRM_OVR) (hf : t.frame = d.frame) (hc : c < 16) :
    (d.get Reg.FRM_OVR_CAUSE = 0 → e.get Reg.FRM_OVR_CAUSE = c ∧ e.get Reg.FRM_OVR_FRAME = d.frame % 2 ^ 28) ∧
    (d.get Reg.FRM_OVR_CAUSE ≠ 0 → e.reg Reg.FRM_OVR = d.reg Reg.FRM_OVR) := by
  have hcause : t.get Reg.FRM_OVR_CAUSE = d.get Reg.FRM_OVR_CAUSE := Dev.get_of_reg hr
  refine ⟨fun h0 => ?_, fun h0 => ?_⟩
  · obtain ⟨h1, h2⟩ := Dev.ovrNote_first (hcause.trans h0) hc t.frame
    exact ⟨(Dev.get_of_reg h.note).trans h1, ((Dev.get_of_reg h.note).trans h2).trans (by rw [hf])⟩
  · rw [h.note, Dev.ovrNote_later (by rwa [hcause]), hr]

/-- A sample image that has not arrived (R61). -/
theorem compute_missed (ht : s.dev.frm.ticked = true) : ∃ d, Answers (.computePhaseStart false ctl runs) s d ∧ Overrun 1 s.start.atSwEnd d := by
  have ha := answers_of_onLive (i := .computePhaseStart false ctl runs) (f := fun d => d.computeStart false ctl runs) hs rfl
  exact ⟨_, ha, by rw [Dev.computeStart_missed (s := s.start) ht]; exact s.start.atSwEnd.overrun_happens 1⟩

theorem compute_over (ht : s.dev.frm.ticked = true) (ho : s.dev.frm.overrun = true) : Answers (.computePhaseStart true ctl runs) s s.start.atSwEnd := by
  have ha := answers_of_onLive (i := .computePhaseStart true ctl runs) (f := fun d => d.computeStart true ctl runs) hs rfl
  have hover : s.start.atSwEnd.frm.overrun = true := (congrArg FrmSt.overrun s.start.atSwEnd_frm).trans ho
  rwa [Dev.computeStart_over (s := s.start) ht hover] at ha

theorem compute_works (ht : s.dev.frm.ticked = true) (ho : s.dev.frm.overrun = false) :
    Answers (.computePhaseStart true ctl runs) s (s.start.worked ctl runs) := by
  have ha := answers_of_onLive (i := .computePhaseStart true ctl runs) (f := fun d => d.computeStart true ctl runs) hs rfl
  rwa [Dev.computeStart_worked (s := s.start) ctl runs ht ho] at ha

end

end Sys2Proof.Machine
end

section
/-! PROOFS. What the compute phase does (R59, R60, R110–R121, R145, R164): the contexts, the cells and the classes of COMPUTE_PHASE_START. -/

set_option Elab.async false

namespace Sys2Proof.Machine

/-! ### The device after the phase -/

section
variable {s : Dev} (ctl : Nat) (runs : List Nat)

theorem Dev.controlDone_runs : WorksApart s.atSwEnd.runContexts { s.controlDone ctl with regs := s.atSwEnd.runContexts.regs } := by
  obtain ⟨hsame, -⟩ := s.atSwEnd.runContexts.peakNote_same ctl (s.get Reg.FRM_PHASE_SW_END + ctl)
  unfold Dev.controlDone
  rw [hsame]
  exact (WorksApart.refl _).same

theorem Dev.controlDone_ctxs : (s.controlDone ctl).ce.ctxs = s.atSwEnd.runContexts.ce.ctxs := (s.controlDone_runs ctl).ctxs
theorem Dev.controlDone_cells : (s.controlDone ctl).cells = s.atSwEnd.runContexts.cells := (s.controlDone_runs ctl).cells

theorem Dev.worked_ctxs : (s.worked ctl runs).ce.ctxs = s.atSwEnd.runContexts.ce.ctxs := by
  unfold Dev.worked
  split
  · exact s.controlDone_ctxs ctl
  · exact (Dev.shedAll_sheds _ _ _).ctxs.trans (s.controlDone_ctxs ctl)

theorem Dev.worked_ctx (c : Nat) : (s.worked ctl runs).ctx c = s.atSwEnd.runContexts.ctx c := Dev.ctx_of_ctxs (s.worked_ctxs ctl runs) c

/-- A cell that control work leaves BYPASSED is BYPASSED after the phase. -/
theorem Dev.worked_mark {p : Nat} {v : Nat × Word × Word} (h : (s.atSwEnd.runContexts.cell p).mark = (5, v)) :
    ((s.worked ctl runs).cell p).mark = (5, v) := by
  have hc : ((s.controlDone ctl).cell p).mark = (5, v) := by rwa [Dev.cell_of_cells (s.controlDone_cells ctl)]
  unfold Dev.worked
  split
  · exact hc
  · exact (Dev.shedAll_sheds _ _ _).mark p v hc

theorem Dev.atSwEnd_ctx (c : Nat) : s.atSwEnd.ctx c = s.ctx c := Dev.ctx_of_ctxs (congrArg CeSt.ctxs s.atSwEnd_ce) c

theorem Dev.atSwEnd_due (b : List Byte) : s.atSwEnd.ctxDue b = s.ctxDue b := Dev.ctxDue_of_frm s.atSwEnd_frm b

/-! ### Contexts (R110, R115, R121) -/

theorem Dev.worked_stopped (h : s.stIn [stPOWEROFF, stBOOT, stCONFIG] = true) : (s.worked ctl runs).ce.ctxs = s.ce.ctxs := by
  rw [s.worked_ctxs, Dev.runContexts_stopped ((s.atSwEnd_stIn _).trans h), s.atSwEnd_ce]

/-- The contexts after their runs. -/
theorem Dev.worked_ran (h : s.stIn [stPOWEROFF, stBOOT, stCONFIG] = false) (c : Nat) : (s.worked ctl runs).ctx c = s.atSwEnd.runAll.ctx c :=
  (s.worked_ctx ctl runs c).trans (Dev.ctx_of_ctxs (Dev.runContexts_runs ((s.atSwEnd_stIn _).trans h)).ctxs c)

theorem Dev.worked_waits {c : Nat} (h : s.ctxDue (s.ctx c).img = false) :
    (s.worked ctl runs).ctx c = { s.ctx c with spInner := ((s.worked ctl runs).ctx c).spInner } := by
  by_cases hst : s.stIn [stPOWEROFF, stBOOT, stCONFIG] = true
  · rw [Dev.ctx_of_ctxs (s.worked_stopped ctl runs hst)]
  · have hdue : s.atSwEnd.ctxDue (s.atSwEnd.ctx c).img = false := by rw [s.atSwEnd_ctx, s.atSwEnd_due, h]
    obtain ⟨w, hw⟩ := Dev.runAll_waits hdue
    rw [s.worked_ran ctl runs (Bool.eq_false_iff.mpr hst), hw, s.atSwEnd_ctx]

theorem Dev.worked_results (hst : s.stIn [stPOWEROFF, stBOOT, stCONFIG] = false) {c : Nat} (hd : s.ctxDue (s.ctx c).img = true)
    (h1 : 1 ≤ imgLaw (s.ctx c).img) (h5 : imgLaw (s.ctx c).img ≤ 5) : ShowsResult (s.ctx c).img ((s.worked ctl runs).ctx c) := by
  have hshow := Dev.runAll_results (s := s.atSwEnd) (c := c) (by rwa [s.atSwEnd_ctx, s.atSwEnd_due]) (by rwa [s.atSwEnd_ctx]) (by rwa [s.atSwEnd_ctx])
  rwa [s.atSwEnd_ctx, ← s.worked_ran ctl runs hst] at hshow

theorem Dev.worked_integrates (hst : s.stIn [stPOWEROFF, stBOOT, stCONFIG] = false) {c : Nat} {x : CtxSt} (hx : s.ce.ctxs = [(c, x)])
    (hd : s.ctxDue x.img = true) (hl : imgLaw x.img = 1 ∨ imgLaw x.img = 2) : Integrates x.img x.i ((s.worked ctl runs).ctx c).i := by
  have hone : s.atSwEnd.ce.ctxs = [(c, x)] := (congrArg CeSt.ctxs s.atSwEnd_ce).trans hx
  have hctx := Dev.ctx_single hone
  obtain ⟨w, hw⟩ := s.atSwEnd.runCtx_own c (by rwa [hctx, s.atSwEnd_due])
  have hans := s.atSwEnd.runMade_answer c
  rw [hctx] at hans
  rw [s.worked_ran ctl runs hst, Dev.runAll_single hone, hw]
  exact hans.i hl

/-! ### Cells (R145, R164) -/

theorem Dev.worked_bypasses (hst : s.stIn [stPOWEROFF, stBOOT, stCONFIG] = false) {c : Nat} {x : CtxSt} (hx : s.ce.ctxs = [(c, x)])
    (hd : s.ctxDue x.img = true) (hl : imgLaw x.img = 7) {y : SweepCell} {k : Nat} (hf : s.cells.first = false) (hr : s.cells.iv.running = false)
    (hnd : (s.cells.recs.map (·.pos)).Nodup) (hy : y ∈ s.sweepCells) (h0 : y.c.state ≠ 0) (h5 : y.c.state ≠ 5)
    (hk : k = failCause x.img y.t (s.cells.hostByp.contains y.r.pos)) (hne : k ≠ 0) :
    ((s.worked ctl runs).cell y.r.pos).mark = (5, k, fZero, fZero) := by
  have hone : s.atSwEnd.ce.ctxs = [(c, x)] := (congrArg CeSt.ctxs s.atSwEnd_ce).trans hx
  have hctx := Dev.ctx_single hone
  have hdue : s.atSwEnd.ctxDue (s.atSwEnd.ctx c).img = true := by rwa [hctx, s.atSwEnd_due]
  have hlaw : imgLaw (s.atSwEnd.ctx c).img = 7 := by rw [hctx, hl]
  have hcells := s.atSwEnd_cells
  have hsweep : s.atSwEnd.sweepCells = s.sweepCells := by
    unfold Dev.sweepCells Dev.cell
    rw [hcells]
  refine s.worked_mark ctl runs ?_
  rw [Dev.cell_of_cells (Dev.runContexts_runs ((s.atSwEnd_stIn _).trans hst)).cells, Dev.runAll_single hone,
    Dev.cell_of_cells (s.atSwEnd.runCtx_runs c hdue).cells]
  have hstored : (s.atSwEnd.runStored c).cells = (s.atSwEnd.runAdded c).1.cells := rfl
  rw [Dev.cell_of_cells hstored, s.atSwEnd.runAdded_sweep c hlaw, hctx]
  exact Dev.sweepRun_bypasses (s := s.atSwEnd) (by rw [hcells, hf]) (by rw [hcells, hr]) (by rw [hcells]; exact hnd) (by rw [hsweep]; exact hy) h0 h5
    (by rw [hcells]; exact hk) hne

/-! ### Classes (R59, R60) -/

theorem Dev.worked_shed (h : ctl = 0 ∨ s.get Reg.FRM_PHASE_SW_END + ctl ≤ s.get Reg.FRM_PHASE_CMP_END) :
    s.worked ctl runs = (s.controlDone ctl).shedAll (s.get Reg.FRM_PHASE_SW_END + ctl) runs := by
  unfold Dev.worked
  rw [if_neg]
  simp only [Bool.and_eq_true, bne_iff_ne, decide_eq_true_eq]
  omega

theorem Dev.shedDue_iff (s : Dev) (k : Nat) : s.shedDue k = true ↔ s.shedCost k ≠ 0 ∧ s.pwr.deferred / 2 ^ k % 2 = 0 := by
  simp only [Dev.shedDue, Bool.and_eq_true, bne_iff_ne, beq_iff_eq]

/-- When telemetry aggregation does not fit it is shed, and every class that is due after it. -/
theorem Dev.worked_shown (hfin : ctl = 0 ∨ s.get Reg.FRM_PHASE_SW_END + ctl ≤ s.get Reg.FRM_PHASE_CMP_END) (hd : (s.controlDone ctl).shedDue 2 = true)
    (h : (s.controlDone ctl).frm.handover = true ∨
      s.get Reg.FRM_PHASE_CMP_END - (s.get Reg.FRM_PHASE_SW_END + ctl) < (s.controlDone ctl).shedCost 2)
    {k : Nat} (hk : k < 3) (hdue : (s.controlDone ctl).shedDue k = true) :
    (s.worked ctl runs).isOn (shedFlag k) = true ∧ Counted s (s.worked ctl runs) (shedCnt k) := by
  have hcmp : (s.controlDone ctl).get Reg.FRM_PHASE_CMP_END = s.get Reg.FRM_PHASE_CMP_END := s.controlDone_get ctl _
  have hcnt : (s.controlDone ctl).get (shedCnt k) = s.get (shedCnt k) := by interval_cases k <;> exact s.controlDone_get ctl _
  obtain ⟨hflag, hcount⟩ := Dev.shedAll_shown runs hd (by rwa [hcmp]) hk hdue
  rw [s.worked_shed ctl runs hfin, Counted, ← hcnt]
  exact ⟨hflag, hcount⟩

theorem Dev.worked_fits (hfin : ctl = 0 ∨ s.get Reg.FRM_PHASE_SW_END + ctl ≤ s.get Reg.FRM_PHASE_CMP_END) (hd : (s.controlDone ctl).shedDue 2 = true)
    (hh : (s.controlDone ctl).frm.handover = false)
    (hc : (s.controlDone ctl).shedCost 2 ≤ s.get Reg.FRM_PHASE_CMP_END - (s.get Reg.FRM_PHASE_SW_END + ctl))
    (hr : s.get Reg.FRM_PHASE_SW_END + ctl + runs.getD 0 0 ≤ s.get Reg.FRM_PHASE_CMP_END) :
    (s.worked ctl runs).get (shedFlag 2) = s.get (shedFlag 2) ∧ (s.worked ctl runs).get (shedCnt 2) = s.get (shedCnt 2) := by
  have hcmp : (s.controlDone ctl).get Reg.FRM_PHASE_CMP_END = s.get Reg.FRM_PHASE_CMP_END := s.controlDone_get ctl _
  obtain ⟨hflag, hcount⟩ := Dev.shedAll_fits (runs := runs) hd hh (by rwa [hcmp]) (by rwa [hcmp])
  rw [s.worked_shed ctl runs hfin]
  exact ⟨hflag.trans (s.controlDone_get ctl _), hcount.trans (s.controlDone_get ctl _)⟩

end

end Sys2Proof.Machine
end

section
/-! PROOFS. What replies, the end of a handover and the allocator leave (R28, R282, R347–R361, R407–R410): the frame, the cells, the modulator, and
the registers of the frame and of the latches. -/

set_option Elab.async false

namespace Sys2Proof.Machine

/-- The registers of the device state, of the frame, of Espalier’s cell constants and of the latches. -/
def closeRegs : List Nat :=
  [Reg.HIF_STAT, Reg.FRM_CFG, Reg.FRM_PHASE, Reg.FRM_NUM, Reg.FRM_FLAG, Reg.FRM_OVR, Reg.MOD_BSCELL, Reg.PRT_LAT_LO, Reg.PRT_LAT_HI]

/-- Replies and services lie between `d` and `e`: the frame and its registers, the cells and the modulator stand, and what a command holds. -/
structure Closes (d e : Dev) : Prop where
  frm : e.frm = d.frm
  esp : e.esp = d.esp
  cells : e.cells = d.cells
  clocks : d.clocks ≤ e.clocks
  phase : e.get Reg.FRM_STAT_PHASE = d.get Reg.FRM_STAT_PHASE
  regs : ∀ o ∈ closeRegs, e.reg o = d.reg o
  now : e.pool.now = d.pool.now

theorem Closes.refl (d : Dev) : Closes d d := ⟨rfl, rfl, rfl, le_rfl, rfl, fun _ _ => rfl, rfl⟩

theorem Closes.trans {d e f : Dev} (h : Closes d e) (g : Closes e f) : Closes d f where
  frm := g.frm.trans h.frm
  esp := g.esp.trans h.esp
  cells := g.cells.trans h.cells
  clocks := h.clocks.trans g.clocks
  phase := g.phase.trans h.phase
  regs o ho := (g.regs o ho).trans (h.regs o ho)
  now := g.now.trans h.now

theorem Passing.closes {d e : Dev} (h : Passing d e) : Closes d e where
  frm := (congrArg Dev.frm h.frame).trans rfl
  esp := (congrArg Dev.esp h.frame).trans rfl
  cells := (congrArg Dev.cells h.frame).trans rfl
  clocks := h.clocks
  phase := h.phase
  regs o ho := h.regs o (by revert ho; revert o; decide)
  now := (congrArg (fun t => t.pool.now) h.frame).trans rfl

theorem Served.closes {d e : Dev} (h : Served d e) : Closes d e := h.passing.closes

/-- What changes reports alone. -/
theorem closes_of_steady {d e : Dev} {l : List Nat} (h : e.steady = d.steady) (hr : RegsBut d e l)
    (hl : ∀ o ∈ Reg.FRM_STAT :: closeRegs, o ∉ l := by decide) : Closes d e where
  frm := (congrArg Dev.frm h).trans rfl
  esp := (congrArg Dev.esp h).trans rfl
  cells := (congrArg Dev.cells h).trans rfl
  clocks := le_of_eq (congrArg Dev.clocks h).symm
  phase := Dev.get_of_reg (hr _ (hl _ List.mem_cons_self))
  regs o ho := hr o (hl o (List.mem_cons_of_mem _ ho))
  now := (congrArg (fun t => t.pool.now) h).trans rfl

/-! ### The allocator (R28) -/

section
variable {R : Dev → Dev → Prop} (hrefl : ∀ d, R d d) (htrans : ∀ {d e f}, R d e → R e f → R d f) (hpass : ∀ {d e}, Passing d e → R d e)
include hrefl htrans hpass

omit hrefl in
theorem serveNext_relates {α : Type} {own : List (Request α)} (ho : ∀ r ∈ own, ∀ s x, r.2 s = some x → R s x.2) {d : Dev} {x : Option (Nat × α) × Dev}
    (hx : d.serveNext own = some x) : R d x.2 := by
  obtain ⟨u, _, hu⟩ := List.exists_of_findSome?_eq_some hx
  split at hu
  next y hy =>
    obtain ⟨r, hr, hy⟩ := Option.bind_eq_some_iff.mp hy
    cases hu
    exact htrans (ho r (List.mem_of_find?_eq_some hr) d y hy) (hpass (Dev.servedOne_served _ _).passing)
  next =>
    obtain ⟨t, ht, rfl⟩ := Option.map_eq_some_iff.mp hu
    exact hpass ((Served.of_standing ht).trans (t.servedOne_served u)).passing

theorem serve_relates {α : Type} (n : Nat) (own : List (Request α)) (ho : ∀ r ∈ own, ∀ s x, r.2 s = some x → R s x.2) (d : Dev) :
    R d (d.serve own n).2 := by
  induction n generalizing d own with
  | zero => exact hrefl d
  | succ n ih =>
    unfold Dev.serve
    split
    · exact hrefl d
    next x t hx =>
      exact htrans (serveNext_relates (R := R) htrans hpass ho hx) (ih _ (fun r hr => ho r (List.mem_filter.mp hr).1) _)

/-- What a block’s own requests and passing clocks keep, serving them keeps. -/
theorem serveOwn_relates {α : Type} (n : Nat) (own : List (Request α)) (ho : ∀ r ∈ own, ∀ s x, r.2 s = some x → R s x.2) (d : Dev) :
    R d (d.serveOwn own n).2 := by
  have hclock : ∀ (own : List (Request α)) (d : Dev), (∀ r ∈ own, ∀ s x, r.2 s = some x → R s x.2) → R d (d.serveClock own).2 :=
    fun own d ho => htrans (hpass d.poolClk_served_as.passing) (serve_relates hrefl htrans hpass _ own ho _)
  induction n generalizing d own with
  | zero => exact hrefl d
  | succ n ih =>
    unfold Dev.serveOwn
    split
    · exact hrefl d
    · dsimp only
      split
      · exact hclock own d ho
      · exact htrans (hclock own d ho) (htrans (hpass (Dev.clocksPass_passing _ 1).1) (ih _ (fun r hr => ho r (List.mem_filter.mp hr).1) _))

theorem serveUsers_relates (us : List Nat) (f : Nat → Dev → Option Dev) (hf : ∀ u s t, f u s = some t → R s t) (d : Dev) :
    R d (d.serveUsers us f) := by
  refine serveOwn_relates hrefl htrans hpass _ _ (fun r hr s x hx => ?_) d
  obtain ⟨u, _, rfl⟩ := List.mem_map.mp hr
  obtain ⟨t, ht, rfl⟩ := Option.map_eq_some_iff.mp hx
  exact hf u s t ht

end

/-! ### Registers, reports and messages -/

section
variable {d e : Dev}

theorem Closes.ite {f : Dev} {c : Prop} [Decidable c] (he : Closes d e) (hf : Closes d f) : Closes d (if c then e else f) := by
  split
  · exact he
  · exact hf

variable (h : Closes d e)
include h

theorem Closes.onlyIf (c : Bool) (f : Dev → Dev) (hf : ∀ t, Closes d t → Closes d (f t)) : Closes d (onlyIf c f e) :=
  onlyIf_keeps (Closes d) c f e h hf

theorem Closes.forEach {α : Type} (l : List α) (f : α → Dev → Dev) (hf : ∀ a t, Closes d t → Closes d (f a t)) : Closes d (forEach l f e) :=
  forEach_keeps (Closes d) l f e h hf

/-- A change that shows in no register, no frame, no cell and not in the modulator. -/
theorem Closes.same {f : Dev} (hf : f.frm = e.frm := by rfl) (hs : f.esp = e.esp := by rfl) (hl : f.cells = e.cells := by rfl)
    (hc : f.clocks = e.clocks := by rfl) (hr : f.regs = e.regs := by rfl) (hn : f.pool.now = e.pool.now := by rfl) : Closes d f :=
  h.trans ⟨hf, hs, hl, le_of_eq hc.symm, Dev.get_of_reg (Dev.reg_of_regs hr _), fun o _ => Dev.reg_of_regs hr o, hn⟩

theorem Closes.setReg (o : Nat) (w : Word) (ho : o ∉ Reg.FRM_STAT :: closeRegs := by decide) : Closes d (e.setReg o w) := by
  have hne : ∀ a ∈ Reg.FRM_STAT :: closeRegs, a ≠ o := fun a ha hao => ho (hao ▸ ha)
  exact h.trans ⟨rfl, rfl, rfl, le_rfl, Dev.get_of_reg (e.reg_setReg_ne o _ w (hne _ List.mem_cons_self)),
    fun a ha => e.reg_setReg_ne o a w (hne a (List.mem_cons_of_mem _ ha)), rfl⟩

theorem Closes.set (f : Fld) (v : Nat) (ho : f.off ∉ Reg.FRM_STAT :: closeRegs := by decide) : Closes d (e.set f v) := h.setReg _ _ ho
theorem Closes.raise (f : Fld) (ho : f.off ∉ Reg.FRM_STAT :: closeRegs := by decide) : Closes d (e.raise f) := (h.same (f := e.noted f 1)).set f 1 ho

theorem Closes.count (f : Fld) (n : Nat) (ho : f.off ∉ Reg.FRM_STAT :: closeRegs := by decide) : Closes d (e.count f n) :=
  (h.same (f := e.noted f n)).setReg _ _ ho

theorem Closes.event (f : Fld) (ho : f.off ∉ Reg.FRM_STAT :: closeRegs := by decide) : Closes d (e.event f) :=
  h.trans (closes_of_steady (e.event_steady f) ((RegsBut.refl e [f.off]).event f (by simp)) (fun a ha hm => by
    obtain rfl := List.mem_singleton.mp hm
    exact ho ha))

theorem Closes.hifFlag (f : Fld) (ho : f.off ∉ Reg.FRM_STAT :: closeRegs := by decide) : Closes d (e.hifFlag f) := (h.raise f ho).event _

theorem Closes.logAt (a b c x y : Nat) (g : Bool) : Closes d (e.logAt a b c x y g) :=
  h.trans (closes_of_steady (e.logAt_steady a b c x y g) (e.logAt_regs a b c x y g))

theorem Closes.logNow (a b c : Nat) : Closes d (e.logNow a b c) := h.logAt _ _ _ _ _ _
theorem Closes.faultNote (c : Nat) : Closes d (e.faultNote c) := (h.hifFlag _).logNow _ _ _

theorem Closes.send (m : OutMsg) : Closes d (e.send m) := h.same

theorem Closes.msix (v : Nat) : Closes d (e.msix v) := by
  unfold Dev.msix
  exact Closes.ite h (Closes.ite h.same (h.send _))

/-! ### Granules -/

theorem Closes.setUser (u : Nat) (p : PoolUser) : Closes d (e.setUser u p) := h.same
theorem Closes.poolPut (u : Nat) (p : PoolUser) : Closes d (e.poolPut u p) := h.trans (e.poolPut_served u p).closes

theorem Closes.freeHold (x : Hold) : Closes d (e.freeHold x) := by
  refine h.trans (Served.closes ?_)
  unfold Dev.freeHold
  dsimp only
  split
  · exact e.poolClk_served_as
  · split
    · exact (e.poolClk_served_as.withPool _).trans (Dev.giveBack_served _ _)
    · exact e.poolClk_served_as.withPool _

theorem Closes.free1 (u : Nat) (b : Bool) : Closes d (e.free1 u b) := h.freeHold _

theorem Closes.ask (u n : Nat) : Closes d (e.ask u n).2 := by
  unfold Dev.ask
  split
  · exact h
  · split
    · exact h.same
    · split
      · exact h
      · refine h.trans (serveOwn_relates Closes.refl Closes.trans Passing.closes _ _ (fun r hr s x hx => ?_) e)
        obtain rfl := List.mem_singleton.mp hr
        obtain ⟨-, -, -, -, he⟩ := s.allocN_spec hx
        exact he ▸ (s.poolPut_served _ _).closes

/-! ### Vectors and completion entries (R347, R352) -/

theorem Closes.setQueue (q : Nat) (x : QueueSt) : Closes d (e.setQueue q x) := h.same

theorem Closes.vecFire (v : Nat) : Closes d (e.vecFire v) := by
  unfold Dev.vecFire
  split
  · exact h
  · exact Closes.msix h.same v

theorem Closes.ringWrite (win : Bool) (a : Nat) (b : List Byte) : Closes d (e.ringWrite win a b) := by cases win <;> exact h.same

theorem Closes.cqPost (q : Nat) (b : List Byte) : Closes d (e.cqPost q b) := by
  unfold Dev.cqPost
  exact Closes.onlyIf ((h.ringWrite _ _ _).setQueue q _) _ _ (fun t ht => ht.vecFire _)

/-! ### Replies (R359, R361) -/

theorem Closes.withHost (x : HostSt) : Closes d { e with host := x } := h.same

theorem Closes.mbxShow (b : List Byte) (final : Bool) : Closes d (e.mbxShow b final) := by
  unfold Dev.mbxShow
  exact Closes.onlyIf (((((h.withHost _).set _ _).set _ _).set _ _).event _) _ _ (fun t ht => ht.set _ _)

theorem Closes.dropWait (w : WaitCmd) : Closes d (e.dropWait w) := h.withHost _
theorem Closes.cqReturn (q n : Nat) : Closes d (e.cqReturn q n) := h.setQueue _ _

theorem Closes.finishHost (w : WaitCmd) (r : Reply) : Closes d (e.finishHost w r) := by
  have hdrop := h.dropWait w
  unfold Dev.finishHost
  dsimp only
  split
  · exact (Closes.ite (hdrop.cqReturn _ _) ((hdrop.cqReturn _ _).cqPost _ _)).free1 _ _
  · exact Closes.ite ((hdrop.set _ _).free1 _ _) (Closes.ite (hdrop.withHost _) ((hdrop.mbxShow _ _).free1 _ _))
  · exact hdrop

/-! ### Station transactions (R280–R282) -/

theorem Closes.setKrk (x : KrkSt) : Closes d (e.setKrk x) := h.same

theorem Closes.portSend (port kind dest : Nat) (b : List Byte) : Closes d (e.portSend port kind dest b) := by
  unfold Dev.portSend
  exact Closes.ite (h.send _) h

theorem Closes.krkSend (kind dest : Nat) (b : List Byte) : Closes d (e.krkSend kind dest b) := h.portSend _ _ _ _

theorem Closes.krkCast (kind : Nat) (b : List Byte) : Closes d (e.krkCast kind b) := h.forEach _ _ (fun _ _ ht => ht.portSend _ _ _ _)

theorem Closes.bulkWrite (src : Src) (a : Nat) (b : List Byte) : Closes d (e.bulkWrite src a b) := by
  unfold Dev.bulkWrite
  split
  · exact h.krkSend _ _ _
  · split <;> exact h.same

theorem Closes.dropTxn (x : Txn) : Closes d (e.dropTxn x) := h.setKrk _
theorem Closes.setTxn (x : Txn) : Closes d (e.setTxn x) := h.setKrk _

theorem Closes.txnEnd (x : Txn) (r : Reply) (failed : List Nat) : Closes d (e.txnEnd x r failed) := by
  unfold Dev.txnEnd
  extract_lets s0 _ _ _ _ _ s6 _ s8
  have hs0 : Closes d s0 := (h.dropTxn _).freeHold _
  have hs6 : Closes d s6 := (hs0.ask _ _).bulkWrite _ _ _
  have hs7 : ∀ g : Option Hold, Closes d (match g with | some x => s6.freeHold x | none => s6) := fun g => by
    cases g
    · exact hs6
    · exact hs6.freeHold _
  have hs8 : Closes d s8 := (Closes.ite (hs7 _) hs0).onlyIf _ _ (fun _ ht => ht.faultNote _)
  split
  · exact hs8.finishHost _ _
  · exact hs8

theorem Closes.failNote (a : TxnAns) : Closes d (e.failNote a) := h.onlyIf _ _ (fun _ ht => ht.faultNote _)

theorem Closes.txnResult (l : List TxnAns) : Closes d (e.txnResult l).2 := by
  unfold Dev.txnResult
  split
  · exact h
  · dsimp only
    split
    · exact h
    · exact h.same

theorem Closes.txnOutcome (x : Txn) : Closes d (e.txnOutcome x) := by
  unfold Dev.txnOutcome
  dsimp only
  split
  · exact Closes.ite ((h.txnResult _).txnEnd _ _ _) (h.txnEnd _ _ _)
  · split
    · split
      · exact (h.failNote _).txnEnd _ _ _
      · exact Closes.ite ((h.txnResult _).txnEnd _ _ _) (h.txnEnd _ _ _)
    · split
      · exact (h.failNote _).txnEnd _ _ _
      · exact h

theorem Closes.txnAnswer (id : Nat) (a : TxnAns) : Closes d (e.txnAnswer id a) := by
  unfold Dev.txnAnswer
  split
  · exact h
  · exact Closes.ite h (Closes.ite ((h.setTxn _).txnOutcome _) (h.setTxn _))

theorem Closes.answer (o id : Nat) (r : Reply) : Closes d (e.answer o id r) := by
  unfold Dev.answer
  exact Closes.ite (h.txnAnswer _ _) (h.krkSend _ _ _)

/-! ### Completing -/

theorem Closes.reserveBuf (k : Nat) (b : Bool) : Closes d (e.reserveBuf k b) := h.setReg 0x5804 _

theorem Closes.freeAll (w : WaitCmd) : Closes d (e.freeAll w) := by
  have hbulk : Closes d (Machine.forEach w.bulk (fun x t => t.freeHold x) e) := h.forEach _ _ (fun _ _ ht => ht.freeHold _)
  have hlink : ∀ (t : Dev) (l : Option Hold), Closes d t → Closes d (t.linkFree l) := fun t l ht => by
    cases l
    · exact ht
    · exact ht.freeHold _
  have hbuf : ∀ (t : Dev) (k : Option Nat), Closes d t → Closes d (t.bufFree k) := fun t k ht => by
    cases k
    · exact ht
    · exact ht.reserveBuf _ _
  exact hbuf _ _ (hlink _ _ hbulk)

theorem Closes.finish (w : WaitCmd) (r : Reply) : Closes d (e.finish w r) := by
  unfold Dev.finish
  dsimp only
  split
  · exact ((h.freeAll w).dropWait w).answer _ _ _
  · exact (h.freeAll w).finishHost w r

theorem Closes.complete (x : Option (Src × Packet × Reply)) : Closes d (e.complete x) := by
  unfold Dev.complete
  split
  · exact h
  · split
    · exact h.finish _ _
    · exact h

/-! ### The end of a handover (R407–R410) -/

theorem Closes.setImg (x : ImgSt) : Closes d (e.setImg x) := h.same

theorem Closes.qspiErase (a n : Nat) : Closes d (e.qspiErase a n) :=
  (h.forEach _ _ (fun _ _ ht => ht.forEach _ _ (fun _ _ hu => hu.send _))).setImg _

theorem Closes.sessionClose : Closes d e.sessionClose := by
  unfold Dev.sessionClose
  exact ((((((h.set _ _).set _ _).set _ _).setReg _ _).setReg _ _).set _ _).setImg _

theorem Closes.sessionAbort : Closes d e.sessionAbort := by
  unfold Dev.sessionAbort
  split
  · refine Closes.sessionClose ?_
    split
    · exact Closes.ite (h.qspiErase _ _) h
    · exact h
  · exact h

theorem Closes.tripsLogged (x : HoSt) : Closes d (e.tripsLogged x) :=
  (h.forEach x.trips _ (fun _ _ ht => ht.logAt _ _ _ _ _ _)).onlyIf _ _ (fun _ ht => ht.event _)

theorem Closes.handoverFallback (status detail : Nat) : Closes d (e.handoverFallback status detail).1 := by
  have hs0 := (h.raise Reg.IMG_FLAG_FALLBK_F).logNow 16 2 detail
  exact (Closes.ite ((hs0.hifFlag Reg.HIF_FLAG_INTERR_F).logNow 0 1 detail) hs0).sessionAbort

theorem Closes.imageSwap (act : Nat) : Closes d (e.imageSwap act) := by
  unfold Dev.imageSwap
  exact ((((h.set _ _).setReg _ _).set _ _).raise _).sessionClose.setImg _

theorem Closes.handoverDone (p : Packet) (clocks act : Nat) : Closes d (e.handoverDone p clocks act).1 := by
  have hlog := ((h.imageSwap act).set Reg.IMG_HOTIME_HOCLK clocks).logNow 16 1
    ((e.reg Reg.HIF_FWVER).toNat + 2 ^ 32 * (((e.imageSwap act).set Reg.IMG_HOTIME_HOCLK clocks).reg Reg.HIF_FWVER).toNat)
  unfold Dev.handoverDone Dev.fuseAsk
  exact Closes.ite (hlog.setImg _) hlog

theorem Closes.handoverEnd (now : Bool) : Closes d (e.handoverEnd now).1 := by
  unfold Dev.handoverEnd
  split
  · exact h
  next x _ =>
    have hs := ((h.set Reg.IMG_STAT_HOWIN 0).setImg { e.img with ho := none }).tripsLogged x
    dsimp only
    split
    · exact h
    · dsimp only
      split
      · exact hs.handoverFallback _ _
      · split
        · exact hs.handoverFallback _ _
        · split
          · exact hs.handoverFallback _ _
          · exact hs.handoverDone _ _ _

end

end Sys2Proof.Machine
end

section
/-! PROOFS. What the dispatch phase leaves (R53, R170, R180–R183): an overrun and its marks stay, whatever the records, the lanes, the slots and the
credits do. -/

set_option Elab.async false

namespace Sys2Proof.Machine

/-! ### Work in the dispatch phase -/

/-- Work of the dispatch phase lies between `d` and `e`: the phase stands, the state but for a trip, and an overrun with what it has noted. -/
structure Ends (d e : Dev) : Prop where
  clocks : d.clocks ≤ e.clocks
  phase : e.get Reg.FRM_STAT_PHASE = d.get Reg.FRM_STAT_PHASE
  st : e.st = d.st ∨ e.st = stTRIPPED
  overrun : d.frm.overrun = true → e.frm.overrun = true
  flag : d.isOn Reg.FRM_FLAG_OVR_F = true → e.isOn Reg.FRM_FLAG_OVR_F = true
  latched : d.isOn (latF 0x20) = true → e.isOn (latF 0x20) = true
  note : d.get Reg.FRM_OVR_CAUSE ≠ 0 → e.reg Reg.FRM_OVR = d.reg Reg.FRM_OVR

/-- Work that leaves Espalier. -/
structure EndsBeside (d e : Dev) : Prop extends Ends d e where
  esp : e.esp = d.esp

section
variable {d e f : Dev}

theorem Ends.refl (d : Dev) : Ends d d := ⟨le_rfl, rfl, .inl rfl, id, id, id, fun _ => rfl⟩
theorem EndsBeside.refl (d : Dev) : EndsBeside d d := ⟨Ends.refl d, rfl⟩

theorem Ends.trans (h : Ends d e) (g : Ends e f) : Ends d f where
  clocks := h.clocks.trans g.clocks
  phase := g.phase.trans h.phase
  st := g.st.elim (fun hg => h.st.imp hg.trans hg.trans) .inr
  overrun := g.overrun ∘ h.overrun
  flag := g.flag ∘ h.flag
  latched := g.latched ∘ h.latched
  note h0 := (g.note (by rwa [Dev.get_of_reg (f := Reg.FRM_OVR_CAUSE) (h.note h0)])).trans (h.note h0)

theorem EndsBeside.trans (h : EndsBeside d e) (g : EndsBeside e f) : EndsBeside d f := ⟨h.toEnds.trans g.toEnds, g.esp.trans h.esp⟩

theorem Closes.ends (h : Closes d e) : EndsBeside d e where
  clocks := h.clocks
  phase := h.phase
  st := .inl (Dev.get_of_reg (f := Reg.HIF_STAT_STATE) (h.regs _ (by decide)))
  overrun ho := (congrArg FrmSt.overrun h.frm).trans ho
  flag hf := (Dev.isOn_of_reg (h.regs _ (by decide))).trans hf
  latched hl := (Dev.isOn_of_reg (h.regs _ (by decide))).trans hl
  note _ := h.regs _ (by decide)
  esp := h.esp

theorem Passing.ends (h : Passing d e) : EndsBeside d e := h.closes.ends

theorem Overrun.ends {c : Nat} (h : Overrun c d e) : EndsBeside d e where
  clocks := le_of_eq ((congrArg Dev.clocks h.steady).trans rfl).symm
  phase := Dev.get_of_reg (h.regs _ (by decide))
  st := h.st
  overrun _ := (congrArg (fun t => t.frm.overrun) h.steady).trans rfl
  flag _ := h.flag
  latched _ := h.latched
  note h0 := by rw [h.note, Dev.ovrNote_later h0]
  esp := (congrArg Dev.esp h.steady).trans rfl

theorem Dev.latch_ends (s : Dev) (stamp : Nat) (codes : List Nat) (stop : Bool) : EndsBeside s (s.latch stamp codes stop) := by
  have htrips := (s.latch_trips stamp codes stop).1
  have hsteady := (s.latch_tripping stamp codes stop).steady
  exact {
    clocks := le_of_eq (congrArg Dev.clocks hsteady).symm
    phase := Dev.get_of_reg (htrips.regs _ (by decide))
    st := (s.latch_tripping stamp codes stop).st
    overrun := ((congrArg (fun t => t.frm.overrun) hsteady).trans rfl).trans
    flag := (Dev.isOn_of_reg (htrips.regs _ (by decide))).trans
    latched := htrips.lat 0x20
    note := fun _ => htrips.regs _ (by decide)
    esp := (congrArg Dev.esp hsteady).trans rfl }

end

/-! ### Lanes, slots and credits: work that leaves Espalier -/

section
variable {d e : Dev}

theorem EndsBeside.ite {f : Dev} {c : Prop} [Decidable c] (he : EndsBeside d e) (hf : EndsBeside d f) : EndsBeside d (if c then e else f) := by
  split
  · exact he
  · exact hf

variable (h : EndsBeside d e)
include h

theorem EndsBeside.onlyIf (c : Bool) (f : Dev → Dev) (hf : ∀ t, EndsBeside d t → EndsBeside d (f t)) : EndsBeside d (onlyIf c f e) :=
  onlyIf_keeps (EndsBeside d) c f e h hf

theorem EndsBeside.forEach {α : Type} (l : List α) (f : α → Dev → Dev) (hf : ∀ a t, EndsBeside d t → EndsBeside d (f a t)) :
    EndsBeside d (forEach l f e) :=
  forEach_keeps (EndsBeside d) l f e h hf

theorem EndsBeside.closes {f : Dev} (g : Closes e f) : EndsBeside d f := h.trans g.ends

theorem EndsBeside.serveUsers (us : List Nat) (f : Nat → Dev → Option Dev) (hf : ∀ u s t, f u s = some t → EndsBeside s t) :
    EndsBeside d (e.serveUsers us f) :=
  h.trans (serveUsers_relates EndsBeside.refl EndsBeside.trans Passing.ends us f hf e)

/-! Lanes (R170, R240) -/

theorem EndsBeside.send (m : OutMsg) : EndsBeside d (e.send m) := h.closes ((Closes.refl e).send m)

theorem EndsBeside.critFree (u n : Nat) : EndsBeside d (e.critFree u n) := h.closes (((Closes.refl e).setUser _ _).freeHold _)

theorem EndsBeside.resvEmpty : EndsBeside d e.resvEmpty :=
  (h.closes ((Closes.refl e).raise _)).trans (Dev.overrun_happens _ 4).ends

theorem EndsBeside.critical (u n : Nat) (f : Dev → Dev) (hf : ∀ t, EndsBeside d t → EndsBeside d (f t)) : EndsBeside d (e.critical u n f) := by
  have htake : EndsBeside d (e.critTake u n).2 := by
    unfold Dev.critTake
    dsimp only
    split
    · exact h.closes ((Closes.refl e).poolPut _ _)
    · exact h
  exact EndsBeside.ite (hf _ htake) h.resvEmpty

theorem EndsBeside.laneSend (recs : List EdgeRec) (u : Nat) : EndsBeside d (e.laneSend recs u) := by
  unfold Dev.laneSend
  exact EndsBeside.ite h (h.critical _ _ _ (fun _ ht => (ht.forEach _ _ (fun _ _ hu => hu.send _)).critFree _ _))

theorem EndsBeside.thkDispatch (recs : List EdgeRec) : EndsBeside d (e.thkDispatch recs) := by
  refine h.serveUsers _ _ (fun u s t ht => ?_)
  obtain rfl := Option.some.inj ht
  exact (EndsBeside.refl s).laneSend _ _

/-! Slots (R272) -/

theorem EndsBeside.setGrid (x : GridSt) : EndsBeside d (e.setGrid x) := h.closes (Closes.refl e).same

theorem EndsBeside.slotWrite (slot : Nat) (v : Int) (rank : Nat) : EndsBeside d (e.slotWrite slot v rank) := by
  have harrive : ∀ x, EndsBeside d (e.slotArrive x) := fun x => by
    unfold Dev.slotArrive
    exact EndsBeside.ite h (EndsBeside.ite (h.closes ((Closes.refl e).raise _)) (h.closes ((Closes.refl e).setKrk _)))
  unfold Dev.slotWrite
  exact EndsBeside.ite ((harrive _).closes ((Closes.refl _).krkCast _ _)) (harrive _)

theorem EndsBeside.aggWrite (slot : Nat) (w : Word) : EndsBeside d (e.aggWrite slot w) := by
  unfold Dev.aggWrite
  split
  · exact EndsBeside.ite (h.slotWrite _ _ _) h
  · exact h.slotWrite _ _ _
  · exact h

theorem EndsBeside.gridIssue : EndsBeside d e.gridIssue := by
  unfold Dev.gridIssue
  extract_lets s1 g r s2 s3
  have h1 : EndsBeside d s1 := h.onlyIf _ _ (fun _ ht => ht.setGrid _)
  have h2 : EndsBeside d s2 := h1.forEach _ _ (fun _ _ ht => ht.slotWrite _ _ _)
  have h3 : EndsBeside d s3 := h2.setGrid _
  exact EndsBeside.ite (h3.setGrid _) (h1.setGrid _)

theorem EndsBeside.dispatchSlots : EndsBeside d e.dispatchSlots := by
  unfold Dev.dispatchSlots
  refine EndsBeside.ite h (h.forEach _ _ (fun x t ht => ?_))
  extract_lets b u
  have hu : EndsBeside d u := ht.forEach _ _ (fun _ _ hv => EndsBeside.ite (hv.aggWrite _ _) hv)
  refine EndsBeside.ite ht (EndsBeside.ite ?_ hu)
  split
  · exact hu.forEach _ _ (fun _ _ hv => hv.aggWrite _ _)
  · exact hu

/-! Credits and heartbeats (R26, R268) -/

theorem EndsBeside.thkConsume (u : Nat) : EndsBeside d (e.thkConsume u) := by
  unfold Dev.thkConsume
  exact EndsBeside.ite (h.closes (((Closes.refl e).setUser _ _).freeHold _)) h

omit h in
theorem Dev.creditOne_ends {u : Nat} {s t : Dev} (h : s.creditOne u = some t) : EndsBeside s t := by
  unfold Dev.creditOne at h
  split at h
  next c g _ hg =>
    obtain rfl := Option.some.inj h
    have hput : Closes s g := by
      rcases Dev.grantOne_cases hg with ⟨-, rfl⟩ | ⟨-, rfl⟩ | ⟨-, rfl⟩
      · exact (Closes.refl s).poolPut _ _
      · exact (Closes.refl s).poolPut _ _
      · exact (Closes.refl s).poolPut _ _
    exact (Closes.send (hput.same (f := g.setNode _ _ _)) _).ends
  next => cases h

theorem EndsBeside.thkCredits : EndsBeside d e.thkCredits := by
  unfold Dev.thkCredits
  exact (h.forEach _ _ (fun _ _ ht => ht.thkConsume _)).forEach _ _ (fun _ _ ht => ht.serveUsers _ _ (fun _ _ _ => Dev.creditOne_ends))

theorem EndsBeside.heartbeatSend (k : Nat) : EndsBeside d (e.heartbeatSend k) := by
  unfold Dev.heartbeatSend
  exact EndsBeside.ite (h.closes (((Closes.refl e).krkCast _ _).forEach _ _ (fun _ _ ht => ht.portSend _ _ _ _))) h

/-- An interlock failure (R180). -/
theorem EndsBeside.interlockFail (pos : Nat) : EndsBeside d (e.interlockFail pos) := by
  unfold Dev.interlockFail
  exact EndsBeside.onlyIf (h.closes ((((Closes.refl e).raise _).count _ _).logAt _ _ _ _ _ _)) _ _ (fun t ht => ht.trans (t.latch_ends _ _ _))

end

/-! ### The records (R170, R181) -/

section
variable {d e : Dev} (h : Ends d e)
include h

theorem Ends.beside {f : Dev} (g : EndsBeside e f) : Ends d f := h.trans g.toEnds

theorem Ends.setEsp (x : EspSt) : Ends d (e.setEsp x) :=
  h.trans ⟨le_rfl, Dev.get_of_reg rfl, .inl (Dev.get_of_reg rfl), id, id, id, fun _ => rfl⟩

theorem Ends.setCells (x : CellsSt) : Ends d (e.setCells x) :=
  h.trans ⟨le_rfl, Dev.get_of_reg rfl, .inl (Dev.get_of_reg rfl), id, id, id, fun _ => rfl⟩

theorem Ends.onlyIf (c : Bool) (f : Dev → Dev) (hf : ∀ t, EndsBeside t (f t)) : Ends d (onlyIf c f e) :=
  onlyIf_keeps (Ends d) c f e h (fun t ht => ht.beside (hf t))

theorem Ends.cellRecord (x : SweepCell) (v0 : Word) (nlmOn : List Nat) : Ends d (e.cellRecord x v0 nlmOn).1 := by
  have hmarks : ∀ (t : Dev) (f g : Fld) (n : Nat), f.off ∉ Reg.FRM_STAT :: closeRegs → g.off ∉ Reg.FRM_STAT :: closeRegs →
      EndsBeside t ((t.raise f).count g n) := fun t f g n hf hg => (((Closes.refl t).raise f hf).count g n hg).ends
  have hblk : ∀ byp, Ends d (e.blkRecord x.r.pos byp).1 := fun _ => h.setEsp _
  have hswitch : Ends d (e.switchRecord x v0 nlmOn).1 := by
    unfold Dev.switchRecord
    exact ((((h.onlyIf _ _ (fun t => ((Closes.refl t).raise _).ends)).onlyIf _ _ (fun t => hmarks t _ _ _ (by decide) (by decide))).onlyIf _ _
      (fun t => hmarks t _ _ _ (by decide) (by decide))).onlyIf _ _ (fun t => (EndsBeside.refl t).interlockFail _)).setEsp _
  have htest : ∀ l, Ends d (e.testRecord x.r l).1 := fun l => (h.onlyIf _ _ (fun t => (EndsBeside.refl t).interlockFail _)).setEsp _
  unfold Dev.cellRecord
  dsimp only
  split
  · split
    · exact hblk _
    · exact hswitch
  · split
    · split
      · exact htest _
      · exact hblk _
    · exact hblk _

theorem Ends.recordsOf (v0 : Word) (ins : Nat → List Nat) (l : List SweepCell) : Ends d (recordsOf v0 ins l e).1 := by
  induction l generalizing e with
  | nil => exact h
  | cons x t ih =>
    unfold Machine.recordsOf
    split
    · exact ih h
    · exact ih (h.cellRecord _ _ _)

theorem Ends.edgeDispatch : Ends d e.edgeDispatch := by
  have hswap : Ends d e.slotSwaps := (h.setEsp _).setCells _
  unfold Dev.edgeDispatch
  dsimp only
  split
  · exact hswap.setEsp _
  · exact (((hswap.recordsOf _ _ _).setCells _).setEsp _).beside ((EndsBeside.refl _).thkDispatch _)

end

end Sys2Proof.Machine
end

section
/-! PROOFS. The dispatch phase begins (R53, R61, R145, R170, R181, R182): the clocks up to CMP_END, the mark of a late frame, and the edge records. -/

set_option Elab.async false

namespace Sys2Proof.Machine

/-! ### The records of the cells (R145, R170, R181) -/

/-- The blocking record of a cell. -/
def SweepCell.blockRec (x : SweepCell) : EdgeRec := { pos := x.r.pos, head := recHead x.r.pos true (x.c.state == 5) 0, entries := [] }

/-- The cells that are not ABSENT. -/
def present (l : List SweepCell) : List SweepCell := l.filter (fun x => x.c.state != 0)

section
variable {v0 : Word} {ins : Nat → List Nat} {x : SweepCell} {l : List SweepCell} {s : Dev}

theorem present_cons_absent (h : x.c.state = 0) : present (x :: l) = present l := List.filter_cons_of_neg (by simp [h])
theorem present_cons_here (h : x.c.state ≠ 0) : present (x :: l) = x :: present l := List.filter_cons_of_pos (by simp [h])

theorem recordsOf_absent (h : x.c.state = 0) : recordsOf v0 ins (x :: l) s = recordsOf v0 ins l s := if_pos h

theorem recordsOf_here (h : x.c.state ≠ 0) : recordsOf v0 ins (x :: l) s =
    ((recordsOf v0 ins l (s.cellRecord x v0 (ins x.r.group)).1).1,
      (s.cellRecord x v0 (ins x.r.group)).2 :: (recordsOf v0 ins l (s.cellRecord x v0 (ins x.r.group)).1).2) := if_neg h

theorem Dev.cellRecord_pos (s : Dev) (x : SweepCell) (v0 : Word) (on : List Nat) : (s.cellRecord x v0 on).2.pos = x.r.pos := by
  unfold Dev.cellRecord
  dsimp only
  split
  · split <;> rfl
  · split
    · split <;> rfl
    · rfl

theorem recordsOf_pos : (recordsOf v0 ins l s).2.map (·.pos) = (present l).map (·.r.pos) := by
  induction l generalizing s with
  | nil => rfl
  | cons x t ih =>
    by_cases h : x.c.state = 0
    · rw [recordsOf_absent h, present_cons_absent h, ih]
    · rw [recordsOf_here h, present_cons_here h, List.map_cons, List.map_cons, ih, Dev.cellRecord_pos]

/-! Where cells block -/

theorem stIn_apart {d : Dev} {a b : List Nat} (h : d.stIn a = true) (hab : ∀ n ∈ a, n ∉ b) : d.stIn b = false := by
  rw [Dev.stIn, List.contains_iff_mem] at h
  rw [Dev.stIn, Bool.eq_false_iff, ne_eq, List.contains_iff_mem]
  exact hab _ h

theorem Dev.cellRecord_blocked (hs : s.stIn blkStates = true) (ht : s.esp.test = none) (x : SweepCell) (v0 : Word) (on : List Nat) :
    s.cellRecord x v0 on = s.blkRecord x.r.pos (x.c.state == 5) := by
  have hmod : s.stIn modStates = false := stIn_apart hs (by decide)
  have horp : (s.st == stORPHAN) = false := by
    have h := stIn_apart (b := [stORPHAN]) hs (by decide)
    simpa [Dev.stIn] using h
  unfold Dev.cellRecord
  dsimp only
  rw [hmod, ht, horp, Bool.false_and, Bool.or_false]
  rfl

theorem recordsOf_blocked (hs : s.stIn blkStates = true) (ht : s.esp.test = none) :
    (recordsOf v0 ins l s).2 = (present l).map SweepCell.blockRec := by
  induction l generalizing s with
  | nil => rfl
  | cons x t ih =>
    by_cases h : x.c.state = 0
    · rw [recordsOf_absent h, present_cons_absent h, ih hs ht]
    · rw [recordsOf_here h, present_cons_here h, List.map_cons, Dev.cellRecord_blocked hs ht]
      exact congrArg _ (ih (s := (s.blkRecord x.r.pos (x.c.state == 5)).1) hs ht)

theorem Dev.blkRecord_legs_same (p : Nat) (b : Bool) :
    (s.blkRecord p b).1.legsOf p = (s.legsOf p).blocked s.cellQfull s.cellTref s.frameSteps := sget_sset_same _ _ _ _

theorem Dev.blkRecord_legs_ne {p q : Nat} (b : Bool) (h : q ≠ p) : (s.blkRecord p b).1.legsOf q = s.legsOf q := sget_sset_ne _ _ _ _ _ h

theorem recordsOf_legs_apart (hs : s.stIn blkStates = true) (ht : s.esp.test = none) {q : Nat} (hq : q ∉ l.map (·.r.pos)) :
    (recordsOf v0 ins l s).1.legsOf q = s.legsOf q := by
  induction l generalizing s with
  | nil => rfl
  | cons x t ih =>
    obtain ⟨hx, hrest⟩ := List.ne_and_not_mem_of_not_mem_cons hq
    by_cases h : x.c.state = 0
    · rw [recordsOf_absent h, ih hs ht hrest]
    · rw [recordsOf_here h, Dev.cellRecord_blocked hs ht]
      exact (ih (s := (s.blkRecord x.r.pos (x.c.state == 5)).1) hs ht hrest).trans (Dev.blkRecord_legs_ne _ hx)

/-- Each leg of a blocked cell starts from state 0 (R182). -/
theorem recordsOf_legs (hs : s.stIn blkStates = true) (ht : s.esp.test = none) (hnd : (l.map (·.r.pos)).Nodup) (hx : x ∈ present l) :
    (recordsOf v0 ins l s).1.legsOf x.r.pos = (s.legsOf x.r.pos).blocked s.cellQfull s.cellTref s.frameSteps := by
  induction l generalizing s with
  | nil => cases hx
  | cons y t ih =>
    obtain ⟨hy, hrest⟩ := List.nodup_cons.mp hnd
    by_cases h : y.c.state = 0
    · rw [recordsOf_absent h]
      exact ih hs ht hrest (by rwa [present_cons_absent h] at hx)
    · rw [recordsOf_here h, Dev.cellRecord_blocked hs ht]
      rw [present_cons_here h, List.mem_cons] at hx
      rcases hx with rfl | hx
      · exact (recordsOf_legs_apart (s := (s.blkRecord x.r.pos (x.c.state == 5)).1) hs ht hy).trans (Dev.blkRecord_legs_same _ _)
      · have hne : x.r.pos ≠ y.r.pos := fun he => hy (List.mem_map.mpr ⟨x, List.mem_of_mem_filter hx, he⟩)
        have hlegs : (s.blkRecord y.r.pos (y.c.state == 5)).1.legsOf x.r.pos = s.legsOf x.r.pos := Dev.blkRecord_legs_ne _ hne
        rw [← hlegs]
        exact ih (s := (s.blkRecord y.r.pos (y.c.state == 5)).1) hs ht hrest hx

/-! Where they are modulated -/

/-- Espalier modulates, or a trip has ended that. -/
def Dev.modulating (s : Dev) : Prop := s.stIn modStates = true ∨ s.st = stTRIPPED

theorem Ends.modulating {d e : Dev} (h : Ends d e) (hd : d.modulating) : e.modulating := by
  rcases h.st with hst | hst
  · exact hd.imp (fun hm => by rwa [Dev.stIn, hst]) hst.trans
  · exact .inr hst

theorem Dev.cellRecord_bypassed (hs : s.modulating) (h5 : x.c.state = 5) (v0 : Word) (on : List Nat) : (s.cellRecord x v0 on).2 = x.blockRec := by
  have hrec : ∀ byp, byp = true → (s.blkRecord x.r.pos byp).2 = x.blockRec := fun byp hb => by rw [hb, SweepCell.blockRec, h5]; rfl
  have hbyp : (x.c.state == 5 || (s.st == stORPHAN && s.krk.orphanOut)) = true := by rw [h5]; rfl
  unfold Dev.cellRecord
  dsimp only
  rw [if_pos hbyp]
  split
  · exact hrec _ rfl
  next hm =>
    have hready : s.st ≠ stREADY := by
      rw [hs.resolve_left hm]
      decide
    split
    · rw [if_neg (by simp [hready])]
      exact hrec _ hbyp
    · exact hrec _ hbyp

theorem recordsOf_bypassed (hs : s.modulating) (hx : x ∈ present l) (h5 : x.c.state = 5) : x.blockRec ∈ (recordsOf v0 ins l s).2 := by
  induction l generalizing s with
  | nil => cases hx
  | cons y t ih =>
    by_cases h : y.c.state = 0
    · rw [recordsOf_absent h]
      exact ih hs (by rwa [present_cons_absent h] at hx)
    · rw [recordsOf_here h]
      rw [present_cons_here h, List.mem_cons] at hx
      rcases hx with rfl | hx
      · exact List.mem_cons.mpr (.inl (Dev.cellRecord_bypassed hs h5 _ _).symm)
      · exact List.mem_cons_of_mem _ (ih (((Ends.refl s).cellRecord _ _ _).modulating hs) hx)

end

/-! ### Espalier in the dispatch phase -/

section
variable (s : Dev)

theorem Dev.edgeDispatch_off (h : s.stIn (modStates ++ blkStates) = false) : s.edgeDispatch.esp.recs = [] := by
  have hswap : s.slotSwaps.stIn (modStates ++ blkStates) = false := h
  unfold Dev.edgeDispatch
  dsimp only
  rw [hswap]
  rfl

/-- The records of a dispatch, and the legs they leave. -/
theorem Dev.edgeDispatch_on (h : s.stIn (modStates ++ blkStates) = true) : ∃ v0 ins,
    s.edgeDispatch.esp.recs = (recordsOf v0 ins s.sweepCells s.slotSwaps).2 ∧
    s.edgeDispatch.esp.legs = (recordsOf v0 ins s.sweepCells s.slotSwaps).1.esp.legs := by
  have hswap : s.slotSwaps.stIn (modStates ++ blkStates) = true := h
  have hcells : s.slotSwaps.sweepCells = s.sweepCells := rfl
  unfold Dev.edgeDispatch
  dsimp only
  rw [hswap, hcells]
  generalize hv : (if s.slotSwaps.mmc then fZero else s.slotSwaps.zeroTerm) = v0
  generalize hi : (fun g => if s.slotSwaps.nlm g then s.slotSwaps.nlmInserted g s.sweepCells else []) = ins
  refine ⟨v0, ins, ?_⟩
  have hsent := fun t => (EndsBeside.refl t).thkDispatch (recordsOf v0 ins s.sweepCells s.slotSwaps).2 |>.esp
  exact ⟨(congrArg EspSt.recs (hsent _)).trans rfl, (congrArg EspSt.legs (hsent _)).trans rfl⟩

end

end Sys2Proof.Machine
end

section
/-! PROOFS. DISPATCH_PHASE_START (R53, R61, R170), and what the phases of a frame begin and do. -/

set_option Elab.async false

namespace Sys2Proof.Machine

/-! ### CMP_END is reached -/

/-- The device at CMP_END, in phase 2. -/
def Dev.atCmpEnd (s : Dev) : Dev := s.boundary (s.get Reg.FRM_PHASE_CMP_END) 2

/-- A handover has ended, and its command is answered. -/
def Dev.resumed (s : Dev) : Dev := (s.handoverEnd true).1.complete (s.handoverEnd true).2

/-- The device as the dispatch phase finds it: a late frame has overrun (R61). -/
def Dev.atDispatch (s : Dev) : Dev := onlyIf s.atCmpEnd.resumed.frm.late (·.overrun 2) s.atCmpEnd.resumed

section
variable (s : Dev)

theorem Dev.atCmpEnd_frame : s.atCmpEnd = s.passedAs s.atCmpEnd := s.boundary_frame _ _
theorem Dev.atCmpEnd_regs : RegsBut s s.atCmpEnd clockRegs := s.boundary_regs _ _
theorem Dev.atCmpEnd_phase : s.atCmpEnd.get Reg.FRM_STAT_PHASE = 2 := s.boundary_phase _ (by decide)
theorem Dev.atCmpEnd_clocks : s.atCmpEnd.clocks = s.clocks + (s.get Reg.FRM_PHASE_CMP_END - s.sinceTick) := (s.advanceIn_counts _).1

theorem Dev.resumed_closes : Closes s s.resumed := ((Closes.refl s).handoverEnd true).complete _

/-- What the dispatch phase finds as it was. -/
theorem Dev.atCmpEnd_resumed : s.atCmpEnd.resumed.frm = s.frm ∧ s.atCmpEnd.resumed.esp = s.esp ∧ s.atCmpEnd.resumed.cells = s.cells ∧
    ∀ o ∈ closeRegs, s.atCmpEnd.resumed.reg o = s.reg o := by
  have hc := s.atCmpEnd.resumed_closes
  refine ⟨hc.frm.trans ?_, hc.esp.trans ?_, hc.cells.trans ?_, fun o ho => (hc.regs o ho).trans (s.atCmpEnd_regs o (by revert ho; revert o; decide))⟩
  · exact (congrArg Dev.frm s.atCmpEnd_frame).trans rfl
  · exact (congrArg Dev.esp s.atCmpEnd_frame).trans rfl
  · exact (congrArg Dev.cells s.atCmpEnd_frame).trans rfl

variable {s}

theorem Dev.dispatchStart_early (h : s.frm.ticked = false) : s.dispatchStart = s := by
  unfold Dev.dispatchStart
  rw [h]
  rfl

/-- After the records, the phase leaves Espalier. -/
theorem Dev.dispatchStart_ends (h : s.frm.ticked = true) : EndsBeside s.atDispatch.edgeDispatch s.dispatchStart := by
  unfold Dev.dispatchStart
  rw [if_neg (by rw [h]; decide)]
  exact (((EndsBeside.refl s.atDispatch.edgeDispatch).onlyIf _ _ (fun _ ht => ht.gridIssue.dispatchSlots)).thkCredits).heartbeatSend _

theorem Dev.atDispatch_late (h : s.frm.late = true) : Overrun 2 s.atCmpEnd.resumed s.atDispatch := by
  unfold Dev.atDispatch
  rw [s.atCmpEnd_resumed.1, h]
  exact Dev.overrun_happens _ _

theorem Dev.atDispatch_intime (h : s.frm.late = false) : s.atDispatch = s.atCmpEnd.resumed := by
  unfold Dev.atDispatch
  rw [s.atCmpEnd_resumed.1, h]
  rfl

theorem Dev.atDispatch_ends : Ends s.atCmpEnd s.atDispatch := by
  have hc := s.atCmpEnd.resumed_closes.ends.toEnds
  cases h : s.frm.late with
  | false => rwa [Dev.atDispatch_intime h]
  | true => exact hc.trans (Dev.atDispatch_late h).ends.toEnds

end

/-! ### DISPATCH_PHASE_START -/

section
variable {s : State} (hs : s.live)
include hs

theorem dispatch_early (h : s.dev.frm.ticked = false) : Answers .dispatchPhaseStart s s.start := by
  have ha := answers_of_onLive (i := .dispatchPhaseStart) (f := fun d => d.dispatchStart) hs rfl
  rwa [Dev.dispatchStart_early (s := s.start) h] at ha

theorem dispatch_answers : Answers .dispatchPhaseStart s s.start.dispatchStart :=
  answers_of_onLive (i := .dispatchPhaseStart) (f := fun d => d.dispatchStart) hs rfl

omit hs in
/-- A late frame has overrun, and the rest of the phase keeps its marks (R61, R62). -/
theorem dispatch_late (ht : s.dev.frm.ticked = true) (hl : s.dev.frm.late = true) :
    s.start.dispatchStart.isOn Reg.FRM_FLAG_OVR_F = true ∧ s.start.dispatchStart.frm.overrun = true ∧ s.start.dispatchStart.isOn (latF 0x20) = true ∧
      (s.dev.get Reg.FRM_OVR_CAUSE = 0 → s.start.dispatchStart.get Reg.FRM_OVR_CAUSE = 2 ∧
        s.start.dispatchStart.get Reg.FRM_OVR_FRAME = s.dev.frame % 2 ^ 28) ∧
      (s.dev.get Reg.FRM_OVR_CAUSE ≠ 0 → s.start.dispatchStart.reg Reg.FRM_OVR = s.dev.reg Reg.FRM_OVR) := by
  have hov := Dev.atDispatch_late (s := s.start) hl
  have hend : Ends s.start.atDispatch s.start.dispatchStart := ((Ends.refl _).edgeDispatch).trans (Dev.dispatchStart_ends (s := s.start) ht).toEnds
  obtain ⟨-, -, -, hregs⟩ := s.start.atCmpEnd_resumed
  have hreg : ∀ o ∈ closeRegs, s.start.atCmpEnd.resumed.reg o = s.dev.reg o := hregs
  obtain ⟨hfirst, hlater⟩ := hov.noted (d := s.dev) (hreg _ (by decide)) (Dev.get_of_reg (hreg _ (by decide))) (by decide)
  refine ⟨hend.flag hov.flag, hend.overrun ((congrArg (fun t => t.frm.overrun) hov.steady).trans rfl), hend.latched hov.latched, fun h0 => ?_,
    fun h0 => ?_⟩
  · obtain ⟨hcause, hframe⟩ := hfirst h0
    have hkept := hend.note (by rw [hcause]; decide)
    exact ⟨(Dev.get_of_reg hkept).trans hcause, (Dev.get_of_reg hkept).trans hframe⟩
  · have hsame := hlater h0
    exact (hend.note (by rwa [Dev.get_of_reg (f := Reg.FRM_OVR_CAUSE) hsame])).trans hsame

end

/-- Settles O13: the clocks up to the boundary pass and set the phase, an overrun has its marks, and what follows it in the phase keeps them. -/
theorem framePhasesBegin : Obligations.FramePhasesBegin := by
  unfold Obligations.FramePhasesBegin
  intro s hs
  refine ⟨fun done ctl runs h => compute_early hs ctl runs done h, fun done ctl runs ht => ?_, dispatch_early hs,
    fun ht => ⟨_, dispatch_answers hs, ?_, ?_, fun hl => dispatch_late ht hl⟩⟩
  · have hce : s.start.atSwEnd.ce.ctxs = s.dev.ce.ctxs := congrArg CeSt.ctxs s.start.atSwEnd_ce
    have hreg : ∀ o, o ∉ clockRegs → s.start.atSwEnd.reg o = s.dev.reg o := s.start.atSwEnd_regs
    cases done with
    | false =>
      obtain ⟨d, ha, hov⟩ := compute_missed hs ctl runs ht
      obtain ⟨hph, hin, hcl, hti⟩ := phase_begun hov.goesOn
      have hctxs : d.ce.ctxs = s.dev.ce.ctxs := ((congrArg (fun t => t.ce.ctxs) hov.steady).trans rfl).trans hce
      have hnote := hov.noted (hreg _ (by decide)) (Dev.get_of_reg (hreg _ (by decide))) (by decide)
      exact ⟨d, ha, hph, hin, hcl, hti, fun _ => ⟨hov.flag, (congrArg (fun t => t.frm.overrun) hov.steady).trans rfl, hov.latched, hnote⟩,
        fun _ => hctxs, (fun h => by cases h)⟩
    | true =>
      cases ho : s.dev.frm.overrun with
      | true =>
        obtain ⟨hph, hin, hcl, hti⟩ := phase_begun (s := s) (d := s.start.atSwEnd) ⟨rfl, rfl, rfl⟩
        exact ⟨_, compute_over hs ctl runs ht ho, hph, hin, hcl, hti, (fun h => by cases h), fun _ => hce, (fun _ h => by cases h)⟩
      | false =>
        obtain ⟨hph, hin, hcl, hti⟩ := phase_begun (s := s) (s.start.worked_goesOn ctl runs)
        refine ⟨_, compute_works hs ctl runs ht ho, hph, hin, hcl, hti, (fun h => by cases h), fun h => ?_, fun _ _ => ⟨?_, fun hst hc => ?_⟩⟩
        · rcases h with h | h <;> cases h
        · exact s.start.worked_late ctl runs
        · exact s.start.worked_peak ctl runs hst hc
  all_goals have hend := (s.start.atDispatch_ends).trans (((Ends.refl _).edgeDispatch).trans (Dev.dispatchStart_ends (s := s.start) ht).toEnds)
  · exact hend.phase.trans s.start.atCmpEnd_phase
  · exact (le_of_eq s.start.atCmpEnd_clocks.symm).trans hend.clocks

/-! ### The edge records -/

theorem stIn_append {d : Dev} {a b : List Nat} (h : d.stIn a = true ∨ d.stIn b = true) : d.stIn (a ++ b) = true := by
  simp only [Dev.stIn, List.contains_iff_mem, List.mem_append] at h ⊢
  exact h

section
variable {s : Dev}

/-- What the records are formed from. -/
theorem Dev.atDispatch_as (hl : s.frm.late = false) : s.atDispatch.esp = s.esp ∧ (∀ l, s.atDispatch.stIn l = s.stIn l) ∧
    s.atDispatch.sweepCells = s.sweepCells ∧ s.atDispatch.cellQfull = s.cellQfull ∧ s.atDispatch.cellTref = s.cellTref ∧
    s.atDispatch.frameSteps = s.frameSteps := by
  obtain ⟨-, hesp, hcells, hregs⟩ := s.atCmpEnd_resumed
  rw [Dev.atDispatch_intime hl]
  have hget : ∀ f : Fld, f.off ∈ closeRegs → s.atCmpEnd.resumed.get f = s.get f := fun f hf => Dev.get_of_reg (hregs _ hf)
  refine ⟨hesp, fun l => ?_, ?_, ?_, ?_, ?_⟩
  · rw [Dev.stIn, Dev.stIn, Dev.st, Dev.st, hget _ (by decide)]
  · unfold Dev.sweepCells Dev.cell
    rw [hcells]
  · rw [Dev.cellQfull, Dev.cellQfull, hget _ (by decide)]
  · rw [Dev.cellTref, Dev.cellTref, hget _ (by decide)]
  · unfold Dev.frameSteps Dev.frameTU
    rw [hget _ (by decide)]

theorem Dev.slotSwaps_as (d : Dev) : (∀ l, d.slotSwaps.stIn l = d.stIn l) ∧ d.slotSwaps.esp.test = d.esp.test ∧
    (∀ p, d.slotSwaps.legsOf p = d.legsOf p) ∧ d.slotSwaps.cellQfull = d.cellQfull ∧ d.slotSwaps.cellTref = d.cellTref ∧
    d.slotSwaps.frameSteps = d.frameSteps := ⟨fun _ => rfl, rfl, fun _ => rfl, rfl, rfl, rfl⟩

/-- The device of which the records are formed. -/
theorem Dev.dispatch_swapped (hl : s.frm.late = false) : (∀ l, s.atDispatch.slotSwaps.stIn l = s.stIn l) ∧
    s.atDispatch.slotSwaps.esp.test = s.esp.test ∧ (∀ p, s.atDispatch.slotSwaps.legsOf p = s.legsOf p) ∧
    ∀ x : CellLegs, x.blocked s.atDispatch.slotSwaps.cellQfull s.atDispatch.slotSwaps.cellTref s.atDispatch.slotSwaps.frameSteps =
      x.blocked s.cellQfull s.cellTref s.frameSteps := by
  obtain ⟨hst, htest, hlegs, hq, hr, hf⟩ := s.atDispatch.slotSwaps_as
  obtain ⟨hesp, hst', -, hq', hr', hf'⟩ := Dev.atDispatch_as hl
  refine ⟨fun l => (hst l).trans (hst' l), htest.trans (by rw [hesp]), fun p => (hlegs p).trans ?_, fun x => ?_⟩
  · rw [Dev.legsOf, Dev.legsOf, hesp]
  · rw [hq, hr, hf, hq', hr', hf']

variable (ht : s.frm.ticked = true) (hl : s.frm.late = false)
include ht hl

theorem Dev.dispatch_off (h : s.stIn (modStates ++ blkStates) = false) : s.dispatchStart.esp.recs = [] := by
  rw [(Dev.dispatchStart_ends ht).esp]
  exact s.atDispatch.edgeDispatch_off (((Dev.atDispatch_as hl).2.1 _).trans h)

theorem Dev.dispatch_on (h : s.stIn (modStates ++ blkStates) = true) : ∃ v0 ins,
    s.dispatchStart.esp.recs = (recordsOf v0 ins s.sweepCells s.atDispatch.slotSwaps).2 ∧
    ∀ p, s.dispatchStart.legsOf p = (recordsOf v0 ins s.sweepCells s.atDispatch.slotSwaps).1.legsOf p := by
  obtain ⟨-, hst, hcells, -⟩ := Dev.atDispatch_as hl
  obtain ⟨v0, ins, hrecs, hlegs⟩ := s.atDispatch.edgeDispatch_on ((hst _).trans h)
  rw [hcells] at hrecs hlegs
  refine ⟨v0, ins, ?_, fun p => ?_⟩
  · rw [(Dev.dispatchStart_ends ht).esp, hrecs]
  · rw [Dev.legsOf, Dev.legsOf, (Dev.dispatchStart_ends ht).esp, hlegs]

theorem Dev.dispatch_blocks (h : s.stIn blkStates = true) (hte : s.esp.test = none) :
    s.dispatchStart.esp.recs = (present s.sweepCells).map SweepCell.blockRec ∧
    ((s.cells.recs.map (·.pos)).Nodup → ∀ x ∈ present s.sweepCells, s.dispatchStart.legsOf x.r.pos =
      (s.legsOf x.r.pos).blocked s.cellQfull s.cellTref s.frameSteps) := by
  obtain ⟨hst, htest, hlegs0, hblk⟩ := Dev.dispatch_swapped hl
  obtain ⟨v0, ins, hrecs, hlegs⟩ := Dev.dispatch_on ht hl (stIn_append (.inr h))
  have hst' := (hst blkStates).trans h
  have hte' := htest.trans hte
  refine ⟨hrecs.trans (recordsOf_blocked hst' hte'), fun hnd x hx => ?_⟩
  have hpos : s.sweepCells.map (·.r.pos) = s.cells.recs.map (·.pos) := by
    unfold Dev.sweepCells
    rw [List.map_map]
    rfl
  rw [hlegs, recordsOf_legs hst' hte' (hpos ▸ hnd) hx, hblk, hlegs0]

theorem Dev.dispatch_modulates (h : s.stIn modStates = true) : s.dispatchStart.esp.recs.map (·.pos) = (present s.sweepCells).map (·.r.pos) ∧
    ∀ x ∈ present s.sweepCells, x.c.state = 5 → x.blockRec ∈ s.dispatchStart.esp.recs := by
  obtain ⟨hst, -⟩ := Dev.dispatch_swapped hl
  obtain ⟨v0, ins, hrecs, -⟩ := Dev.dispatch_on ht hl (stIn_append (.inl h))
  rw [hrecs]
  exact ⟨recordsOf_pos, fun x hx h5 => recordsOf_bypassed (.inl ((hst _).trans h)) hx h5⟩

end

/-- Settles O14: what the runs, the sweep, the shedding and the records of the frame's two phases leave, each from its own lemma. -/
theorem frameWork : Obligations.FrameWork := by
  unfold Obligations.FrameWork
  intro s hs ht
  refine ⟨?_, ?_⟩
  · intro ctl runs fin m ho hfin hm
    have hmd : m = s.start.controlDone ctl := by
      rw [hm, hfin]
      rfl
    clear hm
    subst hmd hfin
    refine ⟨_, compute_works hs ctl runs ht ho, s.start.worked_stopped ctl runs, fun c hd => s.start.worked_waits ctl runs hd, ?_, ?_, ?_, ?_⟩
    · rintro c b hst rfl hd h1 h5 hlim k hk
      exact (s.start.worked_results ctl runs hst hd h1 h5).at hlim hk
    · rintro c x b hx rfl hst hd hl hlim
      exact (s.start.worked_integrates ctl runs hst hx hd hl).imp_right (fun h => h.within hlim)
    · rintro c x b y k hx rfl hst hd hl hf hr hnd hy h0 h5 hk hne
      have hmark := s.start.worked_bypasses ctl runs hst hx hd hl hf hr hnd hy h0 h5 hk hne
      simp only [CellSt.mark, Prod.mk.injEq] at hmark
      exact hmark
    · intro hfin hcost hdef
      have hd2 : (s.start.controlDone ctl).shedDue 2 = true := (Dev.shedDue_iff _ 2).mpr ⟨hcost, hdef⟩
      refine ⟨fun hshed => ?_, fun hh hc hr => ?_⟩
      · have hshown : ∀ {k : Nat}, k < 3 → (s.start.controlDone ctl).shedDue k = true → _ := fun hk hdue =>
          s.start.worked_shown ctl runs hfin hd2 hshed hk hdue
        obtain ⟨hflag, hcnt⟩ := hshown (by decide) hd2
        refine ⟨hflag, hcnt, fun hc1 hp1 => hshown (by decide) ((Dev.shedDue_iff _ 1).mpr ⟨hc1, hp1⟩), fun hc0 hp0 => hshown (by decide)
          ((Dev.shedDue_iff _ 0).mpr ⟨hc0, by rw [Nat.pow_zero, Nat.div_one]; exact hp0⟩)⟩
      · obtain ⟨hflag, hcnt⟩ := s.start.worked_fits ctl runs hfin hd2 hh hc hr
        exact ⟨hcnt, congrArg (· == 1) hflag⟩
  · rintro l rfl hl
    have hd : s.start.frm.ticked = true := ht
    refine ⟨_, dispatch_answers hs, fun hoff => Dev.dispatch_off hd hl hoff, fun hblk hte => Dev.dispatch_blocks hd hl hblk hte, fun hmod => ?_⟩
    obtain ⟨hpos, hbyp⟩ := Dev.dispatch_modulates hd hl hmod
    refine ⟨hpos, fun x hx h5 => ?_⟩
    have hrec := hbyp x hx h5
    rwa [SweepCell.blockRec, h5] at hrec

end Sys2Proof.Machine
end

section
/-! PROOFS. What settling leaves of the frame when no command body runs in it. -/

set_option Elab.async false

namespace Sys2Proof.Machine

/-- Between `d` and `e` a command body has run, which leaves no granule that a body holds, or the frame and what is held so are as they were. -/
def Stands (d e : Dev) : Prop := e.pool.now = [] ∨ (e.pool.now = d.pool.now ∧ e.frm = d.frm)

section
variable {d e f : Dev}

theorem Stands.refl (d : Dev) : Stands d d := .inr ⟨rfl, rfl⟩

theorem Stands.trans (h : Stands d e) (g : Stands e f) : Stands d f := by
  rcases g with g | ⟨hn, hf⟩
  · exact .inl g
  · exact h.imp hn.trans (fun ⟨hn', hf'⟩ => ⟨hn.trans hn', hf.trans hf'⟩)

theorem Closes.stands (h : Closes d e) : Stands d e := .inr ⟨h.now, h.frm⟩

theorem stands_of_steady (h : e.steady = d.steady) : Stands d e := .inr ⟨(congrArg (fun t => t.pool.now) h).trans rfl, (congrArg Dev.frm h).trans rfl⟩

theorem Stands.ite {c : Prop} [Decidable c] (he : Stands d e) (hf : Stands d f) : Stands d (if c then e else f) := by
  split
  · exact he
  · exact hf

end

/-! ### Changes that touch neither -/

section
variable {d e : Dev} (h : Stands d e)
include h

theorem Stands.same {f : Dev} (hn : f.pool.now = e.pool.now := by rfl) (hf : f.frm = e.frm := by rfl) : Stands d f := h.trans (.inr ⟨hn, hf⟩)

theorem Stands.closes {f : Dev} (g : Closes e f) : Stands d f := h.trans g.stands

theorem Stands.onlyIf (c : Bool) (f : Dev → Dev) (hf : ∀ t, Stands d t → Stands d (f t)) : Stands d (onlyIf c f e) :=
  onlyIf_keeps (Stands d) c f e h hf

theorem Stands.forEach {α : Type} (l : List α) (f : α → Dev → Dev) (hf : ∀ a t, Stands d t → Stands d (f a t)) : Stands d (forEach l f e) :=
  forEach_keeps (Stands d) l f e h hf

theorem Stands.setReg (o : Nat) (w : Word) : Stands d (e.setReg o w) := h.same
theorem Stands.set (f : Fld) (v : Nat) : Stands d (e.set f v) := h.same
theorem Stands.setB (f : Fld) (b : Bool) : Stands d (e.setB f b) := h.same
theorem Stands.raise (f : Fld) : Stands d (e.raise f) := h.same
theorem Stands.setKrk (x : KrkSt) : Stands d (e.setKrk x) := h.same
theorem Stands.withPrt (x : PrtSt) : Stands d { e with prt := x } := h.same
theorem Stands.latch (stamp : Nat) (codes : List Nat) (stop : Bool) : Stands d (e.latch stamp codes stop) :=
  h.trans (stands_of_steady (e.latch_tripping stamp codes stop).steady)

/-! ### Completing -/

theorem Stands.finish (w : WaitCmd) (r : Reply) : Stands d (e.finish w r) := h.closes ((Closes.refl e).finish w r)
theorem Stands.complete (x : Option (Src × Packet × Reply)) : Stands d (e.complete x) := h.closes ((Closes.refl e).complete x)
theorem Stands.completeAll (l : List (Src × Packet × Reply)) : Stands d (e.completeAll l) := h.forEach _ _ (fun _ _ ht => ht.complete _)
theorem Stands.answer (o id : Nat) (r : Reply) : Stands d (e.answer o id r) := h.closes ((Closes.refl e).answer o id r)
theorem Stands.txnAnswer (id : Nat) (a : TxnAns) : Stands d (e.txnAnswer id a) := h.closes ((Closes.refl e).txnAnswer id a)
theorem Stands.krkSend (kind dest : Nat) (b : List Byte) : Stands d (e.krkSend kind dest b) := h.closes ((Closes.refl e).krkSend kind dest b)
theorem Stands.freeHold (x : Hold) : Stands d (e.freeHold x) := h.closes ((Closes.refl e).freeHold x)
theorem Stands.ask (u n : Nat) : Stands d (e.ask u n).2 := h.closes ((Closes.refl e).ask u n)
theorem Stands.busFault : Stands d e.busFault := h.closes ((Closes.refl e).faultNote 1)
theorem Stands.setWait (w : WaitCmd) : Stands d (e.setWait w) := h.same
theorem Stands.addWait (w : WaitCmd) : Stands d (e.addWait w).2 := h.same

theorem Stands.linkFree (l : Option Hold) : Stands d (e.linkFree l) := by
  cases l
  · exact h
  · exact h.freeHold _

theorem Stands.bufFree (k : Option Nat) : Stands d (e.bufFree k) := by
  cases k
  · exact h
  · exact h.closes ((Closes.refl e).reserveBuf _ _)

/-! ### Execution (R355–R358) -/

omit h in
/-- After a body the granules that it holds are its command’s. -/
theorem Stands.runBody (t : Dev) (row : OpRow) (src : Src) (p : Packet) (data : List Byte) (kept : List Hold) (buf : Option Nat) (arrived : Nat) :
    Stands d (t.runBody row src p data kept buf arrived).1.1 := .inl rfl

omit h in
theorem Stands.execute (w : WaitCmd) (row : OpRow) : Stands d (e.execute w row) := by
  have hr := Stands.runBody (d := d) (e.setWait { w with kind := runKind w.pkt, bulk := [], buf := none }) row w.src w.pkt w.data w.bulk w.buf
    (e.arrivalOf w)
  unfold Dev.execute
  dsimp only
  split
  · exact hr.finish _ _
  · exact Stands.bufFree (hr.same) _

theorem Stands.defer (w : WaitCmd) (mask : Nat) : Stands d (e.defer w mask) := by
  unfold Dev.defer
  extract_lets _ _ t
  have ht : Stands d t := h.setWait _
  clear_value t
  split
  · split
    · exact ht.closes (((Closes.refl t).cqReturn _ _).cqPost _ _)
    · exact ht.closes ((Closes.refl t).mbxShow _ _)
    · exact ht
  · exact ht

theorem Stands.step4 (w : WaitCmd) (row : OpRow) (atTick : Bool) : Stands d (e.step4 w row atTick) := by
  unfold Dev.step4
  exact Stands.ite (h.finish _ _) (Stands.ite (Stands.ite (Stands.ite (h.finish _ _) (h.setWait _)) (Stands.execute _ _))
    (Stands.ite (h.defer _ _) (h.finish _ _)))

theorem Stands.runLocal (w : WaitCmd) (row : OpRow) : Stands d (e.runLocal w row) := by
  unfold Dev.runLocal
  dsimp only
  split
  · exact h.finish _ _
  · exact Stands.ite (Stands.ite (h.finish _ _) (h.setWait _)) (h.step4 _ _ _)

/-! ### Station packets (R280–R283) -/

theorem Stands.prepCheck (src : Src) (p : Packet) (row : OpRow) (data : List Byte) : Stands d (e.prepCheck src p row data).1 := by
  unfold Dev.prepCheck
  split
  · exact h
  · split
    · exact h
    · split
      · exact h
      · split
        · split
          · exact h
          · exact h
        · split
          · exact h
          · dsimp only
            split
            · exact h
            · split
              · exact h
              · exact (Stands.runBody e row src p data [] none (e.stamp 0)).forEach _ _ (fun _ _ ht => ht.freeHold _)

theorem Stands.prepReserve {p : Packet} {x : Option Nat × Dev} (hx : e.prepReserve p = some x) : Stands d x.2 := by
  unfold Dev.prepReserve at hx
  split at hx
  · obtain ⟨k, _, rfl⟩ := Option.map_eq_some_iff.mp hx
    exact h.closes ((Closes.refl e).reserveBuf _ _)
  · cases hx
    exact h

theorem Stands.prepTake (u : Nat) (need : List Nat) : Stands d (e.prepTake u need).2 := by
  unfold Dev.prepTake
  refine List.foldlRecOn (motive := fun (x : List Hold × Dev) => Stands d x.2) need _ h (fun acc ha n _ => ?_)
  have hask := ha.ask u n
  dsimp only
  split
  · exact hask
  · exact hask

theorem Stands.prepare (origin id : Nat) (src : Src) (p : Packet) (commitN : Nat) (data : List Byte) (link : Option Hold) :
    Stands d (e.prepare origin id src p commitN data link) := by
  unfold Dev.prepare
  dsimp only
  split
  · exact (h.linkFree _).answer _ _ _
  next row _ =>
    have hcheck := h.prepCheck src p row data
    split
    · exact (hcheck.linkFree _).answer _ _ _
    · split
      · exact (hcheck.linkFree _).answer _ _ _
      next x hx => exact (((hcheck.prepReserve hx).prepTake _ _).setKrk _).answer _ _ _

theorem Stands.forward (w : WaitCmd) (row : OpRow) (id : Nat) (data : List Byte) (commitN : Nat) (targets : List Nat) :
    Stands d (e.forward w row id data commitN targets) := by
  unfold Dev.forward
  extract_lets p own head t a
  have ht : Stands d t := h.forEach _ _ (fun _ _ hu => hu.krkSend _ _ _)
  exact Stands.ite ht (Stands.ite (ht.prepare _ _ _ _ _ _ _) ((ht.addWait _).runLocal _ _))

theorem Stands.route (w : WaitCmd) (row : OpRow) : Stands d (e.route w row) := by
  have hload : ∀ a, e.forwardData w.src w.pkt = .inl a → Stands d a.1 := fun a ha => by
    unfold Dev.forwardData at ha
    split at ha
    · split at ha <;> cases ha
      exact h
    · split at ha
      · cases ha
      · split at ha
        · cases ha
          exact h
        · split at ha <;> cases ha
          exact h.busFault
  unfold Dev.route
  dsimp only
  split
  · exact h.finish _ _
  · split
    · exact h.finish _ _
    · split
      next a ha => exact (hload a ha).finish _ _
      next data _ =>
        have hask := h.ask (srcUser w.src) (1 + cdiv data.length 256)
        split
        next t ht =>
          rw [ht] at hask
          exact (hask.closes (((Closes.refl t).raise _).count _ 1)).finish _ _
        next t ht =>
          rw [ht] at hask
          exact ((hask.setKrk _).setWait _).forward _ _ _ _ _ _

theorem Stands.arrive (w : WaitCmd) : Stands d (e.arrive w) := by
  unfold Dev.arrive
  extract_lets a p
  have ha : Stands d a.2 := h.addWait w
  clear_value a
  split
  · exact ha.finish _ _
  · split
    · exact ha.finish _ _
    · split
      · exact ha.finish _ _
      · split
        · split
          · exact ha.finish _ _
          · exact ha.route _ _
        · exact ha.runLocal _ _

theorem Stands.replyTaken (txn : Nat) (a : TxnAns) (bulk : List Byte) : Stands d (e.replyTaken txn a bulk) := by
  unfold Dev.replyTaken
  split
  · exact h
  · exact Stands.ite (h.txnAnswer _ _) (Stands.ite (h.txnAnswer _ _) (Stands.ite (h.busFault.txnAnswer _ _)
      ((h.closes ((Closes.refl e).bulkWrite _ _ _)).txnAnswer _ _)))

theorem Stands.goPrep (origin id : Nat) : Stands d (e.goPrep origin id) := by
  unfold Dev.goPrep
  split
  · exact h
  · exact Stands.ite ((h.setKrk _).addWait _) h

theorem Stands.abortPrep (origin id : Nat) : Stands d (e.abortPrep origin id) := by
  unfold Dev.abortPrep
  split
  · exact (((h.setKrk _).forEach _ _ (fun _ _ ht => ht.freeHold _)).linkFree _).bufFree _
  · exact h.closes (((Closes.refl e).freeAll _).dropWait _)
  · exact h

theorem Stands.inward (x : Inbound) : Stands d (e.inward x) := by
  unfold Dev.inward Dev.inwardRun
  split
  · split
    · exact h.arrive _
    · exact h.prepare _ _ _ _ _ _ _
    · exact (h.freeHold _).replyTaken _ _ _
    · exact Stands.ite (h.goPrep _ _) (h.abortPrep _ _)
  · exact h.setKrk _

theorem Stands.inboxRun : Stands d e.inboxRun := by
  unfold Dev.inboxRun
  exact Stands.ite h ((h.setKrk _).forEach _ _ (fun _ _ ht => Stands.ite (ht.inward _) (ht.freeHold _)))

/-! ### The endings -/

theorem Stands.leaveStation : Stands d e.leaveStation := by
  have hmember : Stands d (e.member mNONE) := by
    unfold Dev.member
    exact Stands.ite h (h.trans (stands_of_steady ((Dev.event_steady _ _).trans rfl)))
  unfold Dev.leaveStation
  extract_lets _ _ _ _ _ t
  have ht : Stands d t :=
    ((((hmember.setKrk _).forEach _ _ (fun _ _ hu => hu.setReg _ _)).forEach _ _ (fun _ _ hu => hu.setReg _ _)).setReg _ _).set _ _
  clear_value t
  exact ht.same

theorem Stands.tripEnds : Stands d e.tripEnds := by
  have hprof : ∀ t, Stands d t → Stands d t.tripProf := fun t ht => by
    unfold Dev.tripProf
    split
    · exact Stands.complete (ht.same) _
    · exact ht
  have hjoin : ∀ t, Stands d t → Stands d t.tripJoin := fun t ht => by
    unfold Dev.tripJoin
    split
    · exact (ht.leaveStation.setKrk _).complete _
    · exact ht
  have haccept : ∀ k t, Stands d t → Stands d (t.loopAccept k) := fun k t ht => by
    unfold Dev.loopAccept
    exact Stands.ite ht (Stands.ite (((ht.setB _ _).setB _ _).latch _ _ _) (ht.setB _ _))
  have hclear : ∀ t, Stands d t → Stands d t.tripClear := fun t ht => by
    unfold Dev.tripClear
    split
    · exact ((((ht.set _ _).raise _).withPrt _).forEach _ _ haccept).complete _
    · exact ht
  have hpath : ∀ t, Stands d t → Stands d t.tripPath := fun t ht => by
    unfold Dev.tripPath
    split
    · exact Stands.ite ht ((ht.withPrt _).complete _)
    · exact ht
  have hsave : ∀ t, Stands d t → Stands d t.tripSave := fun t ht => Stands.completeAll (ht.same) _
  have hreads : ∀ t, Stands d t → Stands d t.tripReads := fun t ht => ht.completeAll _
  unfold Dev.tripEnds
  exact (h.onlyIf _ _ (fun t ht => hreads _ (hpath _ (hclear _ (hsave _ (hjoin _ (hprof t ht))))))).withPrt _

theorem Stands.pathEnd : Stands d e.pathEnd.1 := by
  unfold Dev.pathEnd
  split
  · exact h
  · dsimp only
    split
    · exact (h.onlyIf _ _ (fun _ ht => ht.raise _)).withPrt _
    · exact h

theorem Stands.snapReplies : Stands d e.snapReplies := by
  unfold Dev.snapReplies
  exact Stands.ite h (Stands.completeAll (h.same) _)

theorem Stands.framReads : Stands d e.framReads := by
  unfold Dev.framReads
  split
  · exact h
  · split
    · exact h
    · exact h.forEach _ _ (fun _ _ _ => Stands.execute _ _)

theorem Stands.queuesGone : Stands d e.queuesGone := by
  refine h.forEach _ _ (fun q t ht => ?_)
  have hdrop : Stands d (t.queueDrop q) := by
    unfold Dev.queueDrop
    dsimp only
    split
    · exact Stands.same (ht.freeHold _)
    · exact ht.same
  unfold Dev.queueGone
  split
  · exact ht
  · dsimp only
    split
    · exact hdrop.finish _ _
    · exact hdrop

theorem Stands.txnView : Stands d e.txnView := by
  refine h.forEach _ _ (fun x t ht => ?_)
  have hsent : Stands d (Machine.forEach (x.targets.filter (· != t.ownIndex)) (fun c u => u.krkSend 5 c (goBytes u.ownIndex x.id false)) t) :=
    ht.forEach _ _ (fun _ _ hu => hu.krkSend _ _ _)
  have hdecided : Stands d (t.decide_ x false) := by
    unfold Dev.decide_
    exact Stands.ite hsent (hsent.abortPrep _ _)
  exact hdecided.closes ((Closes.refl _).txnEnd _ _ _)

theorem Stands.endings : Stands d e.endings := by
  unfold Dev.endings
  have hpath := h.pathEnd.complete e.pathEnd.2
  have hho := (hpath.closes ((Closes.refl _).handoverEnd false)).complete ((e.pathEnd.1.complete e.pathEnd.2).handoverEnd false).2
  exact hho.snapReplies.framReads.queuesGone.txnView.inboxRun

/-! ### Settling -/

theorem Stands.withPins (x : Pins) : Stands d { e with pins := x } := h.same
theorem Stands.setMtr (x : MtrSt) : Stands d (e.setMtr x) := h.same

theorem Stands.mtrFollow : Stands d e.mtrFollow := by
  unfold Dev.mtrFollow Dev.mtrStart Dev.mtrStop Dev.freqInvalid
  dsimp only
  refine Stands.ite ?_ (Stands.ite ?_ h)
  · exact Stands.forEach (((((h.setMtr _).setB _ _).setReg _ _).setB _ _).setMtr _ |>.withPins _) _ _ (fun _ _ ht => ht.set _ _)
  · exact Stands.withPins (Stands.forEach (((h.setMtr _).setB _ _).setB _ _) _ _ (fun _ _ ht => ht.set _ _)) _

theorem Stands.refFollow : Stands d e.refFollow := by
  unfold Dev.refFollow
  exact Stands.ite h (Stands.ite h.same h.same)

theorem Stands.injFollow : Stands d e.injFollow := by
  unfold Dev.injFollow
  exact Stands.ite h (h.forEach _ _ (fun _ _ ht => ht.same))

theorem Stands.safDerive : Stands d e.safDerive := by
  unfold Dev.safDerive
  dsimp only
  refine Stands.set (Stands.forEach (Stands.onlyIf ?_ _ _ (fun t ht => ?_)) _ _ (fun _ _ ht => ht.set _ _)) _ _
  · exact (((h.setB _ _).setB _ _).setB _ _).setB _ _
  · exact (ht.set _ _).onlyIf _ _ (fun _ hu => hu.set _ _)

theorem Stands.vaultDerive : Stands d e.vaultDerive := by
  unfold Dev.vaultDerive
  exact Stands.ite h (((h.setB _ _).setB _ _).setB _ _)

theorem Stands.settle : Stands d e.settle := by
  have hmatrix : Stands d e.matrix := by
    unfold Dev.matrix
    exact Stands.ite (h.latch _ _ _) h
  have hpins : ∀ t, Stands d t → Stands d t.pinsFollow := fun _ ht => ht.same
  have hprt : ∀ t, Stands d t → Stands d t.showPrt := fun _ ht => ((((ht.setReg _ _).setReg _ _).set _ _).setB _ _).set _ _
  have hhb : ∀ t, Stands d t → Stands d t.showHb := fun _ ht => ht.forEach _ _ (fun _ _ hu => hu.setB _ _)
  exact hpins _ (hhb _ (hprt _ hmatrix.refFollow.mtrFollow.injFollow.tripEnds.endings.safDerive.vaultDerive))

end

end Sys2Proof.Machine
end

section
/-! PROOFS. The tick (R52) on a state that the device never reaches. -/

set_option Elab.async false

namespace Sys2Proof.Machine

/-- A device after the first lock, no ring enabled, with a context numbered 208 whose first result has bit 31, all 64 reserved granules of lane 0 in
use, and a granule noted as held by a body though none runs. The contexts are 0 to 63; nothing in the type of a state says so. -/
def strayContext : State :=
  { dev := { clk := { locked1 := true }, ce := { ctxs := [(208, { img := [1], outs := [0x80000000#32] })] },
             pool := { users := [(0, { res := 64 })], now := [{ user := 0, res := 0, sh := 0 }] } }
    pending := [] }

/-- Where the array of CE_OUT would hold the first result of context 208 lies THK_RING0_CFG, whose bit 31 enables the ring. -/
theorem ceOut_208_is_ring0Cfg : Reg.CE_OUTc_k 208 0 = Reg.THK_RINGr_CFG 0 := rfl

theorem strayContext_rings : ∀ r, r < 16 → strayContext.dev.ringEn r = false := by decide +kernel

/-- The tick latches that result, which enables ring 0; its frame start finds no reserved granule, which is an overrun of the frame that begins. -/
theorem strayContext_ticks : (strayContext.start.frameTick true).settle.frm.overrun = true ∧
    (strayContext.start.frameTick true).settle.pool.now = [{ user := 0, res := 0, sh := 0 }] := by decide +kernel

/-- Refutes O12: with no ring enabled before the tick its last clause has no overrun after it, but the result of a context numbered 208 enables
ring 0 within the tick, and the frame start that has no granule is an overrun; no command body runs in the settling that could have set it. -/
theorem not_frameTickBegins : ¬ Obligations.FrameTickBegins := by
  unfold Obligations.FrameTickBegins
  intro h
  obtain ⟨d, hans, -, -, -, -, -, -, -, -, -, -, -, -, -, -, -, -, -, -, -, -, -, hoff⟩ :=
    (h strayContext true rfl).2 rfl _ _ _ _ _ _ _ _ rfl rfl rfl rfl rfl rfl rfl rfl
  obtain ⟨-, -, hover, -⟩ := hoff strayContext_rings
  have htick : Answers (.frameTick true) strayContext (strayContext.start.frameTick true) :=
    answers_of_onLive (i := .frameTick true) (f := fun d => d.frameTick true) rfl rfl
  have hsame : d.settle = (strayContext.start.frameTick true).settle := by
    have hnext := hans.symm.trans htick
    injection hnext with hstate
    exact congrArg State.dev hstate
  obtain ⟨hset, hheld⟩ := strayContext_ticks
  rcases (Stands.refl d).settle with hnone | ⟨-, hfrm⟩
  · rw [hsame, hheld] at hnone
    cases hnone
  · rw [hsame] at hfrm
    rw [hfrm, hover] at hset
    cases hset

end Sys2Proof.Machine
end
